-- ==== Sys2Proof/Word.lean ====
section
/-! DEFINITION. Word.lean: the word and byte types of the register pages and memories (R6, R22), with their plainest arithmetic. -/
namespace Sys2Proof

/-- A register word: 32 bits, little-endian (R22). -/
abbrev Word := BitVec 32

/-- A byte of any byte-addressed memory (R6). -/
abbrev Byte := BitVec 8

/-- The largest value of a saturating 32-bit count. -/
abbrev wordMax : Nat := 0xFFFFFFFF

end Sys2Proof
end

