-- ==== Sys2Proof/CommandTypes.lean ====
section
/-! DEFINITION. CommandTypes.lean: the types of the commands' operands (log entry 1 names the conventions). -/
namespace Sys2Proof

/-- The requester of a register access, identified by its port (R24). -/
inductive Port where
  | mgmt | operator | tenant (t : Fin 1024) | sideband | debug | peer (k : Fin 4) | fabric | supervisor (h : Fin 4)
  deriving DecidableEq, Repr

/-- The configuration-space fields of a PCIe function that the device's rules name (R312, R315, R322, R327, R328). -/
inductive CfgField where
  | bme | msixEn | fmask | atsEn | numVfs | vfEnable | ari | tag10 | tagExt
  deriving DecidableEq, Repr

/-- What an access is addressed to: an offset of the register BAR, push BAR or page space of its port (R317 to R319,
R332), a word of a function's MSI-X table (R322), or a configuration-space field (R315, R322, R327). Function indices
are those of the HIF pages: 0 PF0, 1 PF1, 2 + t the VF of tenant t. -/
inductive Target where
  | page (addr : Nat)
  | msix (f : Fin 1026) (vec : Fin 2048) (w : Fin 4)
  | cfg (f : Fin 1026) (fld : CfgField)
  deriving DecidableEq, Repr

/-- One 32-bit register access: port, target, byte enables, length in bytes of the request it opens (R27), data of a
write, and the timing tick at which the page performs it (R25; log entry 2). -/
structure Access where
  port : Port
  target : Target
  be : BitVec 4
  len : Nat
  data : BitVec 32
  t : Nat
  deriving DecidableEq, Repr

/-- An access to the one register a command names: port, byte enables, data and the tick at which it is performed. -/
structure Req where
  port : Port
  be : BitVec 4
  data : BitVec 32
  t : Nat
  deriving DecidableEq, Repr

/-- What sends a flit in a slot (R192, R198, R546): an output of a tile, the ingress adapter of a pipeline, or a CIRCUIT channel of a
Linwald port at the east edge. -/
inductive SendSrc where
  | tile (k : Fin 4096) (dir : Fin 4)
  | adapter (p : Fin 64)
  | circuit (k : Fin 4) (c : Fin 64)
  deriving DecidableEq, Repr

/-- A ring descriptor as its sixteen dwords give it (R346, Table 13.1). -/
structure Desc where
  ctrl : BitVec 32
  inLen : BitVec 32
  inAddr : BitVec 64
  outLen : BitVec 32
  outFlags : BitVec 32
  outAddr : BitVec 64
  admission : BitVec 64
  deadline : BitVec 64
  userTag : BitVec 64
  resv : BitVec 32
  stamp : BitVec 32
  deriving DecidableEq, Repr

/-- A flit (R112): tag bits FIRST, LAST, SWAP, FOLD, sequence number and 32 bytes of payload, byte 0 lowest. -/
structure Flit where
  tag : BitVec 4
  seq : BitVec 12
  data : BitVec 256
  deriving DecidableEq, Repr

/-- How a read of host memory ends (R329, R358): the data, or Unsupported Request, Completer Abort, poisoned data or Completion
Timeout (causes 0 to 3 of CPL_FAIL). -/
inductive ReadEnd (α : Type) where
  | data (x : α)
  | fail (cause : Fin 4)
  deriving DecidableEq, Repr

/-- What a PMBus device answers to one poll (R453): VOUT_MODE, READ_VOUT, READ_IOUT and STATUS_WORD. -/
structure PmbRead where
  mode : BitVec 8
  vout : BitVec 16
  iout : BitVec 16
  status : BitVec 16
  deriving DecidableEq, Repr

/-- The mode of a block RAM (Table 18.3), which its configuration frames set: DUO with words of 1, 2 or 4 lanes of 9 bits, WIDE,
GUARD, or RING with its LENGTH and DELAY. -/
inductive BramMode where
  | duo (lanes : Fin 3)
  | wide
  | guard
  | ring (length delay : Nat)
  deriving DecidableEq, Repr

/-- What a port that writes returns on its own read output (R476). -/
inductive BramOut where
  | prior | fresh | keep
  deriving DecidableEq, Repr

/-- One access at an edge of a block RAM port's clock (R475, R476): mode and output policy as configured, port, write enables by
lane (by 64-bit half in GUARD mode), whether an enabled read takes place, word address, data, and RESTART of RING mode. -/
structure BramAcc where
  mode : BramMode
  policy : BramOut
  port : Fin 2
  we : BitVec 16
  rd : Bool
  addr : Nat
  data : BitVec 144
  restart : Bool
  deriving DecidableEq, Repr

/-- A frame that the client interface gives an Ethernet port to send (R510, R514, R515): its bytes, TS_TAG with a timestamp request,
and TS_OFF with CKSUM_OFF for a one-step frame. -/
structure ClientFrame where
  bytes : List (BitVec 8)
  tsReq : Option (BitVec 8)
  oneStep : Option (Nat × Nat)
  deriving DecidableEq, Repr

/-- An MCTP control message of R518. -/
inductive MctpCtl where
  | setEid (e : BitVec 8) | getEid | getVersion | getTypes
  deriving DecidableEq, Repr

/-- A PLDM request of R520: the reading of a numeric sensor or of a state sensor, or another that firmware answers. -/
inductive PldmReq where
  | numeric (id : Nat) | state (id : Nat) | other
  deriving DecidableEq, Repr

/-- A register-access message of the sideband (R519): its command byte, instance, offset and data bytes, as they arrived. -/
structure SbReg where
  cmd : BitVec 8
  inst : BitVec 8
  addr : BitVec 32
  data : BitVec 32
  len : Nat
  deriving DecidableEq, Repr

/-- A segment of a Linwald flit (Table 20.2): its header and its data. -/
structure LwSeg where
  hdr : BitVec 32
  data : BitVec 256
  deriving DecidableEq, Repr

/-- A Linwald flit (Table 20.1): its fields in order; CR_STREAM as seven words of 24 bits, at most six segments (the places left are
zero), and the CRC as it was received. -/
structure LwFlit where
  fseq : BitVec 8
  ack : BitVec 8
  type : BitVec 8
  state : BitVec 8
  scyc : BitVec 32
  crMw : BitVec 16
  crMr : BitVec 16
  crCtl : BitVec 16
  crStream : List (BitVec 24)
  segs : List LwSeg
  crc : BitVec 32
  deriving DecidableEq, Repr

/-- One item of the scrubber's walk (Table 22.2): frame f of Lath block b; an output or delivery entry of a tile by direction and slot; an
op word of a tile (64 × context + index); a 64-bit word of a tile's Hawk or of its activation tables; a line of a weight-store slice. -/
inductive ScrubItem where
  | lath (b : Fin 64) (f : Fin 1010)
  | out (k : Fin 4096) (dir : Fin 4) (slot : Fin 16)
  | del (k : Fin 4096) (dir : Fin 4) (slot : Fin 16)
  | prog (k : Fin 4096) (w : Fin 512)
  | hawk (k : Fin 4096) (w : Fin 24576)
  | act (k : Fin 4096) (w : Fin 2048)
  | wst (j : Fin 64) (line : Fin 131072)
  deriving DecidableEq, Repr

end Sys2Proof
end

