-- ==== Sys2Proof/Syntax.lean ====
section
/-! DEFINITION. Syntax.lean: the commands of the device, one constructor per row of spec/opcode_table.json, in the table's
order, each with the rule that the table names for it. -/
namespace Sys2Proof

/-- The commands of the device. -/
inductive Instr where
  /-- REGISTER_WRITE (R28). -/
  | registerWrite (a : Access)
  /-- PAIR_LO_READ (R30). -/
  | pairLoRead (a : Access)
  /-- PAIR_LO_WRITE (R31). -/
  | pairLoWrite (a : Access)
  /-- PAIR_HI_WRITE (R31). -/
  | pairHiWrite (a : Access)
  /-- COMMIT_APPLY (R35). -/
  | commitApply (a : Access)
  /-- COMMIT_VALIDATED (R35). -/
  | commitValidated (page t : Nat)
  /-- COMMIT_SAFE_POINT (R36). -/
  | commitSafePoint (page t cyc : Nat)
  /-- COMMIT_DISCARD (R39). -/
  | commitDiscard (a : Access)
  /-- PAGE_PORTS_WRITE (R49). -/
  | pagePortsWrite (a : Access)
  /-- EVT_ENABLE_WRITE (R52). -/
  | evtEnableWrite (a : Access)
  /-- EVT_ROUTE_WRITE (R53). -/
  | evtRouteWrite (a : Access)
  /-- ERR_FIRST_CLEAR (R54). -/
  | errFirstClear (a : Access)
  /-- PGD_RECORD_CLEAR (R64). -/
  | pgdRecordClear (a : Access)
  /-- CLEAR_COUNTS (R127). -/
  | clearCounts (a : Access)
  /-- REF_EDGE (R69). -/
  | refEdge (changes : List (Fin 8 × Bool)) (stamps : List Nat) (t : Nat)
  /-- CHANNEL_COUNT (R73). -/
  | channelCount (c : Fin 8) (t : Nat)
  /-- MAINS_ZERO_CROSS (R80). -/
  | mainsZeroCross (c : Fin 8) (t : Nat)
  /-- MAINS_COUNT_TICK (R80). -/
  | mainsCountTick (c : Fin 8) (t : Nat)
  /-- PTP_VALID_WRITE (R81). -/
  | ptpValidWrite (q : Req)
  /-- RESYNC (R82). -/
  | resync (c : Fin 8) (q : Req)
  /-- STALL (R83). -/
  | stall (c : Fin 8) (t : Nat)
  /-- POST_GO (R85). -/
  | postGo (q : Req) (num : Fin 4096)
  /-- PLB_CANCEL (R88). -/
  | plbCancel (q : Req)
  /-- ENTRY_DUE (R86). -/
  | entryDue (e : Fin 4096) (t : Nat)
  /-- ENTRY_DELIVERY (R87). -/
  | entryDelivery (t : Nat)
  /-- TRIGGER_PULSE_START (R91). -/
  | triggerPulseStart (j : Fin 16) (t : Nat)
  /-- TRIGGER_PULSE_END (R90). -/
  | triggerPulseEnd (j : Fin 16) (t : Nat)
  /-- FIRE_NOW (R94). -/
  | fireNow (q : Req)
  /-- EVQ_HIGHWATER_READ (R26). -/
  | evqHighwaterRead (q : Req)
  /-- ILLEGAL_OP (R154). -/
  | illegalOp (k : Fin 4096) (cyc : Nat)
  /-- OP_NOP (R167). -/
  | opNop (k : Fin 4096) (cyc : Nat)
  /-- OP_END (R168). -/
  | opEnd (k : Fin 4096) (cyc : Nat)
  /-- OP_LOOP (R168). -/
  | opLoop (k : Fin 4096) (cyc : Nat)
  /-- OP_ENDL (R168). -/
  | opEndl (k : Fin 4096) (cyc : Nat)
  /-- OP_FSW (R168). -/
  | opFsw (k : Fin 4096) (cyc : Nat)
  /-- OP_SWAPCHK (R169). -/
  | opSwapchk (k : Fin 4096) (cyc : Nat)
  /-- OP_WAIT (R167). -/
  | opWait (k : Fin 4096) (cyc : Nat)
  /-- OP_TAKE (R170). -/
  | opTake (k : Fin 4096) (cyc : Nat)
  /-- OP_GIVE (R170). -/
  | opGive (k : Fin 4096) (cyc : Nat)
  /-- OP_PASS (R170). -/
  | opPass (k : Fin 4096) (cyc : Nat)
  /-- OP_TAGSET (R170). -/
  | opTagset (k : Fin 4096) (cyc : Nat)
  /-- OP_HLD (R171). -/
  | opHld (k : Fin 4096) (cyc : Nat)
  /-- OP_HST (R172). -/
  | opHst (k : Fin 4096) (cyc : Nat)
  /-- OP_WSR (R173). -/
  | opWsr (k : Fin 4096) (cyc : Nat)
  /-- OP_ROT (R174). -/
  | opRot (k : Fin 4096) (cyc : Nat)
  /-- OP_MACI (R175). -/
  | opMaci (k : Fin 4096) (cyc : Nat)
  /-- OP_MACT (R176). -/
  | opMact (k : Fin 4096) (cyc : Nat)
  /-- OP_MACF (R177). -/
  | opMacf (k : Fin 4096) (cyc : Nat)
  /-- OP_GSUM (R178). -/
  | opGsum (k : Fin 4096) (cyc : Nat)
  /-- OP_ZPC (R179). -/
  | opZpc (k : Fin 4096) (cyc : Nat)
  /-- OP_GSC (R180). -/
  | opGsc (k : Fin 4096) (cyc : Nat)
  /-- OP_RQN (R181). -/
  | opRqn (k : Fin 4096) (cyc : Nat)
  /-- OP_ACT (R182). -/
  | opAct (k : Fin 4096) (cyc : Nat)
  /-- OP_ADDV (R183). -/
  | opAddv (k : Fin 4096) (cyc : Nat)
  /-- OP_MULV (R183). -/
  | opMulv (k : Fin 4096) (cyc : Nat)
  /-- OP_MAXP (R183). -/
  | opMaxp (k : Fin 4096) (cyc : Nat)
  /-- OP_AVGP (R184). -/
  | opAvgp (k : Fin 4096) (cyc : Nat)
  /-- OP_EXPS (R185). -/
  | opExps (k : Fin 4096) (cyc : Nat)
  /-- OP_NRM (R186). -/
  | opNrm (k : Fin 4096) (cyc : Nat)
  /-- OP_SHUF (R187). -/
  | opShuf (k : Fin 4096) (cyc : Nat)
  /-- OP_BEAT_RESULT (R155). -/
  | opBeatResult (k : Fin 4096) (cyc : Nat)
  /-- HAWK_PEEK (R127). -/
  | hawkPeek (k : Fin 4096) (q : Req)
  /-- FLIT_ARRIVAL (R196). -/
  | flitArrival (k : Fin 4096) (dir : Fin 4) (slot : Fin 16) (cyc : Nat)
  /-- SLOT_SEND (R198). -/
  | slotSend (src : SendSrc) (cyc : Nat)
  /-- REDUCE_SEND (R203). -/
  | reduceSend (k : Fin 4096) (dir : Fin 4) (cyc : Nat)
  /-- FLIT_DELIVERY (R197). -/
  | flitDelivery (k : Fin 4096) (dir : Fin 4) (slot : Fin 16) (cyc : Nat)
  /-- STREAM_READ (R206). -/
  | streamRead (j : Fin 64) (cyc : Nat)
  /-- WST_FILL_GO (R208). -/
  | wstFillGo (j : Fin 64) (q : Req)
  /-- WST_FILL_DONE (R208). -/
  | wstFillDone (j : Fin 64) (cyc : Nat)
  /-- TILE_PAGE_ACCESS (R210). -/
  | tilePageAccess (port : Port) (k : Fin 4096) (shares : List (Fin 4096 × Fin 4 × Fin 16)) (cyc : Nat)
  /-- TILE_ACCESS_DONE (R211). -/
  | tileAccessDone (k : Fin 4096) (cyc : Nat)
  /-- STENCIL_LOAD_GO (R216). -/
  | stencilLoadGo (q : Req)
  /-- STENCIL_LOAD_DONE (R217). -/
  | stencilLoadDone (cyc : Nat)
  /-- STENCIL_READ (R218). -/
  | stencilRead (q : Req)
  /-- STENCIL_READ_DONE (R218). -/
  | stencilReadDone (cyc : Nat)
  /-- PIPE_START (R230). -/
  | pipeStart (p : Fin 64) (q : Req)
  /-- PIPE_HOLD (R230). -/
  | pipeHold (p : Fin 64) (q : Req)
  /-- PIPE_RESUME (R230). -/
  | pipeResume (p : Fin 64) (q : Req)
  /-- PIPE_DRAIN (R232). -/
  | pipeDrain (p : Fin 64) (q : Req)
  /-- PIPE_RESET (R240). -/
  | pipeReset (p : Fin 64) (q : Req)
  /-- PIPE_RESET_DONE (R240). -/
  | pipeResetDone (p : Fin 64) (t cyc : Nat)
  /-- DRAINED (R233). -/
  | drained (p : Fin 64) (t cyc : Nat)
  /-- DRAIN_TIMEOUT (R234). -/
  | drainTimeout (p : Fin 64) (t : Nat)
  /-- INGRESS_FRAME (R223). -/
  | ingressFrame (p : Fin 64) (cyc : Nat)
  /-- SWAP_TOKEN (R292). -/
  | swapToken (p : Fin 64) (cyc : Nat)
  /-- RESULT_FRAME_COMPLETE (R249). -/
  | resultFrameComplete (p : Fin 64) (t cyc : Nat)
  /-- TOKEN_CONSUMED (R227). -/
  | tokenConsumed (p : Fin 64) (t cyc : Nat)
  /-- JOB_AT_SCH (R244). -/
  | jobAtSch (g : Fin 65536) (index : BitVec 32) (num : Fin 4096) (t : Nat)
  /-- EVQ_POST_RETRY (R244). -/
  | evqPostRetry (g : Fin 65536) (index : BitVec 32) (num : Fin 4096) (t : Nat)
  /-- ADMISSION_DECISION (R246). -/
  | admissionDecision (p : Fin 64) (t cyc : Nat)
  /-- RESULT_RELEASE (R251). -/
  | resultRelease (e : Fin 4096) (t : Nat)
  /-- RELEASE_WRITES_DONE (R251). -/
  | releaseWritesDone (g : Fin 65536) (index : BitVec 32) (t : Nat)
  /-- HOLD_WINDOW_END (R255). -/
  | holdWindowEnd (p : Fin 64) (t cyc : Nat)
  /-- CLEAR_HOLD (R255). -/
  | clearHold (p : Fin 64) (q : Req)
  /-- LOAD_FULL (R277). -/
  | loadFull (q : Req)
  /-- LOAD_REGION (R278). -/
  | loadRegion (q : Req)
  /-- LOAD_LIBRARY (R279). -/
  | loadLibrary (q : Req)
  /-- LOAD_READ_DONE (R275). -/
  | loadReadDone (r : ReadEnd (List (BitVec 8))) (t : Nat)
  /-- LOAD_CHECK_DONE (R281). -/
  | loadCheckDone (t : Nat)
  /-- LOAD_WRITE_DONE (R276). -/
  | loadWriteDone (fail : Option (Option (Fin 4096) × Fin 512)) (t : Nat)
  /-- LOAD_VERIFY_DONE (R275). -/
  | loadVerifyDone (fail : Option (Option (Fin 4096) × Fin 512)) (t : Nat)
  /-- LOAD_ACTIVATE (R277). -/
  | loadActivate (q : Req)
  /-- LOAD_DISCARD (R277). -/
  | loadDiscard (q : Req)
  /-- LIB_REMOVE (R283). -/
  | libRemove (q : Req)
  /-- LIB_WARM (R289). -/
  | libWarm (q : Req)
  /-- LIB_EVICT (R283). -/
  | libEvict (q : Req)
  /-- FILL_START (R286). -/
  | fillStart (p : Fin 64) (cyc : Nat)
  /-- SLOT_FILL_DONE (R287). -/
  | slotFillDone (p : Fin 64) (slot : Fin 16) (cyc : Nat)
  /-- WARMUP_DONE (R289). -/
  | warmupDone (p : Fin 64) (slot : Fin 16) (cyc : Nat)
  /-- FILL_FAULT (R290). -/
  | fillFault (p : Fin 64) (slot : Fin 16) (a t cyc : Nat)
  /-- TAPE_ENGAGE (R303). -/
  | tapeEngage (r : Fin 64) (q : Req) (cyc : Nat)
  /-- TAPE_ENGAGE_POINT (R303). -/
  | tapeEngagePoint (r : Fin 64) (cyc : Nat)
  /-- TAPE_ENGAGED (R303). -/
  | tapeEngaged (r : Fin 64) (cyc t : Nat)
  /-- TAPE_RELEASE (R303). -/
  | tapeRelease (r : Fin 64) (q : Req) (cyc : Nat)
  /-- TAPE_RELEASE_POINT (R303). -/
  | tapeReleasePoint (r : Fin 64) (cyc : Nat)
  /-- TAPE_RELEASED (R303). -/
  | tapeReleased (r : Fin 64) (cyc t : Nat)
  /-- VF_ENABLE_CLEAR (R315). -/
  | vfEnableClear (t : Nat)
  /-- VF_FLR (R324). -/
  | vfFlr (tn : Fin 1024) (t : Nat)
  /-- VF_FLR_DONE (R324). -/
  | vfFlrDone (tn : Fin 1024) (t : Nat)
  /-- PF_FLR (R325). -/
  | pfFlr (pf : Fin 2) (t : Nat)
  /-- D3HOT (R326). -/
  | d3hot (pf : Fin 2) (t : Nat)
  /-- BUS_MASTER_DISABLE (R327). -/
  | busMasterDisable (f : Fin 1026) (t : Nat)
  /-- ATS_INVALIDATE (R328). -/
  | atsInvalidate (f : Fin 1026) (lo n t : Nat)
  /-- READ_FAILURE (R329). -/
  | readFailure (g : Fin 65536) (index : BitVec 32) (cause : Fin 4) (addr t : Nat)
  /-- MSIX_UNMASK (R322). -/
  | msixUnmask (f : Fin 1026) (v : Fin 2048) (t : Nat)
  /-- SPDM_REQUEST (R331). -/
  | spdmRequest (sb : Bool) (t : Nat)
  /-- PAGEACC (R333). -/
  | pageacc (addr : BitVec 26) (write go : Bool) (data : BitVec 32) (t fin : Nat)
  /-- PORT_OFF (R336). -/
  | portOff (q : Req)
  /-- CLASS_MASK (R337). -/
  | classMask (q : Req)
  /-- CLASS_MASK_DONE (R337). -/
  | classMaskDone (t : Nat)
  /-- TAIL_WRITE (R343). -/
  | tailWrite (g : Fin 65536) (q : Req)
  /-- PUSH_WRITE (R359). -/
  | pushWrite (g : Fin 65536) (port : Port) (off len : Nat) (full : Bool) (words : List (BitVec 32)) (t : Nat)
  /-- CANCEL (R378). -/
  | cancel (g : Fin 65536) (q : Req)
  /-- SERVICE_TURN (R371). -/
  | serviceTurn (t : Nat)
  /-- ENTRY_FETCHED (R350). -/
  | entryFetched (g : Fin 65536) (r : ReadEnd Desc) (t : Nat)
  /-- RUNAHEAD_READ (R364). -/
  | runaheadRead (g : Fin 65536) (index : BitVec 32) (r : ReadEnd Desc) (t : Nat)
  /-- OPEN_CHAIN_TIMEOUT (R356). -/
  | openChainTimeout (g : Fin 65536) (t : Nat)
  /-- HOD_READ_DONE (R409). -/
  | hodReadDone (g : Fin 65536) (index : BitVec 32) (data : List (BitVec 8)) (t : Nat)
  /-- BUFFER_CLAIM (R408). -/
  | bufferClaim (ing : Bool) (cyc : Nat)
  /-- HEAD_PUBLISH (R376). -/
  | headPublish (g : Fin 65536) (t : Nat)
  /-- COALESCE_TIMEOUT (R377). -/
  | coalesceTimeout (g : Fin 65536) (t : Nat)
  /-- QUEUE_RESET (R383). -/
  | queueReset (q : Req)
  /-- QUEUE_RESET_DONE (R383). -/
  | queueResetDone (g : Fin 65536) (t : Nat)
  /-- QUEUE_WDOG (R384). -/
  | queueWdog (g : Fin 65536) (t : Nat)
  /-- SKL_LOAD (R400). -/
  | sklLoad (tn : Fin 1024) (q : Req)
  /-- SKL_REMOVE (R401). -/
  | sklRemove (tn : Fin 1024) (q : Req)
  /-- ADD (R429). -/
  | hartAdd (h : Fin 4) (c : Nat)
  /-- SUB (R429). -/
  | hartSub (h : Fin 4) (c : Nat)
  /-- AND (R429). -/
  | hartAnd (h : Fin 4) (c : Nat)
  /-- OR (R429). -/
  | hartOr (h : Fin 4) (c : Nat)
  /-- XOR (R429). -/
  | hartXor (h : Fin 4) (c : Nat)
  /-- SLL (R429). -/
  | hartSll (h : Fin 4) (c : Nat)
  /-- SRL (R429). -/
  | hartSrl (h : Fin 4) (c : Nat)
  /-- SRA (R429). -/
  | hartSra (h : Fin 4) (c : Nat)
  /-- SLT (R429). -/
  | hartSlt (h : Fin 4) (c : Nat)
  /-- SLTU (R429). -/
  | hartSltu (h : Fin 4) (c : Nat)
  /-- MUL (R429). -/
  | hartMul (h : Fin 4) (c : Nat)
  /-- ADDI (R429). -/
  | hartAddi (h : Fin 4) (c : Nat)
  /-- ANDI (R429). -/
  | hartAndi (h : Fin 4) (c : Nat)
  /-- ORI (R429). -/
  | hartOri (h : Fin 4) (c : Nat)
  /-- XORI (R429). -/
  | hartXori (h : Fin 4) (c : Nat)
  /-- SLLI (R429). -/
  | hartSlli (h : Fin 4) (c : Nat)
  /-- SRLI (R429). -/
  | hartSrli (h : Fin 4) (c : Nat)
  /-- SRAI (R429). -/
  | hartSrai (h : Fin 4) (c : Nat)
  /-- LUI (R429). -/
  | hartLui (h : Fin 4) (c : Nat)
  /-- LW (R422). -/
  | hartLw (h : Fin 4) (c : Nat)
  /-- LBU (R422). -/
  | hartLbu (h : Fin 4) (c : Nat)
  /-- SW (R422). -/
  | hartSw (h : Fin 4) (c : Nat)
  /-- SB (R422). -/
  | hartSb (h : Fin 4) (c : Nat)
  /-- STORE_PERFORMED (R422). -/
  | storePerformed (c : Nat)
  /-- SWO (R423). -/
  | hartSwo (h : Fin 4) (c : Nat)
  /-- AMOSWAP (R423). -/
  | hartAmoswap (h : Fin 4) (c : Nat)
  /-- CAS (R423). -/
  | hartCas (h : Fin 4) (c : Nat)
  /-- FENCE (R423). -/
  | hartFence (h : Fin 4) (c : Nat)
  /-- LDD (R425). -/
  | hartLdd (h : Fin 4) (c t : Nat)
  /-- STD (R425). -/
  | hartStd (h : Fin 4) (c t : Nat)
  /-- ARQ (R426). -/
  | hartArq (h : Fin 4) (c : Nat)
  /-- ARQ_COMPLETE (R426). -/
  | arqComplete (h : Fin 4) (r : ReadEnd (BitVec 32)) (t : Nat)
  /-- BEQ (R429). -/
  | hartBeq (h : Fin 4) (c : Nat)
  /-- BNE (R429). -/
  | hartBne (h : Fin 4) (c : Nat)
  /-- BLT (R429). -/
  | hartBlt (h : Fin 4) (c : Nat)
  /-- BGE (R429). -/
  | hartBge (h : Fin 4) (c : Nat)
  /-- BLTU (R429). -/
  | hartBltu (h : Fin 4) (c : Nat)
  /-- BGEU (R429). -/
  | hartBgeu (h : Fin 4) (c : Nat)
  /-- JMP (R429). -/
  | hartJmp (h : Fin 4) (c : Nat)
  /-- LOOP (R431). -/
  | hartLoop (h : Fin 4) (c : Nat)
  /-- ENDLOOP (R431). -/
  | hartEndloop (h : Fin 4) (c : Nat)
  /-- CALL (R432). -/
  | hartCall (h : Fin 4) (c : Nat)
  /-- RET (R432). -/
  | hartRet (h : Fin 4) (c : Nat)
  /-- DISPATCH (R433). -/
  | hartDispatch (h : Fin 4) (c : Nat)
  /-- RDPOS (R434). -/
  | hartRdpos (h : Fin 4) (c t : Nat)
  /-- RDCYC (R434). -/
  | hartRdcyc (h : Fin 4) (c t : Nat)
  /-- DONE (R439). -/
  | hartDone (h : Fin 4) (c : Nat)
  /-- EVENT_POST (R436). -/
  | eventPost (t : Nat)
  /-- EVENT_DISPATCH (R437). -/
  | eventDispatch (c : Nat)
  /-- HANDLER_BUDGET (R439). -/
  | handlerBudget (h : Fin 4) (c : Nat)
  /-- HART_RESTART (R438). -/
  | hartRestart (q : Req)
  /-- SW_EVENT (R441). -/
  | swEvent (q : Req)
  /-- HEARTBEAT (R441). -/
  | heartbeat (q : Req)
  /-- TIMER_PERIOD (R440). -/
  | timerPeriod (k : Fin 4) (t : Nat)
  /-- DOORBELL (R443). -/
  | doorbell (k : Fin 3) (q : Req)
  /-- MB_DONE (R443). -/
  | mbDone (k : Fin 3) (q : Req)
  /-- VCORE_SET_WRITE (R451). -/
  | vcoreSetWrite (q : Req)
  /-- AVS_READBACK (R451). -/
  | avsReadback (mv : Option Nat) (t : Nat)
  /-- PMBUS_POLL (R453). -/
  | pmbusPoll (k : Fin 8) (r : Option PmbRead) (t : Nat)
  /-- DOMAIN_READY (R454). -/
  | domainReady (k : Fin 128) (t : Nat)
  /-- CLIP_SAMPLE (R459). -/
  | clipSample (readings : List (BitVec 16)) (t : Nat)
  /-- STRETCH_RAISE (R460). -/
  | stretchRaise (t cyc : Nat)
  /-- STRETCH_RELAX (R460). -/
  | stretchRelax (t cyc : Nat)
  /-- COMMIT_HOLD (R462). -/
  | commitHold (t cyc : Nat)
  /-- HOLD_END (R462). -/
  | holdEnd (t : Nat)
  /-- CAP_WINDOW (R463). -/
  | capWindow (mean t : Nat)
  /-- SENSOR_UPDATE (R464). -/
  | sensorUpdate (k : Fin 64) (temp : BitVec 16) (t : Nat)
  /-- SENSOR_FAIL (R464). -/
  | sensorFail (k : Fin 64) (selfTest : Bool) (t : Nat)
  /-- THERMAL_TRIP (R466). -/
  | thermalTrip (k : Option (Fin 64)) (t : Nat)
  /-- TRIP_COOLED (R467). -/
  | tripCooled (t : Nat)
  /-- FPLL_LOCK (R480). -/
  | fpllLock (k : Fin 8) (t : Nat)
  /-- PLL_UNLOCK (R480). -/
  | pllUnlock (k : Fin 8) (t : Nat)
  /-- CLOCK_SWITCH_DONE (R482). -/
  | clockSwitchDone (g : Fin 32) (t : Nat)
  /-- STUCK_SWITCH (R482). -/
  | stuckSwitch (g : Fin 32) (t : Nat)
  /-- GCLK_FREQ_WINDOW (R485). -/
  | gclkFreqWindow (g : Fin 32) (khz t : Nat)
  /-- LP_TX_TRANSFER (R488). -/
  | lpTxTransfer (r : Fin 64) (tag : BitVec 4) (data : BitVec 256) (t cyc : Nat)
  /-- LP_RX_TRANSFER (R488). -/
  | lpRxTransfer (r : Fin 64) (t : Nat)
  /-- LRA_ACCESS (R493). -/
  | lraAccess (addr : BitVec 26) (write : Bool) (data : BitVec 32) (t : Nat)
  /-- LRA_ANSWER (R493). -/
  | lraAnswer (t : Nat)
  /-- BRAM_ACCESS (R476). -/
  | bramAccess (b : Fin 64) (j : Fin 30) (a : BramAcc) (t : Nat)
  /-- FRAME_READBACK (R498). -/
  | frameReadback (q : Req)
  /-- VCCO_FAULT (R502). -/
  | vccoFault (b : Fin 12) (mv t : Nat)
  /-- LOCK_LOST (R531). -/
  | lockLost (l : Fin 32) (cdr : Bool) (t : Nat)
  /-- ETH_RX_FRAME (R513). -/
  | ethRxFrame (p : Fin 2) (bytes : List (BitVec 8)) (good full : Bool) (t : Nat)
  /-- ETH_TX_FRAME (R513). -/
  | ethTxFrame (p : Fin 2) (f : Option ClientFrame) (t : Nat)
  /-- ETH_LINK_DOWN (R532). -/
  | ethLinkDown (p : Fin 2) (t : Nat)
  /-- TXTS_POP (R514). -/
  | txtsPop (p : Fin 2) (q : Req)
  /-- PTP_STEP (R512). -/
  | ptpStep (p : Fin 2) (q : Req)
  /-- PTP_SET_GO (R512). -/
  | ptpSetGo (p : Fin 2) (q : Req)
  /-- TX_SLOT_GO (R516). -/
  | txSlotGo (p k : Fin 2) (q : Req)
  /-- SB_MCTP_CONTROL (R518). -/
  | sbMctpControl (m : MctpCtl) (t : Nat)
  /-- SB_PLDM (R520). -/
  | sbPldm (m : PldmReq) (t : Nat)
  /-- SB_REG_ACCESS (R519). -/
  | sbRegAccess (m : SbReg) (t fin : Nat)
  /-- ALIVE_TEST (R523). -/
  | aliveTest (t : Nat)
  /-- ALIVE_FAULT (R523). -/
  | aliveFault (t : Nat)
  /-- ALIVE_CLEAR (R523). -/
  | aliveClear (q : Req)
  /-- OK_REQ_WRITE (R525). -/
  | okReqWrite (q : Req)
  /-- LW_LANES_LOCKED (R535). -/
  | lwLanesLocked (k : Fin 4) (t cyc : Nat)
  /-- LW_RATE_TIMEOUT (R535). -/
  | lwRateTimeout (k : Fin 4) (t : Nat)
  /-- LW_INIT_RECEIVED (R535). -/
  | lwInitReceived (k : Fin 4) (f : LwFlit) (overlap : Bool) (version code : Nat) (both : Bool) (t cyc : Nat)
  /-- LW_FLIT_RECEIVED (R538). -/
  | lwFlitReceived (k : Fin 4) (f : LwFlit) (overlap : Bool) (t cyc : Nat)
  /-- LW_RETRY_REQ (R538). -/
  | lwRetryReq (k : Fin 4) (f : LwFlit) (overlap : Bool) (last t cyc : Nat)
  /-- LW_FLIT_CLOSE (R538). -/
  | lwFlitClose (k : Fin 4) (t cyc : Nat)
  /-- LW_SILENCE (R543). -/
  | lwSilence (k : Fin 4) (t : Nat)
  /-- LW_LANE_LOSS (R543). -/
  | lwLaneLoss (k : Fin 4) (t : Nat)
  /-- LW_REF_WINDOW (R548). -/
  | lwRefWindow (k : Fin 4) (within : Bool) (t : Nat)
  /-- LW_ACK_TIMEOUT (R551). -/
  | lwAckTimeout (k : Fin 4) (c : Fin 64) (t : Nat)
  /-- COPY_GO (R553). -/
  | copyGo (k : Fin 4) (q : Req)
  /-- COPY_DONE (R553). -/
  | copyDone (k : Fin 4) (t : Nat)
  /-- RREG_GO (R554). -/
  | rregGo (k : Fin 4) (q : Req)
  /-- RREG_RESP (R554). -/
  | rregResp (k : Fin 4) (t : Nat)
  /-- POWER_ON_RESET (R558). -/
  | powerOnReset (vaon vaux : Bool) (t : Nat)
  /-- AON_START (R561). -/
  | aonStart (host i3c : Bool) (sbAddr : Fin 4) (t : Nat)
  /-- CORE_RESET_RELEASE (R558). -/
  | coreResetRelease (t : Nat)
  /-- BROWN_OUT (R558). -/
  | brownOut (t : Nat)
  /-- SYS_RESET_N (R573). -/
  | sysResetN (t : Nat)
  /-- PERST_N_ASSERT (R575). -/
  | perstNAssert (t : Nat)
  /-- PERST_N_DEASSERT (R569). -/
  | perstNDeassert (t : Nat)
  /-- PCIE_LINK_UP (R560). -/
  | pcieLinkUp (speed : Fin 6) (width : Fin 17) (t : Nat)
  /-- REFCLK_LOSS (R626). -/
  | refclkLoss (t : Nat)
  /-- DEV_RESET (R574). -/
  | devReset (q : Req)
  /-- DEVICE_RESET_DONE (R574). -/
  | deviceResetDone (t : Nat)
  /-- ROM_IMAGE_READ (R564). -/
  | romImageRead (r : Option (List (BitVec 8))) (t : Nat)
  /-- FW_GO (R565). -/
  | fwGo (q : Req)
  /-- CFG_READY_WRITE (R570). -/
  | cfgReadyWrite (q : Req)
  /-- CFG_READY_FORCED (R570). -/
  | cfgReadyForced (t : Nat)
  /-- NO_HOST (R560). -/
  | noHost (q : Req)
  /-- HBM_TRAINED (R571). -/
  | hbmTrained (st : Fin 2) (t : Nat)
  /-- TRAIN_FAIL (R571). -/
  | trainFail (st : Fin 2) (t : Nat)
  /-- RETRAIN (R571). -/
  | retrain (q : Req)
  /-- PIN_BURN (R579). -/
  | pinBurn (q : Req)
  /-- SVN_BURN (R579). -/
  | svnBurn (q : Req)
  /-- BURN_DONE (R579). -/
  | burnDone (t : Nat)
  /-- SCRUB_SCAN (R583). -/
  | scrubScan (x : ScrubItem) (t cyc : Nat)
  /-- GOLDEN_READ_DONE (R586). -/
  | goldenReadDone (x : ScrubItem) (ue : Option Nat) (t cyc : Nat)
  /-- SCRUB_PAUSE (R587). -/
  | scrubPause (p : Fin 64) (t cyc : Nat)
  /-- SCRUB_PAUSE_END (R587). -/
  | scrubPauseEnd (p : Fin 64) (t cyc : Nat)
  /-- SCRUB_PASS_DONE (R584). -/
  | scrubPassDone (t : Nat)
  /-- SND_VOTE (R592). -/
  | sndVote (f0 f1 f2 : BitVec 32) (t : Nat)
  /-- SND_CFG_WRITE (R592). -/
  | sndCfgWrite (q : Req)
  /-- LADDER_RETRY (R603). -/
  | ladderRetry (q : Req)
  /-- LADDER_QUEUE_RESET (R603). -/
  | ladderQueueReset (q : Req)
  /-- LADDER_TENANT_RESET (R603). -/
  | ladderTenantReset (q : Req)
  /-- LADDER_PIPELINE_RESET (R603). -/
  | ladderPipelineReset (q : Req)
  /-- LADDER_DEVICE_RESET (R603). -/
  | ladderDeviceReset (q : Req)
  /-- LADDER_CLEAR (R603). -/
  | ladderClear (q : Req)
  /-- LADDER_EXPIRY (R604). -/
  | ladderExpiry (t : Nat)
  /-- SWD_EXPIRY (R605). -/
  | swdExpiry (t : Nat)
  /-- QUEUE_SAMPLE (R609). -/
  | queueSample (p : Fin 64) (t cyc : Nat)
  /-- SAMPLE_INTERVAL_END (R610). -/
  | sampleIntervalEnd (p : Fin 64) (t : Nat)
  /-- TRACE_RECORD_WRITE (R614). -/
  | traceRecordWrite (t : Nat)
  /-- TRACE_MIRROR_WRITE (R614). -/
  | traceMirrorWrite (t : Nat)
  /-- TRACE_RD_WRITE (R615). -/
  | traceRdWrite (q : Req)
  /-- QSEL_WRITE (R619). -/
  | qselWrite (q : Req)
  /-- TSEL_WRITE (R619). -/
  | tselWrite (q : Req)
  /-- TCTL_CLEAR (R618). -/
  | tctlClear (q : Req)
  /-- LOGGED_READ (R46). -/
  | loggedRead (a : Access)
  /-- ILLEGAL_INSTRUCTION (R428). -/
  | illegalInstruction (h : Fin 4) (c : Nat)
  /-- PCIE_LINK_DOWN (R340). -/
  | pcieLinkDown (t : Nat)
  /-- PF_FLR_DONE (R325). -/
  | pfFlrDone (pf : Fin 2) (t : Nat)
  /-- RETURN_TO_D0 (R326). -/
  | returnToD0 (pf : Fin 2) (t : Nat)
  /-- VCCO_GOOD (R502). -/
  | vccoGood (b : Fin 12) (mv t : Nat)
  /-- LANE_LOCKED (R531). -/
  | laneLocked (l : Fin 32) (t : Nat)
  /-- ETH_LINK_UP (R509). -/
  | ethLinkUp (p : Fin 2) (t : Nat)
  /-- LW_IDLE_FLIT (R542). -/
  | lwIdleFlit (k : Fin 4) (t cyc : Nat)
  /-- SB_DYNAMIC_ADDRESS (R517). -/
  | sbDynamicAddress (a : BitVec 7) (t : Nat)
  /-- SB_OTHER_MESSAGE (R518). -/
  | sbOtherMessage (t : Nat)
  deriving DecidableEq, Repr

end Sys2Proof
end

