-- ==== Sys2Proof/Decode.lean ====
section
/-! DEFINITION. Decode.lean: commands spelled by words. No row of the opcode table gives its command any bits, so no word
spells one (the words of the supervisor's instructions are read from the scratchpad by Machine/HartCore.lean). -/
namespace Sys2Proof

/-- The command that a word spells by the table's bits: none. -/
def decodeTableWord (_nbits _w : Nat) : Option Instr := none

end Sys2Proof
end

