-- ==== Sys2Proof/Machine/RegAddr.lean ====
section
/-! DEFINITION. Machine/RegAddr.lean: the PF0 register-BAR offset of every register of the spec's tables (R62 and the table
named beside each); push-window registers stand above the BAR, at 0x0400_0000 + 0x1000 per global queue (the model's own
placement, log entry 6). -/
namespace Sys2Proof.Machine

/-! Table 2.7 -/
abbrev R.pgd_DIR_BASE (n : Nat) : Nat := 0x100 + 0x10 * n
abbrev R.pgd_DIR_INFO (n : Nat) : Nat := 0x104 + 0x10 * n
abbrev R.pgd_DIR_STATE (n : Nat) : Nat := 0x108 + 0x10 * n
abbrev R.pgd_LOST_WRITE_COUNT : Nat := 0x300
abbrev R.pgd_LOST_WRITE_FIRST_ADDR : Nat := 0x304
abbrev R.pgd_LOST_WRITE_FIRST_SRC : Nat := 0x308
abbrev R.pgd_LOST_WRITE_LAST_ADDR : Nat := 0x30C
abbrev R.pgd_LOST_READ_COUNT : Nat := 0x310
abbrev R.pgd_LOST_READ_FIRST_ADDR : Nat := 0x314
abbrev R.pgd_LOST_READ_FIRST_SRC : Nat := 0x318
abbrev R.pgd_LOST_READ_LAST_ADDR : Nat := 0x31C
abbrev R.pgd_DENY_COUNT : Nat := 0x320
abbrev R.pgd_DENY_FIRST_ADDR : Nat := 0x324
abbrev R.pgd_DENY_FIRST_SRC : Nat := 0x328
abbrev R.pgd_DENY_LAST_ADDR : Nat := 0x32C
abbrev R.pgd_BAY_GATED_LO : Nat := 0x330
abbrev R.pgd_BAY_GATED_HI : Nat := 0x334
/-! Table 3.3 -/
abbrev R.plb_REF_CFG (i : Nat) : Nat := 0x10100 + 0x4 * i
abbrev R.plb_REF_STAT (i : Nat) : Nat := 0x10120 + 0x4 * i
abbrev R.plb_REF_EDGES (i : Nat) : Nat := 0x10140 + 0x4 * i
abbrev R.plb_TICK_LO : Nat := 0x10160
abbrev R.plb_TICK_HI : Nat := 0x10164
abbrev R.plb_PTP_CTRL : Nat := 0x10168
/-! Table 3.4 -/
abbrev R.plb_SRC (pg : Nat) : Nat := 0x11100 + 0x1000 * pg
abbrev R.plb_NUM (pg : Nat) : Nat := 0x11104 + 0x1000 * pg
abbrev R.plb_DEN (pg : Nat) : Nat := 0x11108 + 0x1000 * pg
abbrev R.plb_EST (pg : Nat) : Nat := 0x1110C + 0x1000 * pg
abbrev R.plb_STALL_TIMEOUT (pg : Nat) : Nat := 0x11110 + 0x1000 * pg
abbrev R.plb_INDEX_CFG (pg : Nat) : Nat := 0x11114 + 0x1000 * pg
abbrev R.plb_MOD_LO (pg : Nat) : Nat := 0x11118 + 0x1000 * pg
abbrev R.plb_MOD_HI (pg : Nat) : Nat := 0x1111C + 0x1000 * pg
abbrev R.plb_SET_POS_LO (pg : Nat) : Nat := 0x11120 + 0x1000 * pg
abbrev R.plb_SET_POS_HI (pg : Nat) : Nat := 0x11124 + 0x1000 * pg
abbrev R.plb_SET_CTRL (pg : Nat) : Nat := 0x11128 + 0x1000 * pg
abbrev R.plb_POS_LO (pg : Nat) : Nat := 0x11130 + 0x1000 * pg
abbrev R.plb_POS_HI (pg : Nat) : Nat := 0x11134 + 0x1000 * pg
abbrev R.plb_EDGE_POS_LO (pg : Nat) : Nat := 0x11138 + 0x1000 * pg
abbrev R.plb_EDGE_POS_HI (pg : Nat) : Nat := 0x1113C + 0x1000 * pg
abbrev R.plb_EDGE_TICK_LO (pg : Nat) : Nat := 0x11140 + 0x1000 * pg
abbrev R.plb_EDGE_TICK_HI (pg : Nat) : Nat := 0x11144 + 0x1000 * pg
abbrev R.plb_VEL_LO (pg : Nat) : Nat := 0x11148 + 0x1000 * pg
abbrev R.plb_VEL_HI (pg : Nat) : Nat := 0x1114C + 0x1000 * pg
abbrev R.plb_CH_STATE (pg : Nat) : Nat := 0x11150 + 0x1000 * pg
abbrev R.plb_QUAD_ERR_COUNT (pg : Nat) : Nat := 0x11154 + 0x1000 * pg
abbrev R.plb_STALL_COUNT (pg : Nat) : Nat := 0x11158 + 0x1000 * pg
abbrev R.plb_REM (pg : Nat) : Nat := 0x1115C + 0x1000 * pg
abbrev R.plb_INDEX_POS_LO (pg : Nat) : Nat := 0x11160 + 0x1000 * pg
abbrev R.plb_INDEX_POS_HI (pg : Nat) : Nat := 0x11164 + 0x1000 * pg
abbrev R.plb_INDEX_COUNT (pg : Nat) : Nat := 0x11168 + 0x1000 * pg
abbrev R.plb_RESYNC (pg : Nat) : Nat := 0x11170 + 0x1000 * pg
/-! Table 3.5 -/
abbrev R.plb_POST_CTRL : Nat := 0x19100
abbrev R.plb_POST_TAG : Nat := 0x19104
abbrev R.plb_POST_TARGET_LO : Nat := 0x19108
abbrev R.plb_POST_TARGET_HI : Nat := 0x1910C
abbrev R.plb_POST_GO : Nat := 0x19110
abbrev R.plb_POST_RESULT : Nat := 0x19114
abbrev R.plb_CANCEL : Nat := 0x19118
abbrev R.plb_EVQ_USED : Nat := 0x19120
abbrev R.plb_EVQ_HIGHWATER : Nat := 0x19124
abbrev R.plb_EVQ_HIGH_MARK : Nat := 0x19128
abbrev R.plb_EVQ_FULL_COUNT : Nat := 0x1912C
abbrev R.plb_PAST_COUNT : Nat := 0x19130
abbrev R.plb_JUMPED_COUNT : Nat := 0x19134
/-! Table 3.6 -/
abbrev R.plb_TRIG_CFG (j : Nat) : Nat := 0x1A100 + 0x8 * j
abbrev R.plb_TRIG_OFFSET (j : Nat) : Nat := 0x1A104 + 0x8 * j
abbrev R.plb_TRIG_COUNT (j : Nat) : Nat := 0x1A180 + 0x4 * j
abbrev R.plb_FIRE_NOW : Nat := 0x1A1C0
abbrev R.plb_OVERLAP_COUNT : Nat := 0x1A1C4
abbrev R.plb_LATE_COUNT : Nat := 0x1A1C8
abbrev R.plb_SUPPRESSED_COUNT : Nat := 0x1A1CC
/-! Table 4.6 -/
abbrev R.trw_CTRL (pg : Nat) : Nat := 0x1000010 + 0x1000 * pg
abbrev R.trw_TILE_LOC (pg : Nat) : Nat := 0x1000100 + 0x1000 * pg
abbrev R.trw_TILE_STATE (pg : Nat) : Nat := 0x1000104 + 0x1000 * pg
abbrev R.trw_QUEUE_OCC_IN (pg : Nat) : Nat := 0x1000108 + 0x1000 * pg
abbrev R.trw_QUEUE_OCC_OUT (pg : Nat) : Nat := 0x100010C + 0x1000 * pg
abbrev R.trw_CTX_COUNT (pg : Nat) : Nat := 0x1000110 + 0x1000 * pg
abbrev R.trw_HAWK_SLOTS (pg : Nat) : Nat := 0x1000114 + 0x1000 * pg
abbrev R.trw_SLOT_BASE (pg : Nat) : Nat := 0x1000118 + 0x1000 * pg
abbrev R.trw_CTX_HAWK (pg : Nat) (c : Nat) : Nat := 0x1000120 + 0x1000 * pg + 0x4 * c
abbrev R.trw_CTX_ACC (pg : Nat) (c : Nat) : Nat := 0x1000140 + 0x1000 * pg + 0x4 * c
abbrev R.trw_SLOT_ACT (pg : Nat) (s : Nat) : Nat := 0x1000160 + 0x1000 * pg + 0x4 * s
abbrev R.trw_SLOT_SKIM (pg : Nat) (s : Nat) : Nat := 0x10001A0 + 0x1000 * pg + 0x4 * s
abbrev R.trw_FRAME_ORD (pg : Nat) (c : Nat) : Nat := 0x10001E0 + 0x1000 * pg + 0x4 * c
abbrev R.trw_ISSUE_CYCLES_LO (pg : Nat) : Nat := 0x1000200 + 0x1000 * pg
abbrev R.trw_ISSUE_CYCLES_HI (pg : Nat) : Nat := 0x1000204 + 0x1000 * pg
abbrev R.trw_GATED_CYCLES_LO (pg : Nat) : Nat := 0x1000208 + 0x1000 * pg
abbrev R.trw_GATED_CYCLES_HI (pg : Nat) : Nat := 0x100020C + 0x1000 * pg
abbrev R.trw_WAIT_IN_LO (pg : Nat) : Nat := 0x1000210 + 0x1000 * pg
abbrev R.trw_WAIT_IN_HI (pg : Nat) : Nat := 0x1000214 + 0x1000 * pg
abbrev R.trw_WAIT_OUT_LO (pg : Nat) : Nat := 0x1000218 + 0x1000 * pg
abbrev R.trw_WAIT_OUT_HI (pg : Nat) : Nat := 0x100021C + 0x1000 * pg
abbrev R.trw_HAWK_CE_COUNT (pg : Nat) : Nat := 0x1000220 + 0x1000 * pg
abbrev R.trw_MEM_UE_COUNT (pg : Nat) : Nat := 0x1000224 + 0x1000 * pg
abbrev R.trw_PROG_SEL (pg : Nat) : Nat := 0x1000230 + 0x1000 * pg
abbrev R.trw_PROG_WORD_LO (pg : Nat) : Nat := 0x1000234 + 0x1000 * pg
abbrev R.trw_PROG_WORD_HI (pg : Nat) : Nat := 0x1000238 + 0x1000 * pg
abbrev R.trw_PEEK_ADDR (pg : Nat) : Nat := 0x1000240 + 0x1000 * pg
abbrev R.trw_PEEK_STATUS (pg : Nat) : Nat := 0x1000244 + 0x1000 * pg
abbrev R.trw_PEEK_LO (pg : Nat) : Nat := 0x1000248 + 0x1000 * pg
abbrev R.trw_PEEK_HI (pg : Nat) : Nat := 0x100024C + 0x1000 * pg
/-! Table 7.7 -/
abbrev R.scm_CTRL : Nat := 0x80010
abbrev R.scm_SLOT_NOW : Nat := 0x80100
abbrev R.scm_LOAD_CTRL : Nat := 0x80104
abbrev R.scm_LOAD_SRC_LO : Nat := 0x80108
abbrev R.scm_LOAD_SRC_HI : Nat := 0x8010C
abbrev R.scm_LOAD_STATUS : Nat := 0x80110
abbrev R.scm_LOAD_FAIL : Nat := 0x80114
abbrev R.scm_FAST_LO : Nat := 0x80118
abbrev R.scm_FAST_HI : Nat := 0x8011C
abbrev R.scm_ORPHAN_COUNT : Nat := 0x80120
abbrev R.scm_LINK_CE_COUNT : Nat := 0x80124
abbrev R.scm_LINK_UE_COUNT : Nat := 0x80128
abbrev R.scm_MISALIGN_COUNT : Nat := 0x8012C
abbrev R.scm_CTL_ACCESSES : Nat := 0x80130
abbrev R.scm_CTL_MAX_LAT : Nat := 0x80134
abbrev R.scm_SHARE_TAKEN_COUNT : Nat := 0x80138
/-! Table 7.8 -/
abbrev R.scm_ROW_MAP (r : Nat) : Nat := 0x81100 + 0x4 * r
abbrev R.scm_UNUSABLE_BAYS_LO : Nat := 0x81200
abbrev R.scm_UNUSABLE_BAYS_HI : Nat := 0x81204
abbrev R.scm_REMAP_STATE : Nat := 0x81208
abbrev R.scm_STN_SEL : Nat := 0x82100
abbrev R.scm_STN_DATA : Nat := 0x82104
/-! Table 7.9 -/
abbrev R.wst_CTRL (pg : Nat) : Nat := 0x90010 + 0x1000 * pg
abbrev R.wst_SCFG (pg : Nat) (i : Nat) : Nat := 0x90100 + 0x1000 * pg + 0x10 * i
abbrev R.wst_SADDR (pg : Nat) (i : Nat) : Nat := 0x90104 + 0x1000 * pg + 0x10 * i
abbrev R.wst_SLEN (pg : Nat) (i : Nat) : Nat := 0x90108 + 0x1000 * pg + 0x10 * i
abbrev R.wst_SPOS (pg : Nat) (i : Nat) : Nat := 0x9010C + 0x1000 * pg + 0x10 * i
abbrev R.wst_FILL_HBM_LO (pg : Nat) : Nat := 0x90180 + 0x1000 * pg
abbrev R.wst_FILL_HBM_HI (pg : Nat) : Nat := 0x90184 + 0x1000 * pg
abbrev R.wst_FILL_ADDR (pg : Nat) : Nat := 0x90188 + 0x1000 * pg
abbrev R.wst_FILL_LEN (pg : Nat) : Nat := 0x9018C + 0x1000 * pg
abbrev R.wst_FILL_CTRL (pg : Nat) : Nat := 0x90190 + 0x1000 * pg
abbrev R.wst_FILL_STATUS (pg : Nat) : Nat := 0x90194 + 0x1000 * pg
abbrev R.wst_READS_LO (pg : Nat) : Nat := 0x901A0 + 0x1000 * pg
abbrev R.wst_READS_HI (pg : Nat) : Nat := 0x901A4 + 0x1000 * pg
abbrev R.wst_MERGED_LO (pg : Nat) : Nat := 0x901A8 + 0x1000 * pg
abbrev R.wst_MERGED_HI (pg : Nat) : Nat := 0x901AC + 0x1000 * pg
abbrev R.wst_COLLISION_COUNT (pg : Nat) : Nat := 0x901B0 + 0x1000 * pg
abbrev R.wst_CE_COUNT (pg : Nat) : Nat := 0x901B4 + 0x1000 * pg
abbrev R.wst_UE_COUNT (pg : Nat) : Nat := 0x901B8 + 0x1000 * pg
/-! Table 8.6 -/
abbrev R.sch_PIPE_STATE (pg : Nat) : Nat := 0x20100 + 0x1000 * pg
abbrev R.sch_PIPE_CMD (pg : Nat) : Nat := 0x20104 + 0x1000 * pg
abbrev R.sch_REGION (pg : Nat) : Nat := 0x20108 + 0x1000 * pg
abbrev R.sch_ING_CFG (pg : Nat) : Nat := 0x2010C + 0x1000 * pg
abbrev R.sch_EGR_CFG (pg : Nat) : Nat := 0x20110 + 0x1000 * pg
abbrev R.sch_LATENCY (pg : Nat) : Nat := 0x20114 + 0x1000 * pg
abbrev R.sch_MIN_INTERVAL (pg : Nat) : Nat := 0x20118 + 0x1000 * pg
abbrev R.sch_DRAIN_TIMEOUT (pg : Nat) : Nat := 0x2011C + 0x1000 * pg
abbrev R.sch_ING_FRAMES_LO (pg : Nat) : Nat := 0x20120 + 0x1000 * pg
abbrev R.sch_ING_FRAMES_HI (pg : Nat) : Nat := 0x20124 + 0x1000 * pg
abbrev R.sch_EGR_FRAMES_LO (pg : Nat) : Nat := 0x20128 + 0x1000 * pg
abbrev R.sch_EGR_FRAMES_HI (pg : Nat) : Nat := 0x2012C + 0x1000 * pg
abbrev R.sch_FLIGHT (pg : Nat) : Nat := 0x20130 + 0x1000 * pg
abbrev R.sch_ING_TAG_STRIPPED (pg : Nat) : Nat := 0x20134 + 0x1000 * pg
abbrev R.sch_EGR_TRUNC_COUNT (pg : Nat) : Nat := 0x20138 + 0x1000 * pg
abbrev R.sch_FAULT_INFO (pg : Nat) : Nat := 0x2013C + 0x1000 * pg
/-! Table 9.6 -/
abbrev R.sch_SCHED_CFG (pg : Nat) : Nat := 0x20200 + 0x1000 * pg
abbrev R.sch_MARGIN_NS (pg : Nat) : Nat := 0x20204 + 0x1000 * pg
abbrev R.sch_RECOVER_CYC (pg : Nat) : Nat := 0x20208 + 0x1000 * pg
abbrev R.sch_TRIG_MASK (pg : Nat) : Nat := 0x2020C + 0x1000 * pg
abbrev R.sch_SLACK_LOW (pg : Nat) : Nat := 0x20210 + 0x1000 * pg
abbrev R.sch_SCHED_STATE (pg : Nat) : Nat := 0x20214 + 0x1000 * pg
abbrev R.sch_SCHED_CMD (pg : Nat) : Nat := 0x20218 + 0x1000 * pg
abbrev R.sch_ENTRY_BACKLOG (pg : Nat) : Nat := 0x2021C + 0x1000 * pg
abbrev R.sch_ADMITTED_LO (pg : Nat) : Nat := 0x20220 + 0x1000 * pg
abbrev R.sch_ADMITTED_HI (pg : Nat) : Nat := 0x20224 + 0x1000 * pg
abbrev R.sch_RELEASED_LO (pg : Nat) : Nat := 0x20228 + 0x1000 * pg
abbrev R.sch_RELEASED_HI (pg : Nat) : Nat := 0x2022C + 0x1000 * pg
abbrev R.sch_TOO_FAST_COUNT (pg : Nat) : Nat := 0x20230 + 0x1000 * pg
abbrev R.sch_LATE_COUNT (pg : Nat) : Nat := 0x20234 + 0x1000 * pg
abbrev R.sch_DROPPED_COUNT (pg : Nat) : Nat := 0x20238 + 0x1000 * pg
abbrev R.sch_STALLED_REF_COUNT (pg : Nat) : Nat := 0x2023C + 0x1000 * pg
abbrev R.sch_NOPRED_COUNT (pg : Nat) : Nat := 0x20240 + 0x1000 * pg
abbrev R.sch_EVQ_RETRY_COUNT (pg : Nat) : Nat := 0x20244 + 0x1000 * pg
abbrev R.sch_LATE_TRIG_COUNT (pg : Nat) : Nat := 0x20248 + 0x1000 * pg
abbrev R.sch_WINDOW_DEBIT (pg : Nat) : Nat := 0x2024C + 0x1000 * pg
abbrev R.sch_LEDGER_LO (pg : Nat) (k : Nat) : Nat := 0x20250 + 0x1000 * pg + 0x8 * k
abbrev R.sch_LEDGER_HI (pg : Nat) (k : Nat) : Nat := 0x20254 + 0x1000 * pg + 0x8 * k
abbrev R.sch_LAST_FRAME (pg : Nat) : Nat := 0x20290 + 0x1000 * pg
abbrev R.sch_LAST_MARGIN_CYC (pg : Nat) : Nat := 0x20294 + 0x1000 * pg
abbrev R.sch_LAST_MARGIN_PU (pg : Nat) : Nat := 0x20298 + 0x1000 * pg
abbrev R.sch_LAST_STATUS (pg : Nat) : Nat := 0x2029C + 0x1000 * pg
abbrev R.sch_LAST_DEBIT (pg : Nat) (k : Nat) : Nat := 0x202A0 + 0x1000 * pg + 0x4 * k
abbrev R.sch_WORST_MARGIN_CYC (pg : Nat) : Nat := 0x202C0 + 0x1000 * pg
abbrev R.sch_WORST_FRAME (pg : Nat) : Nat := 0x202C4 + 0x1000 * pg
/-! Table 10.10 -/
abbrev R.skm_LOAD_CTRL : Nat := 0x60100
abbrev R.skm_LOAD_SRC_LO : Nat := 0x60104
abbrev R.skm_LOAD_SRC_HI : Nat := 0x60108
abbrev R.skm_LOAD_STATUS : Nat := 0x6010C
abbrev R.skm_LOAD_FAIL : Nat := 0x60110
abbrev R.skm_LOAD_CMD : Nat := 0x60114
abbrev R.skm_RENDER_STATE : Nat := 0x60118
abbrev R.skm_BUILD_ID_LO : Nat := 0x60120
abbrev R.skm_BUILD_ID_HI : Nat := 0x60124
abbrev R.skm_LIB_CMD : Nat := 0x61100
abbrev R.skm_LIB_RESULT : Nat := 0x61104
abbrev R.skm_LIB_SEL : Nat := 0x61108
abbrev R.skm_LIB_ENTRY : Nat := 0x6110C
abbrev R.skm_LIB_HASH_LO : Nat := 0x61110
abbrev R.skm_LIB_HASH_HI : Nat := 0x61114
abbrev R.skm_LIB_BYTES : Nat := 0x61118
abbrev R.skm_LIB_HOT : Nat := 0x6111C
abbrev R.skm_LIB_FREE_UNITS : Nat := 0x61120
abbrev R.skm_LIB_COUNT : Nat := 0x61124
/-! Table 10.11 -/
abbrev R.skm_CTRL : Nat := 0x62010
abbrev R.skm_FILLS : Nat := 0x62100
abbrev R.skm_FILL_PROMOTED : Nat := 0x62104
abbrev R.skm_WARMUPS : Nat := 0x62108
abbrev R.skm_RA_WARMUPS : Nat := 0x6210C
abbrev R.skm_EVICTIONS : Nat := 0x62110
abbrev R.skm_FILL_FAULTS : Nat := 0x62114
abbrev R.skm_FILL_WAIT_MAX : Nat := 0x62118
abbrev R.skm_SLOT (pg : Nat) (p : Nat) (s : Nat) : Nat := 0x63100 + 0x1000 * pg + 0x40 * p + 0x4 * s
abbrev R.skm_HASH_LO (p : Nat) : Nat := 0x65100 + 0x20 * p
abbrev R.skm_HASH_HI (p : Nat) : Nat := 0x65104 + 0x20 * p
abbrev R.skm_FILL_RATE (p : Nat) : Nat := 0x65108 + 0x20 * p
abbrev R.skm_MIN_SLOTS (p : Nat) : Nat := 0x6510C + 0x20 * p
abbrev R.skm_INTRUSION_SUM (p : Nat) : Nat := 0x65110 + 0x20 * p
/-! Table 11.5 -/
abbrev R.dad_CTRL (pg : Nat) : Nat := 0x70010 + 0x1000 * pg
abbrev R.dad_TAPE_CMD (pg : Nat) (r : Nat) : Nat := 0x70100 + 0x1000 * pg + 0x40 * r
abbrev R.dad_TAPE_STATE (pg : Nat) (r : Nat) : Nat := 0x70104 + 0x1000 * pg + 0x40 * r
abbrev R.dad_BORDER_LINKS (pg : Nat) (r : Nat) : Nat := 0x70108 + 0x1000 * pg + 0x40 * r
abbrev R.dad_LATH_NETS (pg : Nat) (r : Nat) : Nat := 0x7010C + 0x1000 * pg + 0x40 * r
abbrev R.dad_TOKENS_SENT (pg : Nat) (r : Nat) : Nat := 0x70110 + 0x1000 * pg + 0x40 * r
abbrev R.dad_SKIM_MISSING_COUNT (pg : Nat) (r : Nat) : Nat := 0x70114 + 0x1000 * pg + 0x40 * r
abbrev R.dad_REWORK_COUNT (pg : Nat) (r : Nat) : Nat := 0x70118 + 0x1000 * pg + 0x40 * r
abbrev R.dad_LAST_ENGAGE_CYC (pg : Nat) (r : Nat) : Nat := 0x7011C + 0x1000 * pg + 0x40 * r
abbrev R.dad_BLOCKED_COUNT (pg : Nat) (r : Nat) : Nat := 0x70120 + 0x1000 * pg + 0x40 * r
abbrev R.dad_SKIM_RECORD (pg : Nat) (r : Nat) : Nat := 0x70124 + 0x1000 * pg + 0x40 * r
/-! Table 12.9 -/
abbrev R.prt_PORT_OFF : Nat := 0x2100
abbrev R.prt_PORT_INFO : Nat := 0x2104
abbrev R.prt_CLASS_MASK : Nat := 0x2108
abbrev R.prt_CLASS_STATUS : Nat := 0x210C
abbrev R.prt_CLASS_WIDEN : Nat := 0x2110
abbrev R.prt_DENY_COUNT (p : Nat) : Nat := 0x2120 + 0x4 * p
abbrev R.prt_CTRL_COUNTS : Nat := 0x2140
abbrev R.prt_TEN_WINDOW : Nat := 0x3100
/-! Table 12.10 -/
abbrev R.hif_LINK_STATUS : Nat := 0x4100
abbrev R.hif_LINK_DOWN_COUNT : Nat := 0x4104
abbrev R.hif_L1_ENTRIES : Nat := 0x4108
abbrev R.hif_PF_STATUS (f : Nat) : Nat := 0x5100 + 0x4 * f
abbrev R.hif_SRIOV : Nat := 0x5108
abbrev R.hif_TAGS : Nat := 0x510C
abbrev R.hif_VF_FLR_BUSY (w : Nat) : Nat := 0x6100 + 0x4 * w
abbrev R.hif_VF_BME (w : Nat) : Nat := 0x6180 + 0x4 * w
abbrev R.hif_CTRL : Nat := 0x7010
abbrev R.hif_MSIX_DROPPED : Nat := 0x7100
abbrev R.hif_BME_DROPPED : Nat := 0x7104
abbrev R.hif_CPL_FAIL_COUNT : Nat := 0x7108
abbrev R.hif_ATS_REQUESTS : Nat := 0x710C
abbrev R.hif_ATS_INVALIDATES : Nat := 0x7110
abbrev R.hif_UR_RECEIVED : Nat := 0x7114
/-! Table 13.7 -/
abbrev R.pw_PUSH (pg : Nat) (j : Nat) (b : Nat) : Nat := 0x4000000 + 0x1000 * pg + 0x40 * j + 0x4 * b
abbrev R.pw_TAIL (pg : Nat) : Nat := 0x4000100 + 0x1000 * pg
abbrev R.pw_HEAD (pg : Nat) : Nat := 0x4000104 + 0x1000 * pg
abbrev R.pw_CANCEL (pg : Nat) : Nat := 0x4000108 + 0x1000 * pg
abbrev R.pw_STATUS (pg : Nat) : Nat := 0x400010C + 0x1000 * pg
abbrev R.pw_RUNAHEAD_DISCARD (pg : Nat) : Nat := 0x4000110 + 0x1000 * pg
abbrev R.pw_TAIL_REJECT_COUNT (pg : Nat) : Nat := 0x4000114 + 0x1000 * pg
abbrev R.pw_PUSH_DISCARD_COUNT (pg : Nat) : Nat := 0x4000118 + 0x1000 * pg
abbrev R.pw_RESTAMP_COUNT (pg : Nat) : Nat := 0x400011C + 0x1000 * pg
/-! Table 14.2 -/
abbrev R.qst_QCTL (g : Nat) : Nat := 0x800000 + 0x40 * g
abbrev R.qst_RING_BASE_LO (g : Nat) : Nat := 0x800004 + 0x40 * g
abbrev R.qst_RING_BASE_HI (g : Nat) : Nat := 0x800008 + 0x40 * g
abbrev R.qst_SERVICE (g : Nat) : Nat := 0x80000C + 0x40 * g
abbrev R.qst_TIMERS (g : Nat) : Nat := 0x800010 + 0x40 * g
abbrev R.qst_MIRROR_LO (g : Nat) : Nat := 0x800014 + 0x40 * g
abbrev R.qst_MIRROR_HI (g : Nat) : Nat := 0x800018 + 0x40 * g
abbrev R.qst_COALESCE (g : Nat) : Nat := 0x80001C + 0x40 * g
abbrev R.qst_HEAD (g : Nat) : Nat := 0x800020 + 0x40 * g
abbrev R.qst_FETCH_IDX (g : Nat) : Nat := 0x800024 + 0x40 * g
abbrev R.qst_QSTATUS (g : Nat) : Nat := 0x800028 + 0x40 * g
abbrev R.qst_QERR (g : Nat) : Nat := 0x80002C + 0x40 * g
abbrev R.qst_QERR_IDX (g : Nat) : Nat := 0x800030 + 0x40 * g
abbrev R.qst_QERR_ADDR_LO (g : Nat) : Nat := 0x800034 + 0x40 * g
abbrev R.qst_QERR_ADDR_HI (g : Nat) : Nat := 0x800038 + 0x40 * g
abbrev R.qst_COMPLETED (g : Nat) : Nat := 0x80003C + 0x40 * g
/-! Table 14.3 -/
abbrev R.qen_CTRL : Nat := 0x100010
abbrev R.qen_TURNS_LO : Nat := 0x100100
abbrev R.qen_TURNS_HI : Nat := 0x100104
abbrev R.qen_CANCEL_REJECTS : Nat := 0x100108
abbrev R.qen_CANCEL_LATE : Nat := 0x10010C
abbrev R.qen_DISCARDED : Nat := 0x100110
abbrev R.qen_WDOG_QUEUE : Nat := 0x100114
abbrev R.qen_COMMIT_QUEUE : Nat := 0x101100
abbrev R.qen_QUEUE_CMD : Nat := 0x101104
abbrev R.qen_QUEUE_CMD_STATUS : Nat := 0x101108
abbrev R.qen_RESET_ABANDONED : Nat := 0x10110C
abbrev R.qen_RESET_OLD_HEAD : Nat := 0x101110
/-! Table 14.4 -/
abbrev R.hod_CTRL (pg : Nat) : Nat := 0x110010 + 0x1000 * pg
abbrev R.hod_HOD_CFG (pg : Nat) : Nat := 0x110100 + 0x1000 * pg
abbrev R.hod_READS_OUT (pg : Nat) : Nat := 0x110104 + 0x1000 * pg
abbrev R.hod_BYTES_IN_LO (pg : Nat) : Nat := 0x110108 + 0x1000 * pg
abbrev R.hod_BYTES_IN_HI (pg : Nat) : Nat := 0x11010C + 0x1000 * pg
abbrev R.hod_BYTES_OUT_LO (pg : Nat) : Nat := 0x110110 + 0x1000 * pg
abbrev R.hod_BYTES_OUT_HI (pg : Nat) : Nat := 0x110114 + 0x1000 * pg
abbrev R.hod_JOBS_STAGED (pg : Nat) : Nat := 0x110118 + 0x1000 * pg
abbrev R.hod_READ_FAILS (pg : Nat) : Nat := 0x11011C + 0x1000 * pg
/-! Table 14.5 -/
abbrev R.jtk_CTRL : Nat := 0x120010
abbrev R.jtk_USED : Nat := 0x120100
abbrev R.jtk_HIGH : Nat := 0x120104
abbrev R.jtk_SUPPRESSED : Nat := 0x120108
abbrev R.jtk_FULL_TURNS : Nat := 0x12010C
/-! Table 15.5 -/
abbrev R.ten_CTRL (pg : Nat) : Nat := 0x400010 + 0x1000 * pg
abbrev R.ten_WBASE_LO (pg : Nat) (w : Nat) : Nat := 0x400100 + 0x1000 * pg + 0x20 * w
abbrev R.ten_WBASE_HI (pg : Nat) (w : Nat) : Nat := 0x400104 + 0x1000 * pg + 0x20 * w
abbrev R.ten_HOST_LO (pg : Nat) (w : Nat) : Nat := 0x400108 + 0x1000 * pg + 0x20 * w
abbrev R.ten_HOST_HI (pg : Nat) (w : Nat) : Nat := 0x40010C + 0x1000 * pg + 0x20 * w
abbrev R.ten_SIZE (pg : Nat) (w : Nat) : Nat := 0x400110 + 0x1000 * pg + 0x20 * w
abbrev R.ten_PERM (pg : Nat) (w : Nat) : Nat := 0x400114 + 0x1000 * pg + 0x20 * w
abbrev R.ten_TEN_CFG (pg : Nat) : Nat := 0x400300 + 0x1000 * pg
abbrev R.ten_JOBS_QUOTA (pg : Nat) : Nat := 0x400304 + 0x1000 * pg
abbrev R.ten_SKIM_QUOTA (pg : Nat) : Nat := 0x400308 + 0x1000 * pg
abbrev R.ten_BUF_MIN (pg : Nat) : Nat := 0x40030C + 0x1000 * pg
abbrev R.ten_JOBS_NOW (pg : Nat) : Nat := 0x400310 + 0x1000 * pg
abbrev R.ten_SKIM_UNITS (pg : Nat) : Nat := 0x400314 + 0x1000 * pg
abbrev R.ten_BUF_HELD (pg : Nat) : Nat := 0x400318 + 0x1000 * pg
abbrev R.ten_WINDOW_FAULTS (pg : Nat) : Nat := 0x400320 + 0x1000 * pg
abbrev R.ten_QUOTA_TURNS (pg : Nat) : Nat := 0x400324 + 0x1000 * pg
abbrev R.ten_SKL_SRC_LO (pg : Nat) : Nat := 0x400340 + 0x1000 * pg
abbrev R.ten_SKL_SRC_HI (pg : Nat) : Nat := 0x400344 + 0x1000 * pg
abbrev R.ten_SKL_CMD (pg : Nat) : Nat := 0x400348 + 0x1000 * pg
abbrev R.ten_SKL_STATUS (pg : Nat) : Nat := 0x40034C + 0x1000 * pg
abbrev R.ten_SKL_LEN (pg : Nat) : Nat := 0x400350 + 0x1000 * pg
/-! Table 15.6 -/
abbrev R.hbm_IMAGE_SIZE : Nat := 0xD0100
abbrev R.hbm_LIBRARY_SIZE : Nat := 0xD0104
abbrev R.hbm_TRACE_SIZE : Nat := 0xD0108
abbrev R.hbm_AREA_BASE (a : Nat) : Nat := 0xD0110 + 0x4 * a
abbrev R.hbm_STACKS : Nat := 0xD0130
abbrev R.hbm_FILL_RESERVED : Nat := 0xD0134
abbrev R.hbm_CE_LO : Nat := 0xD0140
abbrev R.hbm_CE_HI : Nat := 0xD0144
abbrev R.hbm_UE_COUNT : Nat := 0xD0148
abbrev R.hbm_UE_ADDR_LO : Nat := 0xD014C
abbrev R.hbm_UE_ADDR_HI : Nat := 0xD0150
abbrev R.hbm_PIPE_MIN (p : Nat) : Nat := 0xD1100 + 0x4 * p
abbrev R.hbm_PIPE_HELD (p : Nat) : Nat := 0xD1200 + 0x4 * p
abbrev R.hbm_FREE_SHARED : Nat := 0xD1300
abbrev R.hbm_POINTERS : Nat := 0xD1308
abbrev R.hbm_CTRL : Nat := 0xD2010
abbrev R.hbm_ING_CONTENTION (p : Nat) : Nat := 0xD2100 + 0x8 * p
abbrev R.hbm_EGR_CONTENTION (p : Nat) : Nat := 0xD2104 + 0x8 * p
abbrev R.hbm_EGR_WAIT (p : Nat) : Nat := 0xD2300 + 0x4 * p
abbrev R.hbm_CH_CE (pg : Nat) (j : Nat) : Nat := 0xE0100 + 0x1000 * pg + 0x10 * j
abbrev R.hbm_CH_UE (pg : Nat) (j : Nat) : Nat := 0xE0104 + 0x1000 * pg + 0x10 * j
abbrev R.hbm_ONDIE_COUNT (pg : Nat) (j : Nat) : Nat := 0xE0108 + 0x1000 * pg + 0x10 * j
/-! Table 16.11 -/
abbrev R.sup_CTRL : Nat := 0xA010
abbrev R.sup_HART_STATE (h : Nat) : Nat := 0xA100 + 0x4 * h
abbrev R.sup_HART_FCODE (h : Nat) : Nat := 0xA110 + 0x4 * h
abbrev R.sup_HART_FPC (h : Nat) : Nat := 0xA120 + 0x4 * h
abbrev R.sup_HART_FADDR (h : Nat) : Nat := 0xA130 + 0x4 * h
abbrev R.sup_HART_CMD : Nat := 0xA140
abbrev R.sup_EVQ_USED : Nat := 0xA144
abbrev R.sup_EVQ_HIGH : Nat := 0xA148
abbrev R.sup_EVQ_HELD_COUNT : Nat := 0xA14C
abbrev R.sup_EVQ_DISCARD : Nat := 0xA150
abbrev R.sup_SW_EVENT : Nat := 0xA154
abbrev R.sup_SW_VALUE : Nat := 0xA158
abbrev R.sup_HEARTBEAT : Nat := 0xA160
abbrev R.sup_HB_COUNT : Nat := 0xA164
abbrev R.sup_TMR_PERIOD (k : Nat) : Nat := 0xA170 + 0x8 * k
abbrev R.sup_TMR_SLOT (k : Nat) : Nat := 0xA174 + 0x8 * k
abbrev R.sup_TMR_MERGED : Nat := 0xA190
abbrev R.sup_CODE_LIMIT : Nat := 0xA194
abbrev R.sup_FAULT_SLOT : Nat := 0xA198
abbrev R.sup_HOSTWIN_BASE_LO : Nat := 0xA19C
abbrev R.sup_HOSTWIN_BASE_HI : Nat := 0xA1A0
abbrev R.sup_HOSTWIN_EN : Nat := 0xA1A4
abbrev R.sup_SP_CE_COUNT : Nat := 0xA1A8
abbrev R.sup_SP_UE_COUNT : Nat := 0xA1AC
abbrev R.sup_CYC_LO : Nat := 0xA1B0
abbrev R.sup_CYC_HI : Nat := 0xA1B4
abbrev R.sup_HS_ENTRY (n : Nat) : Nat := 0xB100 + 0x10 * n
abbrev R.sup_HS_BUDGET (n : Nat) : Nat := 0xB104 + 0x10 * n
abbrev R.sup_HS_CFG (n : Nat) : Nat := 0xB108 + 0x10 * n
abbrev R.sup_HS_MAXUSED (n : Nat) : Nat := 0xB10C + 0x10 * n
abbrev R.sup_MB_REQ (k : Nat) (i : Nat) : Nat := 0xB600 + 0x100 * k + 0x4 * i
abbrev R.sup_MB_RESP (k : Nat) (i : Nat) : Nat := 0xB640 + 0x100 * k + 0x4 * i
abbrev R.sup_DOORBELL (k : Nat) : Nat := 0xB680 + 0x100 * k
abbrev R.sup_MB_STATUS (k : Nat) : Nat := 0xB684 + 0x100 * k
abbrev R.sup_MB_DONE (k : Nat) : Nat := 0xB688 + 0x100 * k
abbrev R.sup_MB_SLOT (k : Nat) : Nat := 0xB68C + 0x100 * k
/-! Table 17.5 -/
abbrev R.pow_CTRL : Nat := 0xC010
abbrev R.pow_STAGE_CLK : Nat := 0xC100
abbrev R.pow_VCORE_SET : Nat := 0xC104
abbrev R.pow_PKG_CAP : Nat := 0xC108
abbrev R.pow_CLIP_CFG : Nat := 0xC10C
abbrev R.pow_FIXED_MW : Nat := 0xC110
abbrev R.pow_FUSE_LIMITS : Nat := 0xC114
abbrev R.pow_FUSE_CLIP_CEIL : Nat := 0xC118
abbrev R.pow_FUSE_VF (i : Nat) : Nat := 0xC120 + 0x4 * i
abbrev R.pow_POW_STATUS : Nat := 0xC140
abbrev R.pow_VCORE_NOW : Nat := 0xC144
abbrev R.pow_PKG_POWER : Nat := 0xC148
abbrev R.pow_AON_POWER : Nat := 0xC14C
abbrev R.pow_STRETCHED_LO : Nat := 0xC150
abbrev R.pow_STRETCHED_HI : Nat := 0xC154
abbrev R.pow_STRETCH_SUM_LO : Nat := 0xC158
abbrev R.pow_STRETCH_SUM_HI : Nat := 0xC15C
abbrev R.pow_CLIP_EVENTS : Nat := 0xC160
abbrev R.pow_CLIP_AT_LIMIT : Nat := 0xC164
abbrev R.pow_PAUSES : Nat := 0xC168
abbrev R.pow_PMB_DEV (k : Nat) : Nat := 0xC170 + 0x4 * k
abbrev R.pow_PMB_P (k : Nat) : Nat := 0xC190 + 0x4 * k
abbrev R.pow_CLIP_LIMIT (g : Nat) : Nat := 0xD100 + 0x4 * g
abbrev R.pow_GROUP_I (g : Nat) : Nat := 0xD140 + 0x4 * g
abbrev R.pow_GROUP_OVER (g : Nat) : Nat := 0xD180 + 0x4 * g
abbrev R.pow_BAY_PWR_LO : Nat := 0xD1C0
abbrev R.pow_BAY_PWR_HI : Nat := 0xD1C4
abbrev R.pow_SLICE_PWR_LO : Nat := 0xD1C8
abbrev R.pow_SLICE_PWR_HI : Nat := 0xD1CC
abbrev R.pow_BAY_ON_LO : Nat := 0xD1D0
abbrev R.pow_BAY_ON_HI : Nat := 0xD1D4
abbrev R.pow_SLICE_ON_LO : Nat := 0xD1D8
abbrev R.pow_SLICE_ON_HI : Nat := 0xD1DC
abbrev R.pow_BAY_TRIM (b : Nat) : Nat := 0xD200 + 0x4 * b
/-! Table 17.6 -/
abbrev R.thm_SENSOR (k : Nat) : Nat := 0xE100 + 0x4 * k
abbrev R.thm_TMAX : Nat := 0xE200
abbrev R.thm_TRIP_STATUS : Nat := 0xE204
abbrev R.thm_TRIP_TEMP : Nat := 0xE208
abbrev R.thm_THR (i : Nat) : Nat := 0xE210 + 0x8 * i
abbrev R.thm_THR_COUNT (i : Nat) : Nat := 0xE214 + 0x8 * i
abbrev R.thm_THR_ACTIVE : Nat := 0xE230
abbrev R.thm_FAILED_COUNT : Nat := 0xE234
abbrev R.thm_FUSE_TRIP : Nat := 0xE238
/-! Table 18.7 -/
abbrev R.lth_CTRL : Nat := 0xF8010
abbrev R.lth_LTH_STATE : Nat := 0xF8100
abbrev R.lth_LRA_CLK : Nat := 0xF8104
abbrev R.lth_OWNER (w : Nat) : Nat := 0xF8110 + 0x4 * w
abbrev R.lth_LRA_ACCESSES : Nat := 0xF8150
abbrev R.lth_LRA_DENIED : Nat := 0xF8154
abbrev R.lth_BLOCK_STATE (b : Nat) : Nat := 0xF9100 + 0x4 * b
abbrev R.lth_CFG_CE (b : Nat) : Nat := 0xF9200 + 0x4 * b
abbrev R.lth_CFG_UE (b : Nat) : Nat := 0xF9300 + 0x4 * b
abbrev R.lth_BRAM_CE (b : Nat) : Nat := 0xF9400 + 0x4 * b
abbrev R.lth_BRAM_UE (b : Nat) : Nat := 0xF9500 + 0x4 * b
abbrev R.lth_RB_FAR : Nat := 0xFA100
abbrev R.lth_RB_GO : Nat := 0xFA104
abbrev R.lth_RB_STATUS : Nat := 0xFA108
abbrev R.lth_RB_CRC : Nat := 0xFA10C
abbrev R.lth_RB_DATA (i : Nat) : Nat := 0xFA800 + 0x4 * i
abbrev R.lth_LPORT_CFG (r : Nat) : Nat := 0xFB100 + 0x4 * r
abbrev R.lth_LPORT_STAT (r : Nat) : Nat := 0xFB200 + 0x4 * r
abbrev R.lth_LP_RX_WAIT (r : Nat) : Nat := 0xFB300 + 0x4 * r
abbrev R.lth_LP_FLUSHED (r : Nat) : Nat := 0xFB400 + 0x4 * r
/-! Table 18.8 -/
abbrev R.clk_PLL_CFG (k : Nat) : Nat := 0x200C100 + 0x8 * k
abbrev R.clk_PLL_ODIV (k : Nat) : Nat := 0x200C104 + 0x8 * k
abbrev R.clk_PLL_LOCKED : Nat := 0x200C180
abbrev R.clk_GCLK_CFG (g : Nat) : Nat := 0x200D100 + 0x4 * g
abbrev R.clk_GCLK_FREQ (g : Nat) : Nat := 0x200D200 + 0x4 * g
abbrev R.clk_GCLK_STOPPED : Nat := 0x200D300
abbrev R.clk_SWITCHING : Nat := 0x200D304
abbrev R.clk_RCLK_CFG (c : Nat) (i : Nat) : Nat := 0x200E100 + 0x20 * c + 0x4 * i
abbrev R.clk_RRST_CFG (c : Nat) (i : Nat) : Nat := 0x200E300 + 0x20 * c + 0x4 * i
abbrev R.clk_CTRL : Nat := 0x200F010
abbrev R.clk_PLL_UNLOCKS (k : Nat) : Nat := 0x200F100 + 0x4 * k
abbrev R.clk_STUCK_SWITCHES : Nat := 0x200F120
abbrev R.clk_OVERFREQS : Nat := 0x200F124
/-! Table 19.7 -/
abbrev R.iob_IO_CFG (pg : Nat) (p : Nat) : Nat := 0x2000100 + 0x1000 * pg + 0x4 * p
abbrev R.iob_BANK_CFG (pg : Nat) : Nat := 0x20001C0 + 0x1000 * pg
abbrev R.iob_BANK_STAT (pg : Nat) : Nat := 0x20001C4 + 0x1000 * pg
abbrev R.iob_ALIVE_CFG : Nat := 0x2000800
abbrev R.iob_HB_WINDOW : Nat := 0x2000804
abbrev R.iob_ALIVE_STATUS : Nat := 0x2000808
abbrev R.iob_ALIVE_CLEAR : Nat := 0x200080C
abbrev R.iob_OK_REQ : Nat := 0x2000810
abbrev R.iob_PRESENCE_STATUS : Nat := 0x2000814
abbrev R.iob_ALIVE_STOPS : Nat := 0x2000818
abbrev R.iob_SB_STATUS : Nat := 0x2000900
abbrev R.iob_SB_DROPPED : Nat := 0x2000904
abbrev R.iob_SB_ACCESSES : Nat := 0x2000908
/-! Table 19.8 -/
abbrev R.xcv_CTRL (pg : Nat) : Nat := 0x2010010 + 0x1000 * pg
abbrev R.xcv_LANE_CFG (pg : Nat) : Nat := 0x2010100 + 0x1000 * pg
abbrev R.xcv_RATE (pg : Nat) : Nat := 0x2010104 + 0x1000 * pg
abbrev R.xcv_TX_FIR (pg : Nat) : Nat := 0x2010108 + 0x1000 * pg
abbrev R.xcv_PRBS (pg : Nat) : Nat := 0x201010C + 0x1000 * pg
abbrev R.xcv_LANE_STATUS (pg : Nat) : Nat := 0x2010110 + 0x1000 * pg
abbrev R.xcv_CODE_ERR (pg : Nat) : Nat := 0x2010114 + 0x1000 * pg
abbrev R.xcv_PRBS_ERR (pg : Nat) : Nat := 0x2010118 + 0x1000 * pg
abbrev R.xcv_RX_DROPPED (pg : Nat) : Nat := 0x201011C + 0x1000 * pg
/-! Table 19.9 -/
abbrev R.eth_PORT_CFG (pg : Nat) : Nat := 0x2030100 + 0x1000 * pg
abbrev R.eth_PORT_STATUS (pg : Nat) : Nat := 0x2030104 + 0x1000 * pg
abbrev R.eth_RX_FRAMES_LO (pg : Nat) : Nat := 0x2030108 + 0x1000 * pg
abbrev R.eth_RX_FRAMES_HI (pg : Nat) : Nat := 0x203010C + 0x1000 * pg
abbrev R.eth_TX_FRAMES_LO (pg : Nat) : Nat := 0x2030110 + 0x1000 * pg
abbrev R.eth_TX_FRAMES_HI (pg : Nat) : Nat := 0x2030114 + 0x1000 * pg
abbrev R.eth_RX_BAD (pg : Nat) : Nat := 0x2030118 + 0x1000 * pg
abbrev R.eth_RX_OVERFLOW (pg : Nat) : Nat := 0x203011C + 0x1000 * pg
abbrev R.eth_FEC_CORR (pg : Nat) : Nat := 0x2030120 + 0x1000 * pg
abbrev R.eth_FEC_UNCORR (pg : Nat) : Nat := 0x2030124 + 0x1000 * pg
abbrev R.eth_PTP_SEC_LO (p : Nat) : Nat := 0x2032100 + 0x40 * p
abbrev R.eth_PTP_SEC_HI (p : Nat) : Nat := 0x2032104 + 0x40 * p
abbrev R.eth_PTP_NS (p : Nat) : Nat := 0x2032108 + 0x40 * p
abbrev R.eth_PTP_ADJ (p : Nat) : Nat := 0x203210C + 0x40 * p
abbrev R.eth_PTP_STEP_LO (p : Nat) : Nat := 0x2032110 + 0x40 * p
abbrev R.eth_PTP_STEP_HI (p : Nat) : Nat := 0x2032114 + 0x40 * p
abbrev R.eth_PTP_SET_SEC_LO (p : Nat) : Nat := 0x2032118 + 0x40 * p
abbrev R.eth_PTP_SET_SEC_HI (p : Nat) : Nat := 0x203211C + 0x40 * p
abbrev R.eth_PTP_SET_NS (p : Nat) : Nat := 0x2032120 + 0x40 * p
abbrev R.eth_PTP_SET_GO (p : Nat) : Nat := 0x2032124 + 0x40 * p
abbrev R.eth_TXTS_POP (p : Nat) : Nat := 0x2032128 + 0x40 * p
abbrev R.eth_TXTS_SEC (p : Nat) : Nat := 0x203212C + 0x40 * p
abbrev R.eth_TXTS_NS (p : Nat) : Nat := 0x2032130 + 0x40 * p
abbrev R.eth_TXTS_LOST (p : Nat) : Nat := 0x2032134 + 0x40 * p
abbrev R.eth_ONESTEP_ERR (p : Nat) : Nat := 0x2032138 + 0x40 * p
abbrev R.eth_RX_SLOT_INFO (p : Nat) (s : Nat) : Nat := 0x2033100 + 0x20 * p + 0x8 * s
abbrev R.eth_RX_SLOT_TS (p : Nat) (s : Nat) : Nat := 0x2033104 + 0x20 * p + 0x8 * s
abbrev R.eth_RX_SLOT_FULL (p : Nat) : Nat := 0x2033140 + 0x4 * p
abbrev R.eth_PTP_RX_LOST (p : Nat) : Nat := 0x2033148 + 0x4 * p
abbrev R.eth_TX_SLOT_CTRL (p : Nat) (s : Nat) : Nat := 0x2033180 + 0x10 * p + 0x8 * s
abbrev R.eth_TX_SLOT_OPT (p : Nat) (s : Nat) : Nat := 0x2033184 + 0x10 * p + 0x8 * s
abbrev R.eth_TX_SLOT_DONE : Nat := 0x20331A0
abbrev R.eth_RX_SLOT_DATA (p : Nat) (s : Nat) (b : Nat) : Nat := 0x2033400 + 0x400 * p + 0x100 * s + 0x4 * b
abbrev R.eth_TX_SLOT_DATA (p : Nat) (s : Nat) (b : Nat) : Nat := 0x2033C00 + 0x200 * p + 0x100 * s + 0x4 * b
/-! Table 20.6 -/
abbrev R.lwl_CTRL (pg : Nat) : Nat := 0x2038010 + 0x1000 * pg
abbrev R.lwl_PORT_CFG (pg : Nat) : Nat := 0x2038100 + 0x1000 * pg
abbrev R.lwl_PORT_STATUS (pg : Nat) : Nat := 0x2038104 + 0x1000 * pg
abbrev R.lwl_RESV (pg : Nat) : Nat := 0x2038108 + 0x1000 * pg
abbrev R.lwl_LAT_MEAS (pg : Nat) : Nat := 0x203810C + 0x1000 * pg
abbrev R.lwl_REPLAYS (pg : Nat) : Nat := 0x2038110 + 0x1000 * pg
abbrev R.lwl_RETRY_LIMIT (pg : Nat) : Nat := 0x2038114 + 0x1000 * pg
abbrev R.lwl_LINK_DOWNS (pg : Nat) : Nat := 0x2038118 + 0x1000 * pg
abbrev R.lwl_CRC_ERR (pg : Nat) : Nat := 0x203811C + 0x1000 * pg
abbrev R.lwl_FEC_CORR (pg : Nat) : Nat := 0x2038120 + 0x1000 * pg
abbrev R.lwl_FEC_UNCORR (pg : Nat) : Nat := 0x2038124 + 0x1000 * pg
abbrev R.lwl_FRAME_NACKS (pg : Nat) : Nat := 0x2038128 + 0x1000 * pg
abbrev R.lwl_PEER_TX_WAIT (pg : Nat) : Nat := 0x203812C + 0x1000 * pg
abbrev R.lwl_RX_DISCARD (pg : Nat) : Nat := 0x2038130 + 0x1000 * pg
abbrev R.lwl_RX_FLUSHED (pg : Nat) : Nat := 0x2038134 + 0x1000 * pg
abbrev R.lwl_COPY_LOCAL_LO (pg : Nat) : Nat := 0x2038140 + 0x1000 * pg
abbrev R.lwl_COPY_LOCAL_HI (pg : Nat) : Nat := 0x2038144 + 0x1000 * pg
abbrev R.lwl_COPY_REMOTE_LO (pg : Nat) : Nat := 0x2038148 + 0x1000 * pg
abbrev R.lwl_COPY_REMOTE_HI (pg : Nat) : Nat := 0x203814C + 0x1000 * pg
abbrev R.lwl_COPY_LEN (pg : Nat) : Nat := 0x2038150 + 0x1000 * pg
abbrev R.lwl_COPY_CTRL (pg : Nat) : Nat := 0x2038154 + 0x1000 * pg
abbrev R.lwl_COPY_STATUS (pg : Nat) : Nat := 0x2038158 + 0x1000 * pg
abbrev R.lwl_LAST_NACK (pg : Nat) : Nat := 0x2038160 + 0x1000 * pg
abbrev R.lwl_LAST_NACK_FRAME (pg : Nat) : Nat := 0x2038164 + 0x1000 * pg
abbrev R.lwl_RREG_ADDR (pg : Nat) : Nat := 0x2038170 + 0x1000 * pg
abbrev R.lwl_RREG_DATA (pg : Nat) : Nat := 0x2038174 + 0x1000 * pg
abbrev R.lwl_RREG_CTRL (pg : Nat) : Nat := 0x2038178 + 0x1000 * pg
abbrev R.lwl_RREG_STATUS (pg : Nat) : Nat := 0x203817C + 0x1000 * pg
abbrev R.lwl_CH_CFG (pg : Nat) (c : Nat) : Nat := 0x203C100 + 0x1000 * pg + 0x10 * c
abbrev R.lwl_CH_CFG2 (pg : Nat) (c : Nat) : Nat := 0x203C104 + 0x1000 * pg + 0x10 * c
abbrev R.lwl_CH_STATUS (pg : Nat) (c : Nat) : Nat := 0x203C108 + 0x1000 * pg + 0x10 * c
abbrev R.lwl_CH_FRAMES (pg : Nat) (c : Nat) : Nat := 0x203C10C + 0x1000 * pg + 0x10 * c
/-! Table 21.7 -/
abbrev R.idn_DEVICE_CODE : Nat := 0x1100
abbrev R.idn_REVISION : Nat := 0x1104
abbrev R.idn_GRADE : Nat := 0x1108
abbrev R.idn_PCI_IDS : Nat := 0x110C
abbrev R.idn_SERIAL_LO : Nat := 0x1110
abbrev R.idn_SERIAL_HI : Nat := 0x1114
abbrev R.idn_FUSE_STATE : Nat := 0x1118
abbrev R.idn_PIN_DIGEST (i : Nat) (w : Nat) : Nat := 0x1120 + 0x30 * i + 0x4 * w
abbrev R.idn_BAD_MAP (r : Nat) (j : Nat) : Nat := 0x1200 + 0x10 * r + 0x4 * j
/-! Table 21.8 -/
abbrev R.sec_DEV_STATE : Nat := 0x8100
abbrev R.sec_BOOT_STATUS : Nat := 0x8104
abbrev R.sec_RESET_CAUSE : Nat := 0x8108
abbrev R.sec_RESETS : Nat := 0x810C
abbrev R.sec_DEV_RESET : Nat := 0x8110
abbrev R.sec_READY : Nat := 0x8114
abbrev R.sec_HBM_TRAIN : Nat := 0x8118
abbrev R.sec_FW_DIGEST (w : Nat) : Nat := 0x8120 + 0x4 * w
abbrev R.sec_FW_BUILD_ID_LO : Nat := 0x8150
abbrev R.sec_FW_BUILD_ID_HI : Nat := 0x8154
abbrev R.sec_FW_SVN : Nat := 0x8158
abbrev R.sec_SVN_BURN : Nat := 0x8160
abbrev R.sec_FW_SRC_LO : Nat := 0x9100
abbrev R.sec_FW_SRC_HI : Nat := 0x9104
abbrev R.sec_FW_LEN : Nat := 0x9108
abbrev R.sec_FW_GO : Nat := 0x910C
abbrev R.sec_FW_LOAD_STATUS : Nat := 0x9110
abbrev R.sec_PIN_STAGE (w : Nat) : Nat := 0x9140 + 0x4 * w
abbrev R.sec_PIN_BURN : Nat := 0x9170
abbrev R.sec_PIN_BURN_STATUS : Nat := 0x9174
/-! Table 22.5 -/
abbrev R.snd_CTRL : Nat := 0xF0010
abbrev R.snd_SND_CFG : Nat := 0xF0100
abbrev R.snd_SND_STATUS : Nat := 0xF0104
abbrev R.snd_PROGRESS_SIG : Nat := 0xF0108
abbrev R.snd_PASS_COUNT : Nat := 0xF010C
abbrev R.snd_LAST_PASS_US : Nat := 0xF0110
abbrev R.snd_TMR_FIX_COUNT : Nat := 0xF0114
abbrev R.snd_REWRITES : Nat := 0xF0118
abbrev R.snd_DEFERRED : Nat := 0xF011C
abbrev R.snd_PAUSE_CYCLES : Nat := 0xF0120
abbrev R.snd_GOLDEN_UE_COUNT : Nat := 0xF0124
abbrev R.snd_GOLDEN_BAD_LO : Nat := 0xF0128
abbrev R.snd_GOLDEN_BAD_HI : Nat := 0xF012C
abbrev R.snd_BASE_GOLDEN_BAD : Nat := 0xF0130
abbrev R.snd_CTRL_p1 : Nat := 0xF1010
abbrev R.snd_CE (c : Nat) : Nat := 0xF1100 + 0x8 * c
abbrev R.snd_UE (c : Nat) : Nat := 0xF1104 + 0x8 * c
abbrev R.snd_REGION_PAUSES (r : Nat) : Nat := 0xF1140 + 0x4 * r
/-! Table 22.6 -/
abbrev R.flt_CTRL : Nat := 0xF010
abbrev R.flt_DEV_FAULT : Nat := 0xF100
abbrev R.flt_LADDER_STATE : Nat := 0xF104
abbrev R.flt_LADDER_CMD : Nat := 0xF108
abbrev R.flt_LADDER_RESULT : Nat := 0xF10C
abbrev R.flt_LIMIT (k : Nat) : Nat := 0xF110 + 0x4 * k
abbrev R.flt_SWD_CFG : Nat := 0xF120
abbrev R.flt_SWD_STATE : Nat := 0xF124
abbrev R.flt_ESCALATIONS : Nat := 0xF128
abbrev R.flt_SWD_EXPIRIES : Nat := 0xF12C
abbrev R.flt_AER_CFG : Nat := 0xF130
abbrev R.flt_LOG_SEL : Nat := 0xF140
abbrev R.flt_LOG_HEAD : Nat := 0xF144
abbrev R.flt_LOG_OVERRUN : Nat := 0xF148
abbrev R.flt_LOG_SRC : Nat := 0xF150
abbrev R.flt_LOG_CODE : Nat := 0xF154
abbrev R.flt_LOG_INFO_LO : Nat := 0xF158
abbrev R.flt_LOG_INFO_HI : Nat := 0xF15C
abbrev R.flt_LOG_TICK_LO : Nat := 0xF160
abbrev R.flt_LOG_TICK_HI : Nat := 0xF164
/-! Table 23.3 -/
abbrev R.obs_CTRL : Nat := 0xF2010
abbrev R.obs_TRACE_CTRL : Nat := 0xF2100
abbrev R.obs_TRACE_BASE_LO : Nat := 0xF2104
abbrev R.obs_TRACE_BASE_HI : Nat := 0xF2108
abbrev R.obs_TRACE_MIRROR_LO : Nat := 0xF210C
abbrev R.obs_TRACE_MIRROR_HI : Nat := 0xF2110
abbrev R.obs_TRACE_WR : Nat := 0xF2114
abbrev R.obs_TRACE_RD : Nat := 0xF2118
abbrev R.obs_TRACE_SEQ : Nat := 0xF211C
abbrev R.obs_TRACE_HELD : Nat := 0xF2120
abbrev R.obs_TRACE_LOST : Nat := 0xF2124
abbrev R.obs_SAMPLE_CFG (p : Nat) : Nat := 0xF3100 + 0x8 * p
abbrev R.obs_STAGES (p : Nat) : Nat := 0xF3104 + 0x8 * p
abbrev R.obs_QSEL : Nat := 0xF4100
abbrev R.obs_QCNT (i : Nat) : Nat := 0xF4104 + 0x4 * i
abbrev R.obs_TSEL : Nat := 0xF4120
abbrev R.obs_TCTL : Nat := 0xF4124
abbrev R.obs_TCNT (i : Nat) : Nat := 0xF4140 + 0x4 * i
abbrev R.obs_TBYTES_IN_LO : Nat := 0xF4180
abbrev R.obs_TBYTES_IN_HI : Nat := 0xF4184
abbrev R.obs_TBYTES_OUT_LO : Nat := 0xF4188
abbrev R.obs_TBYTES_OUT_HI : Nat := 0xF418C
abbrev R.obs_TRUNAHEAD_DISCARD : Nat := 0xF4190

end Sys2Proof.Machine
end

