-- ==== Sys2Proof/Config.lean ====
section
/-! DEFINITION. Config.lean: what manufacture fixes (the fuses of chapters 1, 17 and 21) and the free values of the model:
constants with no body, so that no proof can see what they are (log entries 3 and 4). -/
namespace Sys2Proof

/-- GRADE.SPEED, 7 or 8 (R1, R19, R580). -/
opaque Config.speedGrade : Nat
/-- GRADE.TEMP, 0 E or 1 I (R1, R580). -/
opaque Config.tempGrade : Nat
/-- The unit serial number, low and high word (R580). -/
opaque Config.serialLo : Nat
/-- The unit serial number, high word (R580). -/
opaque Config.serialHi : Nat
/-- Fuse pins programmed at shipment, bit i: pin i (R273, R580). -/
opaque Config.pinProg : Nat
/-- Fuse pins revoked at shipment (R273, R580). -/
opaque Config.pinRevoked : Nat
/-- Word `w` of the digest of pin `i` at shipment (R580). -/
opaque Config.pinDigest : Nat → Nat → Nat
/-- The debug-lock fuse (R333, R580): 1 blown. -/
opaque Config.debugLock : Nat
/-- FUSE_STATE.OWNER_MODE at shipment (R580). -/
opaque Config.ownerMode : Nat
/-- The fused roll-back floor at shipment, 0 to 64 (R564, R580). -/
opaque Config.svnFloor : Nat
/-- Word `j` of the bad-tile map of row `r`: bit k, physical column 32j + k bad (R97, R580). -/
opaque Config.badMap : Nat → Nat → Nat
/-- FMAX, the fused stage-clock maximum in MHz (R458). -/
opaque Config.fmax : Nat
/-- VMAX in mV (R452). -/
opaque Config.vmax : Nat
/-- FUSE_CAP_MAX in W (R463). -/
opaque Config.capMax : Nat
/-- FUSE_SMAX, the largest stretch step (R460). -/
opaque Config.smax : Nat
/-- FUSE_CLIP_CEIL in 1/16 A (R459). -/
opaque Config.clipCeil : Nat
/-- FUSE_VF_i: the floor voltage in mV at 300 + 100i MHz (R452). -/
opaque Config.vfPoint : Nat → Nat
/-- The fused slack of bay b (R452). -/
opaque Config.baySlack : Nat → Nat

/-- The frequency in kHz of XREF_q, which the board supplies (R506). -/
opaque Config.xrefKhz : Nat → Nat
/-- The 8 SECDED check bits of a 64-bit half in GUARD mode (R475), a code the spec does not give. -/
opaque Config.bramCheck : BitVec 64 → BitVec 8
/-- What a GUARD read makes of a half whose check bits do not fit: the corrected data, or none where they are uncorrectable (R477). -/
opaque Config.bramFix : BitVec 64 → BitVec 8 → Option (BitVec 64)

/-- SHA-384 as FIPS 180-4 defines it (R271 to R273), which the spec takes from its standard. -/
opaque Config.sha384 : List Byte → List Byte
/-- Whether an ECDSA P-384 signature (public key, digest, R, S) verifies, as FIPS 186-5 defines it (R272). -/
opaque Config.ecdsaP384 : List Byte → List Byte → List Byte → List Byte → Bool
/-- AES key unwrap of a wrapped key under a key (NIST SP 800-38F, KW; R272, R274); none: it fails. -/
opaque Config.kwUnwrap : List Byte → List Byte → Option (List Byte)
/-- AES-256-GCM decryption: key, IV, additional data, ciphertext with its tag (R274); none: the tag does not fit. -/
opaque Config.gcmOpen : List Byte → List Byte → List Byte → List Byte → Option (List Byte)
/-- The fuse image key (R274), which the spec does not give. -/
opaque Config.imageKey : List Byte

/-- Word `i` of the Primer ROM (Table 16.1), whose contents the spec does not give. -/
opaque Config.romWord : Nat → BitVec 32

/-- What a register whose value the spec leaves to the device's own timing reads: offset and tick (log entry 143). -/
opaque Config.freeRead : Nat → Nat → BitVec 32

/-- A fresh free word: the n-th value the spec leaves open (the counter State.free names n). -/
opaque Config.freeWord : Nat → BitVec 32

end Sys2Proof
end

