-- ==== Sys2Proof/Machine/RegTypes.lean ====
section
/-! DEFINITION. Machine/RegTypes.lean: the types in which the register map is written (R10, R22; Table 0.4). -/
namespace Sys2Proof.Machine

/-- The access types of Table 0.4 (R10), without RSVD: a reserved bit is in no field. -/
inductive Acc where
  | ro | rw | rwc | w1c | w1s | wo
  deriving DecidableEq, Repr

/-- The requesters that a register's own rule admits to a write: any that the page mask admits, MGMT alone, SUPERVISOR
alone, MGMT and SUPERVISOR, or the port bound to a mailbox (R442). -/
inductive Who where
  | any | mgmt | sup | mgmtSup | bound
  deriving DecidableEq, Repr

/-- One field: lowest bit, width, access type, reset value, who may write it, and its range where the table gives one (R61). -/
structure RField where
  lo : Nat
  w : Nat
  acc : Acc
  rst : Nat
  who : Who
  rng : Option (Nat × Nat)
  deriving DecidableEq, Repr

/-- One register of the spec's tables: name, first page and page count within its block, offset in the page, strides with
their counts, its part of a 64-bit pair (0 none, 1 LO, 2 HI; R30) and its fields. -/
structure RegDef where
  name : String
  pg : Nat
  pn : Nat
  off : Nat
  dims : List (Nat × Nat)
  pair : Nat
  fields : List RField
  deriving DecidableEq, Repr

end Sys2Proof.Machine
end

