-- ==== Sys2Proof/Machine/RegMap.lean ====
section
/-! DEFINITION. Machine/RegMap.lean: every register of the spec's register tables (chapters 2 to 23), block by block:
name, pages, offset, strides, LO/HI pair part and fields with access type and reset value, as the tables list them. -/
namespace Sys2Proof.Machine

/-- Registers of block PGD, from the spec's tables. -/
def regs_pgd : List RegDef := [
  ⟨"DIR_BASE_n", 0, 1, 0x100, [(0x10, 31)], 0, [⟨0, 32, .ro, 0, .any, none⟩]⟩,
  ⟨"DIR_INFO_n", 0, 1, 0x104, [(0x10, 31)], 0, [⟨0, 16, .ro, 0, .any, none⟩, ⟨16, 16, .ro, 0, .any, none⟩]⟩,
  ⟨"DIR_STATE_n", 0, 1, 0x108, [(0x10, 31)], 0, [⟨0, 1, .ro, 0, .any, none⟩, ⟨1, 1, .ro, 0, .any, none⟩, ⟨2, 1, .ro, 0, .any, none⟩, ⟨3, 1, .ro, 0, .any, none⟩]⟩,
  ⟨"LOST_WRITE_COUNT", 0, 1, 0x300, [], 0, [⟨0, 32, .ro, 0, .any, none⟩]⟩,
  ⟨"LOST_WRITE_FIRST_ADDR", 0, 1, 0x304, [], 0, [⟨0, 32, .ro, 0, .any, none⟩]⟩,
  ⟨"LOST_WRITE_FIRST_SRC", 0, 1, 0x308, [], 0, [⟨0, 4, .ro, 0, .any, none⟩, ⟨4, 10, .ro, 0, .any, none⟩, ⟨16, 2, .ro, 0, .any, none⟩, ⟨31, 1, .w1c, 0, .any, none⟩]⟩,
  ⟨"LOST_WRITE_LAST_ADDR", 0, 1, 0x30C, [], 0, [⟨0, 32, .ro, 0, .any, none⟩]⟩,
  ⟨"LOST_READ_COUNT", 0, 1, 0x310, [], 0, [⟨0, 32, .ro, 0, .any, none⟩]⟩,
  ⟨"LOST_READ_FIRST_ADDR", 0, 1, 0x314, [], 0, [⟨0, 32, .ro, 0, .any, none⟩]⟩,
  ⟨"LOST_READ_FIRST_SRC", 0, 1, 0x318, [], 0, [⟨0, 4, .ro, 0, .any, none⟩, ⟨4, 10, .ro, 0, .any, none⟩, ⟨16, 2, .ro, 0, .any, none⟩, ⟨31, 1, .w1c, 0, .any, none⟩]⟩,
  ⟨"LOST_READ_LAST_ADDR", 0, 1, 0x31C, [], 0, [⟨0, 32, .ro, 0, .any, none⟩]⟩,
  ⟨"DENY_COUNT", 0, 1, 0x320, [], 0, [⟨0, 32, .ro, 0, .any, none⟩]⟩,
  ⟨"DENY_FIRST_ADDR", 0, 1, 0x324, [], 0, [⟨0, 32, .ro, 0, .any, none⟩]⟩,
  ⟨"DENY_FIRST_SRC", 0, 1, 0x328, [], 0, [⟨0, 4, .ro, 0, .any, none⟩, ⟨4, 10, .ro, 0, .any, none⟩, ⟨16, 2, .ro, 0, .any, none⟩, ⟨30, 1, .ro, 0, .any, none⟩, ⟨31, 1, .w1c, 0, .any, none⟩]⟩,
  ⟨"DENY_LAST_ADDR", 0, 1, 0x32C, [], 0, [⟨0, 32, .ro, 0, .any, none⟩]⟩,
  ⟨"BAY_GATED_LO", 0, 1, 0x330, [], 0, [⟨0, 32, .ro, 0, .any, none⟩]⟩,
  ⟨"BAY_GATED_HI", 0, 1, 0x334, [], 0, [⟨0, 32, .ro, 0, .any, none⟩]⟩]

/-- Registers of block IDN, from the spec's tables. -/
def regs_idn : List RegDef := [
  ⟨"DEVICE_CODE", 0, 1, 0x100, [], 0, [⟨0, 32, .ro, 1083572225, .any, none⟩]⟩,
  ⟨"REVISION", 0, 1, 0x104, [], 0, [⟨0, 4, .ro, 1, .any, none⟩]⟩,
  ⟨"GRADE", 0, 1, 0x108, [], 0, [⟨0, 4, .ro, Config.speedGrade, .any, none⟩, ⟨8, 1, .ro, Config.tempGrade, .any, none⟩]⟩,
  ⟨"PCI_IDS", 0, 1, 0x10C, [], 0, [⟨0, 16, .ro, 7994, .any, none⟩, ⟨16, 16, .ro, 16534, .any, none⟩]⟩,
  ⟨"SERIAL_LO", 0, 1, 0x110, [], 1, [⟨0, 32, .ro, Config.serialLo, .any, none⟩]⟩,
  ⟨"SERIAL_HI", 0, 1, 0x114, [], 2, [⟨0, 32, .ro, Config.serialHi, .any, none⟩]⟩,
  ⟨"FUSE_STATE", 0, 1, 0x118, [], 0, [⟨0, 4, .ro, Config.pinProg, .any, none⟩, ⟨4, 4, .ro, Config.pinRevoked, .any, none⟩, ⟨8, 1, .ro, Config.debugLock, .any, none⟩, ⟨9, 1, .ro, Config.ownerMode, .any, none⟩, ⟨16, 7, .ro, Config.svnFloor, .any, none⟩]⟩,
  ⟨"PIN_DIGEST_i_w", 0, 1, 0x120, [(0x30, 4), (0x4, 12)], 0, [⟨0, 32, .ro, 0, .any, none⟩]⟩,
  ⟨"BAD_MAP_r_j", 0, 1, 0x200, [(0x10, 64), (0x4, 3)], 0, [⟨0, 32, .ro, 0, .any, none⟩]⟩]

/-- Registers of block PRT, from the spec's tables. -/
def regs_prt : List RegDef := [
  ⟨"PORT_OFF", 0, 1, 0x100, [], 0, [⟨1, 6, .w1s, 0, .any, none⟩]⟩,
  ⟨"PORT_INFO", 0, 1, 0x104, [], 0, [⟨0, 1, .ro, Config.debugLock, .any, none⟩, ⟨1, 4, .ro, 0, .any, none⟩, ⟨5, 1, .ro, 0, .any, none⟩, ⟨6, 1, .ro, 0, .any, none⟩]⟩,
  ⟨"CLASS_MASK", 0, 1, 0x108, [], 0, [⟨0, 7, .wo, 0, .any, none⟩, ⟨8, 4, .wo, 0, .any, none⟩, ⟨30, 1, .wo, 0, .any, none⟩, ⟨31, 1, .wo, 0, .any, none⟩]⟩,
  ⟨"CLASS_STATUS", 0, 1, 0x10C, [], 0, [⟨0, 1, .ro, 0, .any, none⟩]⟩,
  ⟨"CLASS_WIDEN", 0, 1, 0x110, [], 0, [⟨0, 32, .ro, 0, .any, none⟩]⟩,
  ⟨"DENY_COUNT_p", 0, 1, 0x120, [(0x4, 7)], 0, [⟨0, 32, .ro, 0, .any, none⟩]⟩,
  ⟨"CTRL_COUNTS", 0, 1, 0x140, [], 0, [⟨0, 1, .w1s, 0, .any, none⟩]⟩,
  ⟨"TEN_WINDOW", 1, 1, 0x100, [], 0, [⟨0, 3, .rw, 0, .any, none⟩]⟩]

/-- Registers of block HIF, from the spec's tables. -/
def regs_hif : List RegDef := [
  ⟨"LINK_STATUS", 0, 1, 0x100, [], 0, [⟨0, 3, .ro, 0, .any, none⟩, ⟨4, 5, .ro, 0, .any, none⟩, ⟨12, 1, .ro, 0, .any, none⟩, ⟨13, 1, .ro, 0, .any, none⟩]⟩,
  ⟨"LINK_DOWN_COUNT", 0, 1, 0x104, [], 0, [⟨0, 32, .ro, 0, .any, none⟩]⟩,
  ⟨"L1_ENTRIES", 0, 1, 0x108, [], 0, [⟨0, 32, .ro, 0, .any, none⟩]⟩,
  ⟨"PF_STATUS_f", 1, 1, 0x100, [(0x4, 2)], 0, [⟨0, 1, .ro, 0, .any, none⟩, ⟨1, 1, .ro, 0, .any, none⟩, ⟨2, 1, .ro, 0, .any, none⟩, ⟨3, 1, .ro, 0, .any, none⟩, ⟨4, 2, .ro, 0, .any, none⟩]⟩,
  ⟨"SRIOV", 1, 1, 0x108, [], 0, [⟨0, 11, .ro, 0, .any, none⟩, ⟨16, 1, .ro, 0, .any, none⟩, ⟨17, 1, .ro, 0, .any, none⟩]⟩,
  ⟨"TAGS", 1, 1, 0x10C, [], 0, [⟨0, 10, .ro, 32, .any, none⟩, ⟨16, 10, .ro, 0, .any, none⟩]⟩,
  ⟨"VF_FLR_BUSY_w", 2, 1, 0x100, [(0x4, 32)], 0, [⟨0, 32, .ro, 0, .any, none⟩]⟩,
  ⟨"VF_BME_w", 2, 1, 0x180, [(0x4, 32)], 0, [⟨0, 32, .ro, 0, .any, none⟩]⟩,
  ⟨"CTRL", 3, 1, 0x10, [], 0, [⟨0, 1, .w1s, 0, .any, none⟩]⟩,
  ⟨"MSIX_DROPPED", 3, 1, 0x100, [], 0, [⟨0, 32, .ro, 0, .any, none⟩]⟩,
  ⟨"BME_DROPPED", 3, 1, 0x104, [], 0, [⟨0, 32, .ro, 0, .any, none⟩]⟩,
  ⟨"CPL_FAIL_COUNT", 3, 1, 0x108, [], 0, [⟨0, 32, .ro, 0, .any, none⟩]⟩,
  ⟨"ATS_REQUESTS", 3, 1, 0x10C, [], 0, [⟨0, 32, .ro, 0, .any, none⟩]⟩,
  ⟨"ATS_INVALIDATES", 3, 1, 0x110, [], 0, [⟨0, 32, .ro, 0, .any, none⟩]⟩,
  ⟨"UR_RECEIVED", 3, 1, 0x114, [], 0, [⟨0, 32, .ro, 0, .any, none⟩]⟩]

/-- Registers of block SEC, from the spec's tables. -/
def regs_sec : List RegDef := [
  ⟨"DEV_STATE", 0, 1, 0x100, [], 0, [⟨0, 3, .ro, 1, .any, none⟩]⟩,
  ⟨"BOOT_STATUS", 0, 1, 0x104, [], 0, [⟨0, 2, .ro, 0, .any, none⟩, ⟨2, 1, .ro, 0, .any, none⟩, ⟨4, 4, .ro, 0, .any, none⟩, ⟨8, 4, .ro, 0, .any, none⟩, ⟨12, 4, .ro, 0, .any, none⟩, ⟨16, 1, .ro, 0, .any, none⟩, ⟨17, 1, .ro, 0, .any, none⟩]⟩,
  ⟨"RESET_CAUSE", 0, 1, 0x108, [], 0, [⟨0, 4, .ro, 0, .any, none⟩]⟩,
  ⟨"RESETS", 0, 1, 0x10C, [], 0, [⟨0, 32, .ro, 0, .any, none⟩]⟩,
  ⟨"DEV_RESET", 0, 1, 0x110, [], 0, [⟨0, 1, .wo, 0, .mgmtSup, none⟩]⟩,
  ⟨"READY", 0, 1, 0x114, [], 0, [⟨0, 1, .w1s, 0, .any, none⟩, ⟨1, 1, .w1s, 0, .sup, none⟩]⟩,
  ⟨"HBM_TRAIN", 0, 1, 0x118, [], 0, [⟨0, 2, .ro, 0, .any, none⟩, ⟨2, 2, .ro, 0, .any, none⟩, ⟨8, 1, .wo, 0, .any, none⟩]⟩,
  ⟨"FW_DIGEST_w", 0, 1, 0x120, [(0x4, 12)], 0, [⟨0, 32, .ro, 0, .any, none⟩]⟩,
  ⟨"FW_BUILD_ID_LO", 0, 1, 0x150, [], 1, [⟨0, 32, .ro, 0, .any, none⟩]⟩,
  ⟨"FW_BUILD_ID_HI", 0, 1, 0x154, [], 2, [⟨0, 32, .ro, 0, .any, none⟩]⟩,
  ⟨"FW_SVN", 0, 1, 0x158, [], 0, [⟨0, 7, .ro, 0, .any, none⟩]⟩,
  ⟨"SVN_BURN", 0, 1, 0x160, [], 0, [⟨0, 1, .wo, 0, .any, none⟩]⟩,
  ⟨"FW_SRC_LO", 1, 1, 0x100, [], 1, [⟨0, 32, .rw, 0, .any, none⟩]⟩,
  ⟨"FW_SRC_HI", 1, 1, 0x104, [], 2, [⟨0, 32, .rw, 0, .any, none⟩]⟩,
  ⟨"FW_LEN", 1, 1, 0x108, [], 0, [⟨0, 23, .rw, 0, .any, none⟩]⟩,
  ⟨"FW_GO", 1, 1, 0x10C, [], 0, [⟨0, 1, .wo, 0, .any, none⟩]⟩,
  ⟨"FW_LOAD_STATUS", 1, 1, 0x110, [], 0, [⟨0, 2, .ro, 0, .any, none⟩]⟩,
  ⟨"PIN_STAGE_w", 1, 1, 0x140, [(0x4, 12)], 0, [⟨0, 32, .rw, 0, .any, none⟩]⟩,
  ⟨"PIN_BURN", 1, 1, 0x170, [], 0, [⟨0, 2, .wo, 0, .any, none⟩, ⟨4, 1, .wo, 0, .any, none⟩, ⟨31, 1, .wo, 0, .any, none⟩]⟩,
  ⟨"PIN_BURN_STATUS", 1, 1, 0x174, [], 0, [⟨0, 1, .ro, 0, .any, none⟩, ⟨1, 1, .ro, 0, .any, none⟩, ⟨2, 1, .ro, 0, .any, none⟩]⟩]

/-- Registers of block SUP, from the spec's tables. -/
def regs_sup_0 : List RegDef := [
  ⟨"CTRL", 0, 1, 0x10, [], 0, [⟨0, 1, .w1s, 0, .any, none⟩]⟩,
  ⟨"HART_STATE_h", 0, 1, 0x100, [(0x4, 4)], 0, [⟨0, 2, .ro, 0, .any, none⟩, ⟨8, 6, .ro, 0, .any, none⟩]⟩,
  ⟨"HART_FCODE_h", 0, 1, 0x110, [(0x4, 4)], 0, [⟨0, 16, .ro, 0, .any, none⟩, ⟨31, 1, .ro, 0, .any, none⟩]⟩,
  ⟨"HART_FPC_h", 0, 1, 0x120, [(0x4, 4)], 0, [⟨0, 32, .ro, 0, .any, none⟩]⟩,
  ⟨"HART_FADDR_h", 0, 1, 0x130, [(0x4, 4)], 0, [⟨0, 32, .ro, 0, .any, none⟩]⟩,
  ⟨"HART_CMD", 0, 1, 0x140, [], 0, [⟨0, 4, .wo, 0, .any, none⟩]⟩,
  ⟨"EVQ_USED", 0, 1, 0x144, [], 0, [⟨0, 9, .ro, 0, .any, none⟩]⟩,
  ⟨"EVQ_HIGH", 0, 1, 0x148, [], 0, [⟨0, 9, .ro, 0, .any, none⟩]⟩,
  ⟨"EVQ_HELD_COUNT", 0, 1, 0x14C, [], 0, [⟨0, 32, .ro, 0, .any, none⟩]⟩,
  ⟨"EVQ_DISCARD", 0, 1, 0x150, [], 0, [⟨0, 32, .ro, 0, .any, none⟩]⟩,
  ⟨"SW_EVENT", 0, 1, 0x154, [], 0, [⟨0, 6, .wo, 0, .sup, none⟩, ⟨31, 1, .wo, 0, .sup, none⟩]⟩,
  ⟨"SW_VALUE", 0, 1, 0x158, [], 0, [⟨0, 32, .rw, 0, .sup, none⟩]⟩,
  ⟨"HEARTBEAT", 0, 1, 0x160, [], 0, [⟨0, 32, .wo, 0, .sup, none⟩]⟩,
  ⟨"HB_COUNT", 0, 1, 0x164, [], 0, [⟨0, 32, .ro, 0, .any, none⟩]⟩,
  ⟨"TMR_PERIOD_k", 0, 1, 0x170, [(0x8, 4)], 0, [⟨0, 24, .rw, 0, .any, none⟩]⟩,
  ⟨"TMR_SLOT_k", 0, 1, 0x174, [(0x8, 4)], 0, [⟨0, 6, .rw, 0, .any, none⟩]⟩,
  ⟨"TMR_MERGED", 0, 1, 0x190, [], 0, [⟨0, 32, .ro, 0, .any, none⟩]⟩,
  ⟨"CODE_LIMIT", 0, 1, 0x194, [], 0, [⟨2, 17, .ro, 0, .any, none⟩, ⟨31, 1, .ro, 0, .any, none⟩]⟩,
  ⟨"FAULT_SLOT", 0, 1, 0x198, [], 0, [⟨0, 6, .rw, 0, .any, none⟩]⟩,
  ⟨"HOSTWIN_BASE_LO", 0, 1, 0x19C, [], 1, [⟨0, 32, .rw, 0, .mgmt, none⟩]⟩,
  ⟨"HOSTWIN_BASE_HI", 0, 1, 0x1A0, [], 2, [⟨0, 32, .rw, 0, .mgmt, none⟩]⟩,
  ⟨"HOSTWIN_EN", 0, 1, 0x1A4, [], 0, [⟨0, 1, .rw, 0, .mgmt, none⟩]⟩,
  ⟨"SP_CE_COUNT", 0, 1, 0x1A8, [], 0, [⟨0, 32, .ro, 0, .any, none⟩]⟩,
  ⟨"SP_UE_COUNT", 0, 1, 0x1AC, [], 0, [⟨0, 32, .ro, 0, .any, none⟩]⟩]

/-- Registers of block SUP, from the spec's tables. -/
def regs_sup_1 : List RegDef := [
  ⟨"CYC_LO", 0, 1, 0x1B0, [], 1, [⟨0, 32, .ro, 0, .any, none⟩]⟩,
  ⟨"CYC_HI", 0, 1, 0x1B4, [], 2, [⟨0, 32, .ro, 0, .any, none⟩]⟩,
  ⟨"HS_ENTRY_n", 1, 1, 0x100, [(0x10, 64)], 0, [⟨2, 17, .rwc, 0, .any, none⟩]⟩,
  ⟨"HS_BUDGET_n", 1, 1, 0x104, [(0x10, 64)], 0, [⟨0, 24, .rwc, 0, .any, none⟩]⟩,
  ⟨"HS_CFG_n", 1, 1, 0x108, [(0x10, 64)], 0, [⟨0, 1, .rwc, 0, .any, none⟩, ⟨4, 4, .rwc, 0, .any, none⟩, ⟨8, 1, .rwc, 0, .any, none⟩]⟩,
  ⟨"HS_MAXUSED_n", 1, 1, 0x10C, [(0x10, 64)], 0, [⟨0, 24, .ro, 0, .any, none⟩]⟩,
  ⟨"MB_REQ_k_i", 1, 1, 0x600, [(0x100, 3), (0x4, 16)], 0, [⟨0, 32, .rw, 0, .bound, none⟩]⟩,
  ⟨"MB_RESP_k_i", 1, 1, 0x640, [(0x100, 3), (0x4, 16)], 0, [⟨0, 32, .rw, 0, .sup, none⟩]⟩,
  ⟨"DOORBELL_k", 1, 1, 0x680, [(0x100, 3)], 0, [⟨0, 1, .wo, 0, .bound, none⟩]⟩,
  ⟨"MB_STATUS_k", 1, 1, 0x684, [(0x100, 3)], 0, [⟨0, 1, .ro, 0, .any, none⟩, ⟨1, 1, .w1c, 0, .bound, none⟩]⟩,
  ⟨"MB_DONE_k", 1, 1, 0x688, [(0x100, 3)], 0, [⟨0, 1, .wo, 0, .sup, none⟩]⟩,
  ⟨"MB_SLOT_k", 1, 1, 0x68C, [(0x100, 3)], 0, [⟨0, 6, .rw, 0, .sup, none⟩]⟩]

/-- All registers of block SUP. -/
def regs_sup : List RegDef := regs_sup_0 ++ regs_sup_1

/-- Registers of block POW, from the spec's tables. -/
def regs_pow_0 : List RegDef := [
  ⟨"CTRL", 0, 1, 0x10, [], 0, [⟨0, 1, .w1s, 0, .any, none⟩]⟩,
  ⟨"STAGE_CLK", 0, 1, 0x100, [], 0, [⟨0, 10, .rwc, 300, .any, none⟩]⟩,
  ⟨"VCORE_SET", 0, 1, 0x104, [], 0, [⟨0, 10, .rw, 750, .any, none⟩]⟩,
  ⟨"PKG_CAP", 0, 1, 0x108, [], 0, [⟨0, 8, .rwc, Config.capMax, .any, none⟩]⟩,
  ⟨"CLIP_CFG", 0, 1, 0x10C, [], 0, [⟨0, 4, .rwc, Config.smax, .any, none⟩, ⟨8, 20, .rwc, 1000, .any, some (100, 1000000)⟩]⟩,
  ⟨"FIXED_MW", 0, 1, 0x110, [], 0, [⟨0, 16, .rwc, 0, .any, none⟩]⟩,
  ⟨"FUSE_LIMITS", 0, 1, 0x114, [], 0, [⟨0, 10, .ro, Config.fmax, .any, none⟩, ⟨10, 10, .ro, Config.vmax, .any, none⟩, ⟨20, 8, .ro, Config.capMax, .any, none⟩, ⟨28, 4, .ro, Config.smax, .any, none⟩]⟩,
  ⟨"FUSE_CLIP_CEIL", 0, 1, 0x118, [], 0, [⟨0, 16, .ro, Config.clipCeil, .any, none⟩]⟩,
  ⟨"FUSE_VF_i", 0, 1, 0x120, [(0x4, 6)], 0, [⟨0, 10, .ro, 0, .any, none⟩]⟩,
  ⟨"POW_STATUS", 0, 1, 0x140, [], 0, [⟨0, 10, .ro, 300, .any, none⟩, ⟨10, 4, .ro, 0, .any, none⟩, ⟨14, 4, .ro, 0, .any, none⟩, ⟨19, 1, .ro, 0, .any, none⟩, ⟨20, 1, .ro, 0, .any, none⟩]⟩,
  ⟨"VCORE_NOW", 0, 1, 0x144, [], 0, [⟨0, 10, .ro, 0, .any, none⟩]⟩,
  ⟨"PKG_POWER", 0, 1, 0x148, [], 0, [⟨0, 32, .ro, 0, .any, none⟩]⟩,
  ⟨"AON_POWER", 0, 1, 0x14C, [], 0, [⟨0, 16, .ro, 0, .any, none⟩]⟩,
  ⟨"STRETCHED_LO", 0, 1, 0x150, [], 1, [⟨0, 32, .ro, 0, .any, none⟩]⟩,
  ⟨"STRETCHED_HI", 0, 1, 0x154, [], 2, [⟨0, 32, .ro, 0, .any, none⟩]⟩,
  ⟨"STRETCH_SUM_LO", 0, 1, 0x158, [], 1, [⟨0, 32, .ro, 0, .any, none⟩]⟩,
  ⟨"STRETCH_SUM_HI", 0, 1, 0x15C, [], 2, [⟨0, 32, .ro, 0, .any, none⟩]⟩,
  ⟨"CLIP_EVENTS", 0, 1, 0x160, [], 0, [⟨0, 32, .ro, 0, .any, none⟩]⟩,
  ⟨"CLIP_AT_LIMIT", 0, 1, 0x164, [], 0, [⟨0, 32, .ro, 0, .any, none⟩]⟩,
  ⟨"PAUSES", 0, 1, 0x168, [], 0, [⟨0, 32, .ro, 0, .any, none⟩]⟩,
  ⟨"PMB_DEV_k", 0, 1, 0x170, [(0x4, 8)], 0, [⟨0, 7, .rwc, 0, .any, none⟩, ⟨8, 1, .rwc, 0, .any, none⟩]⟩,
  ⟨"PMB_P_k", 0, 1, 0x190, [(0x4, 8)], 0, [⟨0, 32, .ro, 0, .any, none⟩]⟩,
  ⟨"CLIP_LIMIT_g", 1, 1, 0x100, [(0x4, 16)], 0, [⟨0, 16, .rwc, Config.clipCeil, .any, none⟩]⟩,
  ⟨"GROUP_I_g", 1, 1, 0x140, [(0x4, 16)], 0, [⟨0, 16, .ro, 0, .any, none⟩]⟩]

/-- Registers of block POW, from the spec's tables. -/
def regs_pow_1 : List RegDef := [
  ⟨"GROUP_OVER_g", 1, 1, 0x180, [(0x4, 16)], 0, [⟨0, 32, .ro, 0, .any, none⟩]⟩,
  ⟨"BAY_PWR_LO", 1, 1, 0x1C0, [], 1, [⟨0, 32, .rwc, 0, .any, none⟩]⟩,
  ⟨"BAY_PWR_HI", 1, 1, 0x1C4, [], 2, [⟨0, 32, .rwc, 0, .any, none⟩]⟩,
  ⟨"SLICE_PWR_LO", 1, 1, 0x1C8, [], 1, [⟨0, 32, .rwc, 0, .any, none⟩]⟩,
  ⟨"SLICE_PWR_HI", 1, 1, 0x1CC, [], 2, [⟨0, 32, .rwc, 0, .any, none⟩]⟩,
  ⟨"BAY_ON_LO", 1, 1, 0x1D0, [], 1, [⟨0, 32, .ro, 0, .any, none⟩]⟩,
  ⟨"BAY_ON_HI", 1, 1, 0x1D4, [], 2, [⟨0, 32, .ro, 0, .any, none⟩]⟩,
  ⟨"SLICE_ON_LO", 1, 1, 0x1D8, [], 1, [⟨0, 32, .ro, 0, .any, none⟩]⟩,
  ⟨"SLICE_ON_HI", 1, 1, 0x1DC, [], 2, [⟨0, 32, .ro, 0, .any, none⟩]⟩,
  ⟨"BAY_TRIM_b", 1, 1, 0x200, [(0x4, 64)], 0, [⟨0, 4, .rwc, 0, .any, some (0, 12)⟩, ⟨8, 4, .ro, 0, .any, none⟩]⟩]

/-- All registers of block POW. -/
def regs_pow : List RegDef := regs_pow_0 ++ regs_pow_1

/-- Registers of block THM, from the spec's tables. -/
def regs_thm : List RegDef := [
  ⟨"SENSOR_k", 0, 1, 0x100, [(0x4, 64)], 0, [⟨0, 16, .ro, 0, .any, none⟩, ⟨16, 1, .ro, 0, .any, none⟩]⟩,
  ⟨"TMAX", 0, 1, 0x200, [], 0, [⟨0, 16, .ro, 0, .any, none⟩, ⟨16, 6, .ro, 0, .any, none⟩]⟩,
  ⟨"TRIP_STATUS", 0, 1, 0x204, [], 0, [⟨0, 1, .ro, 0, .any, none⟩, ⟨1, 1, .ro, 0, .any, none⟩, ⟨16, 6, .ro, 0, .any, none⟩]⟩,
  ⟨"TRIP_TEMP", 0, 1, 0x208, [], 0, [⟨0, 16, .ro, 0, .any, none⟩]⟩,
  ⟨"THR_i", 0, 1, 0x210, [(0x8, 4)], 0, [⟨0, 16, .rwc, 0, .any, none⟩, ⟨16, 8, .rwc, 0, .any, none⟩, ⟨24, 3, .rwc, 0, .any, none⟩, ⟨28, 1, .rwc, 0, .any, none⟩, ⟨31, 1, .rwc, 0, .any, none⟩]⟩,
  ⟨"THR_COUNT_i", 0, 1, 0x214, [(0x8, 4)], 0, [⟨0, 32, .ro, 0, .any, none⟩]⟩,
  ⟨"THR_ACTIVE", 0, 1, 0x230, [], 0, [⟨0, 4, .ro, 0, .any, none⟩]⟩,
  ⟨"FAILED_COUNT", 0, 1, 0x234, [], 0, [⟨0, 7, .ro, 0, .any, none⟩]⟩,
  ⟨"FUSE_TRIP", 0, 1, 0x238, [], 0, [⟨0, 16, .ro, 1840, .any, none⟩]⟩]

/-- Registers of block FLT, from the spec's tables. -/
def regs_flt : List RegDef := [
  ⟨"CTRL", 0, 1, 0x10, [], 0, [⟨0, 1, .w1s, 0, .any, none⟩]⟩,
  ⟨"DEV_FAULT", 0, 1, 0x100, [], 0, [⟨0, 1, .ro, 0, .any, none⟩, ⟨1, 1, .ro, 0, .any, none⟩, ⟨16, 16, .ro, 0, .any, none⟩]⟩,
  ⟨"LADDER_STATE", 0, 1, 0x104, [], 0, [⟨0, 2, .ro, 0, .any, none⟩, ⟨2, 1, .ro, 0, .any, none⟩, ⟨16, 16, .ro, 0, .any, none⟩]⟩,
  ⟨"LADDER_CMD", 0, 1, 0x108, [], 0, [⟨0, 3, .wo, 0, .mgmtSup, none⟩, ⟨8, 16, .wo, 0, .mgmtSup, none⟩]⟩,
  ⟨"LADDER_RESULT", 0, 1, 0x10C, [], 0, [⟨0, 2, .ro, 0, .any, none⟩]⟩,
  ⟨"LIMIT_1", 0, 1, 0x110, [], 0, [⟨0, 12, .rw, 0, .mgmtSup, some (1, 100)⟩]⟩,
  ⟨"LIMIT_2", 0, 1, 0x114, [], 0, [⟨0, 12, .rw, 0, .mgmtSup, some (1, 500)⟩]⟩,
  ⟨"LIMIT_3", 0, 1, 0x118, [], 0, [⟨0, 12, .rw, 0, .mgmtSup, some (1, 2000)⟩]⟩,
  ⟨"SWD_CFG", 0, 1, 0x120, [], 0, [⟨0, 10, .rw, 1000, .mgmtSup, some (10, 1000)⟩]⟩,
  ⟨"SWD_STATE", 0, 1, 0x124, [], 0, [⟨0, 2, .ro, 0, .any, none⟩, ⟨16, 16, .ro, 0, .any, none⟩]⟩,
  ⟨"ESCALATIONS", 0, 1, 0x128, [], 0, [⟨0, 32, .ro, 0, .any, none⟩]⟩,
  ⟨"SWD_EXPIRIES", 0, 1, 0x12C, [], 0, [⟨0, 32, .ro, 0, .any, none⟩]⟩,
  ⟨"AER_CFG", 0, 1, 0x130, [], 0, [⟨0, 1, .rw, 0, .mgmtSup, none⟩]⟩,
  ⟨"LOG_SEL", 0, 1, 0x140, [], 0, [⟨0, 6, .rw, 0, .any, none⟩]⟩,
  ⟨"LOG_HEAD", 0, 1, 0x144, [], 0, [⟨0, 6, .ro, 0, .any, none⟩]⟩,
  ⟨"LOG_OVERRUN", 0, 1, 0x148, [], 0, [⟨0, 32, .ro, 0, .any, none⟩]⟩,
  ⟨"LOG_SRC", 0, 1, 0x150, [], 0, [⟨0, 26, .ro, 0, .any, none⟩]⟩,
  ⟨"LOG_CODE", 0, 1, 0x154, [], 0, [⟨0, 16, .ro, 0, .any, none⟩, ⟨16, 2, .ro, 0, .any, none⟩, ⟨31, 1, .ro, 0, .any, none⟩]⟩,
  ⟨"LOG_INFO_LO", 0, 1, 0x158, [], 1, [⟨0, 32, .ro, 0, .any, none⟩]⟩,
  ⟨"LOG_INFO_HI", 0, 1, 0x15C, [], 2, [⟨0, 32, .ro, 0, .any, none⟩]⟩,
  ⟨"LOG_TICK_LO", 0, 1, 0x160, [], 1, [⟨0, 32, .ro, 0, .any, none⟩]⟩,
  ⟨"LOG_TICK_HI", 0, 1, 0x164, [], 2, [⟨0, 32, .ro, 0, .any, none⟩]⟩]

/-- Registers of block PLB, from the spec's tables. -/
def regs_plb_0 : List RegDef := [
  ⟨"REF_CFG_i", 0, 1, 0x100, [(0x4, 8)], 0, [⟨0, 3, .rwc, 0, .any, some (0, 6)⟩, ⟨3, 1, .rwc, 0, .any, none⟩, ⟨4, 1, .rwc, 0, .any, none⟩, ⟨5, 1, .rwc, 0, .any, none⟩, ⟨6, 1, .rwc, 0, .any, none⟩, ⟨8, 8, .rwc, 0, .any, none⟩]⟩,
  ⟨"REF_STAT_i", 0, 1, 0x120, [(0x4, 8)], 0, [⟨0, 1, .ro, 0, .any, none⟩, ⟨1, 1, .ro, 0, .any, none⟩]⟩,
  ⟨"REF_EDGES_i", 0, 1, 0x140, [(0x4, 8)], 0, [⟨0, 32, .ro, 0, .any, none⟩]⟩,
  ⟨"TICK_LO", 0, 1, 0x160, [], 1, [⟨0, 32, .ro, 0, .any, none⟩]⟩,
  ⟨"TICK_HI", 0, 1, 0x164, [], 2, [⟨0, 32, .ro, 0, .any, none⟩]⟩,
  ⟨"PTP_CTRL", 0, 1, 0x168, [], 0, [⟨0, 2, .rw, 0, .any, none⟩]⟩,
  ⟨"SRC", 1, 8, 0x100, [], 0, [⟨0, 2, .rwc, 0, .any, none⟩, ⟨4, 3, .rwc, 0, .any, none⟩, ⟨8, 1, .rwc, 0, .any, none⟩, ⟨12, 1, .rwc, 0, .any, none⟩, ⟨31, 1, .rwc, 0, .any, none⟩]⟩,
  ⟨"NUM", 1, 8, 0x104, [], 0, [⟨0, 32, .rwc, 65536, .any, some (1, 4294967295)⟩]⟩,
  ⟨"DEN", 1, 8, 0x108, [], 0, [⟨0, 32, .rwc, 1, .any, some (1, 4294967295)⟩]⟩,
  ⟨"EST", 1, 8, 0x10C, [], 0, [⟨0, 9, .rwc, 16, .any, some (1, 256)⟩]⟩,
  ⟨"STALL_TIMEOUT", 1, 8, 0x110, [], 0, [⟨0, 24, .rwc, 0, .any, none⟩]⟩,
  ⟨"INDEX_CFG", 1, 8, 0x114, [], 0, [⟨0, 3, .rwc, 0, .any, none⟩, ⟨4, 1, .rwc, 0, .any, none⟩]⟩,
  ⟨"MOD_LO", 1, 8, 0x118, [], 1, [⟨0, 32, .rwc, 0, .any, none⟩]⟩,
  ⟨"MOD_HI", 1, 8, 0x11C, [], 2, [⟨0, 32, .rwc, 0, .any, none⟩]⟩,
  ⟨"SET_POS_LO", 1, 8, 0x120, [], 1, [⟨0, 32, .rwc, 0, .any, none⟩]⟩,
  ⟨"SET_POS_HI", 1, 8, 0x124, [], 2, [⟨0, 32, .rwc, 0, .any, none⟩]⟩,
  ⟨"SET_CTRL", 1, 8, 0x128, [], 0, [⟨0, 1, .rwc, 0, .any, none⟩]⟩,
  ⟨"POS_LO", 1, 8, 0x130, [], 1, [⟨0, 32, .ro, 0, .any, none⟩]⟩,
  ⟨"POS_HI", 1, 8, 0x134, [], 2, [⟨0, 32, .ro, 0, .any, none⟩]⟩,
  ⟨"EDGE_POS_LO", 1, 8, 0x138, [], 1, [⟨0, 32, .ro, 0, .any, none⟩]⟩,
  ⟨"EDGE_POS_HI", 1, 8, 0x13C, [], 2, [⟨0, 32, .ro, 0, .any, none⟩]⟩,
  ⟨"EDGE_TICK_LO", 1, 8, 0x140, [], 1, [⟨0, 32, .ro, 0, .any, none⟩]⟩,
  ⟨"EDGE_TICK_HI", 1, 8, 0x144, [], 2, [⟨0, 32, .ro, 0, .any, none⟩]⟩,
  ⟨"VEL_LO", 1, 8, 0x148, [], 1, [⟨0, 32, .ro, 0, .any, none⟩]⟩]

/-- Registers of block PLB, from the spec's tables. -/
def regs_plb_1 : List RegDef := [
  ⟨"VEL_HI", 1, 8, 0x14C, [], 2, [⟨0, 32, .ro, 0, .any, none⟩]⟩,
  ⟨"CH_STATE", 1, 8, 0x150, [], 0, [⟨0, 3, .ro, 0, .any, none⟩, ⟨8, 1, .ro, 0, .any, none⟩, ⟨16, 13, .ro, 0, .any, none⟩]⟩,
  ⟨"QUAD_ERR_COUNT", 1, 8, 0x154, [], 0, [⟨0, 32, .ro, 0, .any, none⟩]⟩,
  ⟨"STALL_COUNT", 1, 8, 0x158, [], 0, [⟨0, 32, .ro, 0, .any, none⟩]⟩,
  ⟨"REM", 1, 8, 0x15C, [], 0, [⟨0, 32, .ro, 0, .any, none⟩]⟩,
  ⟨"INDEX_POS_LO", 1, 8, 0x160, [], 1, [⟨0, 32, .ro, 0, .any, none⟩]⟩,
  ⟨"INDEX_POS_HI", 1, 8, 0x164, [], 2, [⟨0, 32, .ro, 0, .any, none⟩]⟩,
  ⟨"INDEX_COUNT", 1, 8, 0x168, [], 0, [⟨0, 32, .ro, 0, .any, none⟩]⟩,
  ⟨"RESYNC", 1, 8, 0x170, [], 0, [⟨0, 1, .wo, 0, .any, none⟩]⟩,
  ⟨"POST_CTRL", 9, 1, 0x100, [], 0, [⟨0, 2, .rw, 0, .any, some (0, 1)⟩, ⟨4, 3, .rw, 0, .any, none⟩, ⟨8, 16, .rw, 0, .any, none⟩, ⟨24, 8, .rw, 0, .any, none⟩]⟩,
  ⟨"POST_TAG", 9, 1, 0x104, [], 0, [⟨0, 32, .rw, 0, .any, none⟩]⟩,
  ⟨"POST_TARGET_LO", 9, 1, 0x108, [], 1, [⟨0, 32, .rw, 0, .any, none⟩]⟩,
  ⟨"POST_TARGET_HI", 9, 1, 0x10C, [], 2, [⟨0, 32, .rw, 0, .any, none⟩]⟩,
  ⟨"POST_GO", 9, 1, 0x110, [], 0, [⟨0, 1, .wo, 0, .any, none⟩]⟩,
  ⟨"POST_RESULT", 9, 1, 0x114, [], 0, [⟨0, 2, .ro, 0, .any, none⟩, ⟨4, 4, .ro, 0, .any, none⟩, ⟨16, 12, .ro, 0, .any, none⟩]⟩,
  ⟨"CANCEL", 9, 1, 0x118, [], 0, [⟨0, 12, .wo, 0, .any, none⟩, ⟨31, 1, .wo, 0, .any, none⟩]⟩,
  ⟨"EVQ_USED", 9, 1, 0x120, [], 0, [⟨0, 13, .ro, 0, .any, none⟩]⟩,
  ⟨"EVQ_HIGHWATER", 9, 1, 0x124, [], 0, [⟨0, 13, .ro, 0, .any, none⟩]⟩,
  ⟨"EVQ_HIGH_MARK", 9, 1, 0x128, [], 0, [⟨0, 13, .rw, 0, .any, none⟩]⟩,
  ⟨"EVQ_FULL_COUNT", 9, 1, 0x12C, [], 0, [⟨0, 32, .ro, 0, .any, none⟩]⟩,
  ⟨"PAST_COUNT", 9, 1, 0x130, [], 0, [⟨0, 32, .ro, 0, .any, none⟩]⟩,
  ⟨"JUMPED_COUNT", 9, 1, 0x134, [], 0, [⟨0, 32, .ro, 0, .any, none⟩]⟩,
  ⟨"TRIG_CFG_j", 10, 1, 0x100, [(0x8, 16)], 0, [⟨0, 1, .rwc, 0, .any, none⟩, ⟨1, 1, .rwc, 0, .any, none⟩, ⟨16, 16, .rwc, 1000, .any, some (1, 65535)⟩]⟩,
  ⟨"TRIG_OFFSET_j", 10, 1, 0x104, [(0x8, 16)], 0, [⟨0, 16, .rwc, 0, .any, none⟩]⟩]

/-- Registers of block PLB, from the spec's tables. -/
def regs_plb_2 : List RegDef := [
  ⟨"TRIG_COUNT_j", 10, 1, 0x180, [(0x4, 16)], 0, [⟨0, 32, .ro, 0, .any, none⟩]⟩,
  ⟨"FIRE_NOW", 10, 1, 0x1C0, [], 0, [⟨0, 16, .wo, 0, .any, none⟩]⟩,
  ⟨"OVERLAP_COUNT", 10, 1, 0x1C4, [], 0, [⟨0, 32, .ro, 0, .any, none⟩]⟩,
  ⟨"LATE_COUNT", 10, 1, 0x1C8, [], 0, [⟨0, 32, .ro, 0, .any, none⟩]⟩,
  ⟨"SUPPRESSED_COUNT", 10, 1, 0x1CC, [], 0, [⟨0, 32, .ro, 0, .any, none⟩]⟩]

/-- All registers of block PLB. -/
def regs_plb : List RegDef := regs_plb_0 ++ regs_plb_1 ++ regs_plb_2

/-- Registers of block SCH, from the spec's tables. -/
def regs_sch_0 : List RegDef := [
  ⟨"PIPE_STATE", 0, 64, 0x100, [], 0, [⟨0, 3, .ro, 0, .any, none⟩, ⟨8, 1, .ro, 0, .any, none⟩, ⟨9, 1, .ro, 0, .any, none⟩]⟩,
  ⟨"PIPE_CMD", 0, 64, 0x104, [], 0, [⟨0, 3, .wo, 0, .any, none⟩]⟩,
  ⟨"REGION", 0, 64, 0x108, [], 0, [⟨0, 3, .ro, 0, .any, none⟩, ⟨4, 3, .ro, 0, .any, none⟩, ⟨8, 4, .ro, 0, .any, none⟩, ⟨12, 4, .ro, 0, .any, none⟩, ⟨31, 1, .ro, 0, .any, none⟩]⟩,
  ⟨"ING_CFG", 0, 64, 0x10C, [], 0, [⟨0, 2, .ro, 0, .any, none⟩, ⟨8, 6, .ro, 0, .any, none⟩, ⟨16, 2, .ro, 0, .any, none⟩, ⟨18, 6, .ro, 0, .any, none⟩]⟩,
  ⟨"EGR_CFG", 0, 64, 0x110, [], 0, [⟨0, 3, .ro, 0, .any, none⟩, ⟨8, 6, .ro, 0, .any, none⟩, ⟨16, 2, .ro, 0, .any, none⟩, ⟨18, 6, .ro, 0, .any, none⟩]⟩,
  ⟨"LATENCY", 0, 64, 0x114, [], 0, [⟨0, 24, .ro, 0, .any, none⟩]⟩,
  ⟨"MIN_INTERVAL", 0, 64, 0x118, [], 0, [⟨0, 16, .ro, 0, .any, none⟩]⟩,
  ⟨"DRAIN_TIMEOUT", 0, 64, 0x11C, [], 0, [⟨0, 24, .rw, 0, .any, none⟩]⟩,
  ⟨"ING_FRAMES_LO", 0, 64, 0x120, [], 1, [⟨0, 32, .ro, 0, .any, none⟩]⟩,
  ⟨"ING_FRAMES_HI", 0, 64, 0x124, [], 2, [⟨0, 32, .ro, 0, .any, none⟩]⟩,
  ⟨"EGR_FRAMES_LO", 0, 64, 0x128, [], 1, [⟨0, 32, .ro, 0, .any, none⟩]⟩,
  ⟨"EGR_FRAMES_HI", 0, 64, 0x12C, [], 2, [⟨0, 32, .ro, 0, .any, none⟩]⟩,
  ⟨"FLIGHT", 0, 64, 0x130, [], 0, [⟨0, 16, .ro, 0, .any, none⟩]⟩,
  ⟨"ING_TAG_STRIPPED", 0, 64, 0x134, [], 0, [⟨0, 32, .ro, 0, .any, none⟩]⟩,
  ⟨"EGR_TRUNC_COUNT", 0, 64, 0x138, [], 0, [⟨0, 32, .ro, 0, .any, none⟩]⟩,
  ⟨"FAULT_INFO", 0, 64, 0x13C, [], 0, [⟨0, 12, .ro, 0, .any, none⟩, ⟨16, 3, .ro, 0, .any, none⟩]⟩,
  ⟨"SCHED_CFG", 0, 64, 0x200, [], 0, [⟨0, 2, .rwc, 0, .any, some (0, 2)⟩, ⟨4, 2, .rwc, 0, .any, some (0, 2)⟩, ⟨8, 1, .rwc, 0, .any, none⟩]⟩,
  ⟨"MARGIN_NS", 0, 64, 0x204, [], 0, [⟨0, 32, .rwc, 0, .any, none⟩]⟩,
  ⟨"RECOVER_CYC", 0, 64, 0x208, [], 0, [⟨0, 24, .rwc, 0, .any, none⟩]⟩,
  ⟨"TRIG_MASK", 0, 64, 0x20C, [], 0, [⟨0, 16, .rwc, 0, .any, none⟩]⟩,
  ⟨"SLACK_LOW", 0, 64, 0x210, [], 0, [⟨0, 24, .rwc, 0, .any, none⟩]⟩,
  ⟨"SCHED_STATE", 0, 64, 0x214, [], 0, [⟨0, 1, .ro, 0, .any, none⟩, ⟨1, 1, .ro, 0, .any, none⟩]⟩,
  ⟨"SCHED_CMD", 0, 64, 0x218, [], 0, [⟨0, 1, .w1s, 0, .any, none⟩, ⟨1, 1, .w1s, 0, .any, none⟩]⟩,
  ⟨"ENTRY_BACKLOG", 0, 64, 0x21C, [], 0, [⟨0, 16, .ro, 0, .any, none⟩]⟩]

/-- Registers of block SCH, from the spec's tables. -/
def regs_sch_1 : List RegDef := [
  ⟨"ADMITTED_LO", 0, 64, 0x220, [], 1, [⟨0, 32, .ro, 0, .any, none⟩]⟩,
  ⟨"ADMITTED_HI", 0, 64, 0x224, [], 2, [⟨0, 32, .ro, 0, .any, none⟩]⟩,
  ⟨"RELEASED_LO", 0, 64, 0x228, [], 1, [⟨0, 32, .ro, 0, .any, none⟩]⟩,
  ⟨"RELEASED_HI", 0, 64, 0x22C, [], 2, [⟨0, 32, .ro, 0, .any, none⟩]⟩,
  ⟨"TOO_FAST_COUNT", 0, 64, 0x230, [], 0, [⟨0, 32, .ro, 0, .any, none⟩]⟩,
  ⟨"LATE_COUNT", 0, 64, 0x234, [], 0, [⟨0, 32, .ro, 0, .any, none⟩]⟩,
  ⟨"DROPPED_COUNT", 0, 64, 0x238, [], 0, [⟨0, 32, .ro, 0, .any, none⟩]⟩,
  ⟨"STALLED_REF_COUNT", 0, 64, 0x23C, [], 0, [⟨0, 32, .ro, 0, .any, none⟩]⟩,
  ⟨"NOPRED_COUNT", 0, 64, 0x240, [], 0, [⟨0, 32, .ro, 0, .any, none⟩]⟩,
  ⟨"EVQ_RETRY_COUNT", 0, 64, 0x244, [], 0, [⟨0, 32, .ro, 0, .any, none⟩]⟩,
  ⟨"LATE_TRIG_COUNT", 0, 64, 0x248, [], 0, [⟨0, 32, .ro, 0, .any, none⟩]⟩,
  ⟨"WINDOW_DEBIT", 0, 64, 0x24C, [], 0, [⟨0, 32, .ro, 0, .any, none⟩]⟩,
  ⟨"LEDGER_k_LO", 0, 64, 0x250, [(0x8, 8)], 1, [⟨0, 32, .ro, 0, .any, none⟩]⟩,
  ⟨"LEDGER_k_HI", 0, 64, 0x254, [(0x8, 8)], 2, [⟨0, 32, .ro, 0, .any, none⟩]⟩,
  ⟨"LAST_FRAME", 0, 64, 0x290, [], 0, [⟨0, 32, .ro, 0, .any, none⟩]⟩,
  ⟨"LAST_MARGIN_CYC", 0, 64, 0x294, [], 0, [⟨0, 32, .ro, 0, .any, none⟩]⟩,
  ⟨"LAST_MARGIN_PU", 0, 64, 0x298, [], 0, [⟨0, 32, .ro, 0, .any, none⟩]⟩,
  ⟨"LAST_STATUS", 0, 64, 0x29C, [], 0, [⟨0, 8, .ro, 0, .any, none⟩]⟩,
  ⟨"LAST_DEBIT_k", 0, 64, 0x2A0, [(0x4, 8)], 0, [⟨0, 32, .ro, 0, .any, none⟩]⟩,
  ⟨"WORST_MARGIN_CYC", 0, 64, 0x2C0, [], 0, [⟨0, 32, .ro, 2147483647, .any, none⟩]⟩,
  ⟨"WORST_FRAME", 0, 64, 0x2C4, [], 0, [⟨0, 32, .ro, 0, .any, none⟩]⟩]

/-- All registers of block SCH. -/
def regs_sch : List RegDef := regs_sch_0 ++ regs_sch_1

/-- Registers of block SKM, from the spec's tables. -/
def regs_skm_0 : List RegDef := [
  ⟨"LOAD_CTRL", 0, 1, 0x100, [], 0, [⟨0, 2, .rw, 0, .any, some (0, 2)⟩, ⟨2, 1, .rw, 0, .any, none⟩, ⟨8, 6, .rw, 0, .any, none⟩, ⟨16, 14, .rw, 0, .any, none⟩, ⟨31, 1, .wo, 0, .any, none⟩]⟩,
  ⟨"LOAD_SRC_LO", 0, 1, 0x104, [], 1, [⟨0, 32, .rw, 0, .any, none⟩]⟩,
  ⟨"LOAD_SRC_HI", 0, 1, 0x108, [], 2, [⟨0, 32, .rw, 0, .any, none⟩]⟩,
  ⟨"LOAD_STATUS", 0, 1, 0x10C, [], 0, [⟨0, 3, .ro, 0, .any, none⟩, ⟨8, 1, .ro, 0, .any, none⟩, ⟨12, 4, .ro, 0, .any, none⟩, ⟨16, 8, .ro, 0, .any, none⟩]⟩,
  ⟨"LOAD_FAIL", 0, 1, 0x110, [], 0, [⟨0, 9, .ro, 0, .any, none⟩]⟩,
  ⟨"LOAD_CMD", 0, 1, 0x114, [], 0, [⟨0, 1, .wo, 0, .any, none⟩, ⟨1, 1, .wo, 0, .any, none⟩]⟩,
  ⟨"RENDER_STATE", 0, 1, 0x118, [], 0, [⟨0, 2, .ro, 0, .any, none⟩]⟩,
  ⟨"BUILD_ID_LO", 0, 1, 0x120, [], 1, [⟨0, 32, .ro, 0, .any, none⟩]⟩,
  ⟨"BUILD_ID_HI", 0, 1, 0x124, [], 2, [⟨0, 32, .ro, 0, .any, none⟩]⟩,
  ⟨"LIB_CMD", 1, 1, 0x100, [], 0, [⟨0, 2, .wo, 0, .any, none⟩, ⟨2, 6, .wo, 0, .any, none⟩, ⟨8, 1, .wo, 0, .any, none⟩, ⟨16, 14, .wo, 0, .any, none⟩, ⟨31, 1, .wo, 0, .any, none⟩]⟩,
  ⟨"LIB_RESULT", 1, 1, 0x104, [], 0, [⟨0, 2, .ro, 0, .any, none⟩, ⟨4, 4, .ro, 0, .any, none⟩]⟩,
  ⟨"LIB_SEL", 1, 1, 0x108, [], 0, [⟨0, 14, .rw, 0, .any, none⟩]⟩,
  ⟨"LIB_ENTRY", 1, 1, 0x10C, [], 0, [⟨0, 2, .ro, 0, .any, none⟩, ⟨15, 1, .ro, 0, .any, none⟩, ⟨16, 10, .ro, 0, .any, none⟩]⟩,
  ⟨"LIB_HASH_LO", 1, 1, 0x110, [], 1, [⟨0, 32, .ro, 0, .any, none⟩]⟩,
  ⟨"LIB_HASH_HI", 1, 1, 0x114, [], 2, [⟨0, 32, .ro, 0, .any, none⟩]⟩,
  ⟨"LIB_BYTES", 1, 1, 0x118, [], 0, [⟨0, 32, .ro, 0, .any, none⟩]⟩,
  ⟨"LIB_HOT", 1, 1, 0x11C, [], 0, [⟨0, 7, .ro, 0, .any, none⟩]⟩,
  ⟨"LIB_FREE_UNITS", 1, 1, 0x120, [], 0, [⟨0, 32, .ro, 0, .any, none⟩]⟩,
  ⟨"LIB_COUNT", 1, 1, 0x124, [], 0, [⟨0, 14, .ro, 0, .any, none⟩]⟩,
  ⟨"CTRL", 2, 1, 0x10, [], 0, [⟨0, 1, .w1s, 0, .any, none⟩]⟩,
  ⟨"FILLS", 2, 1, 0x100, [], 0, [⟨0, 32, .ro, 0, .any, none⟩]⟩,
  ⟨"FILL_PROMOTED", 2, 1, 0x104, [], 0, [⟨0, 32, .ro, 0, .any, none⟩]⟩,
  ⟨"WARMUPS", 2, 1, 0x108, [], 0, [⟨0, 32, .ro, 0, .any, none⟩]⟩,
  ⟨"RA_WARMUPS", 2, 1, 0x10C, [], 0, [⟨0, 32, .ro, 0, .any, none⟩]⟩]

/-- Registers of block SKM, from the spec's tables. -/
def regs_skm_1 : List RegDef := [
  ⟨"EVICTIONS", 2, 1, 0x110, [], 0, [⟨0, 32, .ro, 0, .any, none⟩]⟩,
  ⟨"FILL_FAULTS", 2, 1, 0x114, [], 0, [⟨0, 32, .ro, 0, .any, none⟩]⟩,
  ⟨"FILL_WAIT_MAX", 2, 1, 0x118, [], 0, [⟨0, 32, .ro, 0, .any, none⟩]⟩,
  ⟨"SLOT_p_s", 3, 2, 0x100, [(0x40, 32), (0x4, 16)], 0, [⟨0, 14, .ro, 0, .any, none⟩, ⟨16, 2, .ro, 0, .any, none⟩, ⟨20, 1, .ro, 0, .any, none⟩, ⟨21, 1, .ro, 0, .any, none⟩]⟩,
  ⟨"HASH_LO_p", 5, 1, 0x100, [(0x20, 64)], 0, [⟨0, 32, .ro, 0, .any, none⟩]⟩,
  ⟨"HASH_HI_p", 5, 1, 0x104, [(0x20, 64)], 0, [⟨0, 32, .ro, 0, .any, none⟩]⟩,
  ⟨"FILL_RATE_p", 5, 1, 0x108, [(0x20, 64)], 0, [⟨0, 32, .ro, 0, .any, none⟩]⟩,
  ⟨"MIN_SLOTS_p", 5, 1, 0x10C, [(0x20, 64)], 0, [⟨0, 5, .ro, 0, .any, none⟩]⟩,
  ⟨"INTRUSION_SUM_p", 5, 1, 0x110, [(0x20, 64)], 0, [⟨0, 32, .ro, 4294967295, .any, none⟩]⟩]

/-- All registers of block SKM. -/
def regs_skm : List RegDef := regs_skm_0 ++ regs_skm_1

/-- Registers of block DAD, from the spec's tables. -/
def regs_dad : List RegDef := [
  ⟨"CTRL", 0, 4, 0x10, [], 0, [⟨0, 1, .w1s, 0, .any, none⟩]⟩,
  ⟨"TAPE_CMD", 0, 4, 0x100, [(0x40, 16)], 0, [⟨0, 2, .wo, 0, .any, none⟩]⟩,
  ⟨"TAPE_STATE", 0, 4, 0x104, [(0x40, 16)], 0, [⟨0, 2, .ro, 0, .any, none⟩, ⟨8, 1, .ro, 0, .any, none⟩]⟩,
  ⟨"BORDER_LINKS", 0, 4, 0x108, [(0x40, 16)], 0, [⟨0, 16, .ro, 0, .any, none⟩]⟩,
  ⟨"LATH_NETS", 0, 4, 0x10C, [(0x40, 16)], 0, [⟨0, 24, .ro, 0, .any, none⟩]⟩,
  ⟨"TOKENS_SENT", 0, 4, 0x110, [(0x40, 16)], 0, [⟨0, 32, .ro, 0, .any, none⟩]⟩,
  ⟨"SKIM_MISSING_COUNT", 0, 4, 0x114, [(0x40, 16)], 0, [⟨0, 32, .ro, 0, .any, none⟩]⟩,
  ⟨"REWORK_COUNT", 0, 4, 0x118, [(0x40, 16)], 0, [⟨0, 32, .ro, 0, .any, none⟩]⟩,
  ⟨"LAST_ENGAGE_CYC", 0, 4, 0x11C, [(0x40, 16)], 0, [⟨0, 6, .ro, 0, .any, none⟩]⟩,
  ⟨"BLOCKED_COUNT", 0, 4, 0x120, [(0x40, 16)], 0, [⟨0, 32, .ro, 0, .any, none⟩]⟩,
  ⟨"SKIM_RECORD", 0, 4, 0x124, [(0x40, 16)], 0, [⟨0, 14, .ro, 0, .any, none⟩, ⟨31, 1, .ro, 0, .any, none⟩]⟩]

/-- Registers of block SCM, from the spec's tables. -/
def regs_scm : List RegDef := [
  ⟨"CTRL", 0, 1, 0x10, [], 0, [⟨0, 1, .w1s, 0, .any, none⟩]⟩,
  ⟨"SLOT_NOW", 0, 1, 0x100, [], 0, [⟨0, 4, .ro, 0, .any, none⟩]⟩,
  ⟨"LOAD_CTRL", 0, 1, 0x104, [], 0, [⟨0, 1, .rw, 0, .any, none⟩, ⟨8, 6, .rw, 0, .any, none⟩, ⟨31, 1, .wo, 0, .any, none⟩]⟩,
  ⟨"LOAD_SRC_LO", 0, 1, 0x108, [], 1, [⟨0, 32, .rw, 0, .any, none⟩]⟩,
  ⟨"LOAD_SRC_HI", 0, 1, 0x10C, [], 2, [⟨0, 32, .rw, 0, .any, none⟩]⟩,
  ⟨"LOAD_STATUS", 0, 1, 0x110, [], 0, [⟨0, 2, .ro, 0, .any, none⟩, ⟨2, 1, .ro, 0, .any, none⟩, ⟨4, 4, .ro, 0, .any, none⟩]⟩,
  ⟨"LOAD_FAIL", 0, 1, 0x114, [], 0, [⟨0, 12, .ro, 0, .any, none⟩, ⟨12, 1, .ro, 0, .any, none⟩, ⟨13, 2, .ro, 0, .any, none⟩, ⟨16, 4, .ro, 0, .any, none⟩, ⟨20, 3, .ro, 0, .any, none⟩]⟩,
  ⟨"FAST_LO", 0, 1, 0x118, [], 1, [⟨0, 32, .rw, 0, .any, none⟩]⟩,
  ⟨"FAST_HI", 0, 1, 0x11C, [], 2, [⟨0, 32, .rw, 0, .any, none⟩]⟩,
  ⟨"ORPHAN_COUNT", 0, 1, 0x120, [], 0, [⟨0, 32, .ro, 0, .any, none⟩]⟩,
  ⟨"LINK_CE_COUNT", 0, 1, 0x124, [], 0, [⟨0, 32, .ro, 0, .any, none⟩]⟩,
  ⟨"LINK_UE_COUNT", 0, 1, 0x128, [], 0, [⟨0, 32, .ro, 0, .any, none⟩]⟩,
  ⟨"MISALIGN_COUNT", 0, 1, 0x12C, [], 0, [⟨0, 32, .ro, 0, .any, none⟩]⟩,
  ⟨"CTL_ACCESSES", 0, 1, 0x130, [], 0, [⟨0, 32, .ro, 0, .any, none⟩]⟩,
  ⟨"CTL_MAX_LAT", 0, 1, 0x134, [], 0, [⟨0, 16, .ro, 0, .any, none⟩]⟩,
  ⟨"SHARE_TAKEN_COUNT", 0, 1, 0x138, [], 0, [⟨0, 32, .ro, 0, .any, none⟩]⟩,
  ⟨"ROW_MAP_r", 1, 1, 0x100, [(0x4, 64)], 0, [⟨0, 7, .ro, 0x7F, .any, none⟩, ⟨8, 7, .ro, 0x7F, .any, none⟩, ⟨16, 7, .ro, 0, .any, none⟩, ⟨31, 1, .ro, 0, .any, none⟩]⟩,
  ⟨"UNUSABLE_BAYS_LO", 1, 1, 0x200, [], 1, [⟨0, 32, .ro, 0, .any, none⟩]⟩,
  ⟨"UNUSABLE_BAYS_HI", 1, 1, 0x204, [], 2, [⟨0, 32, .ro, 0, .any, none⟩]⟩,
  ⟨"REMAP_STATE", 1, 1, 0x208, [], 0, [⟨0, 1, .ro, 0, .any, none⟩]⟩,
  ⟨"STN_SEL", 2, 1, 0x100, [], 0, [⟨0, 12, .rw, 0, .any, none⟩, ⟨12, 2, .rw, 0, .any, none⟩, ⟨16, 4, .rw, 0, .any, none⟩, ⟨24, 1, .rw, 0, .any, none⟩, ⟨31, 1, .wo, 0, .any, none⟩]⟩,
  ⟨"STN_DATA", 2, 1, 0x104, [], 0, [⟨0, 16, .ro, 0, .any, none⟩, ⟨16, 1, .ro, 0, .any, none⟩, ⟨30, 1, .ro, 0, .any, none⟩, ⟨31, 1, .ro, 0, .any, none⟩]⟩]

/-- Registers of block WST, from the spec's tables. -/
def regs_wst : List RegDef := [
  ⟨"CTRL", 0, 64, 0x10, [], 0, [⟨0, 1, .w1s, 0, .any, none⟩]⟩,
  ⟨"SCFG_i", 0, 64, 0x100, [(0x10, 8)], 0, [⟨0, 1, .rwc, 0, .any, none⟩, ⟨1, 1, .rwc, 0, .any, none⟩, ⟨2, 7, .rwc, 0, .any, some (0, 64)⟩, ⟨9, 1, .rwc, 0, .any, none⟩, ⟨16, 16, .rwc, 0, .any, none⟩]⟩,
  ⟨"SADDR_i", 0, 64, 0x104, [(0x10, 8)], 0, [⟨0, 17, .rwc, 0, .any, none⟩]⟩,
  ⟨"SLEN_i", 0, 64, 0x108, [(0x10, 8)], 0, [⟨0, 18, .rwc, 0, .any, some (0, 131072)⟩]⟩,
  ⟨"SPOS_i", 0, 64, 0x10C, [(0x10, 8)], 0, [⟨0, 17, .ro, 0, .any, none⟩]⟩,
  ⟨"FILL_HBM_LO", 0, 64, 0x180, [], 1, [⟨0, 32, .rw, 0, .any, none⟩]⟩,
  ⟨"FILL_HBM_HI", 0, 64, 0x184, [], 2, [⟨0, 32, .rw, 0, .any, none⟩]⟩,
  ⟨"FILL_ADDR", 0, 64, 0x188, [], 0, [⟨0, 17, .rw, 0, .any, none⟩]⟩,
  ⟨"FILL_LEN", 0, 64, 0x18C, [], 0, [⟨0, 18, .rw, 0, .any, none⟩]⟩,
  ⟨"FILL_CTRL", 0, 64, 0x190, [], 0, [⟨0, 1, .wo, 0, .any, none⟩]⟩,
  ⟨"FILL_STATUS", 0, 64, 0x194, [], 0, [⟨0, 1, .ro, 0, .any, none⟩, ⟨1, 1, .ro, 0, .any, none⟩, ⟨2, 1, .ro, 0, .any, none⟩]⟩,
  ⟨"READS_LO", 0, 64, 0x1A0, [], 1, [⟨0, 32, .ro, 0, .any, none⟩]⟩,
  ⟨"READS_HI", 0, 64, 0x1A4, [], 2, [⟨0, 32, .ro, 0, .any, none⟩]⟩,
  ⟨"MERGED_LO", 0, 64, 0x1A8, [], 1, [⟨0, 32, .ro, 0, .any, none⟩]⟩,
  ⟨"MERGED_HI", 0, 64, 0x1AC, [], 2, [⟨0, 32, .ro, 0, .any, none⟩]⟩,
  ⟨"COLLISION_COUNT", 0, 64, 0x1B0, [], 0, [⟨0, 32, .ro, 0, .any, none⟩]⟩,
  ⟨"CE_COUNT", 0, 64, 0x1B4, [], 0, [⟨0, 32, .ro, 0, .any, none⟩]⟩,
  ⟨"UE_COUNT", 0, 64, 0x1B8, [], 0, [⟨0, 32, .ro, 0, .any, none⟩]⟩]

/-- Registers of block HBM, from the spec's tables. -/
def regs_hbm : List RegDef := [
  ⟨"IMAGE_SIZE", 0, 1, 0x100, [], 0, [⟨0, 16, .rwc, 1024, .any, some (1, 65535)⟩]⟩,
  ⟨"LIBRARY_SIZE", 0, 1, 0x104, [], 0, [⟨0, 16, .rwc, 40960, .any, none⟩]⟩,
  ⟨"TRACE_SIZE", 0, 1, 0x108, [], 0, [⟨0, 16, .rwc, 256, .any, some (1, 65535)⟩]⟩,
  ⟨"AREA_BASE_a", 0, 1, 0x110, [(0x4, 5)], 0, [⟨0, 16, .ro, 0, .any, none⟩]⟩,
  ⟨"STACKS", 0, 1, 0x130, [], 0, [⟨0, 2, .ro, 0, .any, none⟩]⟩,
  ⟨"FILL_RESERVED", 0, 1, 0x134, [], 0, [⟨0, 12, .ro, 0, .any, none⟩]⟩,
  ⟨"CE_LO", 0, 1, 0x140, [], 1, [⟨0, 32, .ro, 0, .any, none⟩]⟩,
  ⟨"CE_HI", 0, 1, 0x144, [], 2, [⟨0, 32, .ro, 0, .any, none⟩]⟩,
  ⟨"UE_COUNT", 0, 1, 0x148, [], 0, [⟨0, 32, .ro, 0, .any, none⟩]⟩,
  ⟨"UE_ADDR_LO", 0, 1, 0x14C, [], 1, [⟨0, 32, .ro, 0, .any, none⟩]⟩,
  ⟨"UE_ADDR_HI", 0, 1, 0x150, [], 2, [⟨0, 32, .ro, 0, .any, none⟩]⟩,
  ⟨"PIPE_MIN_p", 1, 1, 0x100, [(0x4, 64)], 0, [⟨0, 13, .rwc, 0, .any, some (0, 4096)⟩, ⟨16, 13, .rwc, 0, .any, some (0, 4096)⟩]⟩,
  ⟨"PIPE_HELD_p", 1, 1, 0x200, [(0x4, 64)], 0, [⟨0, 13, .ro, 0, .any, none⟩, ⟨16, 13, .ro, 0, .any, none⟩]⟩,
  ⟨"FREE_SHARED", 1, 1, 0x300, [], 0, [⟨0, 13, .ro, 4096, .any, none⟩, ⟨16, 13, .ro, 4096, .any, none⟩]⟩,
  ⟨"POINTERS", 1, 1, 0x308, [], 0, [⟨0, 6, .ro, 0, .any, none⟩, ⟨8, 6, .ro, 0, .any, none⟩]⟩,
  ⟨"CTRL", 2, 1, 0x10, [], 0, [⟨0, 1, .w1s, 0, .any, none⟩]⟩,
  ⟨"ING_CONTENTION_p", 2, 1, 0x100, [(0x8, 64)], 0, [⟨0, 32, .ro, 0, .any, none⟩]⟩,
  ⟨"EGR_CONTENTION_p", 2, 1, 0x104, [(0x8, 64)], 0, [⟨0, 32, .ro, 0, .any, none⟩]⟩,
  ⟨"EGR_WAIT_p", 2, 1, 0x300, [(0x4, 64)], 0, [⟨0, 32, .ro, 0, .any, none⟩]⟩,
  ⟨"CH_CE_j", 16, 16, 0x100, [(0x10, 2)], 0, [⟨0, 32, .ro, 0, .any, none⟩]⟩,
  ⟨"CH_UE_j", 16, 16, 0x104, [(0x10, 2)], 0, [⟨0, 32, .ro, 0, .any, none⟩]⟩,
  ⟨"ONDIE_COUNT_j", 16, 16, 0x108, [(0x10, 2)], 0, [⟨0, 32, .ro, 0, .any, none⟩]⟩]

/-- Registers of block SND, from the spec's tables. -/
def regs_snd : List RegDef := [
  ⟨"CTRL", 0, 1, 0x10, [], 0, [⟨0, 1, .w1s, 0, .any, none⟩]⟩,
  ⟨"SND_CFG", 0, 1, 0x100, [], 0, [⟨0, 5, .rw, 31, .mgmtSup, none⟩, ⟨8, 1, .rw, 1, .mgmtSup, none⟩]⟩,
  ⟨"SND_STATUS", 0, 1, 0x104, [], 0, [⟨0, 1, .ro, 0, .any, none⟩, ⟨1, 1, .ro, 0, .any, none⟩, ⟨2, 1, .ro, 0, .any, none⟩, ⟨4, 3, .ro, 0, .any, none⟩]⟩,
  ⟨"PROGRESS_SIG", 0, 1, 0x108, [], 0, [⟨0, 32, .ro, 0, .any, none⟩]⟩,
  ⟨"PASS_COUNT", 0, 1, 0x10C, [], 0, [⟨0, 32, .ro, 0, .any, none⟩]⟩,
  ⟨"LAST_PASS_US", 0, 1, 0x110, [], 0, [⟨0, 32, .ro, 0, .any, none⟩]⟩,
  ⟨"TMR_FIX_COUNT", 0, 1, 0x114, [], 0, [⟨0, 32, .ro, 0, .any, none⟩]⟩,
  ⟨"REWRITES", 0, 1, 0x118, [], 0, [⟨0, 32, .ro, 0, .any, none⟩]⟩,
  ⟨"DEFERRED", 0, 1, 0x11C, [], 0, [⟨0, 32, .ro, 0, .any, none⟩]⟩,
  ⟨"PAUSE_CYCLES", 0, 1, 0x120, [], 0, [⟨0, 32, .ro, 0, .any, none⟩]⟩,
  ⟨"GOLDEN_UE_COUNT", 0, 1, 0x124, [], 0, [⟨0, 32, .ro, 0, .any, none⟩]⟩,
  ⟨"GOLDEN_BAD_LO", 0, 1, 0x128, [], 1, [⟨0, 32, .ro, 0, .any, none⟩]⟩,
  ⟨"GOLDEN_BAD_HI", 0, 1, 0x12C, [], 2, [⟨0, 32, .ro, 0, .any, none⟩]⟩,
  ⟨"BASE_GOLDEN_BAD", 0, 1, 0x130, [], 0, [⟨0, 1, .ro, 0, .any, none⟩]⟩,
  ⟨"CTRL", 1, 1, 0x10, [], 0, [⟨0, 1, .w1s, 0, .any, none⟩]⟩,
  ⟨"CE_c", 1, 1, 0x100, [(0x8, 5)], 0, [⟨0, 32, .ro, 0, .any, none⟩]⟩,
  ⟨"UE_c", 1, 1, 0x104, [(0x8, 5)], 0, [⟨0, 32, .ro, 0, .any, none⟩]⟩,
  ⟨"REGION_PAUSES_r", 1, 1, 0x140, [(0x4, 64)], 0, [⟨0, 32, .ro, 0, .any, none⟩]⟩]

/-- Registers of block OBS, from the spec's tables. -/
def regs_obs : List RegDef := [
  ⟨"CTRL", 0, 1, 0x10, [], 0, [⟨0, 1, .w1s, 0, .any, none⟩]⟩,
  ⟨"TRACE_CTRL", 0, 1, 0x100, [], 0, [⟨0, 1, .rwc, 0, .any, none⟩, ⟨8, 5, .rwc, 0, .any, none⟩]⟩,
  ⟨"TRACE_BASE_LO", 0, 1, 0x104, [], 1, [⟨0, 32, .rwc, 0, .any, none⟩]⟩,
  ⟨"TRACE_BASE_HI", 0, 1, 0x108, [], 2, [⟨0, 32, .rwc, 0, .any, none⟩]⟩,
  ⟨"TRACE_MIRROR_LO", 0, 1, 0x10C, [], 1, [⟨0, 32, .rwc, 0, .any, none⟩]⟩,
  ⟨"TRACE_MIRROR_HI", 0, 1, 0x110, [], 2, [⟨0, 32, .rwc, 0, .any, none⟩]⟩,
  ⟨"TRACE_WR", 0, 1, 0x114, [], 0, [⟨0, 32, .ro, 0, .any, none⟩]⟩,
  ⟨"TRACE_RD", 0, 1, 0x118, [], 0, [⟨0, 32, .rw, 0, .any, none⟩]⟩,
  ⟨"TRACE_SEQ", 0, 1, 0x11C, [], 0, [⟨0, 32, .ro, 0, .any, none⟩]⟩,
  ⟨"TRACE_HELD", 0, 1, 0x120, [], 0, [⟨0, 32, .ro, 0, .any, none⟩]⟩,
  ⟨"TRACE_LOST", 0, 1, 0x124, [], 0, [⟨0, 32, .ro, 0, .any, none⟩]⟩,
  ⟨"SAMPLE_CFG_p", 1, 1, 0x100, [(0x8, 64)], 0, [⟨0, 5, .rwc, 0, .any, none⟩, ⟨16, 16, .rwc, 0, .any, none⟩]⟩,
  ⟨"STAGES_p", 1, 1, 0x104, [(0x8, 64)], 0, [⟨0, 9, .ro, 0, .any, none⟩]⟩,
  ⟨"QSEL", 2, 1, 0x100, [], 0, [⟨0, 16, .rw, 0, .any, none⟩]⟩,
  ⟨"QCNT_i", 2, 1, 0x104, [(0x4, 4)], 0, [⟨0, 32, .ro, 0, .any, none⟩]⟩,
  ⟨"TSEL", 2, 1, 0x120, [], 0, [⟨0, 10, .rw, 0, .any, none⟩]⟩,
  ⟨"TCTL", 2, 1, 0x124, [], 0, [⟨0, 1, .w1s, 0, .any, none⟩]⟩,
  ⟨"TCNT_i", 2, 1, 0x140, [(0x4, 15)], 0, [⟨0, 32, .ro, 0, .any, none⟩]⟩,
  ⟨"TBYTES_IN_LO", 2, 1, 0x180, [], 1, [⟨0, 32, .ro, 0, .any, none⟩]⟩,
  ⟨"TBYTES_IN_HI", 2, 1, 0x184, [], 2, [⟨0, 32, .ro, 0, .any, none⟩]⟩,
  ⟨"TBYTES_OUT_LO", 2, 1, 0x188, [], 1, [⟨0, 32, .ro, 0, .any, none⟩]⟩,
  ⟨"TBYTES_OUT_HI", 2, 1, 0x18C, [], 2, [⟨0, 32, .ro, 0, .any, none⟩]⟩,
  ⟨"TRUNAHEAD_DISCARD", 2, 1, 0x190, [], 0, [⟨0, 32, .ro, 0, .any, none⟩]⟩]

/-- Registers of block LTH, from the spec's tables. -/
def regs_lth : List RegDef := [
  ⟨"CTRL", 0, 1, 0x10, [], 0, [⟨0, 1, .w1s, 0, .any, none⟩, ⟨1, 1, .rw, 0, .any, none⟩]⟩,
  ⟨"LTH_STATE", 0, 1, 0x100, [], 0, [⟨0, 1, .ro, 0, .any, none⟩]⟩,
  ⟨"LRA_CLK", 0, 1, 0x104, [], 0, [⟨0, 3, .ro, 0, .any, none⟩]⟩,
  ⟨"OWNER_w", 0, 1, 0x110, [(0x4, 16)], 0, [⟨0, 32, .ro, 4294967295, .any, none⟩]⟩,
  ⟨"LRA_ACCESSES", 0, 1, 0x150, [], 0, [⟨0, 32, .ro, 0, .any, none⟩]⟩,
  ⟨"LRA_DENIED", 0, 1, 0x154, [], 0, [⟨0, 32, .ro, 0, .any, none⟩]⟩,
  ⟨"BLOCK_STATE_b", 1, 1, 0x100, [(0x4, 64)], 0, [⟨0, 2, .ro, 0, .any, none⟩, ⟨2, 1, .ro, 1, .any, none⟩]⟩,
  ⟨"CFG_CE_b", 1, 1, 0x200, [(0x4, 64)], 0, [⟨0, 32, .ro, 0, .any, none⟩]⟩,
  ⟨"CFG_UE_b", 1, 1, 0x300, [(0x4, 64)], 0, [⟨0, 32, .ro, 0, .any, none⟩]⟩,
  ⟨"BRAM_CE_b", 1, 1, 0x400, [(0x4, 64)], 0, [⟨0, 32, .ro, 0, .any, none⟩]⟩,
  ⟨"BRAM_UE_b", 1, 1, 0x500, [(0x4, 64)], 0, [⟨0, 32, .ro, 0, .any, none⟩]⟩,
  ⟨"RB_FAR", 2, 1, 0x100, [], 0, [⟨0, 11, .rw, 0, .any, some (0, 1279)⟩, ⟨16, 6, .rw, 0, .any, none⟩]⟩,
  ⟨"RB_GO", 2, 1, 0x104, [], 0, [⟨0, 1, .wo, 0, .any, none⟩]⟩,
  ⟨"RB_STATUS", 2, 1, 0x108, [], 0, [⟨0, 1, .ro, 0, .any, none⟩, ⟨1, 1, .ro, 0, .any, none⟩, ⟨2, 1, .ro, 0, .any, none⟩, ⟨3, 1, .ro, 0, .any, none⟩]⟩,
  ⟨"RB_CRC", 2, 1, 0x10C, [], 0, [⟨0, 16, .ro, 0, .any, none⟩]⟩,
  ⟨"RB_DATA_i", 2, 1, 0x800, [(0x4, 128)], 0, [⟨0, 32, .ro, 0, .any, none⟩]⟩,
  ⟨"LPORT_CFG_r", 3, 1, 0x100, [(0x4, 64)], 0, [⟨0, 1, .ro, 0, .any, none⟩, ⟨1, 1, .ro, 0, .any, none⟩, ⟨2, 3, .ro, 0, .any, none⟩, ⟨5, 1, .ro, 0, .any, none⟩]⟩,
  ⟨"LPORT_STAT_r", 3, 1, 0x200, [(0x4, 64)], 0, [⟨0, 6, .ro, 0, .any, none⟩, ⟨8, 6, .ro, 0, .any, none⟩]⟩,
  ⟨"LP_RX_WAIT_r", 3, 1, 0x300, [(0x4, 64)], 0, [⟨0, 32, .ro, 0, .any, none⟩]⟩,
  ⟨"LP_FLUSHED_r", 3, 1, 0x400, [(0x4, 64)], 0, [⟨0, 32, .ro, 0, .any, none⟩]⟩]

/-- Registers of block QEN, from the spec's tables. -/
def regs_qen : List RegDef := [
  ⟨"CTRL", 0, 1, 0x10, [], 0, [⟨0, 1, .w1s, 0, .any, none⟩]⟩,
  ⟨"TURNS_LO", 0, 1, 0x100, [], 1, [⟨0, 32, .ro, 0, .any, none⟩]⟩,
  ⟨"TURNS_HI", 0, 1, 0x104, [], 2, [⟨0, 32, .ro, 0, .any, none⟩]⟩,
  ⟨"CANCEL_REJECTS", 0, 1, 0x108, [], 0, [⟨0, 32, .ro, 0, .any, none⟩]⟩,
  ⟨"CANCEL_LATE", 0, 1, 0x10C, [], 0, [⟨0, 32, .ro, 0, .any, none⟩]⟩,
  ⟨"DISCARDED", 0, 1, 0x110, [], 0, [⟨0, 32, .ro, 0, .any, none⟩]⟩,
  ⟨"WDOG_QUEUE", 0, 1, 0x114, [], 0, [⟨0, 16, .ro, 0, .any, none⟩, ⟨31, 1, .ro, 0, .any, none⟩]⟩,
  ⟨"COMMIT_QUEUE", 1, 1, 0x100, [], 0, [⟨0, 16, .rw, 0, .any, none⟩]⟩,
  ⟨"QUEUE_CMD", 1, 1, 0x104, [], 0, [⟨0, 16, .wo, 0, .any, none⟩, ⟨16, 2, .wo, 0, .any, none⟩]⟩,
  ⟨"QUEUE_CMD_STATUS", 1, 1, 0x108, [], 0, [⟨0, 1, .ro, 0, .any, none⟩, ⟨1, 1, .ro, 0, .any, none⟩]⟩,
  ⟨"RESET_ABANDONED", 1, 1, 0x10C, [], 0, [⟨0, 32, .ro, 0, .any, none⟩]⟩,
  ⟨"RESET_OLD_HEAD", 1, 1, 0x110, [], 0, [⟨0, 32, .ro, 0, .any, none⟩]⟩]

/-- Registers of block HOD, from the spec's tables. -/
def regs_hod : List RegDef := [
  ⟨"CTRL", 0, 16, 0x10, [], 0, [⟨0, 1, .w1s, 0, .any, none⟩]⟩,
  ⟨"HOD_CFG", 0, 16, 0x100, [], 0, [⟨0, 6, .rw, 48, .any, some (1, 48)⟩]⟩,
  ⟨"READS_OUT", 0, 16, 0x104, [], 0, [⟨0, 6, .ro, 0, .any, none⟩]⟩,
  ⟨"BYTES_IN_LO", 0, 16, 0x108, [], 1, [⟨0, 32, .ro, 0, .any, none⟩]⟩,
  ⟨"BYTES_IN_HI", 0, 16, 0x10C, [], 2, [⟨0, 32, .ro, 0, .any, none⟩]⟩,
  ⟨"BYTES_OUT_LO", 0, 16, 0x110, [], 1, [⟨0, 32, .ro, 0, .any, none⟩]⟩,
  ⟨"BYTES_OUT_HI", 0, 16, 0x114, [], 2, [⟨0, 32, .ro, 0, .any, none⟩]⟩,
  ⟨"JOBS_STAGED", 0, 16, 0x118, [], 0, [⟨0, 32, .ro, 0, .any, none⟩]⟩,
  ⟨"READ_FAILS", 0, 16, 0x11C, [], 0, [⟨0, 32, .ro, 0, .any, none⟩]⟩]

/-- Registers of block JTK, from the spec's tables. -/
def regs_jtk : List RegDef := [
  ⟨"CTRL", 0, 1, 0x10, [], 0, [⟨0, 1, .w1s, 0, .any, none⟩]⟩,
  ⟨"USED", 0, 1, 0x100, [], 0, [⟨0, 16, .ro, 0, .any, none⟩]⟩,
  ⟨"HIGH", 0, 1, 0x104, [], 0, [⟨0, 16, .ro, 0, .any, none⟩]⟩,
  ⟨"SUPPRESSED", 0, 1, 0x108, [], 0, [⟨0, 16, .ro, 0, .any, none⟩]⟩,
  ⟨"FULL_TURNS", 0, 1, 0x10C, [], 0, [⟨0, 32, .ro, 0, .any, none⟩]⟩]

/-- Registers of block TEN, from the spec's tables. -/
def regs_ten : List RegDef := [
  ⟨"CTRL", 0, 1024, 0x10, [], 0, [⟨0, 1, .w1s, 0, .any, none⟩]⟩,
  ⟨"WBASE_LO_w", 0, 1024, 0x100, [(0x20, 16)], 1, [⟨0, 32, .rwc, 0, .any, none⟩]⟩,
  ⟨"WBASE_HI_w", 0, 1024, 0x104, [(0x20, 16)], 2, [⟨0, 32, .rwc, 0, .any, none⟩]⟩,
  ⟨"HOST_LO_w", 0, 1024, 0x108, [(0x20, 16)], 1, [⟨0, 32, .rwc, 0, .any, none⟩]⟩,
  ⟨"HOST_HI_w", 0, 1024, 0x10C, [(0x20, 16)], 2, [⟨0, 32, .rwc, 0, .any, none⟩]⟩,
  ⟨"SIZE_w", 0, 1024, 0x110, [(0x20, 16)], 0, [⟨0, 32, .rwc, 0, .any, none⟩]⟩,
  ⟨"PERM_w", 0, 1024, 0x114, [(0x20, 16)], 0, [⟨0, 1, .rwc, 0, .any, none⟩, ⟨1, 1, .rwc, 0, .any, none⟩]⟩,
  ⟨"TEN_CFG", 0, 1024, 0x300, [], 0, [⟨0, 8, .rwc, 0, .any, none⟩]⟩,
  ⟨"JOBS_QUOTA", 0, 1024, 0x304, [], 0, [⟨0, 16, .rwc, 0, .any, some (0, 32768)⟩]⟩,
  ⟨"SKIM_QUOTA", 0, 1024, 0x308, [], 0, [⟨0, 24, .rwc, 0, .any, none⟩]⟩,
  ⟨"BUF_MIN", 0, 1024, 0x30C, [], 0, [⟨0, 13, .rwc, 0, .any, some (0, 4096)⟩, ⟨16, 13, .rwc, 0, .any, some (0, 4096)⟩]⟩,
  ⟨"JOBS_NOW", 0, 1024, 0x310, [], 0, [⟨0, 16, .ro, 0, .any, none⟩]⟩,
  ⟨"SKIM_UNITS", 0, 1024, 0x314, [], 0, [⟨0, 24, .ro, 0, .any, none⟩]⟩,
  ⟨"BUF_HELD", 0, 1024, 0x318, [], 0, [⟨0, 13, .ro, 0, .any, none⟩, ⟨16, 13, .ro, 0, .any, none⟩]⟩,
  ⟨"WINDOW_FAULTS", 0, 1024, 0x320, [], 0, [⟨0, 32, .ro, 0, .any, none⟩]⟩,
  ⟨"QUOTA_TURNS", 0, 1024, 0x324, [], 0, [⟨0, 32, .ro, 0, .any, none⟩]⟩,
  ⟨"SKL_SRC_LO", 0, 1024, 0x340, [], 1, [⟨0, 32, .rw, 0, .any, none⟩]⟩,
  ⟨"SKL_SRC_HI", 0, 1024, 0x344, [], 2, [⟨0, 32, .rw, 0, .any, none⟩]⟩,
  ⟨"SKL_CMD", 0, 1024, 0x348, [], 0, [⟨0, 2, .wo, 0, .any, none⟩, ⟨16, 14, .wo, 0, .any, none⟩, ⟨31, 1, .wo, 0, .any, none⟩]⟩,
  ⟨"SKL_STATUS", 0, 1024, 0x34C, [], 0, [⟨0, 3, .ro, 0, .any, none⟩, ⟨4, 4, .ro, 0, .any, none⟩, ⟨8, 8, .ro, 0, .any, none⟩]⟩,
  ⟨"SKL_LEN", 0, 1024, 0x350, [], 0, [⟨0, 32, .rw, 0, .any, none⟩]⟩]

/-- Registers of block QST, from the spec's tables. -/
def regs_qst : List RegDef := [
  ⟨"QCTL", 0, 1, 0x0, [(0x40, 65536)], 0, [⟨0, 1, .rwc, 0, .any, none⟩, ⟨1, 1, .rwc, 0, .any, none⟩, ⟨2, 1, .rwc, 0, .any, none⟩, ⟨3, 1, .rwc, 0, .any, none⟩, ⟨8, 5, .rwc, 0, .any, some (4, 16)⟩]⟩,
  ⟨"RING_BASE_LO", 0, 1, 0x4, [(0x40, 65536)], 1, [⟨0, 32, .rwc, 0, .any, none⟩]⟩,
  ⟨"RING_BASE_HI", 0, 1, 0x8, [(0x40, 65536)], 2, [⟨0, 32, .rwc, 0, .any, none⟩]⟩,
  ⟨"SERVICE", 0, 1, 0xC, [(0x40, 65536)], 0, [⟨0, 8, .rwc, 0, .any, none⟩, ⟨8, 7, .rwc, 0, .any, some (1, 64)⟩]⟩,
  ⟨"TIMERS", 0, 1, 0x10, [(0x40, 65536)], 0, [⟨0, 16, .rwc, 0, .any, none⟩, ⟨16, 16, .rwc, 0, .any, none⟩]⟩,
  ⟨"MIRROR_LO", 0, 1, 0x14, [(0x40, 65536)], 1, [⟨0, 32, .rwc, 0, .any, none⟩]⟩,
  ⟨"MIRROR_HI", 0, 1, 0x18, [(0x40, 65536)], 2, [⟨0, 32, .rwc, 0, .any, none⟩]⟩,
  ⟨"COALESCE", 0, 1, 0x1C, [(0x40, 65536)], 0, [⟨0, 8, .rwc, 0, .any, none⟩, ⟨16, 16, .rwc, 0, .any, none⟩]⟩,
  ⟨"HEAD", 0, 1, 0x20, [(0x40, 65536)], 0, [⟨0, 32, .ro, 0, .any, none⟩]⟩,
  ⟨"FETCH_IDX", 0, 1, 0x24, [(0x40, 65536)], 0, [⟨0, 32, .ro, 0, .any, none⟩]⟩,
  ⟨"QSTATUS", 0, 1, 0x28, [(0x40, 65536)], 0, [⟨0, 1, .ro, 0, .any, none⟩, ⟨1, 1, .ro, 1, .any, none⟩, ⟨2, 1, .ro, 0, .any, none⟩, ⟨3, 1, .ro, 0, .any, none⟩, ⟨4, 1, .ro, 0, .any, none⟩, ⟨5, 1, .ro, 0, .any, none⟩, ⟨6, 1, .ro, 0, .any, none⟩, ⟨7, 1, .ro, 0, .any, none⟩]⟩,
  ⟨"QERR", 0, 1, 0x2C, [(0x40, 65536)], 0, [⟨0, 8, .ro, 0, .any, none⟩, ⟨8, 8, .ro, 0, .any, none⟩, ⟨31, 1, .w1c, 0, .any, none⟩]⟩,
  ⟨"QERR_IDX", 0, 1, 0x30, [(0x40, 65536)], 0, [⟨0, 32, .ro, 0, .any, none⟩]⟩,
  ⟨"QERR_ADDR_LO", 0, 1, 0x34, [(0x40, 65536)], 1, [⟨0, 32, .ro, 0, .any, none⟩]⟩,
  ⟨"QERR_ADDR_HI", 0, 1, 0x38, [(0x40, 65536)], 2, [⟨0, 32, .ro, 0, .any, none⟩]⟩,
  ⟨"COMPLETED", 0, 1, 0x3C, [(0x40, 65536)], 0, [⟨0, 32, .ro, 0, .any, none⟩]⟩]

/-- Registers of block TRW, from the spec's tables. -/
def regs_trw_0 : List RegDef := [
  ⟨"CTRL", 0, 4096, 0x10, [], 0, [⟨0, 1, .w1s, 0, .any, none⟩]⟩,
  ⟨"TILE_LOC", 0, 4096, 0x100, [], 0, [⟨0, 6, .ro, 0, .any, none⟩, ⟨6, 6, .ro, 0, .any, none⟩, ⟨12, 7, .ro, 0, .any, none⟩, ⟨24, 6, .ro, 0, .any, none⟩]⟩,
  ⟨"TILE_STATE", 0, 4096, 0x104, [], 0, [⟨0, 3, .ro, 0, .any, none⟩, ⟨4, 3, .ro, 0, .any, none⟩, ⟨8, 4, .ro, 0, .any, none⟩, ⟨12, 1, .ro, 1, .any, none⟩]⟩,
  ⟨"QUEUE_OCC_IN", 0, 4096, 0x108, [], 0, [⟨0, 7, .ro, 0, .any, none⟩, ⟨8, 7, .ro, 0, .any, none⟩, ⟨16, 7, .ro, 0, .any, none⟩, ⟨24, 7, .ro, 0, .any, none⟩]⟩,
  ⟨"QUEUE_OCC_OUT", 0, 4096, 0x10C, [], 0, [⟨0, 7, .ro, 0, .any, none⟩, ⟨8, 7, .ro, 0, .any, none⟩]⟩,
  ⟨"CTX_COUNT", 0, 4096, 0x110, [], 0, [⟨0, 4, .rwc, 0, .any, some (0, 8)⟩]⟩,
  ⟨"HAWK_SLOTS", 0, 4096, 0x114, [], 0, [⟨0, 5, .rwc, 0, .any, some (0, 16)⟩, ⟨16, 11, .rwc, 0, .any, none⟩]⟩,
  ⟨"SLOT_BASE", 0, 4096, 0x118, [], 0, [⟨0, 11, .rwc, 0, .any, none⟩]⟩,
  ⟨"CTX_HAWK_c", 0, 4096, 0x120, [(0x4, 8)], 0, [⟨0, 11, .rwc, 0, .any, none⟩, ⟨16, 11, .rwc, 0, .any, none⟩]⟩,
  ⟨"CTX_ACC_c", 0, 4096, 0x140, [(0x4, 8)], 0, [⟨0, 6, .rwc, 0, .any, none⟩, ⟨8, 7, .rwc, 0, .any, some (0, 64)⟩]⟩,
  ⟨"SLOT_ACT_s", 0, 4096, 0x160, [(0x4, 16)], 0, [⟨0, 5, .rwc, 0, .any, none⟩, ⟨8, 4, .rwc, 0, .any, some (0, 8)⟩]⟩,
  ⟨"SLOT_SKIM_s", 0, 4096, 0x1A0, [(0x4, 16)], 0, [⟨0, 14, .ro, 0, .any, none⟩, ⟨30, 1, .ro, 0, .any, none⟩, ⟨31, 1, .ro, 0, .any, none⟩]⟩,
  ⟨"FRAME_ORD_c", 0, 4096, 0x1E0, [(0x4, 8)], 0, [⟨0, 32, .ro, 0, .any, none⟩]⟩,
  ⟨"ISSUE_CYCLES_LO", 0, 4096, 0x200, [], 1, [⟨0, 32, .ro, 0, .any, none⟩]⟩,
  ⟨"ISSUE_CYCLES_HI", 0, 4096, 0x204, [], 2, [⟨0, 32, .ro, 0, .any, none⟩]⟩,
  ⟨"GATED_CYCLES_LO", 0, 4096, 0x208, [], 1, [⟨0, 32, .ro, 0, .any, none⟩]⟩,
  ⟨"GATED_CYCLES_HI", 0, 4096, 0x20C, [], 2, [⟨0, 32, .ro, 0, .any, none⟩]⟩,
  ⟨"WAIT_IN_LO", 0, 4096, 0x210, [], 1, [⟨0, 32, .ro, 0, .any, none⟩]⟩,
  ⟨"WAIT_IN_HI", 0, 4096, 0x214, [], 2, [⟨0, 32, .ro, 0, .any, none⟩]⟩,
  ⟨"WAIT_OUT_LO", 0, 4096, 0x218, [], 1, [⟨0, 32, .ro, 0, .any, none⟩]⟩,
  ⟨"WAIT_OUT_HI", 0, 4096, 0x21C, [], 2, [⟨0, 32, .ro, 0, .any, none⟩]⟩,
  ⟨"HAWK_CE_COUNT", 0, 4096, 0x220, [], 0, [⟨0, 32, .ro, 0, .any, none⟩]⟩,
  ⟨"MEM_UE_COUNT", 0, 4096, 0x224, [], 0, [⟨0, 32, .ro, 0, .any, none⟩]⟩,
  ⟨"PROG_SEL", 0, 4096, 0x230, [], 0, [⟨0, 3, .rw, 0, .any, none⟩, ⟨8, 6, .rw, 0, .any, none⟩]⟩]

/-- Registers of block TRW, from the spec's tables. -/
def regs_trw_1 : List RegDef := [
  ⟨"PROG_WORD_LO", 0, 4096, 0x234, [], 1, [⟨0, 32, .ro, 0, .any, none⟩]⟩,
  ⟨"PROG_WORD_HI", 0, 4096, 0x238, [], 2, [⟨0, 32, .ro, 0, .any, none⟩]⟩,
  ⟨"PEEK_ADDR", 0, 4096, 0x240, [], 0, [⟨0, 15, .rw, 0, .any, some (0, 24575)⟩]⟩,
  ⟨"PEEK_STATUS", 0, 4096, 0x244, [], 0, [⟨0, 1, .ro, 0, .any, none⟩, ⟨1, 1, .ro, 0, .any, none⟩, ⟨2, 1, .ro, 0, .any, none⟩]⟩,
  ⟨"PEEK_LO", 0, 4096, 0x248, [], 1, [⟨0, 32, .ro, 0, .any, none⟩]⟩,
  ⟨"PEEK_HI", 0, 4096, 0x24C, [], 2, [⟨0, 32, .ro, 0, .any, none⟩]⟩]

/-- All registers of block TRW. -/
def regs_trw : List RegDef := regs_trw_0 ++ regs_trw_1

/-- Registers of block IOB, from the spec's tables. -/
def regs_iob : List RegDef := [
  ⟨"IO_CFG_p", 0, 12, 0x100, [(0x4, 48)], 0, [⟨0, 3, .rwc, 0, .any, some (0, 4)⟩, ⟨4, 2, .rwc, 0, .any, none⟩, ⟨6, 1, .rwc, 0, .any, none⟩, ⟨8, 2, .rwc, 0, .any, none⟩, ⟨10, 1, .rwc, 0, .any, none⟩, ⟨11, 1, .rwc, 0, .any, none⟩]⟩,
  ⟨"BANK_CFG", 0, 12, 0x1C0, [], 0, [⟨0, 3, .rwc, 0, .any, some (0, 5)⟩]⟩,
  ⟨"BANK_STAT", 0, 12, 0x1C4, [], 0, [⟨0, 13, .ro, 0, .any, none⟩, ⟨16, 1, .ro, 0, .any, none⟩]⟩,
  ⟨"ALIVE_CFG", 0, 1, 0x800, [], 0, [⟨0, 14, .rwc, 0, .any, none⟩, ⟨31, 1, .rwc, 0, .any, none⟩]⟩,
  ⟨"HB_WINDOW", 0, 1, 0x804, [], 0, [⟨0, 24, .rwc, 0, .any, none⟩]⟩,
  ⟨"ALIVE_STATUS", 0, 1, 0x808, [], 0, [⟨0, 1, .ro, 0, .any, none⟩, ⟨1, 1, .ro, 0, .any, none⟩, ⟨4, 2, .ro, 0, .any, none⟩, ⟨8, 1, .ro, 0, .any, none⟩]⟩,
  ⟨"ALIVE_CLEAR", 0, 1, 0x80C, [], 0, [⟨0, 1, .wo, 0, .any, none⟩]⟩,
  ⟨"OK_REQ", 0, 1, 0x810, [], 0, [⟨0, 1, .rw, 0, .mgmtSup, none⟩]⟩,
  ⟨"PRESENCE_STATUS", 0, 1, 0x814, [], 0, [⟨0, 1, .ro, 0, .any, none⟩, ⟨1, 1, .ro, 0, .any, none⟩, ⟨2, 1, .ro, 0, .any, none⟩]⟩,
  ⟨"ALIVE_STOPS", 0, 1, 0x818, [], 0, [⟨0, 32, .ro, 0, .any, none⟩]⟩,
  ⟨"SB_STATUS", 0, 1, 0x900, [], 0, [⟨0, 1, .ro, 0, .any, none⟩, ⟨1, 7, .ro, 0x64, .any, none⟩, ⟨8, 8, .ro, 0, .any, none⟩, ⟨16, 7, .ro, 0, .any, none⟩]⟩,
  ⟨"SB_DROPPED", 0, 1, 0x904, [], 0, [⟨0, 32, .ro, 0, .any, none⟩]⟩,
  ⟨"SB_ACCESSES", 0, 1, 0x908, [], 0, [⟨0, 32, .ro, 0, .any, none⟩]⟩]

/-- Registers of block CLK, from the spec's tables. -/
def regs_clk : List RegDef := [
  ⟨"PLL_CFG_k", 0, 1, 0x100, [(0x8, 8)], 0, [⟨0, 3, .rwc, 0, .any, none⟩, ⟨8, 8, .rwc, 0, .any, none⟩, ⟨31, 1, .rwc, 0, .any, none⟩]⟩,
  ⟨"PLL_ODIV_k", 0, 1, 0x104, [(0x8, 8)], 0, [⟨0, 8, .rwc, 0, .any, none⟩, ⟨8, 8, .rwc, 0, .any, none⟩, ⟨16, 8, .rwc, 0, .any, none⟩, ⟨24, 8, .rwc, 0, .any, none⟩]⟩,
  ⟨"PLL_LOCKED", 0, 1, 0x180, [], 0, [⟨0, 8, .ro, 0, .any, none⟩]⟩,
  ⟨"GCLK_CFG_g", 1, 1, 0x100, [(0x4, 32)], 0, [⟨0, 6, .rwc, 0, .any, none⟩, ⟨8, 6, .rwc, 0, .any, none⟩, ⟨16, 1, .rwc, 0, .any, none⟩, ⟨20, 5, .rwc, 0, .any, none⟩, ⟨31, 1, .rwc, 0, .any, none⟩]⟩,
  ⟨"GCLK_FREQ_g", 1, 1, 0x200, [(0x4, 32)], 0, [⟨0, 32, .ro, 0, .any, none⟩]⟩,
  ⟨"GCLK_STOPPED", 1, 1, 0x300, [], 0, [⟨0, 32, .ro, 0, .any, none⟩]⟩,
  ⟨"SWITCHING", 1, 1, 0x304, [], 0, [⟨0, 32, .ro, 0, .any, none⟩]⟩,
  ⟨"RCLK_CFG_c_i", 2, 1, 0x100, [(0x20, 16), (0x4, 8)], 0, [⟨0, 5, .rwc, 0, .any, none⟩, ⟨8, 5, .rwc, 0, .any, none⟩, ⟨16, 1, .rwc, 0, .any, none⟩]⟩,
  ⟨"RRST_CFG_c_i", 2, 1, 0x300, [(0x20, 16), (0x4, 8)], 0, [⟨0, 2, .rwc, 0, .any, none⟩, ⟨4, 3, .rwc, 0, .any, none⟩, ⟨8, 16, .rwc, 0, .any, none⟩]⟩,
  ⟨"CTRL", 3, 1, 0x10, [], 0, [⟨0, 1, .w1s, 0, .any, none⟩]⟩,
  ⟨"PLL_UNLOCKS_k", 3, 1, 0x100, [(0x4, 8)], 0, [⟨0, 32, .ro, 0, .any, none⟩]⟩,
  ⟨"STUCK_SWITCHES", 3, 1, 0x120, [], 0, [⟨0, 32, .ro, 0, .any, none⟩]⟩,
  ⟨"OVERFREQS", 3, 1, 0x124, [], 0, [⟨0, 32, .ro, 0, .any, none⟩]⟩]

/-- Registers of block XCV, from the spec's tables. -/
def regs_xcv : List RegDef := [
  ⟨"CTRL", 0, 32, 0x10, [], 0, [⟨0, 1, .w1s, 0, .any, none⟩]⟩,
  ⟨"LANE_CFG", 0, 32, 0x100, [], 0, [⟨0, 1, .rwc, 0, .any, none⟩, ⟨1, 2, .rwc, 0, .any, some (0, 2)⟩, ⟨3, 1, .rwc, 0, .any, none⟩, ⟨4, 1, .rwc, 0, .any, none⟩, ⟨5, 2, .rwc, 0, .any, some (0, 2)⟩, ⟨8, 3, .rwc, 0, .any, none⟩]⟩,
  ⟨"RATE", 0, 32, 0x104, [], 0, [⟨0, 2, .rwc, 0, .any, some (0, 2)⟩, ⟨8, 8, .rwc, 0, .any, some (16, 255)⟩, ⟨16, 3, .rwc, 0, .any, some (0, 4)⟩]⟩,
  ⟨"TX_FIR", 0, 32, 0x108, [], 0, [⟨0, 6, .rwc, 0, .any, none⟩, ⟨8, 6, .rwc, 48, .any, none⟩, ⟨16, 6, .rwc, 0, .any, none⟩]⟩,
  ⟨"PRBS", 0, 32, 0x10C, [], 0, [⟨0, 2, .rwc, 0, .any, none⟩, ⟨2, 1, .rwc, 0, .any, none⟩, ⟨3, 1, .rwc, 0, .any, none⟩]⟩,
  ⟨"LANE_STATUS", 0, 32, 0x110, [], 0, [⟨0, 1, .ro, 0, .any, none⟩, ⟨1, 1, .ro, 0, .any, none⟩, ⟨2, 1, .ro, 0, .any, none⟩]⟩,
  ⟨"CODE_ERR", 0, 32, 0x114, [], 0, [⟨0, 32, .ro, 0, .any, none⟩]⟩,
  ⟨"PRBS_ERR", 0, 32, 0x118, [], 0, [⟨0, 32, .ro, 0, .any, none⟩]⟩,
  ⟨"RX_DROPPED", 0, 32, 0x11C, [], 0, [⟨0, 32, .ro, 0, .any, none⟩]⟩]

/-- Registers of block ETH, from the spec's tables. -/
def regs_eth_0 : List RegDef := [
  ⟨"PORT_CFG", 0, 2, 0x100, [], 0, [⟨0, 3, .rwc, 0, .any, some (0, 5)⟩, ⟨4, 1, .rwc, 0, .any, none⟩, ⟨5, 1, .rwc, 0, .any, none⟩, ⟨6, 1, .rwc, 0, .any, none⟩, ⟨8, 2, .rwc, 0, .any, some (0, 2)⟩, ⟨31, 1, .rwc, 0, .any, none⟩]⟩,
  ⟨"PORT_STATUS", 0, 2, 0x104, [], 0, [⟨0, 1, .ro, 0, .any, none⟩, ⟨1, 1, .ro, 0, .any, none⟩]⟩,
  ⟨"RX_FRAMES_LO", 0, 2, 0x108, [], 1, [⟨0, 32, .ro, 0, .any, none⟩]⟩,
  ⟨"RX_FRAMES_HI", 0, 2, 0x10C, [], 2, [⟨0, 32, .ro, 0, .any, none⟩]⟩,
  ⟨"TX_FRAMES_LO", 0, 2, 0x110, [], 1, [⟨0, 32, .ro, 0, .any, none⟩]⟩,
  ⟨"TX_FRAMES_HI", 0, 2, 0x114, [], 2, [⟨0, 32, .ro, 0, .any, none⟩]⟩,
  ⟨"RX_BAD", 0, 2, 0x118, [], 0, [⟨0, 32, .ro, 0, .any, none⟩]⟩,
  ⟨"RX_OVERFLOW", 0, 2, 0x11C, [], 0, [⟨0, 32, .ro, 0, .any, none⟩]⟩,
  ⟨"FEC_CORR", 0, 2, 0x120, [], 0, [⟨0, 32, .ro, 0, .any, none⟩]⟩,
  ⟨"FEC_UNCORR", 0, 2, 0x124, [], 0, [⟨0, 32, .ro, 0, .any, none⟩]⟩,
  ⟨"PTP_SEC_LO", 2, 1, 0x100, [(0x40, 2)], 1, [⟨0, 32, .ro, 0, .any, none⟩]⟩,
  ⟨"PTP_SEC_HI", 2, 1, 0x104, [(0x40, 2)], 2, [⟨0, 16, .ro, 0, .any, none⟩]⟩,
  ⟨"PTP_NS", 2, 1, 0x108, [(0x40, 2)], 0, [⟨0, 30, .ro, 0, .any, none⟩]⟩,
  ⟨"PTP_ADJ", 2, 1, 0x10C, [(0x40, 2)], 0, [⟨0, 32, .rw, 0, .mgmtSup, none⟩]⟩,
  ⟨"PTP_STEP_LO", 2, 1, 0x110, [(0x40, 2)], 1, [⟨0, 32, .rw, 0, .mgmtSup, none⟩]⟩,
  ⟨"PTP_STEP_HI", 2, 1, 0x114, [(0x40, 2)], 2, [⟨0, 32, .rw, 0, .mgmtSup, none⟩]⟩,
  ⟨"PTP_SET_SEC_LO", 2, 1, 0x118, [(0x40, 2)], 1, [⟨0, 32, .rw, 0, .mgmtSup, none⟩]⟩,
  ⟨"PTP_SET_SEC_HI", 2, 1, 0x11C, [(0x40, 2)], 2, [⟨0, 16, .rw, 0, .mgmtSup, none⟩]⟩,
  ⟨"PTP_SET_NS", 2, 1, 0x120, [(0x40, 2)], 0, [⟨0, 30, .rw, 0, .mgmtSup, some (0, 999999999)⟩]⟩,
  ⟨"PTP_SET_GO", 2, 1, 0x124, [(0x40, 2)], 0, [⟨0, 1, .wo, 0, .mgmtSup, none⟩]⟩,
  ⟨"TXTS_POP", 2, 1, 0x128, [(0x40, 2)], 0, [⟨0, 5, .ro, 0, .any, none⟩, ⟨8, 8, .ro, 0, .any, none⟩, ⟨31, 1, .ro, 0, .any, none⟩]⟩,
  ⟨"TXTS_SEC", 2, 1, 0x12C, [(0x40, 2)], 0, [⟨0, 32, .ro, 0, .any, none⟩]⟩,
  ⟨"TXTS_NS", 2, 1, 0x130, [(0x40, 2)], 0, [⟨0, 30, .ro, 0, .any, none⟩]⟩,
  ⟨"TXTS_LOST", 2, 1, 0x134, [(0x40, 2)], 0, [⟨0, 32, .ro, 0, .any, none⟩]⟩]

/-- Registers of block ETH, from the spec's tables. -/
def regs_eth_1 : List RegDef := [
  ⟨"ONESTEP_ERR", 2, 1, 0x138, [(0x40, 2)], 0, [⟨0, 32, .ro, 0, .any, none⟩]⟩,
  ⟨"RX_SLOT_INFO_p_s", 3, 1, 0x100, [(0x20, 2), (0x8, 4)], 0, [⟨0, 9, .ro, 0, .any, none⟩]⟩,
  ⟨"RX_SLOT_TS_p_s", 3, 1, 0x104, [(0x20, 2), (0x8, 4)], 0, [⟨0, 30, .ro, 0, .any, none⟩]⟩,
  ⟨"RX_SLOT_FULL_p", 3, 1, 0x140, [(0x4, 2)], 0, [⟨0, 4, .w1c, 0, .any, none⟩]⟩,
  ⟨"PTP_RX_LOST_p", 3, 1, 0x148, [(0x4, 2)], 0, [⟨0, 32, .ro, 0, .any, none⟩]⟩,
  ⟨"TX_SLOT_CTRL_p_s", 3, 1, 0x180, [(0x10, 2), (0x8, 2)], 0, [⟨0, 9, .rw, 0, .any, none⟩, ⟨16, 1, .rw, 0, .any, none⟩, ⟨17, 1, .rw, 0, .any, none⟩, ⟨31, 1, .wo, 0, .any, none⟩]⟩,
  ⟨"TX_SLOT_OPT_p_s", 3, 1, 0x184, [(0x10, 2), (0x8, 2)], 0, [⟨0, 8, .rw, 0, .any, none⟩, ⟨8, 8, .rw, 0, .any, none⟩, ⟨16, 8, .rw, 0, .any, none⟩]⟩,
  ⟨"TX_SLOT_DONE", 3, 1, 0x1A0, [], 0, [⟨0, 4, .w1c, 0, .any, none⟩]⟩,
  ⟨"RX_SLOT_DATA_p_s", 3, 1, 0x400, [(0x400, 2), (0x100, 4), (0x4, 64)], 0, [⟨0, 32, .ro, 0, .any, none⟩]⟩,
  ⟨"TX_SLOT_DATA_p_s", 3, 1, 0xC00, [(0x200, 2), (0x100, 2), (0x4, 64)], 0, [⟨0, 32, .rw, 0, .any, none⟩]⟩]

/-- All registers of block ETH. -/
def regs_eth : List RegDef := regs_eth_0 ++ regs_eth_1

/-- Registers of block LWL, from the spec's tables. -/
def regs_lwl_0 : List RegDef := [
  ⟨"CTRL", 0, 4, 0x10, [], 0, [⟨0, 1, .w1s, 0, .any, none⟩]⟩,
  ⟨"PORT_CFG", 0, 4, 0x100, [], 0, [⟨0, 1, .rwc, 0, .any, none⟩, ⟨1, 2, .rwc, 0, .any, some (0, 2)⟩, ⟨4, 1, .rwc, 0, .any, none⟩, ⟨16, 16, .rwc, 0, .any, none⟩]⟩,
  ⟨"PORT_STATUS", 0, 4, 0x104, [], 0, [⟨0, 2, .ro, 0, .any, none⟩, ⟨2, 1, .ro, 0, .any, none⟩, ⟨3, 1, .ro, 0, .any, none⟩, ⟨4, 1, .ro, 0, .any, none⟩, ⟨5, 1, .ro, 0, .any, none⟩, ⟨6, 1, .ro, 0, .any, none⟩, ⟨7, 1, .ro, 0, .any, none⟩]⟩,
  ⟨"RESV", 0, 4, 0x108, [], 0, [⟨0, 12, .ro, 0, .any, none⟩]⟩,
  ⟨"LAT_MEAS", 0, 4, 0x10C, [], 0, [⟨0, 12, .ro, 0, .any, none⟩]⟩,
  ⟨"REPLAYS", 0, 4, 0x110, [], 0, [⟨0, 32, .ro, 0, .any, none⟩]⟩,
  ⟨"RETRY_LIMIT", 0, 4, 0x114, [], 0, [⟨0, 32, .ro, 0, .any, none⟩]⟩,
  ⟨"LINK_DOWNS", 0, 4, 0x118, [], 0, [⟨0, 32, .ro, 0, .any, none⟩]⟩,
  ⟨"CRC_ERR", 0, 4, 0x11C, [], 0, [⟨0, 32, .ro, 0, .any, none⟩]⟩,
  ⟨"FEC_CORR", 0, 4, 0x120, [], 0, [⟨0, 32, .ro, 0, .any, none⟩]⟩,
  ⟨"FEC_UNCORR", 0, 4, 0x124, [], 0, [⟨0, 32, .ro, 0, .any, none⟩]⟩,
  ⟨"FRAME_NACKS", 0, 4, 0x128, [], 0, [⟨0, 32, .ro, 0, .any, none⟩]⟩,
  ⟨"PEER_TX_WAIT", 0, 4, 0x12C, [], 0, [⟨0, 32, .ro, 0, .any, none⟩]⟩,
  ⟨"RX_DISCARD", 0, 4, 0x130, [], 0, [⟨0, 32, .ro, 0, .any, none⟩]⟩,
  ⟨"RX_FLUSHED", 0, 4, 0x134, [], 0, [⟨0, 32, .ro, 0, .any, none⟩]⟩,
  ⟨"COPY_LOCAL_LO", 0, 4, 0x140, [], 1, [⟨0, 32, .rw, 0, .any, none⟩]⟩,
  ⟨"COPY_LOCAL_HI", 0, 4, 0x144, [], 2, [⟨0, 32, .rw, 0, .any, none⟩]⟩,
  ⟨"COPY_REMOTE_LO", 0, 4, 0x148, [], 1, [⟨0, 32, .rw, 0, .any, none⟩]⟩,
  ⟨"COPY_REMOTE_HI", 0, 4, 0x14C, [], 2, [⟨0, 32, .rw, 0, .any, none⟩]⟩,
  ⟨"COPY_LEN", 0, 4, 0x150, [], 0, [⟨0, 32, .rw, 0, .any, none⟩]⟩,
  ⟨"COPY_CTRL", 0, 4, 0x154, [], 0, [⟨0, 1, .rw, 0, .any, none⟩, ⟨31, 1, .wo, 0, .any, none⟩]⟩,
  ⟨"COPY_STATUS", 0, 4, 0x158, [], 0, [⟨0, 1, .ro, 0, .any, none⟩, ⟨1, 1, .ro, 0, .any, none⟩, ⟨2, 1, .ro, 0, .any, none⟩, ⟨4, 4, .ro, 0, .any, none⟩]⟩,
  ⟨"LAST_NACK", 0, 4, 0x160, [], 0, [⟨0, 6, .ro, 0, .any, none⟩, ⟨8, 3, .ro, 0, .any, none⟩]⟩,
  ⟨"LAST_NACK_FRAME", 0, 4, 0x164, [], 0, [⟨0, 32, .ro, 0, .any, none⟩]⟩]

/-- Registers of block LWL, from the spec's tables. -/
def regs_lwl_1 : List RegDef := [
  ⟨"RREG_ADDR", 0, 4, 0x170, [], 0, [⟨0, 26, .rw, 0, .any, none⟩]⟩,
  ⟨"RREG_DATA", 0, 4, 0x174, [], 0, [⟨0, 32, .rw, 0, .any, none⟩]⟩,
  ⟨"RREG_CTRL", 0, 4, 0x178, [], 0, [⟨0, 1, .rw, 0, .any, none⟩, ⟨31, 1, .wo, 0, .any, none⟩]⟩,
  ⟨"RREG_STATUS", 0, 4, 0x17C, [], 0, [⟨0, 1, .ro, 0, .any, none⟩, ⟨1, 1, .ro, 0, .any, none⟩, ⟨2, 2, .ro, 0, .any, none⟩]⟩,
  ⟨"CH_CFG_c", 4, 4, 0x100, [(0x10, 64)], 0, [⟨0, 2, .rwc, 0, .any, none⟩, ⟨2, 6, .rwc, 0, .any, none⟩, ⟨8, 7, .rwc, 0, .any, some (0, 64)⟩, ⟨16, 16, .rwc, 0, .any, none⟩]⟩,
  ⟨"CH_CFG2_c", 4, 4, 0x104, [(0x10, 64)], 0, [⟨0, 16, .rwc, 0, .any, none⟩, ⟨16, 12, .rwc, 0, .any, none⟩]⟩,
  ⟨"CH_STATUS_c", 4, 4, 0x108, [(0x10, 64)], 0, [⟨0, 1, .ro, 0, .any, none⟩, ⟨1, 1, .ro, 0, .any, none⟩, ⟨16, 9, .ro, 0, .any, none⟩]⟩,
  ⟨"CH_FRAMES_c", 4, 4, 0x10C, [(0x10, 64)], 0, [⟨0, 32, .ro, 0, .any, none⟩]⟩]

/-- All registers of block LWL. -/
def regs_lwl : List RegDef := regs_lwl_0 ++ regs_lwl_1

/-- All registers of block PHY. -/
def regs_phy : List RegDef := []

/-- Registers of block PW, from the spec's tables. -/
def regs_pw : List RegDef := [
  ⟨"PUSH_j", 0, 65536, 0x0, [(0x40, 4), (0x4, 16)], 0, [⟨0, 32, .wo, 0, .any, none⟩]⟩,
  ⟨"TAIL", 0, 65536, 0x100, [], 0, [⟨0, 32, .rw, 0, .any, none⟩]⟩,
  ⟨"HEAD", 0, 65536, 0x104, [], 0, [⟨0, 32, .ro, 0, .any, none⟩]⟩,
  ⟨"CANCEL", 0, 65536, 0x108, [], 0, [⟨0, 32, .wo, 0, .any, none⟩]⟩,
  ⟨"STATUS", 0, 65536, 0x10C, [], 0, [⟨0, 1, .ro, 0, .any, none⟩, ⟨1, 1, .ro, 1, .any, none⟩, ⟨2, 1, .ro, 0, .any, none⟩, ⟨3, 1, .ro, 0, .any, none⟩, ⟨4, 1, .w1c, 0, .any, none⟩, ⟨5, 1, .ro, 0, .any, none⟩, ⟨6, 1, .ro, 0, .any, none⟩, ⟨8, 4, .ro, 0, .any, none⟩, ⟨24, 5, .ro, 0, .any, none⟩]⟩,
  ⟨"RUNAHEAD_DISCARD", 0, 65536, 0x110, [], 0, [⟨0, 32, .ro, 0, .any, none⟩]⟩,
  ⟨"TAIL_REJECT_COUNT", 0, 65536, 0x114, [], 0, [⟨0, 32, .ro, 0, .any, none⟩]⟩,
  ⟨"PUSH_DISCARD_COUNT", 0, 65536, 0x118, [], 0, [⟨0, 32, .ro, 0, .any, none⟩]⟩,
  ⟨"RESTAMP_COUNT", 0, 65536, 0x11C, [], 0, [⟨0, 32, .ro, 0, .any, none⟩]⟩]

/-- The registers of the block with directory index `n` (R62, Table 2.6); 31 stands for the push windows (Table 13.7). -/
def regsOf (n : Nat) : List RegDef :=
  match n with
  | 0 => regs_pgd
  | 1 => regs_idn
  | 2 => regs_prt
  | 3 => regs_hif
  | 4 => regs_sec
  | 5 => regs_sup
  | 6 => regs_pow
  | 7 => regs_thm
  | 8 => regs_flt
  | 9 => regs_plb
  | 10 => regs_sch
  | 11 => regs_skm
  | 12 => regs_dad
  | 13 => regs_scm
  | 14 => regs_wst
  | 15 => regs_hbm
  | 16 => regs_snd
  | 17 => regs_obs
  | 18 => regs_lth
  | 19 => regs_qen
  | 20 => regs_hod
  | 21 => regs_jtk
  | 22 => regs_ten
  | 23 => regs_qst
  | 24 => regs_trw
  | 25 => regs_iob
  | 26 => regs_clk
  | 27 => regs_xcv
  | 28 => regs_eth
  | 29 => regs_lwl
  | 30 => regs_trw
  | 31 => regs_pw
  | _ => []

end Sys2Proof.Machine
end

