-- ==== Sys2Proof/Machine/Store.lean ====
section
/-! DEFINITION. Machine/Store.lean: the one form in which every sparse table and memory of the model is held: a list of
(key, value) pairs, keys strictly rising, no entry equal to what an unlisted key reads as. -/
namespace Sys2Proof.Machine

/-- A sparse table from Nat keys. -/
abbrev Store (α : Type) := List (Nat × α)

/-- What key `k` reads as; `dflt` says what an unlisted key reads as. -/
def Store.get {α : Type} (dflt : Nat → α) : Store α → Nat → α
  | [], k => dflt k
  | (k', v) :: r, k => if k = k' then v else Store.get dflt r k

/-- Insert or replace the entry of key `k`. -/
def Store.put {α : Type} (k : Nat) (v : α) : Store α → Store α
  | [] => [(k, v)]
  | (k', v') :: r =>
    if k < k' then (k, v) :: (k', v') :: r
    else if k = k' then (k, v) :: r
    else (k', v') :: Store.put k v r

/-- Remove the entry of key `k`. -/
def Store.del {α : Type} (k : Nat) (m : Store α) : Store α := m.filter fun p => p.1 ≠ k

/-- Write `v` at key `k`, keeping the canonical form. -/
def Store.set {α : Type} [DecidableEq α] (dflt : Nat → α) (m : Store α) (k : Nat) (v : α) : Store α :=
  if v = dflt k then Store.del k m else Store.put k v m

/-- Return every key that `p` names to what an unlisted key reads as. -/
def Store.wipe {α : Type} (p : Nat → Bool) (m : Store α) : Store α := m.filter fun e => !p e.1

/-- The canonical form. -/
abbrev Store.wf {α : Type} (dflt : Nat → α) (m : Store α) : Prop :=
  m.Pairwise (fun a b => a.1 < b.1) ∧ ∀ p ∈ m, p.2 ≠ dflt p.1

/-- A byte memory: address and byte; an unlisted address reads 0 (log entry 5). -/
abbrev Memory := Store Byte

/-- Every unlisted byte reads 0 (log entry 5). -/
def byte0 : Nat → Byte := fun _ => 0

/-- Read one byte. -/
def Memory.rd8 (m : Memory) (a : Nat) : Byte := Store.get byte0 m a

/-- Write one byte. -/
def Memory.wr8 (m : Memory) (a : Nat) (v : Byte) : Memory := Store.set byte0 m a v

/-- Read `n` bytes little-endian as a number (R6). -/
def Memory.rd (m : Memory) (a : Nat) : Nat → Nat
  | 0 => 0
  | n + 1 => (Memory.rd8 m a).toNat + 256 * Memory.rd m (a + 1) n

/-- Write `n` bytes little-endian (R6). -/
def Memory.wr (m : Memory) (a : Nat) : Nat → Nat → Memory
  | 0, _ => m
  | n + 1, v => Memory.wr (Memory.wr8 m a (BitVec.ofNat 8 v)) (a + 1) n (v / 256)

/-- Write a list of bytes at rising addresses. -/
def Memory.wrBytes (m : Memory) (a : Nat) : List Byte → Memory
  | [] => m
  | b :: r => Memory.wrBytes (Memory.wr8 m a b) (a + 1) r

/-- Read `n` bytes at rising addresses. -/
def Memory.rdBytes (m : Memory) (a : Nat) : Nat → List Byte
  | 0 => []
  | n + 1 => Memory.rd8 m a :: Memory.rdBytes m (a + 1) n

/-- The canonical form of a byte memory. -/
abbrev Memory.wf (m : Memory) : Prop := Store.wf byte0 m

end Sys2Proof.Machine
end

