-- ==== Sys2Proof/Machine/State.lean ====
section
/-! DEFINITION. Machine/State.lean: the state of the device, every piece of it plain data, with its value after reset. -/
namespace Sys2Proof.Machine

/-- The device's three time bases (R9): TICK in timing ticks (R65), the array-wide stage-cycle counter (R189) and CYC in
hart cycles (R434). -/
structure Clock where
  tick : Nat
  cyc : Nat
  hcyc : Nat
  deriving DecidableEq, Repr

/-- Everything the device sends outside: an MSI-X message (R52, R322), a posted host write (R313, R600), an AVSBus
command (R451), a Lath-port or Ethernet frame, a sideband or SPDM response, a Linwald flit, a PCIe completion code; and what crosses to the Lath
logic: a flit of a Lath port, an answer of the register-access port. -/
inductive Output where
  | msix (f vec : Nat)
  | hostWrite (f addr : Nat) (bytes : List Byte)
  | hostRead (f addr len : Nat)
  | avs (mv : Nat)
  | reply (port : Nat) (code : Nat) (data : BitVec 32)
  | frame (unit port : Nat) (bytes : List Byte)
  | lw (port : Nat) (f : LwFlit)
  | lath (row : Nat) (f : Flit)
  | ra (data : BitVec 32) (denied : Bool)
  | aer (f : Nat) (corrected : Bool)
  | pmbus (dev : Nat)
  deriving DecidableEq, Repr

/-- A commit that is PENDING (R35): its lead or own page, the snapshot of the shadow, whether it has passed validation,
and the tick and stage cycle at which it did. -/
structure Pending where
  page : Nat
  snap : Store Word
  valid : Bool
  vtick : Nat
  vcyc : Nat
  deriving DecidableEq, Repr

/-- The capture and staging registers of one requester for one pair (R30, R31): requester code, LO offset, captured HI
word with whether the requester's last access to the pair was the LO read, and the staged LO word. -/
structure PairReg where
  port : Port
  off : Nat
  captured : Option Word
  staged : Option Word
  deriving DecidableEq, Repr

/-- One MSI-X table entry (R322). The vector mask is 1 at reset (the PCIe Base Specification's; log entry 7). -/
structure Vec where
  addrLo : Word
  addrHi : Word
  data : Word
  mask : Bool
  pend : Bool
  deriving DecidableEq, Repr

/-- An MSI-X entry at reset. -/
def vec0 : Nat → Vec := fun _ => ⟨0, 0, 0, true, false⟩

/-- The state of one PCIe function (R322 to R328): Bus Master Enable, MSI-X Enable, Function Mask, ATS Enable, an FLR in
progress with its start tick, and D3hot. -/
structure Fn where
  bme : Bool
  msixEn : Bool
  fmask : Bool
  atsEn : Bool
  flr : Bool
  flrTick : Nat
  d3 : Bool
  deriving DecidableEq, Repr

/-- A function at reset. -/
def fn0 : Nat → Fn := fun _ => ⟨false, false, false, false, false, 0, false⟩

/-- PCIe functions, MSI-X tables, SR-IOV settings, tag enables (R312), outstanding reads, link state (R311 to R330), the translation
cache as (function, 4 KiB page) newest first (R328) and
the JTAG PAGEACC register (R333): the tick before which BUSY reads 1, DENIED and DATA. -/
structure Hif where
  fns : Store Fn
  vecs : Store Vec
  numVfs : Nat
  vfEnable : Bool
  ari : Bool
  tag10 : Bool
  tagExt : Bool
  linkUp : Bool
  classWalk : Option Nat
  ats : List (Nat × Nat)
  jtagBusy : Nat
  jtagDenied : Bool
  jtagData : Word
  deriving DecidableEq, Repr

/-- One record of the FLT log (R598). -/
structure LogRec where
  src : Nat
  code : Nat
  cls : Nat
  lo : Word
  hi : Word
  tick : Nat
  deriving DecidableEq, Repr

/-- A supervisor event (R435, Table 16.6): kind, handler slot, source word, value, posting tick, the hart it reports for a
FAULT, and whether a full queue has held it (R436). -/
structure SupEvent where
  kind : Nat
  slot : Nat
  src : Word
  value : Word
  tick : Nat
  held : Bool
  tag : Nat
  deriving DecidableEq, Repr

/-- The states of a position channel (Table 3.4 CH_STATE). -/
inductive ChState where
  | off | acquiring | tracking | stalled | coasting
  deriving DecidableEq, Repr

/-- One counted edge in a velocity window (R77): its direction and its stamp. -/
structure CountRec where
  dir : Int
  stamp : Nat
  deriving DecidableEq, Repr

/-- The mains subdivider of a channel (R80): lock, the stamp of the last counted zero-cross, the periods of the last good
cycles newest first (at most four), and the counts emitted in the open cycle. -/
structure Mains where
  lock : Bool
  last : Option Nat
  periods : List Nat
  emitted : Nat
  deriving DecidableEq, Repr

/-- A position channel (R73, R77, R82, R83): unwrapped position, remainder, stamp of the last count, velocity, the window
of counts newest first, its state, the start tick, the frozen position while STALLED, and while COASTING the entry
position and tick with the followed position and remainder; and the nanosecond of its PTP clock up to which a PTP source
has been counted. -/
structure Chan where
  u : Int
  rem : Nat
  tEdge : Nat
  vel : Int
  win : List CountRec
  st : ChState
  start : Nat
  frozen : Int
  coastU : Int
  coastT : Nat
  followU : Int
  followRem : Nat
  ns : Int
  mains : Mains
  deriving DecidableEq, Repr

/-- Why and when an entry fell due (R86, R89): the due tick, PAST, EDGE, JUMPED, and the stamp of the count for EDGE. -/
structure Due where
  tick : Nat
  past : Bool
  edge : Bool
  jumped : Bool
  stamp : Nat
  deriving DecidableEq, Repr

/-- The kinds of position-event entry in the delivery order of R87. -/
inductive EvKind where
  | trigger | release | admission | wake
  deriving DecidableEq, Repr

/-- A pending entry of the position-event queue (R84): number, kind, channel, unwrapped target, trigger mask, job number
(ADMIT, RELEASE) or handler slot and value (WAKE), post order, the predicted tick, the due mark, the outputs whose pulse of
this entry has begun, its place in the order of delivery once it has been handed to SCH, which has not decided it yet (R87,
R245), and whether it then waits for RUNNING (R231). -/
structure EvEntry where
  num : Nat
  kind : EvKind
  ch : Nat
  target : Int
  mask : BitVec 16
  job : Nat
  slot : Nat
  value : Word
  order : Nat
  pred : Option Nat
  due : Option Due
  fired : BitVec 16
  hand : Option Nat
  wait : Bool
  deriving DecidableEq, Repr

/-- A placed trigger pulse that has not begun (R91): output, start tick, whether it was moved, the entry that placed it
(none: FIRE_NOW), and the unmoved start. -/
structure Pulse where
  out : Nat
  start : Nat
  wanted : Nat
  moved : Bool
  entry : Option Nat
  job : Option Nat
  deriving DecidableEq, Repr

/-- A reference input (R69, R71): accepted level, tick of the last edge, stamp of the last PPS edge, end of the MAINS
hold-off. -/
structure RefIn where
  level : Bool
  lastEdge : Option Nat
  lastPps : Option Nat
  holdEnd : Nat
  deriving DecidableEq, Repr

/-- A count owed to a channel by an accepted edge (R69): channel, direction, stamp, whether it is a
mains zero-cross (R80). -/
structure Owed where
  ch : Nat
  dir : Int
  stamp : Nat
  zero : Bool
  deriving DecidableEq, Repr

/-- A PTP clock (R511): its value in units of 2^-32 ns (SEC, NS and FRAC as one number) at a tick, from which it runs on; and at the
tick of a step, the value before it (R513, chapter 19's Edges). -/
structure PtpClk where
  value : Int
  since : Nat
  before : Option Int
  deriving DecidableEq, Repr

/-- A PTP clock at power-on reset. -/
def ptpClk0 : Nat → PtpClk := fun _ => ⟨0, 0, none⟩

/-- The Plumb unit (chapter 3): inputs, channels, pending entries, placed pulses, end ticks of active outputs, counts
owed, the next post order, the tick from which the next delivery may take place (R87), the next place in the order of
delivery to SCH, and the PTP clocks of the two Ethernet
ports (R511). -/
structure Plb where
  ins : Store RefIn
  chans : Store Chan
  entries : List EvEntry
  pulses : List Pulse
  active : Store Nat
  owed : List Owed
  nextOrder : Nat
  nextDelivery : Nat
  nextHand : Nat
  ptp : Store PtpClk
  deriving DecidableEq, Repr

/-- A reference input at power-on reset. -/
def refIn0 : Nat → RefIn := fun _ => ⟨false, none, none, 0⟩

/-- A channel at power-on reset. -/
def chan0 : Nat → Chan := fun _ =>
  ⟨0, 0, 0, 0, [], .off, 0, 0, 0, 0, 0, 0, 0, ⟨false, none, [], 0⟩⟩

/-- The Plumb unit at power-on reset: every channel OFF, no entry, no pulse (R67). -/
def plb0 : Plb := ⟨[], [], [], [], [], [], 0, 0, 0, []⟩

/-- Where a job of the tracker stands (R244, R374): its input being staged; at SCH before its post; waiting to repeat a
post refused as FULL; its ADMIT entry pending or waiting; admitted; its release begun; completed. -/
inductive JobSt where
  | staging | ready | retry (due : Nat) | posted | admitted | writing | completed
  deriving DecidableEq, Repr

/-- Staging buffers held from the three tiers of R408: pipeline reserve, tenant reserve, shared. -/
structure Bufs where
  pipe : Nat
  ten : Nat
  shared : Nat
  deriving DecidableEq, Repr

/-- What hand-off fixes of a job (R342, R348, R394): its number in the tracker, global queue, index, entries, head
descriptor, whether a descriptor check failed, its input segments as mapped host ranges with their places in the chain, its
output segments, its header address,
and the IN_LEN and OUT_LEN sums. -/
structure JobKey where
  id : Nat
  q : Nat
  index : Nat
  entries : Nat
  head : Desc
  bad : Bool
  ins : List (Nat × Nat)
  pos : List Nat
  outs : List (Nat × Nat)
  hdr : Option Nat
  inLen : Nat
  outLen : Nat
  deriving DecidableEq, Repr

/-- The marks that decide a job's status and release (R256, R379 to R383): its frame has entered ingress; it is late;
dropped; cancelled; its pipeline faulted, or faulted on alignment; its channel stalled; its frame's data were uncorrectable;
its release is suppressed; its header was written; a reset of its queue left it in the tracker only until its frame
completes. -/
structure JobMarks where
  entered : Bool
  late : Bool
  dropped : Bool
  cancelled : Bool
  faulted : Bool
  misaligned : Bool
  stalledRef : Bool
  ecc : Bool
  suppressed : Bool
  written : Bool
  orphan : Bool
  deriving DecidableEq, Repr

/-- A job of the job tracker (R374): its key and marks; its state and status, its entry's number, its ADMIT and deadline
targets, header flags, frame number, staged input, kept payload with the bytes discarded, completion tick with the
position reported then, due tick, MARGIN_CYC and MARGIN_PU once released, the stage cycle of its admission, ledger debits
of classes 0 to 7 with CLIP in sixteenths, ingress and egress buffers, and the peer frame it awaits an ACK for. -/
structure Job extends JobKey, JobMarks where
  st : JobSt
  status : Nat
  entry : Option Nat
  ua : Int
  ud : Int
  flags : BitVec 8
  frame : Option Nat
  input : List Byte
  payload : List Byte
  trunc : Nat
  done : Option Nat
  uDone : Int
  due : Option Nat
  mc : Int
  mp : Int
  admCyc : Nat
  debits : List Nat
  clip : Nat
  ing : Bufs
  egr : Bufs
  peer : Option (Nat × Nat × Nat)
  deriving DecidableEq, Repr

/-- A frame being received at egress (R226): the next sequence number and the payload bytes seen. -/
structure OpenFrame where
  seq : Nat
  bytes : List Byte
  deriving DecidableEq, Repr

/-- A swap token sent and not yet consumed at egress (R225 to R227, R293): its skim ID, the SWAP job it belongs to, and the
number of the first frame sent after it. -/
structure Token where
  skim : Nat
  swap : Option Nat
  frame : Nat
  deriving DecidableEq, Repr

/-- What SCH and the adapters of a pipeline hold beside their registers (R225 to R240, R255, R257, R258, R262): admitted jobs
not yet sent, admitted frames awaiting a result, tokens sent and not consumed, the stage cycle of the last FIRST flit, the
next frame number, flits at the ingress adapter and at the egress adapter, the open frame at egress, the channels that
caused a hold, the tick of DRAIN and whether its timeout has been reported, the first stage cycle of a pipeline reset, the
windows in which the admission hold was set and in which a frame last became late, occurrences in progress by ledger class
(R258), the first frame affected by each tile waiting on a fill, the stage cycle up to which they have been debited, the
window counted with its debit cycles, the window of the last commit pause and of the last scrub pause,
the stage cycle from which an egress claim has been unmet (R410); and while the adapter sends a frame of its Lath port or peer
channel, the number of its next flit, and the stage cycle from which it waits for that flit (R224). -/
structure Pipe where
  ingQ : List Nat
  egrQ : List Nat
  tokens : List Token
  lastFirst : Option Nat
  frameNum : Nat
  ingOut : List Flit
  egrIn : List Flit
  openF : Option OpenFrame
  stallChans : List Nat
  drainTick : Option Nat
  drainMissed : Bool
  resetCyc : Option Nat
  holdWin : Option Nat
  lateWin : Option Nat
  occ : List Nat
  fills : List Nat
  since : Nat
  win : Nat
  winDebit : Nat
  pauseWin : Option Nat
  scrubWin : Option Nat
  egrWant : Option Nat
  srcOpen : Option Nat
  starve : Option Nat
  deriving DecidableEq, Repr

/-- A pipeline at reset. -/
def pipe0 : Nat → Pipe := fun _ =>
  ⟨[], [], [], none, 0, [], [], none, [], none, false, none, none, none, [0, 0, 0, 0, 0, 0], [], 0, 0, 0, none, none, none, none, none⟩

/-- A chain of fetched entries (R355): index of its first entry, entries in order, whether one failed a check, and the tick
of the turn that left it open at TAIL. -/
structure Chain where
  index : Nat
  entries : List Desc
  failed : Bool
  cancel : Bool
  since : Option Nat
  deriving DecidableEq, Repr

/-- A push slot (R359): the dwords written since it was disarmed and the index it is bound to. -/
structure PushSlot where
  words : Store Word
  bound : Nat
  deriving DecidableEq, Repr

/-- A provisional copy (R364): index, entry, and whether it started a warm-up (R367). -/
structure Prov where
  index : Nat
  entry : Desc
  warmed : Bool
  deriving DecidableEq, Repr

/-- A service turn in progress (R371): sampled TAIL, entries left of BURST, whether a ring read is outstanding, whether
it repeats a failed one (R358), and whether it is the re-read of R365. -/
structure Turn where
  sample : Nat
  left : Nat
  reading : Bool
  repeated : Bool
  restamped : Bool
  deriving DecidableEq, Repr

/-- What the queue engine holds of a queue beside its registers (R354 to R384): accepted TAIL, open chain, closed chains the
tracker could not take, provisional copies, push slots, entries that push slots supplied, pending cancels, the FENCE that
holds hand-off, IRQ jobs counted since the last message with the tick of the first, turns left
in the queue round, the TAIL sampled last and the tick of that turn, the tick from which the watchdog counts, the tick of a queue reset in
progress, and the service turn in progress. -/
structure Queue where
  tail : Nat
  chain : Option Chain
  held : List Chain
  prov : List Prov
  push : Store PushSlot
  supplied : List (Nat × Desc)
  cancels : List Nat
  fence : Option Nat
  coalCount : Nat
  coalTick : Nat
  qcr : Nat
  sample : Nat
  lastTurn : Nat
  wdogTick : Nat
  resetTick : Option Nat
  turn : Option Turn
  deriving DecidableEq, Repr

/-- A queue at reset. -/
def queue0 : Nat → Queue := fun _ =>
  ⟨0, none, [], [], [], [], [], none, 0, 0, 0, 0, 0, 0, none, none⟩

/-- A push slot with nothing written. -/
def pushSlot0 : Nat → PushSlot := fun _ => ⟨[], 0⟩

/-- The queue engine (R371, R372): the tenant visited, its turns left in this visit, whether a visit is on, the local queue of each
tenant served last, and the tick at which the last turn started. -/
structure Qen where
  tenant : Nat
  tcr : Nat
  visiting : Bool
  last : Store Nat
  lastTick : Option Nat
  deriving DecidableEq, Repr

/-- The FIFOs beside the array (R488 to R491, R546 to R551): Lath port TX and RX by row; by channel key 64 × port + channel the
flits of peer frames to send and received; and for each frame source of R224 (row, or 64 + channel key) the stage cycle at
which the LAST of each frame waiting arrived. -/
structure Edge where
  lpTx : Store (List Flit)
  lpRx : Store (List Flit)
  chTx : Store (List Flit)
  chRx : Store (List Flit)
  srcAt : Store (List Nat)
  deriving DecidableEq, Repr

/-- No flits. -/
def noFlits : Nat → List Flit := fun _ => []

/-- A zero for every key. -/
def zeroN : Nat → Nat := fun _ => 0

/-- Sampling of a pipeline (R610): sample points of the open interval with the tick of the last, whether it is the first since the
pipeline entered RUNNING or its SAMPLE_CFG was committed, and one more than the stage cycle of the last sample point. -/
structure Samp where
  points : Nat
  tick : Nat
  first : Bool
  last : Nat
  deriving DecidableEq, Repr

/-- No sampling. -/
def samp0 : Nat → Samp := fun _ => ⟨0, 0, false, 0⟩

/-- The trace and the completion counts (chapter 23): records held in the HBM TRACE area, oldest first; whether records
were written since the last mirror write; open histograms, bucket b of stage s of pipeline p at 4096 p + 16 s + b; sampling
by pipeline; the four counts of queue g at 4 g + i; the counts of tenant t at 32 t + i (statuses 0 to 14, then bytes in,
bytes out, RUNAHEAD_DISCARD at 16, 17, 18); and the selectors and captured words of each requester, by port code. -/
structure Trace where
  held : List (List Byte)
  mirrorDue : Bool
  hist : Store Nat
  samp : Store Samp
  qcnt : Store Nat
  tcnt : Store Nat
  qsel : Store Nat
  tsel : Store Nat
  qcap : Store Nat
  tcap : Store Nat
  deriving DecidableEq, Repr

/-- An empty list of stage cycles for every key. -/
def noCycles : Nat → List Nat := fun _ => []

/-- The memories that carry a check code (Table 22.1). -/
inductive MemKind where
  | hawk | act | prog | outEntry | delEntry | acc | wbank | arrival | wst | hbm | spad | lathFrame | bram | ingStage
  | egrStage | tracker | qst | evq | supq
  deriving DecidableEq, Repr

/-- A stored word whose bits have been upset (R582): memory, unit (tile, slice, hart, block ...), word within it, and
whether the error is uncorrectable. -/
structure Upset where
  mem : MemKind
  unit : Nat
  word : Nat
  ue : Bool
  deriving DecidableEq, Repr

/-- A flit in a tile queue: the stage cycle in which it reached the queue (R115), and whether its stored payload (1) or its
tag and sequence word (2) is uncorrectable (Table 4.5). -/
structure QFlit where
  flit : Flit
  cyc : Nat
  bad : Nat
  deriving DecidableEq, Repr

/-- An empty queue for every port. -/
def noQ : Nat → List QFlit := fun _ => []

/-- The configuration of a port's rotator (chapter 6): block code, input and target formats, RSCALE and ZX. -/
structure RotCfg where
  blk : Nat
  ifmt : Nat
  tfmt : Nat
  rscale : Word
  zx : Int
  deriving DecidableEq, Repr

/-- A rotator after a commit of the tile page (chapter 6). -/
def rotCfg0 : Nat → RotCfg := fun _ => ⟨0, 0, 0, 0x3F800000#32, 0⟩

/-- One open counted loop (R168): COUNT, completed passes, first op of the body, index of its ENDL. -/
structure TLoop where
  count : Nat
  iter : Nat
  start : Nat
  fin : Nat
  deriving DecidableEq, Repr

/-- A fold context (Table 4.4): pc, open loops with depth 0 first, active hot slot, sequence counters of OUT_0 and OUT_1. -/
structure TCtx where
  pc : Nat
  loops : List TLoop
  slot : Option Nat
  seq0 : Nat
  seq1 : Nat
  deriving DecidableEq, Repr

/-- A fold context before its first op. -/
def tctx0 : Nat → TCtx := fun _ => ⟨0, [], none, 0, 0⟩

/-- The results of one beat in flight (R155): the stage cycle at whose end they are performed, accumulator writes at
16 × entry + lane, and output flits with their ports. -/
structure TResult where
  due : Nat
  writes : List (Nat × Word)
  flits : List (Nat × Flit)
  deriving DecidableEq, Repr

/-- The control state of a tile (chapters 4 and 6): active context, the context shown until a fold switch ends, the first
cycle in which an op may issue, the first cycle in which no op issued holds the issue slot or has been in flight, the end of
the switch, HALTED, the skim a SWAPCHK waits for with the cycle its wait began,
the cycle up to which the counters count, fold contexts, results in flight in order of their due cycles, queues of IN_0 to
IN_3 (keys 0 to 3) and OUT_0, OUT_1 (keys 4, 5), and the flits taken from each in the cycle named (key, count, cycle; R115). -/
structure Tile where
  active : Nat
  prev : Nat
  free : Nat
  busy : Nat
  switchEnd : Nat
  halted : Bool
  fillWait : Option (Nat × Nat)
  last : Nat
  ctxs : Store TCtx
  results : List TResult
  queues : Store (List QFlit)
  moved : List (Nat × Nat × Nat)
  deriving DecidableEq, Repr

/-- A tile that has run nothing. -/
def tile0 : Nat → Tile := fun _ => ⟨0, 0, 0, 0, 0, false, none, 0, [], [], [], []⟩

/-- The memories of a tile (Table 4.1): program store (word 64 × context + op index), Hawk, activation table store,
accumulator file (16 × entry + lane), weight banks (512 × bank + byte), product-table file (1,024 × bank + entry), rotator
configurations. -/
structure TileMem where
  prog : Store (BitVec 64)
  hawk : Memory
  act : Memory
  acc : Store Word
  wb : Memory
  ptf : Store (BitVec 16)
  rcfg : Store RotCfg
  deriving DecidableEq, Repr

/-- Tile memories with nothing written: every word 0 (log entry 28). -/
def tileMem0 : Nat → TileMem := fun _ => ⟨[], [], [], [], [], [], []⟩

/-- Op words, accumulator words and product-table entries with nothing written. -/
def op0 : Nat → BitVec 64 := fun _ => 0
/-- An accumulator word with nothing written. -/
def word0 : Nat → Word := fun _ => 0
/-- A product-table entry with nothing written. -/
def half0 : Nat → BitVec 16 := fun _ => 0

/-- An arrival entry (R196, R199): the flit it holds with the cycle from which it is available, the consumers left (16 ×
output direction + slot, or 64 for delivery), and the cycle in which it was last emptied. -/
structure Arr where
  flit : Option Flit
  avail : Nat
  left : List Nat
  emptied : Option Nat
  deriving DecidableEq, Repr

/-- An empty arrival entry. -/
def arr0 : Nat → Arr := fun _ => ⟨none, 0, [], none⟩

/-- A flit on a link (R190): the arrival entry it goes to (64 × tile + 16 × direction + slot) and the cycle from which it is
available there. -/
structure Wire where
  key : Nat
  flit : Flit
  avail : Nat
  deriving DecidableEq, Repr

/-- An access on the control lane (R210 to R212): its requester, the tile, and the cycle in which the SCM controller
accepted it. -/
structure LaneAcc where
  port : Port
  tile : Nat
  cyc : Nat
  deriving DecidableEq, Repr

/-- A stencil section being loaded (R216, R217): its kind, region, its entries by key (output at 64 × tile + 16 × direction
+ slot, delivery at 2^18 higher), its PIPE bits (4 × tile + direction), and the cycle at which its checks ended. -/
structure StnLoad where
  region : Option Nat
  entries : List (Nat × Nat)
  pipes : List (Nat × Nat)
  cyc : Nat
  deriving DecidableEq, Repr

/-- The Scrim (chapter 7): output and delivery entries, PIPE enables, arrival entries, flits on links, control-lane accesses
in order, REDUCE entries blocked by a misalignment, stencil entries found uncorrectable that act as idle (R596; delivery
entries 2^18 higher), slots lent to the control lane with their cycle, the cycle at which the last lent slot of a region
ends, a stencil load in progress, and the cycle of a readback in progress. -/
structure Scrim where
  outE : Store Nat
  delE : Store Nat
  pipeReg : Store Nat
  arr : Store Arr
  wires : List Wire
  lane : List LaneAcc
  blocked : List Nat
  dead : List Nat
  lent : List (Nat × Nat)
  shareEnd : Store Nat
  load : Option StnLoad
  readback : Option Nat
  deriving DecidableEq, Repr

/-- The Scrim with no Render (R194: nothing assigned). -/
def scrim0 : Scrim := ⟨[], [], [], [], [], [], [], [], [], [], none, none⟩

/-- A weight-store fill in progress (R208): next slice line and lines left, and the HBM address of the next line. -/
structure WFill where
  line : Nat
  left : Nat
  addr : Nat
  deriving DecidableEq, Repr

/-- A weight-store slice (R205 to R208): its bytes, its fill in progress, and the streams that have stopped at their end. -/
structure Slice where
  bytes : Memory
  fill : Option WFill
  stopped : List Nat
  deriving DecidableEq, Repr

/-- A slice with nothing written (log entry 28). -/
def slice0 : Nat → Slice := fun _ => ⟨[], none, []⟩

/-- The plaintext of one section of an image (R265, R266): its TYPE, INDEX and bytes. -/
structure Sect where
  type : Nat
  index : Nat
  plain : List Byte
  deriving DecidableEq, Repr

/-- The loader (R275): the kind, region and skim of the load in progress or last run, the function through which GO was written,
whether the source is host memory, its address, the length that a tenant gave (R400), the owner of the skim (none: OPERATOR),
whether GO was a tenant's SKL_CMD, the image as the HBM image area holds it, the plaintext of its sections once decrypted, and
its BUILD_ID. -/
structure Loader where
  kind : Nat
  region : Nat
  skim : Nat
  fn : Nat
  host : Bool
  src : Nat
  len : Option Nat
  owner : Option Nat
  skl : Bool
  image : List Byte
  sects : List Sect
  build : Nat
  deriving DecidableEq, Repr

/-- The loader with no load. -/
def loader0 : Loader := ⟨0, 0, 0, 0, false, 0, none, none, false, [], [], 0⟩

/-- A fill or warm-up of a slot in progress (R285 to R290): pipeline, slot, skim, whether it is a warm-up and of which sort (0
on-demand, 1 commanded, 2 run-ahead), and the cycle of its request. -/
structure Fill where
  pipe : Nat
  slot : Nat
  skim : Nat
  sort : Nat
  cyc : Nat
  deriving DecidableEq, Repr

/-- A request for an on-demand fill not yet started (R285), in request order. -/
structure FillReq where
  pipe : Nat
  skim : Nat
  cyc : Nat
  deriving DecidableEq, Repr

/-- A library entry (R282): state 0 EMPTY, 1 LOADING, 2 VALID; shape hash; 4 KiB units; owner (none: OPERATOR); and the
plaintext of its SKIM_BODY in the HBM library area. -/
structure LibEntry where
  st : Nat
  hash : Nat
  units : Nat
  owner : Option Nat
  body : List Byte
  deriving DecidableEq, Repr

/-- An empty library entry. -/
def lib0 : Nat → LibEntry := fun _ => ⟨0, 0, 0, none, []⟩

/-- The tape cells of a region (R301 to R304): whether they hold its border, the cycle of the command in progress, the
engagement or release point in force, and the last cycle in which they withheld a flit. -/
structure Tape where
  on : Bool
  cmd : Nat
  point : Nat
  blocked : Option Nat
  deriving DecidableEq, Repr

/-- Tape cells released. -/
def tape0 : Nat → Tape := fun _ => ⟨false, 0, 0, none⟩

/-- The states of a hart (Table 16.11 HART_STATE). -/
inductive HartSt where
  | off | idle | running | faulted
  deriving DecidableEq, Repr

/-- One open hart loop (R431): address of its first instruction, of its ENDLOOP, and the iterations left. -/
structure HLoop where
  start : Nat
  fin : Nat
  left : Nat
  deriving DecidableEq, Repr

/-- What an access of a hart's store buffer does when it is performed: a store, or the atomic access of AMOSWAP or CAS with the
register it writes (and the value CAS compares). -/
inductive AccOp where
  | store
  | swap (rd : Nat)
  | cas (rd : Nat) (cmp : Word)
  deriving DecidableEq, Repr

/-- An access not yet performed (R422, R423): the hart cycle at whose end it is performed, address, bytes, data. -/
structure PAcc where
  due : Nat
  addr : Nat
  size : Nat
  data : Word
  op : AccOp
  deriving DecidableEq, Repr

/-- A request of a hart's asynchronous port (R426): its place, address, direction, write data, handler slot, order, and whether
it is complete. -/
structure Arq where
  place : Nat
  addr : Nat
  write : Bool
  data : Word
  slot : Nat
  order : Nat
  done : Bool
  deriving DecidableEq, Repr

/-- A hart (R417, R422, R426, R431, R432, R437 to R439): state, running or last slot, w1 to w15 by number, pc, the pc of the
instruction in progress, the hart cycle from which the next instruction may issue, the handler's first issue cycle, open loops
and open calls innermost first (return address, loop depth at the call), accesses not yet performed, asynchronous requests and
the order of the next. -/
structure Hart where
  st : HartSt
  slot : Nat
  w : Store Word
  pc : Nat
  cur : Nat
  free : Nat
  first : Option Nat
  loops : List HLoop
  calls : List (Nat × Nat)
  buf : List PAcc
  arqs : List Arq
  nextArq : Nat
  deriving DecidableEq, Repr

/-- A hart in reset (R417, R566, Table 16.11): OFF with its registers 0. -/
def hart0 : Nat → Hart := fun _ => ⟨.off, 0, [], 0, 0, 0, none, [], [], [], [], 0⟩

/-- The harts and the scratchpad, the ordered window at its top (Table 16.1). -/
structure Harts where
  all : Store Hart
  sp : Memory
  deriving DecidableEq, Repr

/-- The harts and the scratchpad after power-on reset. -/
def harts0 : Harts := ⟨[], []⟩

/-- The supervisor's event queue, oldest first (R435); for each timer the tick at which its running period began (R440); each
hart's SW_VALUE (R441); the tick of the last heartbeat (R441); and the tick from which the supervisor watchdog counts (R605). -/
structure Sup where
  evq : List SupEvent
  tmr : Store Nat
  swv : Store Word
  beat : Option Nat
  swd : Option Nat
  deriving DecidableEq, Repr

/-- The supervisor's queue after power-on reset. -/
def sup0 : Sup := ⟨[], [], [], none, none⟩

/-- A word that reads 0 where nothing has been written. -/
def zeroW : Nat → Word := fun _ => 0

/-- Power and thermal state beside the POW and THM registers (chapter 17): the tick of the Voltage write that read-backs follow
(R451); the tick at whose boundary a pending raise may take effect, the tick at or after which the last step took effect, the
start of the relax condition (R460); the hold in progress with its end tick (R462); the domains being powered, in order, bays 0
to 63 and slices 64 to 127 (R454); the last window in which the cap acted (R463); the tick of each sensor's last update (R464);
the stage cycle up to which stretched cycles have been counted, and for each PMBus device one more than the window it was last read
in (R453); and whether a reset has asked for TRIPPED to clear (R467). -/
structure Pow where
  avs : Option Nat
  raise : Option Nat
  stepTick : Nat
  relaxFrom : Option Nat
  hold : Option Nat
  ramps : List Nat
  capWin : Option Nat
  seen : Store Nat
  mark : Nat
  polls : Store Nat
  cooling : Bool
  deriving DecidableEq, Repr

/-- No power event in progress. -/
def pow0 : Pow := ⟨none, none, 0, none, none, [], none, [], 0, [], false⟩

/-- A port of a block RAM (R475): its read output, its output register, and the flags CE_FLAG and UE_FLAG of a GUARD read. -/
structure BramPort where
  out : Nat
  reg : Nat
  ce : Bool
  ue : Bool
  deriving DecidableEq, Repr

/-- A block RAM port at configuration. -/
def bramPort0 : Nat → BramPort := fun _ => ⟨0, 0, false, false⟩

/-- An access of the FABRIC register-access port in progress (R493): its answer, RA_RDATA and RA_DENIED. -/
structure LraAcc where
  rdata : Word
  denied : Bool
  deriving DecidableEq, Repr

/-- The Lath fabric and its clocks (chapter 18): configuration frames of 512 bytes with their stored CRC (key 1,280 × block +
frame), net records (key 1,024 × block + crossing cell; one more than SAFE), block RAMs as lanes of 9 bits (unit 30 × block + RAM,
key 4,096 × unit + lane), their ports (2 × unit + port) and RING write pointers, the access of the FABRIC port, the tick up to which
LP_RX_WAIT has been counted, the global clocks whose switch has ended step 1 without an edge, and for each global clock one more
than the window it was last counted in. -/
structure Lath where
  frames : Store (List Byte)
  crcs : Store Nat
  nets : Store Nat
  bram : Store Nat
  ports : Store BramPort
  wptr : Store Nat
  lra : Option LraAcc
  rxMark : Store Nat
  stuck : List Nat
  counted : Store Nat
  deriving DecidableEq, Repr

/-- A frame that no bitstream has written: all zeros (R494). -/
def frame0 : Nat → List Byte := fun _ => List.replicate 512 0

/-- The fabric with every block BLANK. -/
def lath0 : Lath := ⟨[], [], [], [], [], [], none, [], [], []⟩

/-- A transmit timestamp (R514): tag, SEC and NS. -/
structure TxStamp where
  tag : Nat
  sec : Nat
  ns : Nat
  deriving DecidableEq, Repr

/-- No timestamps. -/
def noStamps : Nat → List TxStamp := fun _ => []

/-- The Ethernet ports beside their registers (chapter 19): the TX timestamp FIFO of each port, and the transmit slots whose frames
wait, 2 × port + slot, in the order of their GO; and the tick of the last ALIVE test (R523). -/
structure Board where
  txts : Store (List TxStamp)
  txq : List Nat
  aliveTick : Option Nat
  deriving DecidableEq, Repr

/-- A peer memory copy in progress (R553): its local and remote addresses, length, direction, the bytes for which a piece has been
issued, the pieces outstanding (tag, offset in the copy, bytes not yet received), and the REASON with which it will end in error. -/
structure LwCopy where
  lcl : Nat
  remote : Nat
  len : Nat
  pull : Bool
  issued : Nat
  pieces : List (Nat × Nat × Nat)
  reason : Option Nat
  deriving DecidableEq, Repr

/-- The data segments of a WR_ADDR being received (R553): address, segments to come, tag, bytes so far. -/
structure LwMem where
  addr : Nat
  left : Nat
  tag : Nat
  bytes : List Byte
  deriving DecidableEq, Repr

/-- A Linwald port (chapter 20): the tick at which training began and whether it tries HALF; the difference of stage-cycle counts
fixed at the first INIT; the next FSEQ to send and to accept; the stage cycle of the open flit's opening with its STATE; the DATA
flits not yet acknowledged; the pipelines debited while a flit sent again is awaited; the RETRY_REQs of the present aligned window;
the tick of the last CRC-good flit; credits spent and segments freed (channels 0 to 63, 64 MEMWRITE, 65 MEMREAD, 66 CONTROL);
segments waiting: circuit flits (channel, flit, stage cycle of sending), CONTROL, MEMREAD, MEMWRITE; the round robins; frames sent
by channel; frames awaiting an answer (channel, number, tick); flits of frames partly received and the reason with which such a
frame will be refused; circuit flits received (channel, flit, stage cycle from which they may be delivered); a memory write being
received; a register response received; the copy; and the tick up to which PEER_TX_WAIT has been counted. -/
structure LwPort where
  since : Nat
  half : Bool
  ofs : Option Int
  txSeq : Nat
  rxSeq : Nat
  opened : Option (Nat × Nat)
  replay : List LwFlit
  retrying : Option (List Nat)
  retryWin : Nat
  retries : Nat
  lastGood : Nat
  spent : Store Nat
  freed : Store Nat
  circ : List (Nat × Flit × Nat)
  ctl : List LwSeg
  mr : List LwSeg
  mw : List LwSeg
  vcNext : Nat
  chNext : Nat
  sent : Store Nat
  awaits : List (Nat × Nat × Nat)
  part : Store (List Flit)
  refuse : Store Nat
  circRx : List (Nat × Flit × Nat)
  memIn : Option LwMem
  resp : Option (Nat × Word)
  copy : Option LwCopy
  waitMark : Nat
  deriving DecidableEq, Repr

/-- A port that is DOWN, with nothing buffered. -/
def lwPort0 : Nat → LwPort := fun _ =>
  ⟨0, false, none, 0, 0, none, [], none, 0, 0, 0, [], [], [], [], [], [], 0, 0, [], [], [], [], [], none, none, none, 0⟩

/-- What the Primer ROM is doing (R561 to R566): idle in reset, reading slot A or B of the flash, waiting for the PCIe link,
waiting for FW_GO, reading host memory, or handed off. -/
inductive Rom where
  | held | slotA | slotB | waitLink | waitGo | host | done
  deriving DecidableEq, Repr

/-- Power, reset and boot state (chapter 21, R626): power-on reset; VAON, VAUX and the step-3 rails in range; the SYS_REFCLK
monitor; the reset pins, with the tick of PERST_N's last assertion and deassertion; whether CORE is out of reset; the milestone
reached (Table 21.2); the tick at which HBM training began; a device reset in progress with its cause; the Primer ROM; and a fuse
burn in progress: 0 pin, 1 revoke, 2 roll-back floor; the pin or the floor; the digest. -/
structure Boot where
  por : Bool
  vaon : Bool
  vaux : Bool
  step3 : Bool
  refclk : Bool
  sysN : Bool
  perstN : Bool
  core : Bool
  mile : Nat
  perstAt : Option Nat
  perstTick : Option Nat
  trainStart : Option Nat
  devReset : Option Nat
  rom : Rom
  burn : Option (Nat × Nat × Nat)
  deriving DecidableEq, Repr

/-- The machine just after power-on reset ends (R561): always-on rails in range, CORE still held, PERST_N asserted,
SYS_RESET_N high, BOOT_SRC low (FLASH), the ROM reading slot A (log entry 9). -/
def boot0 : Boot :=
  ⟨false, true, true, false, true, true, false, false, 1, none, none, none, none, .slotA, none⟩

/-- What the scrubber holds beside the SND registers (R583 to R593, R599): the regions in a scrub pause with the cycle at which each
ends, the items whose golden words are being read, the items of each region whose golden words have arrived and which wait for its pause,
the tick at which the pass began, the values that PROGRESS_SIG has taken in the pass, one more than the window in which a corrected
error was last reported on PF0, and the bits in which copies 0 to 2 of SND_CFG differ from the voted value (R592). -/
structure Scrub where
  paused : List Nat
  ends : Store Nat
  reads : List ScrubItem
  ready : List (Nat × ScrubItem)
  passTick : Nat
  sigs : List Word
  aerWin : Nat
  copies : Store Word
  deriving DecidableEq, Repr

/-- The scrubber at the start of a pass. -/
def scrub0 : Scrub := ⟨[], [], [], [], 0, [], 0, []⟩

/-- The device: all state the spec gives it but the supervisor harts' own registers. -/
structure Device where
  /-- TICK, stage cycles and hart cycles (R65, R189, R434): 0 after power-on reset. -/
  now : Clock
  /-- Every register word, committed or live, that differs from its reset value (R34). -/
  regs : Store Word
  /-- The shadow of every page's RWC fields (R34). -/
  shadow : Store Word
  /-- Commits that are PENDING (R35). -/
  pend : List Pending
  /-- Capture and staging registers of the requesters (R30, R31). -/
  pairs : List PairReg
  /-- What the device has sent outside, newest first (the model's own record, log entry 10). -/
  out : List Output
  /-- The model's own field, not the spec's: how many free values have been taken (log entry 4). -/
  free : Nat
  /-- PCIe functions, link and the JTAG port (chapter 12). -/
  hif : Hif
  /-- The 64 records of the FLT log (R598). -/
  fltLog : Store LogRec
  /-- The tick from which the ladder watchdog counts (R602). -/
  ladderTick : Nat
  /-- Supervisor events posted and not yet in the event queue (R436). -/
  arriving : List SupEvent
  /-- Power, resets and boot (chapter 21). -/
  boot : Boot
  /-- The Plumb unit (chapter 3). -/
  plb : Plb
  /-- The job tracker, in hand-off order (R374). -/
  jobs : List Job
  /-- The number the next tracker entry takes. -/
  nextJob : Nat
  /-- SCH, the adapters and the ledger of each pipeline (chapters 8 and 9). -/
  pipes : Store Pipe
  /-- What the queue engine holds of each queue (chapters 13 and 14). -/
  queues : Store Queue
  /-- The queue engine's rotation (R371, R372). -/
  qen : Qen
  /-- Lath-port FIFOs and peer channels (chapters 18 and 20). -/
  edge : Edge
  /-- Trace records, histograms and completion counts (chapter 23). -/
  trace : Trace
  /-- Words whose stored bits have been upset (R582). -/
  upsets : List Upset
  /-- The control state of each logical tile (chapters 4 and 6). -/
  tiles : Store Tile
  /-- The memories of each logical tile (chapter 4). -/
  tmem : Store TileMem
  /-- The Scrim (chapter 7). -/
  scrim : Scrim
  /-- The weight store (chapter 7). -/
  slices : Store Slice
  /-- Fills and warm-ups in progress (chapter 10). -/
  fills : List Fill
  /-- On-demand fills requested and not started (R285). -/
  fillReqs : List FillReq
  /-- For skim x of pipeline p, at 16384 p + x: the order of the last token of p that named it, from 1 (R286). -/
  slotUse : Store Nat
  /-- The order of the last such token. -/
  slotClock : Nat
  /-- The skim library (R282). -/
  lib : Store LibEntry
  /-- Sanding (chapter 22). -/
  scrub : Scrub
  /-- Tape cells of the regions (chapter 11). -/
  tapes : Store Tape
  /-- HBM (R402); an unlisted byte reads 0 (log entry 5). -/
  hbm : Memory
  /-- Whether an uncorrectable HBM word has been recorded since ERR_FIRST.VALID of HBM page 0 was last cleared (Table 15.6). -/
  hbmUe : Bool
  /-- The loader (R275). -/
  loader : Loader
  /-- The golden copy: the sections of the live Render in the HBM GOLDEN area (R405). -/
  golden : List Sect
  /-- The supervisor event queue, timers and software events (chapter 16). -/
  sup : Sup
  /-- Power and thermal state (chapter 17). -/
  pow : Pow
  /-- The Lath fabric and its clocks (chapter 18). -/
  lath : Lath
  /-- The Ethernet ports beside their registers (chapter 19). -/
  board : Board
  /-- The Linwald ports beside their registers (chapter 20). -/
  lwl : Store LwPort
  /-- The tick before which the sideband has not answered its last register access (R519). -/
  sbBusy : Nat
  deriving DecidableEq, Repr

/-- The machine: the commands that wait, first in, first out; the four supervisor harts; the device. -/
structure State where
  /-- Commands waiting, first in, first out. -/
  pending : List Instr
  /-- The Chewarix harts 0 to 3 (chapter 16). -/
  harts : Harts
  /-- Everything else. -/
  dev : Device
  deriving DecidableEq, Repr

/-- Reasons a step could stop with a fault. No command of this device ends in one: the spec gives every command an effect
on the device's state. -/
inductive Fault where
  /-- Raised by no command; safe. -/
  | unraised
  deriving DecidableEq, Repr

/-- Reasons the model could refuse a command. -/
inductive Refusal where
  /-- A command whose meaning the model does not have yet, by its mnemonic (Dispatch only); safe. -/
  | notModelled (mnemonic : String)
  deriving DecidableEq, Repr

/-- The device just after power-on reset (R561, R572): every register at its table's reset value, every store empty. -/
def Device.reset : Device where
  now := ⟨0, 0, 0⟩
  regs := []
  shadow := []
  pend := []
  pairs := []
  out := []
  free := 0
  hif := ⟨[], [], 0, false, false, false, false, false, none, [], 0, false, 0⟩
  fltLog := []
  ladderTick := 0
  arriving := []
  boot := boot0
  plb := plb0
  jobs := []
  nextJob := 0
  pipes := []
  queues := []
  qen := ⟨0, 0, false, [], none⟩
  edge := ⟨[], [], [], [], []⟩
  trace := ⟨[], false, [], [], [], [], [], [], [], []⟩
  upsets := []
  tiles := []
  tmem := []
  scrim := scrim0
  slices := []
  fills := []
  fillReqs := []
  slotUse := []
  slotClock := 0
  lib := []
  scrub := scrub0
  tapes := []
  hbm := []
  hbmUe := false
  loader := loader0
  golden := []
  sup := sup0
  pow := pow0
  lath := lath0
  board := ⟨[], [], none⟩
  lwl := []
  sbBusy := 0

/-- The machine just after power-on reset, with no command waiting. -/
def State.reset : State := ⟨[], harts0, Device.reset⟩

end Sys2Proof.Machine
end

