-- ==== Sys2Proof/Machine/Ops.lean ====
section
/-! DEFINITION. Machine/Ops.lean: the named operations over registers, time, events and error records that every block of
the device shares (chapter 2; R52 to R58, R322, R435, R598). -/
namespace Sys2Proof.Machine

/-! ### Words and fields -/

/-- Field [lo + w - 1 : lo] of a word, as a number (R6). -/
def fld (v : Word) (lo w : Nat) : Nat := v.toNat / 2 ^ lo % 2 ^ w

/-- The word with field [lo + w - 1 : lo] replaced by `x` (R6). -/
def setFld (v : Word) (lo w x : Nat) : Word :=
  BitVec.ofNat 32 (v.toNat - fld v lo w * 2 ^ lo + x % 2 ^ w * 2 ^ lo)

/-- A number as a register word. -/
def wd (n : Nat) : Word := BitVec.ofNat 32 n

/-- 1 for true. -/
def b2n (b : Bool) : Nat := if b then 1 else 0

/-- A count plus `k`, saturating at 0xFFFF_FFFF. -/
def satAdd (v : Word) (k : Nat) : Word := wd (min wordMax (v.toNat + k))

/-- A two's-complement value of `w` bits read from a number. -/
def sext (w n : Nat) : Int := if n % 2 ^ w < 2 ^ (w - 1) then (n % 2 ^ w : Nat) else (n % 2 ^ w : Nat) - (2 ^ w : Nat)

/-- An integer as the number of its low `w` bits. -/
def toBits (w : Nat) (x : Int) : Nat := (x % (2 ^ w : Nat)).toNat

/-- An integer wrapped to two's complement of `w` bits. -/
def wrapS (w : Nat) (x : Int) : Int := sext w (toBits w x)

/-! ### The register map -/

/-- Table 2.6: base, block code and page count of directory entry n, for n = 0 to 30. -/
def dirTable : List (Nat × Nat × Nat) := [
  (0x0, 0x1, 1), (0x1000, 0x2, 1), (0x2000, 0x3, 2), (0x4000, 0x4, 4), (0x8000, 0x5, 2), (0xA000, 0x6, 2),
  (0xC000, 0x7, 2), (0xE000, 0x8, 1), (0xF000, 0x9, 1), (0x10000, 0x10, 16), (0x20000, 0x11, 64),
  (0x60000, 0x12, 16), (0x70000, 0x13, 16), (0x80000, 0x14, 16), (0x90000, 0x15, 64), (0xD0000, 0x16, 32),
  (0xF0000, 0x17, 2), (0xF2000, 0x18, 4), (0xF8000, 0x19, 8), (0x100000, 0x20, 16), (0x110000, 0x21, 16),
  (0x120000, 0x22, 4), (0x400000, 0x23, 1024), (0x800000, 0x0, 1024), (0x1000000, 0x30, 4096),
  (0x2000000, 0x40, 12), (0x200C000, 0x41, 4), (0x2010000, 0x42, 32), (0x2030000, 0x43, 4),
  (0x2038000, 0x44, 8), (0x2100000, 0x31, 4224)]

/-- Search of the directory from entry n. -/
def dirFind (off : Nat) : Nat → List (Nat × Nat × Nat) → Option (Nat × Nat)
  | _, [] => none
  | n, (b, _, p) :: r => if b ≤ off ∧ off < b + 0x1000 * p then some (n, (off - b) / 0x1000) else dirFind off (n + 1) r

/-- The directory entry and page index that cover a PF0 offset (R62); 31 is the push-window space of the model. -/
def blockAt (off : Nat) : Option (Nat × Nat) :=
  if 0x4000000 ≤ off ∧ off < 0x4000000 + 0x10000000 then some (31, (off - 0x4000000) / 0x1000) else dirFind off 0 dirTable

/-- The base of directory entry n. -/
def blockBase (n : Nat) : Nat := if n = 31 then 0x4000000 else ((dirTable[n]?).map (·.1)).getD 0

/-- The page of an offset. -/
def pageOf (off : Nat) : Nat := off / 0x1000 * 0x1000

/-- Whether offset `o` is one of `base + Σ stride × index`. -/
def dimsHit : Nat → List (Nat × Nat) → Bool
  | o, [] => o = 0
  | o, (st, n) :: r => if o / st < n then dimsHit (o % st) r || (r.isEmpty && o % st = 0) else false

/-- Strides are listed with the greatest first when indices nest; the tables with two indices nest that way. -/
def RegDef.hit (r : RegDef) (pg o : Nat) : Bool :=
  r.pg ≤ pg && pg < r.pg + r.pn && r.off ≤ o && dimsHit (o - r.off) r.dims

/-- The register of a PF0 offset, where the tables have one. -/
def regDefAt (off : Nat) : Option RegDef :=
  match blockAt off with
  | none => none
  | some (n, pg) =>
    if n = 23 then (regsOf 23).find? fun r => r.off = off % 0x40
    else (regsOf n).find? fun r => r.hit pg (off % 0x1000)

/-- The word that the reset values of a register's fields form. -/
def fieldsReset : List RField → Nat
  | [] => 0
  | f :: r => f.rst % 2 ^ f.w * 2 ^ f.lo + fieldsReset r

/-- MAX_MASK of page `pg` of directory entry n (R334, Table 12.8). -/
def maxMask (n pg : Nat) : Nat :=
  match n with
  | 0 | 1 => 0x1B
  | 2 => if pg = 0 then 0x01 else 0x03
  | 4 => 0x01
  | 3 | 5 | 6 | 7 | 8 | 15 | 16 | 25 | 26 | 27 | 28 | 29 => 0x19
  | 12 | 13 | 14 | 18 | 24 | 30 => 0x11
  | 9 => 0x73
  | 10 => 0x43
  | 11 | 19 | 20 | 21 | 23 => 0x03
  | 22 => 0x07
  | 17 => 0x0B
  | _ => 0

/-- HAS_COMMIT of page `pg` of entry n, as each block's chapter states. -/
def hasCommit (n pg : Nat) : Bool :=
  match n with
  | 5 => pg == 1
  | 6 => pg ≤ 1
  | 7 => true
  | 9 => pg ≤ 8 || pg == 10
  | 10 => true
  | 14 => true
  | 15 => pg ≤ 1
  | 17 => pg ≤ 1
  | 19 => pg == 1
  | 22 => true
  | 24 | 30 => true
  | 25 => true
  | 26 => pg ≤ 2
  | 27 => true
  | 28 => pg ≤ 1
  | 29 => true
  | _ => false

/-- LEAD_COMMIT: POW page 0 (chapter 17) and CLK page 0 (chapter 18). -/
def leadCommit (n pg : Nat) : Bool := (n == 6 || n == 26) && pg == 0

/-- MEMBER: POW page 1, CLK pages 1 and 2. -/
def memberPage (n pg : Nat) : Bool := (n == 6 && pg == 1) || (n == 26 && (pg == 1 || pg == 2))

/-- GATEABLE: the tile pages and the weight-store pages. -/
def gateable (n : Nat) : Bool := n == 14 || n == 24 || n == 30

/-- HAS_EVENTS: the pages on which the chapters define bits [31:16] of EVT_RAW (log entry 8). -/
def hasEvents (n pg : Nat) : Bool :=
  match n with
  | 0 | 7 | 8 | 10 | 14 | 22 | 24 | 25 | 27 | 30 => true
  | 2 | 3 | 4 | 13 | 15 | 16 | 17 | 18 | 19 | 26 => pg == 0
  | 5 | 6 | 11 => pg ≤ 1
  | 9 => pg ≤ 10
  | 12 | 29 => pg < 4
  | 28 => pg != 2
  | _ => false

/-- PAGE_CAPS (Table 2.1). -/
def pageCaps (n pg : Nat) : Nat :=
  b2n (hasCommit n pg) + 2 * b2n (leadCommit n pg) + 4 * b2n (memberPage n pg) + 8 * b2n (gateable n) +
    16 * b2n (hasEvents n pg) + 65536 * ((dirTable[n]?).map (·.2.2)).getD 0

/-- What a word of the common header reads at reset (Table 2.1). -/
def hdrReset (n pg o : Nat) : Nat :=
  match o with
  | 0x000 => ((dirTable[n]?).map (·.2.1)).getD 0 * 65536 + pg
  | 0x004 => 0x10000
  | 0x008 => pageCaps n pg
  | 0x00C => maxMask n pg * 65537
  | _ => 0

/-- HBM area bases in MiB at reset (Table 15.2): GOLDEN, IMAGE, LIBRARY, TRACE, OPERATOR. -/
def areaReset (a : Nat) : Nat :=
  match a with
  | 0 => 0
  | 1 => 2048
  | 2 => 3072
  | 3 => 44032
  | _ => 44288

/-- Reset values that depend on an index or on a fuse (Table 2.7, R98, R452, R580, R602). -/
def indexedReset (n pg o : Nat) : Option Nat :=
  match n with
  | 0 =>
    if 0x100 ≤ o ∧ o < 0x2F0 then
      let k := (o - 0x100) / 0x10
      match o % 0x10, dirTable[k]? with
      | 0, some (b, _, _) => some b
      | 4, some (_, c, p) => some (c + 65536 * p)
      | 8, some _ => some (1 + 8 * b2n (k == 23))
      | _, _ => none
    else none
  | 1 =>
    if 0x120 ≤ o ∧ o < 0x1E0 then some (Config.pinDigest ((o - 0x120) / 0x30) ((o - 0x120) % 0x30 / 4))
    else if 0x200 ≤ o ∧ o < 0x600 ∧ o % 0x10 < 0xC then some (Config.badMap ((o - 0x200) / 0x10) (o % 0x10 / 4))
    else none
  | 6 =>
    if pg = 0 ∧ 0x120 ≤ o ∧ o < 0x138 then some (Config.vfPoint ((o - 0x120) / 4) % 1024)
    else if pg = 1 ∧ 0x200 ≤ o ∧ o < 0x300 then some (Config.baySlack ((o - 0x200) / 4) % 16 * 256)
    else none
  | 8 => match o with
    | 0x110 => some 100
    | 0x114 => some 500
    | 0x118 => some 2000
    | _ => none
  | 15 => if pg = 0 ∧ 0x110 ≤ o ∧ o < 0x124 then some (areaReset ((o - 0x110) / 4)) else none
  | 24 => if o = 0x100 then some (tileLocReset pg) else none
  | _ => none
where
  /-- TILE_LOC of logical tile k at reset (R98): row, logical column and bay; PCOL is set at remap. -/
  tileLocReset (k : Nat) : Nat := k / 64 + 64 * (k % 64) + 2 ^ 24 * (8 * (k / 64 / 8) + k % 64 / 8)

/-- What the register at a PF0 offset holds at reset: the tables' Reset columns. -/
def resetOf (off : Nat) : Word :=
  match blockAt off with
  | none => 0
  | some (n, pg) =>
    if n ≠ 23 ∧ n ≠ 31 ∧ off % 0x1000 < 0x100 ∧ off % 0x1000 ≠ 0x10 then wd (hdrReset n pg (off % 0x1000))
    else match indexedReset n pg (off % 0x1000) with
      | some v => wd v
      | none => match regDefAt off with
        | some r => wd (fieldsReset r.fields)
        | none => 0

/-! ### Reading and writing registers of the device -/

/-- The committed or live word of a register. -/
def Device.reg (d : Device) (off : Nat) : Word := Store.get resetOf d.regs off

/-- The shadow word of a register (R34). -/
def Device.sh (d : Device) (off : Nat) : Word := Store.get resetOf d.shadow off

/-- Field of a register as a number. -/
def Device.rf (d : Device) (off lo w : Nat) : Nat := fld (d.reg off) lo w

/-- A register as a number. -/
def Device.rn (d : Device) (off : Nat) : Nat := (d.reg off).toNat

/-- Write a register. -/
def Device.setReg (d : Device) (off : Nat) (v : Word) : Device := { d with regs := Store.set resetOf d.regs off v }

/-- Write a register with a number. -/
def Device.setN (d : Device) (off n : Nat) : Device := d.setReg off (wd n)

/-- Write one field of a register. -/
def Device.setF (d : Device) (off lo w x : Nat) : Device := d.setReg off (setFld (d.reg off) lo w x)

/-- Write the shadow of a register. -/
def Device.setSh (d : Device) (off : Nat) (v : Word) : Device := { d with shadow := Store.set resetOf d.shadow off v }

/-- Add to a count that saturates at 0xFFFF_FFFF. -/
def Device.count (d : Device) (off k : Nat) : Device := d.setReg off (satAdd (d.reg off) k)

/-- A LO/HI pair as a 64-bit number. -/
def Device.rn64 (d : Device) (lo : Nat) : Nat := d.rn lo + 2 ^ 32 * d.rn (lo + 4)

/-- Write a LO/HI pair. -/
def Device.setN64 (d : Device) (lo n : Nat) : Device := (d.setN lo (n % 2 ^ 32)).setN (lo + 4) (n / 2 ^ 32)

/-- Add to a 64-bit count that saturates (chapters 9, 14, 23). -/
def Device.count64 (d : Device) (lo k : Nat) : Device := d.setN64 lo (min (2 ^ 64 - 1) (d.rn64 lo + k))

/-- Return every register of the named offsets, committed and shadow, to its reset value, and drop their pending commits
(R44). Page masks are kept (R335). -/
def Device.clearRegs (d : Device) (p : Nat → Bool) : Device :=
  { d with
    regs := Store.wipe (fun o => p o && !(o % 0x1000 == 0xC && !(decide (0x800000 ≤ o) && decide (o < 0xC00000)))) d.regs
    shadow := Store.wipe p d.shadow
    pend := d.pend.filter fun c => !p c.page
    pairs := d.pairs.filter fun c => !p c.off }

/-- Zero the listed registers. -/
def Device.zeroRegs (d : Device) : List Nat → Device
  | [] => d
  | o :: r => Device.zeroRegs (d.setReg o (resetOf o)) r

/-! ### Time -/

/-- Move TICK forward to `t`, the tick at which a command is performed (log entry 2). -/
def Device.at (d : Device) (t : Nat) : Device := { d with now := { d.now with tick := max d.now.tick t } }

/-- Move the stage-cycle counter forward (R189). -/
def Device.atCyc (d : Device) (c : Nat) : Device := { d with now := { d.now with cyc := max d.now.cyc c } }

/-- Add to the record of what the device sends outside (newest first; log entry 10). -/
def Device.emit (d : Device) (o : Output) : Device := { d with out := o :: d.out }

/-- A fresh free value (log entry 4): the word and the device with its counter advanced. -/
def Device.fresh (d : Device) : Word × Device := (Config.freeWord d.free, { d with free := d.free + 1 })

/-- A corrected count of Table 22.1 goes up: with CE_EN, Corrected Internal Error on PF0, at most once per aligned window (R599). -/
def Device.corrected (d : Device) : Device :=
  let w := d.now.tick / 1000000 + 1
  if d.rf R.flt_AER_CFG 0 1 = 1 ∧ d.scrub.aerWin ≠ w then { d with scrub := { d.scrub with aerWin := w } }.emit (.aer 0 true) else d

/-- Count a corrected error. -/
def Device.countCe (d : Device) (off : Nat) : Device := (d.count off 1).corrected

/-! ### PCIe functions and messages -/

/-- A PCIe function. -/
def Device.fn (d : Device) (f : Nat) : Fn := Store.get fn0 d.hif.fns f

/-- Set a PCIe function. -/
def Device.setFn (d : Device) (f : Nat) (x : Fn) : Device := { d with hif := { d.hif with fns := Store.set fn0 d.hif.fns f x } }

/-- An MSI-X table entry, vector v of function f. -/
def Device.vec (d : Device) (f v : Nat) : Vec := Store.get vec0 d.hif.vecs (4096 * f + v)

/-- Set an MSI-X table entry. -/
def Device.setVec (d : Device) (f v : Nat) (x : Vec) : Device :=
  { d with hif := { d.hif with vecs := Store.set vec0 d.hif.vecs (4096 * f + v) x } }

/-- The size of a function's MSI-X table (Table 12.1). -/
def msixSize (f : Nat) : Nat := if f = 0 then 2048 else if f = 1 then 512 else 65

/-- A message of vector v of function f becomes due (R322): discarded and counted when MSI-X Enable or Bus Master Enable is 0,
in D3hot (R326) or during an FLR; held in the PBA when masked; otherwise sent. -/
def Device.msix (d : Device) (f v : Nat) : Device :=
  let x := d.fn f
  if !x.msixEn || !x.bme || x.flr || x.d3 then d.count R.hif_MSIX_DROPPED 1
  else if x.fmask || (d.vec f v).mask then d.setVec f v { d.vec f v with pend := true }
  else d.emit (.msix f v)

/-- Bus Master Enable as the device's requests see it: 0 acts as D3hot does (R326, R327). -/
def Device.mayRequest (d : Device) (f : Nat) : Bool := (d.fn f).bme && !(d.fn f).d3 && !(d.fn f).flr

/-- A posted host write of function f: discarded and counted while its Bus Master Enable is 0 (R327). -/
def Device.hostWrite (d : Device) (f a : Nat) (b : List Byte) : Device :=
  if (d.fn f).flr then d
  else if d.mayRequest f then d.emit (.hostWrite f a b) else d.count R.hif_BME_DROPPED 1

/-! ### Supervisor events -/

/-- A supervisor event is posted: it waits at its source for its EVENT_POST (R435, R436); `tag` names its WAKE entry or ARQ
place. -/
def Device.supEventTag (d : Device) (kind slot : Nat) (src value : Word) (tag : Nat) : Device :=
  { d with arriving := d.arriving ++ [⟨kind, slot, src, value, d.now.tick, false, tag⟩] }

/-- A supervisor event whose source keeps nothing for it. -/
def Device.supEvent (d : Device) (kind slot : Nat) (src value : Word) : Device := d.supEventTag kind slot src value 0

/-! ### Page events -/

/-- EVT_PENDING of a page: EVT_RAW AND EVT_ENABLE (Table 2.1). -/
def Device.evtPending (d : Device) (pg : Nat) : Word := d.reg (pg + 0x20) &&& d.reg (pg + 0x24)

/-- The function that a page's EVT_ROUTE names (R53): PF0, PF1 or the VF of the owning tenant. -/
def Device.routeFn (d : Device) (pg : Nat) : Nat :=
  match d.rf (pg + 0x2C) 12 2 with
  | 0 => 0
  | 1 => 1
  | _ => match blockAt pg with
    | some (22, t) => 2 + t
    | _ => 0

/-- Send the message of a page whose EVT_PENDING rose (R52, Table 16.6 KIND 0); a page holds one post (R436). -/
def Device.evtSend (d : Device) (pg : Nat) : Device :=
  let route := d.reg (pg + 0x2C)
  let d1 := if fld route 30 1 = 1 then d.msix (d.routeFn pg) (fld route 0 12) else d
  let held := d1.arriving.any fun e => e.kind = 0 ∧ e.held ∧ e.src = wd (pg / 0x1000 * 16)
  if fld route 31 1 = 1 ∧ !held then d1.supEvent 0 (fld route 16 6) (wd (pg / 0x1000 * 16)) (d.evtPending pg) else d1

/-- Send a message when some bit of EVT_PENDING has gone from 0 to 1 since `before` (R52). -/
def Device.evtRise (d : Device) (pg : Nat) (before : Word) : Device :=
  if d.evtPending pg &&& ~~~before ≠ 0 then d.evtSend pg else d

/-- Set EVT_RAW bits of a page (R52). -/
def Device.evt (d : Device) (pg : Nat) (bits : Word) : Device :=
  (d.setReg (pg + 0x20) (d.reg (pg + 0x20) ||| bits)).evtRise pg (d.evtPending pg)

/-- Set one EVT_RAW bit. -/
def Device.evtBit (d : Device) (pg i : Nat) : Device := d.evt pg (wd (2 ^ i))

/-! ### The fault log -/

/-- The fault class of a block error (R595, Table 22.3): 0 LOCAL, 1 FUNCTION, 2 DEVICE. `n` is the directory entry, `lo`
ERR_INFO_LO. -/
def errClass (n pg code lo : Nat) : Nat :=
  match n, code with
  | 10, 0x0181 => 1
  | 10, 0x0182 => 1
  | 19, 0x0101 => 1
  | 19, 0x0102 => 1
  | 19, 0x0103 => 1
  | 16, 0x0100 => 2
  | 16, 0x0101 => 1
  | 16, 0x0103 => lo / 8 % 2
  | 29, 0x0100 => if pg < 4 then 1 else 0
  | 28, 0x0100 => 1
  | 4, 0x0102 => 1
  | 6, 0x0100 => 1
  | 7, 0x0101 => 2
  | 8, 0x0101 => 2
  | 5, c => if 0x0100 ≤ c ∧ c ≤ 0x010A then 1 else 0
  | 13, 0x0100 => b2n (12 ≤ lo / 65536 % 16)
  | _, _ => 0

/-- The empty log place. -/
def logRec0 : Nat → LogRec := fun _ => ⟨0, 0, 3, 0, 0, 0⟩

/-- Arm the ladder at rung 1 when it is disarmed (R597); a timer armed is never restarted. -/
def Device.armLadder (d : Device) : Device :=
  if d.rf R.flt_LADDER_STATE 0 2 = 0 then
    { (d.setN R.flt_LADDER_STATE (1 + 65536 * d.rn (R.flt_LIMIT 0))) with ladderTick := d.now.tick }
  else d

/-- Record an error in the FLT log (R598): the ring of 64; FUNCTION errors arm the ladder (R597). -/
def Device.faultLog (d : Device) (src code cls : Nat) (lo hi : Word) : Device :=
  let h := d.rf R.flt_LOG_HEAD 0 6
  let full := (Store.get logRec0 d.fltLog h).cls ≠ 3
  let d1 := { d with fltLog := Store.set logRec0 d.fltLog h ⟨src, code, cls, lo, hi, d.now.tick⟩ }
  let d2 := d1.setN R.flt_LOG_HEAD ((h + 1) % 64)
  let d3 := if full then d2.count R.flt_LOG_OVERRUN 1 else d2
  let d4 := d3.evtBit 0xF000 19
  if cls = 1 then d4.armLadder else d4

/-- The page whose error record takes the errors of an offset: QEN page 1 for the queue state table (R63). -/
def errPage (off : Nat) : Nat :=
  match blockAt off with
  | some (23, _) => 0x101000
  | _ => pageOf off

/-- Log a block error of a class in a page's first-error record (R54) and in the fault log (R595, R598). -/
def Device.errAs (d : Device) (cls pg code : Nat) (lo hi : Word) : Device :=
  let valid := d.rf (pg + 0x30) 31 1 = 1
  let d1 := if valid then d else
    (((d.setN (pg + 0x30) (2 ^ 31 + code)).setReg (pg + 0x38) lo).setReg (pg + 0x3C) hi)
  let d2 := (d1.count (pg + 0x34) 1).evtBit pg 2
  if cls ≠ 0 ∨ !valid then d2.faultLog pg code cls lo hi else d2

/-- Log a block error of the class that Table 22.3 gives it. -/
def Device.err (d : Device) (pg code : Nat) (lo hi : Word) : Device :=
  let bp := (blockAt pg).getD (0, 0)
  d.errAs (errClass bp.1 bp.2 code lo.toNat) pg code lo hi

end Sys2Proof.Machine
end

