-- ==== Sys2Proof/Machine/Access.lean ====
section
/-! DEFINITION. Machine/Access.lean: who may reach which page, what a denied, lost, unmapped or ill-sized access does, and
what a write does to a register's fields (R24 to R33, R46 to R56, R61 to R63, R314 to R321, R334 to R336, R567). -/
namespace Sys2Proof.Machine

/-- The port code of R55. -/
def portCode : Port → Nat
  | .mgmt => 0
  | .operator => 1
  | .tenant _ => 2
  | .sideband => 3
  | .debug => 4
  | .peer _ => 5
  | .fabric => 6
  | .supervisor _ => 7

/-- The tenant number of a TENANT requester, else 0. -/
def portTenant : Port → Nat
  | .tenant t => t.val
  | _ => 0

/-- The hart number of a SUPERVISOR requester, else 0. -/
def portHart : Port → Nat
  | .supervisor h => h.val
  | _ => 0

/-- The PCIe function through which a port's accesses arrive, for the ports that are functions (Table 12.6). -/
def portFn : Port → Option Nat
  | .mgmt => some 0
  | .operator => some 1
  | .tenant t => some (2 + t.val)
  | _ => none

/-- A PGD FIRST_SRC word: port, tenant, hart and VALID (R64). -/
def srcWord (p : Port) : Nat := portCode p + 16 * portTenant p + 65536 * portHart p + 2 ^ 31

/-- Whether a port exists: a tenant's VF must be enabled by NumVFs and VF Enable (R315), and the SR-IOV settings are PF1's. -/
def Device.portExists (d : Device) : Port → Bool
  | .tenant t => d.hif.vfEnable && t.val < d.hif.numVfs
  | _ => true

/-- The PF0 offset a requester reaches at an offset of its own space (R317 to R319, R332): the PF1 mirror of Table 12.4,
the push BAR of Table 12.5 (push windows at the model's push-window space), every other port by PF0 offset. -/
def Device.resolve (d : Device) (p : Port) (a : Nat) : Option Nat :=
  match p with
  | .operator =>
    if a < 0x40000 then some (0x20000 + a)
    else if a < 0x50000 then some (0x60000 + (a - 0x40000))
    else if a < 0x54000 then some (0xF2000 + (a - 0x50000))
    else if 0x7F000 ≤ a ∧ a < 0x80000 then some (0x3000 + (a - 0x7F000))
    else if 0x80000 ≤ a ∧ a < 0x100000 then
      some (0x400000 + 0x80000 * d.rf R.prt_TEN_WINDOW 0 3 + (a - 0x80000))
    else none
  | .tenant t =>
    if a < 0x1000 then some (0x400000 + 0x1000 * t.val + a)
    else if 0x10000 ≤ a ∧ a < 0x50000 then some (0x4000000 + 0x1000 * (64 * t.val) + (a - 0x10000))
    else none
  | _ => if a < 0x4000000 ∧ (blockAt a).isSome then some a else none

/-- The address a LOST or DENY record holds for an access that reaches no page: its own BAR's offset with bit 31 (R321). -/
def ownAddr (a : Nat) : Word := wd (2 ^ 31 + a % 2 ^ 31)

/-- The tenant that owns a page (R334): TEN page t is owned by tenant t, a push window by its queue's tenant. -/
def pageOwner (off : Nat) : Option Nat :=
  match blockAt off with
  | some (22, t) => some t
  | some (31, g) => some (g / 64)
  | _ => none

/-- The page whose PAGE_PORTS governs an offset: QEN page 1 for the queue state table (R63). -/
def maskPage (off : Nat) : Nat := errPage off

/-- The port a mailbox is bound to (R442): mailbox 0 MGMT, 1 SIDEBAND, 2 DEBUG. -/
def mailboxPort (k : Nat) : Nat :=
  match k with
  | 0 => 0
  | 1 => 3
  | _ => 4

/-- The mailbox of an offset of SUP page 1 (R442). -/
def mailboxOf (off : Nat) : Nat := (off % 0x1000 - 0x600) / 0x100

/-- Whether R442 denies an access to a mailbox: the bound port writes the requests, the doorbell and DONE, SUPERVISOR the
responses, MB_DONE and MB_SLOT; both read. -/
def mailboxDenied (p : Port) (off : Nat) (write : Bool) : Bool :=
  decide (0xB600 ≤ off ∧ off < 0xB900) &&
    let r := off % 0x100
    let bound := portCode p == mailboxPort (mailboxOf off)
    let sup := portCode p == 7
    if !write then !(bound || sup)
    else if r < 0x40 ∨ r = 0x80 ∨ r = 0x84 then !bound
    else if r < 0x80 ∨ r = 0x88 ∨ r = 0x8C then !sup
    else !(bound || sup)

/-- Whether R46, R47, R333 or R336 denies an access of port `p` to the page of `off`. -/
def Device.denied (d : Device) (p : Port) (off : Nat) : Bool :=
  match p with
  | .supervisor _ => false
  | _ =>
    let c := portCode p
    let owned := match p with
      | .tenant t => pageOwner off = some t.val
      | _ => true
    let masked := match blockAt off with
      | some (31, _) => true
      | _ => d.rf (maskPage off + 0xC) c 1 = 1
    (c ≠ 0 && d.rf R.prt_PORT_OFF c 1 = 1) || (c = 4 && d.rf R.idn_FUSE_STATE 8 1 = 1) || !masked || !owned

/-- The bay of the tile page that an offset lies in (R98). -/
def bayOf (k : Nat) : Nat := 8 * (k / 64 / 8) + k % 64 / 8

/-- Bit `i` of a LO/HI pair of bit-map registers. -/
def Device.bit64 (d : Device) (lo i : Nat) : Bool := d.rf (lo + 4 * (i / 32)) (i % 32) 1 = 1

/-- Whether a page of entry n, page pg, stands in the always-on island (chapters 3, 16, 19, 21, 22). -/
def alwaysOn (n pg : Nat) : Bool :=
  n == 0 || n == 1 || n == 4 || n == 5 || n == 8 || n == 9 || (n == 25 && pg == 0)

/-- The physical columns of row r that no fuse marks bad (R97, R214). -/
def Device.goodCols (d : Device) (r : Nat) : List Nat :=
  (List.range 66).filter fun c => d.rf (R.idn_BAD_MAP r (c / 32)) (c % 32) 1 = 0

/-- The page that an offset reaches (R51, R125): in the physical window, with the remap in force, the logical page of the tile that
the physical tile carries; any other offset is its own. -/
def Device.alias_ (d : Device) (off : Nat) : Nat :=
  let p := (off - 0x2100000) / 0x1000
  if off < 0x2100000 ∨ 4224 ≤ p ∨ d.rf R.scm_REMAP_STATE 0 1 = 0 then off
  else match ((d.goodCols (p / 66)).take 64).idxOf? (p % 66) with
    | some c => 0x1000000 + 0x1000 * (64 * (p / 66) + c) + off % 0x1000
    | none => off

/-- Whether a device reset clears page pg of entry n: every page of the blocks it clears but the library's directory, and the pages of
the staging pools (Table 21.4, R574; log entry 127). -/
def devResetClears (n pg : Nat) : Bool :=
  n == 10 || (n == 11 && pg != 1) || n == 12 || n == 13 || n == 14 || (n == 15 && (pg == 1 || pg == 2)) || n == 16 || n == 18 ||
    n == 19 || n == 20 || n == 21 || n == 23 || n == 24 || n == 30

/-- Whether the reset in progress clears page pg of entry n: PERST_N's clears the HIF and TEN pages too (R575). -/
def Device.clearing (d : Device) (n pg : Nat) : Bool :=
  match d.boot.devReset with
  | none => false
  | some c => devResetClears n pg || (c == 2 && (n == 3 || n == 22))

/-- Whether the page of `off` is power-gated or held in reset (R56, R125, R454, R567, R574). -/
def Device.lostPage (d : Device) (off : Nat) : Bool :=
  match blockAt off with
  | none => false
  | some (n, pg) =>
    d.boot.por || (d.boot.mile < 2 && !(n == 0 || n == 1 || n == 4)) || (!d.boot.core && !alwaysOn n pg) ||
    d.clearing n pg ||
    n == 30 || (n == 24 && !d.bit64 R.pow_BAY_ON_LO (bayOf pg)) || (n == 14 && !d.bit64 R.pow_SLICE_ON_LO pg)

/-- Whether an access is lost: the page is, or the access comes through a push BAR whose VF is in FLR (R324), before PRIMED
(R567) or during a device reset (R574). -/
def Device.lost (d : Device) (p : Port) (off : Nat) : Bool :=
  d.lostPage off ||
  match p with
  | .tenant t => (d.fn (2 + t.val)).flr || d.boot.mile < 2 || d.boot.devReset.isSome
  | .operator => d.boot.mile < 2
  | _ => false

/-- The context words of Table 2.4: byte offset (with the table page for the queue state table, R63), write, port; tenant. -/
def accessInfo (p : Port) (off : Nat) (write : Bool) : Word :=
  let base := off % 0x1000 + 2 ^ 15 * b2n write + 65536 * portCode p
  match blockAt off with
  | some (23, g) => wd (base + 2 ^ 22 * g)
  | _ => wd base

/-- Log one of the common errors of Table 2.4 whose ERR_INFO_HI is the tenant. -/
def Device.errAccess (d : Device) (code : Nat) (p : Port) (off : Nat) (write : Bool) : Device :=
  d.err (errPage off) code (accessInfo p off write) (wd (portTenant p))

/-- Log RANGE, LOCKED or WIDEN with the value written (Table 2.4). -/
def Device.errValue (d : Device) (code : Nat) (p : Port) (off : Nat) (v : Word) : Device :=
  d.err (errPage off) code (accessInfo p off true) v

/-- One PGD record (R64): count, first address and source while VALID is 0, last address, EVT_RAW bit. -/
def Device.pgdRecord (d : Device) (base : Nat) (src : Nat) (addr : Word) (bit : Nat) : Device :=
  let d1 := d.count base 1
  let d2 := if d.rf (base + 8) 31 1 = 1 then d1 else (d1.setReg (base + 4) addr).setN (base + 8) src
  (d2.setReg (base + 0xC) addr).evtBit 0 bit

/-- The PGD DENY record with its WRITE bit (R64). -/
def Device.pgdDeny (d : Device) (p : Port) (addr : Word) (write : Bool) : Device :=
  d.pgdRecord R.pgd_DENY_COUNT (srcWord p + 2 ^ 30 * b2n write) addr 18

/-- A denied access (R46, R336) made at offset `raw` to the page of `off`: the page's error record unless the page is gated or in
reset, the PGD DENY record and the port's DENY_COUNT. -/
def Device.logDenied (d : Device) (p : Port) (raw off : Nat) (write : Bool) : Device :=
  let d1 := if d.lost p off || (blockAt off).map (·.1) = some 31 then d else d.errAccess 0x0001 p off write
  let d2 := d1.pgdDeny p (wd raw) write
  if portCode p < 7 then d2.count (R.prt_DENY_COUNT (portCode p)) 1 else d2

/-- The address of a lost access: its PF0 offset, or the push BAR's own offset with bit 31 for a push window (R321). -/
def lostAddr (a off : Nat) : Word := if off ≥ 0x4000000 then ownAddr a else wd off

/-- A lost access (R56): the PGD LOST_WRITE or LOST_READ record. -/
def Device.logLost (d : Device) (p : Port) (a off : Nat) (write : Bool) : Device :=
  if write then d.pgdRecord R.pgd_LOST_WRITE_COUNT (srcWord p) (lostAddr a off) 16
  else d.pgdRecord R.pgd_LOST_READ_COUNT (srcWord p) (lostAddr a off) 17

/-- An access to an address that nothing covers (R29, R320): the PGD DENY record, with bit 31 of the address set (R321). -/
def Device.logUnmapped (d : Device) (p : Port) (a : Nat) (write : Bool) : Device := d.pgdDeny p (ownAddr a) write

/-- A request that completes with Unsupported Request is counted (R326, R330). -/
def Device.unsupported (d : Device) : Device := d.count R.hif_UR_RECEIVED 1

/-- Whether the function of a port is in D3hot (R326). -/
def Device.portD3 (d : Device) (p : Port) : Bool :=
  match portFn p with
  | some f => (d.fn f).d3
  | none => false

/-- What becomes of an access before its page acts (R24 to R29, R46, R56, R326, R369): perform it with `k` or log it. -/
def Device.access (d : Device) (p : Port) (a : Nat) (be : BitVec 4) (len : Nat) (write : Bool)
    (k : Nat → Device → Device) : Device :=
  if !d.portExists p then d
  else if d.portD3 p then d.unsupported
  else match d.resolve p a with
    | none => d.logUnmapped p a write
    | some raw =>
      let off := d.alias_ raw
      if d.denied p off || mailboxDenied p off write then d.logDenied p raw off write
      else if d.lost p off then d.logLost p a raw write
      else if 0x4000000 ≤ off ∧ (be ≠ 15 ∨ len ≠ 4) then d.unsupported
      else if 64 < len ∨ 0x1000 < off % 0x1000 + len then (d.unsupported).errAccess 0x0002 p off write
      else if write && be ≠ 15 then d.errAccess 0x0002 p off true
      else k off d

/-- The offset in a port's own space at which it reaches a PF0 offset, where it does (Tables 12.4 to 12.6). -/
def Device.ownOffset (d : Device) (p : Port) (off : Nat) : Option Nat :=
  match p with
  | .operator =>
    if 0x20000 ≤ off ∧ off < 0x60000 then some (off - 0x20000)
    else if 0x60000 ≤ off ∧ off < 0x70000 then some (0x40000 + (off - 0x60000))
    else if 0xF2000 ≤ off ∧ off < 0xF6000 then some (0x50000 + (off - 0xF2000))
    else if 0x3000 ≤ off ∧ off < 0x4000 then some (0x7F000 + (off - 0x3000))
    else if 0x400000 + 0x80000 * d.rf R.prt_TEN_WINDOW 0 3 ≤ off ∧ off < 0x480000 + 0x80000 * d.rf R.prt_TEN_WINDOW 0 3 then
      some (0x80000 + (off - (0x400000 + 0x80000 * d.rf R.prt_TEN_WINDOW 0 3)))
    else none
  | .tenant t =>
    if 0x400000 + 0x1000 * t.val ≤ off ∧ off < 0x401000 + 0x1000 * t.val then some (off - (0x400000 + 0x1000 * t.val))
    else if 0x4000000 + 0x40000 * t.val ≤ off ∧ off < 0x4000000 + 0x40000 * (t.val + 1) then
      some (0x10000 + (off - (0x4000000 + 0x40000 * t.val)))
    else none
  | _ => if off < 0x4000000 then some off else none

/-- A write of the one register at PF0 offset `off` by `q`, acting by `k` where the page performs it. A port whose mapping
does not show the register cannot send the access: nothing happens. -/
def Device.writeAt (d : Device) (q : Req) (off : Nat) (k : Device → Device) : Device :=
  let d0 := d.at q.t
  match d0.ownOffset q.port off with
  | none => d0
  | some a => d0.access q.port a q.be 4 true fun _ d1 => k d1

/-- A read of the one register at PF0 offset `off` by `q`. -/
def Device.readAt (d : Device) (q : Req) (off : Nat) (k : Device → Device) : Device :=
  let d0 := d.at q.t
  match d0.ownOffset q.port off with
  | none => d0
  | some a => d0.access q.port a q.be 4 false fun _ d1 => k d1

/-- Whether a requester may write a field under the register's own rule. -/
def whoOk (w : Who) (p : Port) (off : Nat) : Bool :=
  match w with
  | .any => true
  | .mgmt => portCode p = 0
  | .sup => portCode p = 7
  | .mgmtSup => portCode p = 0 || portCode p = 7
  | .bound => portCode p = mailboxPort (mailboxOf off)

/-- Whether a value lies in a field's range (R61). -/
def inRange (f : RField) (x : Nat) : Bool :=
  match f.rng with
  | none => true
  | some (a, b) => a ≤ x && x ≤ b

/-- What a write of `v` leaves in the field `f` of the live word `w` (R10, R28, R61). -/
def fieldLive (f : RField) (v w : Word) : Word :=
  let x := fld v f.lo f.w
  match f.acc with
  | .rw => if inRange f x then setFld w f.lo f.w x else w
  | .w1c => setFld w f.lo f.w (fld w f.lo f.w - (fld w f.lo f.w &&& x))
  | .w1s => setFld w f.lo f.w (fld w f.lo f.w ||| x)
  | _ => w

/-- What a write of `v` leaves in the field `f` of the shadow word `w` (R34, R38). -/
def fieldShadow (f : RField) (v w : Word) : Word :=
  match f.acc with
  | .rwc => setFld w f.lo f.w (fld v f.lo f.w)
  | _ => w

/-- A write of `v` to the fields of the register at `off` by `p` (R28, R34, R61): RW fields at once, RWC fields in the
shadow; a field the requester may not write is left and PORT_DENIED logged; a value out of range is left and RANGE
logged. -/
def Device.writeFields (d : Device) (p : Port) (off : Nat) (v : Word) : Device :=
  match regDefAt off with
  | none => d
  | some r =>
    let fs := r.fields.filter fun f => whoOk f.who p off
    let d1 := d.setReg off (fs.foldl (fun w f => fieldLive f v w) (d.reg off))
    let d2 := if fs.any (fun f => f.acc == .rwc) then
        d1.setSh off (fs.foldl (fun w f => fieldShadow f v w) (d.sh off)) else d1
    let d3 := if fs.any (fun f => f.acc == .rw && !inRange f (fld v f.lo f.w)) then d2.errValue 0x0003 p off v else d2
    if r.fields.any (fun f => f.acc != .ro && !whoOk f.who p off) then d3.errAccess 0x0001 p off true else d3

/-! ### LO/HI pairs (R30, R31) -/

/-- The pair registers of a requester for a pair. -/
def Device.pairOf (d : Device) (p : Port) (lo : Nat) : PairReg :=
  (d.pairs.find? fun r => r.port = p ∧ r.off = lo).getD ⟨p, lo, none, none⟩

/-- Set the pair registers of a requester. -/
def Device.setPair (d : Device) (r : PairReg) : Device :=
  { d with pairs := r :: d.pairs.filter fun x => !(x.port = r.port ∧ x.off = r.off) }

/-- A HI write of a pair by a requester (R31): {HI, staged LO} is written, and the staging register is reloaded. -/
def Device.writePairHi (d : Device) (p : Port) (lo : Nat) (v : Word) : Device :=
  let r := d.pairOf p lo
  let l := r.staged.getD (d.reg lo)
  ((d.setReg lo l).setReg (lo + 4) v).setPair { r with staged := some l, captured := none }

/-- Whether the register at `off` is the part `part` of a pair whose fields are RW (R31). -/
def isPairRw (off part : Nat) : Bool :=
  match regDefAt off with
  | none => false
  | some r => r.pair == part && r.fields.any fun f => f.acc == .rw

/-- Whether an access reaches its page and is performed there. -/
def Device.reaches (d : Device) (p : Port) (a : Nat) (be : BitVec 4) (len : Nat) (write : Bool) : Bool :=
  d.portExists p && !d.portD3 p && match (d.resolve p a).map d.alias_ with
    | none => false
    | some off => !d.denied p off && !mailboxDenied p off write && !d.lost p off &&
      !(decide (0x4000000 ≤ off) && (be != 15 || len != 4)) && !(decide (64 < len) || decide (0x1000 < off % 0x1000 + len)) &&
      !(write && be != 15)

/-- A write of the register at `off` by `q` whose effect `k` may touch the harts. -/
def State.writeAt (s : State) (q : Req) (off : Nat) (k : State → State) : State :=
  let d0 := s.dev.at q.t
  match d0.ownOffset q.port off with
  | none => { s with dev := d0 }
  | some a =>
    if d0.reaches q.port a q.be 4 true then k { s with dev := d0 }
    else { s with dev := d0.access q.port a q.be 4 true fun _ d => d }

/-- Lift a change of the device to a step of the machine. -/
def onDev (f : Device → Device) (s : State) : Host.Outcome State Fault Refusal := .next { s with dev := f s.dev }

/-- The next state of a step that always has one. -/
def onState (f : State → State) (s : State) : Host.Outcome State Fault Refusal := .next (f s)

/-! ### The array clock (R189) -/

/-- Whether TRIPPED is set (R466). -/
def Device.tripped (d : Device) : Bool := d.rf R.thm_TRIP_STATUS 0 1 = 1

/-- Whether the array clock runs: CORE is out of reset, and no device reset, trip, hold or exhausted ladder stops it (R462, R466,
R574, R604). -/
def Device.arrayRuns (d : Device) : Bool :=
  d.boot.core && d.boot.devReset.isNone && !d.tripped && !d.pow.cooling && d.pow.hold.isNone && d.rf R.flt_DEV_FAULT 1 1 == 0

/-- The effect of an event of the array, which takes place only in a stage cycle: nothing while the array clock is stopped (R189). -/
def Device.inArray (d : Device) (f : Device → Device) : Device := if d.arrayRuns then f d else d

/-- Lift an event of the array to a step of the machine. -/
def onArray (f : Device → Device) (s : State) : Host.Outcome State Fault Refusal := onDev (fun d => d.inArray f) s

end Sys2Proof.Machine
end

