-- ==== Sys2Proof/Machine/BoardCore.lean ====
section
/-! DEFINITION. Machine/BoardCore.lean: the fault state, DEV_OK and the states of user pins as shared operations (chapter 19, R505,
R521 to R526). -/
namespace Sys2Proof.Machine

/-- Whether ALIVE, DEV_OK and the triggers are driven (R521). -/
def Device.presenceDriven (d : Device) : Bool := d.boot.vaon && d.boot.vaux && d.boot.sysN && !d.boot.por

/-- The fault state of R524. -/
def Device.faultState (d : Device) : Bool :=
  d.tripped || d.pow.cooling || d.rf R.flt_DEV_FAULT 0 2 ≠ 0 || d.boot.devReset.isSome || d.rf R.iob_PRESENCE_STATUS 2 1 = 1 ||
    d.rf R.iob_ALIVE_STATUS 8 1 = 1

/-- DEV_OK (R525). -/
def Device.devOk (d : Device) : Bool := d.presenceDriven && d.rf R.iob_OK_REQ 0 1 = 1 && d.boot.core && !d.faultState

/-- PRESENCE_STATUS follows its conditions; a fall of DEV_OK sets DEV_OK_LOW (R525, R529). -/
def Device.presenceSync (d : Device) : Device :=
  let was := d.rf R.iob_PRESENCE_STATUS 0 1 = 1
  let d1 := (d.setF R.iob_PRESENCE_STATUS 0 1 (b2n d.devOk)).setF R.iob_PRESENCE_STATUS 1 1 (b2n d.faultState)
  if was ∧ !d.devOk then d1.evtBit 0x2000000 19 else d1

/-! ### DEV_STATE (R560) -/

/-- The device state (Table 21.2): the milestone, or from TRAINED on RENDERED or RUNNING. -/
def Device.devStateNow (d : Device) : Nat :=
  if d.boot.mile < 4 then d.boot.mile
  else if (List.range 64).any fun p => d.rf (R.sch_PIPE_STATE p) 0 3 == 2 || d.rf (R.sch_PIPE_STATE p) 0 3 == 3 then 6
  else if d.rf R.skm_RENDER_STATE 0 2 = 1 then 5
  else 4

/-- DEV_STATE follows; a change sets STATE_CHANGE. -/
def Device.devSync (d : Device) : Device :=
  if d.rn R.sec_DEV_STATE = d.devStateNow then d else (d.setN R.sec_DEV_STATE d.devStateNow).evtBit 0x8000 16

/-- The voltage that BANK_CFG.VCCO declares, in mV; 0 when undeclared. -/
def vccoMv (v : Nat) : Nat :=
  match v with
  | 1 => 1200
  | 2 => 1500
  | 3 => 1800
  | 4 => 2500
  | 5 => 3300
  | _ => 0

/-- Whether a measured supply lies within 5 % of the declared one (R502). -/
def Device.vccoIn (d : Device) (b mv : Nat) : Bool :=
  let x := vccoMv (d.rf (R.iob_BANK_CFG b) 0 3)
  x ≠ 0 && decide (20 * (if x ≤ mv then mv - x else x - mv) ≤ x)

/-- The output of a user pin (Table 19.2). -/
inductive PinOut where
  | undriven | highZ | driven
  deriving DecidableEq, Repr

/-- The output and the pull of pin p of bank b, with `oe` its output-enable net and `supply` whether VAUX and VCCO_b are powered
(Table 19.2, R502). -/
def Device.pinState (d : Device) (b p : Nat) (oe supply fabricUp : Bool) : PinOut × Nat :=
  let c := d.reg (R.iob_IO_CFG b p)
  if !supply then (.undriven, 0)
  else if d.boot.por || !d.boot.sysN || d.rf (R.iob_BANK_STAT b) 16 1 = 0 then (.highZ, 0)
  else if fld c 0 3 = 0 then (.highZ, 0)
  else (if fabricUp && oe then .driven else .highZ, fld c 8 2)

end Sys2Proof.Machine
end

