-- ==== Sys2Proof/Machine/LinkBase.lean ====
section
/-! DEFINITION. Machine/LinkBase.lean: Linwald ports, their credits, the opening of a flit, and circuit channels, as shared
operations (chapter 20, R538 to R548). -/
namespace Sys2Proof.Machine

/-- What port k holds beside its registers. -/
def Device.lw (d : Device) (k : Nat) : LwPort := Store.get lwPort0 d.lwl k
/-- Set it. -/
def Device.setLw (d : Device) (k : Nat) (x : LwPort) : Device := { d with lwl := Store.set lwPort0 d.lwl k x }
/-- Change it. -/
def Device.modLw (d : Device) (k : Nat) (f : LwPort → LwPort) : Device := d.setLw k (f (d.lw k))
/-- The page of port k. -/
def lwPage (k : Nat) : Nat := 0x2038000 + 0x1000 * k
/-- PORT_STATUS.STATE: 0 DOWN, 1 TRAINING, 2 INIT, 3 UP. -/
def Device.lwState (d : Device) (k : Nat) : Nat := d.rf (R.lwl_PORT_STATUS k) 0 2
/-- KIND of channel c of port k: 0 OFF, 1 CIRCUIT, 2 FRAME_TX, 3 FRAME_RX. -/
def Device.chKind (d : Device) (k c : Nat) : Nat := d.rf (R.lwl_CH_CFG k c) 0 2

/-! ### Credits (R540) -/

/-- The size of the partner's buffer that a credit key names (Table 20.3): channels 0 to 63, 64 MEMWRITE, 65 MEMREAD, 66 CONTROL. -/
def Device.lwSize (d : Device) (k key : Nat) : Nat :=
  if key < 64 then (if d.chKind k key = 1 then 64 else 256) else if key = 66 then 64 else 256

/-- Whether port k holds a credit of a key. -/
def Device.lwCredit (d : Device) (k key : Nat) : Bool := decide (Store.get zeroN (d.lw k).spent key < d.lwSize k key)

/-- A segment leaves a receive buffer: its credit is owed to the partner. -/
def Device.lwFree (d : Device) (k key n : Nat) : Device :=
  d.modLw k fun x => { x with freed := Store.set zeroN x.freed key (Store.get zeroN x.freed key + n) }

/-- Flits of frames that wait on FRAME_TX channel c of port k. -/
def Device.chTx (d : Device) (k c : Nat) : List Flit := Store.get (fun _ => []) d.edge.chTx (64 * k + c)

/-- Whether a segment of channel c waits and holds a credit. -/
def Device.chReady (d : Device) (k c : Nat) : Bool := !(d.chTx k c).isEmpty && d.lwCredit k c

/-- Whether some segment that waits at port k may be sent. -/
def Device.lwSendable (d : Device) (k : Nat) : Bool :=
  let x := d.lw k
  !x.circ.isEmpty || (!x.ctl.isEmpty && d.lwCredit k 66) || (!x.mr.isEmpty && d.lwCredit k 65) ||
    (!x.mw.isEmpty && d.lwCredit k 64) || (List.range 64).any (d.chReady k)

/-- A flit is opened at its first segment, while fewer than 64 are unacknowledged (R538), with the STATE of R542. -/
def Device.lwTouch (d : Device) (k : Nat) : Device :=
  let x := d.lw k
  if d.lwState k = 3 ∧ x.opened = none ∧ x.replay.length < 64 ∧ d.lwSendable k then
    d.setLw k { x with opened := some (d.now.cyc, b2n d.devOk + 2 * b2n d.faultState) }
  else d

/-- PEER_TX_WAIT of port k is brought up to the present tick: it counts while a release waits for credit (R550). -/
def Device.lwSettle (d : Device) (k : Nat) : Device :=
  let x := d.lw k
  let waits := (List.range 64).any fun c => !(d.chTx k c).isEmpty && !d.lwCredit k c
  let d1 := if waits then d.count (R.lwl_PEER_TX_WAIT k) (d.now.tick - x.waitMark) else d
  d1.setLw k { x with waitMark := d.now.tick }

/-! ### Circuit channels (R546 to R548) -/

/-- LAT_SHORT of a CIRCUIT channel: BR_LAT below LAT_MEAS + 8. -/
def Device.latShort (d : Device) (k c : Nat) : Bool :=
  decide (d.rf (R.lwl_CH_CFG2 k c) 16 12 < d.rf (R.lwl_LAT_MEAS k) 0 12 + 8)

/-- Whether CIRCUIT channel c of port k is open (R548). -/
def Device.circuitOpen (d : Device) (k c : Nat) : Bool :=
  d.chKind k c == 1 && d.lwState k == 3 && d.rf (R.lwl_PORT_STATUS k) 7 1 == 0 && d.rf (R.lwl_PORT_STATUS k) 3 1 == 1 &&
    !d.latShort k c

/-- The CIRCUIT channel that takes the flits of the outbound east link of row r in a slot (TX_SLOTS). -/
def Device.circuitTx (d : Device) (r slot : Nat) : Option (Nat × Nat) :=
  let l : List (Nat × Nat) := (List.range 256).map fun i => (i / 64, i % 64)
  l.find? fun q => d.chKind q.1 q.2 == 1 && d.rf (R.lwl_CH_CFG q.1 q.2) 2 6 == r && d.rf (R.lwl_CH_CFG q.1 q.2) (16 + slot) 1 == 1

/-- READY of a CIRCUIT channel towards the array. -/
def Device.circuitReady (d : Device) (k c : Nat) : Bool := d.circuitOpen k c && d.lwCredit k c

/-- A flit sent in a TX slot enters its channel: it takes a credit. -/
def Device.circuitEnter (d : Device) (k c : Nat) (f : Flit) : Device :=
  (d.modLw k fun x =>
    { x with
      circ := x.circ ++ [(c, f, d.now.cyc)]
      spent := Store.set zeroN x.spent c (Store.get zeroN x.spent c + 1) }).lwTouch k

/-- The flit that CIRCUIT channel c of port k may deliver in an RX slot of the present cycle, in arrival order (R548). -/
def Device.circuitHead (d : Device) (k c slot : Nat) : Option Flit :=
  if d.circuitOpen k c ∧ d.rf (R.lwl_CH_CFG2 k c) slot 1 = 1 then
    match (d.lw k).circRx.find? fun q => q.1 == c with
    | some (_, f, due) => if due ≤ d.now.cyc then some f else none
    | none => none
  else none

/-- Whether a CIRCUIT channel has a flit for the east inbound link of row r in a slot of the present cycle. -/
def Device.circuitClaims (d : Device) (r slot : Nat) : Bool :=
  (List.range 256).any fun i =>
    d.chKind (i / 64) (i % 64) == 1 && d.rf (R.lwl_CH_CFG (i / 64) (i % 64)) 2 6 == r && (d.circuitHead (i / 64) (i % 64) slot).isSome

/-- The flit at the head of CIRCUIT channel c of port k has been delivered. -/
def Device.circuitTaken (d : Device) (k c : Nat) : Device :=
  let x := d.lw k
  match x.circRx.find? fun q => q.1 == c with
  | some q => (d.setLw k { x with circRx := x.circRx.erase q }).lwFree k c 1
  | none => d

end Sys2Proof.Machine
end

