-- ==== Sys2Proof/Machine/PlumbCore.lean ====
section
/-! DEFINITION. Machine/PlumbCore.lean: the Plumb unit's channels, predictions, position-event queue and trigger placement
as shared operations (chapter 3, R65 to R97). -/
namespace Sys2Proof.Machine

/-- Round half up of a quotient of integers, the divisor positive (R77, R79, R80). -/
def rhu (x y : Int) : Int := (2 * x + y) / (2 * y)

/-- Quotient rounded towards plus infinity, the divisor positive. -/
def ceilDiv (x y : Int) : Int := -((-x) / y)

/-! ### Configuration -/

/-- KIND of reference input i (Table 3.1). -/
def Device.refKind (d : Device) (i : Nat) : Nat := d.rf (R.plb_REF_CFG i) 0 3
/-- SRC.KIND of channel c: 0 OFF, 1 REF, 2 PTP, 3 INTERNAL. -/
def Device.srcKind (d : Device) (c : Nat) : Nat := d.rf (R.plb_SRC c) 0 2
/-- SRC.INPUT of channel c. -/
def Device.srcInput (d : Device) (c : Nat) : Nat := d.rf (R.plb_SRC c) 4 3
/-- SRC.PTP_PORT of channel c. -/
def Device.srcPort (d : Device) (c : Nat) : Nat := d.rf (R.plb_SRC c) 8 1
/-- SRC.FALLBACK of channel c: COAST. -/
def Device.srcCoast (d : Device) (c : Nat) : Bool := d.rf (R.plb_SRC c) 12 1 = 1
/-- SRC.ENABLE of channel c. -/
def Device.chEnabled (d : Device) (c : Nat) : Bool := d.rf (R.plb_SRC c) 31 1 = 1
/-- NUM of channel c. -/
def Device.chNum (d : Device) (c : Nat) : Nat := d.rn (R.plb_NUM c)
/-- DEN of channel c. -/
def Device.chDen (d : Device) (c : Nat) : Nat := d.rn (R.plb_DEN c)
/-- MOD of channel c. -/
def Device.chMod (d : Device) (c : Nat) : Nat := d.rn64 (R.plb_MOD_LO c)
/-- A channel's state. -/
def Device.ch (d : Device) (c : Nat) : Chan := Store.get chan0 d.plb.chans c
/-- Set a channel's state. -/
def Device.setCh (d : Device) (c : Nat) (x : Chan) : Device :=
  { d with plb := { d.plb with chans := Store.set chan0 d.plb.chans c x } }
/-- Whether channel c counts a MAINS input (R80). -/
def Device.isMains (d : Device) (c : Nat) : Bool := d.srcKind c == 1 && d.refKind (d.srcInput c) == 5
/-- Whether channel c counts a PPS input. -/
def Device.isPps (d : Device) (c : Nat) : Bool := d.srcKind c == 1 && d.refKind (d.srcInput c) == 6
/-- The page of channel c. -/
def chPage (c : Nat) : Nat := 0x11000 + 0x1000 * c

/-! ### PTP clocks (R511) -/

/-- A PTP clock's units of 2^-32 ns at tick `t`. -/
def Device.ptpAt (d : Device) (p t : Nat) : Int :=
  let k := Store.get ptpClk0 d.plb.ptp p
  k.value + ((t - k.since : Nat) : Int) * (2 ^ 32 + sext 32 (d.rn (R.eth_PTP_ADJ p)))

/-- Its nanoseconds, SEC and NS as one number, FRAC truncated. -/
def Device.ptpNs (d : Device) (p t : Nat) : Int := d.ptpAt p t / 2 ^ 32

/-- Set a PTP clock's value at the present tick. -/
def Device.setPtp (d : Device) (p : Nat) (v : Int) : Device :=
  { d with plb := { d.plb with ptp := Store.set ptpClk0 d.plb.ptp p ⟨v, d.now.tick, none⟩ } }

/-- PTP_CTRL.PTP_VALID of port p (R81). -/
def Device.ptpValid (d : Device) (p : Nat) : Bool := d.rf R.plb_PTP_CTRL p 1 = 1

/-! ### Counting (R73, R77, R78) -/

/-- Apply `k` counts (signed) to a position and remainder (R73). -/
def applyCounts (num den : Nat) (u : Int) (rem : Nat) (k : Int) : Int × Nat :=
  let q := (rem : Int) + k * num
  (wrapS 64 (u + q / den), (q % den).toNat)

/-- VEL from the window of a channel (R77). `win` is newest first. -/
def winVel (est num den : Nat) (win : List CountRec) : Int :=
  let m := min est (win.length - 1)
  match win.head?, win[m]? with
  | some a, some b =>
    if m = 0 then 0
    else rhu (((win.take m).foldl (fun (s : Int) r => s + r.dir * num) 0) * 2 ^ 32) (den * ((a.stamp : Int) - b.stamp))
  | _, _ => 0

/-- The interpolated position of a REF channel (R78). -/
def interp (num den : Nat) (x : Chan) (now : Nat) : Int :=
  let d := x.vel * ((now : Int) - x.tEdge) / 2 ^ 32
  let up := ((x.rem : Int) + num) / den
  let dn := ((x.rem : Int) - num) / den
  let d1 := if d > up - 1 then up - 1 else d
  let d2 := if d1 < dn + 1 then dn + 1 else d1
  wrapS 64 (x.u + d2)

/-- The rate of a PTP or INTERNAL source in VEL units (R77). -/
def Device.rateVel (d : Device) (c : Nat) : Int :=
  if d.srcKind c = 2 then rhu (d.chNum c * (2 ^ 32 + sext 32 (d.rn (R.eth_PTP_ADJ (d.srcPort c))))) (d.chDen c)
  else rhu (d.chNum c * 2 ^ 32) (d.chDen c)

/-- How many counts a PTP or INTERNAL source has brought between the last counted tick and `t` (R72, R78). -/
def Device.freeCounts (d : Device) (c t : Nat) (x : Chan) : Int :=
  if d.srcKind c = 3 then ((t - x.tEdge : Nat) : Int)
  else if d.ptpValid (d.srcPort c) then d.ptpNs (d.srcPort c) t - x.ns else 0

/-- Whether channel c counts without edges. -/
def Device.freeRunning (d : Device) (c : Nat) : Bool := d.srcKind c == 2 || d.srcKind c == 3

/-- The unwrapped position that channel c reports at the present tick (R78, R82, R83). -/
def Device.chU (d : Device) (c : Nat) : Int :=
  let x := d.ch c
  if !d.chEnabled c then x.u
  else match x.st with
  | .off => x.u
  | .stalled => x.frozen
  | .coasting => wrapS 64 (x.coastU + x.vel * ((d.now.tick : Int) - x.coastT) / 2 ^ 32)
  | _ =>
    if d.freeRunning c then (applyCounts (d.chNum c) (d.chDen c) x.u x.rem (d.freeCounts c d.now.tick x)).1
    else interp (d.chNum c) (d.chDen c) x d.now.tick

/-- VEL as channel c reports it (R77, R81, R83). -/
def Device.chVel (d : Device) (c : Nat) : Int :=
  let x := d.ch c
  if !d.chEnabled c then 0
  else match x.st with
  | .off | .stalled => 0
  | .coasting => x.vel
  | _ => if d.freeRunning c then d.rateVel c else x.vel

/-- The reported position P of an unwrapped position (R74), as 64 bits. -/
def Device.toP (d : Device) (c : Nat) (u : Int) : Nat :=
  if d.chMod c = 0 then toBits 64 u else (u % (d.chMod c : Int)).toNat

/-- P at the present tick. -/
def Device.chP (d : Device) (c : Nat) : Nat := d.toP c (d.chU c)

/-- CH_STATE.STATE. -/
def Device.chState (d : Device) (c : Nat) : Nat :=
  if !d.chEnabled c || d.srcKind c == 0 then 0
  else match (d.ch c).st with
  | .off => 0 | .acquiring => 1 | .tracking => 2 | .stalled => 3 | .coasting => 4

/-! ### Predictions (R79, R86) -/

/-- The tick at which channel c reaches the unwrapped target `u`, where one is predicted. -/
def Device.predict (d : Device) (c : Nat) (u : Int) : Option Nat :=
  let x := d.ch c
  if !d.chEnabled c then none
  else match x.st with
  | .off | .stalled => none
  | .coasting =>
    let g := wrapS 64 (u - x.coastU)
    if x.vel ≤ 0 ∨ g ≤ 0 then none else some (x.coastT + (ceilDiv (g * 2 ^ 32) x.vel).toNat)
  | _ =>
    let g := wrapS 64 (u - x.u)
    if g ≤ 0 then none
    else if d.srcKind c = 3 then
      some (x.tEdge + (ceilDiv (g * d.chDen c - x.rem) (d.chNum c)).toNat)
    else if d.srcKind c = 2 then
      if !d.ptpValid (d.srcPort c) then none
      else
        let k := ceilDiv (g * d.chDen c - x.rem) (d.chNum c)
        let clk := Store.get ptpClk0 d.plb.ptp (d.srcPort c)
        let rate := 2 ^ 32 + sext 32 (d.rn (R.eth_PTP_ADJ (d.srcPort c)))
        some (clk.since + (ceilDiv ((x.ns + k) * 2 ^ 32 - clk.value) rate).toNat)
    else if x.vel ≤ 0 then none
    else some (x.tEdge + (rhu ((g * d.chDen c - x.rem) * 2 ^ 32) (x.vel * d.chDen c)).toNat)

/-! ### The queue -/

/-- Set the pending entries. -/
def Device.setEntries (d : Device) (l : List EvEntry) : Device := { d with plb := { d.plb with entries := l } }

/-- Set the placed pulses. -/
def Device.setPulses (d : Device) (l : List Pulse) : Device := { d with plb := { d.plb with pulses := l } }

/-- The pending entry of a number. -/
def Device.entry (d : Device) (n : Nat) : Option EvEntry := d.plb.entries.find? (·.num = n)

/-- Replace an entry by its number. -/
def Device.setEntry (d : Device) (e : EvEntry) : Device :=
  d.setEntries (d.plb.entries.map fun x => if x.num = e.num then e else x)

/-- EVQ_USED: the pending entries. An ADMIT entry that SCH holds undecided keeps its place (R84); a RELEASE entry handed
over has left the queue. -/
def Device.evqUsed (d : Device) : Nat := (d.plb.entries.filter fun e => !(e.hand.isSome && e.kind == .release)).length

/-- The bits of a trigger mask, as output numbers. -/
def maskBits (m : BitVec 16) : List Nat := (List.range 16).filter fun j => m.getLsbD j

/-- OFFSET_j. -/
def Device.trigOffset (d : Device) (j : Nat) : Int := sext 16 (d.rf (R.plb_TRIG_OFFSET j) 0 16)

/-- TRIG_j ENABLE. -/
def Device.trigOn (d : Device) (j : Nat) : Bool := d.rf (R.plb_TRIG_CFG j) 0 1 = 1

/-- Place the pulse of entry `e` on output `j` for the wanted start, computed at tick `at_` (R91): the placement in force is
kept when it wants the same start; a start less than 8 ticks away is moved to 8 ticks; a pulse begun is never placed again. -/
def placeOne (e : EvEntry) (j : Nat) (wanted : Int) (at_ : Nat) (l : List Pulse) : List Pulse :=
  if e.fired.getLsbD j then l
  else
    let w := wanted.toNat
    if l.any (fun p => p.entry == some e.num && p.out == j && p.wanted == w) then l
    else
      let moved := decide (wanted < (at_ : Int) + 8)
      ⟨j, if moved then at_ + 8 else w, w, moved, some e.num, if e.kind = .release then some e.job else none⟩ ::
        l.filter fun p => !(p.entry == some e.num && p.out == j)

/-- Place every pulse of an entry from a base tick, with the outputs' offsets or without (R91). -/
def Device.placeEntry (d : Device) (e : EvEntry) (base : Nat) (offs : Bool) : Device :=
  d.setPulses ((maskBits e.mask).foldl
    (fun l j => placeOne e j ((base : Int) + if offs then d.trigOffset j else 0) d.now.tick l) d.plb.pulses)

/-- Remove the pulses of an entry that have not begun. -/
def Device.unplace (d : Device) (n : Nat) : Device := d.setPulses (d.plb.pulses.filter fun p => !(p.entry == some n))

/-- Recompute an entry's prediction and placement (R79, R91). -/
def Device.repredict (d : Device) (e : EvEntry) : Device :=
  let p := d.predict e.ch e.target
  let e1 := { e with pred := p }
  let d1 := d.setEntry e1
  match p with
  | none => d1.unplace e.num
  | some t => d1.placeEntry e1 t true

/-- Recompute the predictions of every entry of channel c that is not due. -/
def Device.repredictCh (d : Device) (c : Nat) : Device :=
  (d.plb.entries.filter fun e => e.ch = c ∧ e.due = none).foldl (fun d e => d.repredict e) d

/-- Bring a PTP or INTERNAL channel's counts up to the present tick (R78); a COASTING one's counts go to the followed
position (R82); a STALLED one resumes at its first count (R81). -/
def Device.syncCh (d : Device) (c : Nat) : Device :=
  let x := d.ch c
  if !d.chEnabled c || !d.freeRunning c then d else
  let t := d.now.tick
  let k := d.freeCounts c t x
  let ns := if d.srcKind c = 2 then d.ptpNs (d.srcPort c) t else x.ns
  if k ≤ 0 then d else
  match x.st with
  | .coasting =>
    let (u, r) := applyCounts (d.chNum c) (d.chDen c) x.followU x.followRem k
    d.setCh c { x with followU := u, followRem := r, ns := ns, tEdge := t }
  | .off => d
  | st =>
    let (u, r) := applyCounts (d.chNum c) (d.chDen c) x.u x.rem k
    let d1 := d.setCh c { x with u := u, rem := r, ns := ns, tEdge := t, st := .tracking }
    if st = .stalled then (d1.evtBit (chPage c) 17).repredictCh c else d1

/-- An entry falls due (R86, R89 to R91). -/
def Device.fallDue (d : Device) (e : EvEntry) (due : Due) : Device :=
  let d1 := d.setEntry { e with due := some due }
  let d2 := if due.past then (d1.count R.plb_PAST_COUNT 1).placeEntry e (due.tick + 8) false
    else if due.edge then d1.placeEntry e (due.stamp + 8) true
    else d1
  let d3 := if due.jumped then
      let d3 := (d2.count R.plb_JUMPED_COUNT 1).unplace e.num
      if e.mask ≠ 0 then (d3.count R.plb_SUPPRESSED_COUNT 1).evtBit 0x1A000 18 else d3
    else d2
  d3.setPulses (d3.plb.pulses.filter fun p => !(p.entry == some e.num && !d3.trigOn p.out))

/-- Entries of channel c whose predicted tick satisfies `p` fall due by prediction. -/
def Device.duePredicted (d : Device) (c : Nat) (p : Nat → Bool) : Device :=
  (d.plb.entries.filter fun e => e.ch = c ∧ e.due = none ∧ (e.pred.map p).getD false).foldl
    (fun d e => d.fallDue e ⟨e.pred.getD 0, false, false, false, 0⟩) d

/-- Whether an unwrapped position has reached a target (R86). -/
def reached (u target : Int) : Bool := 0 ≤ wrapS 64 (u - target)

/-- Entries of channel c that the position `u` has reached and that are not due fall due with the given mark. -/
def Device.dueReached (d : Device) (c : Nat) (u : Int) (due : Due) : Device :=
  (d.plb.entries.filter fun e => e.ch = c ∧ e.due = none ∧ reached u e.target).foldl (fun d e => d.fallDue e due) d

/-- A jump of channel c from the position it reported (R89): `f` moves it; then what it carried falls due JUMPED. -/
def Device.jump (d : Device) (c : Nat) (f : Device → Device) : Device :=
  let d1 := (d.duePredicted c (· ≤ d.now.tick)).syncCh c
  let d2 := f d1
  let d3 := if d2.chEnabled c then d2.dueReached c (d2.chU c) ⟨d2.now.tick, false, false, true, 0⟩ else d2
  d3.repredictCh c

/-- `k` counts with one stamp reach channel c of a REF source (R69, R73, R77): predictions earlier than the count fall due,
the channel moves, what it reaches falls due by the count, the others are predicted again. -/
def Device.onCounts (d : Device) (c : Nat) (k : Int) (stamp : Nat) : Device :=
  let x := d.ch c
  let t := d.now.tick
  if !d.chEnabled c then d else
  match x.st with
  | .coasting =>
    let (u, r) := applyCounts (d.chNum c) (d.chDen c) x.followU x.followRem k
    d.setCh c { x with followU := u, followRem := r, tEdge := stamp }
  | _ =>
    let d0 := d.duePredicted c fun p => p ≤ stamp || p < t
    let (u, r) := applyCounts (d.chNum c) (d.chDen c) x.u x.rem k
    let mains := d.isMains c
    let old := if x.st = .stalled then [] else x.win
    let win := if mains then [] else (⟨k, stamp⟩ :: old).take 257
    let vel := if mains then (if x.st = .stalled ∧ !x.mains.lock then 0 else x.vel)
      else winVel (d.rf (R.plb_EST c) 0 9) (d.chNum c) (d.chDen c) win
    let st := if mains then (if x.mains.lock then ChState.tracking else .acquiring)
      else if win.length < 2 then .acquiring else .tracking
    let d1 := d0.setCh c { x with u := u, rem := r, tEdge := stamp, win := win, vel := vel, st := st }
    let d2 := if x.st = .stalled then d1.evtBit (chPage c) 17 else d1
    (d2.dueReached c u ⟨t, false, true, false, stamp⟩).repredictCh c

/-- VEL of a locked MAINS channel of period P (R80). -/
def Device.mainsVel (d : Device) (c p : Nat) : Int := rhu (65536 * d.chNum c * 2 ^ 32) (d.chDen c * p)

/-- Whether four periods are good for MAINS_LOCK: each within 40 to 70 Hz, differing by at most 0.5 % (R80). -/
def mainsGood (l : List Nat) : Bool :=
  l.length == 4 && l.all fun a => l.all fun b => 200 * (a - b) ≤ a

/-- A period within 40 to 70 Hz (R80). -/
def mainsInRange (p : Nat) : Bool := 1000000000 ≤ 70 * p && 40 * p ≤ 1000000000

/-- A counted zero-cross of channel c's MAINS input, stamped `e` (R80). -/
def Device.zeroCross (d : Device) (c e : Nat) : Device :=
  let m := (d.ch c).mains
  let owed : Nat := if m.lock then 65536 - m.emitted else 65536
  let m1 : Mains := match m.last with
    | none => ⟨false, some e, [], 0⟩
    | some e0 =>
      if mainsInRange (e - e0) then
        let ps := ((e - e0) :: m.periods).take 4
        ⟨m.lock || mainsGood ps, some e, ps, 0⟩
      else ⟨false, some e, [], 0⟩
  let bad := match m.last with
    | none => false
    | some e0 => !mainsInRange (e - e0)
  let vel := if m1.lock then d.mainsVel c (m1.periods.headD 1) else 0
  let stalled := (d.ch c).st == .stalled
  let d1 := d.setCh c { d.ch c with mains := m1, vel := if stalled || (d.ch c).st == .coasting then (d.ch c).vel else vel }
  let d2 := if owed = 0 then d1 else d1.onCounts c owed e
  let st := (d2.ch c).st
  let d3 := d2.setCh c { d2.ch c with
    vel := if st == .stalled then 0 else vel
    st := if st == .acquiring || st == .tracking then (if m1.lock then .tracking else .acquiring) else st }
  let d4 := if bad then d3.evtBit 0x10000 17 else d3
  d4.repredictCh c

/-- The next spread count of a locked MAINS channel (R80), where it is due at the present tick. -/
def Device.mainsTick (d : Device) (c : Nat) : Device :=
  let m := (d.ch c).mains
  match m.last, m.periods.head? with
  | some e, some p =>
    let stamp := e + (m.emitted + 1) * p / 65536
    if d.isMains c && m.lock && m.emitted < 65536 && decide (stamp ≤ d.now.tick) then
      (d.setCh c { d.ch c with mains := { m with emitted := m.emitted + 1 } }).onCounts c 1 stamp
    else d
  | _, _ => d

/-- Channel c freezes (R81, R83): its motion stops at the present tick. -/
def Device.freeze (d : Device) (c : Nat) : Device :=
  let x := d.ch c
  (d.setCh c { x with frozen := d.chU c, vel := 0, win := [], st := .stalled }).repredictCh c

/-- Channel c begins to coast (R82). -/
def Device.coast (d : Device) (c : Nat) : Device :=
  let x := d.ch c
  let u := d.chU c
  let y : Chan := { x with coastU := u, coastT := d.now.tick, vel := d.chVel c, followU := u, followRem := 0, st := .coasting }
  ((d.setCh c y).repredictCh c).evtBit (chPage c) 19

/-- A channel (re)starts (R72): its position stays, its remainder and window are emptied. -/
def Device.startCh (d : Device) (c : Nat) (u : Int) : Device :=
  let t := d.now.tick
  let x := d.ch c
  let free := d.freeRunning c
  let d1 := d.setCh c { x with
    u := u
    rem := 0
    tEdge := t
    vel := 0
    win := []
    start := t
    st := if d.srcKind c = 0 then .off else if free then .tracking else .acquiring
    ns := if d.srcKind c = 2 then d.ptpNs (d.srcPort c) t else x.ns
    mains := ⟨false, none, [], 0⟩ }
  if d.srcKind c == 2 && !d.ptpValid (d.srcPort c) then
    if d.srcCoast c then d1.coast c else d1.freeze c
  else d1

/-- The reason of Table 2.2 with which a post is refused: the target out of reach (R85). -/
def Device.targetOf (d : Device) (c pt laps : Nat) : Option Int :=
  let u := d.chU c
  let md := d.chMod c
  if md = 0 then
    let g := sext 64 pt - u
    if g.natAbs < 2 ^ 62 then some (sext 64 pt) else none
  else if md ≤ pt then none
  else
    let g := ((pt : Int) - d.chP c) % md + laps * md
    if g.natAbs < 2 ^ 62 then some (wrapS 64 (u + g)) else none

/-- The number a post takes: the device's own choice `n` where it is free, else the lowest free one (log entry 11). -/
def Device.freeEntry (d : Device) (n : Nat) : Nat :=
  if d.plb.entries.any (·.num = n) then
    ((List.range 4096).find? fun k => !d.plb.entries.any (·.num = k)).getD 0
  else n

/-- Post an entry to a queue that has room (R84 to R86). -/
def Device.post (d : Device) (n : Nat) (kind : EvKind) (c : Nat) (target : Int) (mask : BitVec 16) (job slot : Nat)
    (value : Word) : Device :=
  let e : EvEntry := ⟨n, kind, c, target, mask, job, slot, value, d.plb.nextOrder, none, none, 0, none, false⟩
  let d1 := { d with plb := { d.plb with entries := d.plb.entries ++ [e], nextOrder := d.plb.nextOrder + 1 } }
  let d2 := if d1.chEnabled c && reached (d1.chU c) target then d1.fallDue e ⟨d1.now.tick, true, false, false, 0⟩
    else d1.repredict e
  let used := d2.evqUsed
  let d3 := d2.setN R.plb_EVQ_HIGHWATER (max (d2.rn R.plb_EVQ_HIGHWATER) used)
  if d3.rf R.plb_EVQ_HIGH_MARK 0 13 ≠ 0 ∧ used = d3.rf R.plb_EVQ_HIGH_MARK 0 13 then d3.evtBit 0x19000 16 else d3

/-- Whether the queue has no room (R84). -/
def Device.evqFull (d : Device) : Bool := 4096 ≤ d.evqUsed

/-- A post is refused as FULL: the count and event of page 9 (R85). -/
def Device.evqRefuse (d : Device) : Device := (d.count R.plb_EVQ_FULL_COUNT 1).evtBit 0x19000 17

/-- Remove an entry before its delivery, with its pulses that have not begun (R88). -/
def Device.cancelEntry (d : Device) (n : Nat) : Device :=
  (d.setEntries (d.plb.entries.filter fun e => !(e.num == n))).unplace n

/-- Remove the ADMIT or RELEASE entries of the jobs that `p` names (R67). -/
def Device.cancelJobEntries (d : Device) (p : Nat → Bool) : Device :=
  let gone := d.plb.entries.filter fun e => (e.kind == .admission || e.kind == .release) && p e.job
  gone.foldl (fun d e => d.cancelEntry e.num) d

/-- The order of kinds in delivery (R87). -/
def EvKind.rank : EvKind → Nat
  | .trigger => 0
  | .release => 1
  | .admission => 2
  | .wake => 3

/-- Whether due entry a is delivered before due entry b (R87). -/
def before (a b : EvEntry) : Bool :=
  let ta : Nat := (a.due.map (·.tick)).getD 0
  let tb : Nat := (b.due.map (·.tick)).getD 0
  if ta ≠ tb then ta < tb
  else if a.ch ≠ b.ch then a.ch < b.ch
  else if a.kind.rank ≠ b.kind.rank then a.kind.rank < b.kind.rank
  else a.order < b.order

/-- The first of a list in delivery order. -/
def firstDue : List EvEntry → Option EvEntry
  | [] => none
  | e :: r => match firstDue r with
    | none => some e
    | some f => if before e f then some e else some f

end Sys2Proof.Machine
end

