-- ==== Sys2Proof/Machine/JobsCore.lean ====
section
/-! DEFINITION. Machine/JobsCore.lean: the job tracker, result headers, completion, head order, staging buffers and trace
records as shared operations (chapters 9, 13, 14, 15 and 23). -/
namespace Sys2Proof.Machine

/-! ### Words and bytes -/

/-- A difference of u32 counters (R342). -/
def u32sub (a b : Nat) : Nat := (a + 2 ^ 32 - b % 2 ^ 32) % 2 ^ 32

/-- The low `n` bytes of a number, little-endian (R6). -/
def leBytes : Nat → Nat → List Byte
  | 0, _ => []
  | n + 1, v => BitVec.ofNat 8 v :: leBytes n (v / 256)

/-- Bytes read little-endian as a number. -/
def fromLe : List Byte → Nat
  | [] => 0
  | b :: r => b.toNat + 256 * fromLe r

/-- Bytes cut into pieces of `n` (n > 0), the last filled with 0; `fuel` bounds the pieces. -/
def chunk (n : Nat) : Nat → List Byte → List (List Byte)
  | 0, _ => []
  | _, [] => []
  | fuel + 1, l => ((l ++ List.replicate n 0).take n) :: chunk n fuel (l.drop n)

/-- Saturate an integer to s32 (R253). -/
def sat32 (x : Int) : Int := max (-(2 ^ 31 - 1)) (min (2 ^ 31 - 1) x)

/-! ### Pipelines -/

/-- What SCH holds of pipeline p. -/
def Device.pipe (d : Device) (p : Nat) : Pipe := Store.get pipe0 d.pipes p
/-- Set it. -/
def Device.setPipe (d : Device) (p : Nat) (x : Pipe) : Device := { d with pipes := Store.set pipe0 d.pipes p x }
/-- PIPE_STATE.STATE (Table 8.2). -/
def Device.pipeState (d : Device) (p : Nat) : Nat := d.rf (R.sch_PIPE_STATE p) 0 3
/-- PIPE_STATE.FAULT. -/
def Device.pipeFault (d : Device) (p : Nat) : Bool := d.rf (R.sch_PIPE_STATE p) 8 1 = 1
/-- PIPE_STATE.RESETTING. -/
def Device.pipeResetting (d : Device) (p : Nat) : Bool := d.rf (R.sch_PIPE_STATE p) 9 1 = 1
/-- The SCH page of pipeline p. -/
def schPage (p : Nat) : Nat := 0x20000 + 0x1000 * p
/-- ING_CFG.KIND: 0 NONE, 1 HOD, 2 LATH, 3 PEER (Table 8.1). -/
def Device.ingKind (d : Device) (p : Nat) : Nat := d.rf (R.sch_ING_CFG p) 0 2
/-- ING_CFG.ROW. -/
def Device.ingRow (d : Device) (p : Nat) : Nat := d.rf (R.sch_ING_CFG p) 8 6
/-- The channel key of a PEER ingress. -/
def Device.ingChan (d : Device) (p : Nat) : Nat := 64 * d.rf (R.sch_ING_CFG p) 16 2 + d.rf (R.sch_ING_CFG p) 18 6
/-- EGR_CFG.KIND: 0 NONE, 1 HOD, 2 LATH, 3 PEER, 4 TRIGGER (Table 8.1). -/
def Device.egrKind (d : Device) (p : Nat) : Nat := d.rf (R.sch_EGR_CFG p) 0 3
/-- EGR_CFG.ROW. -/
def Device.egrRow (d : Device) (p : Nat) : Nat := d.rf (R.sch_EGR_CFG p) 8 6
/-- The channel key of a PEER egress. -/
def Device.egrChan (d : Device) (p : Nat) : Nat := 64 * d.rf (R.sch_EGR_CFG p) 16 2 + d.rf (R.sch_EGR_CFG p) 18 6
/-- The nominal stage clock in MHz (R246): MHZ_NOW, the STAGE_MHZ that has taken effect (R458). -/
def Device.mhz (d : Device) : Nat := d.rf R.pow_POW_STATUS 0 10
/-- The aligned 1 ms window of the present tick. -/
def Device.window (d : Device) : Nat := d.now.tick / 1000000

/-! ### Faults whose code and context the spec does not state -/

/-- A FLT record of a fault that Table 22.3 names and no error code of the spec covers: its code and context words are free
values (log entry 4). -/
def Device.faultOpen (d : Device) (src cls : Nat) : Device :=
  let (a, d1) := d.fresh
  let (b, d2) := d1.fresh
  let (c, d3) := d2.fresh
  d3.faultLog src (a.toNat % 65536) cls b c

/-! ### Jobs -/

/-- The tenant of a global queue. -/
def tenantOf (g : Nat) : Nat := g / 64
/-- The PCIe function of a queue's tenant. -/
def vfOf (g : Nat) : Nat := 2 + g / 64
end Sys2Proof.Machine

namespace Sys2Proof
open Sys2Proof.Machine

/-- KIND of an entry (Table 13.2). -/
def Desc.kind (e : Desc) : Nat := fld e.ctrl 2 3
/-- FIRST of an entry. -/
def Desc.first (e : Desc) : Bool := fld e.ctrl 0 1 = 1
/-- LAST of an entry. -/
def Desc.last (e : Desc) : Bool := fld e.ctrl 1 1 = 1

end Sys2Proof

namespace Sys2Proof.Machine

/-- EMIT. -/
def Job.emit (j : Job) : Nat := fld j.head.ctrl 5 2
/-- NO_CANCEL. -/
def Job.noCancel (j : Job) : Bool := fld j.head.ctrl 7 1 = 1
/-- SKIM_ID. -/
def Job.skim (j : Job) : Nat := fld j.head.ctrl 8 14
/-- PIPE. -/
def Job.pipe (j : Job) : Nat := fld j.head.ctrl 22 6
/-- PCH. -/
def Job.pch (j : Job) : Nat := fld j.head.ctrl 28 3
/-- OUT_FLAGS.IRQ. -/
def Job.irq (j : Job) : Bool := fld j.head.outFlags 0 1 = 1
/-- OUT_FLAGS.PAD. -/
def Job.pad (j : Job) : Bool := fld j.head.outFlags 1 1 = 1
/-- A job of KIND FRAME. -/
def Job.isFrame (j : Job) : Bool := !j.bad && j.head.kind == 0
/-- A job of KIND SWAP. -/
def Job.isSwap (j : Job) : Bool := !j.bad && j.head.kind == 3
/-- Whether a job goes through a pipeline. -/
def Job.piped (j : Job) : Bool := j.isFrame || j.isSwap
/-- Whether a job's status is final and its header write issued (R375, R552). -/
def Job.isDone (j : Job) : Bool := j.st == .completed && j.peer.isNone
/-- Whether a job has been admitted and its result not yet released. -/
def Job.inFlight (j : Job) : Bool := j.st == .admitted && j.done.isNone

/-- The job of a tracker number. -/
def Device.job (d : Device) (id : Nat) : Option Job := d.jobs.find? (·.id = id)
/-- Replace a job by its number. -/
def Device.setJob (d : Device) (j : Job) : Device := { d with jobs := d.jobs.map fun x => if x.id = j.id then j else x }
/-- Remove a job from the tracker. -/
def Device.dropJob (d : Device) (id : Nat) : Device := { d with jobs := d.jobs.filter fun x => !(x.id == id) }
/-- Change a job. -/
def Device.modJob (d : Device) (id : Nat) (f : Job → Job) : Device :=
  { d with jobs := d.jobs.map fun x => if x.id = id then f x else x }
/-- The job at an index of a queue. -/
def Device.jobAt (d : Device) (g i : Nat) : Option Job := d.jobs.find? fun j => j.q = g ∧ j.index = i ∧ j.orphan = false
/-- Fold an operation over the jobs that `p` selects, in tracker order. -/
def Device.forJobs (d : Device) (p : Job → Bool) (f : Device → Job → Device) : Device := (d.jobs.filter p).foldl f d

/-! ### Trace records (R612, R613) -/

/-- A record is created: it takes the next SEQ and is held in TRACE, or is lost when TRACE is full. -/
def Device.traceRecord (d : Device) (mk : Nat → List Byte) : Device :=
  let s := d.rn R.obs_TRACE_SEQ
  let d1 := d.setN R.obs_TRACE_SEQ ((s + 1) % 2 ^ 32)
  if d.rf R.hbm_TRACE_SIZE 0 16 * 2 ^ 20 ≤ 64 * d.trace.held.length then
    ((d1.count R.obs_TRACE_LOST 1).evtBit 0xF2000 16).err 0xF2000 0x0100 (wd s) 0
  else { d1 with trace := { d1.trace with held := d1.trace.held ++ [mk s] } }

/-- The lateness record of a job (Table 23.2). -/
def lateRecord (j : Job) (status tick seq : Nat) : List Byte :=
  leBytes 1 2 ++ leBytes 1 j.pipe ++ leBytes 1 status ++ leBytes 1 j.flags.toNat ++ leBytes 4 seq ++ leBytes 8 tick ++
    leBytes 4 (j.frame.getD wordMax) ++ leBytes 4 (toBits 32 j.mc) ++ leBytes 4 (toBits 32 j.mp) ++ leBytes 4 j.index ++
    leBytes 2 j.q ++ leBytes 2 0 ++ (j.debits.map fun x => leBytes 3 (min 0xFFFFFF x)).flatten ++ leBytes 4 0

/-- A histogram record (Table 23.1). -/
def histRecord (p stage flags tick : Nat) (b : List Nat) (seq : Nat) : List Byte :=
  leBytes 1 1 ++ leBytes 1 p ++ leBytes 1 stage ++ leBytes 1 flags ++ leBytes 4 seq ++ leBytes 8 tick ++
    (b.map fun x => leBytes 3 (min 0xFFFFFF x)).flatten

/-- The buckets of a stage in the open interval of pipeline p. -/
def Device.buckets (d : Device) (p stage : Nat) : List Nat :=
  (List.range 16).map fun b => Store.get zeroN d.trace.hist (4096 * p + 16 * stage + b)

/-- The stages of pipeline p with a reading in the open interval, ascending. -/
def Device.histStages (d : Device) (p : Nat) : List Nat :=
  let l : List Nat := d.trace.hist.filterMap fun e => if e.1 / 4096 = p then some (e.1 % 4096 / 16) else none
  l.dedup

/-- The open interval of pipeline p ends (R610): one record for each stage with a sampled port. -/
def Device.closeInterval (d : Device) (p : Nat) (partl : Bool) : Device :=
  let s := Store.get samp0 d.trace.samp p
  if s.points = 0 then d
  else
    let flags := fun (b : List Nat) => b2n (b.any (0xFFFFFF < ·)) + 2 * b2n partl + 4 * b2n s.first
    let d1 := (d.histStages p).foldl (fun d st => d.traceRecord (histRecord p st (flags (d.buckets p st)) s.tick (d.buckets p st))) d
    { d1 with trace := { d1.trace with
        hist := Store.wipe (fun k => k / 4096 == p) d1.trace.hist
        samp := Store.set samp0 d1.trace.samp p ⟨0, 0, false, s.last⟩ } }

/-! ### Result headers (R351, R352) -/

/-- The 32 bytes of Table 13.4. -/
def Job.header (j : Job) (status plen : Nat) : List Byte :=
  leBytes 1 status ++ leBytes 1 j.flags.toNat ++ leBytes 2 (if j.piped then j.skim else 0) ++ leBytes 4 plen ++
    leBytes 4 (toBits 32 j.mc) ++ leBytes 4 (toBits 32 j.mp) ++ leBytes 8 j.head.userTag.toNat ++ leBytes 4 j.index ++
    leBytes 4 (j.frame.getD wordMax)

/-- Bytes a tenant's job writes to host memory: the counts of the Hod engine's page (Table 14.4) and of the tenant (R618). -/
def Device.countOut (d : Device) (j : Job) (n : Nat) : Device :=
  let d1 := if j.piped then d.count64 (R.hod_BYTES_OUT_LO (j.pipe % 16)) n else d
  let k := 32 * tenantOf j.q + 17
  { d1 with trace := { d1.trace with
      tcnt := Store.set zeroN d1.trace.tcnt k (min (2 ^ 64 - 1) (Store.get zeroN d1.trace.tcnt k + n)) } }

/-- Write a job's header where R351 gives it one. -/
def Device.writeHeader (d : Device) (j : Job) (status plen : Nat) : Device :=
  match j.hdr with
  | some a => (d.hostWrite (vfOf j.q) a (j.header status plen)).countOut j 32
  | none => d

/-! ### Completion (R353, R375) -/

/-- Free every staging buffer of a job (R409, R410). -/
def Job.free (j : Job) : Job := { j with ing := ⟨0, 0, 0⟩, egr := ⟨0, 0, 0⟩ }

/-- A job's status becomes final: its entries are removed, its buffers freed, its header written unless suppressed; a job that
its queue has left behind (R383) leaves the tracker. -/
def Device.finishRaw (d : Device) (id status plen : Nat) (hdr : Bool) : Device :=
  match d.job id with
  | none => d
  | some j =>
    if j.st = .completed then d
    else
      let d1 := d.cancelJobEntries (· == id)
      let d2 := if hdr && !j.suppressed && !j.orphan then d1.writeHeader j status plen else d1
      if j.orphan then d2.dropJob id
      else d2.modJob id fun x => { x.free with st := .completed, status := status, written := hdr }

/-- Whether every job of the queue handed off before job `id` has completed (R349). -/
def Device.fenceMet (d : Device) (g id : Nat) : Bool := d.jobs.all fun j => !(j.q == g && !j.orphan && j.id < id) || j.isDone

/-- A FENCE whose condition is met completes at once (R349). -/
def Device.fenceCheck (d : Device) (g : Nat) : Device :=
  let x := Store.get queue0 d.queues g
  match x.fence with
  | none => d
  | some id =>
    if d.fenceMet g id then
      let d1 := d.finishRaw id 0 0 true
      { d1 with queues := Store.set queue0 d1.queues g { Store.get queue0 d1.queues g with fence := none } }
    else d

/-- A job completes with a status (R353). -/
def Device.finish (d : Device) (id status plen : Nat) (hdr : Bool) : Device :=
  match d.job id with
  | none => d
  | some j => (d.finishRaw id status plen hdr).fenceCheck j.q

/-- A job completes without a result: margins 0, no payload (R253). -/
def Device.finishNow (d : Device) (id status : Nat) : Device := d.finish id status 0 true

/-- Forget jobs without completing them: nothing is written for them (R381). -/
def Device.forgetJobs (d : Device) (p : Job → Bool) : Device :=
  let d1 := d.cancelJobEntries fun id => d.jobs.any fun j => j.id == id && p j
  { d1 with jobs := d1.jobs.filter fun j => !p j }

/-! ### Margins and the ledger (R253, R258, R262) -/

/-- MARGIN_CYC. -/
def marginCyc (mhz due done : Nat) : Int :=
  sat32 (if done ≤ due then ((due - done : Nat) : Int) * mhz / 1000 else -(ceilDiv (((done - due : Nat) : Int) * mhz) 1000))

/-- Add to a class of a debit list. -/
def addDebit : List Nat → Nat → Nat → List Nat
  | [], _, _ => []
  | x :: r, 0, n => (x + n) :: r
  | x :: r, k + 1, n => x :: addDebit r k n

/-- Debit `n` stage cycles of class k to the frames of pipeline p in flight that `f` names (R258). -/
def Device.debit (d : Device) (p k n : Nat) (f : Job → Bool) : Device :=
  { d with jobs := d.jobs.map fun j =>
    if j.isFrame && j.pipe == p && j.inFlight && f j then { j with debits := addDebit j.debits k n } else j }

/-- WINDOW_DEBIT of pipeline p: the debit of the last completed aligned window (R262). -/
def Device.windowDebit (d : Device) (p : Nat) : Nat :=
  let x := d.pipe p
  if x.win = d.window then d.rn (R.sch_WINDOW_DEBIT p) else if x.win + 1 = d.window then x.winDebit else 0

/-- The stretch step in force (R460). -/
def Device.sNow (d : Device) : Nat := d.rf R.pow_POW_STATUS 10 4

/-- Debit n stage cycles stretched at step s to every frame of pipeline p in flight, in sixteenths (R258, R461). -/
def Device.debitClip (d : Device) (p s n : Nat) : Device :=
  if s = 0 then d
  else { d with jobs := d.jobs.map fun j => if j.isFrame && j.pipe == p && j.inFlight then { j with clip := j.clip + s * n } else j }

/-- Bring the debits of pipeline p up to the present stage cycle (R258, R262): each class with an occurrence in progress debits
the cycles since the last settlement once, a stretched cycle its sixteenths; the window counts each cycle once whatever the
class. -/
def Device.settle (d : Device) (p : Nat) : Device :=
  let x := d.pipe p
  let n := d.now.cyc - x.since
  let d1 := if x.fills.isEmpty then d else
    d.debit p 0 n fun j => j.entered && x.fills.any (· ≤ j.frame.getD 0)
  let d2 := ([1, 3, 4, 5].foldl (fun d k => if x.occ.getD k 0 = 0 then d else d.debit p k n fun _ => true) d1).debitClip p d.sNow n
  let busy := !x.fills.isEmpty || x.occ.any (· ≠ 0) || d.sNow ≠ 0
  let w := d.window
  let deb := (if x.win = w then x.winDebit else 0) + if busy then n else 0
  (d2.setN (R.sch_WINDOW_DEBIT p) (d2.windowDebit p)).setPipe p { x with since := d.now.cyc, win := w, winDebit := deb }

/-- An occurrence of class k begins at pipeline p. -/
def Device.occStart (d : Device) (p k : Nat) : Device :=
  let d1 := d.settle p
  d1.setPipe p { d1.pipe p with occ := addDebit (d1.pipe p).occ k 1 }

/-- An occurrence of class k ends at pipeline p. -/
def Device.occEnd (d : Device) (p k : Nat) : Device :=
  let d1 := d.settle p
  let x := d1.pipe p
  d1.setPipe p { x with occ := x.occ.zipIdx.map fun q => if q.2 = k then q.1 - 1 else q.1 }

/-- Add the eight debits to LEDGER_k and write LAST_DEBIT_k. -/
def Device.ledgerAdd (d : Device) (p : Nat) : Nat → List Nat → Device
  | _, [] => d
  | k, n :: r => Device.ledgerAdd ((d.count64 (R.sch_LEDGER_LO p k) n).setN (R.sch_LAST_DEBIT p k) (min wordMax n)) p (k + 1) r

/-- What SCH records at each release, drop or stall release (R262). -/
def Device.recordRelease (d : Device) (id status : Nat) : Device :=
  match d.job id with
  | none => d
  | some j =>
    let p := j.pipe
    let d1 := (d.ledgerAdd p 0 j.debits).count64 (R.sch_RELEASED_LO p) 1
    let d2 := (((d1.setN (R.sch_LAST_FRAME p) (j.frame.getD wordMax)).setN (R.sch_LAST_MARGIN_CYC p) (toBits 32 j.mc)).setN
      (R.sch_LAST_MARGIN_PU p) (toBits 32 j.mp)).setN (R.sch_LAST_STATUS p) status
    let d3 := if j.mc < sext 32 (d2.rn (R.sch_WORST_MARGIN_CYC p)) then
        (d2.setN (R.sch_WORST_MARGIN_CYC p) (toBits 32 j.mc)).setN (R.sch_WORST_FRAME p) (j.frame.getD wordMax)
      else d2
    let low := d3.rf (R.sch_SLACK_LOW p) 0 24
    let d4 := if low ≠ 0 ∧ j.mc < low then d3.evtBit (schPage p) 21 else d3
    if status = 1 ∨ status = 3 ∨ status = 0x15 then
      d4.traceRecord (lateRecord j status (j.done.getD d4.now.tick))
    else d4

/-- The status with which a frame's job is released (R256), a cancel apart. -/
def Job.releaseStatus (j : Job) : Nat :=
  if j.cancelled then 0x02
  else if j.faulted then (if j.misaligned then 0x22 else 0x20)
  else if j.stalledRef then 0x15
  else if j.ecc then 0x21
  else if j.dropped then 0x03
  else if j.late then 0x01
  else 0

/-! ### Payload (R226, R251, R252, R491, R550) -/

/-- A byte list as the payload of a flit. -/
def packFlit (l : List Byte) : BitVec 256 := BitVec.ofNat 256 (fromLe l)

end Sys2Proof.Machine

namespace Sys2Proof
open Sys2Proof.Machine

/-- The bytes of a flit's payload. -/
def Flit.bytes (f : Flit) : List Byte := leBytes 32 f.data.toNat

/-- FIRST of a flit (Table 4.2). -/
def Flit.first (f : Flit) : Bool := f.tag.getLsbD 0
/-- LAST of a flit. -/
def Flit.last (f : Flit) : Bool := f.tag.getLsbD 1
/-- SWAP of a flit. -/
def Flit.swap (f : Flit) : Bool := f.tag.getLsbD 2
/-- FOLD of a flit. -/
def Flit.fold (f : Flit) : Bool := f.tag.getLsbD 3

end Sys2Proof

namespace Sys2Proof.Machine

/-- A frame of flits from pieces of 32 bytes, sequence numbers from `n` modulo 4,096 (R114): FIRST on the first, LAST on the
last. -/
def frameFlits : Nat → Bool → List (List Byte) → List Flit
  | _, _, [] => []
  | n, fst, [x] => [⟨(if fst then 3 else 2), BitVec.ofNat 12 n, packFlit x⟩]
  | n, fst, x :: r => ⟨(if fst then 1 else 0), BitVec.ofNat 12 n, packFlit x⟩ :: frameFlits (n + 1) false r

/-- The result frame of R491: flit 0 the header, then the payload. -/
def resultFlits (hdr payload : List Byte) : List Flit := frameFlits 0 true (hdr :: chunk 32 (payload.length / 32 + 1) payload)

/-- Write bytes over host segments in chain order, filling with 0 where PAD asks (R348, R346). -/
def Device.writeSegs (d : Device) (f : Nat) (pad : Bool) : List (Nat × Nat) → List Byte → Device
  | [], _ => d
  | (a, n) :: r, l =>
    let x := l.take n
    let y := if pad then x ++ List.replicate (n - x.length) 0 else x
    Device.writeSegs (if y.isEmpty then d else d.hostWrite f a y) f pad r (l.drop n)

/-- The bytes a HOD release writes: its payload, or its whole output range when PAD is set. -/
def Job.outBytes (j : Job) : Nat := if j.pad then (j.outs.map (·.2)).sum else j.payload.length

/-- LAST_NACK and the other effects of a peer write that failed (R552), reason as R551 numbers it. -/
def Device.peerNack (d : Device) (id port chan fr reason : Nat) : Device :=
  match d.job id with
  | none => d
  | some j =>
    let g := j.q
    let d1 := (((d.count (R.lwl_FRAME_NACKS port) 1).setN (R.lwl_LAST_NACK port) (chan + 256 * reason)).setN
      (R.lwl_LAST_NACK_FRAME port) fr).err (0x2038000 + 0x1000 * port) 0x0101 (wd (chan + 256 * reason)) (wd fr)
    let again := (d1.fn (vfOf g)).flr || !(d1.fn (vfOf g)).bme
    let d2 := if j.written && !again && !j.orphan then d1.writeHeader j 0x30 (if j.written then j.payload.length else 0) else d1
    let d3 := d2.modJob id fun x => { x with status := 0x30, peer := none }
    if d3.rf (R.qst_QSTATUS g) 4 1 = 1 || j.orphan then d3.fenceCheck g
    else
      let d4 := (d3.setF (R.qst_QSTATUS g) 4 1 1).evtBit 0x100000 18
      let d5 := if d4.rf (R.qst_QERR g) 31 1 = 1 then d4 else
        (((d4.setN (R.qst_QERR g) (2 ^ 31 + 0x3002)).setN (R.qst_QERR_IDX g) j.index).setN (R.qst_QERR_ADDR_LO g) fr).setN
          (R.qst_QERR_ADDR_HI g) (port + 256 * chan)
      (d5.faultOpen 0x100000 1).fenceCheck g

/-- LP_RX_WAIT of Lath port r is brought up to the present tick: while RX has no room for what the adapter holds, it waits (R491;
log entry 23). -/
def Device.countRxWait (d : Device) (r : Nat) : Device :=
  let n := d.now.tick - Store.get zeroN d.lath.rxMark r
  let d1 := if 32 < (Store.get noFlits d.edge.lpRx r).length then d.count (R.lth_LP_RX_WAIT r) n else d
  { d1 with lath := { d1.lath with rxMark := Store.set zeroN d1.lath.rxMark r d1.now.tick } }

/-- The mark of a peer frame that failed with a reason before its job was completed, in place of its number (R552). -/
def peerFailed (reason fr : Nat) : Nat := 2 ^ 32 * reason + fr

/-- Send a release's payload to the pipeline's sink (R251, Table 9.2). -/
def Device.sendPayload (d : Device) (j : Job) (status : Nat) : Device :=
  let p := j.pipe
  if j.emit = 1 then d
  else match d.egrKind p with
  | 1 => (d.writeSegs (vfOf j.q) j.pad j.outs j.payload).countOut j j.outBytes
  | 2 =>
    let r := d.egrRow p
    let fl := resultFlits (j.header status j.payload.length) j.payload
    let d1 := d.countRxWait r
    { d1 with edge := { d1.edge with lpRx := Store.set noFlits d1.edge.lpRx r (Store.get noFlits d1.edge.lpRx r ++ fl) } }
  | 3 =>
    let k := d.egrChan p
    let port := k / 64
    let c := k % 64
    if d.rf (R.lwl_PORT_STATUS port) 0 2 = 3 ∧ d.rf (R.lwl_CH_CFG port c) 0 2 = 2 then
      let fl := resultFlits (j.header status j.payload.length) j.payload
      let n := d.rn (R.lwl_CH_FRAMES port c)
      let d0 := d.lwSettle port
      let d1 := { d0 with edge := { d0.edge with chTx := Store.set noFlits d0.edge.chTx k (Store.get noFlits d0.edge.chTx k ++ fl) } }
      ((d1.setN (R.lwl_CH_FRAMES port c) ((n + 1) % 2 ^ 32)).modJob j.id fun x => { x with peer := some (port, c, n) }).lwTouch port
    else d.modJob j.id fun x => { x with peer := some (port, c, peerFailed 3 0) }
  | _ => d

/-- A result is released (R251 to R253): margins are fixed, the payload starts for its sink unless the result is dropped, and
SCH records the release. -/
def Device.release (d : Device) (id : Nat) : Device :=
  match d.job id with
  | none => d
  | some j =>
    let due := j.due.getD d.now.tick
    let mc := match j.done with
      | some t => marginCyc d.mhz due t
      | none => 0
    let mp := match j.done with
      | some _ => sat32 (wrapS 64 (j.ud - j.uDone))
      | none => 0
    let j1 := { j with mc := mc, mp := mp, st := .writing }
    let status := j1.releaseStatus
    let d1 := d.setJob j1
    let d2 := if j1.dropped then d1 else d1.sendPayload j1 status
    d2.recordRelease id status

/-- The payload of a release is written: the header follows and the job is reported done (R251, R550, R552). -/
def Device.releaseDone (d : Device) (id : Nat) : Device :=
  match d.job id with
  | none => d
  | some j =>
    let status := j.releaseStatus
    let plen := if j.dropped || j.emit == 1 then 0 else j.payload.length
    let d1 := d.finish id status plen true
    match j.peer with
    | some (port, c, fr) => if 2 ^ 32 ≤ fr then d1.peerNack id port c (fr % 2 ^ 32) (fr / 2 ^ 32) else d1
    | none => d1

/-! ### Frame sources beside the array (R224, R488, R546) -/

/-- The key of the source of a LATH or PEER ingress: its row, or 64 more than its channel key. -/
def Device.sourceKey (d : Device) (p : Nat) : Nat := if d.ingKind p = 2 then d.ingRow p else 64 + d.ingChan p

/-- The flits waiting at the source of pipeline p. -/
def Device.sourceFlits (d : Device) (p : Nat) : List Flit :=
  if d.ingKind p = 2 then Store.get noFlits d.edge.lpTx (d.ingRow p)
  else if d.ingKind p = 3 then Store.get noFlits d.edge.chRx (d.ingChan p) else []

/-- Set them; the segments that leave the buffer of a peer channel are owed as credits (R540). -/
def Device.setSource (d : Device) (p : Nat) (l : List Flit) : Device :=
  let e := d.edge
  if d.ingKind p = 2 then { d with edge := { e with lpTx := Store.set noFlits e.lpTx (d.ingRow p) l } }
  else
    let k := d.ingChan p
    { d with edge := { e with chRx := Store.set noFlits e.chRx k l } }.lwFree (k / 64) (k % 64)
      ((Store.get noFlits e.chRx k).length - l.length)

/-- The next flit at the ingress adapter of pipeline p, taken: one it holds, or the next of the frame that its source delivers,
renumbered and with no tag but FIRST and LAST (R224). -/
def Device.nextIngress (d : Device) (p : Nat) : Option (Flit × Device) :=
  let x := d.pipe p
  match x.ingOut, x.srcOpen, d.sourceFlits p with
  | f :: r, _, _ => some (f, d.setPipe p { x with ingOut := r })
  | [], some n, f :: r =>
    let g : Flit := { f with tag := f.tag &&& 3, seq := BitVec.ofNat 12 n }
    let d1 := (d.setSource p r).setPipe p { x with
      srcOpen := if f.last then none else some (n + 1)
      starve := if r.isEmpty && !f.last then some (d.now.cyc + 1) else none }
    some (g, if f.tag.toNat / 4 = 0 then d1 else d1.count (R.sch_ING_TAG_STRIPPED p) 1)
  | _, _, _ => none

/-- A flit arrives at the source with a key (row, or 64 + channel key): a FIRST is noted with its cycle, and an adapter that waited
for the flit debits STARVED to the frame it sends (R224, Table 9.3). -/
def Device.sourceArrives (d : Device) (key : Nat) (f : Flit) : Device :=
  let d1 := if f.first then
      { d with edge := { d.edge with srcAt := Store.set noCycles d.edge.srcAt key (Store.get noCycles d.edge.srcAt key ++ [d.now.cyc]) } }
    else d
  match (List.range 64).find? fun p => (d1.ingKind p == 2 || d1.ingKind p == 3) && d1.sourceKey p == key with
  | none => d1
  | some p =>
    let x := d1.pipe p
    match x.starve, x.egrQ.getLast? with
    | some c, some id =>
      (d1.setPipe p { x with starve := none }).modJob id fun j => { j with debits := addDebit j.debits 6 (d1.now.cyc - c) }
    | _, _ => d1.setPipe p { x with starve := none }

/-! ### Staging buffers (R407 to R411) -/

/-- The sum of a list of numbers. -/
def sumBy (l : List Job) (f : Job → Nat) : Nat := l.foldl (fun s j => s + f j) 0

/-- The buffers of a job in the ingress (true) or egress pool. -/
def Job.bufs (j : Job) (ing : Bool) : Bufs := if ing then j.ing else j.egr

/-- All buffers of a job in a pool. -/
def Bufs.total (b : Bufs) : Nat := b.pipe + b.ten + b.shared

/-- The field place of a pool in the reserve registers. -/
def poolLo (ing : Bool) : Nat := if ing then 0 else 16

/-- Reserve buffers that pipeline p's jobs hold. -/
def Device.heldPipe (d : Device) (ing : Bool) (p : Nat) : Nat :=
  sumBy (d.jobs.filter fun j => j.piped && j.pipe == p) fun j => (j.bufs ing).pipe

/-- Reserve buffers that tenant t's jobs hold. -/
def Device.heldTen (d : Device) (ing : Bool) (t : Nat) : Nat :=
  sumBy (d.jobs.filter fun j => tenantOf j.q == t) fun j => (j.bufs ing).ten

/-- Buffers of every tier that pipeline p's jobs hold (PIPE_HELD_p). -/
def Device.heldAll (d : Device) (ing : Bool) (p : Nat) : Nat :=
  sumBy (d.jobs.filter fun j => j.piped && j.pipe == p) fun j => (j.bufs ing).total

/-- The reserve of pipeline p (PIPE_MIN_p). -/
def Device.minPipe (d : Device) (ing : Bool) (p : Nat) : Nat := d.rf (R.hbm_PIPE_MIN p) (poolLo ing) 13

/-- The reserve of tenant t (BUF_MIN). -/
def Device.minTen (d : Device) (ing : Bool) (t : Nat) : Nat := d.rf (R.ten_BUF_MIN t) (poolLo ing) 13

/-- The tenants whose page holds a register that differs from reset, with those that hold jobs: every other tenant reserves
nothing. -/
def Device.tenantsSet (d : Device) : List Nat :=
  let a : List Nat := d.regs.filterMap fun e => if 0x400000 ≤ e.1 ∧ e.1 < 0x800000 then some ((e.1 - 0x400000) / 0x1000) else none
  let b : List Nat := d.jobs.map fun j => tenantOf j.q
  (a ++ b).dedup

/-- Free buffers of the shared tier (R408): a reserve keeps its size, or what is held of it beyond that size. -/
def Device.freeShared (d : Device) (ing : Bool) : Nat :=
  4096 - ((List.range 64).foldl (fun s p => s + max (d.minPipe ing p) (d.heldPipe ing p)) 0 +
    d.tenantsSet.foldl (fun s t => s + max (d.minTen ing t) (d.heldTen ing t)) 0 +
    sumBy d.jobs fun j => (j.bufs ing).shared)

/-- An egress claim of pipeline p is met or ends: EGR_WAIT counts the stage cycles in which it held READY low (R410). -/
def Device.egrWaitEnd (d : Device) (p : Nat) : Device :=
  match (d.pipe p).egrWant with
  | none => d
  | some c => (d.setPipe p { d.pipe p with egrWant := none }).count (R.hbm_EGR_WAIT p) (d.now.cyc - c)

/-- The pool's rotating pointer (R411). -/
def Device.poolPtr (d : Device) (ing : Bool) : Nat := d.rf R.hbm_POINTERS (if ing then 0 else 8) 6

/-- Claim one buffer for a job (R408): the first tier that has one free. -/
def Device.claimOne (d : Device) (ing : Bool) (j : Job) : Option Bufs :=
  let b := j.bufs ing
  if d.heldPipe ing j.pipe < d.minPipe ing j.pipe then some { b with pipe := b.pipe + 1 }
  else if d.heldTen ing (tenantOf j.q) < d.minTen ing (tenantOf j.q) then some { b with ten := b.ten + 1 }
  else if 0 < d.freeShared ing then some { b with shared := b.shared + 1 }
  else none

/-- Set a job's buffers of a pool. -/
def Job.setBufs (j : Job) (ing : Bool) (b : Bufs) : Job := if ing then { j with ing := b } else { j with egr := b }

/-! ### Queues -/

/-- What the queue engine holds of queue g. -/
def Device.queue (d : Device) (g : Nat) : Queue := Store.get queue0 d.queues g
/-- Set it. -/
def Device.setQueue (d : Device) (g : Nat) (x : Queue) : Device := { d with queues := Store.set queue0 d.queues g x }
/-- HEAD of queue g. -/
def Device.head (d : Device) (g : Nat) : Nat := d.rn (R.qst_HEAD g)
/-- FETCH_IDX of queue g. -/
def Device.fetchIdx (d : Device) (g : Nat) : Nat := d.rn (R.qst_FETCH_IDX g)
/-- Committed ENABLE of queue g. -/
def Device.qEnabled (d : Device) (g : Nat) : Bool := d.rf (R.qst_QCTL g) 0 1 = 1
/-- Committed RUNAHEAD of queue g. -/
def Device.qRunahead (d : Device) (g : Nat) : Bool := d.rf (R.qst_QCTL g) 1 1 = 1
/-- Committed N of queue g. -/
def Device.qN (d : Device) (g : Nat) : Nat := d.rf (R.qst_QCTL g) 8 5
/-- A bit of QSTATUS. -/
def Device.qStat (d : Device) (g i : Nat) : Bool := d.rf (R.qst_QSTATUS g) i 1 = 1

/-- The queue's class of a status (R618). -/
def statusClass (st : Nat) : Nat :=
  if st = 0 then 0 else if st = 1 ∨ st = 3 then 1 else if st = 2 then 2 else 3

/-- The place of a status in Table 13.5. -/
def statusIndex (st : Nat) : Nat :=
  match st with
  | 0x00 => 0 | 0x01 => 1 | 0x02 => 2 | 0x03 => 3 | 0x10 => 4 | 0x11 => 5 | 0x12 => 6 | 0x13 => 7 | 0x14 => 8 | 0x15 => 9
  | 0x20 => 10 | 0x21 => 11 | 0x22 => 12 | 0x30 => 13 | _ => 14

/-- Add to a saturating count of a store. -/
def bump (m : Store Nat) (k n lim : Nat) : Store Nat := Store.set zeroN m k (min lim (Store.get zeroN m k + n))

/-- A job is counted when HEAD passes it (R618, COMPLETED). -/
def Device.countJob (d : Device) (g st : Nat) : Device :=
  let d1 := d.count (R.qst_COMPLETED g) 1
  { d1 with trace := { d1.trace with
      qcnt := bump d1.trace.qcnt (4 * g + statusClass st) 1 wordMax
      tcnt := bump d1.trace.tcnt (32 * tenantOf g + statusIndex st) 1 wordMax } }

/-- Advance HEAD of queue g over completed jobs (R375): the fuel bounds the jobs. Answers the device and the IRQ jobs passed. -/
def Device.advanceHead (d : Device) (g : Nat) : Nat → Device × Nat
  | 0 => (d, 0)
  | fuel + 1 =>
    match d.jobAt g (d.head g) with
    | none => (d, 0)
    | some j =>
      if j.isDone then
        let d1 := ((d.setN (R.qst_HEAD g) ((j.index + j.entries) % 2 ^ 32)).dropJob j.id).countJob g j.status
        let (d2, n) := Device.advanceHead d1 g fuel
        (d2, n + b2n j.irq)
      else (d, 0)

end Sys2Proof.Machine
end

