-- ==== Sys2Proof/Machine/SchedCore.lean ====
section
/-! DEFINITION. Machine/SchedCore.lean: pipeline states and faults, the admission hold, stalls and resumes, frames completing
at egress, and cancels, as shared operations (chapters 8 and 9; R378 to R383). -/
namespace Sys2Proof.Machine

/-! ### Pipeline states (R229 to R232) -/

/-- Whether a pipeline state samples and runs its tiles (R609). -/
def runState (s : Nat) : Bool := s == 2 || s == 3 || s == 4

/-- Whether FRAME_RX channel c of port k is open (R551): the pipeline whose ingress is bound to it is LOADED, RUNNING or HOLDING, with
its tapes RELEASED. -/
def Device.rxOpen (d : Device) (k c : Nat) : Bool :=
  (List.range 64).any fun p => d.ingKind p == 3 && d.ingChan p == 64 * k + c && decide (1 ≤ d.pipeState p) &&
    decide (d.pipeState p ≤ 3) && d.rf (R.dad_TAPE_STATE (p / 16) (p % 16)) 0 2 == 0

/-- The channel of pipeline p closes (R551): the acknowledged frames in its buffer are discarded and counted, but for the flits left of
a frame that its adapter has begun to send; a frame partly received will be answered CLOSED. -/
def Device.rxFlush (d : Device) (p : Nat) : Device :=
  if d.ingKind p ≠ 3 then d
  else
    let k := d.ingChan p
    let l := d.sourceFlits p
    let keep := match (d.pipe p).srcOpen with
      | some (_ + 1) => (l.takeWhile fun f => !f.last).length + 1
      | _ => 0
    let gone := l.drop keep
    let d1 := (d.setSource p (l.take keep)).count (R.lwl_RX_FLUSHED (k / 64)) (gone.filter (·.last)).length
    let d2 := { d1 with edge := { d1.edge with srcAt := Store.del (64 + k) d1.edge.srcAt } }
    if (Store.get noFlits (d2.lw (k / 64)).part (k % 64)).isEmpty then d2
    else (d2.modLw (k / 64) fun x => { x with refuse := Store.set zeroN x.refuse (k % 64) 1 }).lwTouch (k / 64)

/-- A transition of pipeline p (R230): STATE, EVT_RAW.STATE_CHANGE with the other bits named, and the sampling interval (R610); at RUNNING the waiting
ADMIT entries are delivered again, marked PAST (R231). -/
def Device.setPipeStateEv (d : Device) (p s bits : Nat) : Device :=
  let cur := d.pipeState p
  let d0 := if runState cur && !runState s then d.closeInterval p true else d
  let d1a := ((d0.setF (R.sch_PIPE_STATE p) 0 3 s).evt (schPage p) (wd (2 ^ 24 + bits))).devSync
  let d1 := if 1 ≤ s ∧ s ≤ 3 then d1a else d1a.rxFlush p
  let d2 := if s = 2 ∧ !runState cur then
      { d1 with trace := { d1.trace with samp := Store.set samp0 d1.trace.samp p ⟨0, 0, true, (Store.get samp0 d1.trace.samp p).last⟩ } } else d1
  if s = 2 then
    d2.setEntries (d2.plb.entries.map fun e =>
      if e.wait && (d2.job e.job).any (fun j => j.pipe == p) then
        { e with wait := false, due := e.due.map fun u => { u with past := true, tick := d2.now.tick } }
      else e)
  else d2

/-- A transition of pipeline p that sets no other event. -/
def Device.setPipeState (d : Device) (p s : Nat) : Device := d.setPipeStateEv p s 0

/-- Whether the pipeline refuses jobs that reach the tracker or SCH (R232). -/
def refusesJobs (s : Nat) : Bool := s == 0 || s == 4 || s == 5 || s == 6

/-- RESUME of a HOLDING pipeline (R230, R257). -/
def Device.resumePipe (d : Device) (p : Nat) : Device :=
  let d1 := (d.setPipe p { d.pipe p with stallChans := [] }).setF (R.sch_SCHED_STATE p) 1 1 0
  d1.setPipeState p 2

/-- Every job of pipeline p not yet admitted completes CANCELLED (R232). -/
def Device.cancelUnadmitted (d : Device) (p : Nat) : Device :=
  d.forJobs (fun j => j.piped && j.pipe == p && (j.st == .ready || j.st == .staging || j.st == .posted ||
    (match j.st with | .retry _ => true | _ => false))) fun d j => d.finishNow j.id 0x02

/-! ### Pipeline faults (R237, R238) -/

/-- Whether a job is admitted and its result has not reached egress. -/
def Job.awaiting (j : Job) : Bool := j.piped && j.st == .admitted && j.done.isNone

/-- A pipeline fault with its cause and tile (R237, R238). -/
def Device.pipeFaultSet (d : Device) (p cause tile : Nat) : Device :=
  if d.pipeFault p then d
  else
    let d1 := ((((d.settle p).egrWaitEnd p).setF (R.sch_PIPE_STATE p) 8 1 1).setN (R.sch_FAULT_INFO p) (tile % 4096 + 65536 * cause)).evtBit
      (schPage p) 26
    let ids := (d1.jobs.filter fun j => j.pipe == p && j.awaiting).map (·.id)
    let oldest := (d1.pipe p).egrQ.head?
    let d2 := ids.foldl (fun d id =>
      let mis := cause == 2 && oldest == some id
      (d.modJob id fun x => { x with faulted := true, misaligned := mis }).finishNow id (if mis then 0x22 else 0x20)) d1
    d2.setPipe p { d2.pipe p with ingQ := [], egrQ := [], tokens := [], egrIn := [], openF := none }

/-- A pipeline fault that no block error reports: it enters the log with class FUNCTION (R595). -/
def Device.pipeFaultLog (d : Device) (p cause tile : Nat) : Device :=
  if d.pipeFault p then d else (d.pipeFaultSet p cause tile).faultOpen (schPage p) 1

/-! ### The admission hold (R255) -/

/-- Set or extend the admission hold. -/
def Device.setHold (d : Device) (p : Nat) : Device :=
  let d1 := d.setPipe p { d.pipe p with holdWin := some d.window }
  if d1.rf (R.sch_SCHED_STATE p) 0 1 = 1 then d1
  else (d1.setF (R.sch_SCHED_STATE p) 0 1 1).evtBit (schPage p) 19

/-- Clear it. -/
def Device.clearHold (d : Device) (p : Nat) : Device :=
  if d.rf (R.sch_SCHED_STATE p) 0 1 = 1 then (d.setF (R.sch_SCHED_STATE p) 0 1 0).evtBit (schPage p) 20 else d

/-! ### Completion of frames and late results (R249 to R254) -/

/-- A result that is complete and late acts by LATE_POLICY (R254). -/
def Device.lateDone (d : Device) (id : Nat) : Device :=
  match d.job id with
  | none => d
  | some j =>
    let p := j.pipe
    let policy := d.rf (R.sch_SCHED_CFG p) 0 2
    let trigs := d.rf (R.sch_SCHED_CFG p) 8 1 = 1 ∧ (j.emit = 1 ∨ j.emit = 2) ∧ policy ≠ 1 ∧ !j.cancelled ∧ !j.stalledRef
    let d1 := if policy = 1 then
        ((d.modJob id fun x => { x with dropped := true, egr := ⟨0, 0, 0⟩ }).count (R.sch_DROPPED_COUNT p) 1).evtBit (schPage p) 18
      else d
    let d2 := if trigs then
        let mask := BitVec.ofNat 16 (d1.rf (R.sch_TRIG_MASK p) 0 16)
        let outs := (maskBits mask).filter fun k => d1.trigOn k
        (d1.setPulses (outs.map (fun k => ⟨k, d1.now.tick + 8, d1.now.tick + 8, false, none, some id⟩) ++ d1.plb.pulses)).count
          (R.sch_LATE_TRIG_COUNT p) 1
      else d1
    let d3 := d2.release id
    if policy = 2 then d3.setHold p else d3

/-- A job is found late (R254): counted once, its RELEASE entry gone. -/
def Device.markLate (d : Device) (id due : Nat) : Device :=
  match d.job id with
  | none => d
  | some j =>
    let d1 := (d.modJob id fun x => { x with late := true, due := some due }).cancelJobEntries (· == id)
    let d2 := (d1.count (R.sch_LATE_COUNT j.pipe) 1).evtBit (schPage j.pipe) 17
    d2.setPipe j.pipe { d2.pipe j.pipe with lateWin := some d2.window }

/-- Remove the pulses of a job's result that have not begun (R88, R380). -/
def Device.unplaceJob (d : Device) (id : Nat) : Device := d.setPulses (d.plb.pulses.filter fun p => !(p.job == some id))

/-- A job completes CANCELLED with its margins 0 and its frame number kept (R380). -/
def Device.finishCancelled (d : Device) (id : Nat) : Device :=
  (d.modJob id fun x => { x with mc := 0, mp := 0 }).finishNow id 0x02

/-- A frame's LAST flit reached egress (R249, R250): the completion tick and position are noted; then the job is cancelled,
suppressed, released for a stall, late, or held with its RELEASE entry's trigger mask set. -/
def Device.frameDone (d : Device) (id : Nat) : Device :=
  match d.job id with
  | none => d
  | some j =>
    let p := j.pipe
    let d0 := d.settle p
    let d1 := d0.modJob id fun x => { x with
      done := some d0.now.tick, uDone := d0.chU j.pch, debits := addDebit x.debits 2 ((x.clip + 15) / 16) }
    if j.orphan || j.suppressed then d1.finish id (if j.cancelled then 0x02 else 0x3F) 0 false
    else if j.cancelled then d1.finishCancelled id
    else if j.stalledRef then d1.release id
    else if j.late then d1.lateDone id
    else match d1.plb.entries.find? fun e => e.kind == .release && e.job == id with
      | none => d1
      | some e =>
        match e.due with
        | some u => if u.tick < d1.now.tick then (d1.markLate id u.tick).lateDone id else d1
        | none =>
          let mask := if j.emit = 1 ∨ j.emit = 2 then BitVec.ofNat 16 (d1.rf (R.sch_TRIG_MASK p) 0 16) else 0
          let e1 := { e with mask := mask }
          let d2 := d1.setEntry e1
          match e1.pred with
          | some t => d2.placeEntry e1 t true
          | none => d2

/-! ### Stalled channels (R83, R257) -/

/-- The response of one pipeline to a channel that enters STALLED (R257). -/
def Device.stallPipe (d : Device) (c p : Nat) : Device :=
  let mine := fun (j : Job) => j.piped && j.pipe == p && j.pch == c
  let pendg := fun (e : EvEntry) => e.ch == c && (e.kind == .admission || e.kind == .release) && (d.job e.job).any mine
  if !d.plb.entries.any pendg then d
  else match d.rf (R.sch_SCHED_CFG p) 4 2 with
  | 1 =>
    if d.pipeState p = 2 then
      let d1 := (d.setPipe p { d.pipe p with stallChans := c :: (d.pipe p).stallChans }).setPipeState p 3
      (d1.setF (R.sch_SCHED_STATE p) 1 1 1).evtBit (schPage p) 22
    else if d.pipeState p = 3 ∧ d.rf (R.sch_SCHED_STATE p) 1 1 = 1 then
      d.setPipe p { d.pipe p with stallChans := c :: (d.pipe p).stallChans }
    else d
  | 2 =>
    let d1 := d.forJobs (fun j => mine j && d.plb.entries.any fun e => e.kind == .admission && e.job == j.id) fun d j =>
      (d.finishNow j.id 0x15).count (R.sch_STALLED_REF_COUNT p) 1
    d1.forJobs (fun j => mine j && j.st == .admitted && !j.stalledRef && j.isFrame) fun d j =>
      let d2 := ((d.modJob j.id fun x => { x with stalledRef := true, due := some d.now.tick }).cancelJobEntries (· == j.id)).unplaceJob j.id |>.count
        (R.sch_STALLED_REF_COUNT p) 1
      if j.done.isSome && !j.cancelled && !j.suppressed then d2.release j.id else d2
  | _ => d

/-- Every pipeline with an entry pending on the channel responds (R257). -/
def Device.onStall (d : Device) (c : Nat) : Device := (List.range 64).foldl (fun d p => d.stallPipe c p) d

/-- A channel that caused holds has resumed (R257). -/
def Device.onResume (d : Device) (c : Nat) : Device :=
  (List.range 64).foldl (fun d p =>
    let x := d.pipe p
    if d.rf (R.sch_SCHED_STATE p) 1 1 = 1 ∧ c ∈ x.stallChans then
      let rest := x.stallChans.filter fun k => !(k == c)
      let d1 := d.setPipe p { x with stallChans := rest }
      if rest.isEmpty && d1.pipeState p == 3 && !d1.pipeFault p then d1.resumePipe p else d1
    else d) d

/-- Perform `f`, then resume what waited for channel c if it left STALLED (R257). -/
def Device.withResume (d : Device) (c : Nat) (f : Device → Device) : Device :=
  let was := (d.ch c).st
  let d1 := f d
  if was = .stalled ∧ (d1.ch c).st ≠ .stalled then d1.onResume c else d1

/-- Channel c enters STALLED with the effects of R83 and R257. -/
def Device.enterStalled (d : Device) (c : Nat) : Device :=
  ((d.freeze c).count (R.plb_STALL_COUNT c) 1).evtBit (chPage c) 16 |>.onStall c

/-! ### Cancels (R378 to R380) -/

/-- Cancel a job that the tracker holds (R379, R380). -/
def Device.cancelJob (d : Device) (id : Nat) : Device :=
  match d.job id with
  | none => d
  | some j =>
    match j.st with
    | .completed => d.count R.qen_CANCEL_REJECTS 1
    | .writing => d.count R.qen_CANCEL_LATE 1
    | .admitted =>
      let d1 := d.modJob id fun x => { x with cancelled := true, egr := ⟨0, 0, 0⟩ }
      if j.isSwap then d1
      else
        let d2 := (d1.cancelJobEntries (· == id)).unplaceJob id
        if j.done.isSome then d2.finishCancelled id else d2
    | _ =>
      let d1 := d.finishNow id 0x02
      let x := d1.queue j.q
      if x.fence = some id then d1.setQueue j.q { x with fence := none } else d1

/-- Release and admission of admitted jobs are suppressed (R383, R324): an unadmitted job completes at once; an admitted one's
frame runs on and its tracker entry stays until it completes. -/
def Device.abandonJob (d : Device) (id status : Nat) (hdr : Bool) : Device :=
  match d.job id with
  | none => d
  | some j =>
    if j.st = .completed then (if j.peer.isSome then d.modJob id fun x => { x with peer := none } else d)
    else if j.st = .admitted ∧ j.done = none then
      let d1 := (d.cancelJobEntries (· == id)).unplaceJob id
      let d2 := if hdr then d1.writeHeader j status 0 else d1
      d2.modJob id fun x => { x with suppressed := true, orphan := true, status := status, egr := ⟨0, 0, 0⟩ }
    else d.finish id status 0 hdr

end Sys2Proof.Machine
end

