-- ==== Sys2Proof/Machine/HbmCore.lean ====
section
/-! DEFINITION. Machine/HbmCore.lean: HBM areas, reads with their error marks, and upset words of every memory (R402 to
R405, R582). -/
namespace Sys2Proof.Machine

/-! ### Upset words (R582) -/

/-- The mark of a word, where it has one: whether it is uncorrectable. -/
def Device.upset (d : Device) (m : MemKind) (unit word : Nat) : Option Bool :=
  (d.upsets.find? fun u => u.mem == m && u.unit == unit && u.word == word).map (·.ue)

/-- Forget the marks of words that have been written. -/
def Device.mend (d : Device) (m : MemKind) (unit : Nat) (p : Nat → Bool) : Device :=
  { d with upsets := d.upsets.filter fun u => !(u.mem == m && u.unit == unit && p u.word) }

/-- The marks on words [w, w + n) of a memory. -/
def Device.marks (d : Device) (m : MemKind) (unit w n : Nat) : List Upset :=
  d.upsets.filter fun u => u.mem == m && u.unit == unit && decide (w ≤ u.word) && decide (u.word < w + n)

/-! ### HBM -/

/-- IMAGE_SIZE in bytes. -/
def Device.imageSize (d : Device) : Nat := d.rf R.hbm_IMAGE_SIZE 0 16 * 2 ^ 20
/-- The byte address at which the area a begins: 0 GOLDEN to 4 OPERATOR (Table 15.2). -/
def Device.areaBase (d : Device) (a : Nat) : Nat :=
  let i := d.rf R.hbm_IMAGE_SIZE 0 16
  let l := d.rf R.hbm_LIBRARY_SIZE 0 16
  let t := d.rf R.hbm_TRACE_SIZE 0 16
  2 ^ 20 * match a with
    | 0 => 0
    | 1 => 2 * i
    | 2 => 3 * i
    | 3 => 3 * i + l
    | _ => 3 * i + l + t

/-- The size of HBM in bytes (R402). -/
abbrev hbmBytes : Nat := 48 * 2 ^ 30

/-- Whether [a, a + n) lies in the OPERATOR area (R405). -/
def Device.inOperator (d : Device) (a n : Nat) : Bool := d.areaBase 4 ≤ a && a + n ≤ hbmBytes

/-- An address outside OPERATOR: AREA_RANGE (R405, R416). -/
def Device.areaRange (d : Device) (a : Nat) : Device :=
  (d.err 0xD0000 0x0101 (wd a) (wd (a / 2 ^ 32))).evtBit 0xD0000 17

/-- One marked HBM word is read (R403): corrected, counted and rewritten, or returned poisoned, counted and logged. -/
def Device.hbmMark (d : Device) (u : Upset) : Device :=
  let a := 8 * u.word
  let c := a / 256 % 32
  if u.ue then
    let d1 := (d.count R.hbm_UE_COUNT 1).count (R.hbm_CH_UE (c / 2) (c % 2)) 1
    let d2 := if d.hbmUe then d1 else { d1.setN64 R.hbm_UE_ADDR_LO a with hbmUe := true }
    (d2.err 0xD0000 0x0100 (wd a) (wd (a / 2 ^ 32))).evtBit 0xD0000 16
  else
    ((d.count64 R.hbm_CE_LO 1).countCe (R.hbm_CH_CE (c / 2) (c % 2))).mend .hbm 0 (· == u.word)

/-- Read HBM bytes [a, a + n): the first word of the range that is uncorrectable, where one is. -/
def Device.hbmRead (d : Device) (a n : Nat) : Option Nat × Device :=
  let ms := if n = 0 then [] else d.marks .hbm 0 (a / 8) ((a + n + 7) / 8 - a / 8)
  ((ms.filter (·.ue)).foldl (fun (m : Option Nat) u => some (min (m.getD u.word) u.word)) none, ms.foldl Device.hbmMark d)

/-- The bytes at an HBM address. -/
def Device.hbmBytesAt (d : Device) (a n : Nat) : List Byte := Memory.rdBytes d.hbm a n

/-- Write HBM bytes; the check code of words written whole is restored. -/
def Device.hbmWrite (d : Device) (a : Nat) (l : List Byte) : Device :=
  { d with hbm := Memory.wrBytes d.hbm a l }.mend .hbm 0 fun w => a ≤ 8 * w && 8 * w + 8 ≤ a + l.length

end Sys2Proof.Machine
end

