-- ==== Sys2Proof/Machine/Numerics.lean ====
section
/-! DEFINITION. Machine/Numerics.lean: number formats, conversions and the arithmetic of the quantisation path (chapter 5,
R128 to R151), with the helper functions of chapter 6. -/
namespace Sys2Proof.Machine

/-! ### FP32 (R131, R133) -/

/-- The canonical NaN (R133). -/
abbrev canonNan : Word := 0x7FC00000#32

/-- The sign of an FP32 word. -/
def fpNeg (x : Word) : Bool := fld x 31 1 = 1
/-- The exponent field. -/
def fpExp (x : Word) : Nat := fld x 23 8
/-- The mantissa field. -/
def fpMan (x : Word) : Nat := fld x 0 23
/-- NaN. -/
def isNan (x : Word) : Bool := fpExp x = 255 && fpMan x ≠ 0
/-- Infinity. -/
def isInf (x : Word) : Bool := fpExp x = 255 && fpMan x = 0
/-- A zero, subnormals included: a subnormal reads as zero of its sign (R133). -/
def isZero (x : Word) : Bool := fpExp x = 0
/-- A zero of a sign. -/
def zeroOf (neg : Bool) : Word := if neg then 0x80000000#32 else 0
/-- An infinity of a sign. -/
def infOf (neg : Bool) : Word := if neg then 0xFF800000#32 else 0x7F800000#32

/-- A finite FP32 value in units of 2^-149, subnormals as 0. -/
def fpInt (x : Word) : Int :=
  if fpExp x = 0 then 0
  else
    let m : Int := (((2 ^ 23 + fpMan x) * 2 ^ (fpExp x - 1) : Nat) : Int)
    if fpNeg x then -m else m

/-- The quotient of `m` by 2^k rounded to nearest, ties to even. -/
def rneShift (m k : Nat) : Nat :=
  let q := m / 2 ^ k
  let r := m % 2 ^ k
  if 2 * r > 2 ^ k ∨ (2 * r = 2 ^ k ∧ q % 2 = 1) then q + 1 else q

/-- `n` × 2^-s rounded to FP32 under R133, for s ≥ 149: to nearest with ties to even, a subnormal result replaced by zero
of its sign (the rounding comes first; log entry 27); `neg0` is the sign of an exact zero. -/
def roundFp (neg0 : Bool) (n : Int) (s : Nat) : Word :=
  if n = 0 then zeroOf neg0
  else
    let neg := decide (n < 0)
    let m := n.natAbs
    let k := max (Nat.log2 m - 23) (s - 149)
    let r := rneShift m k
    if r < 2 ^ 23 then zeroOf neg
    else
      let (r1, k1) := if r = 2 ^ 24 then (2 ^ 23, k + 1) else (r, k)
      if k1 + 150 - s ≥ 255 then infOf neg
      else wd (b2n neg * 2 ^ 31 + (k1 + 150 - s) * 2 ^ 23 + (r1 - 2 ^ 23))

/-- Negation of a word. -/
def fpNegate (x : Word) : Word := x ^^^ 0x80000000#32

/-- fp32_add (R133). -/
def fp32Add (a b : Word) : Word :=
  if isNan a || isNan b then canonNan
  else if isInf a then (if isInf b && fpNeg a != fpNeg b then canonNan else infOf (fpNeg a))
  else if isInf b then infOf (fpNeg b)
  else roundFp (fpNeg a && fpNeg b) (fpInt a + fpInt b) 149

/-- fp32_sub (R133). -/
def fp32Sub (a b : Word) : Word := if isNan b then canonNan else fp32Add a (fpNegate b)

/-- fp32_mul (R133). -/
def fp32Mul (a b : Word) : Word :=
  let neg := fpNeg a != fpNeg b
  if isNan a || isNan b then canonNan
  else if isInf a || isInf b then (if isZero a || isZero b then canonNan else infOf neg)
  else roundFp neg (fpInt a * fpInt b) 298

/-- fp32_max: NaN when an operand is NaN, -0 below +0 (R133). -/
def fp32Max (a b : Word) : Word :=
  if isNan a || isNan b then canonNan
  else
    let x := if isZero a then zeroOf (fpNeg a) else a
    let y := if isZero b then zeroOf (fpNeg b) else b
    let lt := if isZero a && isZero b then fpNeg a && !fpNeg b
      else if isInf a then fpNeg a && !(isInf b && fpNeg b)
      else if isInf b then !fpNeg b
      else decide (fpInt a < fpInt b)
    if lt then y else x

/-- fp32_of: an s32 converts with rounding to nearest, ties to even (R136). -/
def fp32Of (v : Int) : Word := roundFp false (v * 2 ^ 149) 149

/-- p × 2^n rounded under R133, for n ≥ -512. -/
def scale2 (p : Word) (n : Int) : Word :=
  if isNan p then canonNan
  else if isInf p then p
  else roundFp (fpNeg p) (fpInt p * 2 ^ (n + 512).toNat) 661

/-- A list of products and an addend summed exactly and rounded once, with the special values of R148: `ps` holds the pairs
of operands, `as` the words added. -/
def fp32Exact (as : List Word) (ps : List (Word × Word)) : Word :=
  let badP := fun (p : Word × Word) => isNan p.1 || isNan p.2 || ((isInf p.1 || isInf p.2) && (isZero p.1 || isZero p.2))
  let negP := fun (p : Word × Word) => fpNeg p.1 != fpNeg p.2
  let infP := fun (p : Word × Word) => isInf p.1 || isInf p.2
  let pinf := as.any (fun a => isInf a && !fpNeg a) || ps.any fun p => infP p && !negP p
  let ninf := as.any (fun a => isInf a && fpNeg a) || ps.any fun p => infP p && negP p
  if as.any isNan || ps.any badP then canonNan
  else if pinf && ninf then canonNan
  else if pinf then infOf false
  else if ninf then infOf true
  else
    let s := as.foldl (fun (s : Int) a => s + fpInt a * 2 ^ 149) 0 + ps.foldl (fun (s : Int) p => s + fpInt p.1 * fpInt p.2) 0
    roundFp (as.all fpNeg && ps.all negP) s 298

/-- fp32_sum (R148 specials). -/
def fp32Sum (v : List Word) : Word := fp32Exact v []

/-- fp32_dot: a0 + Σ w × x, exact and rounded once (R148). -/
def fp32Dot (a0 : Word) (w x : List Word) : Word := fp32Exact [a0] (w.zip x)

/-- The integer square root of a number below 4^k. -/
def isqrtAux : Nat → Nat → Nat → Nat
  | 0, _, r => r
  | k + 1, n, r => let t := r + 2 ^ k; isqrtAux k n (if t * t ≤ n then t else r)

/-- The greatest number whose square is at most `n`, for n < 2^160. -/
def isqrt (n : Nat) : Nat := isqrtAux 80 n 0

/-- rsqrt_rn: 1/√v rounded to nearest, ties to even (R186). -/
def rsqrtRn (v : Word) : Word :=
  if isNan v then canonNan
  else if isZero v then infOf false
  else if fpNeg v then canonNan
  else if isInf v then 0
  else
    let e : Int := (fpExp v : Int) - 150
    let m := (2 ^ 23 + fpMan v) * (if e % 2 = 0 then 1 else 2)
    let h := if e % 2 = 0 then e / 2 else (e - 1) / 2
    let q := 2 ^ 140 / m
    let t := isqrt q
    let sticky := if t * t * m = 2 ^ 140 then 0 else 1
    roundFp false (((2 * t + sticky) * 2 ^ 300 : Nat) : Int) ((371 + h).toNat)

/-! ### Conversions (R134, R135) -/

/-- A finite FP32 value rounded to an integer, to nearest with ties to even. -/
def roundNe (y : Word) : Int :=
  let r : Nat := rneShift (fpInt y).natAbs 149
  if fpNeg y then -(r : Int) else r

/-- A finite FP32 value rounded to an integer, to nearest with ties away from zero. -/
def roundHa (y : Word) : Int :=
  let r : Nat := ((fpInt y).natAbs * 2 + 2 ^ 149) / 2 ^ 150
  if fpNeg y then -(r : Int) else r

/-- Clamp to a range. -/
def sat (v lo hi : Int) : Int := if v < lo then lo else if v > hi then hi else v

/-- Clamp to s32 (R137). -/
def satS32 (v : Int) : Int := sat v (-(2 ^ 31)) (2 ^ 31 - 1)

/-- to_int (R135). -/
def toInt (y : Word) (zp lo hi : Int) (ha : Bool) : Int :=
  if isNan y then zp
  else if isInf y then (if fpNeg y then lo else hi)
  else if fpInt y ≥ 2 ^ 180 then hi
  else if fpInt y < -(2 ^ 180) then lo
  else sat ((if ha then roundHa y else roundNe y) + zp) lo hi

/-- a / d to nearest, ties away from zero, for d > 0. -/
def divHa (a : Int) (d : Nat) : Int :=
  let q : Nat := (2 * a.natAbs + d) / (2 * d)
  if a < 0 then -(q : Int) else q

/-! ### Formats (R128 to R132) -/

/-- Storage bits of a format code (Table 5.1), 0 for a reserved code. -/
def fmtBits (f : Nat) : Nat :=
  match f with
  | 0 | 6 | 7 | 10 => 8
  | 1 | 2 => 4
  | 3 => 2
  | 4 | 8 => 16
  | 5 | 9 => 32
  | _ => 0

/-- Elements of a format per flit (Table 5.1). -/
def elemsPerFlit (f : Nat) : Nat := 256 / fmtBits f

/-- Whether a format code names a signed integer. -/
def isIntFmt (f : Nat) : Bool := f ≤ 5

/-- The range of an integer format (Table 5.2). -/
def intLo (f : Nat) : Int := match f with | 0 => -128 | 1 => -8 | 2 => -4 | 3 => -2 | 4 => -32768 | _ => -(2 ^ 31)
/-- The upper end of the range. -/
def intHi (f : Nat) : Int := match f with | 0 => 127 | 1 => 7 | 2 => 3 | 3 => 1 | 4 => 32767 | _ => 2 ^ 31 - 1

/-- code_val: the value of an integer code (R129, R130). -/
def codeVal (f bits : Nat) : Int := if f = 2 then sext 3 bits else sext (fmtBits f) bits

/-- code_idx: the unsigned codebook index of a weight code (R138). -/
def codeIdx (f bits : Nat) : Nat := if f = 2 then bits % 8 else bits % 2 ^ fmtBits f

/-- A subnormal of M mantissa bits widened to FP32: m × 2^-s for small s. -/
def widenSub (neg : Bool) (m s : Nat) : Word :=
  if m = 0 then zeroOf neg else roundFp neg ((if neg then -(m : Int) else m) * 2 ^ (149 - s)) 149

/-- widen (R131, R132, R133). An E8M0 exponent of 0 widens to the word of 2^-127, which only the group scale reads, exactly
(R147). -/
def widen (f bits : Nat) : Word :=
  match f with
  | 6 =>
    let neg := decide (bits / 128 % 2 = 1)
    let e := bits / 8 % 16
    let m := bits % 8
    if bits % 128 = 127 then canonNan
    else if e = 0 then widenSub neg m 9
    else wd (b2n neg * 2 ^ 31 + (e + 120) * 2 ^ 23 + m * 2 ^ 20)
  | 7 =>
    let neg := decide (bits / 128 % 2 = 1)
    let e := bits / 4 % 32
    let m := bits % 4
    if e = 31 then (if m = 0 then infOf neg else canonNan)
    else if e = 0 then widenSub neg m 16
    else wd (b2n neg * 2 ^ 31 + (e + 112) * 2 ^ 23 + m * 2 ^ 21)
  | 8 => ftz (wd (bits % 65536 * 65536))
  | 10 => if bits % 256 = 255 then canonNan else if bits % 256 = 0 then 0x00400000#32 else wd (bits % 256 * 2 ^ 23)
  | _ => ftz (wd bits)
where
  /-- A subnormal read as zero of its sign (R133). -/
  ftz (x : Word) : Word := if isNan x then x else if isZero x then zeroOf (fpNeg x) else x

/-- The rounding of R134: magnitude in units of 2^-149 to a format of M mantissa bits whose smallest exponent unit is
2^(sub - 149), as exponent and mantissa bits joined. -/
def encodeMag (mbits sub : Nat) (n : Nat) : Nat :=
  let k := max (Nat.log2 n - mbits) sub
  let r := rneShift n k
  (k - sub) * 2 ^ mbits + r

/-- encode (R134): FP32 to E4M3, E5M2 or BF16, saturating; FP32 passes unchanged. -/
def encode (f : Nat) (y : Word) : Nat :=
  let neg := b2n (fpNeg y)
  match f with
  | 6 => if isNan y then 0x7F else neg * 128 + (if isInf y then 0x7E else min 0x7E (encodeMag 3 140 (fpInt y).natAbs))
  | 7 => if isNan y then 0x7E else neg * 128 + (if isInf y then 0x7B else min 0x7B (encodeMag 2 133 (fpInt y).natAbs))
  | 8 => if isNan y then 0x7FC0 else neg * 32768 + (if isInf y then 0x7F7F else min 0x7F7F (encodeMag 7 16 (fpInt y).natAbs))
  | _ => y.toNat

/-! ### Packing (R129) -/

/-- Element i of width w of packed data. -/
def elemAt (w data i : Nat) : Nat := data / 2 ^ (w * i) % 2 ^ w

/-- `n` elements of width w of packed data, from element i. -/
def unpackFrom (w data i : Nat) : Nat → List Nat
  | 0 => []
  | n + 1 => elemAt w data i :: unpackFrom w data (i + 1) n

/-- `n` elements of packed data. -/
def unpack (w data n : Nat) : List Nat := unpackFrom w data 0 n

/-- Elements packed with the first lowest. -/
def packElems (w : Nat) : List Nat → Nat
  | [] => 0
  | x :: r => x % 2 ^ w + 2 ^ w * packElems w r

/-- Cut packed data into 256-bit payloads. -/
def cutFlits : Nat → Nat → List (BitVec 256)
  | 0, _ => []
  | n + 1, x => BitVec.ofNat 256 x :: cutFlits n (x / 2 ^ 256)

/-- Flits that hold n elements of format f. -/
def flitsFor (n f : Nat) : Nat := (n * fmtBits f + 255) / 256

/-- Join payloads, the first lowest. -/
def joinFlits : List (BitVec 256) → Nat
  | [] => 0
  | x :: r => x.toNat + 2 ^ 256 * joinFlits r

/-! ### The rotator (R140, R141) -/

/-- Block size of the field encoding. -/
def blkSize (b : Nat) : Nat := if b = 0 then 0 else 16 * 2 ^ b

/-- One butterfly stage of span 2^j over a list. -/
def butterfly {α : Type} (z : α) (add sub : α → α → α) (j : Nat) (l : List α) : List α :=
  l.zipIdx.map fun x => if x.2 / 2 ^ j % 2 = 0 then add x.1 (l.getD (x.2 + 2 ^ j) z) else sub (l.getD (x.2 - 2 ^ j) z) x.1

/-- The butterflies of R140 for a block of 2^k elements. -/
def hadamard {α : Type} (z : α) (add sub : α → α → α) (k : Nat) (l : List α) : List α :=
  (List.range k).foldl (fun l j => butterfly z add sub j l) l

/-- Quantise one transformed element (R141): an integer as its value, a float as its bits. -/
def quantise (c : RotCfg) (y : Word) : Nat :=
  if c.tfmt = 0 then toBits 8 (toInt (fp32Mul y c.rscale) c.zx (-128) 127 false) else encode c.tfmt (fp32Mul y c.rscale)

/-- One block through the rotator: raw element bits of IFMT to raw element bits of TFMT. -/
def rotateBlock (c : RotCfg) (l : List Nat) : List Nat :=
  let k := if c.blk = 0 then 0 else 4 + c.blk
  if isIntFmt c.ifmt then
    (hadamard 0 (· + ·) (· - ·) k (l.map (codeVal c.ifmt))).map fun x => quantise c (fp32Of x)
  else (hadamard 0 fp32Add fp32Sub k (l.map (widen c.ifmt))).map fun x => quantise c x

/-- Blocks of `n` elements through the rotator; the fuel bounds the blocks. -/
def rotateBlocks (c : RotCfg) (n : Nat) : Nat → List Nat → List Nat
  | 0, _ => []
  | _, [] => []
  | fuel + 1, l => rotateBlock c (l.take n) ++ rotateBlocks c n fuel (l.drop n)

/-- A stream through the rotator (R140, R141). -/
def rotateStream (c : RotCfg) (l : List Nat) : List Nat :=
  if c.blk = 0 then (if c.ifmt = c.tfmt then l else l.map fun x =>
    quantise c (if isIntFmt c.ifmt then fp32Of (codeVal c.ifmt x) else widen c.ifmt x))
  else rotateBlocks c (blkSize c.blk) l.length l

/-! ### Correction and activation (R145, R150) -/

/-- zpc (R145). -/
def zpc (s aSum wSum zw zx g : Int) : Int := s - zw * aSum - zx * wSum + g * zw * zx

/-- Whether a BF16 breakpoint is at or below x (R150); a NaN breakpoint never is. -/
def fpLe (a x : Word) : Bool :=
  if isNan a || isNan x then false
  else if isInf x then !fpNeg x || (isInf a && fpNeg a)
  else if isInf a then fpNeg a
  else decide (fpInt a ≤ fpInt x)

/-- Evaluation of an activation table (R150); `seg i` is the 64-bit segment i. -/
def actEval (seg : Nat → Nat) (x : Word) : Word :=
  if isNan x then canonNan
  else
    let i := ((List.range 63).filter fun j => fpLe (widen 8 (seg (j + 1))) x).length
    let s := seg i
    let slope := widen 8 (s / 65536)
    let t := if isZero slope then 0 else fp32Mul slope (fp32Sub x (widen 8 s))
    fp32Add (wd (s / 2 ^ 32)) t

/-- EXPS of one lane (R185): 2^t. -/
def exp2Lane (t : Word) : Word :=
  if isNan t then canonNan
  else if (isInf t && !fpNeg t) || (!isInf t && fpInt t ≥ 128 * 2 ^ 149) then infOf false
  else if isInf t || fpInt t < -150 * 2 ^ 149 then 0
  else
    let n := fpInt t / 2 ^ 149
    let f := fp32Sub t (fp32Of n)
    let p1 := fp32Mul f 0x3DA00000#32
    let p2 := fp32Mul f (fp32Add 0x3E680000#32 p1)
    let p3 := fp32Mul f (fp32Add 0x3F320000#32 p2)
    scale2 (fp32Add 0x3F800000#32 p3) n

end Sys2Proof.Machine
end

