-- ==== Sys2Proof/Machine/TileCore.lean ====
section
/-! DEFINITION. Machine/TileCore.lean: regions and their tiles, hot slots, tile control state, queues, tile
faults and the counters of a tile, as shared operations (chapters 4, 6 and 10). -/
namespace Sys2Proof.Machine

/-! ### Regions and tiles (R98, R220) -/

/-- Whether bay (row, column) lies in region p. -/
def Device.inRegion (d : Device) (p brow bcol : Nat) : Bool :=
  let r := d.reg (R.sch_REGION p)
  fld r 31 1 = 1 && fld r 0 3 ≤ brow && brow < fld r 0 3 + fld r 8 4 && fld r 4 3 ≤ bcol && bcol < fld r 4 3 + fld r 12 4

/-- The region that contains logical tile k. -/
def Device.regionOf (d : Device) (k : Nat) : Option Nat :=
  (List.range 64).find? fun p => d.inRegion p (k / 64 / 8) (k % 64 / 8)

/-- The tiles of region p in row-major order of its rectangle (REL order, R268). -/
def Device.regionTiles (d : Device) (p : Nat) : List Nat :=
  let r := d.reg (R.sch_REGION p)
  if fld r 31 1 = 0 then []
  else (List.range (8 * fld r 8 4)).flatMap fun y =>
    (List.range (8 * fld r 12 4)).map fun x => 64 * (8 * fld r 0 3 + y) + (8 * fld r 4 3 + x)

/-- The page of logical tile k. -/
def tilePage (k : Nat) : Nat := 0x1000000 + 0x1000 * k

/-- Control state of tile k. -/
def Device.tile (d : Device) (k : Nat) : Tile := Store.get tile0 d.tiles k
/-- Set it. -/
def Device.setTile (d : Device) (k : Nat) (x : Tile) : Device := { d with tiles := Store.set tile0 d.tiles k x }
/-- Memories of tile k. -/
def Device.tmemOf (d : Device) (k : Nat) : TileMem := Store.get tileMem0 d.tmem k
/-- Set them. -/
def Device.setTmem (d : Device) (k : Nat) (x : TileMem) : Device := { d with tmem := Store.set tileMem0 d.tmem k x }
/-- N_CTX. -/
def Device.nCtx (d : Device) (k : Nat) : Nat := d.rf (R.trw_CTX_COUNT k) 0 4
/-- NUM_SLOTS. -/
def Device.numSlots (d : Device) (k : Nat) : Nat := d.rf (R.trw_HAWK_SLOTS k) 0 5
/-- SLOT_LINES. -/
def Device.slotLines (d : Device) (k : Nat) : Nat := d.rf (R.trw_HAWK_SLOTS k) 16 11
/-- First line and lines of the scratch area of a context (R107). -/
def Device.scratch (d : Device) (k c : Nat) : Nat × Nat := (d.rf (R.trw_CTX_HAWK k c) 0 11, d.rf (R.trw_CTX_HAWK k c) 16 11)
/-- First line of hot slot s (R107). -/
def Device.slotFirst (d : Device) (k s : Nat) : Nat := d.rf (R.trw_SLOT_BASE k) 0 11 + s * d.slotLines k
/-- A fold context of tile k. -/
def Device.ctx (d : Device) (k c : Nat) : TCtx := Store.get tctx0 (d.tile k).ctxs c
/-- Set it. -/
def Tile.setCtx (t : Tile) (c : Nat) (x : TCtx) : Tile := { t with ctxs := Store.set tctx0 t.ctxs c x }

/-- Whether the tiles of region p run (Table 8.2): its pipeline is RUNNING, HOLDING or DRAINING, no pipeline reset is in
progress (R240) and no scrub pause (R587). -/
def Device.regionRuns (d : Device) (p : Nat) : Bool :=
  runState (d.pipeState p) && !d.pipeResetting p && !(p ∈ d.scrub.paused)

/-- Whether tile k runs: its bay is powered and its region runs. -/
def Device.tileRuns (d : Device) (k : Nat) : Bool :=
  d.bit64 R.pow_BAY_ON_LO (bayOf k) && match d.regionOf k with
  | some p => d.regionRuns p
  | none => false

/-! ### Queues (R112, R115) -/

/-- The queue of a port of tile k: 0 to 3 IN, 4 and 5 OUT. -/
def Tile.queue (t : Tile) (q : Nat) : List QFlit := Store.get noQ t.queues q
/-- Set it. -/
def Tile.setQueue (t : Tile) (q : Nat) (l : List QFlit) : Tile := { t with queues := Store.set noQ t.queues q l }

/-- Flits taken from queue q in cycle c. -/
def Tile.takenIn (t : Tile) (q c : Nat) : Nat :=
  t.moved.foldl (fun n m => if m.1 = q ∧ m.2.2 = c then n + m.2.1 else n) 0

/-- Occupancy of an input queue for the firing rule of cycle c: flits that came before c and are still there (R115, R116). -/
def Tile.ready (t : Tile) (q c : Nat) : Nat := ((t.queue q).filter fun f => decide (f.cyc < c)).length

/-- Places of a queue taken at the start of cycle c. -/
def Tile.occAt (t : Tile) (q c : Nat) : Nat := t.ready q c + t.takenIn q c

/-- Reserved places of output port o (R117). -/
def Tile.reserved (t : Tile) (o : Nat) : Nat :=
  t.results.foldl (fun n r => n + (r.flits.filter fun f => f.1 == o).length) 0

/-- Free places of output port o at the start of cycle c. -/
def Tile.room (t : Tile) (o c : Nat) : Nat := 64 - (t.queue (4 + o)).length - t.takenIn (4 + o) c - t.reserved o

/-- Take `n` flits from queue q in cycle c. -/
def Tile.takeN (t : Tile) (q n c : Nat) : List QFlit × Tile :=
  ((t.queue q).take n, { t.setQueue q ((t.queue q).drop n) with
    moved := (q, n, c) :: t.moved.filter fun m => decide (m.2.2 = c) })

/-- A flit reaches queue q in cycle c. -/
def Tile.push (t : Tile) (q : Nat) (f : Flit) (c : Nat) : Tile := t.setQueue q (t.queue q ++ [⟨f, c, 0⟩])

/-! ### The op word (Table 6.1) -/

/-- The op word at the pc of context c of tile k. -/
def Device.opWord (d : Device) (k c i : Nat) : Nat := (Store.get op0 (d.tmemOf k).prog (64 * c + i)).toNat

/-- Bits [lo + n - 1 : lo] of an op word. -/
def ob (w lo n : Nat) : Nat := w / 2 ^ lo % 2 ^ n

/-- Input ports that an op takes from under the firing rule, with the flits of each; `IN_EN` = 0 takes nothing but for
SWAPCHK (R162, R169). Tables 6.2 and 6.3. -/
def opTakes (rcfg : Nat → RotCfg) (w : Nat) : List (Nat × Nat) :=
  let p := ob w 56 2
  let n := ob w 49 4
  let rq := ob w 32 1 = 1
  let fin := fun (q f : Nat) => if rq then (rcfg q).ifmt else f
  let l := match ob w 58 6 with
    | 0x05 => [(p, 1)]
    | 0x08 => [(p, flitsFor (elemsPerFlit (fin p (ob w 0 4)) * n) (fin p (ob w 0 4)))]
    | 0x0A | 0x12 => [(p, n)]
    | 0x11 => if ob w 0 1 = 0 then [(p, n)] else []
    | 0x21 => [(p, flitsFor (32 * n) (fin p 0))]
    | 0x22 =>
      let ports := if ob w 3 2 = 3 then [0, 1, 2, 3] else [p, p + 1]
      (ports.filter (· < 4)).map fun q => (q, flitsFor (32 * n) (fin q 0))
    | 0x23 => [(p, flitsFor (16 * n) (fin p (6 + ob w 10 2)))]
    | 0x29 | 0x2A | 0x2B | 0x2C => if ob w 1 1 = 1 then [(p, n)] else []
    | _ => []
  if ob w 58 6 = 0x05 then l else if ob w 55 1 = 1 then l else []

/-- Flits that an op gives to each output port it names (Table 6.3). -/
def opGives (w : Nat) : Nat :=
  let n := ob w 49 4
  match ob w 58 6 with
  | 0x05 | 0x0B => 1
  | 0x09 | 0x0A => n
  | 0x10 => if ob w 0 2 = 1 then 4 * n else 0
  | 0x27 => flitsFor (16 * n) (ob w 10 4)
  | _ => 0

/-- Output ports of the OUT field. -/
def outPorts (w : Nat) : List Nat :=
  match ob w 53 2 with
  | 0 => [0]
  | 1 => [1]
  | 2 => [0, 1]
  | _ => []

/-- Whether an op has no beats: CNT = 0 for the ops that count (R166). -/
def noBeats (w : Nat) : Bool := ob w 49 4 = 0 && !(ob w 58 6 ≤ 6 || ob w 58 6 = 0x0B || ob w 58 6 = 0x20)

/-- Condition 2 of R116 in cycle c. -/
def Device.inputsReady (d : Device) (k w c : Nat) : Bool :=
  let rc := fun q => Store.get rotCfg0 (d.tmemOf k).rcfg q
  noBeats w || (opTakes rc w).all fun q => decide (q.2 ≤ (d.tile k).ready q.1 c)

/-- Condition 3 of R116 in cycle c. -/
def Device.outputsReady (d : Device) (k w c : Nat) : Bool :=
  noBeats w || opGives w == 0 || (outPorts w).all fun o => decide (opGives w ≤ (d.tile k).room o c)

/-- The first stage cycle in which no op of the tile holds the issue slot or is in flight. -/
def Tile.busyUntil (t : Tile) : Nat := t.results.foldl (fun n r => max n (r.due + 1)) t.busy

/-! ### Counters of a tile (R118, R127) -/

/-- Count the cycles from `a` to `b` - 1, in which no op issued and the queues stood as at the start of `a`. -/
def Device.countSpan (d : Device) (k a b : Nat) : Device :=
  if b ≤ a then d
  else
    let t := d.tile k
    let w := d.opWord k t.active (d.ctx k t.active).pc
    let d1 := d.count64 (R.trw_GATED_CYCLES_LO k) (b - max a t.busyUntil)
    if d.nCtx k = 0 ∨ t.halted then d1
    else if !d.inputsReady k w a then d1.count64 (R.trw_WAIT_IN_LO k) (b - a)
    else if !d.outputsReady k w a && t.fillWait.isNone then d1.count64 (R.trw_WAIT_OUT_LO k) (b - max a t.free)
    else d1

/-- Bring the counters of tile k up to the start of cycle c. -/
def Device.account (d : Device) (k c : Nat) : Device :=
  let t := d.tile k
  let d1 := (d.countSpan k t.last (min c (t.last + 1))).countSpan k (t.last + 1) c
  d1.setTile k { d1.tile k with last := max t.last c }

/-- Change the control state of tile k in cycle c, the counters first brought up to it. -/
def Device.modTile (d : Device) (k c : Nat) (f : Tile → Tile) : Device :=
  let d1 := d.account k c
  d1.setTile k (f (d1.tile k))

/-! ### Tile faults (R123, R188, R204) -/

/-- The tile enters HALTED with an error of class HALT; its pipeline takes a fault: cause 1 HALT, 2 MISALIGN. -/
def Device.tileHalt (d : Device) (k code cause : Nat) (lo hi : Word) : Device :=
  let d1 := (d.err (tilePage k) code lo hi).evtBit (tilePage k) 16
  let d2 := d1.modTile k d1.now.cyc fun t => { t with halted := true, fillWait := none }
  match d2.regionOf k with
  | some p => d2.pipeFaultLog p cause k
  | none => d2

/-- An error of class DATA: the tile runs on, and the admitted job whose frame number is the context's FRAME_ORD completes
ECC_UNCORRECTED (R123, R239). -/
def Device.tileData (d : Device) (k c code : Nat) (lo : Word) : Device :=
  let ord := d.reg (R.trw_FRAME_ORD k c)
  let d1 := ((d.err (tilePage k) code (lo ||| wd (65536 * c)) ord).count (R.trw_MEM_UE_COUNT k) 1).evtBit (tilePage k) 17
  match d1.regionOf k with
  | none => d1
  | some p => { d1 with jobs := d1.jobs.map fun j =>
      if j.isFrame && j.pipe == p && j.st == .admitted && j.frame == some ord.toNat then { j with ecc := true } else j }

/-- A read of Hawk words [w, w + n): a single-bit error is counted, an uncorrectable one is HAWK_UE (R110, Table 4.5). -/
def Device.readMarks (d : Device) (k c : Nat) (m : MemKind) (w n : Nat) : Device :=
  (d.marks m k w n).foldl (fun d u =>
    if u.ue then d.tileData k c 0x0100 (wd (u.word % 2 ^ 15)) else d.countCe (R.trw_HAWK_CE_COUNT k)) d

/-! ### Hot slots (R284 to R290) -/

/-- The register of slot s of pipeline p. -/
def slotReg (p s : Nat) : Nat := R.skm_SLOT (p / 32) (p % 32) s
/-- SKIM_ID of slot s of pipeline p. -/
def Device.slotSkim (d : Device) (p s : Nat) : Nat := d.rf (slotReg p s) 0 14
/-- STATE: 0 INVALID, 1 FILLING, 2 VALID, 3 WARMING. -/
def Device.slotState (d : Device) (p s : Nat) : Nat := d.rf (slotReg p s) 16 2
/-- NUM_SLOTS of pipeline p: that of its slot-bearing tiles. -/
def Device.pipeSlots (d : Device) (p : Nat) : Nat := (d.regionTiles p).foldl (fun n k => max n (d.numSlots k)) 0
/-- The slot-bearing tiles of region p. -/
def Device.slotTiles (d : Device) (p : Nat) : List Nat := (d.regionTiles p).filter fun k => d.numSlots k ≠ 0

/-- Set a slot's skim and state in the slot table and in SLOT_SKIM_s of every slot-bearing tile (R284). -/
def Device.setSlot (d : Device) (p s skim st : Nat) : Device :=
  let v := skim % 2 ^ 14 + (if st = 2 then 2 ^ 31 else if st = 0 then 0 else 2 ^ 30)
  (d.slotTiles p).foldl (fun d k => d.setN (R.trw_SLOT_SKIM k s) v)
    ((d.setF (slotReg p s) 0 14 skim).setF (slotReg p s) 16 2 st)

/-- The slot of pipeline p that holds skim x in a state but INVALID. -/
def Device.slotOf (d : Device) (p x : Nat) : Option Nat :=
  (List.range (d.pipeSlots p)).find? fun s => d.slotState p s ≠ 0 ∧ d.slotSkim p s = x

/-- Whether slot s of pipeline p is active in some context of some tile. -/
def Device.slotActive (d : Device) (p s : Nat) : Bool :=
  (d.slotTiles p).any fun k => (List.range (d.nCtx k)).any fun c => (d.ctx k c).slot == some s

/-- Whether slot s of pipeline p is pinned (R284). -/
def Device.slotPinned (d : Device) (p s : Nat) : Bool :=
  s == 0 || d.slotActive p s || (d.slotState p s != 0 && (d.pipe p).tokens.any fun k => k.skim == d.slotSkim p s)

/-- Request an on-demand fill of skim x for pipeline p (R285). -/
def Device.requestFill (d : Device) (p x : Nat) : Device :=
  match d.slotOf p x with
  | some s =>
    if d.slotState p s = 3 then
      let d1 := (d.setSlot p s x 1).count R.skm_FILL_PROMOTED 1
      { d1 with fills := d1.fills.map fun f => if f.pipe = p ∧ f.slot = s then { f with sort := 0, cyc := d1.now.cyc } else f }
    else d
  | none =>
    if d.fillReqs.any fun r => r.pipe == p && r.skim == x then d
    else { d with fillReqs := d.fillReqs ++ [⟨p, x, d.now.cyc⟩] }

/-- Tile k begins to wait for skim x in cycle c (R169, R285, R298): the frames sent after the token are delayed. -/
def Device.waitFill (d : Device) (k x c : Nat) : Device :=
  if (d.tile k).fillWait.isSome then d
  else
    let d1 := d.modTile k c fun t => { t with fillWait := some (x, c) }
    match d1.regionOf k with
    | none => d1
    | some p =>
      let d2 := (d1.requestFill p x).settle p
      let fr := (((d2.pipe p).tokens.find? fun q => q.skim == x).map (·.frame)).getD (d2.pipe p).frameNum
      d2.setPipe p { d2.pipe p with fills := (d2.pipe p).fills ++ [fr] }

/-- The wait of tile k ends in cycle c: the longest wait is kept and the debits stop. -/
def Device.endWait (d : Device) (k c : Nat) : Device :=
  match (d.tile k).fillWait with
  | none => d
  | some (x, since) =>
    let d1 := (d.setN R.skm_FILL_WAIT_MAX (max (d.rn R.skm_FILL_WAIT_MAX) (min wordMax (c - since)))).setTile k
      { d.tile k with fillWait := none }
    match d1.regionOf k with
    | none => d1
    | some p =>
      let d2 := d1.settle p
      let fr := (((d2.pipe p).tokens.find? fun q => q.skim == x).map (·.frame)).getD (d2.pipe p).frameNum
      let fs := (d2.pipe p).fills
      d2.setPipe p { d2.pipe p with fills := if fr ∈ fs then fs.erase fr else fs.drop 1 }

end Sys2Proof.Machine
end

