-- ==== Sys2Proof/Machine/TileIssue.lean ====
section
/-! DEFINITION. Machine/TileIssue.lean: how an op issues: firing rule, checks, streams, beats and results, shared by every
stage op (R116, R117, R155 to R162). -/
namespace Sys2Proof.Machine

/-- An op about to issue: the device, the tile, its active context, the op's index, the op word and the stage cycle. -/
structure OpIn where
  d : Device
  k : Nat
  c : Nat
  pc : Nat
  w : Nat
  cyc : Nat

/-- Memories of the op's tile. -/
def OpIn.mem (o : OpIn) : TileMem := o.d.tmemOf o.k
/-- A field of the op word. -/
def OpIn.f (o : OpIn) (lo n : Nat) : Nat := ob o.w lo n
/-- IN. -/
def OpIn.inp (o : OpIn) : Nat := o.f 56 2
/-- CNT. -/
def OpIn.cnt (o : OpIn) : Nat := o.f 49 4
/-- RQ. -/
def OpIn.rq (o : OpIn) : Bool := o.f 32 1 = 1
/-- The rotator configuration of port q. -/
def OpIn.rcfg (o : OpIn) (q : Nat) : RotCfg := Store.get rotCfg0 o.mem.rcfg q
/-- it_of(LSEL): the iteration index of an open loop, else 0. -/
def OpIn.it (o : OpIn) : Nat := (((o.d.ctx o.k o.c).loops[o.f 39 2]?).map (·.iter)).getD 0
/-- The relative entry of beat b (R157). -/
def OpIn.rel (o : OpIn) (b : Nat) : Int := (o.f 43 6 : Int) + sext 4 (o.f 35 4) * o.it + (o.f 41 2) * b
/-- First entry and size of the context's window. -/
def OpIn.window (o : OpIn) : Nat × Nat := (o.d.rf (R.trw_CTX_ACC o.k o.c) 0 6, o.d.rf (R.trw_CTX_ACC o.k o.c) 8 7)
/-- The absolute entry of a relative one. -/
def OpIn.abs (o : OpIn) (r : Int) : Nat := (o.window.1 + r).toNat
/-- ent(b) (R157). -/
def OpIn.ent (o : OpIn) (b : Nat) : Nat := o.abs (o.rel b)
/-- The relative line of the op's i-th line (R157). -/
def OpIn.hrel (o : OpIn) (i : Nat) : Int := (o.f 21 11 : Int) + sext 6 (o.f 14 6) * o.it + i
/-- First line and lines of the area that HSP selects; none while the context has no active slot (R108). -/
def OpIn.area (o : OpIn) : Option (Nat × Nat) :=
  if o.f 20 1 = 1 then some (o.d.scratch o.k o.c)
  else (o.d.ctx o.k o.c).slot.map fun s => (o.d.slotFirst o.k s, o.d.slotLines o.k)
/-- hline() + i as an absolute line. -/
def OpIn.line (o : OpIn) (i : Nat) : Nat := ((((o.area).map (·.1)).getD 0 : Nat) + o.hrel i).toNat
/-- Byte j of the op's i-th line. -/
def OpIn.hbyte (o : OpIn) (i j : Nat) : Nat := (Memory.rd8 o.mem.hawk (128 * o.line i + j)).toNat
/-- A 16-bit word of the i-th line at byte j. -/
def OpIn.hhalf (o : OpIn) (i j : Nat) : Nat := o.hbyte i j + 256 * o.hbyte i (j + 1)
/-- A 32-bit word of the i-th line at byte j. -/
def OpIn.hword (o : OpIn) (i j : Nat) : Word := wd (o.hhalf i j + 65536 * o.hhalf i (j + 2))
/-- A lane of an entry as the accumulators stand in `m`. -/
def accRd (m : Store Word) (e l : Nat) : Word := Store.get word0 m (16 * e + l)
/-- The 16 lane numbers. -/
def lanes : List Nat := List.range 16
/-- A write of lane l of entry e. -/
def accWr (e l : Nat) (v : Word) : Nat × Word := (16 * e + l, v)

/-- What an op needs and takes (Table 6.3): issue cycles, latency, the relative entries it reads and writes, the relative
Hawk lines it touches, whether a field is forbidden, whether the rotator's shape is, and whether it evaluates its table. -/
structure OpPlan where
  issue : Nat
  lat : Nat
  reads : List Int
  writes : List Int
  hlines : List Int
  bad : Bool
  shape : Bool
  act : Bool

/-- A plan that touches nothing. -/
def OpPlan.none (issue lat : Nat) : OpPlan := ⟨issue, lat, [], [], [], false, false, false⟩

/-- What an op does: the accumulator writes of each beat, the flits given with their beat, tag and payload, the writes of
the tile's other memories, and of its control state. -/
structure Eff where
  beats : List (List (Nat × Word))
  outs : List (Nat × BitVec 4 × BitVec 256)
  mem : TileMem → TileMem
  dev : Device → Device

/-- No effect. -/
def Eff.none : Eff := ⟨[], [], id, id⟩

/-- Beats in order, each seeing the writes of those before it (R155). -/
def runBeats (f : Nat → Store Word → List (Nat × Word)) : Nat → Nat → Store Word → List (List (Nat × Word))
  | 0, _, _ => []
  | n + 1, b, m =>
    let ws := f b m
    ws :: runBeats f n (b + 1) (ws.foldl (fun m w => Store.set word0 m w.1 w.2) m)

/-- The beats of an op with accumulator writes only. -/
def OpIn.beats (o : OpIn) (f : Nat → Store Word → List (Nat × Word)) : Eff :=
  { Eff.none with beats := runBeats f o.cnt 0 o.mem.acc }

/-- take_stream on flits already taken: `n` raw elements in format `fmt` (R159). -/
def OpIn.stream (o : OpIn) (q fmt n : Nat) (fl : List Flit) : List Nat :=
  let data := joinFlits (fl.map (·.data))
  if o.rq then rotateStream (o.rcfg q) (unpack (fmtBits (o.rcfg q).ifmt) data n) else unpack (fmtBits fmt) data n

/-- The BAD_FIELD and ROT_SHAPE conditions of take_stream (R159). -/
def OpIn.streamBad (o : OpIn) (q fmt : Nat) : Bool := o.rq && (o.rcfg q).tfmt != fmt
/-- The ROT_SHAPE condition. -/
def OpIn.shapeBad (o : OpIn) (q n : Nat) : Bool := o.rq && (o.rcfg q).blk != 0 && n % blkSize (o.rcfg q).blk != 0

/-- emit (R160): elements as flits; the flit holding elements of beat b is given with the last such beat. `per` is the
elements of one beat. -/
def OpIn.emit (o : OpIn) (fmt per : Nat) (l : List Nat) : List (Nat × BitVec 4 × BitVec 256) :=
  let n := flitsFor l.length fmt
  let e := elemsPerFlit fmt
  (cutFlits n (packElems (fmtBits fmt) l)).zipIdx.map fun x =>
    let last := min (l.length - 1) ((x.2 + 1) * e - 1)
    (last / per, BitVec.ofNat 4 (b2n (x.2 = 0 && o.f 33 1 = 1) + 2 * b2n (x.2 + 1 = n && o.f 34 1 = 1)), x.1)

/-- Give a tag its sequence number on port p of a context (R114). -/
def TCtx.number (x : TCtx) (p : Nat) (tag : BitVec 4) : BitVec 12 × TCtx :=
  let s := if p = 0 then x.seq0 else x.seq1
  let set := fun n => if p = 0 then { x with seq0 := n % 4096 } else { x with seq1 := n % 4096 }
  if tag.getLsbD 2 then (0, x)
  else if tag.getLsbD 0 then (0, set 1)
  else (BitVec.ofNat 12 s, set (s + 1))

/-- Number the flits given on port p, in order. -/
def numberOuts (p : Nat) : TCtx → List (Nat × BitVec 4 × BitVec 256) → List (Nat × Nat × Flit) × TCtx
  | x, [] => ([], x)
  | x, (b, tag, data) :: r =>
    let (s, x1) := x.number p tag
    let (l, x2) := numberOuts p x1 r
    ((b, p, ⟨tag, s, data⟩) :: l, x2)

/-- Insert a result in the order of due cycles, after those due in the same cycle. -/
def insResult (r : TResult) : List TResult → List TResult
  | [] => [r]
  | x :: l => if r.due < x.due then r :: x :: l else x :: insResult r l

/-- The results of an op, by beat. -/
def opResults (cyc lat : Nat) (beats : List (List (Nat × Word))) (fl : List (Nat × Nat × Flit)) : List TResult :=
  let n := fl.foldl (fun n f => max n (f.1 + 1)) beats.length
  ((List.range n).map fun b =>
    ⟨cyc + b + lat - 1, (beats[b]?).getD [], (fl.filter (·.1 == b)).map (·.2)⟩).filter
      fun r => !(r.writes.isEmpty && r.flits.isEmpty)

/-! ### Checks (R108, R113, R121, R157 to R161, R164) -/

/-- The context bits of an error's ERR_INFO_LO. -/
def OpIn.ctxBits (o : OpIn) : Nat := 65536 * o.c

/-- An op fault of Table 6.5 (R188). -/
def OpIn.opFault (o : OpIn) (code : Nat) : Device :=
  o.d.tileHalt o.k code 1 (wd (o.pc + o.ctxBits)) (wd (o.w / 2 ^ 32))

/-- A HALT fault of Table 4.5 whose ERR_INFO_HI is the op index. -/
def OpIn.indexFault (o : OpIn) (code lo : Nat) : Device := o.d.tileHalt o.k code 1 (wd lo) (wd o.pc)

/-- The first relative line outside the area, where one is (R108). -/
def OpIn.badLine (o : OpIn) (p : OpPlan) : Option Int :=
  p.hlines.find? fun h => match o.area with
    | none => true
    | some a => decide (h < 0) || decide ((a.2 : Int) ≤ h)

/-- The first relative entry outside the window (R157). -/
def OpIn.badEntry (o : OpIn) (p : OpPlan) : Option Int :=
  (p.reads ++ p.writes).find? fun r => decide (r < 0) || decide ((o.window.2 : Int) ≤ r)

/-- Whether the active table is not one of the slot's (R182). -/
def OpIn.actBad (o : OpIn) : Bool :=
  match (o.d.ctx o.k o.c).slot with
  | none => true
  | some s => decide (o.d.rf (R.trw_SLOT_ACT o.k s) 8 4 ≤ o.c)

/-- The ACT_BOUND fault; the slot it names is open while the context has none (log entry 4). -/
def OpIn.actFault (o : OpIn) : Device :=
  match (o.d.ctx o.k o.c).slot with
  | some s => o.indexFault 0x0108 (s + o.ctxBits)
  | none =>
    let (v, d1) := o.d.fresh
    d1.tileHalt o.k 0x0108 1 (wd (v.toNat % 16 + o.ctxBits)) (wd o.pc)

/-- The first flit an op would take whose tag forbids it, with its port (R113, R161) or whose stored tag word cannot be read
(Table 4.5). -/
def OpIn.badFlit (o : OpIn) : Option (Nat × QFlit) :=
  ((opTakes o.rcfg o.w).flatMap fun q => ((o.d.tile o.k).queue q.1 |>.take q.2).map fun f => (q.1, f)).find? fun x =>
    x.2.bad == 2 || (x.2.flit.swap && (x.2.flit.first || x.2.flit.last || !(o.f 58 6 == 0x0A || o.f 58 6 == 0x05)))

/-- The fault of such a flit. -/
def OpIn.flitFault (o : OpIn) (q : Nat) (x : QFlit) : Device :=
  if x.bad = 2 then (o.d.count (R.trw_MEM_UE_COUNT o.k) 1).tileHalt o.k 0x0104 1 (wd (q + o.ctxBits)) 0
  else if x.flit.first || x.flit.last then o.d.tileHalt o.k 0x010A 1 (wd q) (wd x.flit.seq.toNat)
  else o.opFault 0x0115

/-- Every check of an op in the order of log entry 29; none when all pass (R158). -/
def OpIn.check (o : OpIn) (p : OpPlan) (next : Nat) : Option Device :=
  if p.bad then some (o.opFault 0x0111)
  else if p.shape then some (o.opFault 0x0116)
  else match o.badLine p with
    | some h => some (o.indexFault 0x0106 (toBits 11 h + o.ctxBits))
    | none => match o.badEntry p with
      | some r => some (o.indexFault 0x0107 (toBits 6 r + o.ctxBits))
      | none =>
        if p.act && o.actBad then some o.actFault
        else match o.badFlit with
          | some x => some (o.flitFault x.1 x.2)
          | none => if 63 < next then some (o.opFault 0x0114) else none

/-! ### Issue -/

/-- Condition 4 of R116: no entry that the op reads or writes has a write outstanding. -/
def OpIn.entriesFree (o : OpIn) (p : OpPlan) : Bool :=
  let es := (p.reads ++ p.writes).map o.abs
  (o.d.tile o.k).results.all fun r => r.writes.all fun w => !(w.1 / 16 ∈ es)

/-- Errors met in the words an op reads: its Hawk lines, source entries and the payloads it takes (Table 4.5); single-bit
errors of accumulators and queues are corrected and counted nowhere. -/
def OpIn.touch (o : OpIn) (p : OpPlan) (d : Device) : Device :=
  let d1 := p.hlines.foldl (fun d h =>
    d.readMarks o.k o.c .hawk (16 * (((o.area).map (·.1)).getD 0 + h).toNat) 16) d
  let d2 := if p.act then match (o.d.ctx o.k o.c).slot with
      | some s => d1.readMarks o.k o.c .act (64 * (o.d.rf (R.trw_SLOT_ACT o.k s) 0 5 + o.c)) 64
      | none => d1
    else d1
  let es := (p.reads.map o.abs).dedup
  let d3 := (d2.upsets.filter fun u => u.mem == .acc && u.unit == o.k && u.ue && decide (u.word / 16 ∈ es)).foldl
    (fun d u => d.tileData o.k o.c 0x0101 (wd (u.word / 16 + 64 * (u.word % 16)))) d2
  ((opTakes o.rcfg o.w).flatMap fun q => (((o.d.tile o.k).queue q.1 |>.take q.2).filter (·.bad == 1)).map fun _ => q.1).foldl
    (fun d q => d.tileData o.k o.c 0x0102 (wd q)) d3

/-- `n` flits that no port supplies: an op with IN_EN = 0 takes none, so its elements are free values (log entry 30). -/
def freeFlits : Nat → Device → List Flit × Device
  | 0, d => ([], d)
  | n + 1, d =>
    let w := fun i => (Config.freeWord (d.free + i)).toNat
    let data := ((List.range 8).map fun i => w i * 2 ^ (32 * i)).foldl (· + ·) 0
    let (l, d1) := freeFlits n { d with free := d.free + 9 }
    (⟨BitVec.ofNat 4 (w 8), 0, BitVec.ofNat 256 data⟩ :: l, d1)

/-- Take the op's flits: those of each port in the order of the ports. -/
def OpIn.take (o : OpIn) (d : Device) : List (Nat × List Flit) × Device :=
  let real := opTakes o.rcfg o.w
  let all := opTakes o.rcfg (if o.f 55 1 = 1 then o.w else o.w + 2 ^ 55)
  if real.isEmpty then
    all.foldl (fun (s : List (Nat × List Flit) × Device) q =>
      let (fl, d1) := freeFlits q.2 s.2
      (s.1 ++ [(q.1, fl)], d1)) ([], d)
  else real.foldl (fun (s : List (Nat × List Flit) × Device) q =>
      let (fl, t) := (s.2.tile o.k).takeN q.1 q.2 o.cyc
      (s.1 ++ [(q.1, fl.map (·.flit))], s.2.setTile o.k t)) ([], d)

/-- The flits taken from port q. -/
def taken (l : List (Nat × List Flit)) (q : Nat) : List Flit := ((l.find? (·.1 == q)).map (·.2)).getD []

/-- An op issues and takes its effect: issue cycles, counters, pc, results in flight (R116, R117, R155). -/
def OpIn.commit (o : OpIn) (issue lat next : Nat) (e : Eff) (d : Device) : Device :=
  let x := { (d.ctx o.k o.c) with pc := next }
  let (fl, x1) := (outPorts o.w).foldl (fun (s : List (Nat × Nat × Flit) × TCtx) p =>
    let (l, y) := numberOuts p s.2 e.outs
    (s.1 ++ l, y)) ([], x)
  let rs := opResults o.cyc lat e.beats fl
  let d1 := (d.setTmem o.k (e.mem (d.tmemOf o.k))).count64 (R.trw_ISSUE_CYCLES_LO o.k) 1
  let t := (d1.tile o.k).setCtx o.c x1
  e.dev (d1.setTile o.k { t with
    free := o.cyc + issue
    busy := max t.busy (o.cyc + issue)
    last := o.cyc + 1
    results := rs.foldl (fun l r => insResult r l) t.results })

/-- The op that would issue in cycle `cyc` at tile k, when conditions 1 to 3 of R116 hold for it: the word at the active
context's pc, with opcode `opc`. -/
def Device.opAt (d : Device) (k cyc : Nat) (ok : Nat → Bool) : Option OpIn :=
  let t := d.tile k
  let c := t.active
  let pc := (d.ctx k c).pc
  let w := d.opWord k c pc
  if d.tileRuns k && d.nCtx k != 0 && !t.halted && decide (t.free ≤ cyc) && ok (ob w 58 6) && d.inputsReady k w cyc &&
      d.outputsReady k w cyc then some ⟨d, k, c, pc, w, cyc⟩
  else none

/-- The fetch of an op word: a single-bit error is counted, an uncorrectable one is PROG_UE (R110, Table 4.5). -/
def OpIn.fetch (o : OpIn) : Option OpIn × Device :=
  match o.d.upset .prog o.k (64 * o.c + o.pc) with
  | none => (some o, o.d)
  | some false => let d1 := o.d.countCe (R.trw_HAWK_CE_COUNT o.k); (some { o with d := d1 }, d1)
  | some true =>
    (none, (o.d.count (R.trw_MEM_UE_COUNT o.k) 1).tileHalt o.k 0x0105 1 (wd (o.pc + o.ctxBits)) 0)

/-- Issue of an op with beats: opcode, plan and effect of the flits taken. Nothing happens while R116 does not hold. -/
def issueOp (opc : Nat) (plan : OpIn → OpPlan) (eff : OpIn → List (Nat × List Flit) → Eff) (k cyc : Nat) (d : Device) :
    Device :=
  let d0 := (d.atCyc cyc)
  match d0.opAt k cyc (· == opc) with
  | none => d0
  | some o0 => match ({ o0 with d := o0.d.account k cyc }).fetch with
    | (none, d1) => d1
    | (some o, _) =>
      if noBeats o.w then
        if 63 < o.pc + 1 then o.opFault 0x0114 else o.commit 1 1 (o.pc + 1) Eff.none o.d
      else
        let p := plan o
        if !o.entriesFree p then d0
        else match o.check p (o.pc + 1) with
          | some d1 => d1
          | none =>
            let (fl, d1) := o.take (o.touch p o.d)
            o.commit p.issue p.lat (o.pc + 1) (eff o fl) d1

/-- Issue of a control op, which decides its own next pc and effect. -/
def issueCtl (opc : Nat) (f : OpIn → Device) (k cyc : Nat) (d : Device) : Device :=
  let d0 := (d.atCyc cyc)
  match d0.opAt k cyc (· == opc) with
  | none => d0
  | some o0 => match ({ o0 with d := o0.d.account k cyc }).fetch with
    | (none, d1) => d1
    | (some o, _) => f o

end Sys2Proof.Machine
end

