-- ==== Sys2Proof/Machine/TileOps.lean ====
section
/-! DEFINITION. Machine/TileOps.lean: the stage ops of Table 6.3 (chapter 6, R167 to R188), the results of their beats, and
the Hawk peek. -/
namespace Sys2Proof.Machine

/-! ### Control ops (R154, R167, R168) -/

/-- The opcodes of Table 6.3. -/
def opcodes : List Nat :=
  [0x00, 0x01, 0x02, 0x03, 0x04, 0x05, 0x06, 0x08, 0x09, 0x0A, 0x0B, 0x10, 0x11, 0x12, 0x20, 0x21, 0x22, 0x23, 0x24, 0x25,
    0x26, 0x27, 0x28, 0x29, 0x2A, 0x2B, 0x2C, 0x2D, 0x2E, 0x2F]

/-- ILLEGAL_OP: a word with any other opcode faults when it would issue (R154). -/
def illegalOp (k cyc : Nat) (d : Device) : Device :=
  let d0 := d.atCyc cyc
  match d0.opAt k cyc (fun c => !(c ∈ opcodes)) with
  | none => d0
  | some o0 => match ({ o0 with d := o0.d.account k cyc }).fetch with
    | (none, d1) => d1
    | (some o, _) => o.opFault 0x0110

/-- ILLEGAL_OP (R154). -/
def execIllegalOp (k : Fin 4096) (cyc : Nat) (s : State) : Host.Outcome State Fault Refusal := onArray (illegalOp k cyc) s

/-- Issue with no effect but the issue slot and the pc; past op 63 it is PC_OVERRUN (R164). -/
def OpIn.plain (o : OpIn) (issue next : Nat) : Device :=
  if 63 < next then o.opFault 0x0114 else o.commit issue 1 next Eff.none o.d

/-- NOP (R167). -/
def opNop (k cyc : Nat) (d : Device) : Device := issueCtl 0x00 (fun o => o.plain 1 (o.pc + 1)) k cyc d
/-- OP_NOP (R167). -/
def execOpNop (k : Fin 4096) (cyc : Nat) (s : State) : Host.Outcome State Fault Refusal := onArray (opNop k cyc) s

/-- WAIT (R167). -/
def opWait (k cyc : Nat) (d : Device) : Device := issueCtl 0x06 (fun o => o.plain (max 1 (o.f 0 16)) (o.pc + 1)) k cyc d
/-- OP_WAIT (R167). -/
def execOpWait (k : Fin 4096) (cyc : Nat) (s : State) : Host.Outcome State Fault Refusal := onArray (opWait k cyc) s

/-- The fault of a switch to a context at or above N_CTX (R121). -/
def OpIn.ctxFault (o : OpIn) (x : Nat) : Device := o.indexFault 0x0109 x

/-- switch_to (R168): x is active from the third cycle after the switching op issued. -/
def OpIn.switchTo (o : OpIn) (x : Nat) (d : Device) : Device :=
  let t := d.tile o.k
  d.setTile o.k { t with prev := t.active, active := x, free := o.cyc + 3, switchEnd := o.cyc + 3 }

/-- Set the open loops of the op's context. -/
def OpIn.setLoops (o : OpIn) (l : List TLoop) (d : Device) : Device :=
  d.setTile o.k ((d.tile o.k).setCtx o.c { d.ctx o.k o.c with loops := l })

/-- The open loops of the op's context. -/
def OpIn.loops (o : OpIn) : List TLoop := (o.d.ctx o.k o.c).loops

/-- END (R168). -/
def opEnd (k cyc : Nat) (d : Device) : Device :=
  issueCtl 0x01 (fun o =>
    if !o.loops.isEmpty then o.opFault 0x0113
    else if o.f 3 1 = 1 ∧ o.d.nCtx o.k ≤ o.f 0 3 then o.ctxFault (o.f 0 3)
    else
      let ord := R.trw_FRAME_ORD o.k o.c
      let d1 := o.d.setN ord ((o.d.rn ord + 1) % 2 ^ 32)
      if o.f 3 1 = 1 then o.switchTo (o.f 0 3) (o.commit 3 1 0 Eff.none d1) else o.commit 1 1 0 Eff.none d1) k cyc d
/-- OP_END (R168). -/
def execOpEnd (k : Fin 4096) (cyc : Nat) (s : State) : Host.Outcome State Fault Refusal := onArray (opEnd k cyc) s

/-- LOOP (R168). -/
def opLoop (k cyc : Nat) (d : Device) : Device :=
  issueCtl 0x02 (fun o =>
    let count := o.f 0 16
    let fin := o.f 16 6
    if fin ≤ o.pc ∨ ob (o.d.opWord o.k o.c fin) 58 6 ≠ 0x03 then o.opFault 0x0113
    else if count = 0 then o.plain 1 (fin + 1)
    else if o.loops.length = 4 then o.opFault 0x0112
    else o.commit 1 1 (o.pc + 1) Eff.none (o.setLoops (o.loops ++ [⟨count, 0, o.pc + 1, fin⟩]) o.d)) k cyc d
/-- OP_LOOP (R168). -/
def execOpLoop (k : Fin 4096) (cyc : Nat) (s : State) : Host.Outcome State Fault Refusal := onArray (opLoop k cyc) s

/-- ENDL (R168). -/
def opEndl (k cyc : Nat) (d : Device) : Device :=
  issueCtl 0x03 (fun o =>
    match o.loops.getLast? with
    | none => o.opFault 0x0113
    | some l =>
      if l.fin ≠ o.pc then o.opFault 0x0113
      else if l.iter + 1 < l.count then
        o.commit 1 1 l.start Eff.none (o.setLoops (o.loops.dropLast ++ [{ l with iter := l.iter + 1 }]) o.d)
      else if 63 < o.pc + 1 then o.opFault 0x0114
      else o.commit 1 1 (o.pc + 1) Eff.none (o.setLoops o.loops.dropLast o.d)) k cyc d
/-- OP_ENDL (R168). -/
def execOpEndl (k : Fin 4096) (cyc : Nat) (s : State) : Host.Outcome State Fault Refusal := onArray (opEndl k cyc) s

/-- FSW (R168). -/
def opFsw (k cyc : Nat) (d : Device) : Device :=
  issueCtl 0x04 (fun o =>
    if o.d.nCtx o.k ≤ o.f 0 3 then o.ctxFault (o.f 0 3)
    else if 63 < o.pc + 1 then o.opFault 0x0114
    else o.switchTo (o.f 0 3) (o.commit 2 1 (o.pc + 1) Eff.none o.d)) k cyc d
/-- OP_FSW (R168). -/
def execOpFsw (k : Fin 4096) (cyc : Nat) (s : State) : Host.Outcome State Fault Refusal := onArray (opFsw k cyc) s

/-! ### SWAPCHK (R169) -/

/-- The skim ID of a swap token (R112). -/
def tokenSkim (f : Flit) : Nat := f.data.toNat % 2 ^ 14

/-- Set the active slot of the contexts named by a mask. -/
def Device.setActive (d : Device) (k mask s : Nat) : Device :=
  (List.range (d.nCtx k)).foldl (fun d c =>
    if ob mask c 1 = 1 then d.setTile k ((d.tile k).setCtx c { d.ctx k c with slot := some s }) else d) d

/-- SWAPCHK acts on the head flit of IN. -/
def OpIn.swapchk (o : OpIn) : Device :=
  match ((o.d.tile o.k).queue o.inp).head? with
  | none => o.d
  | some h =>
    if h.bad = 2 then o.flitFault o.inp h
    else if !h.flit.swap then o.plain 1 (o.pc + 1)
    else if h.flit.first || h.flit.last then o.flitFault o.inp h
    else
      let id := tokenSkim h.flit
      let n := o.d.numSlots o.k
      let found := (List.range n).find? fun s =>
        o.d.rf (R.trw_SLOT_SKIM o.k s) 31 1 = 1 ∧ o.d.rf (R.trw_SLOT_SKIM o.k s) 0 14 = id
      if n ≠ 0 ∧ found.isNone then o.d.waitFill o.k id o.cyc
      else if 63 < o.pc + 1 then o.opFault 0x0114
      else
        let d0 := if h.bad = 1 then o.d.tileData o.k o.c 0x0102 (wd o.inp) else o.d
        let d1 := d0.endWait o.k o.cyc
        let d2 := d1.setTile o.k ((d1.tile o.k).takeN o.inp 1 o.cyc).2
        let d3 := match found with
          | some s => d2.setActive o.k (o.f 0 8) s
          | none => d2
        o.commit 1 1 (o.pc + 1) { Eff.none with outs := [(0, 4, BitVec.ofNat 256 id)] } d3

/-- SWAPCHK (R169). -/
def opSwapchk (k cyc : Nat) (d : Device) : Device := issueCtl 0x05 OpIn.swapchk k cyc d
/-- OP_SWAPCHK (R169). -/
def execOpSwapchk (k : Fin 4096) (cyc : Nat) (s : State) : Host.Outcome State Fault Refusal := onArray (opSwapchk k cyc) s

/-! ### Stream ops (R170) -/

/-- The format of TAKE's elements in the stream and after the rotator. -/
def takeFmt (o : OpIn) : Nat × Nat := if o.rq then ((o.rcfg o.inp).ifmt, (o.rcfg o.inp).tfmt) else (o.f 0 4, o.f 0 4)

/-- An element of a format as an accumulator lane: sign-extended, or widened to FP32 (R170). -/
def laneOf (fmt bits : Nat) : Word := if isIntFmt fmt then wd (toBits 32 (codeVal fmt bits)) else widen fmt bits

/-- Needs of TAKE. -/
def takePlan (o : OpIn) : OpPlan :=
  let n := elemsPerFlit (takeFmt o).1 * o.cnt
  { OpPlan.none o.cnt 1 with
    writes := (List.range ((n + 15) / 16)).map fun i => o.rel 0 + i
    bad := o.f 0 4 ≥ 10
    shape := o.shapeBad o.inp n }

/-- Effect of TAKE. -/
def takeEff (o : OpIn) (fl : List (Nat × List Flit)) : Eff :=
  let e := elemsPerFlit (takeFmt o).1
  let v := o.stream o.inp (takeFmt o).2 (e * o.cnt) (taken fl o.inp)
  o.beats fun b _ => ((v.drop (e * b)).take e).zipIdx.map fun x =>
    accWr (o.ent 0 + (e * b + x.2) / 16) ((e * b + x.2) % 16) (laneOf (takeFmt o).2 x.1)

/-- TAKE (R170). -/
def opTake (k cyc : Nat) (d : Device) : Device := issueOp 0x08 takePlan takeEff k cyc d
/-- OP_TAKE (R170). -/
def execOpTake (k : Fin 4096) (cyc : Nat) (s : State) : Host.Outcome State Fault Refusal := onArray (opTake k cyc) s

/-- Whether OUT names no port (R160). -/
def OpIn.noOut (o : OpIn) : Bool := o.f 53 2 = 3

/-- Whether GIVE takes the output format (R170). -/
def giveFmt (f : Nat) : Bool := f ∈ [0, 4, 5, 6, 7, 8, 9]

/-- Needs of GIVE. -/
def givePlan (o : OpIn) : OpPlan :=
  let m := o.cnt * elemsPerFlit (o.f 0 4)
  { OpPlan.none o.cnt 2 with
    reads := (List.range ((m + 15) / 16)).map fun i => o.rel 0 + i
    bad := !giveFmt (o.f 0 4) || o.noOut }

/-- One element of GIVE. -/
def giveElem (fmt : Nat) (isFp ha : Bool) (x : Word) : Nat :=
  if isFp then
    (if isIntFmt fmt then toBits (fmtBits fmt) (toInt x 0 (intLo fmt) (intHi fmt) ha) else encode fmt x)
  else if isIntFmt fmt then toBits (fmtBits fmt) (sat x.toInt (intLo fmt) (intHi fmt))
  else encode fmt (fp32Of x.toInt)

/-- Effect of GIVE. -/
def giveEff (o : OpIn) (_ : List (Nat × List Flit)) : Eff :=
  let fmt := o.f 0 4
  let e := elemsPerFlit fmt
  let v := (List.range (o.cnt * e)).map fun i =>
    giveElem fmt (o.f 4 1 = 1) (o.f 5 1 = 1) (accRd o.mem.acc (o.ent 0 + i / 16) (i % 16))
  { Eff.none with outs := o.emit fmt e v }

/-- GIVE (R170). -/
def opGive (k cyc : Nat) (d : Device) : Device := issueOp 0x09 givePlan giveEff k cyc d
/-- OP_GIVE (R170). -/
def execOpGive (k : Fin 4096) (cyc : Nat) (s : State) : Host.Outcome State Fault Refusal := onArray (opGive k cyc) s

/-- Needs of PASS. -/
def passPlan (o : OpIn) : OpPlan := { OpPlan.none o.cnt 1 with bad := o.rq || o.noOut }

/-- Effect of PASS: each flit with its tag, renumbered. -/
def passEff (o : OpIn) (fl : List (Nat × List Flit)) : Eff :=
  { Eff.none with outs := (taken fl o.inp).zipIdx.map fun x => (x.2, x.1.tag, x.1.data) }

/-- PASS (R170). -/
def opPass (k cyc : Nat) (d : Device) : Device := issueOp 0x0A passPlan passEff k cyc d
/-- OP_PASS (R170). -/
def execOpPass (k : Fin 4096) (cyc : Nat) (s : State) : Host.Outcome State Fault Refusal := onArray (opPass k cyc) s

/-- Needs of TAGSET. -/
def tagsetPlan (o : OpIn) : OpPlan :=
  { OpPlan.none 1 1 with bad := o.f 0 4 == 0 || o.f 2 1 == 1 || o.noOut }

/-- Effect of TAGSET. -/
def tagsetEff (o : OpIn) (_ : List (Nat × List Flit)) : Eff :=
  { Eff.none with outs := [(0, BitVec.ofNat 4 (o.f 0 4), 0)] }

/-- TAGSET (R170). -/
def opTagset (k cyc : Nat) (d : Device) : Device := issueOp 0x0B tagsetPlan tagsetEff k cyc d
/-- OP_TAGSET (R170). -/
def execOpTagset (k : Fin 4096) (cyc : Nat) (s : State) : Host.Outcome State Fault Refusal := onArray (opTagset k cyc) s

/-! ### Memory ops (R171 to R173) -/

/-- Write bytes into a weight bank. -/
def wrBank (bank at_ : Nat) (l : List Byte) (m : TileMem) : TileMem := { m with wb := Memory.wrBytes m.wb (512 * bank + at_) l }

/-- Writing bytes of a weight bank sets their parity. -/
def mendBank (k bank at_ n : Nat) (d : Device) : Device :=
  d.mend .wbank k fun w => 512 * bank + at_ ≤ w && w < 512 * bank + at_ + n

/-- The bytes of an absolute Hawk line. -/
def TileMem.line (m : TileMem) (l : Nat) : List Byte := Memory.rdBytes m.hawk (128 * l) 128

/-- Needs of HLD. -/
def hldPlan (o : OpIn) : OpPlan :=
  let dest := o.f 0 2
  { OpPlan.none o.cnt 1 with
    writes := if dest = 2 then (List.range o.cnt).flatMap fun i => [o.rel 0 + (2 * i : Nat), o.rel 0 + (2 * i + 1 : Nat)] else []
    hlines := (List.range o.cnt).map o.hrel
    bad := dest == 3 || (dest == 0 && decide (4 < o.f 3 2 + o.cnt)) || (dest == 1 && o.noOut) }

/-- Effect of HLD. -/
def hldEff (o : OpIn) (_ : List (Nat × List Flit)) : Eff :=
  let ls := (List.range o.cnt).map fun i => o.mem.line (o.line i)
  match o.f 0 2 with
  | 0 =>
    { Eff.none with
      mem := fun m => ls.zipIdx.foldl (fun m x => wrBank (o.f 2 1) (128 * (o.f 3 2 + x.2)) x.1 m) m
      dev := mendBank o.k (o.f 2 1) (128 * o.f 3 2) (128 * o.cnt) }
  | 1 =>
    let pay := ls.zipIdx.flatMap fun x => (chunk 32 4 x.1).map fun p => (x.2, packFlit p)
    { Eff.none with outs := pay.zipIdx.map fun x =>
        (x.1.1, BitVec.ofNat 4 (b2n (x.2 = 0 && o.f 33 1 = 1) + 2 * b2n (x.2 + 1 = pay.length && o.f 34 1 = 1)), x.1.2) }
  | _ => o.beats fun b _ => (List.range 32).map fun j =>
      accWr (o.ent 0 + 2 * b + j / 16) (j % 16) (o.hword b (4 * j))

/-- HLD (R171). -/
def opHld (k cyc : Nat) (d : Device) : Device := issueOp 0x10 hldPlan hldEff k cyc d
/-- OP_HLD (R171). -/
def execOpHld (k : Fin 4096) (cyc : Nat) (s : State) : Host.Outcome State Fault Refusal := onArray (opHld k cyc) s

/-- Needs of HST. -/
def hstPlan (o : OpIn) : OpPlan :=
  let ents := o.f 0 1 = 1
  { OpPlan.none (if ents then 2 * o.cnt else o.cnt) 1 with
    reads := if ents then (List.range o.cnt).map o.rel else []
    hlines := (List.range (if ents then (o.cnt + 1) / 2 else (o.cnt + 3) / 4)).map o.hrel
    bad := o.f 20 1 == 0 }

/-- The bytes of an entry, lane 0 first. -/
def entryBytes (m : TileMem) (e : Nat) : List Byte := lanes.flatMap fun l => leBytes 4 (accRd m.acc e l).toNat

/-- Writing Hawk bytes restores the code of the words written whole. -/
def mendHawk (k at_ n : Nat) (d : Device) : Device :=
  d.mend .hawk k fun w => at_ ≤ 8 * w && 8 * w + 8 ≤ at_ + n

/-- Effect of HST. -/
def hstEff (o : OpIn) (fl : List (Nat × List Flit)) : Eff :=
  let ps : List (Nat × List Byte) :=
    if o.f 0 1 = 1 then (List.range o.cnt).map fun i => (128 * o.line (i / 2) + 64 * (i % 2), entryBytes o.mem (o.ent i))
    else (taken fl o.inp).zipIdx.map fun x => (128 * o.line (x.2 / 4) + 32 * (x.2 % 4), x.1.bytes)
  { Eff.none with
    mem := fun m => { m with hawk := ps.foldl (fun h p => Memory.wrBytes h p.1 p.2) m.hawk }
    dev := fun d => ps.foldl (fun d p => mendHawk o.k p.1 p.2.length d) d }

/-- HST (R172). -/
def opHst (k cyc : Nat) (d : Device) : Device := issueOp 0x11 hstPlan hstEff k cyc d
/-- OP_HST (R172). -/
def execOpHst (k : Fin 4096) (cyc : Nat) (s : State) : Host.Outcome State Fault Refusal := onArray (opHst k cyc) s

/-- Needs of WSR. -/
def wsrPlan (o : OpIn) : OpPlan := { OpPlan.none o.cnt 1 with bad := decide (16 < o.f 1 4 + o.cnt) }

/-- Effect of WSR. -/
def wsrEff (o : OpIn) (fl : List (Nat × List Flit)) : Eff :=
  { Eff.none with
    mem := wrBank (o.f 0 1) (32 * o.f 1 4) ((taken fl o.inp).flatMap Flit.bytes)
    dev := mendBank o.k (o.f 0 1) (32 * o.f 1 4) (32 * o.cnt) }

/-- WSR (R173). -/
def opWsr (k cyc : Nat) (d : Device) : Device := issueOp 0x12 wsrPlan wsrEff k cyc d
/-- OP_WSR (R173). -/
def execOpWsr (k : Fin 4096) (cyc : Nat) (s : State) : Host.Outcome State Fault Refusal := onArray (opWsr k cyc) s

/-! ### The rotator and MAC ops (R174 to R177) -/

/-- Needs of ROT. -/
def rotPlan (o : OpIn) : OpPlan :=
  { OpPlan.none 1 1 with bad := !(o.f 37 4 ∈ [0, 4, 6, 7, 8]) || !(o.f 33 4 ∈ [0, 6, 7, 8]) }

/-- Effect of ROT. -/
def rotEff (o : OpIn) (_ : List (Nat × List Flit)) : Eff :=
  { Eff.none with mem := fun m => { m with
      rcfg := Store.set rotCfg0 m.rcfg o.inp ⟨o.f 50 2, o.f 37 4, o.f 33 4, wd (o.f 0 32), sext 8 (o.f 41 8)⟩ } }

/-- ROT (R174). -/
def opRot (k cyc : Nat) (d : Device) : Device := issueOp 0x20 rotPlan rotEff k cyc d
/-- OP_ROT (R174). -/
def execOpRot (k : Fin 4096) (cyc : Nat) (s : State) : Host.Outcome State Fault Refusal := onArray (opRot k cyc) s

/-- Element (l, k) of the operand of K columns and width w in wb[BANK]: element l × K + k packed (R129). -/
def TileMem.wcode (m : TileMem) (bank w kk l k : Nat) : Nat :=
  let i := l * kk + k
  let bit := w * i
  let v := (Memory.rd8 m.wb (512 * bank + bit / 8)).toNat + 256 * (Memory.rd8 m.wb (512 * bank + bit / 8 + 1)).toNat
  v / 2 ^ (bit % 8) % 2 ^ w

/-- The format of a MACI or MACT weight code: INT8, INT4, INT3, INT2. -/
def wfmt (x : Nat) : Nat := x

/-- Lines preloaded for an operand of `bytes` bytes (Table 6.2). -/
def OpIn.preload (o : OpIn) (bytes : Nat) : Nat := if o.f 1 1 = 0 then 0 else (bytes + 127) / 128

/-- Copy the preloaded lines from line q on into wb[1 - BANK]. -/
def OpIn.preEff (o : OpIn) (q n : Nat) (m : TileMem) : TileMem :=
  (List.range n).foldl (fun m i => wrBank (1 - o.f 0 1) (128 * i) (o.mem.line (o.line (q + i))) m) m

/-- A parity error in the bank that an op reads (Table 4.5). -/
def OpIn.parity (o : OpIn) (bytes : Nat) (d : Device) : Device :=
  let b := o.f 0 1
  if d.upsets.any fun u => u.mem == .wbank && u.unit == o.k && decide (512 * b ≤ u.word) && decide (u.word < 512 * b + bytes) then
    d.tileData o.k o.c 0x0103 (wd b)
  else d

/-- What a MAC op does beside its beats. -/
def OpIn.macDev (o : OpIn) (bytes n : Nat) (d : Device) : Device :=
  mendBank o.k (1 - o.f 0 1) 0 (128 * n) (o.parity bytes d)

/-- Whether INIT starts entry e afresh in beat b: set, and no earlier beat wrote it. -/
def OpIn.fresh (_o : OpIn) (init : Bool) (outs : Nat → List Nat) (b e : Nat) : Bool :=
  init && (List.range b).all fun j => !(e ∈ outs j)

/-- The entries MACI or MACT writes in beat b. -/
def OpIn.macOuts (o : OpIn) (b : Nat) : List Nat :=
  if o.f 5 1 = 1 then [o.ent b, o.abs (o.rel b + o.f 6 6)] else [o.ent b]

/-- One beat of MACI and MACT: the lane sums and, with ASUM, the activation sum (R143, R144, R175, R176). -/
def OpIn.macBeat (o : OpIn) (b : Nat) (m : Store Word) (weight : Nat → Nat → Int) (x : List Int) : List (Nat × Word) :=
  let init := o.f 2 1 = 1
  let e := o.ent b
  let ea := o.abs (o.rel b + o.f 6 6)
  let old := fun e l => if o.fresh init o.macOuts b e then 0 else (accRd m e l).toInt
  let sums := lanes.map fun l =>
    accWr e l (wd (toBits 32 (satS32 (old e l + (x.zipIdx.map fun q => weight l q.2 * q.1).sum))))
  if o.f 5 1 = 1 then sums ++ lanes.map fun l => accWr ea l (wd (toBits 32 (satS32 (old ea l + x.sum)))) else sums

/-- Relative entries that MACI or MACT reads and writes. -/
def OpIn.macRels (o : OpIn) : List Int :=
  (List.range o.cnt).flatMap fun b => if o.f 5 1 = 1 then [o.rel b, o.rel b + o.f 6 6] else [o.rel b]

/-- Bank bytes of MACI. -/
def maciBytes (o : OpIn) : Nat := match o.f 3 2 with | 0 => 512 | 3 => 128 | _ => 256

/-- Needs of MACI. -/
def maciPlan (o : OpIn) : OpPlan :=
  { OpPlan.none (max o.cnt (o.preload (maciBytes o))) 2 with
    reads := o.macRels, writes := o.macRels
    hlines := (List.range (o.preload (maciBytes o))).map o.hrel
    bad := o.streamBad o.inp 0
    shape := o.shapeBad o.inp (32 * o.cnt) }

/-- Effect of MACI. -/
def maciEff (o : OpIn) (fl : List (Nat × List Flit)) : Eff :=
  let f := wfmt (o.f 3 2)
  let x := (o.stream o.inp 0 (32 * o.cnt) (taken fl o.inp)).map (codeVal 0)
  let wt := fun l k => codeVal f (o.mem.wcode (o.f 0 1) (fmtBits f) 32 l k)
  let n := o.preload (maciBytes o)
  { o.beats (fun b m => o.macBeat b m wt ((x.drop (32 * b)).take 32)) with
    mem := o.preEff 0 n, dev := o.macDev (maciBytes o) n }

/-- MACI (R175). -/
def opMaci (k cyc : Nat) (d : Device) : Device := issueOp 0x21 maciPlan maciEff k cyc d
/-- OP_MACI (R175). -/
def execOpMaci (k : Fin 4096) (cyc : Nat) (s : State) : Host.Outcome State Fault Refusal := onArray (opMaci k cyc) s

/-- The ports of MACT (R176). -/
def mactPorts (o : OpIn) : List Nat := if o.f 3 2 = 3 then [0, 1, 2, 3] else [o.inp, o.inp + 1]

/-- Needs of MACT. -/
def mactPlan (o : OpIn) : OpPlan :=
  let q := o.f 12 1
  let ports := mactPorts o
  { OpPlan.none (max o.cnt (q + o.preload 512)) 3 with
    reads := o.macRels, writes := o.macRels
    hlines := (List.range (q + o.preload 512)).map o.hrel
    bad := o.f 3 2 == 0 || (o.f 3 2 == 3 && o.inp != 0) || (o.f 3 2 != 3 && o.inp % 2 == 1) ||
      ports.any fun p => o.streamBad p 0
    shape := ports.any fun p => o.shapeBad p (32 * o.cnt) }

/-- Effect of MACT: the product-table file keeps the products of the last two beats, beat b in bank b mod 2 (log entry 31). -/
def mactEff (o : OpIn) (fl : List (Nat × List Flit)) : Eff :=
  let f := wfmt (o.f 3 2)
  let ports := mactPorts o
  let kk := 32 * ports.length
  let n := o.preload 512
  let q := o.f 12 1
  let xs := ports.map fun p => (o.stream p 0 (32 * o.cnt) (taken fl p)).map (codeVal 0)
  let x := fun (b : Nat) => xs.flatMap fun l => (l.drop (32 * b)).take 32
  let cbv := fun (i : Nat) => if q = 1 then sext 8 (o.hbyte 0 i) else codeVal f i
  let wt := fun l k => cbv (codeIdx f (o.mem.wcode (o.f 0 1) (fmtBits f) kk l k))
  let codes := if f = 3 then 4 else 16
  { o.beats (fun b m => o.macBeat b m wt (x b)) with
    mem := fun m => { o.preEff q n m with
      ptf := (List.range (min 2 o.cnt)).foldl (fun t j =>
        let b := o.cnt - 1 - j
        (x b).zipIdx.foldl (fun t e => (List.range codes).foldl (fun t i =>
          Store.set half0 t (1024 * (b % 2) + codes * e.2 + i) (BitVec.ofInt 16 (cbv (codeIdx f i) * e.1))) t) t) m.ptf }
    dev := o.macDev 512 n }

/-- MACT (R176). -/
def opMact (k cyc : Nat) (d : Device) : Device := issueOp 0x22 mactPlan mactEff k cyc d
/-- OP_MACT (R176). -/
def execOpMact (k : Fin 4096) (cyc : Nat) (s : State) : Host.Outcome State Fault Refusal := onArray (opMact k cyc) s

/-- The format code of WSEL: E4M3, E5M2, BF16, INT4, INT3, INT2. -/
def wselFmt (x : Nat) : Nat := match x with | 0 => 6 | 1 => 7 | 2 => 8 | 3 => 1 | 4 => 2 | _ => 3

/-- Bank bytes of MACF. -/
def macfBytes (o : OpIn) : Nat := 256 * fmtBits (wselFmt (o.f 3 3)) / 8

/-- Whether the fields of MACF form an allowed combination (R177). -/
def macfBad (o : OpIn) : Bool :=
  let wsel := o.f 3 3
  let xm := o.f 6 2
  o.f 10 2 == 3 || !(if wsel ≤ 2 then xm == 0 else wsel ≤ 5 && xm != 0) || (xm == 3 && o.f 8 2 == 3)

/-- Needs of MACF. -/
def macfPlan (o : OpIn) : OpPlan :=
  let q := b2n (o.f 6 2 ≠ 0)
  { OpPlan.none (max o.cnt (q + o.preload (macfBytes o))) 4 with
    reads := (List.range o.cnt).map o.rel, writes := (List.range o.cnt).map o.rel
    hlines := (List.range (q + o.preload (macfBytes o))).map o.hrel
    bad := macfBad o || o.streamBad o.inp (6 + o.f 10 2)
    shape := o.shapeBad o.inp (16 * o.cnt) }

/-- The float operand of weight code q of lane l (R149, R177). -/
def macfWeight (o : OpIn) (l q : Nat) : Word :=
  let f := wselFmt (o.f 3 3)
  match o.f 6 2 with
  | 0 => widen f q
  | 3 =>
    let i := codeIdx f q
    let cf := 6 + o.f 8 2
    widen cf (if cf = 8 then o.hhalf 0 (2 * i) else o.hbyte 0 i)
  | x =>
    let xf := if x = 1 then 6 else 8
    widen xf (encode xf (fp32Of (codeVal f q - sext 8 (o.hbyte 0 l))))

/-- Effect of MACF. -/
def macfEff (o : OpIn) (fl : List (Nat × List Flit)) : Eff :=
  let af := 6 + o.f 10 2
  let wf := wselFmt (o.f 3 3)
  let x := (o.stream o.inp af (16 * o.cnt) (taken fl o.inp)).map (widen af)
  let q := b2n (o.f 6 2 ≠ 0)
  let n := o.preload (macfBytes o)
  let init := o.f 2 1 = 1
  { o.beats (fun b m => lanes.map fun l =>
      let w := lanes.map fun k => macfWeight o l (o.mem.wcode (o.f 0 1) (fmtBits wf) 16 l k)
      let a0 := if o.fresh init (fun j => [o.ent j]) b (o.ent b) then 0 else accRd m (o.ent b) l
      accWr (o.ent b) l (fp32Dot a0 w ((x.drop (16 * b)).take 16))) with
    mem := o.preEff q n, dev := o.macDev (macfBytes o) n }

/-- MACF (R177). -/
def opMacf (k cyc : Nat) (d : Device) : Device := issueOp 0x23 macfPlan macfEff k cyc d
/-- OP_MACF (R177). -/
def execOpMacf (k : Fin 4096) (cyc : Nat) (s : State) : Host.Outcome State Fault Refusal := onArray (opMacf k cyc) s

/-! ### Correction, scaling and requantisation (R178 to R182) -/

/-- The beats' relative entries at an offset. -/
def OpIn.rels (o : OpIn) (off : Nat) : List Int := (List.range o.cnt).map fun b => o.rel b + off

/-- An s32 lane. -/
def wdS (v : Int) : Word := wd (toBits 32 v)

/-- Needs of GSUM. -/
def gsumPlan (o : OpIn) : OpPlan := { OpPlan.none o.cnt 3 with reads := o.rels 0, writes := o.rels (o.f 2 6) }

/-- The reduction of 16 lanes (R178). -/
def gsumOf (max_ fp : Bool) (v : List Word) : Word :=
  match max_, fp with
  | false, false => wdS (satS32 (v.map (·.toInt)).sum)
  | false, true => fp32Sum v
  | true, false => v.foldl (fun a x => if a.toInt < x.toInt then x else a) (v.headD 0)
  | true, true => (v.drop 1).foldl fp32Max (v.headD 0)

/-- Effect of GSUM. -/
def gsumEff (o : OpIn) (_ : List (Nat × List Flit)) : Eff :=
  o.beats fun b m =>
    let r := gsumOf (o.f 0 1 = 1) (o.f 1 1 = 1) (lanes.map (accRd m (o.ent b)))
    lanes.map fun l => accWr (o.abs (o.rel b + o.f 2 6)) l r

/-- GSUM (R178). -/
def opGsum (k cyc : Nat) (d : Device) : Device := issueOp 0x24 gsumPlan gsumEff k cyc d
/-- OP_GSUM (R178). -/
def execOpGsum (k : Fin 4096) (cyc : Nat) (s : State) : Host.Outcome State Fault Refusal := onArray (opGsum k cyc) s

/-- Needs of ZPC. -/
def zpcPlan (o : OpIn) : OpPlan :=
  { OpPlan.none o.cnt 2 with
    reads := o.rels 0 ++ o.rels (o.f 2 6), writes := o.rels 0, hlines := [o.hrel 0]
    bad := o.f 0 2 == 0 || o.f 55 1 == 1 }

/-- Effect of ZPC. -/
def zpcEff (o : OpIn) (_ : List (Nat × List Flit)) : Eff :=
  o.beats fun b m => lanes.map fun l =>
    accWr (o.ent b) l (wdS (zpc (accRd m (o.ent b) l).toInt (accRd m (o.abs (o.rel b + o.f 2 6)) l).toInt
      (sext 16 (o.hhalf 0 (16 + 2 * l))) (sext 8 (o.hbyte 0 l)) (o.rcfg o.inp).zx (16 * 2 ^ o.f 0 2)))

/-- ZPC (R179). -/
def opZpc (k cyc : Nat) (d : Device) : Device := issueOp 0x25 zpcPlan zpcEff k cyc d
/-- OP_ZPC (R179). -/
def execOpZpc (k : Fin 4096) (cyc : Nat) (s : State) : Host.Outcome State Fault Refusal := onArray (opZpc k cyc) s

/-- Needs of GSC. -/
def gscPlan (o : OpIn) : OpPlan :=
  { OpPlan.none o.cnt 3 with
    reads := o.rels 0 ++ o.rels (o.f 3 6), writes := o.rels (o.f 3 6), hlines := [o.hrel 0] }

/-- The product of a group sum and the lane's scale; an E8M0 scale multiplies exactly (R147). -/
def gscMul (o : OpIn) (cv : Word) (l : Nat) : Word :=
  if o.f 0 1 = 1 then fp32Mul cv (widen 8 (o.hhalf 0 (2 * l)))
  else if o.hbyte 0 l = 255 then canonNan else scale2 cv ((o.hbyte 0 l : Int) - 127)

/-- Effect of GSC. -/
def gscEff (o : OpIn) (_ : List (Nat × List Flit)) : Eff :=
  let dst := fun b => o.abs (o.rel b + o.f 3 6)
  o.beats fun b m => lanes.map fun l =>
    let a := accRd m (o.ent b) l
    let p := gscMul o (if o.f 1 1 = 0 then fp32Of a.toInt else a) l
    accWr (dst b) l (if o.fresh (o.f 2 1 = 1) (fun j => [dst j]) b (dst b) then p else fp32Add (accRd m (dst b) l) p)

/-- GSC (R180). -/
def opGsc (k cyc : Nat) (d : Device) : Device := issueOp 0x26 gscPlan gscEff k cyc d
/-- OP_GSC (R180). -/
def execOpGsc (k : Fin 4096) (cyc : Nat) (s : State) : Host.Outcome State Fault Refusal := onArray (opGsc k cyc) s

/-- Segment i of the activation table of the active slot and context (R102, R182). -/
def OpIn.segment (o : OpIn) (i : Nat) : Nat :=
  let s := ((o.d.ctx o.k o.c).slot).getD 0
  Memory.rd o.mem.act (512 * (o.d.rf (R.trw_SLOT_ACT o.k s) 0 5 + o.c) + 8 * i) 8

/-- Needs of RQN. -/
def rqnPlan (o : OpIn) : OpPlan :=
  { OpPlan.none o.cnt (if o.f 0 1 = 1 then 6 else 4) with
    reads := o.rels 0, hlines := [o.hrel 0], act := o.f 0 1 = 1
    bad := !(o.f 10 4 ∈ [0, 4, 6, 7, 8, 9]) || o.noOut }

/-- One element of RQN (R151). -/
def rqnElem (o : OpIn) (l : Nat) (a : Word) : Nat :=
  let y0 := fp32Add (fp32Mul a (o.hword 0 (4 * l))) (o.hword 0 (64 + 4 * l))
  let y := if o.f 0 1 = 1 then actEval o.segment y0 else y0
  let f := o.f 10 4
  if isIntFmt f then toBits (fmtBits f) (toInt y (sext 8 (o.f 2 8)) (intLo f) (intHi f) (o.f 1 1 = 1)) else encode f y

/-- Effect of RQN. -/
def rqnEff (o : OpIn) (_ : List (Nat × List Flit)) : Eff :=
  let v := (List.range o.cnt).flatMap fun b => lanes.map fun l => rqnElem o l (accRd o.mem.acc (o.ent b) l)
  { Eff.none with outs := o.emit (o.f 10 4) 16 v }

/-- RQN (R181). -/
def opRqn (k cyc : Nat) (d : Device) : Device := issueOp 0x27 rqnPlan rqnEff k cyc d
/-- OP_RQN (R181). -/
def execOpRqn (k : Fin 4096) (cyc : Nat) (s : State) : Host.Outcome State Fault Refusal := onArray (opRqn k cyc) s

/-- Needs of ACT. -/
def actPlan (o : OpIn) : OpPlan := { OpPlan.none o.cnt 3 with reads := o.rels 0, writes := o.rels 0, act := true }

/-- Effect of ACT. -/
def actEff (o : OpIn) (_ : List (Nat × List Flit)) : Eff :=
  o.beats fun b m => lanes.map fun l => accWr (o.ent b) l (actEval o.segment (accRd m (o.ent b) l))

/-- ACT (R182). -/
def opAct (k cyc : Nat) (d : Device) : Device := issueOp 0x28 actPlan actEff k cyc d
/-- OP_ACT (R182). -/
def execOpAct (k : Fin 4096) (cyc : Nat) (s : State) : Host.Outcome State Fault Refusal := onArray (opAct k cyc) s

/-! ### Vector ops (R183 to R187) -/

/-- TYPE 1 FP32. -/
def OpIn.fp (o : OpIn) : Bool := o.f 0 1 = 1
/-- BSRC 1: the second operand is taken from IN. -/
def OpIn.bsrc (o : OpIn) : Bool := o.f 1 1 = 1

/-- The second operand of beat b (R183), its entry relative to `r`. -/
def OpIn.second (o : OpIn) (m : Store Word) (fl : List Flit) (r : Int) (b l : Nat) : Word :=
  if o.bsrc then laneOf (o.f 8 4) (elemAt 16 (((fl[b]?).map (·.data.toNat)).getD 0) l)
  else accRd m (o.abs (r + o.f 2 6)) l

/-- Whether IFMT suits TYPE when the second operand comes from IN. -/
def OpIn.vecBad (o : OpIn) : Bool := o.bsrc && o.f 8 4 != (if o.fp then 8 else 4)

/-- Needs of ADDV, MULV and MAXP. -/
def vecPlan (o : OpIn) : OpPlan :=
  { OpPlan.none o.cnt 2 with
    reads := if o.bsrc then o.rels 0 else o.rels 0 ++ o.rels (o.f 2 6), writes := o.rels 0, bad := o.vecBad }

/-- Effect of a lane-wise op. -/
def vecEff (fi : Int → Int → Int) (ff : Word → Word → Word) (o : OpIn) (fl : List (Nat × List Flit)) : Eff :=
  o.beats fun b m => lanes.map fun l =>
    let a := accRd m (o.ent b) l
    let v := o.second m (taken fl o.inp) (o.rel b) b l
    accWr (o.ent b) l (if o.fp then ff a v else wdS (fi a.toInt v.toInt))

/-- ADDV (R183). -/
def opAddv (k cyc : Nat) (d : Device) : Device :=
  issueOp 0x29 vecPlan (vecEff (fun a b => satS32 (a + b)) fp32Add) k cyc d
/-- OP_ADDV (R183). -/
def execOpAddv (k : Fin 4096) (cyc : Nat) (s : State) : Host.Outcome State Fault Refusal := onArray (opAddv k cyc) s

/-- MULV (R183). -/
def opMulv (k cyc : Nat) (d : Device) : Device :=
  issueOp 0x2A vecPlan (vecEff (fun a b => satS32 (a * b)) fp32Mul) k cyc d
/-- OP_MULV (R183). -/
def execOpMulv (k : Fin 4096) (cyc : Nat) (s : State) : Host.Outcome State Fault Refusal := onArray (opMulv k cyc) s

/-- MAXP (R183). -/
def opMaxp (k cyc : Nat) (d : Device) : Device := issueOp 0x2B vecPlan (vecEff max fp32Max) k cyc d
/-- OP_MAXP (R183). -/
def execOpMaxp (k : Fin 4096) (cyc : Nat) (s : State) : Host.Outcome State Fault Refusal := onArray (opMaxp k cyc) s

/-- Needs of AVGP: ASTEP is ignored, so every second operand from the file is that of entry ent(0) (R184; log entry 32). -/
def avgpPlan (o : OpIn) : OpPlan :=
  { OpPlan.none o.cnt 3 with
    reads := if o.bsrc then [] else [o.rel 0 + o.f 2 6], writes := [o.rel 0], bad := o.vecBad }

/-- Effect of AVGP: the result is performed with the last beat. -/
def avgpEff (o : OpIn) (fl : List (Nat × List Flit)) : Eff :=
  o.beats fun b m =>
    if b + 1 = o.cnt then lanes.map fun l =>
      let v := (List.range o.cnt).map fun j => o.second m (taken fl o.inp) (o.rel 0) j l
      accWr (o.ent 0) l (if o.fp then fp32Mul (fp32Sum v) (widen 8 (o.f 14 16))
        else wdS (satS32 (divHa (v.map (·.toInt)).sum o.cnt)))
    else []

/-- AVGP (R184). -/
def opAvgp (k cyc : Nat) (d : Device) : Device := issueOp 0x2C avgpPlan avgpEff k cyc d
/-- OP_AVGP (R184). -/
def execOpAvgp (k : Fin 4096) (cyc : Nat) (s : State) : Host.Outcome State Fault Refusal := onArray (opAvgp k cyc) s

/-- Needs of EXPS. -/
def expsPlan (o : OpIn) : OpPlan :=
  { OpPlan.none o.cnt 6 with
    reads := if o.f 6 1 = 1 then o.rels 0 ++ o.rels (o.f 0 6) else o.rels 0, writes := o.rels 0 }

/-- Effect of EXPS. -/
def expsEff (o : OpIn) (_ : List (Nat × List Flit)) : Eff :=
  o.beats fun b m => lanes.map fun l =>
    let x := accRd m (o.ent b) l
    accWr (o.ent b) l (exp2Lane (if o.f 6 1 = 1 then fp32Sub x (accRd m (o.abs (o.rel b + o.f 0 6)) l) else x))

/-- EXPS (R185). -/
def opExps (k cyc : Nat) (d : Device) : Device := issueOp 0x2D expsPlan expsEff k cyc d
/-- OP_EXPS (R185). -/
def execOpExps (k : Fin 4096) (cyc : Nat) (s : State) : Host.Outcome State Fault Refusal := onArray (opExps k cyc) s

/-- Needs of NRM. -/
def nrmPlan (o : OpIn) : OpPlan :=
  { OpPlan.none o.cnt 8 with
    reads := o.rels 0 ++ o.rels (o.f 0 6) ++ o.rels (o.f 6 6), writes := o.rels 0 }

/-- Effect of NRM. -/
def nrmEff (o : OpIn) (_ : List (Nat × List Flit)) : Eff :=
  o.beats fun b m => lanes.map fun l =>
    let x := accRd m (o.ent b) l
    let mean := accRd m (o.abs (o.rel b + o.f 0 6)) l
    let v := accRd m (o.abs (o.rel b + o.f 6 6)) l
    accWr (o.ent b) l (fp32Mul (fp32Sub x mean) (rsqrtRn (fp32Add v (widen 8 (o.f 14 16)))))

/-- NRM (R186). -/
def opNrm (k cyc : Nat) (d : Device) : Device := issueOp 0x2E nrmPlan nrmEff k cyc d
/-- OP_NRM (R186). -/
def execOpNrm (k : Fin 4096) (cyc : Nat) (s : State) : Host.Outcome State Fault Refusal := onArray (opNrm k cyc) s

/-- Needs of SHUF: source entries as its selector line names them. -/
def shufPlan (o : OpIn) : OpPlan :=
  { OpPlan.none o.cnt 2 with
    reads := (List.range o.cnt).flatMap fun b => lanes.map fun l => o.rel b + (o.hbyte 0 l / 16 : Nat)
    writes := o.rels (o.f 0 6), hlines := [o.hrel 0] }

/-- Effect of SHUF. -/
def shufEff (o : OpIn) (_ : List (Nat × List Flit)) : Eff :=
  o.beats fun b m => lanes.map fun l =>
    accWr (o.abs (o.rel b + o.f 0 6)) l (accRd m (o.abs (o.rel b + (o.hbyte 0 l / 16 : Nat))) (o.hbyte 0 l % 16))

/-- SHUF (R187). -/
def opShuf (k cyc : Nat) (d : Device) : Device := issueOp 0x2F shufPlan shufEff k cyc d
/-- OP_SHUF (R187). -/
def execOpShuf (k : Fin 4096) (cyc : Nat) (s : State) : Host.Outcome State Fault Refusal := onArray (opShuf k cyc) s

/-! ### Results of beats, and the Hawk peek -/

/-- Perform one result at the end of its due cycle (R155). -/
def Device.performResult (d : Device) (k : Nat) (r : TResult) : Device :=
  let d1 := d.setTmem k { d.tmemOf k with acc := r.writes.foldl (fun m w => Store.set word0 m w.1 w.2) (d.tmemOf k).acc }
  let d2 := d1.mend .acc k fun w => r.writes.any fun x => x.1 == w
  d2.setTile k (r.flits.foldl (fun t f => t.push (4 + f.1) f.2 r.due) (d2.tile k))

/-- OP_BEAT_RESULT: every result due by the end of the cycle is performed. -/
def opBeatResult (k cyc : Nat) (d : Device) : Device :=
  let d0 := (d.atCyc cyc).account k cyc
  let rs := (d0.tile k).results.filter fun r => decide (r.due ≤ cyc)
  rs.foldl (fun d r =>
    let t := d.tile k
    (d.setTile k { t with results := t.results.drop 1, busy := max t.busy (r.due + 1) }).performResult k r) d0

/-- OP_BEAT_RESULT (R155). -/
def execOpBeatResult (k : Fin 4096) (cyc : Nat) (s : State) : Host.Outcome State Fault Refusal := onArray (opBeatResult k cyc) s

/-- A write of PEEK_ADDR (Table 4.6, Edges): refused to SUPERVISOR (R447) and while the region is RUNNING, HOLDING or
DRAINING; the data of an uncorrectable word are open (log entry 4). -/
def hawkPeek (k : Nat) (p : Port) (v : Word) (d : Device) : Device :=
  let w := fld v 0 15
  if portCode p = 7 then d.errAccess 0x0001 p (R.trw_PEEK_ADDR k) true
  else if 24575 < w then d.errValue 0x0003 p (R.trw_PEEK_ADDR k) v
  else
    let d1 := d.setN (R.trw_PEEK_ADDR k) w
    let runs := match d1.regionOf k with
      | some r => runState (d1.pipeState r)
      | none => false
    if runs then d1.setN (R.trw_PEEK_STATUS k) 2
    else
      let x := Memory.rd (d1.tmemOf k).hawk (8 * w) 8
      match d1.upset .hawk k w with
      | some true =>
        let (a, d2) := d1.fresh
        let (b, d3) := d2.fresh
        ((d3.setN (R.trw_PEEK_STATUS k) 5).setReg (R.trw_PEEK_LO k) a).setReg (R.trw_PEEK_HI k) b
      | m =>
        let d2 := if m.isSome then d1.countCe (R.trw_HAWK_CE_COUNT k) else d1
        (d2.setN (R.trw_PEEK_STATUS k) 1).setN64 (R.trw_PEEK_LO k) x

/-- HAWK_PEEK (R127). -/
def execHawkPeek (k : Fin 4096) (q : Req) (s : State) : Host.Outcome State Fault Refusal :=
  onDev (fun d => d.writeAt q (R.trw_PEEK_ADDR k) (hawkPeek k q.port q.data)) s

end Sys2Proof.Machine
end

