-- ==== Sys2Proof/Machine/Scrim.lean ====
section
/-! DEFINITION. Machine/Scrim.lean: links, stencils, circuits, reduction, the weight store and the control lane (chapter 7,
R189 to R219). -/
namespace Sys2Proof.Machine

/-! ### Entries and links (R192 to R196) -/

/-- The key of (tile, direction, slot); directions 0 N, 1 E, 2 S, 3 W. -/
def skey (k dir slot : Nat) : Nat := 64 * k + 16 * dir + slot

/-- The opposite direction. -/
def opp (dir : Nat) : Nat := (dir + 2) % 4

/-- The neighbour of tile k in a direction; none at an array edge (R192). -/
def neighbour (k dir : Nat) : Option Nat :=
  match dir with
  | 0 => if k / 64 = 0 then none else some (k - 64)
  | 1 => if k % 64 = 63 then none else some (k + 1)
  | 2 => if k / 64 = 63 then none else some (k + 64)
  | _ => if k % 64 = 0 then none else some (k - 1)

/-- The output entry of a key as it acts: an uncorrectable one acts as VALID = 0 (R596). -/
def Device.outE (d : Device) (key : Nat) : Nat := if key ∈ d.scrim.dead then 0 else Store.get zeroN d.scrim.outE key
/-- The delivery entry of a key as it acts. -/
def Device.delE (d : Device) (key : Nat) : Nat :=
  if key + 2 ^ 18 ∈ d.scrim.dead then 0 else Store.get zeroN d.scrim.delE key
/-- Change the Scrim's state. -/
def Device.scr (d : Device) (f : Scrim → Scrim) : Device := { d with scrim := f d.scrim }
/-- Put a flit on a link towards arrival entry `key`. -/
def Device.wire (d : Device) (key : Nat) (f : Flit) (avail : Nat) : Device :=
  d.scr fun s => { s with wires := s.wires ++ [⟨key, f, avail⟩] }
/-- An arrival entry. -/
def Device.arr (d : Device) (key : Nat) : Arr := Store.get arr0 d.scrim.arr key
/-- Set it. -/
def Device.setArr (d : Device) (key : Nat) (x : Arr) : Device :=
  { d with scrim := { d.scrim with arr := Store.set arr0 d.scrim.arr key x } }
/-- PIPE of an output (R190). -/
def Device.pipeOf (d : Device) (k dir : Nat) : Nat := Store.get zeroN d.scrim.pipeReg (4 * k + dir)

/-- The class FUNCTION entry that no block error reports, or the DATA_PATH fault, of a stencil entry found uncorrectable at
its first use (R596). -/
def Device.deadEntry (d : Device) (m : MemKind) (k dir slot at_ : Nat) : Device :=
  let key := skey k dir slot
  if d.upset m k (16 * dir + slot) = some true ∧ !(key + at_ ∈ d.scrim.dead) then
    let d1 := d.scr fun s => { s with dead := (key + at_) :: s.dead }
    if slot < 12 then match d1.regionOf k with
      | some p => d1.pipeFaultLog p 7 k
      | none => d1
    else d1.faultOpen 0x80000 1
  else d

/-- The consumers of arrival entry (k, dir, slot) (R196): outputs by 16 × direction + slot, delivery as 64. -/
def Device.consumers (d : Device) (k dir slot : Nat) : List Nat :=
  ((List.range 64).filter fun o =>
    let e := d.outE (64 * k + o)
    ob e 0 1 = 1 ∧ (ob e 1 2 = 1 ∨ ob e 1 2 = 2) ∧ ob e 3 2 = dir ∧ ob e 5 4 = slot) ++
  (if d.delE (skey k dir slot) % 8 = 0 then [] else [64])
where
  /-- Bits [lo + n - 1 : lo]. -/
  ob (w lo n : Nat) : Nat := w / 2 ^ lo % 2 ^ n

/-- Whether the tape cells of a region hold its border (R301). -/
def Device.taped (d : Device) (p : Nat) : Bool := (Store.get tape0 d.tapes p).on
/-- Whether a scrub pause stops region p (R587). -/
def Device.pausedRegion (d : Device) (p : Nat) : Bool := p ∈ d.scrub.paused

/-- Whether the region of tile k holds READY at 0 on an inbound border link in a region slot, for a sender in region `from_`
(none: an edge) (R301, R587). -/
def Device.borderClosed (d : Device) (k slot : Nat) (from_ : Option Nat) : Bool :=
  match d.regionOf k with
  | none => false
  | some r => decide (slot < 12) && from_ != some r && (d.taped r || d.pausedRegion r)

/-- READY of the arrival entry of a key for stage cycle c (R199). -/
def Device.arrReady (d : Device) (key c : Nat) : Bool :=
  let x := d.arr key
  match x.flit with
  | some _ => decide (c ≤ x.avail)
  | none => match x.emptied with
    | some e => decide (e < c)
    | none => true

/-- A consumer takes the flit of an arrival entry in cycle c; the last empties it (R196). -/
def Device.consume (d : Device) (key who c : Nat) : Device :=
  let x := d.arr key
  let l := x.left.filter fun o => !(o == who)
  let d1 := if l.isEmpty then d.setArr key { x with flit := none, left := [], emptied := some c } else d.setArr key { x with left := l }
  if l.isEmpty then d1.mend .arrival (key / 64) (· == key % 64) else d1

/-- An arrival entry's word is read (chapter 7, Edges): LINK_CE_COUNT, or LINK_UE, which in a region slot faults the pipeline
when the flit is delivered (R596). -/
def Device.linkRead (d : Device) (key : Nat) (deliver : Bool) : Device :=
  let k := key / 64
  match d.upset .arrival k (key % 64) with
  | none => d
  | some false => d.countCe R.scm_LINK_CE_COUNT
  | some true =>
    let d1 := ((d.err 0x80000 0x0100 (wd (k + 4096 * (key / 16 % 4) + 65536 * (key % 16))) 0).count R.scm_LINK_UE_COUNT 1).evtBit 0x80000 19
    if deliver ∧ key % 16 < 12 then match d1.regionOf k with
      | some p => d1.pipeFaultLog p 7 k
      | none => d1
    else d1

/-! ### Edge ports (R192, R222, R410) -/

/-- The pipeline whose egress adapter is at the east (true) or west port of row r. -/
def Device.egressAt (d : Device) (east : Bool) (r : Nat) : Option Nat :=
  (List.range 64).find? fun p => d.egrRow p = r ∧ (if east then d.egrKind p = 1 ∨ d.egrKind p = 3 ∨ d.egrKind p = 4 else d.egrKind p = 2)

/-- The job to which the next flit at egress belongs and the flits of its frame already there. -/
def Device.egressNext (d : Device) (p : Nat) : Option Job × Nat :=
  let x := d.pipe p
  let fl := x.egrIn.filter fun f => !f.swap
  let n := (fl.filter (·.last)).length
  ((x.egrQ[n]?).bind d.job, (fl.reverse.takeWhile fun f => !f.last).length)

/-- The payload bytes of a job that egress keeps (R226). -/
def Device.keepBytes (d : Device) (j : Job) : Nat := if d.egrKind j.pipe = 4 ∨ j.outLen = 0 then 0 else j.outLen - 32

/-- Egress buffers a job needs before egress can take one more flit of its frame after `n` (R410). -/
def Device.egressNeed (d : Device) (j : Job) (n : Nat) : Nat := (min (32 * (n + 1)) (d.keepBytes j) + 2047) / 2048

/-- READY of the egress adapter of pipeline p: low while a claim is unmet (R410) or in a scrub pause (R587). -/
def Device.egressReady (d : Device) (p : Nat) : Bool :=
  if d.pausedRegion p then false
  else if d.pipeFault p || d.pipeResetting p then true
  else match d.egressNext p with
    | (none, _) => true
    | (some j, n) => j.cancelled || decide (d.egressNeed j n ≤ j.egr.total) || (d.claimOne false j).isSome

/-- A flit reaches the egress adapter of pipeline p, which claims the buffer that its 2 KiB of payload begin (R410): discarded
after a fault and during a reset (R238, R240). -/
def Device.toEgress (d : Device) (p : Nat) (f : Flit) : Device :=
  if d.pipeFault p || d.pipeResetting p then d
  else
    let d1 := match d.egressNext p with
      | (some j, n) =>
        if !f.swap ∧ !j.cancelled ∧ j.egr.total < d.egressNeed j n then match d.claimOne false j with
          | some b => d.modJob j.id fun x => x.setBufs false b
          | none => d
        else d
      | _ => d
    (d1.setPipe p { d1.pipe p with egrIn := (d1.pipe p).egrIn ++ [f] }).egrWaitEnd p

/-! ### Sending (R198 to R204) -/

/-- Whether output (k, dir) may send in its slot of cycle c: READY, and no tape or pause holds it. Second: only a tape does. -/
def Device.linkOpen (d : Device) (k dir c : Nat) : Bool × Option Nat :=
  let slot := c % 16
  let r := d.regionOf k
  let own := match r with
    | some p => decide (slot < 12) && d.pausedRegion p
    | none => false
  match neighbour k dir with
  | some n =>
    let key := skey n (opp dir) slot
    let border := d.regionOf n != r
    let tapeOut := match r with
      | some p => decide (slot < 12) && border && d.taped p
      | none => false
    let tapeIn := match d.regionOf n with
      | some p => decide (slot < 12) && border && d.taped p
      | none => false
    let ok := !own && d.arrReady key c && !(border && d.borderClosed n slot r && !tapeIn)
    (ok && !tapeOut && !tapeIn,
      if ok then (if tapeOut then r else if tapeIn then d.regionOf n else none) else none)
  | none =>
    let tape := match r with
      | some p => decide (slot < 12) && d.taped p
      | none => false
    let ok := !own && match (if dir = 1 then d.circuitTx (k / 64) slot else none), d.egressAt (dir == 1) (k / 64) with
      | some (i, j), _ => d.circuitReady i j
      | none, some p => d.egressReady p
      | none, none => true
    (ok && !tape, if ok && tape then r else none)

/-- A tape withheld a flit in cycle c: counted once a cycle (R301). -/
def Device.tapeBlocked (d : Device) (p c : Nat) : Device :=
  let x := Store.get tape0 d.tapes p
  if x.blocked = some c then d
  else { d with tapes := Store.set tape0 d.tapes p { x with blocked := some c } }.count (R.dad_BLOCKED_COUNT (p / 16) (p % 16)) 1

/-- An egress claim held READY low in cycle c (R410). -/
def Device.egressWait (d : Device) (k dir : Nat) : Device :=
  match neighbour k dir with
  | some _ => d
  | none => match d.egressAt (dir == 1) (k / 64) with
    | some p =>
      if d.egressReady p || d.pausedRegion p || (d.pipe p).egrWant.isSome ||
        (dir == 1 && (d.circuitTx (k / 64) (d.now.cyc % 16)).isSome) then d
      else d.setPipe p { d.pipe p with egrWant := some d.now.cyc }
    | none => d

/-- Send a flit on output (k, dir) in cycle c (R190, R192). -/
def Device.sendFlit (d : Device) (k dir c : Nat) (f : Flit) : Device :=
  match neighbour k dir with
  | some n => d.wire (skey n (opp dir) (c % 16)) f (c + 1 + d.pipeOf k dir)
  | none => match (if dir = 1 then d.circuitTx (k / 64) (c % 16) else none), d.egressAt (dir == 1) (k / 64) with
    | some (i, j), _ => d.circuitEnter i j f
    | none, some p => d.toEgress p f
    | none, none => d

/-- Lane-wise sum of two flits (R203). -/
def reduceData (fp : Bool) (a b : BitVec 256) : BitVec 256 :=
  BitVec.ofNat 256 (packElems 32 ((List.range 8).map fun i =>
    let x := wd (elemAt 32 a.toNat i)
    let y := wd (elemAt 32 b.toNat i)
    if fp then (fp32Add x y).toNat else toBits 32 (satS32 (x.toInt + y.toInt))))

/-- Whether slot of cycle c of output (k, dir) is lent to the control lane (R213). -/
def Device.lentSlot (d : Device) (k dir c : Nat) : Bool := (skey k dir (c % 16), c) ∈ d.scrim.lent

/-- The members of the group of OUT port o in cycle c: directions whose entry names it (R198). -/
def Device.outGroup (d : Device) (k o c : Nat) : List Nat :=
  (List.range 4).filter fun dir =>
    let e := d.outE (skey k dir (c % 16))
    e % 2 = 1 ∧ (e / 2 % 4 = 0 ∨ e / 2 % 4 = 2) ∧ e / 512 % 2 = o

/-- The arrival entry that output entry `e` of tile k names. -/
def entryArr (k e : Nat) : Nat := skey k (e / 8 % 4) (e / 32 % 16)

/-- Whether the arrival entry named by output entry (k, dir) holds a flit for it at cycle c. -/
def Device.arrFor (d : Device) (k dir c : Nat) : Option Flit :=
  let x := d.arr (entryArr k (d.outE (skey k dir (c % 16))))
  match x.flit with
  | some f => if x.avail ≤ c ∧ (16 * dir + c % 16) ∈ x.left then some f else none
  | none => none

/-- REDUCE_MISALIGN at (k, dir) (R204). -/
def Device.misalign (d : Device) (k dir c : Nat) (a l : Flit) : Device :=
  let key := skey k dir (c % 16)
  let d1 := ((d.scr fun s => { s with blocked := key :: s.blocked }).count R.scm_MISALIGN_COUNT 1).evtBit 0x80000 20
  d1.tileHalt k 0x0140 2 (wd (dir + 4 * (c % 16))) (wd (a.seq.toNat + 65536 * l.seq.toNat))

/-- One member of a group sends the head flit `h`. -/
def Device.sendMember (d : Device) (k c : Nat) (h : Flit) (dir : Nat) : Device :=
  let e := d.outE (skey k dir (c % 16))
  if e / 2 % 4 = 0 then d.sendFlit k dir c h
  else match d.arrFor k dir c with
    | none => d
    | some a =>
      let f := if a.swap && h.swap then a else { a with data := reduceData (e / 1024 % 2 = 1) a.data h.data }
      ((d.linkRead (entryArr k e) false).consume (entryArr k e) (16 * dir + c % 16) c).sendFlit k dir c f

/-- The group of OUT port o of tile k acts in cycle c (R198, R203, R204). -/
def Device.sendGroup (d : Device) (k o c : Nat) : Device :=
  match ((d.tile k).queue (4 + o)).head? with
  | none => d
  | some h =>
    let g := d.outGroup k o c
    let reds := g.filter fun dir => d.outE (skey k dir (c % 16)) / 2 % 4 = 2
    if c ≤ h.cyc then d
    else match reds.find? fun dir => !(skey k dir (c % 16) ∈ d.scrim.blocked) &&
        (match d.arrFor k dir c with | some a => a.tag != h.flit.tag || a.seq != h.flit.seq | none => false) with
      | some dir => match d.arrFor k dir c with
        | some a => d.misalign k dir c a h.flit
        | none => d
      | none =>
        if g.any fun dir => skey k dir (c % 16) ∈ d.scrim.blocked || d.lentSlot k dir c then d
        else if reds.any fun dir => (d.arrFor k dir c).isNone then d
        else if g.all fun dir => (d.linkOpen k dir c).1 then
          if h.bad = 2 then
            (d.count (R.trw_MEM_UE_COUNT k) 1).tileHalt k 0x0104 1 (wd (4 + o + 65536 * (d.tile k).active)) 0
          else
            let d1 := if h.bad = 1 then d.tileData k (d.tile k).active 0x0102 (wd (4 + o)) else d
            let d2 := d1.modTile k c fun t => (t.takeN (4 + o) 1 c).2
            g.foldl (fun d dir => d.sendMember k c h.flit dir) d2
        else g.foldl (fun d dir => match (d.linkOpen k dir c) with
          | (false, some p) => d.tapeBlocked p c
          | (false, none) => d.egressWait k dir
          | _ => d) d

/-- A FORWARD entry sends its flit (R197). -/
def Device.sendForward (d : Device) (k dir c : Nat) : Device :=
  match d.arrFor k dir c with
  | none => d
  | some f =>
    if d.lentSlot k dir c then d
    else match d.linkOpen k dir c with
      | (true, _) =>
        let key := entryArr k (d.outE (skey k dir (c % 16)))
        ((d.linkRead key false).consume key (16 * dir + c % 16) c).sendFlit k dir c f
      | (false, some p) => d.tapeBlocked p c
      | (false, none) => d.egressWait k dir

/-- The tile and arrival direction into which the ingress adapter of pipeline p sends (R192, R222). -/
def Device.ingressInto (d : Device) (p : Nat) : Nat × Nat :=
  if d.ingKind p = 2 then (64 * d.ingRow p, 3) else (64 * d.ingRow p + 63, 1)

/-- The control-lane slot of the link into tile k from direction dir, where it is horizontal (R210). -/
def laneIn (k dir : Nat) : Option Nat :=
  match dir with
  | 1 => some (12 + (63 - k % 64) % 4)
  | 3 => if k % 64 = 0 then none else some (12 + (k % 64 - 1) % 4)
  | _ => none

/-- Free one ingress buffer, in the order of the tiers it was claimed from. -/
def Bufs.freeOne (b : Bufs) : Bufs :=
  if b.pipe ≠ 0 then { b with pipe := b.pipe - 1 }
  else if b.ten ≠ 0 then { b with ten := b.ten - 1 }
  else { b with shared := b.shared - 1 }

/-- A flit of pipeline p has left the ingress adapter: a buffer is freed with its last byte (R409). -/
def Device.ingressFreed (d : Device) (p : Nat) (f : Flit) : Device :=
  if f.swap then d
  else match d.jobs.find? fun j => j.pipe == p && j.piped && j.entered && j.ing.total != 0 with
    | none => d
    | some j =>
      if f.last then d.modJob j.id fun x => { x with ing := ⟨0, 0, 0⟩ }
      else if f.seq.toNat % 128 = 127 then d.modJob j.id fun x => { x with ing := x.ing.freeOne }
      else d

/-- The ingress adapter of pipeline p sends its next flit in a slot of its circuit (R222, R223). -/
def Device.sendIngress (d : Device) (p c : Nat) : Device :=
  match d.nextIngress p with
  | none => d
  | some (f, d1) =>
    let (k, dir) := d.ingressInto p
    let slot := c % 16
    let key := skey k dir slot
    if (d.consumers k dir slot).isEmpty || laneIn k dir == some slot || d.pausedRegion p || d.pipeResetting p then d
    else if dir = 1 ∧ d.circuitClaims (d.ingRow p) slot then d
    else if !d.arrReady key c then d
    else if d.borderClosed k slot none then match d.regionOf k with
      | some q => if d.taped q then d.tapeBlocked q c else d
      | none => d
    else (d1.wire key f (c + 1)).ingressFreed p f

/-- CIRCUIT channel j of port i delivers its next flit in an RX slot, to column 63 of its row (R546, R548). -/
def Device.sendCircuit (d : Device) (i j c : Nat) : Device :=
  let slot := c % 16
  let k := 64 * d.rf (R.lwl_CH_CFG i j) 2 6 + 63
  let key := skey k 1 slot
  match d.circuitHead i j slot with
  | none => d
  | some f =>
    if laneIn k 1 == some slot || !d.arrReady key c then d
    else if d.borderClosed k slot none then match d.regionOf k with
      | some q => if d.taped q then d.tapeBlocked q c else d
      | none => d
    else (d.wire key f (c + 1)).circuitTaken i j

/-- SLOT_SEND: a LOCAL or FORWARD output entry, an ingress adapter or a CIRCUIT channel sends in the slot of the cycle (R197, R198,
R223, R546). -/
def slotSend (src : SendSrc) (cyc : Nat) (d : Device) : Device :=
  let d0 := d.atCyc cyc
  match src with
  | .adapter p => d0.sendIngress p cyc
  | .circuit i j => d0.sendCircuit i j cyc
  | .tile k dir =>
    let d1 := d0.deadEntry .outEntry k dir (cyc % 16) 0
    let e := d1.outE (skey k dir (cyc % 16))
    if e % 2 = 0 then d1
    else match e / 2 % 4 with
      | 0 => d1.sendGroup k (e / 512 % 2) cyc
      | 1 => d1.sendForward k dir cyc
      | _ => d1

/-- SLOT_SEND (R198). -/
def execSlotSend (src : SendSrc) (cyc : Nat) (s : State) : Host.Outcome State Fault Refusal := onArray (slotSend src cyc) s

/-- REDUCE_SEND: a REDUCE entry acts, with its group (R203, R204). -/
def reduceSend (k dir cyc : Nat) (d : Device) : Device :=
  let d1 := (d.atCyc cyc).deadEntry .outEntry k dir (cyc % 16) 0
  let e := d1.outE (skey k dir (cyc % 16))
  if e % 2 = 1 ∧ e / 2 % 4 = 2 then d1.sendGroup k (e / 512 % 2) cyc else d1

/-- REDUCE_SEND (R203). -/
def execReduceSend (k : Fin 4096) (dir : Fin 4) (cyc : Nat) (s : State) : Host.Outcome State Fault Refusal :=
  onArray (reduceSend k dir cyc) s

/-! ### Arrival and delivery (R196, R197, R200) -/

/-- FLIT_ARRIVAL: a flit on a link occupies its entry from the cycle it is available; with no consumer it is discarded. -/
def flitArrival (k dir slot cyc : Nat) (d : Device) : Device :=
  let d0 := d.atCyc cyc
  let key := skey k dir slot
  match d0.scrim.wires.find? fun w => w.key == key && decide (w.avail ≤ cyc) with
  | none => d0
  | some w =>
    let d1 := d0.scr fun s => { s with wires := s.wires.erase w }
    let l := d1.consumers k dir slot
    if l.isEmpty then
      ((d1.setArr key ⟨none, w.avail, [], some w.avail⟩).count R.scm_ORPHAN_COUNT 1).evtBit 0x80000 18
    else (d1.setArr key ⟨some w.flit, w.avail, l, (d1.arr key).emptied⟩).mend .arrival k (· == key % 64)

/-- FLIT_ARRIVAL (R196). -/
def execFlitArrival (k : Fin 4096) (dir : Fin 4) (slot : Fin 16) (cyc : Nat) (s : State) : Host.Outcome State Fault Refusal :=
  onArray (flitArrival k dir slot cyc) s

/-- FLIT_DELIVERY: a delivery entry takes its flit into an input queue that starts the cycle below 64 flits (R197); during a
pipeline reset the flit is discarded (R240), and in a scrub pause a region slot takes nothing (R587). -/
def flitDelivery (k dir slot cyc : Nat) (d : Device) : Device :=
  let d0 := (d.atCyc cyc).deadEntry .delEntry k dir slot (2 ^ 18)
  let key := skey k dir slot
  let x := d0.arr key
  let r := d0.regionOf k
  let stop := match r with
    | some p => decide (slot < 12) && d0.pausedRegion p
    | none => false
  match x.flit, d0.delE key % 8 with
  | some f, dest + 1 =>
    if x.avail ≤ cyc ∧ 64 ∈ x.left ∧ dest < 4 ∧ !stop ∧ (d0.tile k).occAt dest cyc < 64 then
      let d1 := (d0.linkRead key true).consume key 64 cyc
      if (r.map d1.pipeResetting).getD false then d1 else d1.modTile k cyc fun t => t.push dest f cyc
    else d0
  | _, _ => d0

/-- FLIT_DELIVERY (R197). -/
def execFlitDelivery (k : Fin 4096) (dir : Fin 4) (slot : Fin 16) (cyc : Nat) (s : State) : Host.Outcome State Fault Refusal :=
  onArray (flitDelivery k dir slot cyc) s

/-! ### The weight store (R205 to R209) -/

/-- Slice j. -/
def Device.slice (d : Device) (j : Nat) : Slice := Store.get slice0 d.slices j
/-- Set it. -/
def Device.setSlice (d : Device) (j : Nat) (x : Slice) : Device := { d with slices := Store.set slice0 d.slices j x }
/-- The page of slice j. -/
def wstPage (j : Nat) : Nat := 0x90000 + 0x1000 * j
/-- OWNER of stream i of slice j. -/
def Device.streamOwner (d : Device) (j i : Nat) : Nat := d.rf (R.wst_SCFG j i) 2 7
/-- The tile and arrival direction that stream i of slice j reaches (R206, Table 7.1). -/
def Device.streamInto (d : Device) (j i : Nat) : Nat × Nat :=
  let c := 2 * (j % 32) + d.rf (R.wst_SCFG j i) 1 1
  if j < 32 then (c, 0) else (64 * 63 + c, 2)

/-- Whether stream i of slice j owns the slot of cycle c, runs, and meets READY (R206). -/
def Device.streamReady (d : Device) (j i c : Nat) : Bool :=
  let slot := c % 16
  let (k, dir) := d.streamInto j i
  let owner := d.streamOwner j i
  d.rf (R.wst_SCFG j i) 0 1 = 1 && d.rf (R.wst_SCFG j i) (16 + slot) 1 = 1 && d.rf (R.wst_SLEN j i) 0 18 ≠ 0 &&
    !(i ∈ (d.slice j).stopped) && !(decide (owner < 64) && d.pausedRegion owner) && d.arrReady (skey k dir slot) c &&
    !d.borderClosed k slot none

/-- Stream i sends its current line in cycle c and advances (R206). -/
def Device.streamSend (d : Device) (j i c : Nat) (data : BitVec 256) : Device :=
  let (k, dir) := d.streamInto j i
  let cur := d.rf (R.wst_SPOS j i) 0 17
  let first := d.rf (R.wst_SADDR j i) 0 17
  let fin := first + d.rf (R.wst_SLEN j i) 0 18
  let f : Flit := ⟨0, BitVec.ofNat 12 (cur - first), data⟩
  let d1 := d.wire (skey k dir (c % 16)) f (c + 1)
  if cur + 1 < fin then d1.setN (R.wst_SPOS j i) (cur + 1)
  else if d.rf (R.wst_SCFG j i) 9 1 = 1 then d1.setN (R.wst_SPOS j i) first
  else (d1.setN (R.wst_SPOS j i) (fin % 2 ^ 17)).setSlice j { d.slice j with stopped := i :: (d.slice j).stopped }

/-- The errors of a line read for the streams `l` (R209, R596). -/
def Device.streamMarks (d : Device) (j line : Nat) (l : List Nat) : Device :=
  let ms := d.marks .wst j (4 * line) 4
  let d1 := (ms.filter fun u => !u.ue).foldl (fun d _ => d.countCe (R.wst_CE_COUNT j)) d
  if ms.any (·.ue) then
    let mask := l.foldl (fun m i => m + 2 ^ i) 0
    let cls := b2n (l.any fun i => d.streamOwner j i = 64)
    let d2 := ((d1.errAs cls (wstPage j) 0x0100 (wd line) (wd mask)).count (R.wst_UE_COUNT j) 1).evtBit (wstPage j) 18
    ((l.map (d.streamOwner j)).filter (· < 64)).dedup.foldl (fun d p => d.pipeFaultLog p 7 0) d2
  else d1

/-- STREAM_READ: slice j in cycle c (R206, R207). -/
def streamRead (j cyc : Nat) (d : Device) : Device :=
  let d0 := d.atCyc cyc
  match (List.range 8).filter fun i => d0.streamReady j i cyc with
  | [] => d0
  | i0 :: rest =>
    let line := d0.rf (R.wst_SPOS j i0) 0 17
    let l := i0 :: rest.filter fun i => d0.rf (R.wst_SPOS j i) 0 17 = line
    let d1 := d0.count64 (R.wst_READS_LO j) 1
    let d2 := if l.length > 1 then d1.count64 (R.wst_MERGED_LO j) 1 else d1
    let d3 := if l.length < rest.length + 1 then (d2.count (R.wst_COLLISION_COUNT j) 1).evtBit (wstPage j) 17 else d2
    let data := BitVec.ofNat 256 (Memory.rd (d3.slice j).bytes (32 * line) 32)
    l.foldl (fun d i => d.streamSend j i cyc data) (d3.streamMarks j line l)

/-- STREAM_READ (R206). -/
def execStreamRead (j : Fin 64) (cyc : Nat) (s : State) : Host.Outcome State Fault Refusal := onArray (streamRead j cyc) s

/-- A write of FILL_CTRL of slice j (R208, R405). -/
def wstFillGo (j : Nat) (p : Port) (v : Word) (d : Device) : Device :=
  if fld v 0 1 = 0 ∨ d.rf (R.wst_FILL_STATUS j) 0 1 = 1 then d
  else
    let a := d.rn64 (R.wst_FILL_HBM_LO j)
    let line := d.rf (R.wst_FILL_ADDR j) 0 17
    let n := d.rf (R.wst_FILL_LEN j) 0 18
    if n = 0 then (d.setN (R.wst_FILL_STATUS j) 2).evtBit (wstPage j) 16
    else if 131072 < line + n then d.errValue 0x0003 p (R.wst_FILL_CTRL j) v
    else if !d.inOperator a (32 * n) then (d.setN (R.wst_FILL_STATUS j) 4).areaRange a
    else (d.setN (R.wst_FILL_STATUS j) 1).setSlice j { d.slice j with fill := some ⟨line, n, a⟩ }

/-- WST_FILL_GO (R208). -/
def execWstFillGo (j : Fin 64) (q : Req) (s : State) : Host.Outcome State Fault Refusal :=
  onDev (fun d => d.writeAt q (R.wst_FILL_CTRL j) (wstFillGo j q.port q.data)) s

/-- Copy `n` lines from HBM into slice j (R208). -/
def Device.fillLines (d : Device) (j line n a : Nat) : Device :=
  let x := d.slice j
  (d.setSlice j { x with bytes := Memory.wrBytes x.bytes (32 * line) (d.hbmBytesAt a (32 * n)) }).mend .wst j
    fun w => 4 * line ≤ w && w < 4 * (line + n)

/-- WST_FILL_DONE: the fill of slice j ends; an uncorrectable HBM word stops it with FILL_FAULT (R208, R403, R219). -/
def wstFillDone (j cyc : Nat) (d : Device) : Device :=
  let d0 := d.atCyc cyc
  match (d0.slice j).fill with
  | none => d0
  | some f =>
    let (bad, d1) := d0.hbmRead f.addr (32 * f.left)
    let d2 := d1.setSlice j { d1.slice j with fill := none }
    match bad with
    | none => ((d2.fillLines j f.line f.left f.addr).setN (R.wst_FILL_STATUS j) 2).evtBit (wstPage j) 16
    | some w =>
      let n := (8 * w - f.addr) / 32
      ((d2.fillLines j f.line n f.addr).setN (R.wst_FILL_STATUS j) 4).err (wstPage j) 0x0101 (wd (f.line + n)) 0

/-- WST_FILL_DONE (R208). -/
def execWstFillDone (j : Fin 64) (cyc : Nat) (s : State) : Host.Outcome State Fault Refusal := onArray (wstFillDone j cyc) s

/-! ### The control lane (R210 to R213) -/

/-- Whether a use of a SHARE slot stands: FAST of the region, a region slot, VALID and SHARE of the entry (R213). -/
def Device.shareOk (d : Device) (k dir slot : Nat) : Option Nat :=
  match d.regionOf k with
  | none => none
  | some r =>
    let e := d.outE (skey k dir slot)
    if d.bit64 R.scm_FAST_LO r && decide (slot < 12) && e % 2 == 1 && e / 2048 % 2 == 1 then some r else none

/-- A SHARE slot is lent for its occurrence of cycle c or after: the frames in flight are debited 16 stage cycles, overlapping
uses once (R213, R258). -/
def Device.lend (d : Device) (c k dir slot : Nat) : Device :=
  match d.shareOk k dir slot with
  | none => d
  | some r =>
    let at_ := c + (slot + 16 - c % 16) % 16
    let fin := Store.get zeroN d.scrim.shareEnd r
    let n := at_ + 16 - max at_ fin
    let d1 := (d.settle r).debit r 5 n fun _ => true
    let x := d1.pipe r
    let d2 := d1.setPipe r { x with winDebit := x.winDebit + n }
    (d2.scr fun s => { s with
        lent := (skey k dir slot, at_) :: s.lent.filter fun q => decide (c ≤ q.2)
        shareEnd := Store.set zeroN s.shareEnd r (at_ + 16) }).count R.scm_SHARE_TAKEN_COUNT 1

/-- TILE_PAGE_ACCESS: the SCM controller sends an access of a requester over the lane of its tile's row, when no access of
that requester to another row is outstanding (R210, R212); `shares` are the region slots its flits use (R213). -/
def tilePageAccess (port : Port) (k : Nat) (shares : List (Fin 4096 × Fin 4 × Fin 16)) (cyc : Nat) (d : Device) : Device :=
  let d0 := d.atCyc cyc
  if d0.scrim.lane.any fun a => a.port == port && a.tile / 64 != k / 64 then d0
  else if !d0.bit64 R.pow_BAY_ON_LO (bayOf k) then d0
  else
    let d1 := (d0.scr fun s => { s with lane := s.lane ++ [⟨port, k, cyc⟩] }).count R.scm_CTL_ACCESSES 1
    shares.foldl (fun d s => d.lend cyc s.1 s.2.1 s.2.2) d1

/-- TILE_PAGE_ACCESS (R210). -/
def execTilePageAccess (port : Port) (k : Fin 4096) (shares : List (Fin 4096 × Fin 4 × Fin 16)) (cyc : Nat) (s : State) :
    Host.Outcome State Fault Refusal := onArray (tilePageAccess port k shares cyc) s

/-- TILE_ACCESS_DONE: the oldest access to tile k completes; the longest access is kept (R211). -/
def tileAccessDone (k cyc : Nat) (d : Device) : Device :=
  let d0 := d.atCyc cyc
  match d0.scrim.lane.find? (·.tile == k) with
  | none => d0
  | some a =>
    let d1 := d0.scr fun s => { s with lane := s.lane.erase a }
    d1.setN R.scm_CTL_MAX_LAT (max (d1.rn R.scm_CTL_MAX_LAT) (min 65535 (cyc - a.cyc)))

/-- TILE_ACCESS_DONE (R211). -/
def execTileAccessDone (k : Fin 4096) (cyc : Nat) (s : State) : Host.Outcome State Fault Refusal := onArray (tileAccessDone k cyc) s

/-! ### Stencil loads (R216, R217) -/

/-- The control-lane slot of an output of tile k (R210). -/
def laneOut (k dir : Nat) : Option Nat :=
  match dir with
  | 1 => some (12 + k % 64 % 4)
  | 3 => if k % 64 = 0 then none else some (12 + (64 - k % 64) % 4)
  | _ => none

/-- The entries that a section's bytes give for a tile: `n` slots from slot `s0`, outputs then deliveries (Table 10.3). -/
def tileEntries (l : List Byte) (k s0 n : Nat) : List (Nat × Nat) :=
  let outs := (List.range 4).flatMap fun dir => (List.range n).map fun s =>
    (skey k dir (s0 + s), fromLe ((l.drop (2 * (n * dir + s))).take 2))
  let dels := (List.range 4).flatMap fun dir => (List.range n).map fun s =>
    (skey k dir (s0 + s) + 2 ^ 18, fromLe ((l.drop (8 * n + n * dir + s)).take 1))
  outs ++ dels

/-- The entries and PIPE bits of a base section (Table 10.3, BASE_STENCIL). -/
def baseEntries (l : List Byte) : List (Nat × Nat) × List (Nat × Nat) :=
  let per := chunk 52 4096 l
  (per.zipIdx.flatMap fun x => tileEntries x.1 x.2 12 4,
    per.zipIdx.flatMap fun x => (List.range 4).map fun dir => (4 * x.2 + dir, fromLe ((x.1.drop (48 + dir)).take 1) % 2))

/-- The entries of a region section for its tile records (REGION_STENCIL). -/
def regionEntries (l : List Byte) (tiles : List Nat) : List (Nat × Nat) :=
  ((chunk 144 tiles.length l).zip tiles).flatMap fun x => tileEntries x.1 x.2 0 12

/-- Where the entries of a section stand over those in force. -/
def entryUnder (d : Device) (es : List (Nat × Nat)) (key : Nat) : Nat :=
  match es.find? fun e => e.1 == key with
  | some e => e.2
  | none => if key < 2 ^ 18 then Store.get zeroN d.scrim.outE key else Store.get zeroN d.scrim.delE (key - 2 ^ 18)

/-- Whether the arrival entry has a consumer under a section. -/
def consumedUnder (d : Device) (es : List (Nat × Nat)) (k dir slot : Nat) : Bool :=
  entryUnder d es (skey k dir slot + 2 ^ 18) % 8 != 0 || (List.range 64).any fun o =>
    let e := entryUnder d es (64 * k + o)
    e % 2 == 1 && (e / 2 % 4 == 1 || e / 2 % 4 == 2) && e / 8 % 4 == dir && e / 32 % 16 == slot

/-- Whether the bays of tile k are usable (R215). -/
def Device.bayUsable (d : Device) (k : Nat) : Bool := !d.bit64 R.scm_UNUSABLE_BAYS_LO (bayOf k)

/-- The first check of Table 7.4 that an entry fails, with its reason of Table 2.2. -/
def Device.stencilFails (d : Device) (region : Option Nat) (es : List (Nat × Nat)) (ke : Nat × Nat) : Option (Nat × Nat) :=
  let out := decide (ke.1 < 2 ^ 18)
  let key := ke.1 % 2 ^ 18
  let e := ke.2
  let k := key / 64
  let dir := key / 16 % 4
  let slot := key % 16
  let transit := decide (12 ≤ slot)
  let valid := e % 2 == 1
  let kind := e / 2 % 4
  let adir := e / 8 % 4
  let aslot := e / 32 % 16
  let lane := if out then laneOut k dir == some slot && valid else laneIn k dir == some slot && e != 0
  let outside := fun n => match region with
    | some r => d.regionOf n != some r
    | none => false
  let fwd := out && valid && (kind == 1 || kind == 2)
  if (match region with | some _ => transit || outside k | none => !transit) then some (1, 2)
  else if lane then some (2, 2)
  else if fwd && (transit != decide (12 ≤ aslot) || (!transit && (neighbour k adir).any outside)) then some (3, 2)
  else if out && valid && !transit && (neighbour k dir).any outside then some (4, 2)
  else if out && ((valid && kind == 3) || e / 4096 % 16 != 0 || (transit && valid && kind == 2) || (transit && e / 2048 % 2 == 1) ||
      (valid && dir % 2 == 0 && (neighbour k dir).isNone)) then some (5, 1)
  else if !out && 4 < e then some (5, 1)
  else if out && valid && (neighbour k dir).any (fun n => !consumedUnder d es n (opp dir) slot) then some (6, 2)
  else if !d.bayUsable k then some (6, 4)
  else match region with
    | some r => if d.pipeState r = 0 ∨ d.pipeState r = 6 then none else some (7, 3)
    | none => none

/-- The first failing entry of a section in ascending order of tile, table, direction and slot, with its check and reason. -/
def Device.stencilCheck (d : Device) (region : Option Nat) (es : List (Nat × Nat)) : Option (Nat × Nat × Nat) :=
  let fails := es.filterMap fun e => (d.stencilFails region es e).map fun r => (e.1, r.1, r.2)
  let rank := fun (key : Nat) => (key % 2 ^ 18 / 64) * 128 + key / 2 ^ 18 * 64 + key % 64
  fails.foldl (fun m x => match m with
    | none => some x
    | some y => if rank x.1 < rank y.1 then some x else some y) none

/-- Write a section's entries: what was uncorrectable there is restored. -/
def Device.writeEntries (d : Device) (es pipes : List (Nat × Nat)) : Device :=
  let d1 := d.scr fun s => { s with
    outE := (es.filter fun e => decide (e.1 < 2 ^ 18)).foldl (fun m e => Store.set zeroN m e.1 e.2) s.outE
    delE := (es.filter fun e => decide (2 ^ 18 ≤ e.1)).foldl (fun m e => Store.set zeroN m (e.1 - 2 ^ 18) e.2) s.delE
    pipeReg := pipes.foldl (fun m e => Store.set zeroN m e.1 e.2) s.pipeReg
    dead := s.dead.filter fun k => !(es.any fun e => e.1 == k) }
  { d1 with upsets := d1.upsets.filter fun u =>
      !((u.mem == .outEntry && es.any fun e => e.1 == 64 * u.unit + u.word) ||
        (u.mem == .delEntry && es.any fun e => e.1 == 64 * u.unit + u.word + 2 ^ 18)) }

/-- A refused stencil load (R216). -/
def Device.stencilRefused (d : Device) (reason fail : Nat) : Device :=
  (((d.setN R.scm_LOAD_STATUS (4 + 16 * reason)).setN R.scm_LOAD_FAIL fail).err 0x80000 0x0101 (wd reason) 0).evtBit 0x80000 17

/-- A write of SCM LOAD_CTRL (R195, R216). -/
def stencilLoadGo (v : Word) (d : Device) : Device :=
  let d0 := d.setN R.scm_LOAD_CTRL (fld v 0 1 + 256 * fld v 8 6)
  let st := d0.rf R.scm_LOAD_STATUS 0 2
  if fld v 31 1 = 0 ∨ st = 1 ∨ st = 2 then d0
  else
    let src := d0.rn64 R.scm_LOAD_SRC_LO
    let region := if fld v 0 1 = 0 then none else some (fld v 8 6)
    let tiles := match region with
      | some r => (d0.regionTiles r).filter fun k => d0.nCtx k ≠ 0
      | none => []
    let n := if region.isNone then 52 * 4096 else 144 * tiles.length
    if !d0.inOperator src n then (d0.areaRange src).stencilRefused 1 0
    else
      let d1 := (d0.hbmRead src n).2
      let l := d1.hbmBytesAt src n
      let (es, pipes) := if region.isNone then baseEntries l else (regionEntries l tiles, [])
      if region.isNone ∧ d1.rf R.skm_RENDER_STATE 0 2 ≠ 2 then d1.stencilRefused 3 (7 * 2 ^ 20)
      else match d1.stencilCheck region es with
        | some (key, chk, reason) =>
          let k := key % 2 ^ 18
          d1.stencilRefused reason (k / 64 + 4096 * (key / 2 ^ 18) + 2 ^ 13 * (k / 16 % 4) + 65536 * (k % 16) + 2 ^ 20 * chk)
        | none =>
          (d1.scr fun s => { s with load := some ⟨region, es, pipes, d1.now.cyc⟩ }).setN R.scm_LOAD_STATUS 2

/-- STENCIL_LOAD_GO (R216). -/
def execStencilLoadGo (q : Req) (s : State) : Host.Outcome State Fault Refusal :=
  onDev (fun d => d.writeAt q R.scm_LOAD_CTRL (stencilLoadGo q.data)) s

/-- STENCIL_LOAD_DONE: the section's entries stand (R217). -/
def stencilLoadDone (cyc : Nat) (d : Device) : Device :=
  let d0 := d.atCyc cyc
  match d0.scrim.load with
  | none => d0
  | some x =>
    let d1 := d0.writeEntries x.entries x.pipes
    ((d1.scr fun s => { s with load := none }).setN R.scm_LOAD_STATUS 3).evtBit 0x80000 16

/-- STENCIL_LOAD_DONE (R217). -/
def execStencilLoadDone (cyc : Nat) (s : State) : Host.Outcome State Fault Refusal := onArray (stencilLoadDone cyc) s

/-- A write of STN_SEL (Table 7.8). -/
def stencilRead (v : Word) (d : Device) : Device :=
  let d0 := d.setReg R.scm_STN_SEL (v &&& 0x010F3FFF#32)
  if fld v 31 1 = 1 then
    (d0.scr fun s => { s with readback := some d0.now.cyc }).setN R.scm_STN_DATA (2 ^ 30)
  else d0

/-- STENCIL_READ (R218). -/
def execStencilRead (q : Req) (s : State) : Host.Outcome State Fault Refusal :=
  onDev (fun d => d.writeAt q R.scm_STN_SEL (stencilRead q.data)) s

/-- STENCIL_READ_DONE: the selected entry, with PIPE of the output of its direction (R218). -/
def stencilReadDone (cyc : Nat) (d : Device) : Device :=
  let d0 := d.atCyc cyc
  if d0.scrim.readback.isNone then d0
  else
    let k := d0.rf R.scm_STN_SEL 0 12
    let dir := d0.rf R.scm_STN_SEL 12 2
    let key := skey k dir (d0.rf R.scm_STN_SEL 16 4)
    let e := if d0.rf R.scm_STN_SEL 24 1 = 0 then Store.get zeroN d0.scrim.outE key else Store.get zeroN d0.scrim.delE key
    (d0.scr fun s => { s with readback := none }).setN R.scm_STN_DATA
      (e % 65536 + 65536 * d0.pipeOf k dir + 2 ^ 31)

/-- STENCIL_READ_DONE (R218). -/
def execStencilReadDone (cyc : Nat) (s : State) : Host.Outcome State Fault Refusal := onArray (stencilReadDone cyc) s

end Sys2Proof.Machine
end

