-- ==== Sys2Proof/Machine/PipeCore.lean ====
section
/-! DEFINITION. Machine/PipeCore.lean: the skim record and swap tokens at ingress, and the pipeline reset, as shared
operations (R225, R227, R240, R292 to R299). -/
namespace Sys2Proof.Machine

/-! ### Skim record and library (R292, R294) -/

/-- SKIM_RECORD of pipeline p. -/
def skimRecord (p : Nat) : Nat := R.dad_SKIM_RECORD (p / 16) (p % 16)
/-- The skim record becomes invalid. -/
def Device.noRecord (d : Device) (p : Nat) : Device := d.setN (skimRecord p) 0
/-- The skim record holds x. -/
def Device.setRecord (d : Device) (p x : Nat) : Device := d.setN (skimRecord p) (x % 2 ^ 14 + 2 ^ 31)
/-- Whether a frame of skim x needs a token first (R292). -/
def Device.needsToken (d : Device) (p x : Nat) : Bool := d.rf (skimRecord p) 31 1 = 0 || d.rf (skimRecord p) 0 14 ≠ x

/-- A job of pipeline p found its skim missing (R294, R299). -/
def Device.skimMissing (d : Device) (id p : Nat) : Device :=
  (d.finishNow id 0x12).count (R.dad_SKIM_MISSING_COUNT (p / 16) (p % 16)) 1

/-- The shape hash of the live section of pipeline p. -/
def Device.liveHash (d : Device) (p : Nat) : Nat := d.rn (R.skm_HASH_LO p) + 2 ^ 32 * d.rn (R.skm_HASH_HI p)

/-- An entry of the skim library. -/
def Device.libAt (d : Device) (x : Nat) : LibEntry := Store.get lib0 d.lib x

/-- The lookup of R294: skim x for a job of tenant t in pipeline p. -/
def Device.lookup (d : Device) (p x t : Nat) : Bool :=
  x == 0 || ((d.libAt x).st == 2 && (d.libAt x).hash == d.liveHash p && ((d.libAt x).owner.isNone || (d.libAt x).owner == some t))

/-! ### Tokens at ingress (R285, R292, R299) -/

/-- Whether R299 stops a token naming x at pipeline p: a section with hot slots and FILL_RATE 0, and no slot holds x VALID. -/
def Device.tokenBarred (d : Device) (p x : Nat) : Bool :=
  d.pipeSlots p ≠ 0 && d.rn (R.skm_FILL_RATE p) == 0 &&
    match d.slotOf p x with
    | some s => d.slotState p s != 2
    | none => true

/-- A token naming x has been sent: x is the skim most recently named (R286), and a skim no slot holds VALID is requested
(R285). -/
def Device.nameSkim (d : Device) (p x : Nat) : Device :=
  if d.pipeSlots p = 0 then d
  else
    let n := d.slotClock + 1
    let d1 := { d with slotClock := n, slotUse := Store.set zeroN d.slotUse (16384 * p + x) n }
    match d1.slotOf p x with
    | some s => if d1.slotState p s = 2 then d1 else d1.requestFill p x
    | none => d1.requestFill p x

/-- The token flit naming x (R112, R292). -/
def tokenFlit (x : Nat) : Flit := ⟨4, 0, BitVec.ofNat 256 x⟩

/-- The ingress adapter sends a token naming x, for a SWAP job or ahead of a frame (R292, R293). -/
def Device.sendToken (d : Device) (p x : Nat) (swap : Option Nat) : Device :=
  let y := d.pipe p
  let d1 := (d.nameSkim p x).setPipe p { y with
    ingOut := y.ingOut ++ [tokenFlit x], tokens := y.tokens ++ [⟨x, swap, y.frameNum⟩] }
  (d1.setRecord p x).count (R.dad_TOKENS_SENT (p / 16) (p % 16)) 1

/-! ### The pipeline reset (R240) -/

/-- A tile of a region after its pipeline reset: no flit, no result, every context at its first op with no active slot. -/
def Device.clearTile (d : Device) (c k : Nat) : Device :=
  let d1 := d.modTile k c fun t =>
    { t with
      active := 0
      prev := 0
      free := 0
      busy := 0
      switchEnd := 0
      halted := false
      fillWait := none
      ctxs := []
      results := []
      queues := []
      moved := [] }
  let m := d1.tmemOf k
  let d2 := d1.setTmem k { m with acc := [], wb := [], ptf := [] }
  let d3 := { d2 with upsets := d2.upsets.filter fun u => !(u.unit == k && (u.mem == .acc || u.mem == .wbank)) }
  (List.range 8).foldl (fun d i => d.setN (R.trw_FRAME_ORD k i) 0) d3

/-- Whether a Scrim key names a region slot of one of the tiles. -/
def regionKey (tiles : List Nat) (key : Nat) : Bool := decide (key % 16 < 12) && (key / 64) ∈ tiles

/-- The region-slot arrival entries of the tiles and the flits on their way to them are discarded (R240). -/
def Device.clearArrivals (d : Device) (tiles : List Nat) : Device :=
  d.scr fun s => { s with
    arr := Store.wipe (regionKey tiles) s.arr
    wires := s.wires.filter fun w => !regionKey tiles w.key
    blocked := s.blocked.filter fun key => !((key / 64) ∈ tiles) }

/-- Steps 3 and 4 of R240 for region p. -/
def Device.clearRegion (d : Device) (p : Nat) : Device :=
  let tiles := d.regionTiles p
  (tiles.foldl (fun d k => d.clearTile d.now.cyc k) d).clearArrivals tiles

/-- What SCH and the adapters of pipeline p hold after steps 1 and 5 of R240. -/
def Pipe.emptied (x : Pipe) : Pipe :=
  { x with
    ingQ := []
    egrQ := []
    tokens := []
    lastFirst := none
    frameNum := 0
    ingOut := []
    egrIn := []
    openF := none
    drainTick := none
    drainMissed := false
    fills := []
    srcOpen := none
    starve := none }

/-- FAULT and FAULT_INFO are cleared (R238). -/
def Device.clearFault (d : Device) (p : Nat) : Device := (d.setF (R.sch_PIPE_STATE p) 8 1 0).setN (R.sch_FAULT_INFO p) 0

/-- A pipeline reset begins (R240): the adapters close, every job of the pipeline completes RESET_LOST, the region's tiles are
cleared, FAULT, the frame number, the skim record and the buffers are cleared; RESETTING is set. -/
def Device.resetPipe (d : Device) (p : Nat) : Device :=
  let d1 := ((d.settle p).egrWaitEnd p).setF (R.sch_PIPE_STATE p) 9 1 1
  let d2 := d1.forJobs (fun j => j.piped && j.pipe == p) fun d j => d.finishNow j.id 0x3F
  let d3 := d2.clearRegion p
  let d4 := d3.setPipe p { (d3.pipe p).emptied with resetCyc := some d3.now.cyc }
  (d4.clearFault p).noRecord p

/-! ### Register clears of the SCH page -/

/-- SCHED_CMD.CLEAR_COUNTS (chapter 9, Edges). -/
def Device.clearSchCounts (d : Device) (p : Nat) : Device :=
  d.zeroRegs ([R.sch_ADMITTED_LO p, R.sch_ADMITTED_HI p, R.sch_RELEASED_LO p, R.sch_RELEASED_HI p, R.sch_TOO_FAST_COUNT p,
    R.sch_LATE_COUNT p, R.sch_DROPPED_COUNT p, R.sch_STALLED_REF_COUNT p, R.sch_NOPRED_COUNT p, R.sch_EVQ_RETRY_COUNT p,
    R.sch_LATE_TRIG_COUNT p, R.sch_WORST_MARGIN_CYC p] ++
    ((List.range 8).map fun k => [R.sch_LEDGER_LO p k, R.sch_LEDGER_HI p k]).flatten)

/-- A write of SCHED_CMD. -/
def Device.schedCmd (d : Device) (p : Nat) (v : Word) : Device :=
  let d1 := if fld v 0 1 = 1 then d.clearHold p else d
  if fld v 1 1 = 1 then d1.clearSchCounts p else d1

end Sys2Proof.Machine
end

