-- ==== Sys2Proof/Machine/SkimCore.lean ====
section
/-! DEFINITION. Machine/SkimCore.lean: share records, the choice of a slot, eviction and fills as shared operations (R269,
R270, R284 to R290). -/
namespace Sys2Proof.Machine

/-! ### Share records (R269, R270) -/

/-- Field of a byte list: `n` bytes at offset `o`, little-endian (R6). -/
def at_ (l : List Byte) (o n : Nat) : Nat := fromLe ((l.drop o).take n)

/-- One share record: REL, Hawk lines of 128 bytes and activation tables of 512 bytes, as their bytes. -/
structure Share where
  rel : Nat
  lines : Nat
  tables : Nat
  resv : Nat
  hawk : List Byte
  act : List Byte
  deriving DecidableEq, Repr

/-- Share records of a body; the fuel bounds their number. None: the body ends inside a record. -/
def shares : Nat → List Byte → Option (List Share)
  | _, [] => some []
  | 0, _ => none
  | fuel + 1, l =>
    let n := at_ l 2 2
    let t := at_ l 4 1
    let len := 8 + 128 * n + 512 * t
    if l.length < len then none
    else (shares fuel (l.drop len)).map fun r =>
      ⟨at_ l 0 2, n, t, at_ l 5 3, (l.drop 8).take (128 * n), (l.drop (8 + 128 * n)).take (512 * t)⟩ :: r

/-- Tile REL of a region: its logical number (R269). -/
def relTile (brow bcol ncols rel : Nat) : Nat := 64 * (8 * brow + rel / (8 * ncols)) + 8 * bcol + rel % (8 * ncols)

/-- Tile REL of region p. -/
def Device.relTile (d : Device) (p rel : Nat) : Nat :=
  let v := d.reg (R.sch_REGION p)
  Sys2Proof.Machine.relTile (fld v 0 3) (fld v 4 3) (fld v 12 4) rel

/-- Bytes padded with 0 to `n`. -/
def padTo (n : Nat) (l : List Byte) : List Byte := l ++ List.replicate (n - l.length) 0

/-- Write one tile's share of a skim into slot s (R270): the lines with 0 beyond them, the tables with 0 beyond them. -/
def Device.writeShare (d : Device) (k s : Nat) (x : Share) : Device :=
  let m := d.tmemOf k
  let a := 128 * d.slotFirst k s
  let h := padTo (128 * d.slotLines k) x.hawk
  let b := 512 * d.rf (R.trw_SLOT_ACT k s) 0 5
  let t := padTo (512 * d.rf (R.trw_SLOT_ACT k s) 8 4) x.act
  let d1 := d.setTmem k { m with hawk := Memory.wrBytes m.hawk a h, act := Memory.wrBytes m.act b t }
  (d1.mend .hawk k fun w => a / 8 ≤ w && w < (a + h.length) / 8).mend .act k fun w => b / 8 ≤ w && w < (b + t.length) / 8

/-- Write every share of a body into slot s of region p. -/
def Device.writeShares (d : Device) (p s : Nat) (body : List Byte) : Device :=
  ((shares body.length body).getD []).foldl (fun d x => d.writeShare (d.relTile p x.rel) s x) d

/-! ### Slots (R284, R286) -/

/-- Rule 1: the lowest unpinned INVALID slot. -/
def Device.freeSlot (d : Device) (p : Nat) : Option Nat :=
  (List.range (d.pipeSlots p)).find? fun s => d.slotState p s = 0 ∧ !d.slotPinned p s

/-- The order of the last token of pipeline p that named skim x, 0 if none has. -/
def Device.lastNamed (d : Device) (p x : Nat) : Nat := Store.get zeroN d.slotUse (16384 * p + x)

/-- Rule 2: the unpinned VALID slot whose skim was least recently named, the lowest of equals. -/
def Device.oldSlot (d : Device) (p : Nat) : Option Nat :=
  ((List.range (d.pipeSlots p)).filter fun s => d.slotState p s = 2 ∧ !d.slotPinned p s).foldl
    (fun (m : Option Nat) s => match m with
      | none => some s
      | some x => if d.lastNamed p (d.slotSkim p s) < d.lastNamed p (d.slotSkim p x) then some s else m) none

/-- Rule 3: the lowest unpinned WARMING slot. -/
def Device.warmSlot (d : Device) (p : Nat) : Option Nat :=
  (List.range (d.pipeSlots p)).find? fun s => d.slotState p s = 3 ∧ !d.slotPinned p s

/-- A slot becomes INVALID in every tile, and what was filling it stops. -/
def Device.dropSlot (d : Device) (p s : Nat) : Device :=
  let d1 := d.setSlot p s (d.slotSkim p s) 0
  { d1 with fills := d1.fills.filter fun f => !(f.pipe == p && f.slot == s) }

/-- A slot is evicted (R286): counted. -/
def Device.evict (d : Device) (p s : Nat) : Device := (d.dropSlot p s).count R.skm_EVICTIONS 1

/-- A fill or warm-up of slot s of pipeline p with skim x begins (R286, R289). -/
def Device.beginFill (d : Device) (p s x sort c : Nat) : Device :=
  let d1 := d.setSlot p s x (if sort = 0 then 1 else 3)
  { d1 with
    fills := d1.fills ++ [⟨p, s, x, sort, c⟩] }

/-- The fill or warm-up in progress in slot s of pipeline p. -/
def Device.fillAt (d : Device) (p s : Nat) : Option Fill := d.fills.find? fun f => f.pipe = p ∧ f.slot = s

/-- Every share of a fill is written: the slot becomes VALID (R287). -/
def Device.fillDone (d : Device) (f : Fill) : Device :=
  let d1 := (d.writeShares f.pipe f.slot (d.libAt f.skim).body).setSlot f.pipe f.slot f.skim 2
  let d2 := { d1 with fills := d1.fills.erase f }
  d2.count (if f.sort = 0 then R.skm_FILLS else if f.sort = 1 then R.skm_WARMUPS else R.skm_RA_WARMUPS) 1

/-- Every FILLING and WARMING slot of pipeline p becomes INVALID (chapter 10, Edges). -/
def Device.stopFills (d : Device) (p : Nat) : Device :=
  let d1 := (List.range 16).foldl (fun d s => if d.slotState p s = 1 ∨ d.slotState p s = 3 then d.dropSlot p s else d) d
  { d1 with fillReqs := d1.fillReqs.filter fun r => !(r.pipe == p) }

/-- Whether skim x is in the library for pipeline p's live section (R271). -/
def Device.libMatches (d : Device) (p x : Nat) : Bool := (d.libAt x).st == 2 && (d.libAt x).hash == d.liveHash p

/-- A run-ahead warm-up (R289): rule 1 only, dropped silently otherwise; nothing for a skim a slot holds. True: started. -/
def Device.runaheadWarm (d : Device) (p x : Nat) : Bool × Device :=
  if x = 0 ∨ (d.slotOf p x).isSome ∨ !d.libMatches p x ∨ d.pipeState p = 0 ∨ d.pipeState p = 5 ∨ d.pipeState p = 6 then (false, d)
  else match d.freeSlot p with
    | some s => (true, d.beginFill p s x 2 d.now.cyc)
    | none => (false, d)

end Sys2Proof.Machine
end

