-- ==== Sys2Proof/Machine/QueueCore.lean ====
section
/-! DEFINITION. Machine/QueueCore.lean: windows, descriptor checks, hand-off to the job tracker and service turns as shared
operations (chapters 13 and 14; R391 to R399). -/
namespace Sys2Proof.Machine

/-! ### Address windows (R393) -/

/-- Window w of tenant t maps [a, a + n) with permission bits `need`. -/
def Device.winHit (d : Device) (t w a n need : Nat) : Option Nat :=
  let lo := d.rn64 (R.ten_WBASE_LO t w)
  let len := d.rn (R.ten_SIZE t w) * 4096
  let perm := d.rf (R.ten_PERM t w) 0 2
  if len ≠ 0 ∧ lo ≤ a ∧ a - lo < len ∧ n ≤ len - (a - lo) ∧ perm &&& need = need then
    some (d.rn64 (R.ten_HOST_LO t w) + (a - lo))
  else none

/-- win_map: the host address of a byte range of tenant t; a range of no bytes maps. -/
def Device.winMap (d : Device) (t a n need : Nat) : Option Nat :=
  if n = 0 then some 0 else (List.range 16).findSome? fun w => d.winHit t w a n need

/-! ### Failed reads (R329) -/

/-- A read of function f ends in failure: the count and the record of HIF page 3. -/
def Device.cplFail (d : Device) (f cause addr : Nat) : Device :=
  (d.count R.hif_CPL_FAIL_COUNT 1).err 0x7000 0x0100 (wd (f + 65536 * cause)) (wd addr)

/-- A host read of function f at `a`: with ATS enabled, an address the translation cache does not hold is also requested
(R328). -/
def Device.hostRead (d : Device) (f a n : Nat) : Device :=
  let pg := a / 4096
  let d1 := if (d.fn f).atsEn ∧ !d.hif.ats.any (fun e => e == (f, pg)) then
      { d with hif := { d.hif with ats := ((f, pg) :: d.hif.ats).take 2048 } }.count R.hif_ATS_REQUESTS 1
    else d
  d1.emit (.hostRead f a n)

/-! ### Descriptor checks (R346 to R350, Table 13.3) -/

/-- Checks 1 to 6 on an entry; `open_`: a chain is open. Answers the first that fails. -/
def entryCheck (e : Desc) (open_ : Bool) : Option Nat :=
  let k := e.kind
  let cont := k == 1 || k == 2
  if fld e.ctrl 31 1 = 1 ∨ 6 ≤ k then some 1
  else if e.first ∧ cont then some 2
  else if !e.first ∧ (!cont || !open_) then some 3
  else if !e.first then none
  else if fld e.outFlags 2 30 ≠ 0 ∨ e.resv ≠ 0 then some 4
  else if 3 ≤ k ∧ !e.last then some 5
  else if e.outLen.toNat ≠ 0 ∧ (e.outLen.toNat < 32 ∨ e.outAddr.toNat % 32 ≠ 0) then some 6
  else none

/-- Whether a head entry passed checks 1, 2, 4 and 6 and has OUT_LEN ≥ 32 (R351). -/
def headerEntry (e : Desc) : Bool :=
  e.first && 32 ≤ e.outLen.toNat && match entryCheck { e with ctrl := setFld e.ctrl 1 1 1 } true with
    | none => true
    | some c => c == 3 || c == 5

/-- IN_LEN of a chain (R348). -/
def chainIn (l : List Desc) : Nat := (l.map fun e => if e.first ∨ e.kind = 1 then e.inLen.toNat else 0).sum
/-- OUT_LEN of a chain (R348). -/
def chainOut (l : List Desc) : Nat := (l.map fun e => if e.first ∨ e.kind = 2 then e.outLen.toNat else 0).sum

/-- Checks 7 to 9 on a job; `hod`: its pipeline's ingress is HOD. -/
def jobCheck (l : List Desc) (hod : Bool) : Bool :=
  match l with
  | [] => false
  | h :: r =>
    !(r.any (fun e => e.kind == 2) && h.outLen == 0) &&
      !(h.kind == 0 && hod && decide (0x100000 < chainIn l)) && decide (chainOut l ≤ 0x80000000) && decide (l.length ≤ 16)

/-! ### Mapping at hand-off (R394 to R396, Table 15.1) -/

/-- Map a list of ranges (place in the chain, address, length): the host ranges, or the place of the first that fails. -/
def Device.mapAll (d : Device) (t need : Nat) : List (Nat × Nat × Nat) → Except Nat (List (Nat × Nat))
  | [] => .ok []
  | (i, a, n) :: r => match d.winMap t a n need with
    | none => .error i
    | some h => match Device.mapAll d t need r with
      | .error k => .error k
      | .ok l => .ok ((h, n) :: l)

/-- The input ranges of a chain with their places. -/
def inRanges (l : List Desc) : List (Nat × Nat × Nat) :=
  l.zipIdx.filterMap fun (x : Desc × Nat) =>
    if x.1.first ∨ x.1.kind = 1 then some (x.2, x.1.inAddr.toNat, x.1.inLen.toNat) else none

/-- The payload ranges of a chain with their places. -/
def outRanges (l : List Desc) : List (Nat × Nat × Nat) :=
  l.zipIdx.filterMap fun (x : Desc × Nat) =>
    if x.1.first then (if x.1.outLen.toNat < 32 then none else some (x.2, x.1.outAddr.toNat + 32, x.1.outLen.toNat - 32))
    else if x.1.kind = 2 then some (x.2, x.1.outAddr.toNat, x.1.outLen.toNat)
    else none

/-- WINDOW_FAULT of a job of queue g (R396, R413): the range (0 input, 1 header, 2 payload) and the place in the chain. -/
def Device.windowFault (d : Device) (g index range place : Nat) : Device :=
  let pg := 0x400000 + 0x1000 * tenantOf g
  ((d.count (R.ten_WINDOW_FAULTS (tenantOf g)) 1).err pg 0x0100 (wd (g % 64 + 256 * range + 4096 * place)) (wd index)).evtBit pg 16

/-! ### The job tracker (R374, R397) -/

/-- Tracker entries in use. -/
def Device.trackerUsed (d : Device) : Nat := d.jobs.length
/-- JOBS_NOW of tenant t: from hand-off until HEAD passes the job. -/
def Device.jobsNow (d : Device) (t : Nat) : Nat := (d.jobs.filter fun j => tenantOf j.q == t && !j.orphan).length
/-- Whether the tracker is full. -/
def Device.trackerFull (d : Device) : Bool := 32768 ≤ d.trackerUsed
/-- Whether tenant t has reached JOBS_QUOTA. -/
def Device.quotaFull (d : Device) (t : Nat) : Bool := d.rf (R.ten_JOBS_QUOTA t) 0 16 ≤ d.jobsNow t

/-- A job with its key, as it enters the tracker. -/
def newJob (k : JobKey) : Job :=
  { toJobKey := k
    toJobMarks := ⟨false, false, false, false, false, false, false, false, false, false, false⟩
    st := .ready
    status := 0
    entry := none
    ua := 0
    ud := 0
    flags := 0
    frame := none
    input := []
    payload := []
    trunc := 0
    done := none
    uDone := 0
    due := none
    mc := 0
    mp := 0
    admCyc := 0
    debits := [0, 0, 0, 0, 0, 0, 0, 0]
    clip := 0
    ing := ⟨0, 0, 0⟩
    egr := ⟨0, 0, 0⟩
    peer := none }

/-- A job enters the tracker. -/
def Device.addJob (d : Device) (j : Job) : Device :=
  let d1 := { d with jobs := d.jobs ++ [j], nextJob := d.nextJob + 1 }
  d1.setN R.jtk_HIGH (max (d1.rn R.jtk_HIGH) d1.trackerUsed)

/-- What a job does once it is in the tracker with its ranges mapped (R232, R349, R374). -/
def Device.startJob (d : Device) (j : Job) (cancel : Bool) : Device :=
  if cancel then d.finishNow j.id 0x02
  else if j.head.kind = 4 then d.finishNow j.id 0
  else if j.head.kind = 5 then (d.setQueue j.q { d.queue j.q with fence := some j.id }).fenceCheck j.q
  else if refusesJobs (d.pipeState j.pipe) then d.finishNow j.id 0x02
  else if j.isFrame ∧ d.ingKind j.pipe = 1 ∧ j.inLen ≠ 0 then d.modJob j.id fun x => { x with st := .staging }
  else d

/-- Hand a chain of queue g to the tracker as one job (R350, R371, R394). -/
def Device.handOff (d : Device) (g : Nat) (c : Chain) : Device :=
  match c.entries with
  | [] => d
  | h :: _ =>
    let l := c.entries
    let t := tenantOf g
    let pipe := fld h.ctrl 22 6
    let hod := d.ingKind pipe == 1
    let ok := !c.failed && jobCheck l hod
    let hdr := if headerEntry h then d.winMap t h.outAddr.toNat 32 2 else none
    let key : JobKey := ⟨d.nextJob, g, c.index, l.length, h, !ok, [], [], [], hdr, chainIn l, chainOut l⟩
    if !ok then (d.addJob (newJob key)).finishNow key.id 0x10
    else
      let frame := h.kind == 0
      let ins := if frame && hod then inRanges l else []
      let outs := if frame && d.egrKind pipe == 1 then outRanges l else []
      match d.mapAll t 1 ins with
      | .error i => ((d.addJob (newJob key)).windowFault g c.index 0 i).finishNow key.id 0x11
      | .ok im =>
        if 32 ≤ h.outLen.toNat ∧ hdr.isNone then ((d.addJob (newJob key)).windowFault g c.index 1 0).finishNow key.id 0x11
        else match d.mapAll t 2 outs with
          | .error i => ((d.addJob (newJob key)).windowFault g c.index 2 i).finishNow key.id 0x11
          | .ok om =>
            let j := newJob { key with ins := im, pos := ins.map (·.1), outs := om }
            (d.addJob j).startJob j (c.cancel && !j.noCancel)

/-! ### Chains (R355 to R357) -/

/-- A closed chain is handed over, or kept where the tracker cannot take it (R371). -/
def Device.closeChain (d : Device) (g : Nat) (c : Chain) : Device :=
  let x := d.queue g
  if !x.held.isEmpty || x.fence.isSome || d.trackerFull || d.quotaFull (tenantOf g) then d.setQueue g { x with held := x.held ++ [c] }
  else d.handOff g c

/-- The pending cancels of an index act as the entry there is fetched (R378): on a head entry the cancel marks its chain. -/
def Device.takeCancel (d : Device) (g i : Nat) (e : Desc) : Bool × Device :=
  let x := d.queue g
  let n := (x.cancels.filter (· == i)).length
  let d1 := d.setQueue g { x with cancels := x.cancels.filter fun k => !(k == i) }
  if n = 0 then (false, d)
  else if !e.first then (false, d1.count R.qen_CANCEL_REJECTS n)
  else if fld e.ctrl 7 1 = 1 then (false, d1.count R.qen_CANCEL_REJECTS n)
  else (true, d1)

/-- Set CHAIN_HOLD. -/
def Device.setChainHold (d : Device) (g v : Nat) : Device := d.setF (R.qst_QSTATUS g) 2 1 v

/-- A fetched entry joins its chain (R347, R350, R355, R357); `stale`: its LAP did not match on its last read (R365). -/
def Device.joinEntry (d : Device) (g i : Nat) (e : Desc) (stale : Bool) : Device :=
  let (cancel, d1) := d.takeCancel g i e
  let d2 := d1.setN (R.qst_FETCH_IDX g) ((i + 1) % 2 ^ 32)
  let x := d2.queue g
  let one : Chain := ⟨i, [e], true, cancel, none⟩
  match x.chain with
  | none =>
    if !e.first ∨ stale then d2.closeChain g one
    else
      let c : Chain := ⟨i, [e], (entryCheck e false).isSome, cancel, none⟩
      if e.last then d2.closeChain g c else d2.setQueue g { x with chain := some c }
  | some c =>
    if e.first ∧ !stale then
      let d3 := (d2.setQueue g { x with chain := none }).closeChain g { c with failed := true }
      let n : Chain := ⟨i, [e], (entryCheck e false).isSome, cancel, none⟩
      if e.last then d3.closeChain g n else d3.setQueue g { d3.queue g with chain := some n }
    else
      let bad := stale || (entryCheck e true).isSome
      let c1 := { c with entries := c.entries ++ [e], failed := c.failed || bad }
      if e.last ∨ 17 ≤ c1.entries.length then
        ((d2.setQueue g { x with chain := none }).setChainHold g 0).closeChain g
          { c1 with failed := c1.failed || decide (17 ≤ c1.entries.length) }
      else d2.setQueue g { x with chain := some c1 }

/-! ### Service turns (R354, R364, R365, R371) -/

/-- The host address of the entry of index i of queue g (R341). -/
def Device.ringAddr (d : Device) (g i : Nat) : Nat := d.rn64 (R.qst_RING_BASE_LO g) + i % 2 ^ d.qN g * 64

/-- The LAP of index i (R364). -/
def Device.lapOk (d : Device) (g i : Nat) (e : Desc) : Bool := fld e.stamp 0 16 == i / 2 ^ d.qN g % 65536

/-- The turn of queue g in progress, or none. -/
def Device.setTurn (d : Device) (g : Nat) (t : Option Turn) : Device := d.setQueue g { d.queue g with turn := t }

/-- The turn of queue g ends; a chain left open at TAIL holds the queue, and its timer starts (R355, R356). -/
def Device.endTurn (d : Device) (g sample : Nat) : Device :=
  let d1 := d.setTurn g none
  let x := d1.queue g
  match x.chain with
  | some c =>
    if d.fetchIdx g = sample then
      (d1.setQueue g { x with chain := some { c with since := c.since.or (some x.lastTurn) } }).setChainHold g 1
    else d1
  | none => d1.setChainHold g 0

/-- Hand over the chains kept from earlier turns, in order. -/
def Device.handHeld (d : Device) (g : Nat) : Nat → Device
  | 0 => d
  | fuel + 1 =>
    let x := d.queue g
    match x.held with
    | [] => d
    | c :: r =>
      if x.fence.isSome || d.trackerFull || d.quotaFull (tenantOf g) then d
      else Device.handHeld ((d.setQueue g { x with held := r }).handOff g c) g fuel

/-- Why a turn with entries left must end now, counting what it counts (R371, R397). None: it may fetch. -/
def Device.turnStop (d : Device) (g : Nat) : Option Device :=
  let x := d.queue g
  if d.trackerFull then some (d.count R.jtk_FULL_TURNS 1)
  else if d.quotaFull (tenantOf g) then some (d.count (R.ten_QUOTA_TURNS (tenantOf g)) 1)
  else if x.fence.isSome || !x.held.isEmpty || d.qStat g 3 then some d
  else none

/-- The turn of queue g goes on: entries at hand are joined, and the first that must be read is requested (R360, R363 to R365, R371). -/
def Device.runTurn (d : Device) (g : Nat) : Nat → Device
  | 0 => d
  | fuel + 1 =>
    match (d.queue g).turn with
    | none => d
    | some t =>
      let i := d.fetchIdx g
      let more := i ≠ t.sample ∨ !(d.queue g).held.isEmpty
      if !more ∨ t.left = 0 then d.endTurn g t.sample
      else match d.turnStop g with
        | some d1 => d1.endTurn g t.sample
        | none =>
          let x := d.queue g
          match x.supplied.find? fun s => s.1 = i with
          | some s =>
            let d1 := d.setQueue g { x with supplied := x.supplied.filter fun y => !(y.1 == i) }
            Device.runTurn ((d1.setTurn g (some { t with left := t.left - 1 })).joinEntry g i s.2 false) g fuel
          | none => match x.prov.find? fun p => p.index = i with
            | some p =>
              let d1 := d.setQueue g { x with prov := x.prov.filter fun y => !(y.index == i) }
              if d.qRunahead g && d.lapOk g i p.entry then
                Device.runTurn ((d1.setTurn g (some { t with left := t.left - 1 })).joinEntry g i p.entry false) g fuel
              else
                ((d1.setTurn g (some { t with reading := true, repeated := false, restamped := true })).count
                  (R.pw_RESTAMP_COUNT g) 1).hostRead (vfOf g) (d.ringAddr g i) 64
            | none =>
              (d.setTurn g (some { t with reading := true, repeated := false, restamped := false })).hostRead (vfOf g) (d.ringAddr g i) 64

/-- QERR: the first error only (Table 14.2). -/
def Device.queueErr (d : Device) (g cause idx addr : Nat) : Device :=
  if d.rf (R.qst_QERR g) 31 1 = 1 then d
  else (((d.setN (R.qst_QERR g) (2 ^ 31 + cause)).setN (R.qst_QERR_IDX g) idx).setN64 (R.qst_QERR_ADDR_LO g) addr)

/-- A ring read failed twice: the queue stops fetching, and what was fetched and not handed over is discarded (R358). -/
def Device.fetchErr (d : Device) (g i cause : Nat) : Device :=
  let a := d.ringAddr g i
  let d1 := (d.cplFail (vfOf g) cause a).setF (R.qst_QSTATUS g) 3 1 1
  let d2 := ((d1.queueErr g 1 i a).evtBit 0x100000 17).faultOpen 0x100000 1
  ((d2.setQueue g { d2.queue g with chain := none, held := [], supplied := [], prov := [], turn := none }).setChainHold g 0)

/-! ### Eligibility and rotation (R370, R372) -/

/-- WEIGHT of queue g. -/
def Device.qWeight (d : Device) (g : Nat) : Nat := d.rf (R.qst_SERVICE g) 0 8

/-- Whether queue g is eligible: no turn of it is in progress, and a chain kept from an earlier turn counts as one not yet handed over
(log entries 52 and 155). -/
def Device.eligible (d : Device) (g : Nat) : Bool :=
  let x := d.queue g
  d.qEnabled g && d.qWeight g != 0 && !d.qStat g 3 && x.resetTick.isNone && x.turn.isNone &&
    (x.tail != d.fetchIdx g || x.chain.isSome || !x.held.isEmpty || d.qRunahead g)

/-- The eligible queues, ascending: a queue whose QCTL reads as at reset is disabled. -/
def Device.eligibleQueues (d : Device) : List Nat :=
  d.regs.filterMap fun e =>
    if 0x800000 ≤ e.1 ∧ e.1 < 0xC00000 ∧ e.1 % 0x40 = 0 ∧ d.eligible ((e.1 - 0x800000) / 0x40) then some ((e.1 - 0x800000) / 0x40)
    else none

/-- TW of tenant t. -/
def Device.tenWeight (d : Device) (t : Nat) : Nat := d.rf (R.ten_TEN_CFG t) 0 8

/-- The tenant that the loop of R372 serves next, among the tenants of the eligible queues: the one being visited while it has
turns left, else the next in rotation with a weight; whether its visit begins. -/
def Device.nextTenant (d : Device) (qs : List Nat) : Option (Nat × Bool) :=
  let ts := (qs.map tenantOf).dedup.filter fun t => d.tenWeight t ≠ 0
  let cur := d.qen.tenant
  if d.qen.visiting ∧ d.qen.tcr ≠ 0 ∧ cur ∈ ts then some (cur, false)
  else
    let after := ts.filter fun t => if d.qen.visiting then cur < t else cur ≤ t
    match after ++ ts with
    | [] => none
    | t :: _ => some (t, true)

/-- The first queue of `l` (ascending) after local queue `last`, wrapping, that `ok` admits. -/
def rotate (l : List Nat) (last : Option Nat) (ok : Nat → Bool) : Option Nat :=
  match last with
  | none => l.find? ok
  | some k => ((l.filter fun g => k < g % 64) ++ l).find? ok

/-- next_queue (R372): the queue and the device with a new queue round where one begins. -/
def Device.nextQueue (d : Device) (qs : List Nat) (t : Nat) : Option (Nat × Device) :=
  let l := qs.filter fun g => tenantOf g = t
  let lv := Store.get zeroN d.qen.last t
  let last := if lv = 0 then none else some (lv - 1)
  match rotate l last fun g => (d.queue g).qcr ≠ 0 with
  | some g => some (g, d)
  | none =>
    let d1 := l.foldl (fun d g => d.setQueue g { d.queue g with qcr := d.qWeight g }) d
    (rotate l last fun _ => true).map fun g => (g, d1)

/-- A turn of queue g starts (R354, R371). -/
def Device.beginTurn (d : Device) (g : Nat) : Device :=
  let x := d.queue g
  let d1 := (d.setQueue g { x with qcr := x.qcr - 1, sample := x.tail, lastTurn := d.now.tick }).count64 R.qen_TURNS_LO 1
  let d2 := { d1 with qen := { d1.qen with
    tcr := d1.qen.tcr - 1
    last := Store.set zeroN d1.qen.last (tenantOf g) (g % 64 + 1)
    lastTick := some d1.now.tick } }
  let d3 := d2.setTurn g (some ⟨x.tail, d1.rf (R.qst_SERVICE g) 8 7, false, false, false⟩)
  (d3.handHeld g 4).runTurn g 80

/-! ### Clearing a queue -/

/-- What the queue engine holds of a queue after its entries are forgotten: chains, copies, push slots and cancels. -/
def Queue.cleared (x : Queue) : Queue :=
  { x with
    chain := none
    held := []
    prov := []
    push := []
    supplied := []
    cancels := []
    fence := none }

/-- The push-window counts of queue g (Table 13.7). -/
def Device.clearPushCounts (d : Device) (g : Nat) : Device :=
  d.zeroRegs [R.pw_RUNAHEAD_DISCARD g, R.pw_TAIL_REJECT_COUNT g, R.pw_PUSH_DISCARD_COUNT g, R.pw_RESTAMP_COUNT g, R.pw_STATUS g]

/-- The four completion counts of queue g (R618). -/
def Device.clearQueueCounts (d : Device) (g : Nat) : Device :=
  { d with trace := { d.trace with qcnt := Store.wipe (fun k => k / 4 == g) d.trace.qcnt } }

/-- The mirror of queue g is written (R376). -/
def Device.writeMirror (d : Device) (g : Nat) : Device :=
  if d.rf (R.qst_QCTL g) 2 1 = 1 then d.hostWrite (vfOf g) (d.rn64 (R.qst_MIRROR_LO g)) (leBytes 4 (d.head g)) else d

end Sys2Proof.Machine
end

