-- ==== Sys2Proof/Machine/LoadCore.lean ====
section
/-! DEFINITION. Machine/LoadCore.lean: the loader's state and outcomes as shared operations (R275, R291, R400). -/
namespace Sys2Proof.Machine

/-- LOAD_STATUS.STATE: 0 IDLE, 1 READING, 2 CHECKING, 3 WRITING, 4 VERIFYING, 5 STAGED, 6 DONE, 7 FAILED. -/
def Device.loadSt (d : Device) : Nat := d.rf R.skm_LOAD_STATUS 0 3
/-- Whether the loader takes a GO (R275). -/
def Device.loadFree (d : Device) : Bool := d.loadSt == 0 || d.loadSt == 6 || d.loadSt == 7
/-- Enter a state; REFUSED, REASON and CHECK are those of the load that ends refused, else 0. -/
def Device.setLoadSt (d : Device) (s refused reason check : Nat) : Device :=
  d.setN R.skm_LOAD_STATUS (s + 256 * refused + 4096 * reason + 65536 * check)

/-- A load that a tenant's SKL_CMD started ends (R400): SKL_STATUS and SKL_DONE. -/
def Device.sklEnd (d : Device) (result reason check : Nat) : Device :=
  match d.loader.skl, d.loader.owner with
  | true, some t => (d.setN (R.ten_SKL_STATUS t) (result + 16 * reason + 256 * check)).evtBit (0x400000 + 0x1000 * t) 17
  | _, _ => d

/-- The load ends FAILED (R275): LOAD_FAILED with the tile, or 0xFFF, and the section. -/
def Device.loadFailed (d : Device) (tile sect : Nat) : Device :=
  ((((d.setLoadSt 7 0 0 0).setN R.skm_LOAD_FAIL sect).err 0x60000 0x0101 (wd tile) (wd sect)).evtBit 0x60000 19).sklEnd 5 0 0

/-- The load ends FAILED from READING: no section of the image is at fault, so the section reported is a free value. -/
def Device.loadReadFailed (d : Device) : Device :=
  let (x, d1) := d.fresh
  d1.loadFailed 0xFFF (x.toNat % 512)

/-- A load reading through function f ends FAILED, with nothing changed (R325, R576). -/
def Device.failReader (d : Device) (f : Nat) : Device :=
  if d.loadSt = 1 ∧ d.loader.host ∧ d.loader.fn = f then d.loadReadFailed else d

/-- A load starts READING (R275). -/
def Device.startLoad (d : Device) (l : Loader) : Device :=
  let d1 := { d with loader := l }.setLoadSt 1 0 0 0
  let d2 := d1.setN R.skm_LOAD_FAIL 0
  match l.skl, l.owner with
  | true, some t => d2.setN (R.ten_SKL_STATUS t) 1
  | _, _ => d2

end Sys2Proof.Machine
end

