-- ==== Sys2Proof/Machine/LathCore.lean ====
section
/-! DEFINITION. Machine/LathCore.lean: the logic cell and its joins, reconfiguration blocks, their owners and resets, the CRC of a
configuration frame, Lath ports and block RAMs as shared operations (chapter 18, R470 to R494). -/
namespace Sys2Proof.Machine

/-! ### Logic cells (R472 to R474) -/

/-- A 4-input LUT of table T. -/
def lut (T : BitVec 16) (i0 i1 i2 i3 : Bool) : Bool := T.getLsbD (8 * b2n i3 + 4 * b2n i2 + 2 * b2n i1 + b2n i0)
/-- MX_C: LUT_P when J is 0, LUT_Q when J is 1. -/
def mxC (p q j : Bool) : Bool := if j then q else p
/-- The joins of one logic tile (Table 18.2): from the eight MX_C outputs, MX_P on TS_0, MX_Q on TS_1 and MX_T on TS_2. -/
def joinP (c : Fin 8 → Bool) (ts0 : Bool) (i : Fin 4) : Bool := mxC (c ⟨2 * i.val, by omega⟩) (c ⟨2 * i.val + 1, by omega⟩) ts0
/-- MX_Q of four cells. -/
def joinQ (c : Fin 8 → Bool) (ts0 ts1 : Bool) (i : Fin 2) : Bool :=
  mxC (joinP c ts0 ⟨2 * i.val, by omega⟩) (joinP c ts0 ⟨2 * i.val + 1, by omega⟩) ts1
/-- MX_T of the tile. -/
def joinT (c : Fin 8 → Bool) (ts0 ts1 ts2 : Bool) : Bool := mxC (joinQ c ts0 ts1 0) (joinQ c ts0 ts1 1) ts2
/-- One carry step: propagate and generate. -/
def carry (p g c : Bool) : Bool := (p && c) || (!p && g)
/-- The carry stage of a cell: the sums s_0 and s_1 and the carry out. -/
def carryStage (p0 p1 g0 g1 cin : Bool) : Bool × Bool × Bool := (p0 ^^ cin, p1 ^^ carry p0 g0 cin, carry p1 g1 (carry p0 g0 cin))

/-! ### Blocks (R470, R486, R493, R497) -/

/-- Set the fabric. -/
def Device.setLath (d : Device) (x : Lath) : Device := { d with lath := x }

/-- The block of Lath port r (R470). -/
def portBlock (r : Nat) : Nat := 4 * (4 * (r / 16) + 3) + r / 4 % 4

/-- The owner of block b: a region, or 0xFF for the base. -/
def Device.owner (d : Device) (b : Nat) : Nat := d.rf (R.lth_OWNER (b / 4)) (8 * (b % 4)) 8

/-- STATE of block b: 0 BLANK, 1 WRITING, 2 CONFIGURED. -/
def Device.blockState (d : Device) (b : Nat) : Nat := d.rf (R.lth_BLOCK_STATE b) 0 2

/-- BRST_b (R486). -/
def Device.brst (d : Device) (b : Nat) : Bool :=
  d.blockState b ≠ 2 || (decide (d.owner b < 64) && d.rf (R.dad_TAPE_STATE (d.owner b / 16) (d.owner b % 16)) 0 2 ≠ 0)

/-- FABRIC_UP (R497). -/
def Device.fabricUp (d : Device) : Bool := !d.brst 0

/-- Whether the tape cells of the owner of Lath port r hold it (R492). -/
def Device.portTaped (d : Device) (r : Nat) : Bool :=
  decide (d.owner (portBlock r) < 64) && (Store.get tape0 d.tapes (d.owner (portBlock r))).on

/-! ### The CRC of a frame (R494) -/

/-- One bit of CRC-16 with polynomial 0x1021. -/
def crcBit (c : BitVec 16) (b : Bool) : BitVec 16 :=
  let s := c <<< 1
  if c.getLsbD 15 ^^ b then s ^^^ 0x1021#16 else s

/-- One byte, most significant bit first. -/
def crcByte (c : BitVec 16) (b : Byte) : BitVec 16 :=
  [7, 6, 5, 4, 3, 2, 1, 0].foldl (fun c i => crcBit c (b.getLsbD i)) c

/-- The CRC-16 of a byte list, initial value 0xFFFF. -/
def crc16 (l : List Byte) : BitVec 16 := l.foldl crcByte 0xFFFF#16

/-- A frame of a block as stored. -/
def Device.frame (d : Device) (b f : Nat) : List Byte := Store.get frame0 d.lath.frames (1280 * b + f)

/-! ### Lath ports (R488 to R492) -/

/-- Both FIFOs of Lath port r are emptied; LP_FLUSHED counts. -/
def Device.flushPort (d : Device) (r : Nat) : Device :=
  let d0 := d.countRxWait r
  let n := (Store.get noFlits d0.edge.lpTx r).length + min 32 (Store.get noFlits d0.edge.lpRx r).length
  { d0 with edge := { d0.edge with
      lpTx := Store.del r d0.edge.lpTx
      lpRx := Store.set noFlits d0.edge.lpRx r ((Store.get noFlits d0.edge.lpRx r).drop 32)
      srcAt := Store.del r d0.edge.srcAt } }.count (R.lth_LP_FLUSHED r) n

/-- The tapes of region q engage: the ports in its blocks are emptied (R492). -/
def Device.flushRegion (d : Device) (q : Nat) : Device :=
  (List.range 64).foldl (fun d r => if d.owner (portBlock r) = q then d.flushPort r else d) d

/-! ### Block RAM (R475 to R477) -/

/-- Lanes l to l + n - 1 of a block RAM as one number, 9 bits each. -/
def Lath.rdLanes (x : Lath) (u l : Nat) : Nat → Nat
  | 0 => 0
  | n + 1 => Store.get zeroN x.bram (4096 * u + l) + 512 * Lath.rdLanes x u (l + 1) n

/-- Write the enabled ones of n lanes from lane l. -/
def Lath.wrLanes (x : Lath) (u l we v : Nat) : Nat → Lath
  | 0 => x
  | n + 1 =>
    let x1 := if we % 2 = 1 then { x with bram := Store.set zeroN x.bram (4096 * u + l) (v % 512) } else x
    Lath.wrLanes x1 u (l + 1) (we / 2) (v / 512) n

/-- A port's read output takes a value; the output register takes the one before. -/
def Lath.latch (x : Lath) (u p v : Nat) (ce ue : Bool) : Lath :=
  let o := Store.get bramPort0 x.ports (2 * u + p)
  { x with ports := Store.set bramPort0 x.ports (2 * u + p) ⟨v, o.out, ce, ue⟩ }

/-- A half of a GUARD word as it reads: data, corrected, uncorrectable (R477). -/
def guardHalf (v : Nat) : Nat × Bool × Bool :=
  let w := BitVec.ofNat 64 v
  let c := BitVec.ofNat 8 (v / 2 ^ 64)
  if c = Config.bramCheck w then (w.toNat, false, false)
  else match Config.bramFix w c with
    | some x => (x.toNat, true, false)
    | none => (w.toNat, false, true)

/-- A half of a GUARD word as it is stored: 64 bits and their check bits in eight lanes. -/
def guardWord (v : Nat) : Nat := v % 2 ^ 64 + 2 ^ 64 * (Config.bramCheck (BitVec.ofNat 64 v)).toNat

/-- An access in DUO mode with n lanes a word. -/
def Lath.duo (x : Lath) (u n : Nat) (a : Sys2Proof.BramAcc) : Lath :=
  let l := a.addr % (4096 / n) * n
  let old := x.rdLanes u l n
  let we := a.we.toNat % 2 ^ n
  if we = 0 then (if a.rd then x.latch u a.port old false false else x)
  else
    let x1 := x.wrLanes u l we a.data.toNat n
    match a.policy with
    | .prior => x1.latch u a.port old false false
    | .fresh => x1.latch u a.port (x1.rdLanes u l n) false false
    | .keep => x1

/-- An access in WIDE mode: PORT_0 writes, PORT_1 reads. -/
def Lath.wide (x : Lath) (u : Nat) (a : Sys2Proof.BramAcc) : Lath :=
  let l := a.addr % 256 * 16
  if a.port = 0 then x.wrLanes u l a.we.toNat a.data.toNat 16
  else if a.rd then x.latch u 1 (x.rdLanes u l 16) false false
  else x

/-- An access in GUARD mode, with whether the read found a corrected and an uncorrectable half. -/
def Lath.guarded (x : Lath) (u : Nat) (a : Sys2Proof.BramAcc) : Lath × Bool × Bool :=
  let l := a.addr % 256 * 16
  if a.port = 0 then
    let x1 := if a.we.getLsbD 0 then x.wrLanes u l 255 (guardWord a.data.toNat) 8 else x
    ((if a.we.getLsbD 1 then x1.wrLanes u (l + 8) 255 (guardWord (a.data.toNat / 2 ^ 64)) 8 else x1), false, false)
  else if a.rd then
    let h0 := guardHalf (x.rdLanes u l 8)
    let h1 := guardHalf (x.rdLanes u (l + 8) 8)
    let ce := h0.2.1 || h1.2.1
    let ue := h0.2.2 || h1.2.2
    (x.latch u 1 (h0.1 + 2 ^ 64 * h1.1) ce ue, ce, ue)
  else (x, false, false)

/-- An edge in RING mode: the read precedes the write; RESTART sets W to 0. -/
def Lath.ring (x : Lath) (u len del : Nat) (a : Sys2Proof.BramAcc) : Lath :=
  if 2 ≤ len ∧ len ≤ 1024 ∧ 1 ≤ del ∧ del < len then
    let w := Store.get zeroN x.wptr u
    let x1 := if a.rd then x.latch u 1 (x.rdLanes u (4 * ((w + len - del) % len)) 4) false false else x
    let x2 := if a.we = 0 then x1 else x1.wrLanes u (4 * w) 15 a.data.toNat 4
    let w1 := if a.restart then 0 else if a.we = 0 then w else (w + 1) % len
    { x2 with wptr := Store.set zeroN x2.wptr u w1 }
  else x

end Sys2Proof.Machine
end

