-- ==== Sys2Proof/Machine/Tapes.lean ====
section
/-! DEFINITION. Machine/Tapes.lean: the tape cells of the regions (chapter 11, R301 to R304, R310). -/
namespace Sys2Proof.Machine

/-- TAPE_STATE.STATE of region r: 0 RELEASED, 1 ENGAGING, 2 ENGAGED, 3 RELEASING. -/
def Device.tapeState (d : Device) (r : Nat) : Nat := d.rf (R.dad_TAPE_STATE (r / 16) (r % 16)) 0 2
/-- Set it. -/
def Device.setTapeState (d : Device) (r st : Nat) : Device := d.setF (R.dad_TAPE_STATE (r / 16) (r % 16)) 0 2 st
/-- The tape cells of region r. -/
def Device.tape (d : Device) (r : Nat) : Tape := Store.get tape0 d.tapes r
/-- Set them. -/
def Device.setTape (d : Device) (r : Nat) (x : Tape) : Device := { d with tapes := Store.set tape0 d.tapes r x }
/-- The DAD page of region r. -/
def dadPage (r : Nat) : Nat := 0x70000 + 0x1000 * (r / 16)

/-- TAPE_CMD written with `cmd`: TAPE_STATE where it is not accepted (R303). -/
def tapeCmd (r : Fin 64) (q : Req) (cmd : Nat) (ok : Device → Bool) (act : Device → Device) (d : Device) : Device :=
  if fld q.data 0 2 ≠ cmd then d.at q.t
  else d.writeAt q (R.dad_TAPE_CMD (r / 16) (r % 16)) fun d =>
    if ok d then act d else d.err (dadPage r) 0x0100 (wd (cmd + 256 * d.pipeState r + 65536 * r.val)) 0

/-- ENGAGE: accepted in DRAINED. -/
def tapeEngage (r : Fin 64) (q : Req) (cyc : Nat) (d : Device) : Device :=
  tapeCmd r q 1 (fun d => d.pipeState r == 5 && d.tapeState r == 0)
    (fun d => (d.setTapeState r 1).setTape r { d.tape r with cmd := cyc }) (d.atCyc cyc)
/-- TAPE_ENGAGE (R303). -/
def execTapeEngage (r : Fin 64) (q : Req) (cyc : Nat) (s : State) : Host.Outcome State Fault Refusal := onDev (tapeEngage r q cyc) s

/-- The first slot-0 cycle after a tape command: the cells hold, or stop holding, the border. -/
def tapePoint (r : Fin 64) (cyc st : Nat) (on : Bool) (d : Device) : Device :=
  let d0 := d.atCyc cyc
  let x := d0.tape r
  if d0.tapeState r = st ∧ x.on ≠ on ∧ cyc % 16 = 0 ∧ x.cmd < cyc then
    let d1 := d0.setTape r { x with on := on, point := cyc }
    if on then d1.flushRegion r else d1
  else d0

/-- TAPE_ENGAGE_POINT (R301 to R303). -/
def execTapeEngagePoint (r : Fin 64) (cyc : Nat) (s : State) : Host.Outcome State Fault Refusal :=
  onArray (tapePoint r cyc 1 true) s

/-- TAPE_ENGAGED: 16 stage cycles after the point the tapes read ENGAGED and the pipeline enters REWORK; its fills stop. -/
def tapeEngaged (r : Fin 64) (cyc t : Nat) (d : Device) : Device :=
  let d0 := (d.at t).atCyc cyc
  let x := d0.tape r
  if d0.tapeState r = 1 ∧ x.on ∧ x.point + 16 ≤ cyc then
    let d1 := (d0.setTapeState r 2).setN (R.dad_LAST_ENGAGE_CYC (r / 16) (r % 16)) ((x.point + 16 - x.cmd) % 64)
    let d2 := if d1.pipeState r = 5 ∧ !d1.pipeResetting r then (d1.setPipeState r 6).stopFills r else d1
    d2.evtBit (dadPage r) (16 + r % 16)
  else d0
/-- TAPE_ENGAGED (R303). -/
def execTapeEngaged (r : Fin 64) (cyc t : Nat) (s : State) : Host.Outcome State Fault Refusal := onArray (tapeEngaged r cyc t) s

/-- RELEASE: accepted in LOADED with the tapes ENGAGED. -/
def tapeRelease (r : Fin 64) (q : Req) (cyc : Nat) (d : Device) : Device :=
  tapeCmd r q 2 (fun d => d.pipeState r == 1 && d.tapeState r == 2)
    (fun d => (d.setTapeState r 3).setTape r { d.tape r with cmd := cyc }) (d.atCyc cyc)
/-- TAPE_RELEASE (R303). -/
def execTapeRelease (r : Fin 64) (q : Req) (cyc : Nat) (s : State) : Host.Outcome State Fault Refusal :=
  onDev (tapeRelease r q cyc) s

/-- TAPE_RELEASE_POINT (R303). -/
def execTapeReleasePoint (r : Fin 64) (cyc : Nat) (s : State) : Host.Outcome State Fault Refusal :=
  onArray (fun d => tapePoint r cyc 3 false d) s

/-- TAPE_RELEASED: 16 stage cycles after the release point. -/
def tapeReleased (r : Fin 64) (cyc t : Nat) (d : Device) : Device :=
  let d0 := (d.at t).atCyc cyc
  let x := d0.tape r
  if d0.tapeState r = 3 ∧ !x.on ∧ x.point + 16 ≤ cyc then (d0.setTapeState r 0).evtBit (dadPage r) (16 + r % 16) else d0
/-- TAPE_RELEASED (R303). -/
def execTapeReleased (r : Fin 64) (cyc t : Nat) (s : State) : Host.Outcome State Fault Refusal := onArray (tapeReleased r cyc t) s

end Sys2Proof.Machine
end

