-- ==== Sys2Proof/Machine/Validate.lean ====
section
/-! DEFINITION. Machine/Validate.lean: the checks of tile-page, weight-store and clock sets, which a commit and the loader both make
(R107 with chapter 4's Edges, R219, R484), and the effects of a clock set (R482, R485). -/
namespace Sys2Proof.Machine

/-- Failing fields with their reasons of Table 2.2 (R37): offset, reason. -/
abbrev Fails := List (Nat × Nat)

/-- A failing field where `c` holds. -/
def failIf (c : Bool) (off reason : Nat) : Fails := if c then [(off, reason)] else []

/-- The first failing field: the one with the lowest offset, the first listed of equals (R37). -/
def firstFail (l : Fails) : Option (Nat × Nat) :=
  l.foldl (fun m x => match m with
    | none => some x
    | some y => if x.1 < y.1 then some x else some y) none

/-- Whether [a, a + n) and [b, b + m) share a place. -/
def overlap (a n b m : Nat) : Bool := decide (a < b + m) && decide (b < a + n) && n != 0 && m != 0

/-- All pairs x < y below n. -/
def pairsBelow (n : Nat) : List (Nat × Nat) := (List.range n).flatMap fun y => (List.range y).map fun x => (x, y)

/-- The checks of a tile page's set (R107, chapter 4's Edges): `g` reads the set. -/
def tileFails (g : Nat → Word) (k : Nat) : Fails :=
  let hs := g (R.trw_HAWK_SLOTS k)
  let n := fld hs 0 5
  let lines := fld hs 16 11
  let base := fld (g (R.trw_SLOT_BASE k)) 0 11
  let scr := fun c => (fld (g (R.trw_CTX_HAWK k c)) 0 11, fld (g (R.trw_CTX_HAWK k c)) 16 11)
  let acc := fun c => (fld (g (R.trw_CTX_ACC k c)) 0 6, fld (g (R.trw_CTX_ACC k c)) 8 7)
  let act := fun s => (fld (g (R.trw_SLOT_ACT k s)) 0 5, fld (g (R.trw_SLOT_ACT k s)) 8 4)
  failIf (decide (8 < fld (g (R.trw_CTX_COUNT k)) 0 4)) (R.trw_CTX_COUNT k) 1 ++
  failIf (decide (16 < n) || (n != 0 && lines == 0)) (R.trw_HAWK_SLOTS k) 1 ++
  failIf (n != 0 && lines != 0 && decide (1536 < base + n * lines)) (R.trw_SLOT_BASE k) 4 ++
  ((List.range 8).flatMap fun c =>
    failIf ((scr c).2 != 0 && decide (1536 < (scr c).1 + (scr c).2)) (R.trw_CTX_HAWK k c) 4 ++
    failIf (overlap base (n * lines) (scr c).1 (scr c).2) (R.trw_CTX_HAWK k c) 2 ++
    failIf (decide (64 < (acc c).1 + (acc c).2)) (R.trw_CTX_ACC k c) 1) ++
  ((pairsBelow 8).flatMap fun x =>
    failIf (overlap (scr x.1).1 (scr x.1).2 (scr x.2).1 (scr x.2).2) (R.trw_CTX_HAWK k x.2) 2 ++
    failIf (overlap (acc x.1).1 (acc x.1).2 (acc x.2).1 (acc x.2).2) (R.trw_CTX_ACC k x.2) 2) ++
  ((List.range 16).flatMap fun s =>
    failIf (decide (8 < (act s).2) || decide (32 < (act s).1 + (act s).2)) (R.trw_SLOT_ACT k s) 1) ++
  ((pairsBelow 16).flatMap fun x =>
    failIf (overlap (act x.1).1 (act x.1).2 (act x.2).1 (act x.2).2) (R.trw_SLOT_ACT k x.2) 2)

/-- The tile and arrival direction that a stream of slice j with SCFG word v reaches (R206). -/
def streamTarget (j : Nat) (v : Word) : Nat × Nat :=
  let c := 2 * (j % 32) + fld v 1 1
  if j < 32 then (c, 0) else (64 * 63 + c, 2)

/-- The checks of a weight-store page's set that do not depend on a running region (R219). -/
def Device.wstFails (d : Device) (g : Nat → Word) (j : Nat) : Fails :=
  let cfg := fun i => g (R.wst_SCFG j i)
  let mask := fun i => fld (cfg i) 16 16
  ((List.range 8).flatMap fun i =>
    let v := cfg i
    let owner := fld v 2 7
    let into := streamTarget j v
    let region := (List.range 12).any fun s => (mask i) / 2 ^ s % 2 == 1
    failIf (decide (64 < owner)) (R.wst_SCFG j i) 1 ++
    failIf (region && d.regionOf into.1 != some owner) (R.wst_SCFG j i) 2 ++
    failIf (decide (4096 ≤ mask i) && owner != 64) (R.wst_SCFG j i) 2 ++
    failIf ((laneIn into.1 into.2).any fun s => (mask i) / 2 ^ s % 2 == 1) (R.wst_SCFG j i) 2 ++
    failIf (decide (131072 < fld (g (R.wst_SADDR j i)) 0 17 + fld (g (R.wst_SLEN j i)) 0 18)) (R.wst_SLEN j i) 1) ++
  ((pairsBelow 8).flatMap fun x =>
    failIf (fld (cfg x.1) 0 1 == 1 && fld (cfg x.2) 0 1 == 1 && fld (cfg x.1) 1 1 == fld (cfg x.2) 1 1 &&
      (mask x.1 &&& mask x.2) != 0) (R.wst_SCFG j x.2) 2)

/-! ### Clocks (R480 to R485) -/

/-- The numerator and denominator, in MHz, of FPLL output o under the set `g`; none where it is disabled (R480). -/
def pllOut (g : Nat → Word) (o : Nat) : Option (Nat × Nat) :=
  let c := g (R.clk_PLL_CFG (o / 4))
  let od := fld (g (R.clk_PLL_ODIV (o / 4))) (8 * (o % 4)) 8
  if fld c 31 1 = 0 ∨ od = 0 then none else some (100 * fld c 8 8, fld c 0 3 * od)

/-- The selected source code of a global clock. -/
def gclkSource (v : Word) : Nat := if fld v 16 1 = 1 then fld v 8 6 else fld v 0 6

/-- The frequency of a source known at commit, as numerator and denominator in MHz (R484). -/
def sourceMhz (g : Nat → Word) (src : Nat) : Option (Nat × Nat) :=
  if src < 32 then pllOut g src else if src = 56 then some (100, 1) else none

/-- Whether a frequency divided by n exceeds 600 MHz. -/
def tooFast600 (f : Option (Nat × Nat)) (n : Nat) : Bool := f.any fun x => decide (600 * x.2 * n < x.1)

/-- The checks of a clock set `g` over the committed set `old` (R484). A divider or PLL setting of 0 in a clock that is not
enabled passes (DEDUCED; log entry 128). -/
def clkFails (old g : Nat → Word) : Fails :=
  let gc := fun i => g (R.clk_GCLK_CFG i)
  let on := fun (v : Word) => fld v 31 1 == 1
  let bad := fun (en : Bool) (x lo hi : Nat) => (en || x != 0) && (decide (x < lo) || decide (hi < x))
  ((List.range 8).flatMap fun k =>
    let v := g (R.clk_PLL_CFG k)
    let od := g (R.clk_PLL_ODIV k)
    let used := fun j => (List.range 32).any fun i => on (gc i) && gclkSource (gc i) == 4 * k + j
    failIf (bad (on v) (fld v 0 3) 1 8 || bad (on v) (fld v 8 8) 12 96) (R.clk_PLL_CFG k) 1 ++
    failIf (on v && (decide (100 * fld v 8 8 < 1200 * fld v 0 3) || decide (2400 * fld v 0 3 < 100 * fld v 8 8)))
      (R.clk_PLL_CFG k) 1 ++
    failIf ((List.range 4).any fun j => bad false (fld od (8 * j) 8) 2 64) (R.clk_PLL_ODIV k) 1 ++
    failIf ((List.range 4).any used &&
      (fld v 0 3 != fld (old (R.clk_PLL_CFG k)) 0 3 || fld v 8 8 != fld (old (R.clk_PLL_CFG k)) 8 8)) (R.clk_PLL_CFG k) 3 ++
    failIf ((List.range 4).any fun j => used j && fld od (8 * j) 8 != fld (old (R.clk_PLL_ODIV k)) (8 * j) 8)
      (R.clk_PLL_ODIV k) 3) ++
  ((List.range 32).flatMap fun i =>
    let v := gc i
    let src := gclkSource v
    failIf (decide (57 ≤ fld v 0 6) || decide (57 ≤ fld v 8 6) || bad (on v) (fld v 20 5) 1 16) (R.clk_GCLK_CFG i) 1 ++
    failIf (on v && tooFast600 (sourceMhz g src) (fld v 20 5)) (R.clk_GCLK_CFG i) 4 ++
    failIf (on v && decide (src < 32) && (pllOut g src).isNone) (R.clk_GCLK_CFG i) 2) ++
  ((List.range 16).flatMap fun c => (List.range 8).flatMap fun i =>
    let v := g (R.clk_RCLK_CFG c i)
    let en := fld v 16 1 == 1
    let top := gc (fld v 0 5)
    let r := g (R.clk_RRST_CFG c i)
    failIf (bad en (fld v 8 5) 1 16) (R.clk_RCLK_CFG c i) 1 ++
    failIf (en && tooFast600 (sourceMhz g (gclkSource top)) (fld top 20 5 * fld v 8 5)) (R.clk_RCLK_CFG c i) 4 ++
    failIf (en && !on top) (R.clk_RCLK_CFG c i) 2 ++
    failIf (fld r 0 2 != 0 && (decide (fld r 4 3 < 2) || decide (4 < fld r 4 3))) (R.clk_RRST_CFG c i) 1)

/-- A clock set stands, over the registers `old`: a changed multiplexer switches, a PLL that is off or changed is not locked, a stopped
clock whose GCLK_CFG changed runs again (R480, R482, R485). -/
def Device.clkApplied (d : Device) (old : Nat → Word) : Device :=
  let d1 := (List.range 8).foldl (fun d k =>
    let v := d.reg (R.clk_PLL_CFG k)
    if v ≠ old (R.clk_PLL_CFG k) ∨ d.reg (R.clk_PLL_ODIV k) ≠ old (R.clk_PLL_ODIV k) then d.setF R.clk_PLL_LOCKED k 1 0 else d) d
  (List.range 32).foldl (fun d i =>
    let v := d.reg (R.clk_GCLK_CFG i)
    let o := old (R.clk_GCLK_CFG i)
    if v = o then d
    else
      let d2 := d.setF R.clk_GCLK_STOPPED i 1 0
      if fld v 31 1 = 1 ∧ fld o 31 1 = 1 ∧ gclkSource v ≠ gclkSource o then
        (d2.setF R.clk_SWITCHING i 1 1).setLath { d2.lath with stuck := d2.lath.stuck.filter fun x => !(x == i) }
      else if fld v 31 1 = 0 then d2.setF R.clk_SWITCHING i 1 0
      else d2) d1

end Sys2Proof.Machine
end

