-- ==== Sys2Proof/Machine/Images.lean ====
section
/-! DEFINITION. Machine/Images.lean: the two image formats: header, directory, signature block, sections and their records (chapter 10,
R265 to R274; Table 18.6). -/
namespace Sys2Proof.Machine

/-! ### Containers (R265, R266) -/

/-- Bytes [o, o + n) of a byte list. -/
def slice_ (l : List Byte) (o n : Nat) : List Byte := (l.drop o).take n
/-- The word at a byte offset. -/
def wordAt (l : List Byte) (o : Nat) : Word := wd (at_ l o 4)
/-- Whether every byte of [o, o + n) is 0. -/
def zeroAt (l : List Byte) (o n : Nat) : Bool := (slice_ l o n).all (· == 0)

/-- A section directory entry (Table 10.2) with its 48 bytes. -/
structure Dir where
  type : Nat
  index : Nat
  flags : Nat
  off : Nat
  size : Nat
  raw : List Byte
  deriving DecidableEq, Repr

/-- Directory entry i of an image. -/
def dirAt (l : List Byte) (i : Nat) : Dir :=
  let e := slice_ l (64 + 48 * i) 48
  ⟨at_ e 0 2, at_ e 2 2, at_ e 4 4, at_ e 8 8, at_ e 16 8, e⟩
/-- The directory of an image. -/
def dirs (l : List Byte) : List Dir := (List.range (at_ l 0x14 2)).map (dirAt l)
/-- ENC of an entry. -/
def Dir.enc (e : Dir) : Bool := e.flags % 2 == 1
/-- The plaintext size of a section. -/
def Dir.plainSize (e : Dir) : Nat := if e.enc then e.size - 16 else e.size
/-- SIG_OFFSET. -/
def sigOff (l : List Byte) : Nat := at_ l 0x20 8
/-- The signature block (Table 10.4). -/
def sigBlock (l : List Byte) : List Byte := slice_ l (sigOff l) 512

/-- Whether a section type belongs to a kind of image (Table 10.3). -/
def typeOk (skim : Bool) (t : Nat) : Bool :=
  if skim then t == 0x20 || t == 0x21 else decide (1 ≤ t ∧ t ≤ 4) || decide (0x10 ≤ t ∧ t ≤ 0x15)
/-- Whether a section belongs to a region (R267). -/
def regional (t : Nat) : Bool := decide (0x10 ≤ t ∧ t ≤ 0x15)

/-- Whether the section types of a directory occur as often as Table 10.3 states. -/
def countsOk (skim : Bool) (region : Option Nat) (ds : List Dir) : Bool :=
  let n := fun t => (ds.filter fun e => e.type == t).length
  let nr := fun t r => (ds.filter fun e => e.type == t && e.index == r).length
  if skim then n 0x20 == 1 && n 0x21 == 1
  else n 1 == 1 && n 2 == 1 && n 3 == 1 && decide (n 4 ≤ 1) && (List.range 64).all (fun r =>
      let h := nr 0x10 r
      decide (h ≤ 1) && nr 0x11 r == h && nr 0x12 r == h && decide (nr 0x13 r ≤ h) && decide (nr 0x14 r ≤ h) &&
        decide (nr 0x15 r ≤ h)) &&
    region.all fun r => nr 0x10 r == 1

/-- The plaintext size that Table 10.3 and Table 10.5 fix for a type. -/
def sizeOk (e : Dir) : Bool :=
  match e.type with
  | 1 => e.plainSize == 768
  | 2 => e.plainSize == 212992
  | 0x10 => e.plainSize == 128
  | 0x20 => e.plainSize == 16
  | _ => true

/-- Whether an entry's place obeys R265 and its type, index and size R266 and Table 10.2. -/
def Dir.ok (e : Dir) (skim : Bool) (n sig : Nat) : Bool :=
  typeOk skim e.type && decide (e.index < 64) && (regional e.type || e.index == 0) && e.off % 64 == 0 &&
    decide (64 + 48 * n ≤ e.off) && decide (e.off + e.size ≤ sig) && (!e.enc || decide (16 ≤ e.size)) && sizeOk e

/-- Check 2: R265, R266 and the size of the image area; a directory entry at fault is named. -/
def boxFail (l : List Byte) (skim : Bool) (region len : Option Nat) (area : Nat) : Option (Option Nat) :=
  let n := at_ l 0x14 2
  let sig := sigOff l
  let il := at_ l 8 8
  let ds := dirs l
  if il ≠ l.length ∨ area < il ∨ len.any (· != il) ∨ n = 0 ∨ 512 < n ∨ at_ l 0x18 8 ≠ 0x40 ∨ sig % 64 ≠ 0 ∨ il ≠ sig + 512 then some none
  else match ds.zipIdx.find? fun x => !(x.1.ok skim n sig && (ds.take x.2).all fun y => !overlap x.1.off x.1.size y.off y.size) with
    | some x => some (some x.2)
    | none => if countsOk skim region ds then none else some none

/-- The stored bytes of a section. -/
def Dir.stored (e : Dir) (l : List Byte) : List Byte := slice_ l e.off e.size

/-- The key of a section (R274). -/
def sectKey (l : List Byte) (e : Dir) : Option (List Byte) :=
  if e.flags / 2 % 2 = 0 then some Config.imageKey else Config.kwUnwrap (slice_ (sigBlock l) 0xD0 40) Config.imageKey

/-- The plaintext of a section (R274); none: the unwrap or the tag fails. -/
def Dir.plain (e : Dir) (l : List Byte) : Option (List Byte) :=
  if !e.enc then some (e.stored l)
  else (sectKey l e).bind fun k => (Config.gcmOpen k (slice_ e.raw 0x18 12) e.raw (e.stored l)).map fun p =>
    padTo e.plainSize (p.take e.plainSize)

/-! ### Region sections (R268, Table 10.5) -/

/-- The masks of the fields of the 35 words of a tile record, in offset order (R268, Table 4.6), with their offsets in the tile page. -/
def tileWords : List (Nat × Nat) :=
  [(0x110, 0xF), (0x114, 0x07FF001F), (0x118, 0x7FF)] ++ (List.range 8).map (fun c => (0x120 + 4 * c, 0x07FF07FF)) ++
    (List.range 8).map (fun c => (0x140 + 4 * c, 0x7F3F)) ++ (List.range 16).map fun s => (0x160 + 4 * s, 0xF1F)

/-- A tile record: REL, STAGE, its reserved byte, its RWC words in order, its op words. -/
structure TileRec where
  rel : Nat
  stage : Nat
  resv : Nat
  words : List Word
  ops : List (BitVec 64)
  deriving DecidableEq, Repr

/-- Op words of 8 bytes each. -/
def opWords (n : Nat) (l : List Byte) : List (BitVec 64) := (List.range n).map fun i => BitVec.ofNat 64 (at_ l (8 * i) 8)

/-- The tile records of a section; none: it ends inside a record. -/
def tileRecs : Nat → List Byte → Option (List TileRec)
  | _, [] => some []
  | 0, _ => none
  | fuel + 1, l =>
    let n := at_ l 4 4 % 16
    let len := 144 + 512 * n
    if l.length < len then none
    else (tileRecs fuel (l.drop len)).map fun r =>
      ⟨at_ l 0 2, at_ l 2 1, at_ l 3 1, (List.range 35).map fun i => wordAt l (4 + 4 * i), opWords (64 * n) (l.drop 144)⟩ :: r

/-- The tile records of a REGION_TILES plaintext. -/
def recsOf (l : List Byte) : Option (List TileRec) := tileRecs l.length l

/-- What a register of tile page k reads under a record. -/
def TileRec.word (x : TileRec) (k off : Nat) : Word :=
  ((tileWords.zip x.words).find? fun y => tilePage k + y.1.1 == off).map (·.2) |>.getD 0

/-- NUM_SLOTS, SLOT_LINES and the table count of slot 0 of a record. -/
def TileRec.slots (x : TileRec) : Nat := fld (x.words.getD 1 0) 0 5
/-- SLOT_LINES of a record. -/
def TileRec.lines (x : TileRec) : Nat := fld (x.words.getD 1 0) 16 11
/-- TBL_COUNT of slot 0 of a record. -/
def TileRec.tables (x : TileRec) : Nat := fld (x.words.getD 19 0) 8 4

/-- Fields of REGION_HDR (Table 10.5). -/
structure Hdr where
  nrows : Nat
  ncols : Nat
  latency : Nat
  interval : Nat
  stages : Nat
  rate : Nat
  hash : Nat
  stmts : List (Nat × Nat)
  n : Nat
  deriving DecidableEq, Repr

/-- REGION_HDR as its plaintext gives it. -/
def hdrOf (l : List Byte) : Hdr :=
  ⟨at_ l 0 1, at_ l 1 1, at_ l 4 4, at_ l 8 2, at_ l 10 2, at_ l 12 4, at_ l 16 8,
    (List.range (min 8 (at_ l 24 1))).map fun i => (at_ l (32 + 8 * i) 2, at_ l (36 + 8 * i) 4), at_ l 24 1⟩

/-- The fewest slots a region may have (R288). -/
def Hdr.minSlots (h : Hdr) : Nat := (h.latency + h.interval - 1) / h.interval + 3
/-- The lowest fill rate a region may have (R288). -/
def needRate (rs : List TileRec) : Nat :=
  let b := rs.filter fun r => r.slots ≠ 0
  let m := b.foldl (fun n r => max n r.lines) 0
  let s := (b.map fun r => r.lines * 128).sum
  if m = 0 then 0 else (s + 4 * m - 1) / (4 * m)

/-! ### Weight-store sections (Table 10.3) -/

/-- A stream record: slice, stream, SCFG, SADDR, SLEN. -/
structure StreamRec where
  slice : Nat
  stream : Nat
  cfg : Word
  addr : Word
  len : Word
  deriving DecidableEq, Repr

/-- A fill record: slice, first line, lines, and their bytes. -/
structure FillRec where
  slice : Nat
  line : Nat
  count : Nat
  bytes : List Byte
  deriving DecidableEq, Repr

/-- Fill records of the rest of a section; none: it ends inside a record. -/
def fillRecs : Nat → List Byte → Option (List FillRec)
  | _, [] => some []
  | 0, _ => none
  | fuel + 1, l =>
    let n := at_ l 5 4
    if l.length < 9 + 32 * n then none
    else (fillRecs fuel (l.drop (9 + 32 * n))).map fun r => ⟨at_ l 0 1, at_ l 1 4, n, slice_ l 9 (32 * n)⟩ :: r

/-- The n stream records at the front of a section. -/
def streamRecs (n : Nat) (l : List Byte) : List StreamRec :=
  (List.range n).map fun i => ⟨at_ l (14 * i) 1, at_ l (14 * i + 1) 1, wordAt l (14 * i + 2), wordAt l (14 * i + 6), wordAt l (14 * i + 10)⟩

/-- A weight-store section. Table 10.3 gives no count of its stream records: the fewest after which the rest is whole fill records,
with every slice and stream in range, are taken (DESIGN CHOICE; log entry 131). -/
def wstRecs (l : List Byte) : Option (List StreamRec × List FillRec) :=
  (List.range (l.length / 14 + 1)).findSome? fun n =>
    (fillRecs (l.length + 1) (l.drop (14 * n))).bind fun fs =>
      if fs.all (fun f => decide (f.slice < 64)) ∧ (streamRecs n l).all (fun x => decide (x.slice < 64) && decide (x.stream < 8)) then
        some (streamRecs n l, fs)
      else none

/-! ### Lath bitstreams (Table 18.6) -/

/-- A Lath bitstream. -/
structure LathBits where
  kind : Nat
  blocks : Nat
  lra : Nat
  owner : List Nat
  clks : List (Nat × Nat × Word)
  ports : List (Nat × Nat)
  nets : List Nat
  frames : List (Nat × Nat × List Byte)
  deriving DecidableEq, Repr

/-- The size that the counts of a bitstream's header give. -/
def lathSize (l : List Byte) : Nat := 0x60 + 8 * at_ l 6 2 + 4 * at_ l 0x18 2 + 4 * at_ l 0x14 4 + 520 * at_ l 0x10 4

/-- A bitstream; each frame with its FAR, CRC and bytes. -/
def lathOf (l : List Byte) : LathBits :=
  let nc := at_ l 6 2
  let np := at_ l 0x18 2
  let nn := at_ l 0x14 4
  let nf := at_ l 0x10 4
  let a := l.drop 0x60
  let b := a.drop (8 * nc)
  let c := b.drop (4 * np)
  let e := c.drop (4 * nn)
  ⟨at_ l 4 2, at_ l 8 8, at_ l 0x1A 1, (List.range 64).map fun i => at_ l (0x20 + i) 1,
    (List.range nc).map fun i => (at_ a (8 * i) 2, at_ a (8 * i + 2) 2, wordAt a (8 * i + 4)),
    (List.range np).map fun i => (at_ b (4 * i) 1, at_ b (4 * i + 1) 1),
    (List.range nn).map fun i => at_ c (4 * i) 4,
    (chunk 520 nf e).map fun f => (at_ f 0 4, at_ f 4 2, f.drop 8)⟩

/-- The blocks of a mask. -/
def maskBlocks (m : Nat) : List Nat := (List.range 64).filter fun b => m / 2 ^ b % 2 == 1

/-- The frame key of a FAR. -/
def farKey (far : Nat) : Nat := 1280 * (far / 65536) + far % 65536

/-! ### The Render's base (Table 10.3) -/

/-- Entry r of BASE_MAP, and the two binding words of pipeline p. -/
def mapEntry (l : List Byte) (r : Nat) : Word := wordAt l (4 * r)
/-- ING_CFG of pipeline p. -/
def mapIng (l : List Byte) (p : Nat) : Word := wordAt l (256 + 8 * p)
/-- EGR_CFG of pipeline p. -/
def mapEgr (l : List Byte) (p : Nat) : Word := wordAt l (260 + 8 * p)

/-- The plaintext of the first section of a type and index. -/
def sect (ss : List Sect) (t r : Nat) : Option (List Byte) := (ss.find? fun x => x.type == t && x.index == r).map (·.plain)
/-- The same, empty when absent. -/
def sectD (ss : List Sect) (t r : Nat) : List Byte := (sect ss t r).getD []
/-- The regions of an image that have a section (R267). -/
def sectRegions (ss : List Sect) : List Nat := (ss.filter fun x => x.type == 0x10).map (·.index)
/-- The tile records of region r. -/
def recs (ss : List Sect) (r : Nat) : List TileRec := (recsOf (sectD ss 0x11 r)).getD []

/-- The logical tile of REL in a region whose BASE_MAP entry is v. -/
def relIn (v : Word) (rel : Nat) : Nat := relTile (fld v 0 3) (fld v 4 3) (fld v 12 4) rel

/-- The shape hash of a region section (R271). -/
def shapeHash (ss : List Sect) (r : Nat) : Nat :=
  fromLe ((Config.sha384 ((sectD ss 0x10 r).take 2 ++ sectD ss 0x11 r ++ sectD ss 0x12 r)).take 8)

end Sys2Proof.Machine
end

