-- ==== Sys2Proof/Machine/Lath.lean ====
section
/-! DEFINITION. Machine/Lath.lean: fabric PLLs and clocks, Lath ports, block RAMs and frame readback (chapter 18, R476 to R498).
The register-access port stands in Machine/Bus.lean. -/
namespace Sys2Proof.Machine

/-! ### PLLs and clocks (R480 to R485) -/

/-- Fabric PLL k locks. -/
def fpllLock (k : Fin 8) (t : Nat) (d : Device) : Device :=
  let d0 := d.at t
  if d0.rf (R.clk_PLL_CFG k) 31 1 = 1 then d0.setF R.clk_PLL_LOCKED k 1 1 else d0
/-- FPLL_LOCK (R480). -/
def execFpllLock (k : Fin 8) (t : Nat) (s : State) : Host.Outcome State Fault Refusal := onDev (fpllLock k t) s

/-- Fabric PLL k loses lock. -/
def pllUnlock (k : Fin 8) (t : Nat) (d : Device) : Device :=
  let d0 := d.at t
  if d0.rf R.clk_PLL_LOCKED k 1 = 1 then
    (((d0.setF R.clk_PLL_LOCKED k 1 0).count (R.clk_PLL_UNLOCKS k) 1).evtBit 0x200C000 16).err 0x200C000 0x0100 (wd k.val) 0
  else d0
/-- PLL_UNLOCK (R480). -/
def execPllUnlock (k : Fin 8) (t : Nat) (s : State) : Host.Outcome State Fault Refusal := onDev (pllUnlock k t) s

/-- The multiplexer of global clock g follows its new source. -/
def clockSwitchDone (g : Fin 32) (t : Nat) (d : Device) : Device :=
  let d0 := d.at t
  if d0.rf R.clk_SWITCHING g 1 = 1 then
    let d1 := d0.setF R.clk_SWITCHING g 1 0
    d1.setLath { d1.lath with stuck := d1.lath.stuck.filter fun x => !(x == g.val) }
  else d0
/-- CLOCK_SWITCH_DONE (R482). -/
def execClockSwitchDone (g : Fin 32) (t : Nat) (s : State) : Host.Outcome State Fault Refusal := onDev (clockSwitchDone g t) s

/-- The outgoing clock of a switch shows no edge for 1 µs: step 1 ends at once. -/
def stuckSwitch (g : Fin 32) (t : Nat) (d : Device) : Device :=
  let d0 := d.at t
  if d0.rf R.clk_SWITCHING g 1 = 1 ∧ !(d0.lath.stuck.contains g.val) then
    ((d0.setLath { d0.lath with stuck := g.val :: d0.lath.stuck }).count R.clk_STUCK_SWITCHES 1).evtBit 0x200C000 18 |>.err
      0x200C000 0x0102 (wd g.val) 0
  else d0
/-- STUCK_SWITCH (R482). -/
def execStuckSwitch (g : Fin 32) (t : Nat) (s : State) : Host.Outcome State Fault Refusal := onDev (stuckSwitch g t) s

/-- An aligned window ends: global clock g has been counted, and a count above 606,000 kHz stops it. -/
def gclkFreqWindow (g : Fin 32) (khz t : Nat) (d : Device) : Device :=
  let d0 := d.at t
  if d0.rf (R.clk_GCLK_CFG g) 31 1 = 0 ∨ Store.get zeroN d0.lath.counted g = d0.window + 1 then d0
  else
    let d1 := (d0.setLath { d0.lath with counted := Store.set zeroN d0.lath.counted g (d0.window + 1) }).setN (R.clk_GCLK_FREQ g)
      (min wordMax khz)
    if 606000 < khz ∧ d1.rf R.clk_GCLK_STOPPED g 1 = 0 then
      ((d1.setF R.clk_GCLK_STOPPED g 1 1).count R.clk_OVERFREQS 1).evtBit 0x200C000 17 |>.err 0x200C000 0x0101 (wd g.val)
        (wd (min wordMax khz))
    else d1
/-- GCLK_FREQ_WINDOW (R485). -/
def execGclkFreqWindow (g : Fin 32) (khz t : Nat) (s : State) : Host.Outcome State Fault Refusal := onDev (gclkFreqWindow g khz t) s

/-! ### Lath ports (R488, R489) -/

/-- Whether the Lath side of port r may move a flit in the direction that bit `i` of its record enables. -/
def Device.portOpen (d : Device) (r i : Nat) : Bool :=
  d.rf (R.lth_LPORT_CFG r) i 1 = 1 && !d.brst (portBlock r) && !d.portTaped r

/-- LP_TX: a flit moves into TX when VALID meets READY. -/
def lpTxTransfer (r : Fin 64) (tag : BitVec 4) (data : BitVec 256) (t cyc : Nat) (d : Device) : Device :=
  let d0 := (d.at t).atCyc cyc
  let l := Store.get noFlits d0.edge.lpTx r
  if d0.portOpen r 0 && decide (l.length < 32) then
    let f : Flit := ⟨tag, 0, data⟩
    let d1 := d0.sourceArrives r f
    { d1 with edge := { d1.edge with lpTx := Store.set noFlits d1.edge.lpTx r (l ++ [f]) } }
  else d0
/-- LP_TX_TRANSFER (R488). -/
def execLpTxTransfer (r : Fin 64) (tag : BitVec 4) (data : BitVec 256) (t cyc : Nat) (s : State) :
    Host.Outcome State Fault Refusal := onDev (lpTxTransfer r tag data t cyc) s

/-- LP_RX: the oldest flit of RX moves to the Lath logic. -/
def lpRxTransfer (r : Fin 64) (t : Nat) (d : Device) : Device :=
  let d0 := (d.at t).countRxWait r
  match Store.get noFlits d0.edge.lpRx r with
  | [] => d0
  | f :: l =>
    if d0.portOpen r 1 then { d0 with edge := { d0.edge with lpRx := Store.set noFlits d0.edge.lpRx r l } }.emit (.lath r f) else d0
/-- LP_RX_TRANSFER (R488). -/
def execLpRxTransfer (r : Fin 64) (t : Nat) (s : State) : Host.Outcome State Fault Refusal := onDev (lpRxTransfer r t) s

/-! ### Block RAM (R475 to R477) -/

/-- An access of one edge at a block RAM of a block whose logic runs. -/
def bramAccess (b : Fin 64) (j : Fin 30) (a : Sys2Proof.BramAcc) (t : Nat) (d : Device) : Device :=
  let d0 := d.at t
  let u := 30 * b.val + j.val
  if d0.brst b then d0
  else match a.mode with
    | .duo i => d0.setLath (d0.lath.duo u (2 ^ i.val) a)
    | .wide => d0.setLath (d0.lath.wide u a)
    | .ring len del => d0.setLath (d0.lath.ring u len del a)
    | .guard =>
      let (x, ce, ue) := d0.lath.guarded u a
      let d1 := if ce then (d0.setLath x).countCe (R.lth_BRAM_CE b) else d0.setLath x
      if ue then ((d1.count (R.lth_BRAM_UE b) 1).evtBit 0xF8000 17).err 0xF8000 0x0101 (wd (b.val + 256 * j.val)) 0 else d1
/-- BRAM_ACCESS (R476). -/
def execBramAccess (b : Fin 64) (j : Fin 30) (a : BramAcc) (t : Nat) (s : State) : Host.Outcome State Fault Refusal :=
  onDev (bramAccess b j a t) s

/-! ### Frame readback (R498) -/

/-- The words of a frame into RB_DATA; a word read with an uncorrectable error is a free value (log entry 4). -/
def Device.readbackWords (d : Device) (bad : Nat → Bool) : Nat → List Byte → Nat → Device
  | 0, _, _ => d
  | n + 1, l, i =>
    if bad (i / 2) then
      let (w, d1) := d.fresh
      Device.readbackWords (d1.setReg (R.lth_RB_DATA i) w) bad n (l.drop 4) (i + 1)
    else Device.readbackWords (d.setN (R.lth_RB_DATA i) (fromLe (l.take 4))) bad n (l.drop 4) (i + 1)

/-- RB_GO reads the frame that RB_FAR names; refused for a BLANK block and for the content frames of a CONFIGURED one. -/
def frameReadback (q : Req) (d : Device) : Device :=
  d.writeAt q R.lth_RB_GO fun d =>
    let f := d.rf R.lth_RB_FAR 0 11
    let b := d.rf R.lth_RB_FAR 16 6
    if fld q.data 0 1 = 0 then d
    else if d.blockState b = 0 ∨ (d.blockState b = 2 ∧ 1010 ≤ f) then d.setN R.lth_RB_STATUS 8
    else
      let bad := fun w : Nat => d.upsets.any fun u => u.mem == .lathFrame && u.unit == b && u.word == 64 * f + w && u.ue
      let ue := (List.range 64).any bad
      ((d.readbackWords bad 128 (d.frame b f) 0).setN R.lth_RB_CRC (Store.get zeroN d.lath.crcs (1280 * b + f))).setN R.lth_RB_STATUS
        (2 + 4 * b2n ue)
/-- FRAME_READBACK (R498). -/
def execFrameReadback (q : Req) (s : State) : Host.Outcome State Fault Refusal := onDev (frameReadback q) s

end Sys2Proof.Machine
end

