-- ==== Sys2Proof/Machine/Board.lean ====
section
/-! DEFINITION. Machine/Board.lean: I/O banks, transceivers, Ethernet with its PTP clocks, the sideband's messages and the presence
outputs (chapter 19, R501 to R532). Register access over the sideband stands in Machine/Bus.lean. -/
namespace Sys2Proof.Machine

/-! ### Banks and lanes (R502, R531) -/

/-- The supply of bank b is measured outside its band. -/
def vccoFault (b : Fin 12) (mv t : Nat) (d : Device) : Device :=
  let d0 := d.at t
  let d1 := d0.setF (R.iob_BANK_STAT b) 0 13 mv
  if d0.vccoIn b mv || d0.rf (R.iob_BANK_STAT b) 16 1 = 0 then d1
  else ((d1.setF (R.iob_BANK_STAT b) 16 1 0).evtBit (0x2000000 + 0x1000 * b) 16).err (0x2000000 + 0x1000 * b) 0x0100 (wd mv) 0
/-- VCCO_FAULT (R502). -/
def execVccoFault (b : Fin 12) (mv t : Nat) (s : State) : Host.Outcome State Fault Refusal := onDev (vccoFault b mv t) s

/-- The supply of bank b is measured inside its band. -/
def vccoGood (b : Fin 12) (mv t : Nat) (d : Device) : Device :=
  let d0 := d.at t
  let d1 := d0.setF (R.iob_BANK_STAT b) 0 13 mv
  if d0.vccoIn b mv then d1.setF (R.iob_BANK_STAT b) 16 1 1 else d1
/-- VCCO_GOOD (R502). -/
def execVccoGood (b : Fin 12) (mv t : Nat) (s : State) : Host.Outcome State Fault Refusal := onDev (vccoGood b mv t) s

/-- Lane l loses CDR lock, and alignment with it, or alignment alone. -/
def lockLost (l : Fin 32) (cdr : Bool) (t : Nat) (d : Device) : Device :=
  let d0 := d.at t
  if d0.rf (R.xcv_LANE_STATUS l) (if cdr then 1 else 2) 1 = 0 then d0
  else
    let d1 := (if cdr then d0.setF (R.xcv_LANE_STATUS l) 1 1 0 else d0).setF (R.xcv_LANE_STATUS l) 2 1 0
    (d1.evtBit (0x2010000 + 0x1000 * l) 16).err (0x2010000 + 0x1000 * l) 0x0100 0 0
/-- LOCK_LOST (R531). -/
def execLockLost (l : Fin 32) (cdr : Bool) (t : Nat) (s : State) : Host.Outcome State Fault Refusal := onDev (lockLost l cdr t) s

/-- Lane l gains CDR lock and, in a PCS mode that aligns, alignment. -/
def laneLocked (l : Fin 32) (t : Nat) (d : Device) : Device :=
  let d0 := d.at t
  if d0.rf (R.xcv_LANE_CFG l) 0 1 = 1 then d0.setF (R.xcv_LANE_STATUS l) 0 3 (if d0.rf (R.xcv_LANE_CFG l) 1 2 = 0 then 3 else 7) else d0
/-- LANE_LOCKED (R531). -/
def execLaneLocked (l : Fin 32) (t : Nat) (s : State) : Host.Outcome State Fault Refusal := onDev (laneLocked l t) s

/-! ### PTP clocks (R511, R512) -/

/-- SEC and NS of port p's clock as a timestamp of the present tick; at the tick of a step, of the clock before it (R513). -/
def Device.stamp (d : Device) (p : Nat) : Nat × Nat :=
  let k := Store.get ptpClk0 d.plb.ptp p
  let ns := match k.before with
    | some b => if k.since = d.now.tick then b / 2 ^ 32 else d.ptpNs p d.now.tick
    | none => d.ptpNs p d.now.tick
  ((ns / 1000000000 % 2 ^ 48).toNat, (ns % 1000000000).toNat)

/-- A step: the clock takes the value `f` makes of it at the next tick, and every channel that counts it jumps (R81, R89, R512). -/
def Device.ptpStepTo (d : Device) (p : Nat) (f : Int → Int) : Device :=
  let d0 := d.at (d.now.tick + 1)
  let old := d0.ptpAt p d0.now.tick
  let chs := (List.range 8).filter fun c => d0.chEnabled c && d0.srcKind c == 2 && d0.srcPort c == p
  let counts := fun (d : Device) (c : Nat) => d.ptpValid p && (d.ch c).st != .off && (d.ch c).st != .coasting
  let d1 := chs.foldl (fun d c => (d.duePredicted c (· ≤ d.now.tick)).syncCh c) d0
  let d2 := { d1 with plb := { d1.plb with ptp := Store.set ptpClk0 d1.plb.ptp p ⟨f old, d1.now.tick, some old⟩ } }
  chs.foldl (fun d c =>
    let x := d.ch c
    let k := d.ptpNs p d.now.tick - x.ns
    let ns := d.ptpNs p d.now.tick
    if x.st = .coasting ∧ d.ptpValid p then
      let (u, r) := applyCounts (d.chNum c) (d.chDen c) x.followU x.followRem k
      d.setCh c { x with followU := u, followRem := r, ns := ns }
    else if counts d c then
      let (u, r) := applyCounts (d.chNum c) (d.chDen c) x.u x.rem k
      let d3 := d.setCh c { x with u := u, rem := r, ns := ns, tEdge := d.now.tick }
      (d3.dueReached c (d3.chU c) ⟨d3.now.tick, false, false, true, 0⟩).repredictCh c
    else d.setCh c { x with ns := ns }) d2

/-- A write of a register of the PTP clocks that only MGMT and SUPERVISOR make (R512). -/
def Device.ptpWrite (d : Device) (q : Req) (off : Nat) (k : Device → Device) : Device :=
  d.writeAt q off fun d => if portCode q.port = 0 ∨ portCode q.port = 7 then k d else d.errAccess 0x0001 q.port off true

/-- PTP_STEP_HI: {HI, staged LO} is written and added to the clock in nanoseconds. -/
def ptpStep (p : Fin 2) (q : Req) (d : Device) : Device :=
  d.ptpWrite q (R.eth_PTP_STEP_HI p) fun d =>
    let d1 := d.writePairHi q.port (R.eth_PTP_STEP_LO p) q.data
    let x := sext 64 (d1.rn64 (R.eth_PTP_STEP_LO p))
    d1.ptpStepTo p fun v => v + x * 2 ^ 32
/-- PTP_STEP (R512). -/
def execPtpStep (p : Fin 2) (q : Req) (s : State) : Host.Outcome State Fault Refusal := onDev (ptpStep p q) s

/-- PTP_SET_GO: SEC and NS are loaded from PTP_SET, FRAC becomes 0. -/
def ptpSetGo (p : Fin 2) (q : Req) (d : Device) : Device :=
  d.ptpWrite q (R.eth_PTP_SET_GO p) fun d =>
    if fld q.data 0 1 = 0 then d
    else
      let sec := d.rn (R.eth_PTP_SET_SEC_LO p) + 2 ^ 32 * d.rf (R.eth_PTP_SET_SEC_HI p) 0 16
      d.ptpStepTo p fun _ => ((sec * 1000000000 + d.rn (R.eth_PTP_SET_NS p) : Nat) : Int) * 2 ^ 32
/-- PTP_SET_GO (R512). -/
def execPtpSetGo (p : Fin 2) (q : Req) (s : State) : Host.Outcome State Fault Refusal := onDev (ptpSetGo p q) s

/-! ### Ethernet frames (R509 to R516) -/

/-- LINK_UP of port p. -/
def Device.ethUp (d : Device) (p : Nat) : Bool := d.rf (R.eth_PORT_STATUS p) 0 1 = 1

/-- Two bytes of a frame, big-endian. -/
def be16 (b : List Byte) (i : Nat) : Nat := 256 * (b.getD i 0).toNat + (b.getD (i + 1) 0).toNat

/-- Whether a frame is a PTP frame (R516). -/
def isPtpFrame (b : List Byte) : Bool :=
  let o := if be16 b 12 = 0x8100 then 18 else 14
  let ty := be16 b (o - 2)
  let udp := fun n : Nat => be16 b n == 319 || be16 b n == 320
  ty == 0x88F7 ||
    (ty == 0x0800 && (b.getD (o + 9) 0).toNat == 17 && udp (o + (b.getD o 0).toNat % 16 * 4 + 2)) ||
    (ty == 0x86DD && (b.getD (o + 6) 0).toNat == 17 && udp (o + 42))

/-- A PTP frame goes to the lowest free capture slot (R516). -/
def Device.capture (d : Device) (p : Nat) (b : List Byte) : Device :=
  match (List.range 4).find? fun s => d.rf (R.eth_RX_SLOT_FULL p) s 1 = 0 with
  | some s =>
    if b.length ≤ 256 then
      let (sec, ns) := d.stamp p
      let d1 := (d.setN (R.eth_RX_SLOT_INFO p s) b.length).setN (R.eth_RX_SLOT_TS p s) (ns + 2 ^ 30 * (sec % 4))
      let d2 := (chunk 4 (b.length / 4 + 1) b).zipIdx.foldl (fun d x => d.setN (R.eth_RX_SLOT_DATA p s x.2) (fromLe x.1)) d1
      (d2.setF (R.eth_RX_SLOT_FULL p) s 1 1).evtBit 0x2033000 (16 + p)
    else d.count (R.eth_PTP_RX_LOST p) 1
  | none => d.count (R.eth_PTP_RX_LOST p) 1

/-- A frame reaches port p: `good` its FCS, `full` whether the client's RX buffer has no room. -/
def ethRxFrame (p : Fin 2) (bytes : List Byte) (good full : Bool) (t : Nat) (d : Device) : Device :=
  let d0 := d.at t
  if !d0.ethUp p then d0
  else if !good || decide (bytes.length < 64) || decide (9216 < bytes.length) then d0.count (R.eth_RX_BAD p) 1
  else
    let d1 := d0.count64 (R.eth_RX_FRAMES_LO p) 1
    let steer := if isPtpFrame bytes then d1.rf (R.eth_PORT_CFG p) 8 2 else 0
    let d2 := if steer = 0 then d1 else d1.capture p bytes
    if steer = 1 then d2
    else if d2.brst p || full then d2.count (R.eth_RX_OVERFLOW p) 1
    else d2.emit (.frame 0 p bytes)
/-- ETH_RX_FRAME (R513). -/
def execEthRxFrame (p : Fin 2) (bytes : List (BitVec 8)) (good full : Bool) (t : Nat) (s : State) :
    Host.Outcome State Fault Refusal := onDev (ethRxFrame p bytes good full t) s

/-- Replace the bytes of a frame from an offset. -/
def putBytes (b : List Byte) (o : Nat) (x : List Byte) : List Byte := b.take o ++ x ++ b.drop (o + x.length)

/-- Sum of the 16-bit words of a checksum that bytes at offset `o` contribute, for a checksum at offset c. -/
def wordSum (b : List Byte) (o n c : Nat) : Nat :=
  (List.range n).foldl (fun s i => s + (b.getD (o + i) 0).toNat * (if (o + i + c) % 2 = 0 then 256 else 1)) 0

/-- A one-step frame: the timestamp at TS_OFF, and the checksum at CKSUM_OFF updated (R515); none where either lies beyond the
frame. -/
def oneStepFrame (b : List Byte) (off ck sec ns : Nat) : Option (List Byte) :=
  if b.length < off + 10 ∨ (ck ≠ 0 ∧ b.length < ck + 2) then none
  else
    let x := putBytes b off ((leBytes 6 sec).reverse ++ (leBytes 4 ns).reverse)
    if ck = 0 then some x
    else
      let old := wordSum b off 10 ck
      let new := wordSum x off 10 ck
      let s := (65535 - be16 b ck) + new + (65535 * 65535 - old)
      some (putBytes x ck (leBytes 2 (65535 - s % 65535)).reverse)

/-- A frame leaves port p: counted, timestamped where it asks for it, rewritten where it is one-step. -/
def Device.ethSend (d : Device) (p : Nat) (b : List Byte) (tag : Option Nat) (one : Option (Nat × Nat)) : Device :=
  let (sec, ns) := d.stamp p
  let d1 := d.count64 (R.eth_TX_FRAMES_LO p) 1
  let d2 := match tag with
    | none => d1
    | some g =>
      let l := Store.get noStamps d1.board.txts p
      if l.length < 16 then { d1 with board := { d1.board with txts := Store.set noStamps d1.board.txts p (l ++ [(⟨g, sec, ns⟩ : TxStamp)]) } }
      else d1.count (R.eth_TXTS_LOST p) 1
  match one with
  | none => d2.emit (.frame 1 p b)
  | some (o, c) => match oneStepFrame b o c sec ns with
    | some x => d2.emit (.frame 1 p x)
    | none => (d2.count (R.eth_ONESTEP_ERR p) 1).emit (.frame 1 p b)

/-- The bytes of transmit slot s of port p. -/
def Device.slotBytes (d : Device) (p s n : Nat) : List Byte :=
  ((List.range 64).flatMap fun w => leBytes 4 (d.rn (R.eth_TX_SLOT_DATA p s w))).take n

/-- The next frame of port p is sent: that of a waiting transmit slot, else the client's. -/
def ethTxFrame (p : Fin 2) (f : Option Sys2Proof.ClientFrame) (t : Nat) (d : Device) : Device :=
  let d0 := d.at t
  if !d0.ethUp p then d0
  else match d0.board.txq.find? fun x => x / 2 = p.val with
    | some x =>
      let s := x % 2
      let c := d0.reg (R.eth_TX_SLOT_CTRL p s)
      let o := d0.reg (R.eth_TX_SLOT_OPT p s)
      let d1 := { d0 with board := { d0.board with txq := d0.board.txq.erase x } }.ethSend p (d0.slotBytes p s (fld c 0 9))
        (if fld c 16 1 = 1 then some (fld o 0 8) else none) (if fld c 17 1 = 1 then some (fld o 8 8, fld o 16 8) else none)
      (d1.setF R.eth_TX_SLOT_DONE x 1 1).evtBit 0x2033000 (18 + p)
    | none => match f with
      | some c =>
        if d0.brst p || decide (c.bytes.length < 64) || decide (9216 < c.bytes.length) then d0
        else d0.ethSend p c.bytes (c.tsReq.map (·.toNat)) c.oneStep
      | none => d0
/-- ETH_TX_FRAME (R513). -/
def execEthTxFrame (p : Fin 2) (f : Option ClientFrame) (t : Nat) (s : State) : Host.Outcome State Fault Refusal :=
  onDev (ethTxFrame p f t) s

/-- The link of port p goes down. -/
def ethLinkDown (p : Fin 2) (t : Nat) (d : Device) : Device :=
  let d0 := d.at t
  if d0.ethUp p then
    ((d0.setN (R.eth_PORT_STATUS p) 0).evtBit (0x2030000 + 0x1000 * p) 16).err (0x2030000 + 0x1000 * p) 0x0100 (wd p.val) 0
  else d0
/-- ETH_LINK_DOWN (R532). -/
def execEthLinkDown (p : Fin 2) (t : Nat) (s : State) : Host.Outcome State Fault Refusal := onDev (ethLinkDown p t) s

/-- The link of an enabled port comes up. -/
def ethLinkUp (p : Fin 2) (t : Nat) (d : Device) : Device :=
  let d0 := d.at t
  if d0.rf (R.eth_PORT_CFG p) 31 1 = 1 then d0.setN (R.eth_PORT_STATUS p) (1 + 2 * d0.rf (R.eth_PORT_CFG p) 5 1) else d0
/-- ETH_LINK_UP (R509). -/
def execEthLinkUp (p : Fin 2) (t : Nat) (s : State) : Host.Outcome State Fault Refusal := onDev (ethLinkUp p t) s

/-- A read of TXTS_POP pops the oldest timestamp. -/
def txtsPop (p : Fin 2) (q : Req) (d : Device) : Device :=
  d.readAt q (R.eth_TXTS_POP p) fun d =>
    match Store.get noStamps d.board.txts p with
    | [] => d.setN (R.eth_TXTS_POP p) 0
    | x :: l =>
      ((({ d with board := { d.board with txts := Store.set noStamps d.board.txts p l } }.setN (R.eth_TXTS_POP p)
        (l.length + 256 * (x.tag % 256) + 2 ^ 31)).setN (R.eth_TXTS_SEC p) (x.sec % 2 ^ 32)).setN (R.eth_TXTS_NS p) x.ns)
/-- TXTS_POP (R514). -/
def execTxtsPop (p : Fin 2) (q : Req) (s : State) : Host.Outcome State Fault Refusal := onDev (txtsPop p q) s

/-- A write of TX_SLOT_CTRL with GO: the slot's frame waits for the next frame boundary. -/
def txSlotGo (p k : Fin 2) (q : Req) (d : Device) : Device :=
  d.writeAt q (R.eth_TX_SLOT_CTRL p k) fun d =>
    let d1 := d.writeFields q.port (R.eth_TX_SLOT_CTRL p k) q.data
    let x := 2 * p.val + k.val
    if fld q.data 31 1 = 0 then d1
    else if fld q.data 0 9 < 64 ∨ 256 < fld q.data 0 9 then d1.errValue 0x0003 q.port (R.eth_TX_SLOT_CTRL p k) q.data
    else if d1.board.txq.contains x then d1
    else { d1 with board := { d1.board with txq := d1.board.txq ++ [x] } }
/-- TX_SLOT_GO (R516). -/
def execTxSlotGo (p k : Fin 2) (q : Req) (s : State) : Host.Outcome State Fault Refusal := onDev (txSlotGo p k q) s

/-! ### Sideband messages (R517, R518, R520) -/

/-- Whether the always-on island hears the sideband. -/
def Device.sbOn (d : Device) : Bool := d.boot.vaon && d.boot.vaux && !d.boot.por

/-- Whether firmware runs (R566): from PRIMED on. -/
def Device.fwRuns (d : Device) : Bool := 2 ≤ d.boot.mile

/-- An MCTP control message: Set Endpoint ID assigns the EID, and SIDEBAND_UP reads 1. -/
def sbMctpControl (m : Sys2Proof.MctpCtl) (t : Nat) (d : Device) : Device :=
  let d0 := d.at t
  if !d0.sbOn then d0
  else match m with
    | .setEid e =>
      if e = 0 ∨ e = 0xFF then d0.emit (.reply 3 2 0)
      else ((d0.setF R.iob_SB_STATUS 8 8 e.toNat).setF R.prt_PORT_INFO 6 1 1).emit (.reply 3 0 (wd e.toNat))
    | .getEid => d0.emit (.reply 3 0 (wd (d0.rf R.iob_SB_STATUS 8 8)))
    | .getVersion => d0.emit (.reply 3 0 0xF1F3F000#32)
    | .getTypes => d0.emit (.reply 3 0 0x7E050100#32)
/-- SB_MCTP_CONTROL (R518). -/
def execSbMctpControl (m : MctpCtl) (t : Nat) (s : State) : Host.Outcome State Fault Refusal := onDev (sbMctpControl m t) s

/-- The reading of a numeric sensor (R520). -/
def Device.numericSensor (d : Device) (id : Nat) : Option Nat :=
  if id = 1 then some (d.rf R.thm_TMAX 0 16)
  else if 2 ≤ id ∧ id ≤ 65 then some (d.rf (R.thm_SENSOR (id - 2)) 0 16)
  else if id = 66 then some (d.rn R.pow_PKG_POWER)
  else if id = 67 then some (d.rn R.pow_VCORE_NOW)
  else if id = 68 then some (d.rn R.pow_AON_POWER)
  else none

/-- A PLDM request: answered by firmware from the sensors of R520, its other answers free values; ERROR_NOT_READY (4) while
firmware does not run. -/
def sbPldm (m : Sys2Proof.PldmReq) (t : Nat) (d : Device) : Device :=
  let d0 := d.at t
  let own := fun d : Device =>
    let (w, d1) := d.fresh
    d1.emit (.reply 3 0 w)
  if !d0.sbOn then d0
  else if !d0.fwRuns then d0.emit (.reply 3 4 0)
  else match m with
    | .numeric id => match d0.numericSensor id with
      | some v => d0.emit (.reply 3 0 (wd v))
      | none => own d0
    | .state id =>
      if id = 80 then d0.emit (.reply 3 0 (d0.reg R.sec_DEV_STATE))
      else if id = 81 then d0.emit (.reply 3 0 (wd (b2n d0.tripped)))
      else own d0
    | .other => own d0
/-- SB_PLDM (R520). -/
def execSbPldm (m : PldmReq) (t : Nat) (s : State) : Host.Outcome State Fault Refusal := onDev (sbPldm m t) s

/-- An I3C controller assigns a dynamic address. -/
def sbDynamicAddress (a : BitVec 7) (t : Nat) (d : Device) : Device :=
  let d0 := d.at t
  if d0.sbOn ∧ d0.rf R.iob_SB_STATUS 0 1 = 1 then d0.setF R.iob_SB_STATUS 16 7 a.toNat else d0
/-- SB_DYNAMIC_ADDRESS (R517). -/
def execSbDynamicAddress (a : BitVec 7) (t : Nat) (s : State) : Host.Outcome State Fault Refusal := onDev (sbDynamicAddress a t) s

/-- A message of another type is discarded and counted. -/
def sbOtherMessage (t : Nat) (d : Device) : Device :=
  let d0 := d.at t
  if d0.sbOn then d0.count R.iob_SB_DROPPED 1 else d0
/-- SB_OTHER_MESSAGE (R518). -/
def execSbOtherMessage (t : Nat) (s : State) : Host.Outcome State Fault Refusal := onDev (sbOtherMessage t) s

/-- An SPDM request of the DOE mailbox or the sideband (R331, R518): the responder is firmware's, its answer a free value; Busy
while firmware does not run. -/
def spdmRequest (sb : Bool) (t : Nat) (d : Device) : Device :=
  let d0 := d.at t
  let p := if sb then 3 else 0
  if (sb && !d0.sbOn) || (!sb && d0.portD3 .mgmt) then d0
  else if !d0.fwRuns then d0.emit (.reply p 3 0)
  else
    let (w, d1) := d0.fresh
    d1.emit (.reply p 0 w)
/-- SPDM_REQUEST (R331). -/
def execSpdmRequest (sb : Bool) (t : Nat) (s : State) : Host.Outcome State Fault Refusal := onDev (spdmRequest sb t) s

/-! ### Presence outputs (R523 to R525) -/

/-- The test of ALIVE at a tick that is a multiple of the half-period. -/
def aliveTest (t : Nat) (d : Device) : Device :=
  let d0 := d.at t
  let h := 1000 * d0.rf R.iob_ALIVE_CFG 0 14
  if h = 0 ∨ d0.now.tick % h ≠ 0 ∨ !d0.presenceDriven ∨ d0.board.aliveTick = some d0.now.tick then d0
  else
    let d1 := { d0 with board := { d0.board with aliveTick := some d0.now.tick } }
    let en := d1.rf R.iob_ALIVE_CFG 31 1 = 1
    let beat : Bool := match d1.sup.beat with
      | some b => decide (d1.now.tick < b + 1000 * d1.rf R.iob_HB_WINDOW 0 24)
      | none => false
    let was := d1.rf R.iob_ALIVE_STATUS 0 1
    if en ∧ beat ∧ !d1.faultState then
      ((d1.setF R.iob_ALIVE_STATUS 0 1 1).setF R.iob_ALIVE_STATUS 1 1 (1 - d1.rf R.iob_ALIVE_STATUS 1 1)).setF R.iob_ALIVE_STATUS 4 2 0
    else
      let cause := if !en then 3 else if d1.faultState then 2 else 1
      let d2 := (d1.setF R.iob_ALIVE_STATUS 0 1 0).setF R.iob_ALIVE_STATUS 4 2 cause
      if was = 1 then (d2.count R.iob_ALIVE_STOPS 1).evtBit 0x2000000 17 else d2
/-- ALIVE_TEST (R523). -/
def execAliveTest (t : Nat) (s : State) : Host.Outcome State Fault Refusal := onDev (aliveTest t) s

/-- The two pads have disagreed for 1 µs. -/
def aliveFault (t : Nat) (d : Device) : Device :=
  let d0 := d.at t
  if d0.presenceDriven then ((d0.setF R.iob_ALIVE_STATUS 8 1 1).evtBit 0x2000000 18).presenceSync else d0
/-- ALIVE_FAULT (R523). -/
def execAliveFault (t : Nat) (s : State) : Host.Outcome State Fault Refusal := onDev (aliveFault t) s

/-- A write of 1 to ALIVE_CLEAR. -/
def aliveClear (q : Req) (d : Device) : Device :=
  d.writeAt q R.iob_ALIVE_CLEAR fun d => if fld q.data 0 1 = 1 then (d.setF R.iob_ALIVE_STATUS 8 1 0).presenceSync else d
/-- ALIVE_CLEAR (R523). -/
def execAliveClear (q : Req) (s : State) : Host.Outcome State Fault Refusal := onDev (aliveClear q) s

/-- A write of OK_REQ by MGMT or SUPERVISOR. -/
def okReqWrite (q : Req) (d : Device) : Device :=
  d.writeAt q R.iob_OK_REQ fun d => (d.writeFields q.port R.iob_OK_REQ q.data).presenceSync
/-- OK_REQ_WRITE (R525). -/
def execOkReqWrite (q : Req) (s : State) : Host.Outcome State Fault Refusal := onDev (okReqWrite q) s

end Sys2Proof.Machine
end

