-- ==== Sys2Proof/Machine/LwCore.lean ====
section
/-! DEFINITION. Machine/LwCore.lean: flits of the Linwald Link, replay, link-down, frames on peer channels, copies and register
requests as shared operations (chapter 20; log entries 108 to 117). -/
namespace Sys2Proof

/-- Table 20.1: the 252 bytes before the CRC. -/
def LwFlit.body (f : LwFlit) : List Byte :=
  let le := fun (n v : Nat) => Machine.leBytes n v
  le 1 f.fseq.toNat ++ le 1 f.ack.toNat ++ le 1 f.type.toNat ++ le 1 f.state.toNat ++ le 4 f.scyc.toNat ++ le 2 f.crMw.toNat ++
    le 2 f.crMr.toNat ++ le 2 f.crCtl.toNat ++ (((f.crStream ++ List.replicate 7 0).take 7).map fun (c : BitVec 24) => le 3 c.toNat).flatten ++ le 1 0 ++
    (((f.segs ++ List.replicate 6 (⟨0, 0⟩ : LwSeg)).take 6).map fun (s : LwSeg) => le 4 s.hdr.toNat ++ le 32 s.data.toNat).flatten

/-- One bit of the reflected CRC-32 of IEEE 802.3. -/
def crc32Bit (c : BitVec 32) : BitVec 32 := if c.getLsbD 0 then (c >>> 1) ^^^ 0xEDB88320#32 else c >>> 1

/-- One byte. -/
def crc32Byte (c : BitVec 32) (b : Byte) : BitVec 32 :=
  crc32Bit (crc32Bit (crc32Bit (crc32Bit (crc32Bit (crc32Bit (crc32Bit (crc32Bit (c ^^^ b.zeroExtend 32))))))))

/-- The CRC-32 of a byte list (R537). -/
def crc32 (l : List Byte) : BitVec 32 := ~~~(l.foldl crc32Byte 0xFFFFFFFF#32)

/-- Whether a flit is CRC-bad (R537). -/
def LwFlit.bad (f : LwFlit) (overlap : Bool) : Bool := overlap || crc32 f.body != f.crc

/-- The flit with its CRC computed. -/
def LwFlit.sealed (f : LwFlit) : LwFlit := { f with crc := crc32 f.body }

/-- TYPE of a flit: 0 DATA, 1 IDLE, 2 RETRY_REQ, 3 INIT. -/
def LwFlit.kind (f : LwFlit) : Nat := f.type.toNat % 4

/-- VC of a segment. -/
def LwSeg.vc (s : LwSeg) : Nat := s.hdr.toNat % 4
/-- VALID of a segment. -/
def LwSeg.valid (s : LwSeg) : Bool := s.hdr.toNat / 4 % 2 = 1
/-- KIND of a segment of MEMWRITE, MEMREAD or CONTROL. -/
def LwSeg.kind (s : LwSeg) : Nat := s.hdr.toNat / 16 % 16
/-- The bits per KIND of such a segment. -/
def LwSeg.arg (s : LwSeg) : Nat := s.hdr.toNat / 65536
/-- CH of a STREAM segment. -/
def LwSeg.ch (s : LwSeg) : Nat := s.hdr.toNat / 16 % 64
/-- DCYC of a STREAM segment. -/
def LwSeg.dcyc (s : LwSeg) : Nat := s.hdr.toNat / 2 ^ 26
/-- The Scrim flit of a STREAM segment. -/
def LwSeg.flit (s : LwSeg) : Flit := ⟨BitVec.ofNat 4 (s.hdr.toNat / 1024), BitVec.ofNat 12 (s.hdr.toNat / 2 ^ 14), s.data⟩

/-- A STREAM segment (Table 20.2). -/
def streamSeg (c dcyc : Nat) (f : Flit) : LwSeg :=
  ⟨BitVec.ofNat 32 (4 + 16 * c + 1024 * f.tag.toNat + 2 ^ 14 * f.seq.toNat + 2 ^ 26 * (dcyc % 64)), f.data⟩

/-- A segment of another VC. -/
def vcSeg (vc kind arg data : Nat) : LwSeg := ⟨BitVec.ofNat 32 (vc + 4 + 16 * kind + 65536 * arg), BitVec.ofNat 256 data⟩

end Sys2Proof

namespace Sys2Proof.Machine

/-! ### The ledger of a port (R555) -/

/-- Debit n stage cycles of class k to every frame of pipeline p in flight, and to its window (R258, R262). -/
def Device.debitPipe (d : Device) (p k n : Nat) : Device :=
  let d1 := (d.settle p).debit p k n fun _ => true
  d1.setPipe p { d1.pipe p with winDebit := (d1.pipe p).winDebit + n }

/-- The pipelines whose ingress, egress or circuits use port k. -/
def Device.portPipes (d : Device) (k : Nat) : List Nat :=
  (List.range 64).filter fun p =>
    (d.ingKind p == 3 && d.ingChan p / 64 == k) || (d.egrKind p == 3 && d.egrChan p / 64 == k) ||
      (List.range 64).any fun c => d.chKind k c == 1 && d.rf (R.lwl_CH_CFG k c) 8 7 == p

/-- The flit sent again has been accepted, or the link is down: the occurrence of LINK_RETRY ends. -/
def Device.retryEnds (d : Device) (k : Nat) : Device :=
  match (d.lw k).retrying with
  | none => d
  | some l => (l.foldl (fun d p => d.occEnd p 1) d).modLw k fun x => { x with retrying := none }

/-! ### Sending flits (R538, R540, R541) -/

/-- A flit of port k with no segment, carrying ACK and every credit owed (seven channels at most). -/
def Device.lwHead (d : Device) (k type fseq ack scyc st : Nat) : Sys2Proof.LwFlit × Device :=
  let x := d.lw k
  let owed := (x.freed.filter fun e => e.1 < 64).take 7
  let cr := fun key => Store.get zeroN x.freed key
  let keep := (x.freed.filter fun e => e.1 < 64).drop 7
  (⟨BitVec.ofNat 8 fseq, BitVec.ofNat 8 ack, BitVec.ofNat 8 type, BitVec.ofNat 8 st, BitVec.ofNat 32 scyc, BitVec.ofNat 16 (cr 64),
    BitVec.ofNat 16 (cr 65), BitVec.ofNat 16 (cr 66), owed.map fun e => BitVec.ofNat 24 (e.1 + 128 + 256 * e.2), [], 0⟩,
    d.setLw k { x with freed := keep })

/-- STATE of a flit opened now (R542). -/
def Device.lwStateByte (d : Device) : Nat := b2n d.devOk + 2 * b2n d.faultState

/-- The last FSEQ received in order. -/
def LwPort.acked (x : LwPort) : Nat := (x.rxSeq + 255) % 256

/-- Port k sends a flit that takes no FSEQ: IDLE, or RETRY_REQ naming the FSEQ expected. -/
def Device.lwPlain (d : Device) (k type : Nat) : Device :=
  let x := d.lw k
  let (f, d1) := d.lwHead k type 0 (if type = 2 then x.rxSeq else x.acked) d.now.cyc d.lwStateByte
  d1.emit (.lw k f.sealed)

/-- The next waiting segment of a VC: 0 FRAME, by channel in turn; 1 MEMREAD; 2 MEMWRITE; 3 CONTROL. A credit is spent; with the LAST
of a frame the frame awaits its answer (R550). -/
def Device.lwTake (d : Device) (k v opened : Nat) : Option (Sys2Proof.LwSeg × Device) :=
  let x := d.lw k
  let spend := fun (key : Nat) => Store.set zeroN x.spent key (Store.get zeroN x.spent key + 1)
  match v, x.mr, x.mw, x.ctl with
  | 1, s :: r, _, _ => if d.lwCredit k 65 then some (s, d.setLw k { x with mr := r, spent := spend 65 }) else none
  | 2, _, s :: r, _ => if d.lwCredit k 64 then some (s, d.setLw k { x with mw := r, spent := spend 64 }) else none
  | 3, _, _, s :: r => if d.lwCredit k 66 then some (s, d.setLw k { x with ctl := r, spent := spend 66 }) else none
  | 0, _, _, _ =>
    match ((List.range 64).map fun i => (x.chNext + i) % 64).find? (d.chReady k) with
    | none => none
    | some c => match d.chTx k c with
      | [] => none
      | f :: r =>
        let n := Store.get zeroN x.sent c
        let y := { x with chNext := (c + 1) % 64, spent := spend c }
        let z := if f.last then { y with sent := Store.set zeroN y.sent c (n + 1), awaits := y.awaits ++ [(c, n, d.now.tick)] } else y
        some (Sys2Proof.streamSeg c (d.now.cyc + 64 - opened % 64) f,
          { d with edge := { d.edge with chTx := Store.set (fun _ => []) d.edge.chTx (64 * k + c) r } }.setLw k z)
  | _, _, _, _ => none

/-- Fill the n places left of a flit, round robin by VC (R541). -/
def Device.lwRound (d : Device) (k opened : Nat) : Nat → List Sys2Proof.LwSeg × Device
  | 0 => ([], d)
  | n + 1 =>
    match ([0, 1, 2, 3].map fun i => ((d.lw k).vcNext + i) % 4).findSome? fun v => (d.lwTake k v opened).map fun q => (v, q) with
    | none => ([], d)
    | some (v, s, d1) =>
      let (r, d2) := Device.lwRound (d1.modLw k fun x => { x with vcNext := (v + 1) % 4 }) k opened n
      (s :: r, d2)

/-- The segments of the flit that closes: circuit segments, one CONTROL segment, then the others (R541). -/
def Device.lwFill (d : Device) (k opened : Nat) : List Sys2Proof.LwSeg × Device :=
  let x := d.lw k
  let circ := (x.circ.take 6).map fun q => Sys2Proof.streamSeg q.1 (q.2.2 + 64 - opened % 64) q.2.1
  let d1 := d.setLw k { x with circ := x.circ.drop 6 }
  let (c, d2) := if circ.length < 6 then match d1.lwTake k 3 opened with
      | some (s, d2) => ([s], d2)
      | none => ([], d1)
    else ([], d1)
  let (r, d3) := d2.lwRound k opened (6 - circ.length - c.length)
  (circ ++ c ++ r, d3)

/-- The open flit of port k closes and is sent (R538). -/
def Device.lwClose (d : Device) (k : Nat) : Device :=
  match (d.lw k).opened with
  | none => d
  | some (o, st) =>
    let x := d.lw k
    let (segs, d1) := d.lwFill k o
    let (h, d2) := d1.lwHead k 0 x.txSeq x.acked o st
    let f := { h with segs := segs }.sealed
    let d3 := d2.modLw k fun y => { y with opened := none, txSeq := (y.txSeq + 1) % 256, replay := y.replay ++ [f] }
    (d3.emit (.lw k f)).lwTouch k

/-! ### Answers to peer writes (R551, R552) -/

/-- The answer to frame n of channel c of port k: 0 ACK, or the reason of a NACK. -/
def Device.peerAnswer (d : Device) (k c n reason : Nat) : Device :=
  let d1 := d.modLw k fun x => { x with awaits := x.awaits.filter fun q => !(q.1 == c && q.2.1 == n) }
  match d1.jobs.find? fun j => j.peer == some (k, c, n) with
  | none => d1
  | some j =>
    if reason = 0 then (d1.modJob j.id fun y => { y with peer := none }).fenceCheck j.q
    else if j.st = .completed then d1.peerNack j.id k c n reason
    else d1.modJob j.id fun y => { y with peer := some (k, c, peerFailed reason n) }

/-- Every frame of port k that awaits acknowledgement fails with reason LINK (R545). -/
def Device.failPeers (d : Device) (k : Nat) : Device :=
  (d.jobs.filterMap fun j => match j.peer with
    | some (i, c, n) => if i = k ∧ n < 2 ^ 32 then some (c, n) else none
    | none => none).foldl (fun d q => d.peerAnswer k q.1 q.2 3) d

/-! ### Link-down (R543, R545) -/

/-- A copy ends in error (R553): COPY_STATUS and the block error COPY_FAIL. -/
def Device.copyError (d : Device) (k reason : Nat) : Device :=
  ((d.modLw k fun x => { x with copy := none }).setN (R.lwl_COPY_STATUS k) (4 + 16 * reason)).err (lwPage k) 0x0102 (wd reason) 0

/-- Port k loses its partner: what awaits it fails, its buffers are emptied, its circuits close (R545). -/
def Device.lwDrop (d : Device) (k : Nat) : Device :=
  let d1 := ((d.lwSettle k).retryEnds k).failPeers k
  let mine := fun (key : Nat) => key / 64 == k
  let d2 := { d1 with edge := { d1.edge with
      chTx := Store.wipe mine d1.edge.chTx
      chRx := Store.wipe mine d1.edge.chRx
      srcAt := Store.wipe (fun key => decide (64 ≤ key) && mine (key - 64)) d1.edge.srcAt } }
  let open_ := (List.range 64).filter fun c => d2.circuitOpen k c
  let x := d2.lw k
  let d3 := d2.setLw k { lwPort0 k with copy := x.copy, since := d2.now.tick, waitMark := d2.now.tick }
  let d4 := d3.setN (R.lwl_PORT_STATUS k) 0
  let d5 : Device := open_.foldl (fun (d : Device) c =>
    if d.rf (R.lwl_CH_CFG k c) 8 7 < 64 then d.pipeFaultLog (d.rf (R.lwl_CH_CFG k c) 8 7) 6 0 else d) d4
  let d6 : Device := if x.copy.isSome then d5.copyError k 2 else d5
  if d6.rf (R.lwl_RREG_STATUS k) 0 1 = 1 then d6.setN (R.lwl_RREG_STATUS k) (2 + 4 * 3) else d6

/-- A port with ENABLE starts training (R535). -/
def Device.lwTrain (d : Device) (k : Nat) : Device :=
  if d.rf (R.lwl_PORT_CFG k) 0 1 = 1 ∧ d.boot.devReset.isNone then
    (d.modLw k fun x => { x with since := d.now.tick, half := false, ofs := none }).setN (R.lwl_PORT_STATUS k) 1
  else d.setN (R.lwl_PORT_STATUS k) 0

/-- Link-down of port k with its cause: 0 silence, 1 retry limit, 2 lane, 3 disabled. -/
def Device.linkDown (d : Device) (k cause : Nat) : Device :=
  let d1 := ((d.lwDrop k).count (R.lwl_LINK_DOWNS k) 1).err (lwPage k) 0x0100 (wd cause) 0
  (d1.evtBit (lwPage k) 17).lwTrain k

/-! ### Receiving (R537 to R542, R546 to R554) -/

/-- A CRC-bad flit or a gap: RETRY_REQ, or link-down where it would be the ninth of the aligned window (R538, R539). -/
def Device.lwRetry (d : Device) (k : Nat) : Device :=
  let x := d.lw k
  let n := if x.retryWin = d.window then x.retries else 0
  if 8 ≤ n then ((d.count (R.lwl_RETRY_LIMIT k) 1).evtBit (lwPage k) 18).linkDown k 1
  else
    let d1 := match x.retrying with
      | some _ => d
      | none => ((d.portPipes k).foldl (fun (d : Device) p => d.occStart p 1) d).modLw k fun y => { y with retrying := some (d.portPipes k) }
    (d1.modLw k fun y => { y with retryWin := d.window, retries := n + 1 }).lwPlain k 2

/-- An ACK covers every flit up to its FSEQ. -/
def ackReplay (a : Nat) (l : List Sys2Proof.LwFlit) : List Sys2Proof.LwFlit :=
  if l.any fun f => f.fseq.toNat == a then (l.dropWhile fun f => !(f.fseq.toNat == a)).drop 1 else l

/-- ACK, credits and STATE of a flit taken (R538, R540, R542). -/
def Device.lwControl (d : Device) (k : Nat) (f : Sys2Proof.LwFlit) : Device :=
  let x := d.lw k
  let ack := if f.kind = 2 then (f.ack.toNat + 255) % 256 else f.ack.toNat
  let give := fun (m : Store Nat) (key n : Nat) => Store.set zeroN m key (Store.get zeroN m key - n)
  let s1 := give (give (give x.spent 64 f.crMw.toNat) 65 f.crMr.toNat) 66 f.crCtl.toNat
  let s2 := f.crStream.foldl (fun m c => if c.getLsbD 7 then give m (c.toNat % 64) (c.toNat / 256) else m) s1
  let d1 := (d.lwSettle k).setLw k { (d.lwSettle k).lw k with replay := ackReplay ack x.replay, spent := s2 }
  let ok := f.state.toNat % 2
  let d2 := (d1.setF (R.lwl_PORT_STATUS k) 4 1 ok).setF (R.lwl_PORT_STATUS k) 5 1 (f.state.toNat / 2)
  if ok = 0 then d2.evtBit (lwPage k) 19 else d2

/-- Queue a CONTROL segment at port k. -/
def Device.lwCtl (d : Device) (k : Nat) (s : Sys2Proof.LwSeg) : Device := d.modLw k fun x => { x with ctl := x.ctl ++ [s] }

/-- FRAME_ACK for frame n of channel c (R551). -/
def Device.frameAck (d : Device) (k c n result : Nat) : Device :=
  d.lwCtl k (Sys2Proof.vcSeg 3 1 (c % 64 + 64 * result) (n % 2 ^ 32))

/-- A flit of a frame arrives on channel c, which is no CIRCUIT channel (R546, R551). -/
def Device.frameSeg (d : Device) (k c : Nat) (f : Flit) : Device :=
  let kind := d.chKind k c
  let x := d.lw k
  let opened := kind == 3 && d.rxOpen k c
  let refuse := if f.first then (if kind ≠ 3 then 2 else if !opened then 1 else 0) else Store.get zeroN x.refuse c
  let old := Store.get noFlits x.part c
  let keep := if f.first then [] else old
  let lost := if f.first then old.length else 0
  let d0 := if kind = 0 then d.count (R.lwl_RX_DISCARD k) 1 else d
  let part := if refuse = 0 then keep ++ [f] else keep
  let d1 := (d0.modLw k fun y => { y with refuse := Store.set zeroN y.refuse c refuse, part := Store.set noFlits y.part c part }).lwFree k c
    (lost + if refuse = 0 then 0 else 1)
  if !f.last then d1
  else
    let n := d1.rn (R.lwl_CH_FRAMES k c)
    let result := if refuse ≠ 0 then refuse else if opened then 0 else 1
    let d2 := (d1.modLw k fun y => { y with part := Store.set noFlits y.part c [], refuse := Store.set zeroN y.refuse c 0 }).setN
      (R.lwl_CH_FRAMES k c) ((n + 1) % 2 ^ 32)
    let d3 := if result = 0 then part.foldl (fun d g =>
        { d with edge := { d.edge with
          chRx := Store.set noFlits d.edge.chRx (64 * k + c) (Store.get noFlits d.edge.chRx (64 * k + c) ++ [g]) } }.sourceArrives
            (64 + 64 * k + c) g) d2
      else d2.lwFree k c part.length
    d3.frameAck k c n result

/-- A STREAM segment of a flit with SCYC (R546, R548). -/
def Device.lwStream (d : Device) (k scyc : Nat) (s : Sys2Proof.LwSeg) : Device :=
  let c := s.ch
  let lat := wrapS 32 ((d.now.cyc : Int) - scyc - s.dcyc - (d.lw k).ofs.getD 0)
  let d1 := d.setF (R.lwl_LAT_MEAS k) 0 12 (max (d.rf (R.lwl_LAT_MEAS k) 0 12) (min 4095 lat.toNat))
  if d1.chKind k c = 1 then
    let due := ((d1.now.cyc : Int) - lat + d1.rf (R.lwl_CH_CFG2 k c) 16 12).toNat
    d1.modLw k fun x => { x with circRx := x.circRx ++ [(c, s.flit, max d1.now.cyc due)] }
  else d1.frameSeg k c s.flit

/-- Whether port k serves copies of its partner over an HBM range (R553). -/
def Device.memServes (d : Device) (k a n : Nat) : Bool := d.rf (R.lwl_PORT_CFG k) 4 1 == 1 && d.inOperator a n

/-- MEM_ACK with a tag and a status: 0 done, 1 refused, 2 uncorrectable data (log entry 108). -/
def memAck (tag st : Nat) : Sys2Proof.LwSeg := Sys2Proof.vcSeg 3 2 (tag % 256 + 256 * st) 0

/-- A MEMWRITE segment (R553): WR_ADDR, or data of the piece being received. -/
def Device.lwMemWrite (d : Device) (k : Nat) (s : Sys2Proof.LwSeg) : Device :=
  let d0 := d.lwFree k 64 1
  let v := s.data.toNat
  if s.kind = 1 then
    d0.modLw k fun x => { x with memIn := some ⟨v % 2 ^ 64, v / 2 ^ 64 % 256, v / 2 ^ 72 % 256, []⟩ }
  else match (d0.lw k).memIn with
    | none => d0
    | some m =>
      let b := m.bytes ++ leBytes 32 v
      if 1 < m.left then d0.modLw k fun x => { x with memIn := some { m with left := m.left - 1, bytes := b } }
      else
        let d1 := d0.modLw k fun x => { x with memIn := none }
        if d1.memServes k m.addr b.length then (d1.hbmWrite m.addr b).lwCtl k (memAck m.tag 0) else d1.lwCtl k (memAck m.tag 1)

/-- Issue the pieces of a copy that may be outstanding (R553): the fuel bounds them. -/
def Device.copyIssue (d : Device) (k : Nat) : Nat → Device
  | 0 => d
  | fuel + 1 =>
    match (d.lw k).copy with
    | none => d
    | some c =>
      let n := min 256 (c.len - c.issued)
      let tag := c.issued / 256 % 256
      let stop := fun (d : Device) (r : Nat) => d.modLw k fun x => { x with copy := some { c with reason := some r } }
      let head := fun (vc : Nat) => Sys2Proof.vcSeg vc 1 0 ((c.remote + c.issued) % 2 ^ 64 + 2 ^ 64 * (n / 32) + 2 ^ 72 * tag)
      if n = 0 ∨ 16 ≤ c.pieces.length ∨ c.reason.isSome then d
      else if !d.inOperator (c.lcl + c.issued) n then stop d 3
      else if c.pull then
        Device.copyIssue (d.modLw k fun x =>
          { x with
            mr := x.mr ++ [head 2]
            copy := some { c with issued := c.issued + n, pieces := c.pieces ++ [(tag, c.issued, n)] } }) k fuel
      else match d.hbmRead (c.lcl + c.issued) n with
        | (some _, d1) => stop d1 4
        | (none, d1) =>
          let data := (chunk 32 8 (d1.hbmBytesAt (c.lcl + c.issued) n)).map fun b => Sys2Proof.vcSeg 1 2 tag (fromLe b)
          Device.copyIssue (d1.modLw k fun x =>
            { x with
              mw := x.mw ++ head 1 :: data
              copy := some { c with issued := c.issued + n, pieces := c.pieces ++ [(tag, c.issued, 0)] } }) k fuel

/-- A piece of the copy has been answered with a status (R553). -/
def Device.pieceDone (d : Device) (k tag st : Nat) : Device :=
  match (d.lw k).copy with
  | none => d
  | some c =>
    if c.pieces.any fun q => q.1 == tag then
      let r := if st = 0 then c.reason else some (if st = 2 then 4 else 1)
      (d.modLw k fun x => { x with copy := some { c with pieces := c.pieces.filter (fun q => !(q.1 == tag)), reason := r } }).copyIssue k 16
    else d

/-- A MEMREAD segment (R553): a request to serve, or data of the copy. -/
def Device.lwMemRead (d : Device) (k : Nat) (s : Sys2Proof.LwSeg) : Device :=
  let d0 := d.lwFree k 65 1
  let v := s.data.toNat
  if s.kind = 1 then
    let a := v % 2 ^ 64
    let n := 32 * (v / 2 ^ 64 % 256)
    let tag := v / 2 ^ 72 % 256
    if d0.memServes k a n then match d0.hbmRead a n with
      | (some _, d1) => d1.lwCtl k (memAck tag 2)
      | (none, d1) =>
        let data := (chunk 32 256 (d1.hbmBytesAt a n)).map fun b => Sys2Proof.vcSeg 2 2 tag (fromLe b)
        d1.modLw k fun x => { x with mr := x.mr ++ data }
    else d0.lwCtl k (memAck tag 1)
  else match (d0.lw k).copy with
    | none => d0
    | some c => match c.pieces.find? fun q => q.1 == s.arg % 256 with
      | none => d0
      | some (tag, off, left) =>
        let a := c.lcl + off + (min 256 (c.len - off) - left)
        if !d0.inOperator a 32 then d0.modLw k fun x => { x with copy := some { c with reason := some 3 } }
        else
          let d1 := d0.hbmWrite a (leBytes 32 v)
          if left ≤ 32 then d1.pieceDone k tag 0
          else d1.modLw k fun x =>
            { x with copy := some { c with pieces := c.pieces.map fun q => if q.1 = tag then (tag, off, left - 32) else q } }

/-- A CONTROL segment (R551, R553, R554), but for REG_REQ, whose access the port performs: FRAME_ACK, MEM_ACK, REG_RESP. -/
def Device.lwControlSeg (d : Device) (k : Nat) (s : Sys2Proof.LwSeg) : Device :=
  let d0 := d.lwFree k 66 1
  match s.kind with
  | 1 => d0.peerAnswer k (s.arg % 64) (s.data.toNat % 2 ^ 32) (s.arg / 64 % 8)
  | 2 => d0.pieceDone k (s.arg % 256) (s.arg / 256 % 256)
  | 4 => d0.modLw k fun x => { x with resp := some (s.arg % 4, wd s.data.toNat) }
  | _ => d0

/-- One segment of a DATA flit. -/
def Device.lwSeg (d : Device) (k scyc : Nat) (s : Sys2Proof.LwSeg) : Device :=
  if !s.valid then d
  else match s.vc with
    | 0 => d.lwStream k scyc s
    | 1 => d.lwMemWrite k s
    | 2 => d.lwMemRead k s
    | _ => d.lwControlSeg k s

/-- The register requests of a DATA flit, in order: PF0 offset, WRITE and data (R554). -/
def regReqs (f : Sys2Proof.LwFlit) : List (Nat × Bool × Word) :=
  f.segs.filterMap fun s =>
    if s.valid && s.vc == 3 && s.kind == 3 then
      some (s.data.toNat % 2 ^ 26, s.data.toNat / 2 ^ 32 % 2 == 1, wd (s.data.toNat / 2 ^ 64))
    else none

/-- A RETRY_REQ has been taken: every unacknowledged flit is sent again from the one named; the last at stage cycle `last` (R538,
R555). -/
def Device.lwReplay (d : Device) (k last : Nat) : Device :=
  let d1 := (d.lw k).replay.foldl (fun d f => d.emit (.lw k f)) (d.count (R.lwl_REPLAYS k) 1)
  (d.portPipes k).foldl (fun d p => d.debitPipe p 1 (last - d1.now.cyc)) d1

/-- An UP port receives a flit: the device after it, and whether it was a DATA flit taken in order. -/
def Device.lwReceive (d : Device) (k : Nat) (f : Sys2Proof.LwFlit) (overlap : Bool) (last : Nat) : Device × Bool :=
  if d.lwState k ≠ 3 then (d, false)
  else if f.bad overlap then
    let d1 := d.count (R.lwl_CRC_ERR k) 1
    ((if overlap then d1.count (R.lwl_FEC_UNCORR k) 1 else d1).lwRetry k, false)
  else
    let d1 := d.modLw k fun x => { x with lastGood := d.now.tick }
    match f.kind with
    | 1 => ((d1.lwControl k f).lwTouch k, false)
    | 2 => (((d1.lwControl k f).lwReplay k last).lwTouch k, false)
    | _ =>
      if f.fseq.toNat ≠ (d1.lw k).rxSeq then (if (d1.lw k).retrying.isSome then d1 else d1.lwRetry k, false)
      else
        let d2 := ((d1.retryEnds k).lwControl k f).modLw k fun x => { x with rxSeq := (x.rxSeq + 1) % 256 }
        if f.kind = 3 then (d2.lwTouch k, false)
        else ((f.segs.take 6).foldl (fun d s => d.lwSeg k f.scyc.toNat s) d2 |>.lwTouch k, true)

end Sys2Proof.Machine
end

