-- ==== Sys2Proof/Machine/Linwald.lean ====
section
/-! DEFINITION. Machine/Linwald.lean: the Linwald Link's commands (chapter 20, R535 to R555), but for LW_FLIT_RECEIVED. -/
namespace Sys2Proof.Machine

/-- The device at a tick and a stage cycle. -/
def Device.atBoth (d : Device) (t cyc : Nat) : Device := (d.at t).atCyc cyc

/-! ### Training (R535) -/

/-- LW_LANES_LOCKED: INIT begins; the port sends an INIT flit, FSEQ 0. -/
def lwLanesLocked (k t cyc : Nat) (d : Device) : Device :=
  let d0 := d.atBoth t cyc
  if d0.lwState k = 1 then
    let rate := d0.rf (R.lwl_PORT_CFG k) 1 2
    let half := if rate = 0 then (d0.lw k).half else rate == 2
    let d1 := (d0.modLw k fun x => { x with txSeq := 1 }).setN (R.lwl_PORT_STATUS k) (2 + 4 * b2n half)
    let (f, d2) := d1.lwHead k 3 0 255 d1.now.cyc d1.lwStateByte
    d2.emit (.lw k f.sealed)
  else d0
/-- LW_LANES_LOCKED (R535). -/
def execLwLanesLocked (k : Fin 4) (t cyc : Nat) (s : State) : Host.Outcome State Fault Refusal := onDev (lwLanesLocked k t cyc) s

/-- LW_RATE_TIMEOUT: under AUTO, 20 ms of FULL training give way to HALF. -/
def lwRateTimeout (k t : Nat) (d : Device) : Device :=
  let d0 := d.at t
  if d0.lwState k = 1 ∧ d0.rf (R.lwl_PORT_CFG k) 1 2 = 0 ∧ (d0.lw k).half = false ∧ (d0.lw k).since + 20000000 ≤ d0.now.tick then
    d0.modLw k fun x => { x with half := true }
  else d0
/-- LW_RATE_TIMEOUT (R535). -/
def execLwRateTimeout (k : Fin 4) (t : Nat) (s : State) : Host.Outcome State Fault Refusal := onDev (lwRateTimeout k t) s

/-- The protocol version of the link (R535). -/
abbrev lwVersion : Nat := 1

/-- The port is UP (R535, R540, R547, R548, R550): credits and frame numbers are reset, CAPACITY is set where the reservation exceeds
what HALF carries. -/
def Device.lwUp (d : Device) (k : Nat) (f : Sys2Proof.LwFlit) : Device :=
  let x := d.lw k
  let half := d.rf (R.lwl_PORT_STATUS k) 2 1
  let cap := b2n (half == 1 && decide (900 < d.rn (R.lwl_RESV k)))
  let d1 := d.setN (R.lwl_PORT_STATUS k) (3 + 4 * half + 8 + 16 * (f.state.toNat % 2) + 32 * (f.state.toNat / 2 % 2) + 128 * cap)
  let d2 := d1.setLw k { x with rxSeq := (f.fseq.toNat + 1) % 256, lastGood := d.now.tick, waitMark := d.now.tick }
  let d3 := (List.range 64).foldl (fun d c => d.setN (R.lwl_CH_FRAMES k c) 0) (d2.setN (R.lwl_LAT_MEAS k) 0)
  d3.evtBit (lwPage k) 16

/-- LW_INIT_RECEIVED: a CRC-good INIT flit in state INIT; `both` says that the partner has received this side's too. A partner of
another version or DEVICE_CODE is refused. -/
def lwInitReceived (k : Nat) (f : Sys2Proof.LwFlit) (overlap : Bool) (version code : Nat) (both : Bool) (t cyc : Nat) (d : Device) : Device :=
  let d0 := d.atBoth t cyc
  if f.kind ≠ 3 ∨ d0.lwState k ≠ 2 ∨ f.bad overlap then d0
  else if version ≠ lwVersion ∨ code ≠ d0.rn R.idn_DEVICE_CODE then d0.setF (R.lwl_PORT_STATUS k) 6 1 1
  else
    let d1 := d0.modLw k fun x => { x with ofs := some (x.ofs.getD ((d0.now.cyc : Int) - f.scyc.toNat)) }
    if both then d1.lwUp k f else d1
/-- LW_INIT_RECEIVED (R535). -/
def execLwInitReceived (k : Fin 4) (f : Sys2Proof.LwFlit) (overlap : Bool) (version code : Nat) (both : Bool) (t cyc : Nat) (s : State) :
    Host.Outcome State Fault Refusal := onDev (lwInitReceived k f overlap version code both t cyc) s

/-! ### Flits (R538, R542) -/

/-- LW_RETRY_REQ: a RETRY_REQ flit; the last flit sent again leaves at stage cycle `last`. -/
def lwRetryReq (k : Nat) (f : Sys2Proof.LwFlit) (overlap : Bool) (last t cyc : Nat) (d : Device) : Device :=
  let d0 := d.atBoth t cyc
  if f.kind = 2 then (d0.lwReceive k f overlap last).1 else d0
/-- LW_RETRY_REQ (R538). -/
def execLwRetryReq (k : Fin 4) (f : Sys2Proof.LwFlit) (overlap : Bool) (last t cyc : Nat) (s : State) : Host.Outcome State Fault Refusal :=
  onDev (lwRetryReq k f overlap last t cyc) s

/-- LW_FLIT_CLOSE: the open flit closes with six segments, or four stage cycles after its opening. -/
def lwFlitClose (k t cyc : Nat) (d : Device) : Device :=
  let d0 := (d.atBoth t cyc).lwSettle k
  match (d0.lw k).opened with
  | none => d0
  | some (o, _) =>
    if d0.lwState k = 3 ∧ (o + 4 ≤ d0.now.cyc ∨ (d0.lwFill k o).1.length = 6) then d0.lwClose k else d0
/-- LW_FLIT_CLOSE (R538). -/
def execLwFlitClose (k : Fin 4) (t cyc : Nat) (s : State) : Host.Outcome State Fault Refusal := onDev (lwFlitClose k t cyc) s

/-- LW_IDLE_FLIT: an UP port with nothing to send sends an IDLE flit. -/
def lwIdleFlit (k t cyc : Nat) (d : Device) : Device :=
  let d0 := d.atBoth t cyc
  if d0.lwState k = 3 ∧ (d0.lw k).opened = none then d0.lwPlain k 1 else d0
/-- LW_IDLE_FLIT (R542). -/
def execLwIdleFlit (k : Fin 4) (t cyc : Nat) (s : State) : Host.Outcome State Fault Refusal := onDev (lwIdleFlit k t cyc) s

/-! ### Link-down (R543) and the common reference (R548) -/

/-- LW_SILENCE: no CRC-good flit for 8 µs. -/
def lwSilence (k t : Nat) (d : Device) : Device :=
  let d0 := d.at t
  if d0.lwState k = 3 ∧ (d0.lw k).lastGood + 8000 ≤ d0.now.tick then d0.linkDown k 0 else d0
/-- LW_SILENCE (R543). -/
def execLwSilence (k : Fin 4) (t : Nat) (s : State) : Host.Outcome State Fault Refusal := onDev (lwSilence k t) s

/-- LW_LANE_LOSS: a lane has lost lock or deskew for 1 µs; a port in INIT trains again. -/
def lwLaneLoss (k t : Nat) (d : Device) : Device :=
  let d0 := d.at t
  match d0.lwState k with
  | 3 => d0.linkDown k 2
  | 2 => d0.lwTrain k
  | _ => d0
/-- LW_LANE_LOSS (R543). -/
def execLwLaneLoss (k : Fin 4) (t : Nat) (s : State) : Host.Outcome State Fault Refusal := onDev (lwLaneLoss k t) s

/-- LW_REF_WINDOW: in the aligned window that ends, the partner's SCYC stayed within one stage cycle of its prediction, or not:
REF_COMMON clears and every CIRCUIT channel closes. -/
def lwRefWindow (k : Nat) (within : Bool) (t : Nat) (d : Device) : Device :=
  let d0 := d.at t
  if d0.lwState k = 3 ∧ within = false ∧ d0.rf (R.lwl_PORT_STATUS k) 3 1 = 1 then
    (d0.setF (R.lwl_PORT_STATUS k) 3 1 0).evtBit (lwPage k) 22
  else d0
/-- LW_REF_WINDOW (R548). -/
def execLwRefWindow (k : Fin 4) (within : Bool) (t : Nat) (s : State) : Host.Outcome State Fault Refusal := onDev (lwRefWindow k within t) s

/-! ### Peer writes (R551), copies (R553) and register requests (R554) -/

/-- LW_ACK_TIMEOUT: the oldest frame of channel c has no answer ACK_TIMEOUT_US after its LAST was sent. -/
def lwAckTimeout (k c t : Nat) (d : Device) : Device :=
  let d0 := d.at t
  let us := d0.rf (R.lwl_PORT_CFG k) 16 16
  match (d0.lw k).awaits.find? fun q => q.1 == c with
  | some (_, n, at_) => if us ≠ 0 ∧ at_ + 1000 * us ≤ d0.now.tick then d0.peerAnswer k c n 4 else d0
  | none => d0
/-- LW_ACK_TIMEOUT (R551). -/
def execLwAckTimeout (k : Fin 4) (c : Fin 64) (t : Nat) (s : State) : Host.Outcome State Fault Refusal := onDev (lwAckTimeout k c t) s

/-- COPY_GO: a write of COPY_CTRL with GO; refused with RANGE for a bad LEN or local range; without effect while BUSY. -/
def copyGo (k : Fin 4) (q : Req) (d : Device) : Device :=
  if fld q.data 31 1 = 0 then d.at q.t
  else d.writeAt q (R.lwl_COPY_CTRL k) fun d =>
    let d0 := d.setF (R.lwl_COPY_CTRL k) 0 1 (fld q.data 0 1)
    let len := d0.rn (R.lwl_COPY_LEN k)
    let a := d0.rn64 (R.lwl_COPY_LOCAL_LO k)
    if d0.rf (R.lwl_COPY_STATUS k) 0 1 = 1 then d0
    else if len = 0 ∨ len % 32 ≠ 0 ∨ !d0.inOperator a len then d0.errValue 0x0003 q.port (R.lwl_COPY_CTRL k) q.data
    else if d0.lwState k ≠ 3 then d0.copyError k 2
    else
      let c : LwCopy := ⟨a, d0.rn64 (R.lwl_COPY_REMOTE_LO k), len, fld q.data 0 1 = 1, 0, [], none⟩
      (((d0.setN (R.lwl_COPY_STATUS k) 1).modLw k fun x => { x with copy := some c }).copyIssue k 16).lwTouch k
/-- COPY_GO (R553). -/
def execCopyGo (k : Fin 4) (q : Req) (s : State) : Host.Outcome State Fault Refusal := onDev (copyGo k q) s

/-- COPY_DONE: the copy ends DONE when every piece has been answered, or ERROR with its REASON. -/
def copyDone (k t : Nat) (d : Device) : Device :=
  let d0 := d.at t
  match (d0.lw k).copy with
  | none => d0
  | some c => match c.reason with
    | some r => d0.copyError k r
    | none =>
      if c.issued = c.len ∧ c.pieces = [] then
        ((d0.modLw k fun x => { x with copy := none }).setN (R.lwl_COPY_STATUS k) 2).evtBit (lwPage k) 21
      else d0
/-- COPY_DONE (R553). -/
def execCopyDone (k : Fin 4) (t : Nat) (s : State) : Host.Outcome State Fault Refusal := onDev (copyDone k t) s

/-- RREG_GO: a write of RREG_CTRL with GO sends the request; a port that is not UP answers LOST at once (log entry 109). -/
def rregGo (k : Fin 4) (q : Req) (d : Device) : Device :=
  if fld q.data 31 1 = 0 then d.at q.t
  else d.writeAt q (R.lwl_RREG_CTRL k) fun d =>
    let w := fld q.data 0 1
    let d0 := d.setF (R.lwl_RREG_CTRL k) 0 1 w
    if d0.rf (R.lwl_RREG_STATUS k) 0 1 = 1 then d0
    else if d0.lwState k ≠ 3 then d0.setN (R.lwl_RREG_STATUS k) (2 + 4 * 3)
    else
      let v := d0.rn (R.lwl_RREG_ADDR k) / 4 * 4 + 2 ^ 32 * w + 2 ^ 64 * d0.rn (R.lwl_RREG_DATA k)
      ((d0.setN (R.lwl_RREG_STATUS k) 1).lwCtl k (Sys2Proof.vcSeg 3 3 0 v)).lwTouch k
/-- RREG_GO (R554). -/
def execRregGo (k : Fin 4) (q : Req) (s : State) : Host.Outcome State Fault Refusal := onDev (rregGo k q) s

/-- RREG_RESP: the partner's answer completes the request: code, and the data of a read. -/
def rregResp (k t : Nat) (d : Device) : Device :=
  let d0 := d.at t
  match (d0.lw k).resp with
  | some (code, v) =>
    let d1 := d0.modLw k fun x => { x with resp := none }
    if d1.rf (R.lwl_RREG_STATUS k) 0 1 = 1 then
      let d2 := d1.setN (R.lwl_RREG_STATUS k) (2 + 4 * code)
      if d2.rf (R.lwl_RREG_CTRL k) 0 1 = 0 ∧ code = 0 then d2.setReg (R.lwl_RREG_DATA k) v else d2
    else d1
  | none => d0
/-- RREG_RESP (R554). -/
def execRregResp (k : Fin 4) (t : Nat) (s : State) : Host.Outcome State Fault Refusal := onDev (rregResp k t) s

end Sys2Proof.Machine
end

