-- ==== Sys2Proof/Machine/Skims.lean ====
section
/-! DEFINITION. Machine/Skims.lean: the library commands, fills and warm-ups (chapter 10, R282 to R291, R300). -/
namespace Sys2Proof.Machine

/-! ### Library commands (R283, R289) -/

/-- LIB_RESULT: 1 DONE, 2 REFUSED with a reason of Table 2.2. -/
def Device.libResult (d : Device) (result reason : Nat) : Device := d.setN R.skm_LIB_RESULT (result + 16 * reason)

/-- A LIB_CMD write with operation `op` and GO: SKIM_ID 0 is refused with RANGE (R291). -/
def libCmd (q : Req) (op : Nat) (act : Nat → Device → Device) (d : Device) : Device :=
  if fld q.data 0 2 ≠ op ∨ fld q.data 31 1 = 0 then d.at q.t
  else d.writeAt q R.skm_LIB_CMD fun d => if fld q.data 16 14 = 0 then d.libResult 2 1 else act (fld q.data 16 14) d

/-- Whether a job holds a reference on skim x (R295): it has passed its lookup and is not complete. -/
def Job.holds (j : Job) (x : Nat) : Bool :=
  j.piped && j.skim == x && match j.st with
    | .staging | .ready | .completed => false
    | _ => true

/-- Whether skim x is in use: in a slot, named by a token in flight, or referenced (R283, R295). -/
def Device.skimUsed (d : Device) (x : Nat) : Bool :=
  (List.range 64).any (fun p => (List.range 16).any (fun s => d.slotState p s != 0 && d.slotSkim p s == x) ||
    (d.pipe p).tokens.any fun k => k.skim == x) || d.jobs.any fun j => j.holds x

/-- LIB_CMD REMOVE. -/
def libRemove (q : Req) (d : Device) : Device :=
  libCmd q 1 (fun x d =>
    if d.skimUsed x then d.libResult 2 3
    else { d with lib := Store.set lib0 d.lib x (lib0 0) }.libResult 1 0) d
/-- LIB_REMOVE (R283). -/
def execLibRemove (q : Req) (s : State) : Host.Outcome State Fault Refusal := onDev (libRemove q) s

/-- LIB_CMD WARM: refused in an EMPTY, DRAINED or REWORK pipeline, for a skim that is not VALID or does not match the live
section (R271), or with no slot. -/
def libWarm (q : Req) (d : Device) : Device :=
  libCmd q 2 (fun x d =>
    let p := fld q.data 2 6
    let st := d.pipeState p
    if st = 0 ∨ st = 5 ∨ st = 6 ∨ (d.libAt x).st ≠ 2 then d.libResult 2 3
    else if !d.libMatches p x then d.libResult 2 2
    else if (d.slotOf p x).isSome then d.libResult 1 0
    else match d.freeSlot p with
      | some s => (d.beginFill p s x 1 d.now.cyc).libResult 1 0
      | none =>
        if fld q.data 8 1 = 0 then d.libResult 2 4
        else match d.oldSlot p with
          | some s => ((d.evict p s).beginFill p s x 1 d.now.cyc).libResult 1 0
          | none => d.libResult 2 4) d
/-- LIB_WARM (R289). -/
def execLibWarm (q : Req) (s : State) : Host.Outcome State Fault Refusal := onDev (libWarm q) s

/-- LIB_CMD EVICT: every unpinned slot that holds the skim becomes INVALID. -/
def libEvict (q : Req) (d : Device) : Device :=
  libCmd q 3 (fun x d =>
    ((List.range 64).foldl (fun d p => (List.range 16).foldl (fun d s =>
      if d.slotState p s ≠ 0 ∧ d.slotSkim p s = x ∧ !d.slotPinned p s then d.evict p s else d) d) d).libResult 1 0) d
/-- LIB_EVICT (R283). -/
def execLibEvict (q : Req) (s : State) : Host.Outcome State Fault Refusal := onDev (libEvict q) s

/-! ### Fills (R285 to R290) -/

/-- FILL_START: the oldest on-demand request of pipeline p starts when no on-demand fill of p runs. -/
def fillStart (p : Fin 64) (cyc : Nat) (d : Device) : Device :=
  let d0 := d.atCyc cyc
  if d0.fills.any fun f => f.pipe == p && f.sort == 0 then d0
  else match d0.fillReqs.find? fun r => r.pipe = p.val with
    | none => d0
    | some r =>
      let d1 := { d0 with fillReqs := d0.fillReqs.erase r }
      if (d1.slotOf p r.skim).isSome then d1.requestFill p r.skim
      else if !d1.libMatches p r.skim ∨ d1.rn (R.skm_FILL_RATE p) = 0 then d0
      else match d1.freeSlot p with
        | some s => d1.beginFill p s r.skim 0 cyc
        | none => match (d1.oldSlot p).or (d1.warmSlot p) with
          | some s => (d1.evict p s).beginFill p s r.skim 0 cyc
          | none => d0
/-- FILL_START (R286). -/
def execFillStart (p : Fin 64) (cyc : Nat) (s : State) : Host.Outcome State Fault Refusal := onArray (fillStart p cyc) s

/-- A fill of a sort that `ok` admits ends in slot s of pipeline p. -/
def endFill (p : Fin 64) (s : Fin 16) (cyc : Nat) (ok : Nat → Bool) (d : Device) : Device :=
  let d0 := d.atCyc cyc
  match d0.fillAt p s with
  | some f => if ok f.sort && !d0.slotActive p s then d0.fillDone f else d0
  | none => d0

/-- SLOT_FILL_DONE (R287). -/
def execSlotFillDone (p : Fin 64) (slot : Fin 16) (cyc : Nat) (s : State) : Host.Outcome State Fault Refusal :=
  onArray (endFill p slot cyc (· == 0)) s

/-- WARMUP_DONE (R289). -/
def execWarmupDone (p : Fin 64) (slot : Fin 16) (cyc : Nat) (s : State) : Host.Outcome State Fault Refusal :=
  onArray (fun d => endFill p slot cyc (· != 0) d) s

/-- FILL_FAULT: the word at HBM byte address `a` of a fill is uncorrectable: the fill stops, its slot is INVALID; with a tile
waiting on it the pipeline faults (R290, R300). -/
def fillFault (p : Fin 64) (slot : Fin 16) (a t cyc : Nat) (d : Device) : Device :=
  let d0 := (d.at t).atCyc cyc
  match d0.fillAt p slot with
  | none => d0
  | some f =>
    let d1 := (d0.hbmMark ⟨.hbm, 0, a / 8, true⟩).dropSlot p slot
    let d2 := ((d1.err 0x61000 0x0102 (wd (f.skim + 65536 * p.val)) 0).count R.skm_FILL_FAULTS 1).evtBit 0x61000 16
    match (d2.regionTiles p).find? fun k => (d2.tile k).fillWait.any fun w => w.1 == f.skim with
    | some k => if f.sort = 0 then d2.pipeFaultLog p 5 k else d2
    | none => d2
/-- FILL_FAULT (R290, R300). -/
def execFillFault (p : Fin 64) (slot : Fin 16) (a t cyc : Nat) (s : State) : Host.Outcome State Fault Refusal :=
  onDev (fillFault p slot a t cyc) s

end Sys2Proof.Machine
end

