-- ==== Sys2Proof/Machine/Queues.lean ====
section
/-! DEFINITION. Machine/Queues.lean: TAIL, push slots and cancels, service turns, chains, Hod reads and staging claims, head
publication, the queue reset and the watchdog (chapters 13 to 15, R341 to R390, R407 to R412). -/
namespace Sys2Proof.Machine

/-! ### TAIL and the push slots (R343, R359 to R361) -/

/-- The descriptor that the sixteen dwords of an armed push slot hold (Table 13.1). -/
def slotDesc (w : Store Word) : Desc :=
  let x := fun i => Store.get word0 w i
  let y := fun i => BitVec.ofNat 64 ((x i).toNat + 2 ^ 32 * (x (i + 1)).toNat)
  ⟨x 0, x 1, y 2, x 4, x 5, y 6, y 8, y 10, y 12, x 14, x 15⟩

/-- Whether all sixteen dwords of a slot have been written; a dword is marked at 16 + its place (R359). -/
def PushSlot.armed (s : PushSlot) : Bool := (List.range 16).all fun i => Store.get word0 s.words (16 + i) == 1

/-- Dword i of a slot is written. -/
def PushSlot.put (s : PushSlot) (i : Nat) (v : Word) : PushSlot :=
  { s with words := Store.set word0 (Store.set word0 s.words i v) (16 + i) 1 }

/-- Whether anything has been written to a slot since it was disarmed. -/
def PushSlot.touched (s : PushSlot) : Bool := s.words ≠ []

/-- Push slot j of queue g is resolved at a TAIL write from T to v (R360). -/
def Device.resolveSlot (d : Device) (g old v : Nat) (j : Nat) : Device :=
  let x := d.queue g
  let s := Store.get pushSlot0 x.push j
  if !s.touched then d
  else if s.armed && decide (u32sub s.bound old < u32sub v old) then
    let y := { x with prov := x.prov.filter fun c => !(c.index == s.bound) }
    if d.qEnabled g then
      d.setQueue g { y with supplied := (y.supplied.filter fun c => !(c.1 == s.bound)) ++ [(s.bound, slotDesc s.words)] }
    else d.setQueue g y
  else d.count (R.pw_PUSH_DISCARD_COUNT g) 1

/-- An accepted TAIL write of v (R343, R360). -/
def Device.acceptTail (d : Device) (g v : Nat) : Device :=
  let old := (d.queue g).tail
  if v = old then d
  else
    let d1 := (List.range 4).foldl (fun d j => d.resolveSlot g old v j) d
    let x := d1.queue g
    let idle := old == d1.head g && d1.jobs.all fun j => !(j.q == g && !j.orphan)
    d1.setQueue g { x with tail := v, push := [], wdogTick := if idle then d1.now.tick else x.wdogTick }

/-- A write of TAIL of queue g. -/
def tailWrite (g : Fin 65536) (q : Req) (d : Device) : Device :=
  d.writeAt q (R.pw_TAIL g) fun d =>
    let v := q.data.toNat
    let n := 2 ^ d.qN g
    if u32sub v (d.head g) ≤ n ∧ u32sub v (d.queue g).tail ≤ n then d.acceptTail g v
    else (d.count (R.pw_TAIL_REJECT_COUNT g) 1).setF (R.pw_STATUS g) 4 1 1
/-- TAIL_WRITE (R343). -/
def execTailWrite (g : Fin 65536) (q : Req) (s : State) : Host.Outcome State Fault Refusal := onDev (tailWrite g q) s

/-- Dword k of the push-slot space of queue g is written: the first of a slot binds it (R359). -/
def Device.pushWord (d : Device) (g k : Nat) (v : Word) : Device :=
  let x := d.queue g
  let j := k / 16
  let s := Store.get pushSlot0 x.push j
  let s1 := if s.touched then s else { s with bound := (x.tail + j) % 2 ^ 32 }
  d.setQueue g { x with push := Store.set pushSlot0 x.push j (s1.put (k % 16) v) }

/-- Consecutive dwords are written in ascending address order (R361). -/
def Device.pushWords (d : Device) (g : Nat) : Nat → List Word → Device
  | _, [] => d
  | k, v :: r => Device.pushWords (d.pushWord g k v) g (k + 1) r

/-- A write to the push slots of queue g at offset `off`, of `len` bytes whose dwords are `words`; `full`: every byte enable
is set. -/
def pushWrite (g : Fin 65536) (port : Port) (off len : Nat) (full : Bool) (words : List Word) (t : Nat) (d : Device) : Device :=
  let d0 := d.at t
  match d0.ownOffset port (0x4000000 + 0x1000 * g.val + off) with
  | none => d0
  | some a => d0.access port a 15 4 true fun _ d1 =>
    if full && decide (4 ≤ len ∧ len ≤ 256 ∧ off % 4 = 0 ∧ len % 4 = 0 ∧ off + len ≤ 256 ∧ words.length * 4 = len) then
      d1.pushWords g (off / 4) words
    else d1.unsupported
/-- PUSH_WRITE (R359). -/
def execPushWrite (g : Fin 65536) (port : Port) (off len : Nat) (full : Bool) (words : List Word) (t : Nat) (s : State) :
    Host.Outcome State Fault Refusal := onDev (pushWrite g port off len full words t) s

/-! ### Cancel (R378) -/

/-- Mark a chain that is open or kept, unless its head is exempt. -/
def Device.cancelChain (d : Device) (g : Nat) (c : Chain) (put : Chain → Queue → Queue) : Device :=
  if c.entries.head?.any fun e => fld e.ctrl 7 1 = 1 then d.count R.qen_CANCEL_REJECTS 1
  else d.setQueue g (put { c with cancel := true } (d.queue g))

/-- The cancel of the job at index i, fetched already. -/
def Device.cancelAt (d : Device) (g i : Nat) : Device :=
  let x := d.queue g
  match x.chain.filter fun c => c.index = i with
  | some c => d.cancelChain g c fun c y => { y with chain := some c }
  | none => match x.held.find? fun c => c.index = i with
    | some c => d.cancelChain g c fun c y => { y with held := y.held.map fun z => if z.index = i then c else z }
    | none => match d.jobAt g i with
      | some j => if j.noCancel then d.count R.qen_CANCEL_REJECTS 1 else d.cancelJob j.id
      | none => d.count R.qen_CANCEL_REJECTS 1

/-- A write of CANCEL of queue g. -/
def cancel (g : Fin 65536) (q : Req) (d : Device) : Device :=
  d.writeAt q (R.pw_CANCEL g) fun d =>
    let i := q.data.toNat
    let h := d.head g
    let x := d.queue g
    if u32sub x.tail h ≤ u32sub i h then d.count R.qen_CANCEL_REJECTS 1
    else if u32sub (d.fetchIdx g) h ≤ u32sub i h then
      if 8 ≤ x.cancels.length then d.count R.qen_CANCEL_REJECTS 1 else d.setQueue g { x with cancels := x.cancels ++ [i] }
    else d.cancelAt g i
/-- CANCEL (R378). -/
def execCancel (g : Fin 65536) (q : Req) (s : State) : Host.Outcome State Fault Refusal := onDev (cancel g q) s

/-! ### Service turns -/

/-- The queue engine starts the next turn: at most one every 4 ns (R371), chosen by R372; the ring reads of other queues' turns may still
be outstanding (log entry 155). -/
def serviceTurn (t : Nat) (d : Device) : Device :=
  let d0 := d.at t
  let paced := match d0.qen.lastTick with
    | none => true
    | some k => decide (k + 4 ≤ d0.now.tick)
  if !paced then d0
  else
    let qs := d0.eligibleQueues
    match d0.nextTenant qs with
    | none => d0
    | some (t, begins) =>
      let d1 := if begins then { d0 with qen := { d0.qen with tenant := t, tcr := d0.tenWeight t, visiting := true } } else d0
      match d1.nextQueue qs t with
      | none => d1
      | some (g, d2) => d2.beginTurn g
/-- SERVICE_TURN (R371). -/
def execServiceTurn (t : Nat) (s : State) : Host.Outcome State Fault Refusal := onDev (serviceTurn t) s

/-- What a read of function f really ends in: with Bus Master Enable 0 it fails as Unsupported Request (R327). -/
def Device.readEnd {α : Type} (d : Device) (f : Nat) (r : ReadEnd α) : ReadEnd α := if d.mayRequest f then r else .fail 0

/-- The ring read of queue g's turn ends (R350, R358, R365). -/
def entryFetched (g : Fin 65536) (r : ReadEnd Desc) (t : Nat) (d : Device) : Device :=
  let d0 := d.at t
  match (d0.queue g).turn with
  | none => d0
  | some tn =>
    let i := d0.fetchIdx g
    if !tn.reading then d0
    else match d0.readEnd (vfOf g) r with
      | .fail c =>
        if tn.repeated then d0.fetchErr g i c.val
        else (d0.setTurn g (some { tn with repeated := true })).hostRead (vfOf g) (d0.ringAddr g i) 64
      | .data e =>
        let bad := d0.qRunahead g && !d0.lapOk g i e
        if bad && !tn.restamped then
          ((d0.setTurn g (some { tn with repeated := false, restamped := true })).count (R.pw_RESTAMP_COUNT g) 1).hostRead
            (vfOf g) (d0.ringAddr g i) 64
        else ((d0.setTurn g (some { tn with reading := false, left := tn.left - 1 })).joinEntry g i e bad).runTurn g 80
/-- ENTRY_FETCHED (R350). -/
def execEntryFetched (g : Fin 65536) (r : ReadEnd Desc) (t : Nat) (s : State) : Host.Outcome State Fault Refusal :=
  onDev (entryFetched g r t) s

/-- A provisional read of index i of queue g ends (R364, R366, R367). -/
def runaheadRead (g : Fin 65536) (index : Word) (r : ReadEnd Desc) (t : Nat) (d : Device) : Device :=
  let d0 := d.at t
  let i := index.toNat
  let x := d0.queue g
  if !d0.qEnabled g || !d0.qRunahead g || d0.qStat g 3 || decide (8 ≤ u32sub i x.sample) ||
      decide (2 ^ d0.qN g ≤ u32sub i (d0.head g)) || x.supplied.any (fun s => s.1 == i) then d0
  else match d0.readEnd (vfOf g) r with
    | .fail _ =>
      let d1 := d0.count (R.pw_RUNAHEAD_DISCARD g) 1
      { d1 with trace := { d1.trace with tcnt := bump d1.trace.tcnt (32 * tenantOf g + 18) 1 (2 ^ 64 - 1) } }
    | .data e =>
      let p := fld e.ctrl 22 6
      let k := fld e.ctrl 8 14
      let want := d0.lapOk g i e && e.first && (e.kind == 0 || e.kind == 3) && d0.lookup p k (tenantOf g)
      let (warm, d1) := if want then d0.runaheadWarm p k else (false, d0)
      d1.setQueue g { x with prov := (x.prov.filter fun c => !(c.index == i)) ++ [⟨i, e, warm⟩] }
/-- RUNAHEAD_READ (R364). -/
def execRunaheadRead (g : Fin 65536) (index : Word) (r : ReadEnd Desc) (t : Nat) (s : State) : Host.Outcome State Fault Refusal :=
  onDev (runaheadRead g index r t) s

/-- A chain that timed out becomes a job that completes at once (R356, R357). -/
def Device.timeOutChain (d : Device) (g : Nat) (c : Chain) : Device :=
  match c.entries with
  | [] => d
  | h :: _ =>
    let hdr := if headerEntry h then d.winMap (tenantOf g) h.outAddr.toNat 32 2 else none
    let key : JobKey := ⟨d.nextJob, g, c.index, c.entries.length, h, c.failed, [], [], [], hdr, chainIn c.entries, chainOut c.entries⟩
    (d.addJob (newJob key)).finishNow key.id (if c.failed then 0x10 else 0x13)

/-- OPEN_CHAIN_TIMEOUT of queue g has elapsed at its last turn and the chain is still open at TAIL (R356). -/
def openChainTimeout (g : Fin 65536) (t : Nat) (d : Device) : Device :=
  let d0 := d.at t
  let x := d0.queue g
  let lim := d0.rf (R.qst_TIMERS g) 0 16
  match x.chain with
  | some c => match c.since with
    | some k =>
      if lim = 0 ∨ x.lastTurn < k + 1000 * lim ∨ x.turn.isSome ∨ x.tail ≠ d0.fetchIdx g ∨
          !x.held.isEmpty ∨ x.fence.isSome ∨ d0.trackerFull ∨ d0.quotaFull (tenantOf g) then d0
      else ((d0.setQueue g { x with chain := none }).setChainHold g 0).timeOutChain g c
    | none => d0
  | none => d0
/-- OPEN_CHAIN_TIMEOUT (R356). -/
def execOpenChainTimeout (g : Fin 65536) (t : Nat) (s : State) : Host.Outcome State Fault Refusal := onDev (openChainTimeout g t) s

/-! ### Hod reads (R329, R389, R409) -/

/-- The segment of a job that holds byte `n` of its input: its place in the chain and its host address there. -/
def segmentAt : List (Nat × Nat) → List Nat → Nat → Nat × Nat
  | (a, l) :: r, k :: ks, n => if n < l then (k, a + n) else segmentAt r ks (n - l)
  | (a, _) :: _, [], n => (0, a + n)
  | [], _, _ => (0, 0)

/-- The place in the chain of the input segment that holds a host address. -/
def placeOf (j : Job) (a : Nat) : Nat :=
  (((j.ins.zip j.pos).find? fun (x : (Nat × Nat) × Nat) => decide (x.1.1 ≤ a ∧ a < x.1.1 + x.1.2)).map (·.2)).getD 0

/-- A read of a job's input ends in failure: the job completes WINDOW_FAULT (R329, R396). -/
def Device.inputFails (d : Device) (j : Job) (cause place addr : Nat) : Device :=
  (((d.cplFail (vfOf j.q) cause addr).count (R.hod_READ_FAILS (j.pipe % 16)) 1).windowFault j.q j.index 0 place).finishNow j.id 0x11

/-- Bytes of input arrive for the job at an index of queue g, into the buffers it has claimed. -/
def hodReadDone (g : Fin 65536) (index : Word) (data : List Byte) (t : Nat) (d : Device) : Device :=
  let d0 := d.at t
  match d0.jobAt g index.toNat with
  | none => d0
  | some j =>
    if j.st ≠ .staging then d0
    else if !d0.mayRequest (vfOf g) then
      let x := segmentAt j.ins j.pos j.input.length
      d0.inputFails j 0 x.1 x.2
    else
      let room := min (4096 * j.ing.total) j.inLen - j.input.length
      let l := data.take room
      let d1 := d0.count64 (R.hod_BYTES_IN_LO (j.pipe % 16)) l.length
      let d2 := { d1 with trace := { d1.trace with
        tcnt := bump d1.trace.tcnt (32 * tenantOf g + 16) l.length (2 ^ 64 - 1) } }
      let all := j.input ++ l
      if all.length = j.inLen then
        (d2.modJob j.id fun x => { x with input := all, st := .ready }).count (R.hod_JOBS_STAGED (j.pipe % 16)) 1
      else d2.modJob j.id fun x => { x with input := all }
/-- HOD_READ_DONE (R409). -/
def execHodReadDone (g : Fin 65536) (index : Word) (data : List Byte) (t : Nat) (s : State) : Host.Outcome State Fault Refusal :=
  onDev (hodReadDone g index data t) s

/-- A read of a job's input ends in UR, CA, poison or timeout at host address `addr`. -/
def readFailure (g : Fin 65536) (index : Word) (cause : Fin 4) (addr t : Nat) (d : Device) : Device :=
  let d0 := d.at t
  match d0.jobAt g index.toNat with
  | none => d0
  | some j => if j.st = .staging then d0.inputFails j cause.val (placeOf j addr) addr else d0
/-- READ_FAILURE (R329). -/
def execReadFailure (g : Fin 65536) (index : Word) (cause : Fin 4) (addr t : Nat) (s : State) : Host.Outcome State Fault Refusal :=
  onDev (readFailure g index cause addr t) s

/-! ### Claims (R408 to R411) -/

/-- The job of pipeline p that claims next from a pool: at ingress its first staging job that lacks a buffer, at egress the job
whose frame is open and waits. -/
def Device.claimant (d : Device) (ing : Bool) (p : Nat) : Option Job :=
  if ing then
    (d.jobs.find? fun j => j.isFrame && j.pipe == p && j.st == .staging && decide (j.ing.total < (j.inLen + 4095) / 4096))
  else if (d.pipe p).egrWant.isSome then (d.egressNext p).1
  else none

/-- Whether a job's next claim comes from a reserve. -/
def Device.fromReserve (d : Device) (ing : Bool) (j : Job) : Bool :=
  decide (d.heldPipe ing j.pipe < d.minPipe ing j.pipe) || decide (d.heldTen ing (tenantOf j.q) < d.minTen ing (tenantOf j.q))

/-- Grant the claim of pipeline p in a pool. -/
def Device.grant (d : Device) (ing : Bool) (p : Nat) : Device :=
  match d.claimant ing p with
  | none => d
  | some j => match d.claimOne ing j with
    | none => d
    | some b =>
      let d1 := d.modJob j.id fun x => x.setBufs ing b
      if ing then d1 else d1.egrWaitEnd p

/-- The claims of one pool in one stage cycle: reserves first, then the shared tier, in rotating order from the pool's pointer
when more pipelines ask than it has buffers free. -/
def bufferClaim (ing : Bool) (cyc : Nat) (d : Device) : Device :=
  let d0 := d.atCyc cyc
  let want := (List.range 64).filter fun p => (d0.claimant ing p).isSome
  let (d1, rest) := want.foldl (fun (x : Device × List Nat) p =>
    if (x.1.claimant ing p).any fun j => x.1.fromReserve ing j then (x.1.grant ing p, x.2) else (x.1, x.2 ++ [p])) (d0, [])
  let free := d1.freeShared ing
  if rest.length ≤ free then rest.foldl (fun d p => d.grant ing p) d1
  else if free = 0 then d1
  else
    let ptr := d1.poolPtr ing
    let order := (rest.filter fun p => ptr ≤ p) ++ rest.filter fun p => p < ptr
    let d2 := (order.take free).foldl (fun d p => d.grant ing p) d1
    let d3 := d2.setF R.hbm_POINTERS (if ing then 0 else 8) 6 (((order.take free).getLastD 0 + 1) % 64)
    (order.drop free).foldl (fun d p => d.count (if ing then R.hbm_ING_CONTENTION p else R.hbm_EGR_CONTENTION p) 1) d3
/-- BUFFER_CLAIM (R408). -/
def execBufferClaim (ing : Bool) (cyc : Nat) (s : State) : Host.Outcome State Fault Refusal := onArray (bufferClaim ing cyc) s

/-! ### Head publication (R376, R377) -/

/-- The completion message of queue g is sent (R377). -/
def Device.completionMsg (d : Device) (g : Nat) : Device :=
  (d.setQueue g { d.queue g with coalCount := 0 }).msix (vfOf g) (g % 64)

/-- HEAD of queue g advances, its mirror is written, and a message that is due is sent. -/
def headPublish (g : Fin 65536) (t : Nat) (d : Device) : Device :=
  let d0 := d.at t
  let (d1, irqs) := d0.advanceHead g (d0.jobs.length + 1)
  if d1.head g = d0.head g then d0
  else
    let x := d1.queue g
    let n := x.coalCount + irqs
    let d2 := (d1.setQueue g { x with
      coalCount := n
      coalTick := if x.coalCount = 0 then d1.now.tick else x.coalTick
      wdogTick := d1.now.tick }).setF (R.qst_QSTATUS g) 5 1 0
    let d3 := d2.writeMirror g
    let lim := d3.rf (R.qst_COALESCE g) 0 8
    if d3.rf (R.qst_QCTL g) 3 1 = 1 ∧ 0 < irqs ∧ lim ≠ 0 ∧ lim ≤ n then d3.completionMsg g else d3
/-- HEAD_PUBLISH (R376). -/
def execHeadPublish (g : Fin 65536) (t : Nat) (s : State) : Host.Outcome State Fault Refusal := onDev (headPublish g t) s

/-- COAL_US have passed since the first job counted. -/
def coalesceTimeout (g : Fin 65536) (t : Nat) (d : Device) : Device :=
  let d0 := d.at t
  let x := d0.queue g
  let us := d0.rf (R.qst_COALESCE g) 16 16
  if d0.rf (R.qst_QCTL g) 3 1 = 1 ∧ us ≠ 0 ∧ x.coalCount ≠ 0 ∧ x.coalTick + 1000 * us ≤ d0.now.tick then d0.completionMsg g
  else d0
/-- COALESCE_TIMEOUT (R377). -/
def execCoalesceTimeout (g : Fin 65536) (t : Nat) (s : State) : Host.Outcome State Fault Refusal := onDev (coalesceTimeout g t) s

/-! ### The queue reset (R383) -/

/-- Every job of queue g completes RESET_LOST and leaves the queue; an admitted one stays only for its frame. -/
def Device.loseJobs (d : Device) (g : Nat) : Device :=
  let mine := fun (j : Job) => j.q == g && !j.orphan
  let l := d.jobs.filter mine
  let d1 := l.foldl (fun d j => d.abandonJob j.id 0x3F true) d
  let d2 := l.foldl (fun d j => match d.job j.id with
    | some k => d.countJob g k.status
    | none => d.countJob g 0x3F) d1
  { d2 with jobs := d2.jobs.filter fun j => !mine j }

/-- Steps 1 to 3 of R383. -/
def Device.resetQueue (d : Device) (g : Nat) : Device :=
  let x := d.queue g
  let h := d.head g
  let f := d.fetchIdx g
  let d1 := (d.setQueue g x.cleared).loseJobs g
  let d2 := ((d1.setN (R.qst_HEAD g) x.tail).setN (R.qst_FETCH_IDX g) x.tail).writeMirror g
  let d3 := ((d2.setN R.qen_RESET_ABANDONED (u32sub x.tail f)).setN R.qen_RESET_OLD_HEAD h).setF (R.qst_QSTATUS g) 2 4 0
  let d4 := ((d3.clearPushCounts g).setN (R.qst_COMPLETED g) 0).clearQueueCounts g
  ((d4.setQueue g { d4.queue g with resetTick := some d4.now.tick }).setF (R.qst_QSTATUS g) 6 1 1).setF R.qen_QUEUE_CMD_STATUS 0 1 1

/-- QUEUE_CMD RESET of queue g, wherever it comes from: false where R383 refuses it. -/
def Device.queueResetCmd (d : Device) (g : Nat) : Bool × Device :=
  if d.qEnabled g then (false, (d.err 0x101000 0x0100 (wd g) 0).setF R.qen_QUEUE_CMD_STATUS 1 1 1)
  else if (d.queue g).resetTick.isSome then (true, d.setF R.qen_QUEUE_CMD_STATUS 1 1 0)
  else (true, (d.setF R.qen_QUEUE_CMD_STATUS 1 1 0).resetQueue g)

/-- A write of QUEUE_CMD with CMD RESET. -/
def queueReset (q : Req) (d : Device) : Device :=
  if fld q.data 16 2 ≠ 1 then d.at q.t
  else d.writeAt q R.qen_QUEUE_CMD fun d => (d.queueResetCmd (fld q.data 0 16)).2
/-- QUEUE_RESET (R383). -/
def execQueueReset (q : Req) (s : State) : Host.Outcome State Fault Refusal := onDev (queueReset q) s

/-- The reset of queue g completes: RESETTING and, with no other, BUSY read 0. -/
def queueResetDone (g : Fin 65536) (t : Nat) (d : Device) : Device :=
  let d0 := d.at t
  if (d0.queue g).resetTick.isNone then d0
  else
    let d1 := (d0.setQueue g { d0.queue g with resetTick := none }).setF (R.qst_QSTATUS g) 6 1 0
    let d2 := if d1.queues.any fun e => e.2.resetTick.isSome then d1 else d1.setF R.qen_QUEUE_CMD_STATUS 0 1 0
    d2.evtBit 0x100000 19
/-- QUEUE_RESET_DONE (R383). -/
def execQueueResetDone (g : Fin 65536) (t : Nat) (s : State) : Host.Outcome State Fault Refusal := onDev (queueResetDone g t) s

/-! ### The watchdog (R384) -/

/-- HEAD of queue g has not advanced for its WDOG ms. -/
def queueWdog (g : Fin 65536) (t : Nat) (d : Device) : Device :=
  let d0 := d.at t
  let x := d0.queue g
  let n := d0.rf (R.qst_TIMERS g) 16 16
  let busy := x.tail ≠ d0.head g ∨ d0.jobs.any fun j => j.q == g.val
  if d0.qEnabled g ∧ d0.qWeight g ≠ 0 ∧ n ≠ 0 ∧ d0.qStat g 5 = false ∧ busy ∧ x.wdogTick + 1000000 * n ≤ d0.now.tick then
    ((((d0.setF (R.qst_QSTATUS g) 5 1 1).queueErr g 3 (d0.head g) 0).evtBit 0x100000 16).faultOpen 0x100000 1)
  else d0
/-- QUEUE_WDOG (R384). -/
def execQueueWdog (g : Fin 65536) (t : Nat) (s : State) : Host.Outcome State Fault Refusal := onDev (queueWdog g t) s

end Sys2Proof.Machine
end

