-- ==== Sys2Proof/Machine/Ports.lean ====
section
/-! DEFINITION. Machine/Ports.lean: function level resets, power states, Bus Master Enable, translations, MSI-X masks and the port
switches (chapter 12, R311 to R340; R576). -/
namespace Sys2Proof.Machine

/-! ### Function level resets (R324, R325, R576) -/

/-- The MSI-X table and command state of function f return to reset; an FLR of it is in progress or not. -/
def Device.clearFn (d : Device) (f : Nat) (busy : Bool) : Device :=
  let d1 := d.setFn f { fn0 f with flr := busy, flrTick := if busy then d.now.tick else 0, d3 := (d.fn f).d3 && f < 2 }
  { d1 with hif := { d1.hif with
    vecs := Store.wipe (fun k => k / 4096 == f) d1.hif.vecs
    ats := d1.hif.ats.filter fun e => !(e.1 == f) } }

/-- Every job of tenant t ends RESET_LOST with nothing written, and its queues return to reset (R324, R576). -/
def Device.clearTenantQueues (d : Device) (t : Nat) : Device :=
  let mine := fun (j : Job) => tenantOf j.q == t && !j.orphan
  let d2 := { d with queues := Store.wipe (fun g => g / 64 == t) d.queues }
  let d3 := (d2.jobs.filter mine).foldl (fun d j => d.abandonJob j.id 0x3F false) d2
  let d4 := { d3 with jobs := d3.jobs.filter fun j => !mine j }
  let d5 := d4.clearRegs fun o => (decide (0x800000 ≤ o ∧ o < 0xC00000) && (o - 0x800000) / 0x1000 == t) ||
    (decide (0x4000000 ≤ o) && (o - 0x4000000) / 0x40000 == t)
  let d6 := { d5 with trace := { d5.trace with qcnt := Store.wipe (fun k => k / 256 == t) d5.trace.qcnt } }
  if d6.pend.length = d4.pend.length then d6 else d6.setN (0x101000 + 0x1C) 0

/-- What an FLR of its VF clears of TEN page t (R576): events, route, CTRL, the SKL registers and a pending commit. -/
def Device.clearTenantPage (d : Device) (t : Nat) : Device :=
  let pg := 0x400000 + 0x1000 * t
  let d1 := d.zeroRegs [pg + 0x20, pg + 0x24, pg + 0x2C, R.ten_SKL_SRC_LO t, R.ten_SKL_SRC_HI t, R.ten_SKL_STATUS t, R.ten_SKL_LEN t]
  let d2 := { d1 with pairs := d1.pairs.filter fun r => !(r.off == R.ten_SKL_SRC_LO t) }
  if d2.pend.any fun c => c.page = pg then
    { d2 with pend := d2.pend.filter fun c => !(c.page == pg) }.setN (pg + 0x1C) 0
  else d2

/-- The effects of an FLR on tenant t, its function apart. -/
def Device.resetTenant (d : Device) (t : Nat) : Device := ((d.failReader (2 + t)).clearTenantQueues t).clearTenantPage t

/-- An FLR of the VF of tenant t is initiated: one in progress absorbs it (R324); within a device reset it acts on configuration
space alone (R578). -/
def Device.startVfFlr (d : Device) (t : Nat) : Device :=
  if (d.fn (2 + t)).flr then d
  else if d.boot.devReset.isSome then d.clearFn (2 + t) true
  else (d.clearFn (2 + t) true).resetTenant t

/-- An FLR of the VF of tenant t, where the VF is enabled. -/
def vfFlr (tn : Fin 1024) (t : Nat) (d : Device) : Device :=
  let d0 := d.at t
  if d0.portExists (.tenant tn) then d0.startVfFlr tn else d0
/-- VF_FLR (R324). -/
def execVfFlr (tn : Fin 1024) (t : Nat) (s : State) : Host.Outcome State Fault Refusal := onDev (vfFlr tn t) s

/-- The FLR of a VF completes. -/
def vfFlrDone (tn : Fin 1024) (t : Nat) (d : Device) : Device :=
  let d0 := d.at t
  if (d0.fn (2 + tn)).flr then d0.setFn (2 + tn) { d0.fn (2 + tn) with flr := false, flrTick := 0 } else d0
/-- VF_FLR_DONE (R324). -/
def execVfFlrDone (tn : Fin 1024) (t : Nat) (s : State) : Host.Outcome State Fault Refusal := onDev (vfFlrDone tn t) s

/-- Every enabled VF is reset, and then VF Enable reads 0 (R315, R325). -/
def Device.disableVfs (d : Device) : Device :=
  if d.hif.vfEnable then
    let d1 := (List.range d.hif.numVfs).foldl (fun d k => d.startVfFlr k) d
    { d1 with hif := { d1.hif with vfEnable := false } }
  else d

/-- Host software clears VF Enable. -/
def vfEnableClear (t : Nat) (d : Device) : Device := (d.at t).disableVfs
/-- VF_ENABLE_CLEAR (R315). -/
def execVfEnableClear (t : Nat) (s : State) : Host.Outcome State Fault Refusal := onDev (vfEnableClear t) s

/-- An FLR of PF0 or PF1 is initiated. -/
def pfFlr (pf : Fin 2) (t : Nat) (d : Device) : Device :=
  let d0 := d.at t
  let f := pf.val
  if (d0.fn f).flr then d0
  else
    let d1 := (d0.clearFn f true).failReader f
    if f = 0 then d1
    else
      let d2 := d1.disableVfs
      { d2 with hif := { d2.hif with numVfs := 0, ari := false } }.setN R.prt_TEN_WINDOW 0
/-- PF_FLR (R325). -/
def execPfFlr (pf : Fin 2) (t : Nat) (s : State) : Host.Outcome State Fault Refusal := onDev (pfFlr pf t) s

/-- The FLR of a physical function completes. -/
def pfFlrDone (pf : Fin 2) (t : Nat) (d : Device) : Device :=
  let d0 := d.at t
  if (d0.fn pf).flr then d0.setFn pf { d0.fn pf with flr := false, flrTick := 0 } else d0
/-- PF_FLR_DONE (R325). -/
def execPfFlrDone (pf : Fin 2) (t : Nat) (s : State) : Host.Outcome State Fault Refusal := onDev (pfFlrDone pf t) s

/-! ### Power states, Bus Master Enable, translations (R326 to R328) -/

/-- A physical function enters D3hot. -/
def d3hot (pf : Fin 2) (t : Nat) (d : Device) : Device :=
  let d0 := d.at t
  d0.setFn pf { d0.fn pf with d3 := true }
/-- D3HOT (R326). -/
def execD3hot (pf : Fin 2) (t : Nat) (s : State) : Host.Outcome State Fault Refusal := onDev (d3hot pf t) s

/-- A physical function returns to D0 with its state kept. -/
def returnToD0 (pf : Fin 2) (t : Nat) (d : Device) : Device :=
  let d0 := d.at t
  d0.setFn pf { d0.fn pf with d3 := false }
/-- RETURN_TO_D0 (R326). -/
def execReturnToD0 (pf : Fin 2) (t : Nat) (s : State) : Host.Outcome State Fault Refusal := onDev (returnToD0 pf t) s

/-- Bus Master Enable of a function becomes 0. -/
def busMasterDisable (f : Fin 1026) (t : Nat) (d : Device) : Device :=
  let d0 := d.at t
  d0.setFn f { d0.fn f with bme := false }
/-- BUS_MASTER_DISABLE (R327). -/
def execBusMasterDisable (f : Fin 1026) (t : Nat) (s : State) : Host.Outcome State Fault Refusal := onDev (busMasterDisable f t) s

/-- An Invalidate Request for `n` pages of function f from page `lo` is completed: the cache holds none of them. -/
def atsInvalidate (f : Fin 1026) (lo n t : Nat) (d : Device) : Device :=
  let d0 := d.at t
  { d0 with hif := { d0.hif with
    ats := d0.hif.ats.filter fun e => !(e.1 == f.val && decide (lo ≤ e.2 ∧ e.2 < lo + n)) } }.count R.hif_ATS_INVALIDATES 1
/-- ATS_INVALIDATE (R328). -/
def execAtsInvalidate (f : Fin 1026) (lo n t : Nat) (s : State) : Host.Outcome State Fault Refusal := onDev (atsInvalidate f lo n t) s

/-! ### MSI-X (R322) -/

/-- The port whose function is f. -/
def fnPort (f : Fin 1026) : Port := if f.val = 0 then .mgmt else if f.val = 1 then .operator else .tenant (Fin.ofNat 1024 (f.val - 2))

/-- Offset of word w of vector v of function f in its own space (Tables 12.3, 12.5). -/
def msixOffset (f v w : Nat) : Nat := (if f < 2 then 0 else 0x60000) + 16 * v + 4 * w

/-- A write to the MSI-X table of function f reaches it: its port exists, the function is not in D3hot, and no FLR stands in the
way (R320, R324, R326). -/
def Device.msixAccess (d : Device) (f : Fin 1026) (v w : Nat) (write : Bool) (k : Device → Device) : Device :=
  let p := fnPort f
  if !d.portExists p then d
  else if d.portD3 p then d.unsupported
  else if msixSize f ≤ v then d.pgdDeny p (ownAddr (msixOffset f v w)) write
  else if 2 ≤ f.val ∧ (d.fn f).flr then d.pgdRecord (if write then R.pgd_LOST_WRITE_COUNT else R.pgd_LOST_READ_COUNT) (srcWord p)
    (ownAddr (msixOffset f v w)) (if write then 16 else 17)
  else k d

/-- The message that waits in the PBA for a vector is sent, unless a mask holds it. -/
def Device.msixRelease (d : Device) (f v : Nat) : Device :=
  if (d.vec f v).pend ∧ !(d.vec f v).mask ∧ !(d.fn f).fmask then (d.setVec f v { d.vec f v with pend := false }).msix f v else d

/-- The Mask bit of a vector becomes 0. -/
def msixUnmask (f : Fin 1026) (v : Fin 2048) (t : Nat) (d : Device) : Device :=
  (d.at t).msixAccess f v 3 true fun d => (d.setVec f v { d.vec f v with mask := false }).msixRelease f v
/-- MSIX_UNMASK (R322). -/
def execMsixUnmask (f : Fin 1026) (v : Fin 2048) (t : Nat) (s : State) : Host.Outcome State Fault Refusal := onDev (msixUnmask f v t) s

/-! ### Port switches (R336, R337) -/

/-- A write of PRT page 0 that only MGMT may make (R336, R337, R447). -/
def Device.prtWrite (d : Device) (q : Req) (off : Nat) (k : Device → Device) : Device :=
  d.writeAt q off fun d => if portCode q.port = 7 then d.errAccess 0x0001 q.port off true else k d

/-- PORT_OFF denies the ports written 1. -/
def portOff (q : Req) (d : Device) : Device :=
  d.prtWrite q R.prt_PORT_OFF fun d => d.setReg R.prt_PORT_OFF (d.reg R.prt_PORT_OFF ||| (q.data &&& 0x7E#32))
/-- PORT_OFF (R336). -/
def execPortOff (q : Req) (s : State) : Host.Outcome State Fault Refusal := onDev (portOff q) s

/-- The pages of directory entry n with their offsets. -/
def entryPages (n : Nat) : List Nat :=
  (List.range (((dirTable[n]?).map (·.2.2)).getD 0)).map fun i => blockBase n + 0x1000 * i

/-- The pages of each class in ascending offset (Table 12.8); PRT page 0 and page 1 differ. -/
def classPages (c : Nat) : List Nat :=
  let l : List Nat := match c with
    | 0 => [0, 1]
    | 1 => [4]
    | 3 => [3, 5, 6, 7, 8, 15, 16, 25, 26, 27, 28, 29]
    | 4 => [12, 13, 14, 18, 24, 30]
    | 5 => [9]
    | 6 => [10]
    | 7 => [11]
    | 8 => [19, 20, 21]
    | 9 => [22]
    | 10 => [17]
    | _ => []
  (if c = 1 then [0x2000] else if c = 2 then [0x3000] else []) ++ (l.map entryPages).flatten

/-- A MGMT write of {LOCK, MASK} to the PAGE_PORTS of page `pg` (R49); a 1 outside MASK logs WIDEN where `widen` asks. Answers
whether there was one. -/
def Device.narrow (d : Device) (pg mask lock : Nat) (v : Word) (widen : Bool) : Bool × Device :=
  let off := pg + 0xC
  if d.rf off 31 1 = 1 then (false, d.errValue 0x0005 .mgmt off v)
  else
    let m := d.rf off 0 7
    let w := mask &&& m ≠ mask
    let d1 := (d.setF off 0 7 (mask &&& m)).setF off 31 1 lock
    (w, if w && widen then d1.errValue 0x0006 .mgmt off v else d1)

/-- The walk of R337 over the pages of a class, in ascending offset. -/
def Device.walkClass (d : Device) (c mask lock : Nat) : Device :=
  let v := wd (mask + 2 ^ 31 * lock)
  (classPages c).foldl (fun d pg =>
    let (w, d1) := d.narrow pg mask lock v false
    if w then d1.count R.prt_CLASS_WIDEN 1 else d1) d

/-- CLASS_MASK with GO: the masks act at once, and the walk is busy until it is done. -/
def classMask (q : Req) (d : Device) : Device :=
  d.prtWrite q R.prt_CLASS_MASK fun d =>
    let c := fld q.data 8 4
    if d.hif.classWalk.isSome || decide (10 < c) then d.err 0x2000 0x0100 q.data 0
    else if fld q.data 31 1 = 0 then d
    else
      let d1 := d.walkClass c (fld q.data 0 7) (fld q.data 30 1)
      { d1 with hif := { d1.hif with classWalk := some d1.now.tick } }.setN R.prt_CLASS_STATUS 1
/-- CLASS_MASK (R337). -/
def execClassMask (q : Req) (s : State) : Host.Outcome State Fault Refusal := onDev (classMask q) s

/-- The walk is done. -/
def classMaskDone (t : Nat) (d : Device) : Device :=
  let d0 := d.at t
  if d0.hif.classWalk.isNone then d0
  else ({ d0 with hif := { d0.hif with classWalk := none } }.setN R.prt_CLASS_STATUS 0).evtBit 0x2000 16
/-- CLASS_MASK_DONE (R337). -/
def execClassMaskDone (t : Nat) (s : State) : Host.Outcome State Fault Refusal := onDev (classMaskDone t) s

/-! ### The link (R340) -/

/-- The Data Link Layer goes down. -/
def pcieLinkDown (t : Nat) (d : Device) : Device :=
  let d0 := d.at t
  if !d0.hif.linkUp then d0
  else
    (({ d0 with hif := { d0.hif with linkUp := false } }.setN R.hif_LINK_STATUS 0).count R.hif_LINK_DOWN_COUNT 1).evtBit 0x4000 16
/-- PCIE_LINK_DOWN (R340). -/
def execPcieLinkDown (t : Nat) (s : State) : Host.Outcome State Fault Refusal := onDev (pcieLinkDown t) s

end Sys2Proof.Machine
end

