-- ==== Sys2Proof/Machine/Sched.lean ====
section
/-! DEFINITION. Machine/Sched.lean: the Schedules block's commands: posting, the admission decision, release, and the
admission hold (chapter 9, R242 to R264; R293, R294). -/
namespace Sys2Proof.Machine

/-! ### A job reaches SCH (R242 to R244, R294) -/

/-- Whether Table 9.2 allows an EMIT for an egress kind. -/
def emitOk (emit kind : Nat) : Bool :=
  match emit with
  | 0 | 2 => kind == 1 || kind == 2 || kind == 3
  | 1 => kind != 0
  | _ => kind == 3

/-- The deadline distance (R243). -/
def Device.deadlineDist (d : Device) (j : Job) : Int :=
  if d.chMod j.pch = 0 then sext 64 ((j.head.deadline.toNat + 2 ^ 64 - j.head.admission.toNat) % 2 ^ 64)
  else ((j.head.deadline.toNat : Int) - j.head.admission.toNat) % d.chMod j.pch

/-- Whether R242 and Table 9.2 pass: positions inside [0, MOD), and for a FRAME its EMIT. DEADLINE_POS and EMIT of a SWAP job
are ignored (R293). -/
def Device.jobForm (d : Device) (j : Job) : Bool :=
  let m := d.chMod j.pch
  (m == 0 || (decide (j.head.admission.toNat < m) && (j.isSwap || decide (j.head.deadline.toNat < m)))) &&
    (j.isSwap || emitOk j.emit (d.egrKind j.pipe))

/-- The ADMIT entry of a job is posted with its targets, or the post is refused as FULL and repeated 64 ticks later (R244). -/
def Device.postAdmit (d : Device) (j : Job) (num : Nat) (ua ud : Int) : Device :=
  if d.evqFull then
    d.evqRefuse.modJob j.id fun x => { x with st := .retry (d.now.tick + 64), ua := ua, ud := ud }
  else
    let n := d.freeEntry num
    (d.modJob j.id fun x => { x with st := .posted, entry := some n, ua := ua, ud := ud }).post n .admission j.pch ua 0 j.id 0 0

/-- The checks of R232, R244 and R294, in that order; then the post. -/
def Device.jobToSch (d : Device) (j : Job) (num : Nat) : Device :=
  let p := j.pipe
  if refusesJobs (d.pipeState p) then d.finishNow j.id 0x02
  else if !d.chEnabled j.pch || d.srcKind j.pch == 0 then (d.finishNow j.id 0x15).count (R.sch_STALLED_REF_COUNT p) 1
  else if !d.jobForm j then d.finishNow j.id 0x10
  else match d.targetOf j.pch j.head.admission.toNat 0 with
    | none => d.finishNow j.id 0x10
    | some ua =>
      if !d.lookup p j.skim (tenantOf j.q) then d.skimMissing j.id p
      else d.postAdmit j num ua (wrapS 64 (ua + d.deadlineDist j))

/-- JOB_AT_SCH: the job at an index of a queue, its input staged, reaches SCH. -/
def jobAtSch (g : Fin 65536) (index : Word) (num : Fin 4096) (t : Nat) (d : Device) : Device :=
  let d0 := d.at t
  match d0.jobAt g index.toNat with
  | some j => if j.st = .ready ∧ j.piped then d0.jobToSch j num else d0
  | none => d0
/-- JOB_AT_SCH (R244, R294). -/
def execJobAtSch (g : Fin 65536) (index : Word) (num : Fin 4096) (t : Nat) (s : State) : Host.Outcome State Fault Refusal :=
  onDev (jobAtSch g index num t) s

/-- EVQ_POST_RETRY: a post refused as FULL is repeated with the target of the first attempt (R244). -/
def evqPostRetry (g : Fin 65536) (index : Word) (num : Fin 4096) (t : Nat) (d : Device) : Device :=
  let d0 := d.at t
  match d0.jobAt g index.toNat with
  | some j => match j.st with
    | .retry due =>
      if due ≤ d0.now.tick then (d0.count (R.sch_EVQ_RETRY_COUNT j.pipe) 1).postAdmit j num j.ua j.ud else d0
    | _ => d0
  | none => d0
/-- EVQ_POST_RETRY (R244). -/
def execEvqPostRetry (g : Fin 65536) (index : Word) (num : Fin 4096) (t : Nat) (s : State) : Host.Outcome State Fault Refusal :=
  onDev (evqPostRetry g index num t) s

/-! ### The admission decision (R245 to R247) -/

/-- The entry first in the order of delivery. -/
def firstHand : List EvEntry → Option EvEntry
  | [] => none
  | e :: r => match firstHand r with
    | none => some e
    | some f => if e.hand.getD 0 ≤ f.hand.getD 0 then some e else some f

/-- The ADMIT entry of pipeline p that SCH decides next (R245). -/
def Device.nextAdmit (d : Device) (p : Nat) : Option EvEntry :=
  firstHand (d.plb.entries.filter fun e => e.kind == .admission && e.hand.isSome && !e.wait && (d.job e.job).any fun j => j.pipe == p)

/-- q of R246: frames admitted and not yet entered ingress. -/
def Device.backlog (d : Device) (p : Nat) : Nat := ((d.pipe p).ingQ.filter fun id => (d.job id).any (·.isFrame)).length

/-- gap of R246. -/
def Device.gap (d : Device) (p : Nat) : Nat :=
  match (d.pipe p).lastFirst with
  | some c => c + d.rf (R.sch_MIN_INTERVAL p) 0 16 - d.now.cyc
  | none => 0

/-- `need` of R246, in ticks. -/
def Device.needTicks (d : Device) (p : Nat) : Nat :=
  let w := d.gap p + d.backlog p * d.rf (R.sch_MIN_INTERVAL p) 0 16
  ((d.rf (R.sch_LATENCY p) 0 24 + 16 + w) * 1000 + (d.mhz - 1)) / d.mhz + d.rn (R.sch_MARGIN_NS p)

/-- The outcomes of R246. -/
inductive Verdict where
  | refuse (held : Bool) | admission (nopred : Bool)
  deriving DecidableEq, Repr

/-- The decision of R246 for a FRAME job. -/
def Device.admitVerdict (d : Device) (j : Job) : Verdict :=
  let p := j.pipe
  let c := j.pch
  if d.rf (R.sch_SCHED_STATE p) 0 1 = 1 then .refuse true
  else if d.deadlineDist j ≤ 0 then .refuse false
  else if 0 ≤ wrapS 64 (d.chU c - j.ud) then .refuse false
  else if d.chState c ≠ 2 ∧ d.srcKind c = 1 then .admission true
  else if d.chVel c ≤ 0 then .admission true
  else match d.predict c j.ud with
    | none => .admission true
    | some t => if (t : Int) - d.now.tick < d.needTicks p then .refuse false else .admission false

/-- A job is refused TOO_FAST (R246). -/
def Device.tooFast (d : Device) (j : Job) (flags : BitVec 8) : Device :=
  (((d.modJob j.id fun x => { x with flags := x.flags ||| flags }).finishNow j.id 0x14).count (R.sch_TOO_FAST_COUNT j.pipe) 1).evtBit
    (schPage j.pipe) 16

/-- A job is admitted (R247): its entry becomes its RELEASE entry; a SWAP job, whose DEADLINE_POS is ignored (R293), keeps none. -/
def Device.admitJob (d : Device) (j : Job) (e : EvEntry) (flags : BitVec 8) : Device :=
  let p := j.pipe
  let d1 := d.modJob j.id fun x => { x with flags := x.flags ||| flags, st := .admitted, admCyc := d.now.cyc }
  let d2 := (d1.settle p).count64 (R.sch_ADMITTED_LO p) 1
  let d3 := if flags.getLsbD 1 then d2.count (R.sch_NOPRED_COUNT p) 1 else d2
  let d4 := d3.setPipe p { d3.pipe p with ingQ := (d3.pipe p).ingQ ++ [j.id] }
  if j.isSwap then d4.cancelEntry e.num
  else
    let r := { e with kind := .release, target := j.ud, mask := 0, due := none, hand := none, wait := false, fired := 0, pred := none }
    (d4.setEntry r).repredict r

/-- SCH decides the ADMIT entry `e` of job `j` (R229 to R232, R238, R246, R293). -/
def Device.decideEntry (d : Device) (j : Job) (e : EvEntry) : Device :=
  let p := j.pipe
  if d.pipeFault p then d.finishNow j.id 0x20
  else if refusesJobs (d.pipeState p) then d.finishNow j.id 0x02
  else if d.pipeState p ≠ 2 then d.setEntry { e with wait := true }
  else
    let past : BitVec 8 := if (e.due.map (·.past)).getD false then 4 else 0
    let v := if j.isSwap then (if d.rf (R.sch_SCHED_STATE p) 0 1 = 1 then Verdict.refuse true else .admission false) else d.admitVerdict j
    match v with
    | .refuse held => d.tooFast j (past ||| (if held then 1 else 0))
    | .admission nopred => d.admitJob j e (past ||| (if nopred then 2 else 0))

/-- ADMISSION_DECISION: the next delivered ADMIT entry of pipeline p is decided. -/
def admissionDecision (p : Fin 64) (t cyc : Nat) (d : Device) : Device :=
  let d0 := (d.at t).atCyc cyc
  if d0.pipeResetting p then d0
  else match d0.nextAdmit p with
    | none => d0
    | some e => match d0.job e.job with
      | none => d0
      | some j => d0.decideEntry j e
/-- ADMISSION_DECISION (R246). -/
def execAdmissionDecision (p : Fin 64) (t cyc : Nat) (s : State) : Host.Outcome State Fault Refusal :=
  onDev (admissionDecision p t cyc) s

/-! ### Release (R249 to R254) -/

/-- RESULT_RELEASE: the delivered RELEASE entry `e` releases an on-time result, or finds its frame late. -/
def resultRelease (e : Fin 4096) (t : Nat) (d : Device) : Device :=
  let d0 := d.at t
  match d0.plb.entries.find? fun x => x.num = e.val ∧ x.kind = .release ∧ x.hand.isSome with
  | none => d0
  | some x =>
    let due : Due := x.due.getD ⟨d0.now.tick, false, false, false, 0⟩
    let d1 := d0.setEntries (d0.plb.entries.filter fun y => !(y.num == x.num))
    match d1.job x.job with
    | none => d1
    | some j =>
      match j.done with
      | none => d1.markLate j.id due.tick
      | some td =>
        if td ≤ due.tick then
          (d1.modJob j.id fun y =>
            { y with due := some due.tick, flags := if due.jumped then y.flags ||| 8 else y.flags }).release j.id
        else (d1.markLate j.id due.tick).lateDone j.id
/-- RESULT_RELEASE (R251, R254). -/
def execResultRelease (e : Fin 4096) (t : Nat) (s : State) : Host.Outcome State Fault Refusal := onDev (resultRelease e t) s

/-- Whether the payload of a release can count as written (R251, R491, R550): the last flit of its frame has entered the RX FIFO of its
Lath port, or the replay buffer of its peer port. -/
def Device.payloadGone (d : Device) (j : Job) : Bool :=
  match j.peer with
  | some (k, c, n) => decide (2 ^ 32 ≤ n) || decide (n < Store.get zeroN (d.lw k).sent c)
  | none => d.egrKind j.pipe ≠ 2 || j.emit == 1 || j.dropped || decide ((Store.get noFlits d.edge.lpRx (d.egrRow j.pipe)).length ≤ 32)

/-- RELEASE_WRITES_DONE: the payload of a release is written; its header follows and the job is reported done. -/
def releaseWritesDone (g : Fin 65536) (index : Word) (t : Nat) (d : Device) : Device :=
  let d0 := d.at t
  match d0.jobAt g index.toNat with
  | some j => if j.st = .writing ∧ d0.payloadGone j then d0.releaseDone j.id else d0
  | none => d0
/-- RELEASE_WRITES_DONE (R251). -/
def execReleaseWritesDone (g : Fin 65536) (index : Word) (t : Nat) (s : State) : Host.Outcome State Fault Refusal :=
  onDev (releaseWritesDone g index t) s

/-! ### The admission hold (R255) -/

/-- HOLD_WINDOW_END: the aligned window before tick `t` has ended; the hold set before it clears where it was quiet. -/
def holdWindowEnd (p : Fin 64) (t cyc : Nat) (d : Device) : Device :=
  let d0 := ((d.atCyc cyc).settle p).at t
  let d1 := d0.setN (R.sch_WINDOW_DEBIT p) (d0.windowDebit p)
  let x := d1.pipe p
  let d2 := d1.setPipe p { x with win := d1.window, winDebit := if x.win = d1.window then x.winDebit else 0 }
  match x.holdWin with
  | some w =>
    if w + 1 < d2.window ∧ d2.rn (R.sch_WINDOW_DEBIT p) ≤ d2.rf (R.sch_RECOVER_CYC p) 0 24 ∧ x.lateWin ≠ some (d2.window - 1) then
      d2.clearHold p
    else d2
  | none => d2
/-- HOLD_WINDOW_END (R255, R262). -/
def execHoldWindowEnd (p : Fin 64) (t cyc : Nat) (s : State) : Host.Outcome State Fault Refusal := onDev (holdWindowEnd p t cyc) s

/-- CLEAR_HOLD: SCHED_CMD is written (R255). -/
def execClearHold (p : Fin 64) (q : Req) (s : State) : Host.Outcome State Fault Refusal :=
  onDev (fun d => d.writeAt q (R.sch_SCHED_CMD p) fun d => d.schedCmd p q.data) s

end Sys2Proof.Machine
end

