-- ==== Sys2Proof/Machine/PowerCore.lean ====
section
/-! DEFINITION. Machine/PowerCore.lean: the array clock, the stretch step, the V-F floor, throttle points and powered domains as
shared operations (chapter 17, R450 to R469). -/
namespace Sys2Proof.Machine

/-! ### The array clock -/

/-- Set the power state. -/
def Device.setPow (d : Device) (x : Pow) : Device := { d with pow := x }

/-! ### Stretch (R460, R461) -/

/-- S_LIMIT. -/
def Device.sLimit (d : Device) : Nat := d.rf R.pow_CLIP_CFG 0 4
/-- RELAX_NS. -/
def Device.relaxNs (d : Device) : Nat := d.rf R.pow_CLIP_CFG 8 20
/-- CAP_STEPS. -/
def Device.capSteps (d : Device) : Nat := d.rf R.pow_POW_STATUS 14 4
/-- The effective limit of bay group g (R459). -/
def Device.clipLimit (d : Device) (g : Nat) : Nat := d.rf (R.pow_CLIP_LIMIT g) 0 16 * (16 - d.capSteps) / 16

/-- The largest MIN_S of the active throttle points, up to S_LIMIT (R460, R465). -/
def Device.sFloor (d : Device) : Nat :=
  min d.sLimit ((List.range 4).foldl (fun m i =>
    if d.rf R.thm_THR_ACTIVE i 1 = 1 ∧ d.rf (R.thm_THR i) 28 1 = 1 then max m (d.rf (R.thm_THR i) 24 3) else m) 0)

/-- Every pipeline's debits are brought up to the present stage cycle, and the stretched cycles are counted. -/
def Device.settleAll (d : Device) : Device :=
  (List.range 64).foldl (fun d p => d.settle p) d

/-- STRETCHED and STRETCH_SUM are brought up to the present stage cycle. -/
def Device.countStretch (d : Device) : Device :=
  let n := d.now.cyc - d.pow.mark
  let d1 := if d.sNow = 0 then d else (d.count64 R.pow_STRETCHED_LO n).count64 R.pow_STRETCH_SUM_LO (n * d.sNow)
  d1.setPow { d1.pow with mark := d.now.cyc }

/-- The step becomes s: cycles stretched so far are debited and counted first. -/
def Device.setS (d : Device) (s : Nat) : Device :=
  let d1 := d.settleAll.countStretch.setF R.pow_POW_STATUS 10 4 s
  d1.setPow { d1.pow with stepTick := d.now.tick }

/-- A commit has made S_LIMIT at most the present step: a raise that is pending takes no effect (R460; log entry 85). -/
def Device.limitLowered (d : Device) : Device :=
  if d.sLimit ≤ d.sNow then d.setPow { d.pow with raise := none } else d

/-! ### The V-F floor (R452) -/

/-- VMIN at f MHz: linear between the fused points, rounded up. -/
def vmin (f : Nat) : Int :=
  let i := (f - 300) / 100
  let r := (f - 300) % 100
  let a : Int := Config.vfPoint i % 1024
  let b : Int := Config.vfPoint (i + 1) % 1024
  if r = 0 then a else ceilDiv (a * 100 + (b - a) * r) 100

/-- Whether v mV satisfies the floor of every bay that a set powers; `get` reads the set. -/
def floorOk (get : Nat → Word) (v : Nat) : Bool :=
  (List.range 64).all fun b =>
    fld (get (R.pow_BAY_PWR_LO + 4 * (b / 32))) (b % 32) 1 = 0 ||
      decide (vmin (fld (get R.pow_STAGE_CLK) 0 10) - 5 * ((Config.baySlack b % 16 : Nat) : Int) ≤
        (v : Int) - 5 * (fld (get (R.pow_BAY_TRIM b)) 0 4 : Int))

/-- VCORE_SET. -/
def Device.vcore (d : Device) : Nat := d.rf R.pow_VCORE_SET 0 10

/-- A register of a pending snapshot. -/
def Pending.get (p : Pending) (off : Nat) : Word := Store.get resetOf p.snap off

/-! ### Throttle points (R465) -/

/-- A temperature register as a signed number of 1/16 °C. -/
def tempOf (v : Word) : Int := sext 16 (fld v 0 16)

/-- Throttle point i is brought up to TMAX. -/
def Device.throttle (d : Device) (i : Nat) : Device :=
  let r := d.reg (R.thm_THR i)
  let m := tempOf (d.reg R.thm_TMAX)
  let was := d.rf R.thm_THR_ACTIVE i 1 = 1
  let on := fld r 31 1 = 1 ∧ (if was then tempOf r - fld r 16 8 ≤ m else tempOf r ≤ m)
  if on ∧ !was then
    ((d.setF R.thm_THR_ACTIVE i 1 1).count (R.thm_THR_COUNT i) 1).evtBit 0xE000 (16 + i)
  else if !on ∧ was then d.setF R.thm_THR_ACTIVE i 1 0
  else d

/-- Every throttle point, and the floor they hold under the step. -/
def Device.throttles (d : Device) : Device :=
  let d1 := (List.range 4).foldl (fun d i => d.throttle i) d
  if d1.sNow < d1.sFloor then d1.setS d1.sFloor else d1

/-- Sensors not FAILED, with their readings. -/
def Device.sensors (d : Device) : List (Nat × Int) :=
  (List.range 64).filterMap fun k => if d.rf (R.thm_SENSOR k) 16 1 = 1 then none else some (k, tempOf (d.reg (R.thm_SENSOR k)))

/-- TMAX over the sensors that are not FAILED, the lowest of equals; the throttle points follow. -/
def Device.updateTmax (d : Device) : Device :=
  match d.sensors with
  | [] => d
  | x :: r =>
    let m := r.foldl (fun (m : Nat × Int) y => if m.2 < y.2 then y else m) x
    (d.setN R.thm_TMAX (toBits 16 m.2 + 65536 * m.1)).throttles

/-! ### Powered domains (R454) -/

/-- Bit of a domain in a LO/HI pair: bays 0 to 63, slices 64 to 127. -/
def Device.domainBit (d : Device) (bay slice k : Nat) : Bool :=
  if k < 64 then d.bit64 bay k else d.bit64 slice (k - 64)
/-- Set or clear it. -/
def Device.setDomain (d : Device) (bay slice k v : Nat) : Device :=
  if k < 64 then d.setF (bay + 4 * (k / 32)) (k % 32) 1 v else d.setF (slice + 4 * ((k - 64) / 32)) ((k - 64) % 32) 1 v

/-- Whether domain k is powered in the committed set. -/
def Device.domainSet (d : Device) (k : Nat) : Bool := d.domainBit R.pow_BAY_PWR_LO R.pow_SLICE_PWR_LO k
/-- Whether domain k is ready. -/
def Device.domainOn (d : Device) (k : Nat) : Bool := d.domainBit R.pow_BAY_ON_LO R.pow_SLICE_ON_LO k

/-- The tiles of bay b (R98). -/
def bayTiles (b : Nat) : List Nat :=
  (List.range 64).map fun i => 64 * (8 * (b / 8) + i / 8) + 8 * (b % 8) + i % 8

/-- A bay or slice loses its contents: registers at reset values, memories as nothing had been written (R454). -/
def Device.wipeDomain (d : Device) (k : Nat) : Device :=
  if k < 64 then
    let ts := bayTiles k
    let d1 := d.clearRegs fun o => decide (0x1000000 ≤ o ∧ o < 0x2000000) && bayOf ((o - 0x1000000) / 0x1000) == k
    { d1 with
      tiles := Store.wipe (fun t => ts.contains t) d1.tiles
      tmem := Store.wipe (fun t => ts.contains t) d1.tmem }
  else
    let j := k - 64
    let d1 := d.clearRegs fun o => decide (0x90000 + 0x1000 * j ≤ o ∧ o < 0x91000 + 0x1000 * j)
    { d1 with slices := Store.del j d1.slices }

/-- Domain k is gated. -/
def Device.gateDomain (d : Device) (k : Nat) : Device :=
  let d1 := (d.setDomain R.pow_BAY_ON_LO R.pow_SLICE_ON_LO k 0).wipeDomain k
  d1.setPow { d1.pow with ramps := d1.pow.ramps.filter fun x => !(x == k) }

/-- The committed set of domains has changed: what it gates is off at once, and what it powers queues to ramp, bays first. -/
def Device.domainsChanged (d : Device) : Device :=
  let d1 := (List.range 128).foldl (fun d k =>
    if !d.domainSet k && (d.domainOn k || d.pow.ramps.contains k) then d.gateDomain k else d) d
  let new := (List.range 128).filter fun k => d1.domainSet k && !d1.domainOn k && !d1.pow.ramps.contains k
  d1.setPow { d1.pow with ramps := d1.pow.ramps ++ new }

end Sys2Proof.Machine
end

