-- ==== Sys2Proof/Machine/Power.lean ====
section
/-! DEFINITION. Machine/Power.lean: the VCORE regulator, PMBus telemetry, ramps, clip, the package cap and the thermal sensors
(chapter 17, R451 to R467). The hold and the trip stand with the commits in Machine/Commit.lean. -/
namespace Sys2Proof.Machine

/-! ### VCORE (R451) -/

/-- Whether a VCORE_SET value is safe for the committed set and for every pending POW snapshot (R451, R452). -/
def Device.vcoreOk (d : Device) (v : Nat) : Bool :=
  decide (550 ≤ v ∧ v ≤ Config.vmax % 1024) && floorOk d.reg v &&
    d.pend.all fun c => !(c.page == 0xC000) || floorOk c.get v

/-- A write of VCORE_SET: RANGE, or a Voltage write on the AVSBus. -/
def vcoreSetWrite (q : Req) (d : Device) : Device :=
  d.writeAt q R.pow_VCORE_SET fun d =>
    let v := fld q.data 0 10
    if d.vcoreOk v then
      let d1 := ((d.setF R.pow_VCORE_SET 0 10 v).setF R.pow_POW_STATUS 19 1 1).setF R.pow_POW_STATUS 20 1 0
      (d1.emit (.avs v)).setPow { d1.pow with avs := some d1.now.tick }
    else d.errValue 0x0003 q.port R.pow_VCORE_SET q.data
/-- VCORE_SET_WRITE (R451). -/
def execVcoreSetWrite (q : Req) (s : State) : Host.Outcome State Fault Refusal := onDev (vcoreSetWrite q) s

/-- AVS_FAULT: no further transaction until VCORE_SET is written. -/
def Device.avsFault (d : Device) : Device :=
  let d1 := ((d.setF R.pow_POW_STATUS 19 1 0).setF R.pow_POW_STATUS 20 1 1).setPow { d.pow with avs := none }
  (d1.evtBit 0xC000 19).err 0xC000 0x0100 (wd d1.vcore) 0

/-- A read-back of VCORE, at least 10 µs after the Voltage write; none: the transaction failed. -/
def avsReadback (mv : Option Nat) (t : Nat) (d : Device) : Device :=
  let d0 := d.at t
  match d0.pow.avs with
  | none => d0
  | some w =>
    if d0.now.tick < w + 10000 then d0
    else match mv with
      | none => d0.avsFault
      | some v =>
        let d1 := d0.setF R.pow_VCORE_NOW 0 10 v
        if v ≤ d1.vcore + 10 ∧ d1.vcore ≤ v + 10 then d1.setF R.pow_POW_STATUS 19 1 0
        else if w + 500000 ≤ d1.now.tick then d1.avsFault
        else d1
/-- AVS_READBACK (R451). -/
def execAvsReadback (mv : Option Nat) (t : Nat) (s : State) : Host.Outcome State Fault Refusal := onDev (avsReadback mv t) s

/-! ### PMBus (R453) -/

/-- VOUT times IOUT in mW under linear VOUT_MODE and LINEAR11, rounded down; none where the spec states no decoding or the result
is no u32. -/
def pmbPower (r : Sys2Proof.PmbRead) : Option Nat :=
  let e := sext 5 r.mode.toNat + sext 5 (r.iout.toNat / 2 ^ 11)
  let m : Int := (r.vout.toNat : Int) * sext 11 r.iout.toNat * 1000
  let x := if 0 ≤ e then m * (2 ^ e.toNat : Nat) else Int.fdiv m (2 ^ (-e).toNat : Nat)
  if r.mode.toNat / 32 = 0 ∧ 0 ≤ x ∧ x < (2 ^ 32 : Nat) then some x.toNat else none

/-- One poll of PMBus device k in the present window; none: not acknowledged. -/
def pmbusPoll (k : Fin 8) (r : Option Sys2Proof.PmbRead) (t : Nat) (d : Device) : Device :=
  let d0 := d.at t
  if d0.rf (R.pow_PMB_DEV k) 8 1 = 0 ∨ Store.get zeroN d0.pow.polls k = d0.window + 1 ∨ !d0.boot.core then d0
  else
    let d1 := (d0.setPow { d0.pow with polls := Store.set zeroN d0.pow.polls k (d0.window + 1) }).emit (.pmbus k)
    match r with
    | none => d1.err 0xC000 0x0102 (wd k.val) 0
    | some x =>
      let d2 := match pmbPower x with
        | some n => d1.setN (R.pow_PMB_P k) n
        | none =>
          let (w, d2) := d1.fresh
          d2.setReg (R.pow_PMB_P k) w
      if x.status = 0 then d2 else (d2.evtBit 0xC000 20).err 0xC000 0x0101 (wd k.val) (wd x.status.toNat)
/-- PMBUS_POLL (R453). -/
def execPmbusPoll (k : Fin 8) (r : Option PmbRead) (t : Nat) (s : State) : Host.Outcome State Fault Refusal := onDev (pmbusPoll k r t) s

/-! ### Ramps (R454) -/

/-- A powered bay finds the slots of its pipeline INVALID, slot 0 apart (chapter 10, Edges). -/
def Device.slotsLost (d : Device) (b : Nat) : Device :=
  match (List.range 64).find? fun p => d.inRegion p (b / 8) (b % 8) with
  | none => d
  | some p => (List.range 15).foldl (fun d i => if d.slotState p (i + 1) = 0 then d else d.dropSlot p (i + 1)) d

/-- A ramp completes: one of the four in progress. -/
def domainReady (k : Fin 128) (t : Nat) (d : Device) : Device :=
  let d0 := d.at t
  if (d0.pow.ramps.take 4).contains k.val then
    let d1 := (d0.setPow { d0.pow with ramps := d0.pow.ramps.erase k.val }).setDomain R.pow_BAY_ON_LO R.pow_SLICE_ON_LO k 1
    let d2 := if k.val < 64 then d1.slotsLost k else d1
    if (List.range 128).all fun j => d2.domainSet j == d2.domainOn j then d2.evtBit 0xD000 16 else d2
  else d0
/-- DOMAIN_READY (R454). -/
def execDomainReady (k : Fin 128) (t : Nat) (s : State) : Host.Outcome State Fault Refusal := onDev (domainReady k t) s

/-! ### Clip (R459, R460) -/

/-- One sample of the sixteen monitors, at a tick that is a multiple of 20. -/
def clipSample (readings : List (BitVec 16)) (t : Nat) (d : Device) : Device :=
  let d0 := d.at t
  if d0.now.tick % 20 ≠ 0 ∨ !d0.boot.core ∨ d0.boot.devReset.isSome then d0
  else
    let cur := fun g : Nat => ((readings[g]?).getD 0).toNat
    let d1 := (List.range 16).foldl (fun d g =>
      let d1 := d.setN (R.pow_GROUP_I g) (cur g)
      if d1.clipLimit g < cur g then d1.count (R.pow_GROUP_OVER g) 1 else d1) d0
    let high := (List.range 16).any fun g => d1.clipLimit g < cur g
    let low := (List.range 16).all fun g => 16 * cur g ≤ 15 * d1.clipLimit g
    let d2 := d1.setPow { d1.pow with relaxFrom := if low then some (d1.pow.relaxFrom.getD d1.now.tick) else none }
    if high ∧ d2.pow.raise.isNone ∧ (d2.sNow = 0 ∨ d2.pow.stepTick + 20 ≤ d2.now.tick) then
      if d2.sNow < d2.sLimit then d2.setPow { d2.pow with raise := some (d2.now.tick + 60) }
      else (d2.count R.pow_CLIP_AT_LIMIT 1).evtBit 0xC000 17
    else d2
/-- CLIP_SAMPLE (R459). -/
def execClipSample (readings : List (BitVec 16)) (t : Nat) (s : State) : Host.Outcome State Fault Refusal :=
  onDev (clipSample readings t) s

/-- The pending raise takes effect at a stage-cycle boundary. -/
def stretchRaise (t cyc : Nat) (d : Device) : Device :=
  let d0 := (d.at t).atCyc cyc
  match d0.pow.raise with
  | none => d0
  | some w =>
    if !d0.arrayRuns ∨ d0.now.tick < w then d0
    else
      let s := d0.sNow
      let d1 := (d0.setS (s + 1)).setPow { (d0.setS (s + 1)).pow with raise := none }
      if s = 0 then (d1.count R.pow_CLIP_EVENTS 1).evtBit 0xC000 16 else d1
/-- STRETCH_RAISE (R460). -/
def execStretchRaise (t cyc : Nat) (s : State) : Host.Outcome State Fault Refusal := onDev (stretchRaise t cyc) s

/-- The tick from which the step may fall: none, when nothing lets it (R460). -/
def Device.relaxDue (d : Device) : Option Nat :=
  if d.sLimit < d.sNow then some (d.pow.stepTick + d.relaxNs)
  else d.pow.relaxFrom.map fun x => max x d.pow.stepTick + d.relaxNs

/-- The step falls by one at a stage-cycle boundary. -/
def stretchRelax (t cyc : Nat) (d : Device) : Device :=
  let d0 := (d.at t).atCyc cyc
  match d0.relaxDue with
  | none => d0
  | some w =>
    if d0.arrayRuns && decide (w ≤ d0.now.tick) && decide (0 < d0.sNow) && decide (d0.sFloor < d0.sNow) then d0.setS (d0.sNow - 1)
    else d0
/-- STRETCH_RELAX (R460). -/
def execStretchRelax (t cyc : Nat) (s : State) : Host.Outcome State Fault Refusal := onDev (stretchRelax t cyc) s

/-! ### The package cap (R457, R463) -/

/-- The package power in mW from the window's mean current in 1/16 A. -/
def Device.pkgPower (d : Device) (mean : Nat) : Nat :=
  d.rf R.pow_VCORE_NOW 0 10 * mean / 16 + (List.range 8).foldl (fun s k => s + d.rn (R.pow_PMB_P k)) 0 + d.rf R.pow_FIXED_MW 0 16

/-- The end of an aligned window: P is formed and CAP_STEPS adjusted, and the island's estimated power, which is the device's
own, is reported. -/
def capWindow (mean t : Nat) (d : Device) : Device :=
  let d0 := d.at t
  let w := d0.window
  if w = 0 ∨ d0.pow.capWin = some w ∨ !d0.boot.core then d0
  else
    let (a, d1) := (d0.setPow { d0.pow with capWin := some w }).fresh
    let p := d1.pkgPower mean
    let cap := 1000 * d1.rf R.pow_PKG_CAP 0 8
    let d2 := (d1.setN R.pow_AON_POWER (fld a 0 16)).setN R.pow_PKG_POWER (min wordMax p)
    let c := d2.capSteps
    if cap < p then
      let d3 := d2.setF R.pow_POW_STATUS 14 4 (min 12 (c + 1))
      if c = 0 then d3.evtBit 0xC000 18 else d3
    else if 16 * p < 15 * cap then d2.setF R.pow_POW_STATUS 14 4 (c - 1)
    else d2
/-- CAP_WINDOW (R463). -/
def execCapWindow (mean t : Nat) (s : State) : Host.Outcome State Fault Refusal := onDev (capWindow mean t) s

/-! ### Sensors (R464, R467) -/

/-- Sensor k updates. -/
def sensorUpdate (k : Fin 64) (temp : BitVec 16) (t : Nat) (d : Device) : Device :=
  let d0 := d.at t
  ((d0.setPow { d0.pow with seen := Store.set zeroN d0.pow.seen k d0.now.tick }).setF (R.thm_SENSOR k) 0 16 temp.toNat).updateTmax
/-- SENSOR_UPDATE (R464). -/
def execSensorUpdate (k : Fin 64) (temp : BitVec 16) (t : Nat) (s : State) : Host.Outcome State Fault Refusal :=
  onDev (sensorUpdate k temp t) s

/-- Sensor k fails its self-test, or has missed an update by 1 ms: it is FAILED. -/
def sensorFail (k : Fin 64) (selfTest : Bool) (t : Nat) (d : Device) : Device :=
  let d0 := d.at t
  if d0.rf (R.thm_SENSOR k) 16 1 = 1 ∨ (!selfTest && decide (d0.now.tick < Store.get zeroN d0.pow.seen k + 1100000)) then d0
  else
    let d1 := (d0.setF (R.thm_SENSOR k) 16 1 1).setF R.thm_FAILED_COUNT 0 7 (d0.rf R.thm_FAILED_COUNT 0 7 + 1)
    ((d1.evtBit 0xE000 20).err 0xE000 0x0100 (wd k.val) 0).updateTmax
/-- SENSOR_FAIL (R464). -/
def execSensorFail (k : Fin 64) (selfTest : Bool) (t : Nat) (s : State) : Host.Outcome State Fault Refusal :=
  onDev (sensorFail k selfTest t) s

/-- After a clearing reset, when the sensors allow it, TRIPPED clears and THERM_N is released (R467). -/
def tripCooled (t : Nat) (d : Device) : Device :=
  let d0 := d.at t
  if d0.pow.cooling && d0.sensors.all (fun x => decide (x.2 < 1680)) && decide (d0.rf R.thm_FAILED_COUNT 0 7 ≤ 4) then
    ((d0.setF R.thm_TRIP_STATUS 0 1 0).setF R.thm_TRIP_STATUS 1 1 0).setPow { d0.pow with cooling := false } |>.presenceSync
  else d0
/-- TRIP_COOLED (R467). -/
def execTripCooled (t : Nat) (s : State) : Host.Outcome State Fault Refusal := onDev (tripCooled t) s

end Sys2Proof.Machine
end

