-- ==== Sys2Proof/Machine/HartCore.lean ====
section
/-! DEFINITION. Machine/HartCore.lean: the Chewarix harts' registers, fetch, decoding, store buffers, faults and the issue of one
instruction (chapter 16, R417 to R434, R438, R439). -/
namespace Sys2Proof.Machine

/-! ### Registers -/

/-- Register i of a hart: w0 reads 0 (R417). -/
def Hart.r (x : Hart) (i : Nat) : Word := if i = 0 then 0 else Store.get zeroW x.w i

/-- Write register i: writes to w0 are discarded. -/
def Hart.setR (x : Hart) (i : Nat) (v : Word) : Hart := if i = 0 then x else { x with w := Store.set zeroW x.w i v }

/-- Hart h. -/
def State.hart (s : State) (h : Nat) : Hart := Store.get hart0 s.harts.all h

/-- Set hart h. -/
def State.setHart (s : State) (h : Nat) (x : Hart) : State := { s with harts := { s.harts with all := Store.set hart0 s.harts.all h x } }

/-- Change the device alone. -/
def State.onDevice (s : State) (f : Device → Device) : State := { s with dev := f s.dev }

/-- CODE_LIMIT as an address. -/
def State.codeLimit (s : State) : Nat := s.dev.rn R.sup_CODE_LIMIT % 2 ^ 19 / 4 * 4

/-! ### Instruction words (R428, Tables 16.4 and 16.5) -/

/-- The fields of an instruction word: OPC, RD (RA), RS (RB), RT and the 18 low bits. -/
structure HWord where
  op : Nat
  rd : Nat
  rs : Nat
  rt : Nat
  imm : Nat
  tgt : Nat
  deriving DecidableEq, Repr

/-- The fields of a word. -/
def hartFields (w : Word) : HWord := ⟨fld w 26 6, fld w 22 4, fld w 18 4, fld w 14 4, fld w 0 18, fld w 0 26⟩

/-- Table 16.5: OPC, cycles, and the bits of the word that must be 0. -/
def hartTable : List (Nat × Nat × Nat) := [
  (0x01, 1, 0x3FFF), (0x02, 1, 0x3FFF), (0x03, 1, 0x3FFF), (0x04, 1, 0x3FFF), (0x05, 1, 0x3FFF), (0x06, 1, 0x3FFF),
  (0x07, 1, 0x3FFF), (0x08, 1, 0x3FFF), (0x09, 1, 0x3FFF), (0x0A, 1, 0x3FFF), (0x0B, 2, 0x3FFF),
  (0x10, 1, 0), (0x11, 1, 0), (0x12, 1, 0), (0x13, 1, 0), (0x14, 1, 0x3FFE0), (0x15, 1, 0x3FFE0), (0x16, 1, 0x3FFE0),
  (0x17, 1, 0x3F0000), (0x18, 2, 0), (0x19, 2, 0), (0x1A, 1, 0), (0x1B, 1, 0), (0x1C, 5, 0),
  (0x1D, 5, 0x3FFF), (0x1E, 5, 0x3FFF), (0x1F, 4, 0x3FFFFFF), (0x20, 64, 0), (0x21, 8, 0), (0x22, 2, 0x3C01FC0),
  (0x28, 2, 0), (0x29, 2, 0), (0x2A, 2, 0), (0x2B, 2, 0), (0x2C, 2, 0), (0x2D, 2, 0), (0x2E, 2, 0),
  (0x30, 2, 0x3C3FC00), (0x31, 1, 0x3FFFFFF), (0x32, 2, 0), (0x33, 2, 0x3FFFFFF), (0x34, 3, 0x3C3FC00),
  (0x38, 3, 0x3FFF8 + 0x3C0000), (0x39, 2, 0x3FFFE + 0x3C0000), (0x3A, 2, 0x3FFFFFF)]

/-- The row of an opcode: cycles and must-be-zero bits. -/
def hartRow (op : Nat) : Option (Nat × Nat) := (hartTable.find? fun r => r.1 = op).map (·.2)

/-- Decode a word: none raises ILLEGAL (R428). -/
def hartDecode (w : Word) : Option HWord :=
  match hartRow (fld w 26 6) with
  | some (_, mbz) => if w.toNat &&& mbz = 0 then some (hartFields w) else none
  | none => none

/-- The cycles of an opcode (R429). -/
def hartCycles (op : Nat) : Nat := ((hartRow op).map (·.1)).getD 1

/-- The sign-extended immediate modulo 2^32. -/
def sxImm (i : HWord) : Word := BitVec.ofInt 32 (sext 18 i.imm)

/-! ### Faults (R438) -/

/-- Hart h ends its handler with a fault: the code, the pc, and for BUS and CODE_WRITE the address. -/
def State.hartFault (s : State) (h code pc : Nat) (addr : Option Nat) : State :=
  let x := s.hart h
  let s1 := s.setHart h { x with st := .faulted, first := none }
  s1.onDevice fun d =>
    let d1 := ((d.setN (R.sup_HART_FCODE h) (2 ^ 31 + code)).setN (R.sup_HART_FPC h) pc)
    let d2 := match addr with
      | some a => d1.setN (R.sup_HART_FADDR h) a
      | none => d1
    let d3 := (d2.err 0xA000 code (wd pc) (wd (h + 256 * x.slot))).evtBit 0xA000 16
    d3.supEventTag 5 (d3.rf R.sup_FAULT_SLOT 0 6) (wd (16 * h)) (wd code) h

/-! ### The scratchpad (R420 to R423) -/

/-- A scratchpad word is read: a single-bit error is corrected and counted; none for an uncorrectable word, counted (R421). -/
def State.spWord (s : State) (a : Nat) : Option Word × State :=
  let v := wd (Memory.rd s.harts.sp (a / 4 * 4) 4)
  match s.dev.upset .spad 0 (a / 4) with
  | some true => (none, s.onDevice fun d => d.count R.sup_SP_UE_COUNT 1)
  | some false => (some v, s.onDevice fun d => (d.mend .spad 0 (· == a / 4)).countCe R.sup_SP_CE_COUNT)
  | none => (some v, s)

/-- Bytes are written to the scratchpad; a whole word written carries fresh check bits. -/
def State.spWrite (s : State) (a n : Nat) (v : Word) : State :=
  let s1 := { s with harts := { s.harts with sp := Memory.wr s.harts.sp a n v.toNat } }
  if n = 4 then s1.onDevice fun d => d.mend .spad 0 (· == a / 4) else s1

/-- BUDGET of a hart's slot. -/
def State.budget (s : State) (h : Nat) : Nat := s.dev.rf (R.sup_HS_BUDGET (s.hart h).slot) 0 24

/-- Whether an access is that of the instruction in progress, a five-cycle one, and not a store already issued. -/
def PAcc.inst (a : PAcc) : Bool := a.op != .store || decide (0x7F000 ≤ a.addr)

/-- Whether hart h runs and its budget ends before hart cycle c does (R439). -/
def State.expired (s : State) (h c : Nat) : Bool :=
  (s.hart h).st == .running && (s.hart h).first.any fun f => decide (f + s.budget h ≤ c)

/-- An access of hart h is performed (R422, R423), unless its handler's budget has ended its instruction (R438). -/
def State.performAcc (s : State) (h : Nat) (a : PAcc) : State :=
  if a.inst && s.expired h a.due then s.hartFault h 0x101 (s.hart h).cur none
  else match a.op with
  | .store => s.spWrite a.addr a.size a.data
  | .swap rd => match s.spWord a.addr with
    | (none, s1) => if (s1.hart h).st = .running then s1.hartFault h 0x108 (s1.hart h).cur none else s1
    | (some v, s1) =>
      let s2 := s1.spWrite a.addr 4 a.data
      s2.setHart h ((s2.hart h).setR rd v)
  | .cas rd cmp => match s.spWord a.addr with
    | (none, s1) => if (s1.hart h).st = .running then s1.hartFault h 0x108 (s1.hart h).cur none else s1
    | (some v, s1) =>
      let s2 := if v = cmp then s1.spWrite a.addr 4 a.data else s1
      s2.setHart h ((s2.hart h).setR rd v)

/-- The hart whose oldest access is performed next: the earliest, then the lowest hart (R420). -/
def State.nextAcc (s : State) : Option (Nat × PAcc) :=
  (List.range 4).foldl (fun (m : Option (Nat × PAcc)) h => match (s.hart h).buf with
    | [] => m
    | a :: _ => match m with
      | none => some (h, a)
      | some (k, b) => if a.due < b.due then some (h, a) else some (k, b)) none

/-- Perform every access due by the end of hart cycle c. -/
def State.drain (s : State) (c : Nat) : Nat → State
  | 0 => s
  | fuel + 1 => match s.nextAcc with
    | none => s
    | some (h, a) =>
      if a.due ≤ c then
        State.drain ((s.setHart h { s.hart h with buf := (s.hart h).buf.tail }).performAcc h a) c fuel
      else s

/-- Time reaches hart cycle c: what is due has been performed. -/
def State.atHart (s : State) (c : Nat) : State :=
  (s.onDevice fun d => { d with now := { d.now with hcyc := max d.now.hcyc c } }).drain c 32

/-! ### Issue -/

/-- A word of code (R418, R419): BUS outside the code, SP_UE for an uncorrectable word. -/
def State.fetch (s : State) (a : Nat) : Except (Nat × Option Nat) Word × State :=
  if a % 4 ≠ 0 ∨ s.codeLimit ≤ a ∨ 0x7F000 ≤ a then (.error (0x106, some a), s)
  else match s.spWord a with
    | (none, s1) => (.error (0x108, none), s1)
    | (some w, s1) => (.ok w, s1)

/-- The pc of hart h's fault when its budget ends at cycle c: the instruction in progress, or the next. -/
def Hart.faultPc (x : Hart) (c : Nat) : Nat := if c < x.free then x.cur else x.pc

/-- Hart h issues the instruction at its pc in hart cycle c, if it may and the word is an instruction that `want` names; `act`
gives its effect with the pc already past it and the hart busy for its cycles. None in the table: ILLEGAL. -/
def State.issue (s : State) (h c : Nat) (want : Option Nat) (act : HWord → State → State) : State :=
  let s0 := s.atHart c
  let x := s0.hart h
  if x.st ≠ .running ∨ c < x.free then s0
  else if s0.expired h c then s0.hartFault h 0x101 x.pc none
  else match s0.fetch x.pc with
    | (.error e, s1) => s1.hartFault h e.1 x.pc e.2
    | (.ok w, s1) =>
      match hartDecode w with
      | none => if want = none then s1.hartFault h 0x100 x.pc none else s0
      | some i =>
        if want ≠ some i.op then s0
        else
          let y := s1.hart h
          act i (s1.setHart h { y with
            cur := y.pc
            pc := (y.pc + 4) % 2 ^ 32
            free := c + hartCycles i.op
            first := y.first.or (some c) })

/-- The running instruction of hart h faults: its pc stays the instruction's. -/
def State.faultAt (s : State) (h code : Nat) (addr : Option Nat) : State :=
  let pc := (s.hart h).cur
  (s.setHart h { s.hart h with pc := pc }).hartFault h code pc addr

/-- Write a result. -/
def State.put (s : State) (h rd : Nat) (v : Word) : State := s.setHart h ((s.hart h).setR rd v)

/-- Set the pc. -/
def State.jump (s : State) (h a : Nat) : State := s.setHart h { s.hart h with pc := a % 2 ^ 32 }

/-- The base loop depth of the current frame (R431, R432). -/
def Hart.fb (x : Hart) : Nat := (x.calls.head?.map (·.2)).getD 0

/-- Whether a target lies beyond the ENDLOOP of the innermost loop open in the current frame (R430). -/
def Hart.beyond (x : Hart) (a : Nat) : Bool :=
  x.fb < x.loops.length && match x.loops with
    | [] => false
    | l :: _ => l.fin < a

/-- A taken branch, JMP or DISPATCH to a target (R430). -/
def State.goForward (s : State) (h a : Nat) : State :=
  if (s.hart h).beyond a then s.faultAt h 0x102 none else s.jump h a

/-- HART_CMD RESTART of hart h (R438): a FAULTED hart becomes IDLE with w1 to w15 and both stacks cleared. -/
def State.restartHart (s : State) (h : Nat) : State :=
  let x := s.hart h
  if x.st = .faulted then
    (s.setHart h { x with
      st := .idle
      w := []
      loops := []
      calls := []
      first := none }).onDevice fun d => d.setF (R.sup_HART_FCODE h) 31 1 0
  else s

/-- Hart h leaves reset: IDLE with its registers 0 (chapter 16, Edges). -/
def State.hartReady (s : State) (h : Nat) : State :=
  if (s.hart h).st = .off then s.setHart h { hart0 h with st := .idle } else s

/-! ### Meanings by shape -/

/-- A register instruction of opcode `op` whose result is `f` of w[RS] and w[RT]. -/
def hartR (op h c : Nat) (f : Word → Word → Word) (s : State) : State :=
  s.issue h c (some op) fun i s => s.put h i.rd (f ((s.hart h).r i.rs) ((s.hart h).r i.rt))

/-- An immediate instruction whose result is `f` of w[RS] and the word's fields. -/
def hartI (op h c : Nat) (f : Word → HWord → Word) (s : State) : State :=
  s.issue h c (some op) fun i s => s.put h i.rd (f ((s.hart h).r i.rs) i)

/-- A branch taken when `f` of w[RA] and w[RB] holds. -/
def hartB (op h c : Nat) (f : Word → Word → Bool) (s : State) : State :=
  s.issue h c (some op) fun i s =>
    if f ((s.hart h).r i.rd) ((s.hart h).r i.rs) then s.goForward h ((s.hart h).pc + 4 * i.imm) else s

/-! ### Loads and stores (R418, R419, R422, R423) -/

/-- The address w[RS] + sx(IMM). -/
def Hart.addr (x : Hart) (i : HWord) : Nat := (x.r i.rs + sxImm i).toNat

/-- What a hart's own store buffer makes of a byte of memory. -/
def forward (buf : List PAcc) (a : Nat) (b : Byte) : Byte :=
  buf.foldl (fun b p => if p.op = .store ∧ p.addr ≤ a ∧ a < p.addr + p.size then
    BitVec.ofNat 8 (p.data.toNat / 2 ^ (8 * (a - p.addr))) else b) b

/-- The word that holds address a as hart h loads it: the scratchpad merged with its own buffer, or the ROM. -/
def State.loadWord (s : State) (h a : Nat) : Option Word × State :=
  if 0xF0000000 ≤ a then (some (Config.romWord ((a - 0xF0000000) / 4)), s)
  else match s.spWord a with
    | (none, s1) => (none, s1)
    | (some w, s1) =>
      let base := a / 4 * 4
      let b := (List.range 4).map fun k => forward (s1.hart h).buf (base + k) (BitVec.ofNat 8 (w.toNat / 2 ^ (8 * k)))
      (some (wd ((b.zipIdx.map fun (x : Byte × Nat) => x.1.toNat * 2 ^ (8 * x.2)).sum)), s1)

/-- Whether a load may use an address: the scratchpad or the ROM. -/
def loadable (a : Nat) : Bool := a < 0x80000 || (0xF0000000 ≤ a && a < 0xF0010000)

/-- A load of n bytes at a: `f` makes the result of the word read. -/
def hartLoad (op n h c : Nat) (f : Word → Nat → Word) (s : State) : State :=
  s.issue h c (some op) fun i s =>
    let a := (s.hart h).addr i
    if a % n ≠ 0 ∨ !loadable a then s.faultAt h 0x106 (some a)
    else match s.loadWord h a with
      | (none, s1) => s1.faultAt h 0x108 none
      | (some w, s1) => s1.put h i.rd (f w a)

/-- What a store or atomic access to an address raises, where it may not: CODE_WRITE below CODE_LIMIT, BUS elsewhere. -/
def State.storeFault (s : State) (a n : Nat) (plain ordered : Bool) : Option Nat :=
  if a % n ≠ 0 ∨ 0x80000 ≤ a then some 0x106
  else if 0x7F000 ≤ a then (if ordered then none else some 0x106)
  else if !plain then some 0x106
  else if a < s.codeLimit then some 0x107
  else none

/-- Put an access into hart h's store buffer. -/
def State.buffer (s : State) (h : Nat) (a : PAcc) : State := s.setHart h { s.hart h with buf := (s.hart h).buf ++ [a] }

/-- A store of n bytes, in the ordinary scratchpad or the ordered window. -/
def hartStore (op n h c : Nat) (plain : Bool) (s : State) : State :=
  s.issue h c (some op) fun i s =>
    let a := (s.hart h).addr i
    match s.storeFault a n plain (!plain) with
    | some k => s.faultAt h k (some a)
    | none => s.buffer h ⟨c + 4, a, n, (s.hart h).r i.rd, .store⟩

/-- AMOSWAP or CAS: one indivisible access in the fifth cycle. -/
def hartAtomic (op h c : Nat) (f : HWord → Hart → AccOp) (s : State) : State :=
  s.issue h c (some op) fun i s =>
    let a := ((s.hart h).r i.rs).toNat
    match s.storeFault a 4 true true with
    | some k => s.faultAt h k (some a)
    | none => s.buffer h ⟨c + 4, a, 4, (s.hart h).r i.rt, f i (s.hart h)⟩

/-- Write a 64-bit value to w[RD] and w[RD + 1]; ILLEGAL unless RD is even, 2 to 14 (R434). -/
def State.putPair (s : State) (h rd v : Nat) : State :=
  if rd % 2 ≠ 0 ∨ rd = 0 then s.faultAt h 0x100 none
  else (s.put h rd (wd v)).put h (rd + 1) (wd (v / 2 ^ 32))

end Sys2Proof.Machine
end

