-- ==== Sys2Proof/Machine/Sup.lean ====
section
/-! DEFINITION. Machine/Sup.lean: the supervisor event queue and its dispatcher, timers, software events, the heartbeat and the
mailboxes (chapter 16, R435 to R444). -/
namespace Sys2Proof.Machine

/-! ### The event queue (R435, R436) -/

/-- Set the event queue: EVQ_USED and EVQ_HIGH follow. -/
def Device.setEvq (d : Device) (l : List SupEvent) : Device :=
  let d1 := ({ d with sup := { d.sup with evq := l } }).setN R.sup_EVQ_USED l.length
  d1.setN R.sup_EVQ_HIGH (max (d1.rn R.sup_EVQ_HIGH) l.length)

/-- The order of kinds within one hart cycle (R436): FAULT, TIMER, WAKE, MBOX, ARQ, SW, PAGE; INIT, posted once, comes first. -/
def kindRank (k : Nat) : Nat :=
  match k with
  | 7 => 0
  | 5 => 1
  | 6 => 2
  | 1 => 3
  | 4 => 4
  | 2 => 5
  | 3 => 6
  | _ => 7

/-- Whether post a enters before post b: held posts first, then by hart cycle, kind and number. -/
def SupEvent.before (a b : SupEvent) : Bool :=
  let k := fun (e : SupEvent) => (if e.held then 0 else e.tick / 2 + 1, kindRank e.kind, e.src.toNat)
  let x := k a
  let y := k b
  decide (x.1 < y.1) || (x.1 == y.1 && (decide (x.2.1 < y.2.1) || (x.2.1 == y.2.1 && decide (x.2.2 < y.2.2))))

/-- The post of a list that enters first. -/
def firstPost : List SupEvent → Option SupEvent
  | [] => none
  | a :: r => match firstPost r with
    | none => some a
    | some b => if b.before a then some b else some a

/-- What its source releases once a post is in the queue (R436): a WAKE entry is freed, an ARQ leaves its place. -/
def State.released (s : State) (e : SupEvent) : State :=
  if e.kind = 1 then s.onDevice fun d => d.setEntries (d.plb.entries.filter fun x => !(x.num == e.tag))
  else if e.kind = 2 then
    let h := e.tag / 8
    s.setHart h { s.hart h with arqs := (s.hart h).arqs.filter fun a => !(a.place == e.tag % 8) }
  else s

/-- The next post enters the queue, or is held while it is full. -/
def eventPost (t : Nat) (s : State) : State :=
  let s0 := s.onDevice (·.at t)
  let d := s0.dev
  if d.sup.evq.length < 256 then
    match firstPost d.arriving with
    | none => s0
    | some e =>
      let v := if e.held ∧ e.kind = 0 then d.evtPending (e.src.toNat / 16 * 0x1000) else e.value
      let k := if e.held then d.now.tick else e.tick
      ((s0.onDevice fun d => ({ d with arriving := d.arriving.erase e }).setEvq
        (d.sup.evq ++ [{ e with held := false, value := v, tick := k }])).released e)
  else
    match firstPost (d.arriving.filter fun e => !e.held) with
    | none => s0
    | some e => s0.onDevice fun d =>
      (({ d with arriving := d.arriving.map fun x => if x = e then { x with held := true } else x }).count
        R.sup_EVQ_HELD_COUNT 1).evtBit 0xA000 17
/-- EVENT_POST (R436). -/
def execEventPost (t : Nat) (s : State) : Host.Outcome State Fault Refusal := onState (eventPost t) s

/-! ### Dispatch (R437, R439) -/

/-- ENABLE of a handler slot. -/
def Device.slotOn (d : Device) (n : Nat) : Bool := d.rf (R.sup_HS_CFG n) 0 1 = 1

/-- Whether a queued event is removed for want of its slot: FAULT and INIT wait. -/
def Device.discards (d : Device) (e : SupEvent) : Bool := !d.slotOn e.slot && e.kind != 5 && e.kind != 7

/-- The hart that event e, the k-th of the queue, is given to, if it may run now. -/
def State.hartFor (s : State) (e : SupEvent) (older : List SupEvent) (c : Nat) : Option Nat :=
  let d := s.dev
  if !d.slotOn e.slot then none
  else
    let alone := (List.range 4).all (fun h => !((s.hart h).st == .running && (s.hart h).slot == e.slot)) &&
      !(older.any fun o => o.slot == e.slot)
    if d.rf (R.sup_HS_CFG e.slot) 8 1 = 1 ∨ alone then
      (List.range 4).find? fun h => d.rf (R.sup_HS_CFG e.slot) (4 + h) 1 = 1 ∧ (s.hart h).st = .idle ∧ (s.hart h).free ≤ c ∧
        !(e.kind == 5 && e.tag == h)
    else none

/-- The oldest event that a hart can take. -/
def State.pickEvent (s : State) (c : Nat) : List SupEvent → List SupEvent → Option (SupEvent × Nat)
  | _, [] => none
  | older, e :: r => match s.hartFor e older c with
    | some h => some (e, h)
    | none => State.pickEvent s c (older ++ [e]) r

/-- A handler starts on hart h (R439): w1 the value, w2 the source word with KIND, w3 the posting tick. -/
def State.startHandler (s : State) (h c : Nat) (e : SupEvent) : State :=
  let x := s.hart h
  let y := ((({ x with w := [] } : Hart).setR 1 e.value).setR 2 (e.src + wd e.kind)).setR 3 (wd e.tick)
  s.setHart h { y with
    st := .running
    slot := e.slot
    pc := s.dev.rn (R.sup_HS_ENTRY e.slot) % 2 ^ 19 / 4 * 4
    loops := []
    calls := []
    first := none
    free := c }

/-- Events of disabled slots leave the queue, and the oldest event that may run is given to a hart. -/
def eventDispatch (c : Nat) (s : State) : State :=
  let s0 := s.atHart c
  let gone := s0.dev.sup.evq.filter s0.dev.discards
  let s1 := if gone.isEmpty then s0 else s0.onDevice fun d =>
    (d.setEvq (d.sup.evq.filter fun e => !d.discards e)).count R.sup_EVQ_DISCARD gone.length
  match s1.pickEvent c [] s1.dev.sup.evq with
  | none => s1
  | some (e, h) => (s1.onDevice fun d => d.setEvq (d.sup.evq.erase e)).startHandler h c e
/-- EVENT_DISPATCH (R437). -/
def execEventDispatch (c : Nat) (s : State) : Host.Outcome State Fault Refusal := onState (eventDispatch c) s

/-! ### Register writes with an effect -/

/-- HART_CMD RESTART of every hart whose bit is 1; only MGMT and a hart write it (R438). -/
def hartRestart (q : Req) (s : State) : State :=
  s.writeAt q R.sup_HART_CMD fun s =>
    if portCode q.port = 0 ∨ portCode q.port = 7 then
      (List.range 4).foldl (fun s h => if fld q.data h 1 = 1 then s.restartHart h else s) s
    else s.onDevice fun d => d.errAccess 0x0001 q.port R.sup_HART_CMD true
/-- HART_RESTART (R438). -/
def execHartRestart (q : Req) (s : State) : Host.Outcome State Fault Refusal := onState (hartRestart q) s

/-- A write that only SUPERVISOR may make (R441): another port's is PORT_DENIED. -/
def Device.supWrite (d : Device) (q : Req) (off : Nat) (k : Nat → Device → Device) : Device :=
  d.writeAt q off fun d => match q.port with
    | .supervisor h => k h.val d
    | _ => d.errAccess 0x0001 q.port off true

/-- SW_EVENT.GO posts a software event with the writing hart's SW_VALUE; one held in the register is replaced. -/
def swEvent (q : Req) (d : Device) : Device :=
  d.supWrite q R.sup_SW_EVENT fun h d =>
    if fld q.data 31 1 = 0 then d
    else
      let keep := d.arriving.filter fun e => !(e.kind == 3 && e.held && e.tag == h)
      { d with arriving := keep }.supEventTag 3 (fld q.data 0 6) (wd (16 * h)) (Store.get zeroW d.sup.swv h) h
/-- SW_EVENT (R441). -/
def execSwEvent (q : Req) (s : State) : Host.Outcome State Fault Refusal := onDev (swEvent q) s

/-- HEARTBEAT: recorded and counted; the supervisor watchdog counts from it and its stage returns to 0 (R441, R605). -/
def heartbeat (q : Req) (d : Device) : Device :=
  d.supWrite q R.sup_HEARTBEAT fun _ d =>
    ({ d with sup := { d.sup with beat := some d.now.tick, swd := d.sup.swd.map fun _ => d.now.tick } }.count R.sup_HB_COUNT 1).setF
      R.flt_SWD_STATE 0 2 0
/-- HEARTBEAT (R441). -/
def execHeartbeat (q : Req) (s : State) : Host.Outcome State Fault Refusal := onDev (heartbeat q) s

/-- A timer event of timer k that has not been dispatched takes one period more. -/
def mergeTimer (k : Nat) (e : SupEvent) : SupEvent := if e.kind = 6 ∧ e.tag = k then { e with value := e.value + 1 } else e

/-- A period of timer k elapses (R440). -/
def timerPeriod (k : Fin 4) (t : Nat) (d : Device) : Device :=
  let d0 := d.at t
  let n := d0.rf (R.sup_TMR_PERIOD k) 0 24
  let base := Store.get zeroN d0.sup.tmr k
  if n = 0 ∨ d0.now.tick < base + 1000 * n then d0
  else
    let d1 := { d0 with sup := { d0.sup with tmr := Store.set zeroN d0.sup.tmr k (base + 1000 * n) } }
    let mine := fun (e : SupEvent) => e.kind == 6 && e.tag == k.val
    if d1.arriving.any mine || d1.sup.evq.any mine then
      { d1 with
        arriving := d1.arriving.map (mergeTimer k)
        sup := { d1.sup with evq := d1.sup.evq.map (mergeTimer k) } }.count R.sup_TMR_MERGED 1
    else d1.supEventTag 6 (d1.rf (R.sup_TMR_SLOT k) 0 6) (wd (16 * k.val)) 1 k
/-- TIMER_PERIOD (R440). -/
def execTimerPeriod (k : Fin 4) (t : Nat) (s : State) : Host.Outcome State Fault Refusal := onDev (timerPeriod k t) s

/-! ### Mailboxes (R442, R443) -/

/-- DOORBELL.RING: BUSY and an MBOX event; MBOX_BUSY while BUSY is 1. -/
def doorbell (k : Fin 3) (q : Req) (d : Device) : Device :=
  d.writeAt q (R.sup_DOORBELL k) fun d =>
    if fld q.data 0 1 = 0 then d
    else if d.rf (R.sup_MB_STATUS k) 0 1 = 1 then d.err 0xB000 0x010B (wd k.val) 0
    else (d.setF (R.sup_MB_STATUS k) 0 1 1).supEvent 4 (d.rf (R.sup_MB_SLOT k) 0 6) (wd (16 * k.val)) 0
/-- DOORBELL (R443). -/
def execDoorbell (k : Fin 3) (q : Req) (s : State) : Host.Outcome State Fault Refusal := onDev (doorbell k q) s

/-- MB_DONE: BUSY clears, DONE sets and the mailbox's event is raised. -/
def mbDone (k : Fin 3) (q : Req) (d : Device) : Device :=
  d.writeAt q (R.sup_MB_DONE k) fun d =>
    if fld q.data 0 1 = 0 then d else ((d.setF (R.sup_MB_STATUS k) 0 1 0).setF (R.sup_MB_STATUS k) 1 1 1).evtBit 0xB000 (16 + k)
/-- MB_DONE (R443). -/
def execMbDone (k : Fin 3) (q : Req) (s : State) : Host.Outcome State Fault Refusal := onDev (mbDone k q) s

end Sys2Proof.Machine
end

