-- ==== Sys2Proof/Machine/ResetCore.lean ====
section
/-! DEFINITION. Machine/ResetCore.lean: milestones, and what each reset clears and keeps, as shared operations (chapter 21, R560,
R572 to R578). -/
namespace Sys2Proof.Machine

/-- Change the boot state. -/
def Device.modBoot (d : Device) (f : Boot → Boot) : Device := { d with boot := f d.boot }

/-! ### Milestones (R560) -/

/-- CFG_READY (R570). -/
def Device.cfgReady (d : Device) : Bool := d.rf R.sec_BOOT_STATUS 2 1 = 1

/-- CFG_READY becomes v. -/
def Device.setCfgReady (d : Device) (v : Nat) : Device := (d.setF R.sec_BOOT_STATUS 2 1 v).setF R.sec_READY 0 1 v

/-- The conditions of the milestones above PRIMED are looked at, with CORE out of reset. -/
def Device.advance (d : Device) : Device :=
  let linked := (d.hif.linkUp && d.cfgReady) || d.rf R.sec_READY 1 1 == 1
  let d1 := if d.boot.core ∧ d.boot.mile = 2 ∧ linked then d.modBoot fun b => { b with mile := 3 } else d
  let d2 := if d1.boot.core ∧ d1.boot.mile = 3 ∧ d1.rf R.sec_HBM_TRAIN 0 2 = 3 then d1.modBoot fun b => { b with mile := 4 } else d1
  d2.devSync

/-- RESET_CAUSE and RESETS (R577). -/
def Device.resetCause (d : Device) (c : Nat) : Device := (d.setN R.sec_RESET_CAUSE c).count R.sec_RESETS 1

/-! ### The array (Table 21.4) -/

/-- Whether a mark is on a word of a memory that a device reset does not clear. -/
def Upset.kept (u : Upset) : Bool := u.mem == .hbm || u.mem == .spad || u.mem == .evq || u.mem == .supq

/-- Every job is abandoned, with nothing more written for it, and the ADMIT and RELEASE entries go (R574). -/
def Device.abandonAll (d : Device) : Device :=
  let d1 := { d with jobs := [] }
  d1.setEntries (d1.plb.entries.filter fun e => e.kind == .trigger || e.kind == .wake)

/-- Every bay and slice is gated, in the committed set and in the shadow (R454). -/
def Device.gateAll (d : Device) : Device :=
  let offs := [R.pow_BAY_PWR_LO, R.pow_BAY_PWR_HI, R.pow_SLICE_PWR_LO, R.pow_SLICE_PWR_HI]
  let d1 := offs.foldl (fun d o => (d.setN o 0).setSh o 0) d
  let d2 := d1.zeroRegs [R.pow_BAY_ON_LO, R.pow_BAY_ON_HI, R.pow_SLICE_ON_LO, R.pow_SLICE_ON_HI]
  d2.setPow { d2.pow with ramps := [], raise := none }

/-- The pages that a device reset clears return to reset values, and the blocks behind them to nothing. -/
def Device.clearArray (d : Device) : Device :=
  let d1 := d.clearRegs fun o => match blockAt o with
    | some (n, pg) => devResetClears n pg || n == 31
    | none => false
  let d2 := ((d1.count R.obs_TRACE_LOST d1.trace.held.length).zeroRegs [R.obs_TRACE_WR, R.obs_TRACE_RD]).zeroRegs
    ((List.range 64).map R.obs_STAGES)
  { d2 with
    pipes := []
    queues := []
    qen := Device.reset.qen
    edge := Device.reset.edge
    trace := { d1.trace with held := [], mirrorDue := false, hist := [], samp := [], qcnt := [] }
    upsets := d1.upsets.filter Upset.kept
    tiles := []
    tmem := []
    scrim := scrim0
    slices := []
    fills := []
    fillReqs := []
    slotUse := []
    slotClock := 0
    scrub := { scrub0 with aerWin := d1.scrub.aerWin }
    tapes := []
    loader := loader0
    golden := []
    lath := lath0 }

/-- Every Linwald port is DOWN and silent. -/
def Device.portsDown (d : Device) : Device := (List.range 4).foldl (fun d k => d.lwDrop k) d

/-- A device reset begins (R574): the fault state, the array stopped, every job abandoned, the parts of Table 21.4 cleared. -/
def Device.startDevReset (d : Device) (cause : Nat) : Device :=
  let d1 := ((d.countStretch.modBoot fun b => { b with devReset := some cause }).setN R.iob_OK_REQ 0).presenceSync
  let d2 := ((d1.setF R.pow_POW_STATUS 10 4 0).setF R.pow_POW_STATUS 14 4 0)
  let d3 := d2.setPow { d2.pow with cooling := d2.tripped || d2.pow.cooling }
  (d3.abandonAll.portsDown.gateAll.clearArray).devSync

/-- A device reset is requested: absorbed by one in progress and by a stronger reset (R574, R578). -/
def Device.requestDevReset (d : Device) (cause : Nat) : Device :=
  if d.boot.devReset.isSome || !d.boot.core then d else d.startDevReset cause

/-- The PCIe block returns to reset: link, configuration space, MSI-X tables, HIF pages. -/
def Device.clearPcie (d : Device) : Device :=
  let d1 := d.clearRegs fun o => decide (0x4000 ≤ o ∧ o < 0x8000)
  { d1 with hif := { Device.reset.hif with
    classWalk := d1.hif.classWalk
    jtagBusy := d1.hif.jtagBusy
    jtagDenied := d1.hif.jtagDenied
    jtagData := d1.hif.jtagData } }.setCfgReady 0

/-- PERST_N's reset (R575): a device reset that also clears the PCIe block and the TEN pages. -/
def Device.perstReset (d : Device) : Device :=
  let d1 := (d.startDevReset 2).clearPcie
  let d2 := d1.clearRegs fun o => decide (0x400000 ≤ o ∧ o < 0x800000)
  (d2.modBoot fun b => { b with mile := min b.mile 2 }).devSync

/-- The words that SYS_RESET_N keeps: the pages of the always-on island, but for their masks, OK_REQ, CFG_READY, NO_HOST and the HBM
training bits; and TRIP_STATUS while it is tripped (Table 21.4, R467). -/
def sysKeeps (o : Nat) : Bool :=
  match blockAt o with
  | some (n, pg) => alwaysOn n pg && o % 0x1000 != 0xC && o != R.iob_OK_REQ && o != R.sec_READY && o != R.sec_HBM_TRAIN
  | none => false

/-- SYS_RESET_N's reset of the CORE domain (Table 21.4). -/
def Device.coreReset (d : Device) (cause : Nat) : Device :=
  let d0 := (d.abandonAll.modBoot fun b =>
    { b with
      core := false
      devReset := none
      mile := min b.mile 2
      trainStart := none }).presenceSync
  let d1 : Device := { Device.reset with
    now := { d0.now with cyc := 0 }
    regs := d0.regs.filter fun e => sysKeeps e.1 || (e.1 == R.thm_TRIP_STATUS && d0.tripped)
    shadow := d0.shadow.filter fun e => sysKeeps e.1
    pend := d0.pend.filter fun c => sysKeeps c.page
    pairs := d0.pairs.filter fun r => sysKeeps r.off
    out := d0.out
    free := d0.free
    hif := { Device.reset.hif with
      jtagBusy := d0.hif.jtagBusy
      jtagDenied := d0.hif.jtagDenied
      jtagData := d0.hif.jtagData }
    fltLog := d0.fltLog
    sbBusy := d0.sbBusy
    ladderTick := d0.ladderTick
    arriving := d0.arriving
    boot := d0.boot
    plb := d0.plb
    upsets := d0.upsets.filter fun u => u.mem == .spad || u.mem == .evq || u.mem == .supq
    sup := d0.sup
    pow := { pow0 with cooling := d0.tripped || d0.pow.cooling }
    board := { d0.board with txts := [], txq := [] } }
  let d2 := d1.setF R.prt_PORT_INFO 6 1 (b2n (d1.rf R.iob_SB_STATUS 8 8 ≠ 0))
  let d3 := ((d2.setN R.flt_LADDER_STATE 0).setF R.flt_DEV_FAULT 0 2 0).setF R.flt_SWD_STATE 0 2 0
  (((d3.setF R.sec_BOOT_STATUS 2 1 0).setN R.iob_OK_REQ 0).resetCause cause).presenceSync.devSync

/-- Harts 1 to 3 return to reset; hart 0 and the scratchpad run on (R573). -/
def State.coreReset (s : State) (cause : Nat) : State :=
  { s with
    harts := { s.harts with all := Store.wipe (fun h => decide (0 < h)) s.harts.all }
    dev := s.dev.coreReset cause }

/-- A power-on reset clears everything but the fuses (R558, R572); what the device has sent and the free values taken are the
model's own record. -/
def State.powerOn (s : State) : State :=
  let d := s.dev
  { s with
    harts := harts0
    dev := { Device.reset with
      regs := d.regs.filter fun e => decide (0x1000 ≤ e.1 ∧ e.1 < 0x2000) && e.1 != 0x100C
      out := d.out
      free := d.free
      boot := { boot0 with
        por := true
        vaon := d.boot.vaon
        vaux := d.boot.vaux
        refclk := d.boot.refclk
        sysN := d.boot.sysN
        perstN := d.boot.perstN
        rom := .held } } }

end Sys2Proof.Machine
end

