-- ==== Sys2Proof/Machine/StartUp.lean ====
section
/-! DEFINITION. Machine/StartUp.lean: power-on, resets, boot and fuses (chapter 21, R557 to R579; R626), but for the Primer ROM's
check of an image. -/
namespace Sys2Proof.Machine

/-! ### Power-on (R558, R561, R626) -/

/-- POWER_ON_RESET: VAON or VAUX is out of range. -/
def powerOnReset (vaon vaux : Bool) (t : Nat) (s : State) : State :=
  let s0 := s.onDevice (·.at t)
  if vaon && vaux then s0
  else { s0 with dev := s0.dev.modBoot fun b => { b with vaon := vaon, vaux := vaux } }.powerOn
/-- POWER_ON_RESET (R558). -/
def execPowerOnReset (vaon vaux : Bool) (t : Nat) (s : State) : Host.Outcome State Fault Refusal := onState (powerOnReset vaon vaux t) s

/-- REFCLK_LOSS: SYS_REFCLK is absent. -/
def refclkLoss (t : Nat) (s : State) : State :=
  { s with dev := (s.dev.at t).modBoot fun b => { b with refclk := false } }.powerOn
/-- REFCLK_LOSS (R626). -/
def execRefclkLoss (t : Nat) (s : State) : Host.Outcome State Fault Refusal := onState (refclkLoss t) s

/-- AON_START: the always-on island leaves power-on reset, its supplies and SYS_REFCLK in range; the straps BOOT_SRC, SB_SEL and
SB_ADDR are sampled, and the Primer ROM starts. -/
def aonStart (host i3c : Bool) (sbAddr : Fin 4) (t : Nat) (d : Device) : Device :=
  let d0 := d.at t
  if !d0.boot.por then d0
  else
    let d1 := d0.modBoot fun b =>
      { b with
        por := false
        vaon := true
        vaux := true
        refclk := true
        mile := 1
        rom := if host then .waitLink else .slotA }
    let d2 := (d1.setF R.sec_BOOT_STATUS 16 1 (b2n host)).setF R.iob_SB_STATUS 0 1 (b2n i3c)
    (d2.setF R.iob_SB_STATUS 16 7 (0x64 + sbAddr.val)).presenceSync
/-- AON_START (R561). -/
def execAonStart (host i3c : Bool) (sbAddr : Fin 4) (t : Nat) (s : State) : Host.Outcome State Fault Refusal :=
  onDev (aonStart host i3c sbAddr t) s

/-- CORE_RESET_RELEASE: the step-3 rails are in range and SYS_RESET_N is high; the stage-cycle counter is 0, HBM training starts, and
harts 1 to 3 become IDLE (R566; chapter 16, Edges). -/
def coreResetRelease (t : Nat) (s : State) : State :=
  let s0 := s.onDevice (·.at t)
  if s0.dev.boot.por || s0.dev.boot.core then s0
  else
    let d1 := s0.dev.modBoot fun b =>
      { b with
        core := true
        step3 := true
        sysN := true
        trainStart := some s0.dev.now.tick }
    let d2 := { d1 with
      now := { d1.now with cyc := 0 }
      scrub := { d1.scrub with passTick := d1.now.tick } }
    [1, 2, 3].foldl State.hartReady { s0 with dev := d2.presenceSync.advance }
/-- CORE_RESET_RELEASE (R558). -/
def execCoreResetRelease (t : Nat) (s : State) : Host.Outcome State Fault Refusal := onState (coreResetRelease t) s

/-- BROWN_OUT: a step-3 rail leaves its range. -/
def brownOut (t : Nat) (s : State) : State :=
  let s0 := s.onDevice (·.at t)
  if s0.dev.boot.por || !s0.dev.boot.step3 then s0
  else { s0 with dev := s0.dev.modBoot fun b => { b with step3 := false } }.coreReset 6
/-- BROWN_OUT (R558). -/
def execBrownOut (t : Nat) (s : State) : Host.Outcome State Fault Refusal := onState (brownOut t) s

/-- SYS_RESET_N: the pin falls. -/
def sysResetN (t : Nat) (s : State) : State :=
  let s0 := s.onDevice (·.at t)
  if s0.dev.boot.por || !s0.dev.boot.sysN then s0
  else { s0 with dev := s0.dev.modBoot fun b => { b with sysN := false } }.coreReset 1
/-- SYS_RESET_N (R573). -/
def execSysResetN (t : Nat) (s : State) : Host.Outcome State Fault Refusal := onState (sysResetN t) s

/-! ### PERST_N and the link (R569, R575) -/

/-- PERST_N_ASSERT: a device reset that also clears the PCIe block and the TEN pages; a device reset in progress starts again as the
stronger one, and one of CORE absorbs it (R578). CFG_READY clears. -/
def perstNAssert (t : Nat) (d : Device) : Device :=
  let d0 := d.at t
  if d0.boot.por || !d0.boot.perstN then d0
  else
    let d1 := (d0.modBoot fun b =>
      { b with
        perstN := false
        perstAt := some d0.now.tick
        perstTick := none }).setCfgReady 0
    if d1.boot.core then d1.perstReset else d1
/-- PERST_N_ASSERT (R575). -/
def execPerstNAssert (t : Nat) (s : State) : Host.Outcome State Fault Refusal := onDev (perstNAssert t) s

/-- PERST_N_DEASSERT: link training starts; the 900 ms of R570 count from here. -/
def perstNDeassert (t : Nat) (d : Device) : Device :=
  let d0 := d.at t
  if d0.boot.por || d0.boot.perstN then d0
  else d0.modBoot fun b => { b with perstN := true, perstTick := some d0.now.tick }
/-- PERST_N_DEASSERT (R569). -/
def execPerstNDeassert (t : Nat) (s : State) : Host.Outcome State Fault Refusal := onDev (perstNDeassert t) s

/-- Under HOST the Primer ROM, with CORE out of reset and the link up, sets CFG_READY and waits for FW_GO (R565). -/
def Device.romLinked (d : Device) : Device :=
  if d.boot.rom = .waitLink ∧ d.boot.core ∧ d.hif.linkUp then (d.modBoot fun b => { b with rom := .waitGo }).setCfgReady 1 else d

/-- PCIE_LINK_UP: the Data Link Layer comes up at a speed and a width. -/
def pcieLinkUp (speed : Fin 6) (width : Fin 17) (t : Nat) (d : Device) : Device :=
  let d0 := d.at t
  if d0.hif.linkUp || !d0.boot.core || !d0.boot.perstN then d0
  else
    let d1 := { d0 with hif := { d0.hif with linkUp := true } }.setN R.hif_LINK_STATUS (speed.val + 16 * width.val + 4096)
    d1.romLinked.advance
/-- PCIE_LINK_UP (R560). -/
def execPcieLinkUp (speed : Fin 6) (width : Fin 17) (t : Nat) (s : State) : Host.Outcome State Fault Refusal :=
  onDev (pcieLinkUp speed width t) s

/-! ### The device reset (R574) -/

/-- DEV_RESET: a write of DEV_RESET.GO by MGMT or SUPERVISOR. -/
def devReset (q : Req) (d : Device) : Device :=
  d.writeAt q R.sec_DEV_RESET fun d =>
    let c := portCode q.port
    if c ≠ 0 ∧ c ≠ 7 then d.errAccess 0x0001 q.port R.sec_DEV_RESET true
    else if fld q.data 0 1 = 1 then d.requestDevReset (if c = 0 then 3 else 4) else d
/-- DEV_RESET (R574). -/
def execDevReset (q : Req) (s : State) : Host.Outcome State Fault Refusal := onDev (devReset q) s

/-- DEVICE_RESET_DONE: the parts cleared are released, the cause is recorded, and the Linwald ports train again. -/
def deviceResetDone (t : Nat) (d : Device) : Device :=
  let d0 := d.at t
  match d0.boot.devReset with
  | none => d0
  | some c =>
    let d1 := (((d0.modBoot fun b => { b with devReset := none }).resetCause c).setF R.flt_DEV_FAULT 0 1 0).evtBit 0x8000 17
    let d2 := { d1 with scrub := { d1.scrub with passTick := d1.now.tick } }
    ((List.range 4).foldl (fun d k => d.lwTrain k) d2).presenceSync.advance
/-- DEVICE_RESET_DONE (R574). -/
def execDeviceResetDone (t : Nat) (s : State) : Host.Outcome State Fault Refusal := onDev (deviceResetDone t) s

/-! ### Boot (R560, R565, R570) -/

/-- A write of SEC READY: CFG_READY by MGMT or SUPERVISOR, NO_HOST by SUPERVISOR alone. A write in the tick in which PERST_N is
asserted loses to it. -/
def Device.readyWrite (d : Device) (q : Req) : Device :=
  let d1 := if fld q.data 0 1 = 1 ∧ d.boot.perstAt ≠ some d.now.tick then d.setCfgReady 1 else d
  let d2 := if fld q.data 1 1 = 0 then d1
    else if portCode q.port = 7 then d1.setF R.sec_READY 1 1 1 else d1.errAccess 0x0001 q.port R.sec_READY true
  d2.advance

/-- CFG_READY_WRITE: a write of READY with CFG_READY. -/
def cfgReadyWrite (q : Req) (d : Device) : Device :=
  if fld q.data 0 1 = 1 then d.writeAt q R.sec_READY fun d => d.readyWrite q else d.at q.t
/-- CFG_READY_WRITE (R570). -/
def execCfgReadyWrite (q : Req) (s : State) : Host.Outcome State Fault Refusal := onDev (cfgReadyWrite q) s

/-- NO_HOST: a write of READY with NO_HOST. -/
def noHost (q : Req) (d : Device) : Device :=
  if fld q.data 1 1 = 1 then d.writeAt q R.sec_READY fun d => d.readyWrite q else d.at q.t
/-- NO_HOST (R560). -/
def execNoHost (q : Req) (s : State) : Host.Outcome State Fault Refusal := onDev (noHost q) s

/-- CFG_READY_FORCED: 900 ms after PERST_N deassertion. -/
def cfgReadyForced (t : Nat) (d : Device) : Device :=
  let d0 := d.at t
  match d0.boot.perstTick with
  | some p => if p + 900000000 ≤ d0.now.tick then (d0.setCfgReady 1).advance else d0
  | none => d0
/-- CFG_READY_FORCED (R570). -/
def execCfgReadyForced (t : Nat) (s : State) : Host.Outcome State Fault Refusal := onDev (cfgReadyForced t) s

/-- FW_GO: the Primer ROM reads FW_LEN bytes of host memory with PF0's Routing ID; BOOT_STATE from PRIMED on. -/
def fwGo (q : Req) (d : Device) : Device :=
  if fld q.data 0 1 = 0 then d.at q.t
  else d.writeAt q R.sec_FW_GO fun d =>
    if 2 ≤ d.boot.mile then d.err 0x8000 0x0100 0 0
    else if d.boot.rom = .waitGo then
      ((d.modBoot fun b => { b with rom := .host }).setN R.sec_FW_LOAD_STATUS 1).emit
        (.hostRead 0 (d.rn64 R.sec_FW_SRC_LO) (d.rf R.sec_FW_LEN 0 23))
    else d
/-- FW_GO (R565). -/
def execFwGo (q : Req) (s : State) : Host.Outcome State Fault Refusal := onDev (fwGo q) s

/-! ### HBM training (R571) -/

/-- The HBM bytes of a stack read zero data with valid check bits. -/
def Device.zeroStack (d : Device) (st : Nat) : Device :=
  let mine := fun (a : Nat) => a / 256 % 32 / 16 == st
  { d with hbm := Store.wipe mine d.hbm, upsets := d.upsets.filter fun u => !(u.mem == .hbm && mine (8 * u.word)) }

/-- HBM_TRAINED: a stack finishes training. -/
def hbmTrained (st : Fin 2) (t : Nat) (d : Device) : Device :=
  let d0 := d.at t
  if !d0.boot.core || d0.rf R.sec_HBM_TRAIN st 1 = 1 || d0.rf R.sec_HBM_TRAIN (2 + st) 1 = 1 then d0
  else ((d0.zeroStack st).setF R.sec_HBM_TRAIN st 1 1).advance
/-- HBM_TRAINED (R571). -/
def execHbmTrained (st : Fin 2) (t : Nat) (s : State) : Host.Outcome State Fault Refusal := onDev (hbmTrained st t) s

/-- TRAIN_FAIL: a stack has not finished within 60 ms. -/
def trainFail (st : Fin 2) (t : Nat) (d : Device) : Device :=
  let d0 := d.at t
  match d0.boot.trainStart with
  | none => d0
  | some b =>
    if d0.boot.core ∧ d0.rf R.sec_HBM_TRAIN st 1 = 0 ∧ d0.rf R.sec_HBM_TRAIN (2 + st) 1 = 0 ∧ b + 60000000 ≤ d0.now.tick then
      ((d0.setF R.sec_HBM_TRAIN (2 + st) 1 1).err 0x8000 0x0102 (wd st) 0).evtBit 0x8000 18
    else d0
/-- TRAIN_FAIL (R571). -/
def execTrainFail (st : Fin 2) (t : Nat) (s : State) : Host.Outcome State Fault Refusal := onDev (trainFail st t) s

/-- RETRAIN: the failed stacks train again; BOOT_STATE unless no Render is present and the loader is at rest. -/
def retrain (q : Req) (d : Device) : Device :=
  if fld q.data 8 1 = 0 then d.at q.t
  else d.writeAt q R.sec_HBM_TRAIN fun d =>
    if d.rf R.skm_RENDER_STATE 0 2 ≠ 0 || !d.loadFree then d.err 0x8000 0x0100 0 0
    else if d.rf R.sec_HBM_TRAIN 2 2 = 0 then d
    else (d.setF R.sec_HBM_TRAIN 2 2 0).modBoot fun b => { b with trainStart := some d.now.tick }
/-- RETRAIN (R571). -/
def execRetrain (q : Req) (s : State) : Host.Outcome State Fault Refusal := onDev (retrain q) s

/-! ### Fuses (R579) -/

/-- The pins that are programmed and not revoked, given PIN_PROG and PIN_REVOKED. -/
def livePins (prog rev : Nat) : List Nat := [0, 1, 2, 3].filter fun i => prog / 2 ^ i % 2 == 1 && rev / 2 ^ i % 2 == 0

/-- The pins that R273 accepts: owner pins when one is programmed and not revoked, else those of Ursothal. -/
def acceptedPins (prog rev : Nat) : List Nat :=
  let l := livePins prog rev
  if l.any (2 ≤ ·) then l.filter (2 ≤ ·) else l.filter (· < 2)

/-- The digest staged in PIN_STAGE as one number. -/
def Device.stagedDigest (d : Device) : Nat := fromLe ((List.range 12).map fun w => leBytes 4 (d.rn (R.sec_PIN_STAGE w))).flatten

/-- A burn is refused: REFUSED and FUSE_REFUSED. -/
def Device.burnRefused (d : Device) : Device := (d.setN R.sec_PIN_BURN_STATUS 4).err 0x8000 0x0101 0 0

/-- A burn starts. -/
def Device.startBurn (d : Device) (x : Nat × Nat × Nat) : Device :=
  (d.modBoot fun b => { b with burn := some x }).setN R.sec_PIN_BURN_STATUS 1

/-- PIN_BURN: programs an owner pin or revokes a pin; only MGMT, and not while a burn is in progress. -/
def pinBurn (q : Req) (d : Device) : Device :=
  if fld q.data 31 1 = 0 then d.at q.t
  else d.writeAt q R.sec_PIN_BURN fun d =>
    let pin := fld q.data 0 2
    let prog := d.rf R.idn_FUSE_STATE 0 4
    let rev := d.rf R.idn_FUSE_STATE 4 4
    if portCode q.port ≠ 0 then d.errAccess 0x0001 q.port R.sec_PIN_BURN true
    else if d.boot.burn.isSome then d
    else if fld q.data 4 1 = 1 then
      if (acceptedPins prog (rev ||| 2 ^ pin)).isEmpty then d.burnRefused else d.startBurn (1, pin, 0)
    else if pin < 2 ∨ prog / 2 ^ pin % 2 = 1 then d.burnRefused
    else d.startBurn (0, pin, d.stagedDigest)
/-- PIN_BURN (R579). -/
def execPinBurn (q : Req) (s : State) : Host.Outcome State Fault Refusal := onDev (pinBurn q) s

/-- SVN_BURN: raises SVN_FLOOR to the running firmware's SVN; never lowers it. -/
def svnBurn (q : Req) (d : Device) : Device :=
  if fld q.data 0 1 = 0 then d.at q.t
  else d.writeAt q R.sec_SVN_BURN fun d =>
    if portCode q.port ≠ 0 then d.errAccess 0x0001 q.port R.sec_SVN_BURN true
    else if d.boot.burn.isSome then d
    else d.startBurn (2, d.rf R.sec_FW_SVN 0 7, 0)
/-- SVN_BURN (R579). -/
def execSvnBurn (q : Req) (s : State) : Host.Outcome State Fault Refusal := onDev (svnBurn q) s

/-- Write the words of a pin's digest. -/
def Device.writeDigest (d : Device) (pin v : Nat) : Device :=
  (List.range 12).foldl (fun d w => d.setN (R.idn_PIN_DIGEST pin w) (v / 2 ^ (32 * w))) d

/-- BURN_DONE: the fuses hold what the burn wrote. -/
def burnDone (t : Nat) (d : Device) : Device :=
  let d0 := d.at t
  match d0.boot.burn with
  | none => d0
  | some (k, x, v) =>
    let d1 := (d0.modBoot fun b => { b with burn := none }).setN R.sec_PIN_BURN_STATUS 2
    match k with
    | 0 =>
      let d2 := (d1.setF R.idn_FUSE_STATE x 1 1).writeDigest x v
      if d2.rf R.idn_FUSE_STATE (4 + x) 1 = 0 then d2.setF R.idn_FUSE_STATE 9 1 1 else d2
    | 1 =>
      let d2 := d1.setF R.idn_FUSE_STATE (4 + x) 1 1
      d2.setF R.idn_FUSE_STATE 9 1 (b2n ((livePins (d2.rf R.idn_FUSE_STATE 0 4) (d2.rf R.idn_FUSE_STATE 4 4)).any (2 ≤ ·)))
    | _ => d1.setF R.idn_FUSE_STATE 16 7 (max x (d1.rf R.idn_FUSE_STATE 16 7))
/-- BURN_DONE (R579). -/
def execBurnDone (t : Nat) (s : State) : Host.Outcome State Fault Refusal := onDev (burnDone t) s

end Sys2Proof.Machine
end

