-- ==== Sys2Proof/Machine/LoadChecks.lean ====
section
/-! DEFINITION. Machine/LoadChecks.lean: the loader's checks in the order of Table 10.7 (R281). -/
namespace Sys2Proof.Machine

/-- The reason of a failing check, with the directory index of the section at fault. -/
abbrev Bad := Nat × Option Nat

/-- The first section, in directory order, that `f` finds at fault. -/
def firstSect (ss : List Sect) (f : Sect → Option Nat) : Option Bad :=
  ss.zipIdx.findSome? fun x => (f x.1).map fun r => (r, some x.2)

/-- A reason where `c` holds. -/
def bad (c : Bool) (r : Nat) : Option Nat := if c then some r else none

/-! ### Checks 1 to 5: the container, the key, the signature, the sections -/

/-- Check 1. -/
def checkHead (l : List Byte) (skim : Bool) : Option Bad :=
  if at_ l 0 4 ≠ (if skim then 0x4B535847 else 0x49525847) ∨ at_ l 4 2 ≠ 1 ∨ at_ l 16 4 ≠ (resetOf R.idn_DEVICE_CODE).toNat then
    some (1, none)
  else none

/-- The digest of fuse pin i (R273). -/
def Device.pinBytes (d : Device) (i : Nat) : List Byte := ((List.range 12).map fun w => leBytes 4 (d.rn (R.idn_PIN_DIGEST i w))).flatten

/-- Check 3. -/
def Device.checkPin (d : Device) (l : List Byte) : Option Bad :=
  let b := sigBlock l
  let pin := at_ b 0 1
  let ok := acceptedPins (d.rf R.idn_FUSE_STATE 0 4) (d.rf R.idn_FUSE_STATE 4 4)
  if ok.contains pin ∧ Config.sha384 (slice_ b 8 97) = d.pinBytes pin then none else some (2, none)

/-- Check 4. -/
def checkSig (l : List Byte) : Option Bad :=
  let b := sigBlock l
  if Config.ecdsaP384 (slice_ b 8 97) (Config.sha384 (l.take (sigOff l))) (slice_ b 0x70 48) (slice_ b 0xA0 48) then none
  else some (2, none)

/-- Check 5: the first section whose key or tag fails. -/
def checkOpen (l : List Byte) : Option Bad :=
  (dirs l).zipIdx.findSome? fun x => if (x.1.plain l).isNone then some (2, some x.2) else none

/-- The sections of an image, decrypted. -/
def openSects (l : List Byte) : List Sect := (dirs l).map fun e => ⟨e.type, e.index, (e.plain l).getD []⟩

/-! ### Check 6: reserved fields and bits -/

/-- The bits of SPEC that Table 6.4 gives the ops of an opcode (R153; log entry 132). -/
def specMask (opc : Nat) : Nat :=
  match opc with
  | 0x01 => 0xF
  | 0x02 => 0x3FFF
  | 0x04 => 0x7
  | 0x05 => 0xFF
  | 0x06 => 0x3FFF
  | 0x08 => 0xF
  | 0x09 => 0x3F
  | 0x0B => 0xF
  | 0x10 => 0x1F
  | 0x11 => 0x1
  | 0x12 => 0x1F
  | 0x20 => 0x3FFF
  | 0x21 => 0xFFF
  | 0x22 => 0x1FFF
  | 0x23 => 0xFFF
  | 0x24 => 0xFF
  | 0x25 => 0xFF
  | 0x26 => 0x1FF
  | 0x27 => 0x3FFF
  | 0x29 => 0xFFF
  | 0x2A => 0xFFF
  | 0x2B => 0xFFF
  | 0x2C => 0xFFF
  | 0x2D => 0x7F
  | 0x2E => 0xFFF
  | 0x2F => 0x3F
  | _ => 0

/-- Whether an opcode is one of Table 6.3. -/
def opcOk (opc : Nat) : Bool := decide (opc ≤ 6) || decide (8 ≤ opc ∧ opc ≤ 0x0B) || decide (0x10 ≤ opc ∧ opc ≤ 0x12) || decide (0x20 ≤ opc ∧ opc ≤ 0x2F)

/-- Whether a word has bits outside a mask. -/
def outside (v : Word) (m : Nat) : Bool := v &&& ~~~(wd m) != 0

/-- Whether a section's plaintext has a reserved bit set. -/
def resvBits (s : Sect) : Bool :=
  let l := s.plain
  match s.type with
  | 1 => (List.range 64).any fun i => outside (mapEntry l i) 0x8000FF77 || outside (mapIng l i) 0x00FF3F03 || outside (mapEgr l i) 0x00FF3F07
  | 2 => (chunk 52 4096 l).any fun t => (t.drop 48).any fun b => 2 ≤ b.toNat
  | 4 | 0x13 => ((wstRecs l).map fun w => w.1.any fun x => outside x.cfg 0xFFFF03FF || outside x.addr 0x1FFFF || outside x.len 0x3FFFF).getD false
  | 3 | 0x14 =>
    let x := lathOf l
    !zeroAt l 0x1B 5 || x.ports.any (fun p => 32 ≤ p.2) ||
      (List.range (at_ l 0x18 2)).any (fun i => at_ l (0x60 + 8 * at_ l 6 2 + 4 * i + 2) 2 != 0) ||
      x.nets.any (fun n => 2 ^ 18 ≤ n) ||
      (List.range (at_ l 0x10 4)).any fun i => at_ l (lathSize l - 520 * at_ l 0x10 4 + 520 * i + 6) 2 != 0
  | 0x10 => !zeroAt l 2 2 || !zeroAt l 25 7 || !zeroAt l 0x60 32 || (List.range 8).any fun i => at_ l (34 + 8 * i) 2 != 0
  | 0x11 => ((recsOf l).map fun rs => rs.any fun r => r.resv != 0 || ((tileWords.zip r.words).any fun x => outside x.2 x.1.2) ||
      r.ops.any fun w => opcOk (ob w.toNat 58 6) && ob w.toNat 0 14 &&& (0x3FFF - specMask (ob w.toNat 58 6)) != 0).getD false
  | 0x15 | 0x21 => ((shares l.length l).map fun xs => xs.any fun x => x.resv != 0).getD false
  | 0x20 => !zeroAt l 10 6
  | _ => false

/-- Check 6: the header, the directory, the signature block and the sections. -/
def checkResv (l : List Byte) (ss : List Sect) : Option Bad :=
  let b := sigBlock l
  if !zeroAt l 0x16 2 || !zeroAt l 0x30 16 || !zeroAt b 1 7 || !zeroAt b 0x69 7 || !zeroAt b 0xF8 264 then some (1, none)
  else
    let e := (dirs l).zipIdx.findSome? fun x =>
      if 4 ≤ x.1.flags ∨ !zeroAt x.1.raw 0x24 12 ∨ (!x.1.enc ∧ !zeroAt x.1.raw 0x18 12) then some ((1, some x.2) : Bad) else none
    e.or (firstSect ss fun s => bad (resvBits s) 1)

/-! ### Checks 7 and 8: programs and tile records -/

/-- The part of an op's needs that its fields alone decide: what its rule forbids whatever the loop indices, queues and rotators hold.
An op with CNT 0 makes no check (R166). -/
def fieldsBad (w nctx : Nat) : Bool :=
  let opc := ob w 58 6
  let o : OpIn := ⟨Device.reset, 0, 0, 0, if opc = 0x0A then w else w - ob w 32 1 * 2 ^ 32, 0⟩
  match opc with
  | 0x01 => ob w 3 1 == 1 && decide (nctx ≤ ob w 0 3)
  | 0x04 => decide (nctx ≤ ob w 0 3)
  | 0x0B => (tagsetPlan o).bad
  | 0x20 => (rotPlan { o with w := w }).bad
  | _ => ob w 49 4 != 0 && match opc with
    | 0x08 => (takePlan o).bad
    | 0x09 => (givePlan o).bad
    | 0x0A => (passPlan o).bad
    | 0x10 => (hldPlan o).bad
    | 0x11 => (hstPlan o).bad
    | 0x12 => (wsrPlan o).bad
    | 0x21 => (maciPlan o).bad
    | 0x22 => (mactPlan o).bad
    | 0x23 => (macfPlan o).bad
    | 0x24 => (gsumPlan o).bad
    | 0x25 => (zpcPlan o).bad
    | 0x26 => (gscPlan o).bad
    | 0x27 => (rqnPlan o).bad
    | 0x28 => (actPlan o).bad
    | 0x29 => (vecPlan o).bad
    | 0x2A => (vecPlan o).bad
    | 0x2B => (vecPlan o).bad
    | 0x2C => (avgpPlan o).bad
    | 0x2D => (expsPlan o).bad
    | 0x2E => (nrmPlan o).bad
    | 0x2F => (shufPlan o).bad
    | _ => false

/-- The structure of a program from op i on, with the ends of the open loops innermost first (R163): the reason of its first break.
`n` counts the ops left. -/
def progBad (ops : List Nat) (nctx : Nat) : Nat → Nat → List Nat → Option Nat
  | 0, _, _ => some 1
  | n + 1, i, open_ =>
    let w := ops.getD i 0
    let opc := ob w 58 6
    if !opcOk opc || fieldsBad w nctx then some 1
    else match opc with
      | 0x01 => if open_.isEmpty then none else some 2
      | 0x02 =>
        let fin := ob w 16 6
        if fin ≤ i ∨ ob (ops.getD fin 0) 58 6 ≠ 0x03 ∨ open_.length = 4 ∨ open_.any (· ≤ fin) then some 2
        else progBad ops nctx n (i + 1) (fin :: open_)
      | 0x03 => match open_ with
        | [] => some 2
        | f :: r => if f = i then progBad ops nctx n (i + 1) r else some 2
      | _ => progBad ops nctx n (i + 1) open_

/-- The ops of a context after its program's END: an opcode or a field that is forbidden. -/
def restBad (ops : List Nat) (nctx : Nat) : Bool := ops.any fun w => !opcOk (ob w 58 6) || fieldsBad w nctx

/-- Check 7 on a tile record: its contexts in order. -/
def TileRec.progFail (r : TileRec) : Option Nat :=
  let nctx := fld (r.words.getD 0 0) 0 4
  (List.range nctx).findSome? fun c =>
    let ops := (slice c r.ops).map (·.toNat)
    (progBad ops nctx 64 0 []).or (bad (restBad ops nctx) 1)
where
  /-- The 64 op words of context c. -/
  slice (c : Nat) (l : List (BitVec 64)) : List (BitVec 64) := (l.drop (64 * c)).take 64

/-- Whether the records obey R268: ascending REL within the region's tiles, N_CTX above 0. -/
def recsOk (rs : List TileRec) (tiles : Nat) : Bool :=
  rs.all (fun r => decide (r.rel < tiles) && fld (r.words.getD 0 0) 0 4 != 0) && (rs.zip rs.tail).all fun x => decide (x.1.rel < x.2.rel)

/-- The tiles of the region whose BASE_MAP entry is v. -/
def mapTiles (v : Word) : Nat := 64 * fld v 8 4 * fld v 12 4

/-- Check 7. A section that does not hold whole records as R268 states fails it with RANGE (log entry 130). -/
def checkProgs (ss : List Sect) (map : Nat → Word) (scope : Nat → Bool) : Option Bad :=
  firstSect ss fun s => if s.type ≠ 0x11 ∨ !scope s.index then none
    else match recsOf s.plain with
      | none => some 1
      | some rs => (bad (!recsOk rs (mapTiles (map s.index))) 1).or (rs.findSome? TileRec.progFail)

/-- Check 8: the reason with which a commit of the tile page would refuse the first failing record. -/
def checkTiles (ss : List Sect) (scope : Nat → Bool) : Option Bad :=
  firstSect ss fun s => if s.type ≠ 0x11 ∨ !scope s.index then none
    else ((recsOf s.plain).getD []).findSome? fun r => (firstFail (tileFails (r.word 0) 0)).map (·.2)

/-! ### Checks 9 to 13: the network and the regions -/

/-- Check 9, over a device `x` that has the map and the entries under which each section is checked. -/
def checkStencils (ss : List Sect) (map : Nat → Word) (base : Device) (over_ : Device) (scope : Nat → Bool) : Option Bad :=
  firstSect ss fun s =>
    if s.type = 2 then (base.stencilCheck none (baseEntries s.plain).1).map (·.2.2)
    else if s.type = 0x12 ∧ scope s.index then
      let tiles := (recs ss s.index).map fun r => relIn (map s.index) r.rel
      if s.plain.length ≠ 144 * tiles.length then some 1
      else (over_.stencilCheck (some s.index) (regionEntries s.plain tiles)).map (·.2.2)
    else none

/-- The bays of a BASE_MAP entry. -/
def mapBays (v : Word) : List Nat :=
  (List.range (fld v 8 4)).flatMap fun y => (List.range (fld v 12 4)).map fun x => 8 * (fld v 0 3 + y) + fld v 4 3 + x

/-- Check 10 on entry r of BASE_MAP. -/
def rectFail (l : List Byte) (unusable : Nat → Bool) (r : Nat) : Option Nat :=
  let v := mapEntry l r
  if fld v 31 1 = 0 then none
  else if fld v 8 4 = 0 ∨ fld v 12 4 = 0 ∨ 8 < fld v 0 3 + fld v 8 4 ∨ 8 < fld v 4 3 + fld v 12 4 then some 2
  else if (List.range r).any (fun q => fld (mapEntry l q) 31 1 == 1 && (mapBays (mapEntry l q)).any fun b => b ∈ mapBays v) then some 2
  else bad ((mapBays v).any unusable) 4

/-- Check 10. -/
def checkRects (ss : List Sect) (unusable : Nat → Bool) : Option Bad :=
  firstSect ss fun s => if s.type ≠ 1 then none else (List.range 64).findSome? (rectFail s.plain unusable)

/-- The ingress adapter of a binding word: west or east, and its row; none for NONE. -/
def ingAdapter (v : Word) : Option (Bool × Nat) := if fld v 0 2 = 0 then none else some (fld v 0 2 == 2, fld v 8 6)
/-- The egress adapter of a binding word. -/
def egrAdapter (v : Word) : Option (Bool × Nat) := if fld v 0 3 = 0 then none else some (fld v 0 3 == 2, fld v 8 6)

/-- Check 11. -/
def checkBinds (ss : List Sect) : Option Bad :=
  firstSect ss fun s => if s.type ≠ 1 then none
    else bad ((List.range 64).any fun p =>
      let i := ingAdapter (mapIng s.plain p)
      let e := egrAdapter (mapEgr s.plain p)
      ((List.range p).any fun q => (i.isSome && ingAdapter (mapIng s.plain q) == i) || (e.isSome && egrAdapter (mapEgr s.plain q) == e)) ||
        decide (5 ≤ fld (mapEgr s.plain p) 0 3) || ((i.isSome || e.isSome) && !(sectRegions ss).contains p)) 2

/-- Check 12 on a header. -/
def Hdr.fail (h : Hdr) (v : Word) (hash : Nat) : Option Nat :=
  if h.nrows ≠ fld v 8 4 ∨ h.ncols ≠ fld v 12 4 ∨ fld v 31 1 = 0 then some 2
  else if h.latency = 0 ∨ 2 ^ 24 ≤ h.latency ∨ h.interval = 0 ∨ h.stages = 0 ∨ 256 < h.stages then some 1
  else if h.hash ≠ hash then some 2
  else bad (h.n == 0 || decide (8 < h.n) || h.stmts.any fun x => decide (x.1 < 300) || decide (800 < x.1)) 1

/-- Check 12. -/
def checkHdrs (ss : List Sect) (map : Nat → Word) (scope : Nat → Bool) : Option Bad :=
  firstSect ss fun s => if s.type ≠ 0x10 ∨ !scope s.index then none
    else (hdrOf s.plain).fail (map s.index) (shapeHash ss s.index)

/-- Check 13: `held` is the fill rate of the regions that stay live. -/
def checkSlots (ss : List Sect) (scope : Nat → Bool) (held : Nat) : Option Bad :=
  let hd := fun r => hdrOf (sectD ss 0x10 r)
  let bearing := fun r => (recs ss r).filter fun x => x.slots ≠ 0
  (ss.zipIdx.foldl (fun (m : Option Bad × Nat) x =>
    let s := x.1
    let r := s.index
    if m.1.isSome ∨ !scope r then m
    else if s.type = 0x10 then
      let rate := (hd r).rate
      if (rate ≠ 0 ∧ rate < needRate (recs ss r)) ∨ 2048 < m.2 + rate then (some (4, some x.2), m.2) else (none, m.2 + rate)
    else if s.type = 0x11 then
      let b := bearing r
      if b.any (fun y => y.slots ≠ ((b.head?).map (·.slots)).getD 0) ∨ b.any (fun y => y.slots < (hd r).minSlots) then (some (4, some x.2), m.2)
      else m
    else m) (none, held)).1

/-! ### Checks 14 to 16: weight store, default skims, Lath -/

/-- The three words of a stream record stand in the set of its slice. -/
def StreamRec.put (x : StreamRec) (m : Store Word) : Store Word :=
  ((m.set resetOf (R.wst_SCFG x.slice x.stream) x.cfg).set resetOf (R.wst_SADDR x.slice x.stream) x.addr).set resetOf
    (R.wst_SLEN x.slice x.stream) x.len

/-- Check 14, over the device whose region map is that of the image; `set0` holds the streams that stay. -/
def Device.checkWst (d : Device) (ss : List Sect) (scope : Nat → Bool) (set0 : Store Word) : Option Bad :=
  (ss.zipIdx.foldl (fun (m : Option Bad × Store Word) x =>
    let s := x.1
    if m.1.isSome ∨ !(s.type = 4 ∨ (s.type = 0x13 ∧ scope s.index)) then m
    else match wstRecs s.plain with
      | none => (some (1, some x.2), m.2)
      | some (st, fi) =>
        let own := if s.type = 4 then 64 else s.index
        let set1 := st.foldl (fun m y => y.put m) m.2
        let f := (st.map (·.slice)).dedup.findSome? fun j => (firstFail (d.wstFails (Store.get resetOf set1) j)).map (·.2)
        let f2 := f.or ((bad (st.any fun y => fld y.cfg 2 7 != own) 2).or (bad (fi.any fun y => decide (131072 < y.line + y.count)) 1))
        (f2.map fun r => (r, some x.2), set1)) (none, set0)).1

/-- Whether share records obey R270 for the slot-bearing RELs of a region. -/
def sharesOk (xs : List Share) (rels : List Nat) : Bool := xs.map (·.rel) == rels

/-- Check 15. -/
def checkSkims (ss : List Sect) (scope : Nat → Bool) : Option Bad :=
  firstSect ss fun s =>
    let b := (recs ss s.index).filter fun x => x.slots ≠ 0
    if !scope s.index then none
    else if s.type = 0x10 then bad (!b.isEmpty && (sect ss 0x15 s.index).isNone) 2
    else if s.type = 0x15 then
      match shares s.plain.length s.plain with
      | none => some 2
      | some xs =>
        if !sharesOk xs (b.map (·.rel)) then some 2
        else bad ((xs.zip b).any fun x => decide (x.2.lines < x.1.lines) || decide (x.2.tables < x.1.tables)) 4
    else none

/-- The owner of a block under an OWNER table: a region, or 0xFF. -/
def ownerIn (o : List Nat) (b : Nat) : Nat := o.getD b 0xFF

/-- The blocks that an owner has. -/
def ownedBy (o : List Nat) (r : Nat) : List Nat := (List.range 64).filter fun b => ownerIn o b = r

/-- The LATH bindings of pipeline p: port, and the bit of its record that enables the direction (R488). -/
def lathBinds (ing egr : Word) : List (Nat × Nat) :=
  (if fld ing 0 2 = 2 then [(fld ing 8 6, 0)] else []) ++ if fld egr 0 3 = 2 then [(fld egr 8 6, 1)] else []

/-- Whether the ports of a bitstream enable a binding. -/
def LathBits.serves (x : LathBits) (b : Nat × Nat) : Bool := x.ports.any fun p => p.1 == b.1 && p.2 / 2 ^ b.2 % 2 == 1

/-- The offset of a clock record in the CLK pages, where its page and offset name a register with RWC fields. -/
def clkOffset (x : Nat × Nat × Word) : Option Nat :=
  let off := 0x200C000 + 0x1000 * x.1 + x.2.1
  if x.1 < 3 ∧ x.2.1 < 0x1000 ∧ (regDefAt off).any (fun r => r.fields.any fun f => f.acc == .rwc) then some off else none

/-- The CLK set with the clock records of a base in it. -/
def LathBits.clkSet (x : LathBits) (sh : Nat → Word) (o : Nat) : Word :=
  ((x.clks.reverse.find? fun y => clkOffset y == some o).map (·.2.2)).getD (sh o)

/-- Items 1 to 6 of R496 and the port records of item 7 on one bitstream of region r (none: the base), with the OWNER table under which it
is checked. -/
def Device.lathFail (d : Device) (l : List Byte) (r : Option Nat) (owner : List Nat) (regions : List Nat) : Option Nat :=
  let x := lathOf l
  let bs := maskBlocks x.blocks
  let keys := x.frames.map fun f => farKey f.1
  if l.length < 0x60 ∨ at_ l 0 4 ≠ 0x4854414C ∨ x.kind ≠ b2n r.isSome ∨ lathSize l ≠ l.length then some 1
  else if (match r with
      | none => x.owner.any (fun o => o != 0xFF && !(decide (o < 64) && regions.contains o)) || ownerIn x.owner 0 != 0xFF ||
          ownerIn x.owner 1 != 0xFF || bs != ownedBy x.owner 0xFF
      | some q => bs != ownedBy owner q) then some 2
  else if x.frames.length ≠ 1280 * bs.length ∨ !keys.Nodup ∨ x.frames.any (fun (f : Nat × Nat × List Byte) =>
      !bs.contains (f.1 / 65536) || decide (1280 ≤ f.1 % 65536) || (crc16 f.2.2).toNat != f.2.1) then some 1
  else if x.nets.any (fun n => !bs.contains (n % 64) || n / 65536 % 4 == 3) || !(x.nets.map (· % 65536)).Nodup ||
      (r.isNone && !x.nets.isEmpty) then some 1
  else
    let clk : Option Nat := match r with
      | some _ => bad (!x.clks.isEmpty) 1
      | none => (bad (x.clks.any fun y => (clkOffset y).isNone) 1).or ((firstFail (clkFails d.reg (x.clkSet d.sh))).map (·.2))
    clk.or (bad (!(x.ports.map (·.1)).Nodup || x.ports.any fun p => decide (64 ≤ p.1) || !bs.contains (portBlock p.1)) 2)

/-- Check 16: bitstreams in directory order, each with item 7 on the LATH bindings that it serves. -/
def Device.checkLath (d : Device) (ss : List Sect) (scope : Nat → Bool) (owner : List Nat) (binds : Nat → List (Nat × Nat)) (full : Bool) :
    Option Bad :=
  let regions := sectRegions ss
  firstSect ss fun s =>
    if s.type = 3 ∧ full then
      (d.lathFail s.plain none owner regions).or (bad ((List.range 64).any fun p => (binds p).any fun b =>
        let o := ownerIn owner (portBlock b.1)
        (o != 0xFF && o != p) || (o == 0xFF && !(lathOf s.plain).serves b) || (o == p && (sect ss 0x14 p).isNone)) 2)
    else if s.type = 0x14 ∧ scope s.index then
      (d.lathFail s.plain (some s.index) owner regions).or (bad ((binds s.index).any fun b =>
        ownerIn owner (portBlock b.1) == s.index && !(lathOf s.plain).serves b) 2)
    else none

end Sys2Proof.Machine
end

