-- ==== Sys2Proof/Machine/Firmware.lean ====
section
/-! DEFINITION. Machine/Firmware.lean: the Primer ROM checks a firmware image and hands off to it (chapter 21, R562 to R566). -/
namespace Sys2Proof.Machine

/-- SIG_OFFSET of a firmware image (R563). -/
def fwSig (l : List Byte) : Nat := (0x80 + at_ l 16 4 + 16 * (at_ l 6 2 % 2) + 63) / 64 * 64

/-- The code of an image whose signature has verified: as it stands, or decrypted with the fuse image key; none: the tag does not fit. -/
def fwCode (l : List Byte) : Option (List Byte) :=
  let n := at_ l 16 4
  if at_ l 6 2 % 2 = 0 then some (slice_ l 0x80 n)
  else (Config.gcmOpen Config.imageKey (slice_ l 0x20 12) [] (slice_ l 0x80 (n + 16))).map fun p => padTo n (p.take n)

/-- Whether the header breaks FORMAT (R564). -/
def fwForm (l : List Byte) : Bool :=
  let n := at_ l 16 4
  let lim := at_ l 20 4
  let entry := at_ l 24 4
  let budget := at_ l 28 4
  let sig := fwSig l
  !(decide (128 ≤ l.length) && at_ l 0 4 == 0x57465847 && at_ l 4 2 == 1 && decide (at_ l 6 2 < 4) &&
    at_ l 8 4 == (resetOf R.idn_DEVICE_CODE).toNat && decide (at_ l 12 1 ≤ 64) && zeroAt l 13 3 && n % 4 == 0 && decide (4 ≤ n ∧ n ≤ lim) &&
    lim % 4 == 0 && decide (lim ≤ 0x7F000) && entry % 4 == 0 && decide (entry < lim) && decide (1 ≤ budget ∧ budget < 2 ^ 24) &&
    (at_ l 6 2 % 2 == 1 || zeroAt l 0x20 12) && zeroAt l 0x2C 4 && zeroAt l 0x38 72 && decide (sig + 512 ≤ 0x400000) &&
    decide (sig + 512 ≤ l.length))

/-- The reason of the first failing check of R564; 0: none fails. -/
def Device.fwFail (d : Device) (l : List Byte) : Nat :=
  let b := slice_ l (fwSig l) 512
  let pin := at_ b 0 1
  let key := slice_ b 8 97
  if fwForm l then 2
  else if at_ l 12 1 < d.rf R.idn_FUSE_STATE 16 7 then 3
  else if !((acceptedPins (d.rf R.idn_FUSE_STATE 0 4) (d.rf R.idn_FUSE_STATE 4 4)).contains pin && Config.sha384 key == d.pinBytes pin) then 4
  else if !Config.ecdsaP384 key (Config.sha384 (l.take (fwSig l))) (slice_ b 0x70 48) (slice_ b 0xA0 48) then 5
  else if (fwCode l).isNone then 6
  else 0

/-- Write a number to a register in the committed set and in the shadow. -/
def Device.setBothN (d : Device) (off n : Nat) : Device := (d.setN off n).setSh off (wd n)

/-- The image that source `src` gave passes: the hand-off of R566; the scratchpad written whole, its words carry fresh check bits. -/
def State.handOff (s : State) (src : Nat) (l : List Byte) : State :=
  let d := s.dev
  let d1 := (d.setN R.sup_CODE_LIMIT (2 ^ 31 + at_ l 20 4)).setBothN (R.sup_HS_ENTRY 0) (at_ l 24 4)
  let d2 := (d1.setBothN (R.sup_HS_BUDGET 0) (at_ l 28 4)).setBothN (R.sup_HS_CFG 0) 0x11
  let d3 := (d2.setF R.sec_BOOT_STATUS 0 2 src).setF R.sec_BOOT_STATUS 17 1 (at_ l 6 2 / 2 % 2)
  let h := Config.sha384 (l.take (fwSig l))
  let d4 := (List.range 12).foldl (fun d w => d.setN (R.sec_FW_DIGEST w) (at_ h (4 * w) 4)) d3
  let d5 := ((d4.setN64 R.sec_FW_BUILD_ID_LO (at_ l 0x30 8)).setN R.sec_FW_SVN (at_ l 12 1)).supEvent 7 0 0
    (wd (src + 256 * d.rf R.sec_RESET_CAUSE 0 4))
  let d6 := if src = 2 then d5.setN R.sec_FW_LOAD_STATUS 2 else d5
  let d7 := { d6 with sup := { d6.sup with swd := some d6.now.tick } }.modBoot fun b => { b with rom := .done, mile := 2 }
  { s with
    harts := { s.harts with sp := Memory.wrBytes [] 0 ((fwCode l).getD []) }
    dev := (d7.mend .spad 0 fun _ => true).advance }.hartReady 0

/-- The reason with which an attempt ends; READ where the image did not arrive. -/
def Device.attempt (d : Device) (r : Option (List Byte)) : Nat :=
  match r with
  | none => 1
  | some l => d.fwFail l

/-- The image that the ROM reads has arrived (none: the read did not complete). -/
def romImageRead (r : Option (List (BitVec 8))) (t : Nat) (s : State) : State :=
  let s0 := { s with dev := s.dev.at t }
  let d := s0.dev
  let f := d.attempt r
  let l := r.getD []
  match d.boot.rom with
  | .slotA =>
    if f = 0 then s0.handOff 0 l
    else { s0 with dev := (d.setF R.sec_BOOT_STATUS 4 4 f).modBoot fun b => { b with rom := .slotB } }
  | .slotB =>
    if f = 0 then s0.handOff 1 l
    else { s0 with dev := ((d.setF R.sec_BOOT_STATUS 8 4 f).modBoot fun b => { b with rom := .waitLink }).romLinked }
  | .host =>
    if f = 0 then s0.handOff 2 l
    else { s0 with dev := ((d.setF R.sec_BOOT_STATUS 12 4 f).setN R.sec_FW_LOAD_STATUS 3).modBoot fun b => { b with rom := .waitGo } }
  | _ => s0
/-- ROM_IMAGE_READ (R564 to R566). -/
def execRomImageRead (r : Option (List (BitVec 8))) (t : Nat) (s : State) : Host.Outcome State Fault Refusal := onState (romImageRead r t) s

end Sys2Proof.Machine
end

