-- ==== Sys2Proof/Machine/Harts.lean ====
section
/-! DEFINITION. Machine/Harts.lean: the Chewarix instructions but those that reach device pages (chapter 16, R420 to R434, R439). -/
namespace Sys2Proof.Machine

/-! ### Arithmetic (R429) -/

/-- ADD (R429): w[RD] = w[RS] + w[RT]. -/
def execHartAdd (h : Fin 4) (c : Nat) (s : State) : Host.Outcome State Fault Refusal :=
  onState (hartR 0x01 h c (fun a b => a + b)) s

/-- SUB (R429): w[RD] = w[RS] - w[RT]. -/
def execHartSub (h : Fin 4) (c : Nat) (s : State) : Host.Outcome State Fault Refusal :=
  onState (hartR 0x02 h c (fun a b => a - b)) s

/-- AND (R429): the bitwise AND. -/
def execHartAnd (h : Fin 4) (c : Nat) (s : State) : Host.Outcome State Fault Refusal :=
  onState (hartR 0x03 h c (fun a b => a &&& b)) s

/-- OR (R429): the bitwise OR. -/
def execHartOr (h : Fin 4) (c : Nat) (s : State) : Host.Outcome State Fault Refusal :=
  onState (hartR 0x04 h c (fun a b => a ||| b)) s

/-- XOR (R429): the bitwise XOR. -/
def execHartXor (h : Fin 4) (c : Nat) (s : State) : Host.Outcome State Fault Refusal :=
  onState (hartR 0x05 h c (fun a b => a ^^^ b)) s

/-- SLL (R429): left by w[RT] & 31. -/
def execHartSll (h : Fin 4) (c : Nat) (s : State) : Host.Outcome State Fault Refusal :=
  onState (hartR 0x06 h c (fun a b => a <<< (b.toNat % 32))) s

/-- SRL (R429): right by w[RT] & 31, zeros shifted in. -/
def execHartSrl (h : Fin 4) (c : Nat) (s : State) : Host.Outcome State Fault Refusal :=
  onState (hartR 0x07 h c (fun a b => a >>> (b.toNat % 32))) s

/-- SRA (R429): right by w[RT] & 31, copies of bit 31 shifted in. -/
def execHartSra (h : Fin 4) (c : Nat) (s : State) : Host.Outcome State Fault Refusal :=
  onState (hartR 0x08 h c (fun a b => BitVec.sshiftRight a (b.toNat % 32))) s

/-- SLT (R429): 1 when w[RS] is less than w[RT] as s32. -/
def execHartSlt (h : Fin 4) (c : Nat) (s : State) : Host.Outcome State Fault Refusal :=
  onState (hartR 0x09 h c (fun a b => wd (b2n (a.slt b)))) s

/-- SLTU (R429): 1 when w[RS] is less than w[RT], unsigned. -/
def execHartSltu (h : Fin 4) (c : Nat) (s : State) : Host.Outcome State Fault Refusal :=
  onState (hartR 0x0A h c (fun a b => wd (b2n (a.ult b)))) s

/-- MUL (R429): bits [31:0] of the product. -/
def execHartMul (h : Fin 4) (c : Nat) (s : State) : Host.Outcome State Fault Refusal :=
  onState (hartR 0x0B h c (fun a b => a * b)) s

/-- ADDI (R429): w[RS] + sx(IMM). -/
def execHartAddi (h : Fin 4) (c : Nat) (s : State) : Host.Outcome State Fault Refusal :=
  onState (hartI 0x10 h c (fun a i => a + sxImm i)) s

/-- ANDI (R429): w[RS] & zx(IMM). -/
def execHartAndi (h : Fin 4) (c : Nat) (s : State) : Host.Outcome State Fault Refusal :=
  onState (hartI 0x11 h c (fun a i => a &&& wd i.imm)) s

/-- ORI (R429): w[RS] | zx(IMM). -/
def execHartOri (h : Fin 4) (c : Nat) (s : State) : Host.Outcome State Fault Refusal :=
  onState (hartI 0x12 h c (fun a i => a ||| wd i.imm)) s

/-- XORI (R429): w[RS] ^ zx(IMM). -/
def execHartXori (h : Fin 4) (c : Nat) (s : State) : Host.Outcome State Fault Refusal :=
  onState (hartI 0x13 h c (fun a i => a ^^^ wd i.imm)) s

/-- SLLI (R429): left by IMM[4:0]. -/
def execHartSlli (h : Fin 4) (c : Nat) (s : State) : Host.Outcome State Fault Refusal :=
  onState (hartI 0x14 h c (fun a i => a <<< (i.imm % 32))) s

/-- SRLI (R429): right by IMM[4:0], zeros shifted in. -/
def execHartSrli (h : Fin 4) (c : Nat) (s : State) : Host.Outcome State Fault Refusal :=
  onState (hartI 0x15 h c (fun a i => a >>> (i.imm % 32))) s

/-- SRAI (R429): right by IMM[4:0], copies of bit 31 shifted in. -/
def execHartSrai (h : Fin 4) (c : Nat) (s : State) : Host.Outcome State Fault Refusal :=
  onState (hartI 0x16 h c (fun a i => BitVec.sshiftRight a (i.imm % 32))) s

/-- LUI (R429): IMM[15:0] << 16. -/
def execHartLui (h : Fin 4) (c : Nat) (s : State) : Host.Outcome State Fault Refusal :=
  onState (hartI 0x17 h c (fun _ i => wd (i.imm * 65536))) s

/-! ### Branches (R429, R430) -/

/-- BEQ (R429): taken when equal. -/
def execHartBeq (h : Fin 4) (c : Nat) (s : State) : Host.Outcome State Fault Refusal :=
  onState (hartB 0x28 h c (fun a b => a == b)) s

/-- BNE (R429): taken when different. -/
def execHartBne (h : Fin 4) (c : Nat) (s : State) : Host.Outcome State Fault Refusal :=
  onState (hartB 0x29 h c (fun a b => a != b)) s

/-- BLT (R429): taken when less, as s32. -/
def execHartBlt (h : Fin 4) (c : Nat) (s : State) : Host.Outcome State Fault Refusal :=
  onState (hartB 0x2A h c (fun a b => a.slt b)) s

/-- BGE (R429): taken when greater or equal, as s32. -/
def execHartBge (h : Fin 4) (c : Nat) (s : State) : Host.Outcome State Fault Refusal :=
  onState (hartB 0x2B h c (fun a b => !a.slt b)) s

/-- BLTU (R429): taken when less, unsigned. -/
def execHartBltu (h : Fin 4) (c : Nat) (s : State) : Host.Outcome State Fault Refusal :=
  onState (hartB 0x2C h c (fun a b => a.ult b)) s

/-- BGEU (R429): taken when greater or equal, unsigned. -/
def execHartBgeu (h : Fin 4) (c : Nat) (s : State) : Host.Outcome State Fault Refusal :=
  onState (hartB 0x2D h c (fun a b => !a.ult b)) s

/-- JMP (R429): pc + 4 + 4 × TGT, checked under R430. -/
def execHartJmp (h : Fin 4) (c : Nat) (s : State) : Host.Outcome State Fault Refusal :=
  onState (fun s => s.issue h c (some 0x2E) fun i s => s.goForward h ((s.hart h).pc + 4 * i.tgt)) s

/-! ### The scratchpad -/

/-- LW (R422). -/
def execHartLw (h : Fin 4) (c : Nat) (s : State) : Host.Outcome State Fault Refusal :=
  onState (hartLoad 0x18 4 h c fun w _ => w) s

/-- LBU (R422). -/
def execHartLbu (h : Fin 4) (c : Nat) (s : State) : Host.Outcome State Fault Refusal :=
  onState (hartLoad 0x19 1 h c fun w a => wd (fld w (8 * (a % 4)) 8)) s

/-- SW (R422). -/
def execHartSw (h : Fin 4) (c : Nat) (s : State) : Host.Outcome State Fault Refusal := onState (hartStore 0x1A 4 h c true) s

/-- SB (R422): the low byte. -/
def execHartSb (h : Fin 4) (c : Nat) (s : State) : Host.Outcome State Fault Refusal := onState (hartStore 0x1B 1 h c true) s

/-- SWO (R423): in the ordered window. -/
def execHartSwo (h : Fin 4) (c : Nat) (s : State) : Host.Outcome State Fault Refusal := onState (hartStore 0x1C 4 h c false) s

/-- AMOSWAP (R423). -/
def execHartAmoswap (h : Fin 4) (c : Nat) (s : State) : Host.Outcome State Fault Refusal :=
  onState (hartAtomic 0x1D h c fun i _ => .swap i.rd) s

/-- CAS (R423): compares with w[RD]. -/
def execHartCas (h : Fin 4) (c : Nat) (s : State) : Host.Outcome State Fault Refusal :=
  onState (hartAtomic 0x1E h c fun i x => .cas i.rd (x.r i.rd)) s

/-- FENCE (R423): its four cycles see every earlier store performed. -/
def execHartFence (h : Fin 4) (c : Nat) (s : State) : Host.Outcome State Fault Refusal :=
  onState (fun s => s.issue h c (some 0x1F) fun _ s => s) s

/-- STORE_PERFORMED (R422): the accesses due by the end of cycle c are performed. -/
def execStorePerformed (c : Nat) (s : State) : Host.Outcome State Fault Refusal := onState (fun s => s.atHart c) s

/-! ### Loops, calls, dispatch (R431 to R433) -/

/-- LOOP (R431). -/
def hartLoop (h c : Nat) (s : State) : State :=
  s.issue h c (some 0x30) fun i s =>
    let x := s.hart h
    let n := (x.r i.rs).toNat
    let e := (x.cur + 4 * i.imm) % 2 ^ 32
    if i.imm = 0 then s.faultAt h 0x100 none
    else if 65535 < n then s.faultAt h 0x104 none
    else match s.fetch e with
      | (.error k, s1) => s1.faultAt h k.1 k.2
      | (.ok w, s1) =>
        if fld w 26 6 ≠ 0x31 ∨ x.beyond e then s1.faultAt h 0x102 none
        else if n = 0 then s1.jump h (e + 4)
        else if x.loops.length = 4 then s1.faultAt h 0x103 none
        else s1.setHart h { s1.hart h with loops := ⟨x.pc, e, n⟩ :: x.loops }
/-- LOOP. -/
def execHartLoop (h : Fin 4) (c : Nat) (s : State) : Host.Outcome State Fault Refusal := onState (hartLoop h c) s

/-- ENDLOOP (R431). -/
def hartEndloop (h c : Nat) (s : State) : State :=
  s.issue h c (some 0x31) fun _ s =>
    let x := s.hart h
    match x.loops with
    | [] => s.faultAt h 0x102 none
    | l :: r =>
      if x.loops.length = x.fb ∨ l.fin ≠ x.cur then s.faultAt h 0x102 none
      else if l.left ≤ 1 then s.setHart h { x with loops := r }
      else s.setHart h { x with loops := { l with left := l.left - 1 } :: r, pc := l.start }
/-- ENDLOOP. -/
def execHartEndloop (h : Fin 4) (c : Nat) (s : State) : Host.Outcome State Fault Refusal := onState (hartEndloop h c) s

/-- CALL (R432). -/
def hartCall (h c : Nat) (s : State) : State :=
  s.issue h c (some 0x32) fun i s =>
    let x := s.hart h
    if x.calls.length = 8 then s.faultAt h 0x105 none
    else if s.codeLimit ≤ 4 * i.tgt then s.faultAt h 0x106 (some (4 * i.tgt))
    else s.setHart h { x with calls := (x.pc, x.loops.length) :: x.calls, pc := 4 * i.tgt }
/-- CALL. -/
def execHartCall (h : Fin 4) (c : Nat) (s : State) : Host.Outcome State Fault Refusal := onState (hartCall h c) s

/-- RET (R432). -/
def hartRet (h c : Nat) (s : State) : State :=
  s.issue h c (some 0x33) fun _ s =>
    let x := s.hart h
    match x.calls with
    | [] => s.faultAt h 0x105 none
    | (a, _) :: r => if x.loops.length ≠ x.fb then s.faultAt h 0x102 none else s.setHart h { x with calls := r, pc := a }
/-- RET. -/
def execHartRet (h : Fin 4) (c : Nat) (s : State) : Host.Outcome State Fault Refusal := onState (hartRet h c) s

/-- DISPATCH (R433). -/
def hartDispatch (h c : Nat) (s : State) : State :=
  s.issue h c (some 0x34) fun i s =>
    let x := s.hart h
    let k := (x.r i.rs).toNat
    let after := x.pc + 4 * i.imm
    if i.imm = 0 then s.faultAt h 0x100 none
    else if i.imm ≤ k then s.goForward h after
    else match s.fetch (x.pc + 4 * k) with
      | (.error e, s1) => s1.faultAt h e.1 e.2
      | (.ok w, s1) => s1.goForward h ((after + 4 * w.toNat) % 2 ^ 32)
/-- DISPATCH. -/
def execHartDispatch (h : Fin 4) (c : Nat) (s : State) : Host.Outcome State Fault Refusal := onState (hartDispatch h c) s

/-! ### Position and cycle reads (R434) -/

/-- RDPOS: the reported position of channel CH in one timing tick. -/
def hartRdpos (h c t : Nat) (s : State) : State :=
  (s.onDevice (·.at t)).issue h c (some 0x38) fun i s => s.putPair h i.rd (s.dev.chP i.imm)
/-- RDPOS. -/
def execHartRdpos (h : Fin 4) (c t : Nat) (s : State) : Host.Outcome State Fault Refusal := onState (hartRdpos h c t) s

/-- RDCYC: SEL 0 the hart-cycle counter, SEL 1 TICK. -/
def hartRdcyc (h c t : Nat) (s : State) : State :=
  (s.onDevice (·.at t)).issue h c (some 0x39) fun i s =>
    s.putPair h i.rd ((if i.imm = 0 then s.dev.now.hcyc else s.dev.now.tick) % 2 ^ 64)
/-- RDCYC. -/
def execHartRdcyc (h : Fin 4) (c t : Nat) (s : State) : Host.Outcome State Fault Refusal := onState (hartRdcyc h c t) s

/-! ### Asynchronous requests (R418, R426) -/

/-- Whether an ARQ may name an address: a TRW page or the host window, a multiple of 4. -/
def arqAddr (a : Nat) : Bool :=
  a % 4 == 0 && (decide (0x11000000 ≤ a ∧ a < 0x12000000) || decide (0x12100000 ≤ a ∧ a < 0x13180000) ||
    decide (0x20000000 ≤ a ∧ a < 0x20010000))

/-- ARQ hands one access to the lowest free place of the hart's port. -/
def hartArq (h c : Nat) (s : State) : State :=
  s.issue h c (some 0x22) fun i s =>
    let x := s.hart h
    let a := (x.r i.rs).toNat
    if !arqAddr a then s.faultAt h 0x106 (some a)
    else match (List.range 8).find? fun k => !(x.arqs.any fun q => q.place == k) with
      | none => s.faultAt h 0x10A none
      | some k => s.setHart h { x with
          arqs := x.arqs ++ [⟨k, a, i.imm / 2 ^ 13 % 2 == 1, x.r i.rt, i.imm % 64, x.nextArq, false⟩]
          nextArq := x.nextArq + 1 }
/-- ARQ. -/
def execHartArq (h : Fin 4) (c : Nat) (s : State) : Host.Outcome State Fault Refusal := onState (hartArq h c) s

/-! ### The end of a handler (R438, R439) -/

/-- DONE: the hart becomes IDLE when its last cycle lies within the budget; else the budget ends it. -/
def hartDone (h c : Nat) (s : State) : State :=
  s.issue h c (some 0x3A) fun _ s =>
    let x := s.hart h
    let f := x.first.getD c
    if c + 2 ≤ f + s.budget h then
      let used := c + 2 - f
      (s.setHart h { x with st := .idle, first := none, loops := [], calls := [] }).onDevice fun d =>
        d.setN (R.sup_HS_MAXUSED x.slot) (max (d.rn (R.sup_HS_MAXUSED x.slot)) used)
    else s
/-- DONE. -/
def execHartDone (h : Fin 4) (c : Nat) (s : State) : Host.Outcome State Fault Refusal := onState (hartDone h c) s

/-- ILLEGAL_INSTRUCTION (R428): the word at hart h's pc is none of Table 16.5. -/
def execIllegalInstruction (h : Fin 4) (c : Nat) (s : State) : Host.Outcome State Fault Refusal :=
  onState (fun s => s.issue h c none fun _ s => s) s

/-- The budget of hart h's handler has ended before its DONE: what its instruction in progress has not performed it does not. -/
def handlerBudget (h : Fin 4) (c : Nat) (s : State) : State :=
  let s0 := s.atHart c
  let x := s0.hart h
  if s0.expired h c then
    let cut := x.buf.filter fun a => !a.inst
    (s0.setHart h { x with buf := cut }).hartFault h 0x101 (x.faultPc c) none
  else s0
/-- HANDLER_BUDGET (R439). -/
def execHandlerBudget (h : Fin 4) (c : Nat) (s : State) : Host.Outcome State Fault Refusal := onState (handlerBudget h c) s

end Sys2Proof.Machine
end

