-- ==== Sys2Proof/Machine/Ladder.lean ====
section
/-! DEFINITION. Machine/Ladder.lean: the device fault, the recovery ladder with its commands and watchdogs (chapter 22, R597 to R606), and
the disabling of a queue (R381). -/
namespace Sys2Proof.Machine

/-! ### Disabling a queue (R381) -/

/-- Whether a job is admitted or completed (R381). -/
def Job.past (j : Job) : Bool :=
  match j.st with
  | .admitted | .writing | .completed => true
  | _ => false

/-- ENABLE of queue g goes from 1 to 0: its turns stop, and every entry and job at or beyond the boundary D is discarded. -/
def Device.disableQueue (d : Device) (g : Nat) : Device :=
  let x := d.queue g
  let h := d.head g
  let mine := d.jobs.filter fun j => j.q == g && !j.orphan
  let n := (mine.filter Job.past).foldl (fun n j => max n (u32sub (j.index + j.entries) h)) 0
  let gone := fun (j : Job) => j.q == g && !j.orphan && decide (n ≤ u32sub j.index h)
  let back := ((mine.filter fun j => gone j && j.cancelled).map (·.index)) ++ ((x.held ++ x.chain.toList).filter (·.cancel)).map (·.index)
  let fence := x.fence.filter fun id => !(mine.any fun j => j.id == id && gone j)
  let d2 := (d.forgetJobs gone).setQueue g { x with
    chain := none
    turn := none
    held := []
    prov := []
    supplied := []
    fence := fence
    cancels := (x.cancels ++ back).take 8 }
  let D := (h + n) % 2 ^ 32
  (((d2.count R.qen_DISCARDED (u32sub (d2.fetchIdx g) D)).setN (R.qst_FETCH_IDX g) D).setChainHold g 0).setF (R.qst_QSTATUS g) 5 1 0

/-! ### The ladder (R601 to R604) -/

/-- The rung of the ladder. -/
def Device.rung (d : Device) : Nat := d.rf R.flt_LADDER_STATE 0 2

/-- Rung k is entered: its timer loads LIMIT_k. -/
def Device.enterRung (d : Device) (k : Nat) : Device :=
  { d.setN R.flt_LADDER_STATE (k + 65536 * d.rn (R.flt_LIMIT (k - 1))) with ladderTick := d.now.tick }

/-- A DEVICE error other than TRIP (R597): DEVICE_FAULT with its code, a device reset with cause 5, rung 3. -/
def Device.deviceFault (d : Device) (code : Nat) : Device :=
  let d1 := ((d.setF R.flt_DEV_FAULT 0 1 1).setF R.flt_DEV_FAULT 16 16 code).evtBit 0xF000 16
  let d2 := (if d.rf R.flt_DEV_FAULT 0 1 = 0 then d1.emit (.aer 0 false) else d1).presenceSync
  (d2.requestDevReset 5).enterRung 3

/-- LADDER_CMD written with action `a`, by a requester that may write it (R608). -/
def ladderWrite (q : Req) (a : Nat) (act : Device → Device) (d : Device) : Device :=
  if fld q.data 0 3 ≠ a then d.at q.t
  else d.writeAt q R.flt_LADDER_CMD fun d =>
    if whoOk .mgmtSup q.port R.flt_LADDER_CMD then act d else d.errAccess 0x0001 q.port R.flt_LADDER_CMD true

/-- An action that shows rung k: refused below the present rung; otherwise performed, and then the rung is set (R603). -/
def ladderCmd (q : Req) (a k : Nat) (act : Nat → Device → Device) (d : Device) : Device :=
  ladderWrite q a (fun d =>
    if k < d.rung then d.setN R.flt_LADDER_RESULT 2
    else
      let d1 := (act (fld q.data 8 16) d).setN R.flt_LADDER_RESULT 1
      if d1.rung < k then d1.enterRung k else d1) d

/-- LADDER_RETRY. -/
def execLadderRetry (q : Req) (s : State) : Host.Outcome State Fault Refusal := onDev (ladderCmd q 1 1 fun _ d => d) s

/-- ENABLE of queue g becomes 0 in the committed set and in the shadow, and the queue is reset (R381, R383). -/
def Device.ladderQueue (d : Device) (g : Nat) : Device :=
  let d1 := if d.qEnabled g then d.disableQueue g else d
  let d2 := (d1.setF (R.qst_QCTL g) 0 1 0).setSh (R.qst_QCTL g) (setFld (d1.sh (R.qst_QCTL g)) 0 1 0)
  (d2.queueResetCmd g).2
/-- LADDER_QUEUE_RESET. -/
def execLadderQueueReset (q : Req) (s : State) : Host.Outcome State Fault Refusal := onDev (ladderCmd q 2 2 fun n d => d.ladderQueue n) s

/-- LADDER_TENANT_RESET. -/
def execLadderTenantReset (q : Req) (s : State) : Host.Outcome State Fault Refusal :=
  onDev (ladderCmd q 3 2 fun n d => if n < 1024 then d.resetTenant n else d) s

/-- LADDER_PIPELINE_RESET: PIPELINE_RESET performs R240, which an EMPTY pipeline or one in REWORK ignores. -/
def execLadderPipelineReset (q : Req) (s : State) : Host.Outcome State Fault Refusal :=
  onDev (ladderCmd q 4 2 fun n d => if n < 64 ∧ d.pipeState n ≠ 0 ∧ d.pipeState n ≠ 6 then d.resetPipe n else d) s

/-- LADDER_DEVICE_RESET: cause 3 from MGMT, else 4. -/
def execLadderDeviceReset (q : Req) (s : State) : Host.Outcome State Fault Refusal :=
  onDev (ladderCmd q 5 3 fun _ d => d.requestDevReset (if portCode q.port = 0 then 3 else 4)) s

/-- LADDER_CMD CLEAR disarms from any rung. -/
def ladderClear (q : Req) (d : Device) : Device :=
  ladderWrite q 6 (fun d => (d.setN R.flt_LADDER_STATE 0).setN R.flt_LADDER_RESULT 1) d
/-- LADDER_CLEAR. -/
def execLadderClear (q : Req) (s : State) : Host.Outcome State Fault Refusal := onDev (ladderClear q) s

/-- The tick at which the ladder's timer reaches 0. -/
def Device.ladderEnd (d : Device) : Nat := d.ladderTick + 1000000 * d.rf R.flt_LADDER_STATE 16 16

/-- The ladder's timer reaches 0 (R604). -/
def ladderExpiry (t : Nat) (d : Device) : Device :=
  let d0 := d.at t
  let k := d0.rung
  if k = 0 ∨ d0.now.tick < d0.ladderEnd ∨ d0.rf R.flt_DEV_FAULT 1 1 = 1 then d0
  else if k < 3 then
    let d1 := ((d0.count R.flt_ESCALATIONS 1).evtBit 0xF000 17).err 0xF000 0x0100 (wd k) 0
    (d1.requestDevReset 5).enterRung 3
  else if d0.rf R.flt_LADDER_STATE 2 1 = 0 then ((d0.requestDevReset 5).enterRung 3).setF R.flt_LADDER_STATE 2 1 1
  else (d0.countStretch.setF R.flt_DEV_FAULT 1 1 1).presenceSync
/-- LADDER_EXPIRY (R604). -/
def execLadderExpiry (t : Nat) (s : State) : Host.Outcome State Fault Refusal := onDev (ladderExpiry t) s

/-! ### The supervisor watchdog (R605) -/

/-- The supervisor watchdog's count reaches SWD_MS; the count starts again at the first expiry only (log entry 158). -/
def swdExpiry (t : Nat) (s : State) : State :=
  let s0 := { s with dev := s.dev.at t }
  let d := s0.dev
  let since := d.sup.swd
  if !(since.any fun x => decide (x + 1000000 * d.rf R.flt_SWD_CFG 0 10 ≤ d.now.tick)) then s0
  else
    let d1 := { d with sup := { d.sup with swd := some d.now.tick } }
    match d.rf R.flt_SWD_STATE 0 2 with
    | 0 =>
      let s1 := (List.range 4).foldl (fun s h => if (Store.get hart0 s.harts.all h).st = .faulted then s.restartHart h else s)
        { s0 with dev := d1 }
      let d2 := ((s1.dev.setF R.flt_SWD_STATE 0 2 1).count R.flt_SWD_EXPIRIES 1).evtBit 0xF000 18
      { s1 with dev := (d2.err 0xF000 0x0101 1 0).deviceFault 0x0101 }
    | 1 => { s0 with dev :=
        (((d.setF R.flt_SWD_STATE 0 2 2).count R.flt_SWD_EXPIRIES 1).evtBit 0xF000 18).setF R.iob_PRESENCE_STATUS 2 1 1 |>.presenceSync }
    | _ => s0
/-- SWD_EXPIRY (R605). -/
def execSwdExpiry (t : Nat) (s : State) : Host.Outcome State Fault Refusal := onState (swdExpiry t) s

end Sys2Proof.Machine
end

