-- ==== Sys2Proof/Machine/Tenants.lean ====
section
/-! DEFINITION. Machine/Tenants.lean: a tenant's own skim loads and removals (R400, R401). -/
namespace Sys2Proof.Machine

/-- SKL_STATUS at once: RESULT and REASON. -/
def Device.sklResult (d : Device) (t result reason : Nat) : Device := d.setN (R.ten_SKL_STATUS t) (result + 16 * reason)

/-- A write of SKL_CMD of tenant tn with operation `op` and GO. -/
def sklCmd (tn : Fin 1024) (q : Req) (op : Nat) (act : Nat → Device → Device) (d : Device) : Device :=
  if fld q.data 0 2 ≠ op ∨ fld q.data 31 1 = 0 then d.at q.t
  else d.writeAt q (R.ten_SKL_CMD tn) (act (fld q.data 16 14))

/-- SKL_CMD LOAD: the checks at GO, then a LIBRARY load through the tenant's VF. -/
def sklLoad (tn : Fin 1024) (q : Req) (d : Device) : Device :=
  sklCmd tn q 1 (fun x d =>
    let n := d.rn (R.ten_SKL_LEN tn)
    match d.winMap tn (d.rn64 (R.ten_SKL_SRC_LO tn)) n 1 with
    | none => d.sklResult tn 3 1
    | some a =>
      if n = 0 ∨ x = 0 then d.sklResult tn 3 1
      else if !d.loadFree then d.sklResult tn 4 0
      else d.startLoad { loader0 with
        kind := 2
        skim := x
        fn := 2 + tn.val
        host := true
        src := a
        len := some n
        owner := some tn.val
        skl := true }) d
/-- SKL_LOAD (R400). -/
def execSklLoad (tn : Fin 1024) (q : Req) (s : State) : Host.Outcome State Fault Refusal := onDev (sklLoad tn q) s

/-- SKL_CMD REMOVE: only of a skim that the tenant owns (R401), and only as R283 allows. -/
def sklRemove (tn : Fin 1024) (q : Req) (d : Device) : Device :=
  sklCmd tn q 2 (fun x d =>
    if (d.libAt x).st ≠ 2 ∨ (d.libAt x).owner ≠ some tn.val then d.sklResult tn 3 2
    else if d.skimUsed x then d.sklResult tn 3 3
    else { d with lib := Store.set lib0 d.lib x (lib0 0) }.sklResult tn 2 0) d
/-- SKL_REMOVE (R401). -/
def execSklRemove (tn : Fin 1024) (q : Req) (s : State) : Host.Outcome State Fault Refusal := onDev (sklRemove tn q) s

end Sys2Proof.Machine
end

