-- ==== Sys2Proof/Machine/Loader.lean ====
section
/-! DEFINITION. Machine/Loader.lean: loads of Renders, regions and library skims (chapter 10, R275 to R279; R304, R306, R405, R455,
R497). -/
namespace Sys2Proof.Machine

/-- Write a register in the committed set and in the shadow. -/
def Device.setBoth (d : Device) (off : Nat) (v : Word) : Device := (d.setReg off v).setSh off v

/-! ### GO (R275) -/

/-- A GO in LOAD_CTRL with KIND `kind`: LOAD_BUSY while a load runs; an HBM source outside OPERATOR fails at once (R405). GO from a port
that is no PCIe function reads through PF0 (log entry 135). -/
def loadGo (q : Req) (kind : Nat) (d : Device) : Device :=
  if fld q.data 0 2 ≠ kind ∨ fld q.data 31 1 = 0 then d.at q.t
  else d.writeAt q R.skm_LOAD_CTRL fun d =>
    let d0 := d.setReg R.skm_LOAD_CTRL (q.data &&& 0x3FFF3F07#32)
    let src := d0.rn64 R.skm_LOAD_SRC_LO
    if !d0.loadFree then d0.err 0x60000 0x0103 0 0
    else
      let d1 := d0.startLoad { loader0 with
        kind := kind
        region := fld q.data 8 6
        skim := fld q.data 16 14
        fn := (portFn q.port).getD 0
        host := fld q.data 2 1 == 0
        src := src }
      if fld q.data 2 1 = 1 ∧ !d1.inOperator src 64 then (d1.areaRange src).loadReadFailed else d1

/-- LOAD_FULL (R277). -/
def execLoadFull (q : Req) (s : State) : Host.Outcome State Fault Refusal := onDev (loadGo q 0) s
/-- LOAD_REGION (R278). -/
def execLoadRegion (q : Req) (s : State) : Host.Outcome State Fault Refusal := onDev (loadGo q 1) s
/-- LOAD_LIBRARY (R279). -/
def execLoadLibrary (q : Req) (s : State) : Host.Outcome State Fault Refusal := onDev (loadGo q 2) s

/-! ### READING (R275, R400, R405) -/

/-- The image is in the image area: CHECKING. -/
def Device.imageRead (d : Device) (l : List Byte) : Device := { d with loader := { d.loader with image := l } }.setLoadSt 2 0 0 0

/-- The copy into the image area ends: `r` is what host memory answered, for an image that lies there. -/
def loadReadDone (r : Sys2Proof.ReadEnd (List (BitVec 8))) (t : Nat) (d : Device) : Device :=
  let d0 := d.at t
  let x := d0.loader
  if d0.loadSt ≠ 1 then d0
  else if x.host then
    match r with
    | .fail c => (d0.cplFail x.fn c x.src).loadReadFailed
    | .data l => if d0.mayRequest x.fn then d0.imageRead (match x.len with
        | some n => l.take n
        | none => l) else d0.loadReadFailed
  else
    let n := min (at_ (d0.hbmBytesAt x.src 16) 8 8) d0.imageSize
    if !d0.inOperator x.src n then (d0.areaRange x.src).loadReadFailed
    else match d0.hbmRead x.src n with
      | (some _, d1) => d1.loadReadFailed
      | (none, d1) => d1.imageRead (d1.hbmBytesAt x.src n)
/-- LOAD_READ_DONE (R275). -/
def execLoadReadDone (r : Sys2Proof.ReadEnd (List (BitVec 8))) (t : Nat) (s : State) : Host.Outcome State Fault Refusal :=
  onDev (loadReadDone r t) s

/-! ### The remap (R214, R215) -/

/-- ROW_MAP of row r. -/
def Device.rowMap (d : Device) (r : Nat) : Nat :=
  let g := d.goodCols r
  if g.length < 64 then 0x7F7F + 65536 * (66 - g.length) + 2 ^ 31
  else
    let skip := (List.range 66).filter fun c => !(g.take 64).contains c
    skip.getD 0 0 + 256 * skip.getD 1 0 + 65536 * (66 - g.length)

/-- Whether a bay uses a row whose fuses mark more than two tiles bad. -/
def Device.bayBad (d : Device) (b : Nat) : Bool := (List.range 8).any fun y => decide ((d.goodCols (8 * (b / 8) + y)).length < 64)

/-- The Filler remap: ROW_MAP, UNUSABLE_BAYS and the physical columns of the tiles. -/
def Device.remap (d : Device) : Device :=
  let d1 := (List.range 64).foldl (fun d r => d.setN (R.scm_ROW_MAP r) (d.rowMap r)) d
  let d2 := (List.range 64).foldl (fun d b => d.setF (R.scm_UNUSABLE_BAYS_LO + 4 * (b / 32)) (b % 32) 1 (b2n (d.bayBad b))) d1
  (List.range 4096).foldl (fun d k => d.setF (R.trw_TILE_LOC k) 12 7 ((d.goodCols (k / 64)).getD (k % 64) 0)) d2

/-! ### CHECKING (R281) -/

/-- The device under which a FULL load's sections are checked: its map, with no stencil and every pipeline EMPTY. -/
def Device.underMap (d : Device) (l : List Byte) : Device :=
  let d1 := (List.range 64).foldl (fun d r => (d.setReg (R.sch_REGION r) (mapEntry l r)).setF (R.sch_PIPE_STATE r) 0 3 0) d.remap
  { d1 with scrim := scrim0 }

/-- The registers that hold weight-store streams. -/
def wstReg (o : Nat) : Bool := decide (0x90000 ≤ o ∧ o < 0xD0000) && decide (0x100 ≤ o % 0x1000 ∧ o % 0x1000 < 0x180)

/-- Checks 6 to 17 of a Render for the regions in `scope`. -/
def Device.checkRender (d : Device) (l : List Byte) (ss : List Sect) (full : Bool) (r : Nat) : Option (Nat × Bad) :=
  let scope := fun q => full || q == r
  let bm := sectD ss 1 0
  let map := if full then mapEntry bm else fun q => d.reg (R.sch_REGION q)
  let x := if full then d.underMap bm else d
  let y := if full then x.writeEntries (baseEntries (sectD ss 2 0)).1 [] else d
  let held := if full then 0 else (((List.range 64).filter (· ≠ r)).map fun q => d.rn (R.skm_FILL_RATE q)).sum
  let set0 := if full then [] else d.regs.filter fun e => wstReg e.1 &&
    d.streamOwner ((e.1 - 0x90000) / 0x1000) ((e.1 % 0x1000 - 0x100) / 0x10) != r
  let owner := if full then (lathOf (sectD ss 3 0)).owner else (List.range 64).map d.owner
  let binds := fun p => if full then lathBinds (mapIng bm p) (mapEgr bm p) else lathBinds (d.reg (R.sch_ING_CFG p)) (d.reg (R.sch_EGR_CFG p))
  let base := fun (s : List Sect) => Config.sha384 (sectD s 1 0 ++ sectD s 2 0 ++ sectD s 3 0 ++ sectD s 4 0)
  let state := if full then (List.range 64).any fun p => !(d.pipeState p == 0 || d.pipeState p == 1 || d.pipeState p == 5)
    else d.pipeState r != 6 || mapEntry bm r != d.reg (R.sch_REGION r) || base ss != base d.golden
  let c := fun (n : Nat) (b : Option Bad) => b.map fun x => (n, x)
  (c 6 (checkResv l ss)).or <| (c 7 (checkProgs ss map scope)).or <| (c 8 (checkTiles ss scope)).or <|
    (c 9 (checkStencils ss map x y scope)).or <|
    (if full then (c 10 (checkRects ss fun b => d.bayBad b)).or (c 11 (checkBinds ss)) else none).or <|
    (c 12 (checkHdrs ss map scope)).or <| (c 13 (checkSlots ss scope held)).or <| (c 14 (x.checkWst ss scope set0)).or <|
    (c 15 (checkSkims ss scope)).or <| (c 16 (d.checkLath ss scope owner binds full)).or <|
    if state then some (17, 3, none) else none

/-- The units of 4 KiB of a body (R279). -/
def units (n : Nat) : Nat := (n + 4095) / 4096

/-- The units of library entries that `p` picks. -/
def Device.libUnits (d : Device) (p : LibEntry → Bool) : Nat := ((d.lib.filter fun e => p e.2).map fun e => e.2.units).sum

/-- The units of the library area (R402). -/
def Device.libArea (d : Device) : Nat := 256 * d.rf R.hbm_LIBRARY_SIZE 0 16

/-- Checks 18 and 19, after check 6. -/
def Device.checkLibrary (d : Device) (l : List Byte) (ss : List Sect) (x : Loader) : Option (Nat × Bad) :=
  let body := sectD ss 0x21 0
  let at21 := ss.zipIdx.findSome? fun y => if y.1.type = 0x21 then some y.2 else none
  let n := units body.length
  match checkResv l ss with
  | some b => some (6, b)
  | none =>
    if x.skim = 0 then some (18, 1, none)
    else if (d.libAt x.skim).st ≠ 0 then some (18, 3, none)
    else if !(shares body.length body).any (fun xs => (xs.zip xs.tail).all fun y => decide (y.1.rel < y.2.rel)) then some (18, 1, at21)
    else if d.libArea < d.libUnits (fun _ => true) + n ∨ x.owner.any (fun t =>
        decide (d.rf (R.ten_SKIM_QUOTA t) 0 24 < d.libUnits (fun e => e.owner == some t) + n)) then some (19, 4, at21)
    else none

/-- The first failing check of the load in progress, with its reason and the section at fault. -/
def Device.checkImage (d : Device) : Option (Nat × Bad) :=
  let x := d.loader
  let l := x.image
  let skim := x.kind == 2
  let c := fun (n : Nat) (b : Option Bad) => b.map fun y => (n, y)
  (c 1 (checkHead l skim)).or <|
    (c 2 ((boxFail l skim (if x.kind = 1 then some x.region else none) x.len d.imageSize).map fun i => (1, i))).or <|
    (c 3 (d.checkPin l)).or <| (c 4 (checkSig l)).or <| (c 5 (checkOpen l)).or <|
    if skim then d.checkLibrary l (openSects l) x else d.checkRender l (openSects l) (x.kind == 0) x.region

/-- The load ends refused (R281): IDLE with the check, its reason and the section, a free value where the check names none. -/
def Device.loadRefused (d : Device) (check reason : Nat) (sec : Option Nat) : Device :=
  let (n, d0) := match sec with
    | some i => (i, d)
    | none => let (w, d1) := d.fresh; (w.toNat % 512, d1)
  ((((d0.setLoadSt 0 1 reason check).setN R.skm_LOAD_FAIL n).err 0x60000 0x0100 (wd (check + 256 * reason)) (wd n)).evtBit 0x60000 18).sklEnd
    3 reason check

/-! ### WRITING (R276 to R278, R455, R497) -/

/-- The pipeline has no section: EMPTY with FAULT cleared, slots INVALID, tapes engaged (R277, R304). -/
def Device.withdrawPipe (d : Device) (p : Nat) : Device :=
  let d1 := (List.range 16).foldl (fun d s => if d.rn (slotReg p s) = 0 then d else d.setSlot p s 0 0) (d.stopFills p)
  let d2 := ((d1.setTape p { d1.tape p with on := true }).setTapeState p 2).flushRegion p
  let d3 := (d2.clearFault p).noRecord p
  let d4 := d3.zeroRegs [R.sch_REGION p, R.sch_ING_CFG p, R.sch_EGR_CFG p, R.sch_LATENCY p, R.sch_MIN_INTERVAL p, R.skm_HASH_LO p,
    R.skm_HASH_HI p, R.skm_FILL_RATE p, R.skm_MIN_SLOTS p, R.skm_INTRUSION_SUM p, R.obs_STAGES p]
  if d4.pipeState p = 0 then d4 else d4.setPipeState p 0

/-- A block's bitstream is being written: its state is v. -/
def Device.setBlocks (d : Device) (bs : List Nat) (v : Nat) : Device := bs.foldl (fun d b => d.setF (R.lth_BLOCK_STATE b) 0 2 v) d

/-- The blocks that the bitstreams of the sections picked write. -/
def lathBlocks (ss : List Sect) (p : Sect → Bool) : List Nat :=
  (ss.filter fun s => (s.type == 3 || s.type == 0x14) && p s).flatMap fun s => maskBlocks (lathOf s.plain).blocks

/-- The domains that the sections of a Render need: bays 0 to 63, slices 64 to 127 (R455). -/
def needDomains (ss : List Sect) : List Nat :=
  let bays := (sectRegions ss).flatMap fun r => mapBays (mapEntry (sectD ss 1 0) r)
  let slices := (ss.filter fun s => s.type == 4 || s.type == 0x13).flatMap fun s =>
    ((wstRecs s.plain).map fun w => w.1.map (64 + ·.slice) ++ w.2.map (64 + ·.slice)).getD []
  bays ++ slices

/-- A domain is set in the shadow and in the committed set of POW. -/
def Device.powerBoth (d : Device) (k : Nat) : Device :=
  let off := if k < 64 then R.pow_BAY_PWR_LO + 4 * (k / 32) else R.pow_SLICE_PWR_LO + 4 * ((k - 64) / 32)
  (d.setF off (k % 32) 1 1).setSh off (setFld (d.sh off) (k % 32) 1 1)

/-- A FULL load enters WRITING: the present Render is withdrawn. -/
def Device.withdraw (d : Device) (ss : List Sect) : Device :=
  let d1 := (List.range 64).foldl Device.withdrawPipe d
  let d2 := { d1 with
    golden := []
    scrim := { d1.scrim with outE := [], delE := [], pipeReg := [], dead := [], blocked := [] } }
  let d3 := ((d2.setN R.skm_RENDER_STATE 2).setN R.scm_REMAP_STATE 0).setN64 R.skm_BUILD_ID_LO 0
  let d4 := (d3.setBlocks (List.range 64) 0).setBlocks (lathBlocks ss fun _ => true) 1
  ((needDomains ss).foldl Device.powerBoth d4).domainsChanged.devSync

/-- CHECKING ends: the load is refused, its skim joins the library, or WRITING begins. A FULL load waits for a POW commit (R455). -/
def loadCheckDone (t : Nat) (d : Device) : Device :=
  let d0 := d.at t
  let x := d0.loader
  if d0.loadSt ≠ 2 then d0
  else match d0.checkImage with
    | some (n, r, sec) => d0.loadRefused n r sec
    | none =>
      let ss := openSects x.image
      let d1 := { d0 with loader := { x with sects := ss, build := at_ x.image 0x28 8 } }
      if x.kind = 2 then
        let h := at_ (sectD ss 0x20 0) 0 8
        let body := sectD ss 0x21 0
        let d2 := { d1 with lib := Store.set lib0 d1.lib x.skim ⟨2, h, units body.length, x.owner, body⟩ }
        ((d2.setLoadSt 6 0 0 0).evtBit 0x60000 17).sklEnd 2 0 0
      else if x.kind = 1 then (d1.setBlocks (lathBlocks ss fun s => s.type == 0x14 && s.index == x.region) 1).setLoadSt 3 0 0 0
      else if d0.pend.any (fun c => c.page == 0xC000) then d0
      else (d1.withdraw ss).setLoadSt 3 0 0 0
/-- LOAD_CHECK_DONE (R281). -/
def execLoadCheckDone (t : Nat) (s : State) : Host.Outcome State Fault Refusal := onDev (loadCheckDone t) s

/-- The RWC fields of a tile page return to 0 (R268). -/
def Device.clearTileSet (d : Device) (k : Nat) : Device := tileWords.foldl (fun d x => d.setBoth (tilePage k + x.1) 0) d

/-- A tile record is written to tile k: its RWC fields and its op words, and the tile starts anew. -/
def Device.writeRecord (d : Device) (k : Nat) (x : TileRec) : Device :=
  let d1 := (tileWords.zip x.words).foldl (fun d y => d.setBoth (tilePage k + y.1.1) y.2) d
  let m := d1.tmemOf k
  let d2 := d1.setTmem k { m with prog := x.ops.zipIdx.foldl (fun s y => Store.set op0 s y.2 y.1) m.prog }
  d2.mend .prog k fun w => decide (w < x.ops.length)

/-- A stream of slice j leaves the set. -/
def Device.clearStream (d : Device) (j i : Nat) : Device :=
  ((d.setBoth (R.wst_SCFG j i) 0).setBoth (R.wst_SADDR j i) 0).setBoth (R.wst_SLEN j i) 0

/-- A stream record is written: the stream stands at its first line (R219). -/
def Device.writeStream (d : Device) (x : StreamRec) : Device :=
  let j := x.slice
  let i := x.stream
  let d1 := ((d.setBoth (R.wst_SCFG j i) x.cfg).setBoth (R.wst_SADDR j i) x.addr).setBoth (R.wst_SLEN j i) x.len
  let d2 := if fld x.cfg 0 1 = 1 then d1.setReg (R.wst_SPOS j i) x.addr else d1
  d2.setSlice j { d2.slice j with stopped := (d2.slice j).stopped.filter fun n => !(n == i) }

/-- A fill record is written. -/
def Device.writeFill (d : Device) (x : FillRec) : Device :=
  let s := d.slice x.slice
  (d.setSlice x.slice { s with bytes := Memory.wrBytes s.bytes (32 * x.line) x.bytes }).mend .wst x.slice fun w =>
    decide (4 * x.line ≤ w ∧ w < 4 * (x.line + x.count))

/-- A weight-store section is written. -/
def Device.writeWst (d : Device) (l : List Byte) : Device :=
  match wstRecs l with
  | none => d
  | some (st, fi) => fi.foldl Device.writeFill (st.foldl Device.writeStream d)

/-- Block RAM j of block b holds what frames 1,010 + 9j to 1,018 + 9j give it, 9 bits to a lane (R494). -/
def Lath.initRam (x : Lath) (b j : Nat) : Lath :=
  let u := 30 * b + j
  let v := fromLe ((List.range 9).flatMap fun i => Store.get frame0 x.frames (1280 * b + 1010 + 9 * j + i))
  { x with
    bram := (List.range 4096).foldl (fun m i => Store.set zeroN m (4096 * u + i) (v / 2 ^ (9 * i) % 512)) x.bram
    ports := Store.wipe (fun k => k / 2 == u) x.ports
    wptr := Store.del u x.wptr }

/-- A bitstream is written: frames with their CRCs, block RAMs, nets and port records (R495, R497). -/
def Device.writeLath (d : Device) (l : List Byte) : Device :=
  let x := lathOf l
  let bs := maskBlocks x.blocks
  let d1 := d.setLath { d.lath with
    frames := x.frames.foldl (fun m f => Store.set frame0 m (farKey f.1) f.2.2) d.lath.frames
    crcs := x.frames.foldl (fun m f => Store.set zeroN m (farKey f.1) f.2.1) d.lath.crcs
    nets := x.nets.foldl (fun m n => Store.set zeroN m (1024 * (n % 64) + n / 64 % 1024) (n / 65536 % 4 + 1))
      (Store.wipe (fun k => bs.contains (k / 1024)) d.lath.nets) }
  let d2 := d1.setLath (bs.foldl (fun y b => (List.range 30).foldl (fun y j => y.initRam b j) y) d1.lath)
  let d3 := { d2 with upsets := d2.upsets.filter fun u =>
    !((u.mem == .lathFrame && bs.contains u.unit) || (u.mem == .bram && bs.contains (u.unit / 30))) }
  let d4 := (List.range 64).foldl (fun d r => if bs.contains (portBlock r) then d.setN (R.lth_LPORT_CFG r) 0 else d) d3
  x.ports.foldl (fun d p => d.setN (R.lth_LPORT_CFG p.1) (p.2 % 32)) d4

/-- The OWNER table, LRA_CLK and the clock set of a Lath base (R497). -/
def Device.writeBaseLath (d : Device) (l : List Byte) : Device :=
  let x := lathOf l
  let d1 := (List.range 16).foldl (fun d w => d.setN (R.lth_OWNER w) (at_ l (0x20 + 4 * w) 4)) d
  let d2 := x.clks.foldl (fun d y => match clkOffset y with
    | some o => d.setSh o y.2.2
    | none => d) (d1.setN R.lth_LRA_CLK (x.lra % 8))
  let inClk := fun o : Nat => decide (0x200C000 ≤ o ∧ o < 0x200F000)
  let offs := ((d2.shadow.filter fun e => inClk e.1).map (·.1) ++ (d2.regs.filter fun e => inClk e.1).map (·.1)).filter fun o =>
    (regDefAt o).any fun r => r.fields.any fun f => f.acc == .rwc
  let d3 := (offs.foldl (fun d o => d.setReg o (d2.sh o)) d2).clkApplied d2.reg
  d3.writeLath l

/-- A region's section is written (R278, R306): tiles, region slots, streams, partition, and the default skim in slot 0. -/
def Device.writeRegion (d : Device) (ss : List Sect) (r : Nat) : Device :=
  let tiles := d.regionTiles r
  let rs := recs ss r
  let at_k := fun (x : TileRec) => d.relTile r x.rel
  let d1 := tiles.foldl (fun d k => (d.clearTile d.now.cyc k).clearTileSet k) d
  let d2 := rs.foldl (fun d x => d.writeRecord (at_k x) x) d1
  let d3 := d2.scr fun s => { s with
    outE := Store.wipe (regionKey tiles) s.outE
    delE := Store.wipe (regionKey tiles) s.delE }
  let d4 := d3.writeEntries (regionEntries (sectD ss 0x12 r) (rs.map at_k)) []
  let d5 := (List.range 64).foldl (fun d j => (List.range 8).foldl (fun d i =>
    if d.streamOwner j i = r ∧ d.reg (R.wst_SCFG j i) ≠ 0 then d.clearStream j i else d) d) d4
  let d6 := d5.writeWst (sectD ss 0x13 r)
  let d7 := match sect ss 0x14 r with
    | some l => d6.writeLath l
    | none => d6
  d7.writeShares r 0 (sectD ss 0x15 r)

/-- The whole of a Render is written (R277). -/
def Device.writeRender (d : Device) (ss : List Sect) : Device :=
  let bm := sectD ss 1 0
  let d1 := (List.range 4096).foldl (fun d k => d.clearTileSet k) d.remap
  let d2 := (List.range 64).foldl (fun d j => (List.range 8).foldl (fun d i => d.clearStream j i) d) d1
  let d3 := (List.range 64).foldl (fun d p => ((d.setReg (R.sch_REGION p) (mapEntry bm p)).setReg (R.sch_ING_CFG p) (mapIng bm p)).setReg
    (R.sch_EGR_CFG p) (mapEgr bm p)) d2
  let b := baseEntries (sectD ss 2 0)
  let d4 := (d3.writeEntries b.1 b.2).writeWst (sectD ss 4 0)
  let d5 := (List.range 64).foldl (fun d r => d.setN (R.lth_LPORT_CFG r) 0) d4
  let d6 := { d5 with lath := { d5.lath with nets := [] } }.writeBaseLath (sectD ss 3 0)
  (sectRegions ss).foldl (fun d r => d.writeRegion ss r) d6

/-- Every tape releases at once (R304). -/
def Device.releaseTapes (d : Device) : Device :=
  (List.range 64).foldl (fun d r => (d.setTape r { d.tape r with on := false }).setTapeState r 0) d

/-- The contents of the region are undefined after a failed or discarded load (R278): its op words, Hawk and tables are free values. -/
def Device.freeRegion (d : Device) (r : Nat) : Device :=
  (d.regionTiles r).foldl (fun d k =>
    let w := fun i => Config.freeWord (d.free + i)
    let half := fun i => BitVec.ofNat 8 ((w (i / 4)).toNat / 2 ^ (8 * (i % 4)))
    let m := d.tmemOf k
    let d1 := d.setTmem k { m with
      hawk := Memory.wrBytes [] 0 ((List.range 196608).map half)
      act := Memory.wrBytes [] 0 ((List.range 16384).map fun i => half (196608 + i))
      prog := (List.range 512).foldl (fun s i => Store.set op0 s i (w (53248 + 2 * i) ++ w (53249 + 2 * i))) [] }
    { d1 with free := d1.free + 54272 }) d

/-- A load that wrote anything is abandoned: without a Render (FULL), or with its region still in REWORK (REGION). -/
def Device.loadGone (d : Device) : Device :=
  if d.loader.kind = 1 then d.freeRegion d.loader.region
  else (((List.range 64).foldl (fun d p => d.zeroRegs [R.sch_REGION p, R.sch_ING_CFG p, R.sch_EGR_CFG p]) d).releaseTapes.setN
    R.skm_RENDER_STATE 0).setBlocks (List.range 64) 0 |>.devSync

/-- WRITING ends; `fail` names the tile (none: another item) and the section at which it failed. -/
def loadWriteDone (fail : Option (Option (Fin 4096) × Fin 512)) (t : Nat) (d : Device) : Device :=
  let d0 := d.at t
  let x := d0.loader
  if d0.loadSt ≠ 3 then d0
  else match fail with
    | some (k, sec) => d0.loadGone.loadFailed ((k.map (·.val)).getD 0xFFF) sec
    | none =>
      if x.kind = 1 then (d0.writeRegion x.sects x.region).setLoadSt 4 0 0 0
      else if (needDomains x.sects).all fun k => d0.domainOn k then (d0.writeRender x.sects).setLoadSt 4 0 0 0
      else d0
/-- LOAD_WRITE_DONE (R276). -/
def execLoadWriteDone (fail : Option (Option (Fin 4096) × Fin 512)) (t : Nat) (s : State) : Host.Outcome State Fault Refusal :=
  onArray (loadWriteDone fail t) s

/-- VERIFYING ends; `fail` names the item that did not read back. -/
def loadVerifyDone (fail : Option (Option (Fin 4096) × Fin 512)) (t : Nat) (d : Device) : Device :=
  let d0 := d.at t
  if d0.loadSt ≠ 4 then d0
  else match fail with
    | some (k, sec) => d0.loadGone.loadFailed ((k.map (·.val)).getD 0xFFF) sec
    | none => (d0.setLoadSt 5 0 0 0).evtBit 0x60000 16
/-- LOAD_VERIFY_DONE (R275). -/
def execLoadVerifyDone (fail : Option (Option (Fin 4096) × Fin 512)) (t : Nat) (s : State) : Host.Outcome State Fault Refusal :=
  onArray (loadVerifyDone fail t) s

/-! ### ACTIVATE and DISCARD -/

/-- INTRUSION_SUM of pipeline p under the nominal clock (R261): the statement of the live section for it, where there is one. -/
def Device.setIntrusion (d : Device) (p : Nat) : Device :=
  match sect d.golden 0x10 p with
  | none => d
  | some l => d.setN (R.skm_INTRUSION_SUM p) ((((hdrOf l).stmts.find? fun x => x.1 == d.mhz).map (·.2)).getD wordMax)

/-- Region r's section is live (R284, R306): LOADED, slot 0 the default skim, frame number 0, record invalid. -/
def Device.regionLive (d : Device) (r : Nat) : Device :=
  let h := hdrOf (sectD d.golden 0x10 r)
  let d1 := ((((d.setN (R.sch_LATENCY r) h.latency).setN (R.sch_MIN_INTERVAL r) h.interval).setN (R.skm_HASH_LO r) (h.hash % 2 ^ 32)).setN
    (R.skm_HASH_HI r) (h.hash / 2 ^ 32)).setN (R.skm_FILL_RATE r) h.rate
  let bearing := !((recs d.golden r).filter fun x => x.slots ≠ 0).isEmpty
  let d2 := ((d1.setN (R.skm_MIN_SLOTS r) (if bearing then h.minSlots else 0)).setN (R.obs_STAGES r) h.stages).setIntrusion r
  let d3 := (List.range 16).foldl (fun d s => if d.rn (slotReg r s) = 0 then d else d.setSlot r s 0 0) d2
  let d4 := if bearing then d3.setSlot r 0 0 2 else d3
  let d5 := (d4.setPipe r (d4.pipe r).emptied).clearFault r
  ((d5.noRecord r).setPipeState r 1).setBlocks (lathBlocks d.golden fun s => s.type == 0x14 && s.index == r) 2

/-- The golden copy with region r's sections those of a REGION load. -/
def goldenWith (old new : List Sect) (r : Nat) : List Sect :=
  let mine := fun (s : Sect) => regional s.type && s.index == r
  old.filter (fun s => !mine s) ++ new.filter mine

/-- A REGION load of r replaced its part of the golden copy, or a FULL load the whole (R590). -/
def Device.goldenMended (d : Device) (r : Option Nat) : Device :=
  match r with
  | some r => d.setF (R.snd_GOLDEN_BAD_LO + 4 * (r / 32)) (r % 32) 1 0
  | none => ((d.setN R.snd_GOLDEN_BAD_LO 0).setN R.snd_GOLDEN_BAD_HI 0).setN R.snd_BASE_GOLDEN_BAD 0

/-- A staged load becomes live. -/
def Device.activate (d : Device) : Device :=
  let x := d.loader
  let d1 := if x.kind = 1 then
      ({ d with golden := goldenWith d.golden x.sects x.region }.goldenMended (some x.region)).regionLive x.region |>.count
        (R.dad_REWORK_COUNT (x.region / 16) (x.region % 16)) 1
    else
      let d2 := ({ d with golden := x.sects }.goldenMended none)
      let d3 := (sectRegions x.sects).foldl Device.regionLive (d2.setBlocks (lathBlocks x.sects fun s => s.type == 3) 2)
      ((d3.releaseTapes.setN R.skm_RENDER_STATE 1).setN R.scm_REMAP_STATE 1).setN64 R.skm_BUILD_ID_LO x.build
  ((d1.setLoadSt 6 0 0 0).evtBit 0x60000 17).devSync

/-- A write of LOAD_CMD that sets bit `b`. -/
def loadCmd (q : Req) (b : Nat) (act : Device → Device) (d : Device) : Device :=
  if fld q.data b 1 = 0 then d.at q.t
  else d.writeAt q R.skm_LOAD_CMD fun d => if d.loadSt = 5 then act d else d.err 0x60000 0x0103 0 0

/-- LOAD_ACTIVATE (R277, R278). -/
def execLoadActivate (q : Req) (s : State) : Host.Outcome State Fault Refusal := onDev (loadCmd q 0 Device.activate) s

/-- A staged load is abandoned (R277, R278): the loader is IDLE. A write with ACTIVATE set too activates (log entry 136). -/
def loadDiscard (q : Req) (d : Device) : Device :=
  if fld q.data 0 1 = 1 then d.at q.t else loadCmd q 1 (fun d => d.loadGone.setLoadSt 0 0 0 0) d
/-- LOAD_DISCARD (R277). -/
def execLoadDiscard (q : Req) (s : State) : Host.Outcome State Fault Refusal := onDev (loadDiscard q) s

end Sys2Proof.Machine
end

