-- ==== Sys2Proof/Machine/Pipes.lean ====
section
/-! DEFINITION. Machine/Pipes.lean: the commands of a pipeline and the events at its adapters (chapter 8, R220 to R241;
R292, R293, R299). -/
namespace Sys2Proof.Machine

/-! ### Commands (R230) -/

/-- CMD_STATE (R241): the command and the state. -/
def Device.cmdState (d : Device) (p cmd : Nat) : Device := d.err (schPage p) 0x0180 (wd (cmd + 256 * d.pipeState p)) 0

/-- PIPE_CMD written with command `cmd`: `act` where its condition of Table 8.3 holds and no reset is in progress, else
CMD_STATE (R230, R240). -/
def pipeCmd (p : Fin 64) (q : Req) (cmd : Nat) (ok : Device → Bool) (act : Device → Device) (d : Device) : Device :=
  if fld q.data 0 3 ≠ cmd then d.at q.t
  else d.writeAt q (R.sch_PIPE_CMD p) fun d => if ok d && !d.pipeResetting p then act d else d.cmdState p cmd

/-- The condition of START (Table 8.3). -/
def Device.startOk (d : Device) (p : Nat) : Bool :=
  d.pipeState p == 1 && !d.pipeFault p && d.ingKind p != 0 && d.egrKind p != 0 && d.rf (R.dad_TAPE_STATE (p / 16) (p % 16)) 0 2 == 0

/-- START: LOADED to RUNNING; the skim record becomes invalid (R225). -/
def pipeStart (p : Fin 64) (q : Req) (d : Device) : Device :=
  pipeCmd p q 1 (fun d => d.startOk p) (fun d => (d.noRecord p).setPipeState p 2) d
/-- PIPE_START (R230). -/
def execPipeStart (p : Fin 64) (q : Req) (s : State) : Host.Outcome State Fault Refusal := onDev (pipeStart p q) s

/-- HOLD: RUNNING to HOLDING. -/
def pipeHold (p : Fin 64) (q : Req) (d : Device) : Device :=
  pipeCmd p q 2 (fun d => d.pipeState p == 2) (fun d => d.setPipeState p 3) d
/-- PIPE_HOLD (R230). -/
def execPipeHold (p : Fin 64) (q : Req) (s : State) : Host.Outcome State Fault Refusal := onDev (pipeHold p q) s

/-- RESUME: HOLDING to RUNNING with FAULT clear; the waiting entries are delivered again (R231). -/
def pipeResume (p : Fin 64) (q : Req) (d : Device) : Device :=
  pipeCmd p q 3 (fun d => d.pipeState p == 3 && !d.pipeFault p) (fun d => d.resumePipe p) d
/-- PIPE_RESUME (R230, R231). -/
def execPipeResume (p : Fin 64) (q : Req) (s : State) : Host.Outcome State Fault Refusal := onDev (pipeResume p q) s

/-- DRAIN: RUNNING or HOLDING to DRAINING; unadmitted jobs complete CANCELLED (R232). -/
def pipeDrain (p : Fin 64) (q : Req) (d : Device) : Device :=
  pipeCmd p q 4 (fun d => d.pipeState p == 2 || d.pipeState p == 3) (fun d =>
    let d1 := d.setPipeState p 4
    (d1.setPipe p { d1.pipe p with drainTick := some d1.now.tick, drainMissed := false }).cancelUnadmitted p) d
/-- PIPE_DRAIN (R232). -/
def execPipeDrain (p : Fin 64) (q : Req) (s : State) : Host.Outcome State Fault Refusal := onDev (pipeDrain p q) s

/-- RESET: the pipeline reset begins in any state but EMPTY and REWORK (R240). -/
def pipeReset (p : Fin 64) (q : Req) (d : Device) : Device :=
  pipeCmd p q 5 (fun d => d.pipeState p != 0 && d.pipeState p != 6) (fun d => d.resetPipe p) d
/-- PIPE_RESET (R240). -/
def execPipeReset (p : Fin 64) (q : Req) (s : State) : Host.Outcome State Fault Refusal := onDev (pipeReset p q) s

/-! ### Ends of a reset and of a drain -/

/-- PIPE_RESET_DONE: what reached the region while its circuits emptied is discarded, and the pipeline reaches LOADED. -/
def pipeResetDone (p : Fin 64) (t cyc : Nat) (d : Device) : Device :=
  let d0 := (d.at t).atCyc cyc
  if d0.pipeResetting p then
    let d1 := (d0.clearArrivals (d0.regionTiles p)).setF (R.sch_PIPE_STATE p) 9 1 0
    (d1.setPipe p { d1.pipe p with resetCyc := none }).setPipeState p 1
  else d0
/-- PIPE_RESET_DONE (R240). -/
def execPipeResetDone (p : Fin 64) (t cyc : Nat) (s : State) : Host.Outcome State Fault Refusal := onArray (pipeResetDone p t cyc) s

/-- Whether tile k holds no flit and has no op in flight. -/
def Device.tileEmpty (d : Device) (k : Nat) : Bool :=
  (List.range 6).all (fun q => ((d.tile k).queue q).isEmpty) && (d.tile k).results.isEmpty

/-- Whether HEAD of its queue, the first index whose job is not completed (R375), lies past a job, and no head mirror of the queue waits
for it to be published (R233; log entry 156). -/
def Device.headPast (d : Device) (j : Job) : Bool :=
  let h := d.head j.q
  !j.orphan && j.isDone && d.rf (R.qst_QCTL j.q) 2 1 == 0 &&
    d.jobs.all fun i => !(i.q == j.q && !i.orphan && decide (u32sub i.index h < u32sub j.index h)) || i.isDone

/-- The drain condition (R233). -/
def Device.drainMet (d : Device) (p : Nat) : Bool :=
  let tiles := d.regionTiles p
  let x := d.pipe p
  !d.jobs.any (fun j => j.piped && j.pipe == p && !d.headPast j) && tiles.all (fun k => d.tileEmpty k) &&
    !d.scrim.wires.any (fun w => regionKey tiles w.key) &&
    !d.scrim.arr.any (fun e => regionKey tiles e.1 && e.2.flit.isSome) &&
    x.ingOut.isEmpty && x.srcOpen.isNone && x.egrIn.isEmpty && x.openF.isNone

/-- DRAINED: a draining pipeline whose condition holds becomes DRAINED, with both events at once. -/
def drained (p : Fin 64) (t cyc : Nat) (d : Device) : Device :=
  let d0 := (d.at t).atCyc cyc
  if d0.pipeState p = 4 ∧ d0.drainMet p ∧ !d0.pipeResetting p then
    (d0.setPipe p { d0.pipe p with drainTick := none }).setPipeStateEv p 5 (2 ^ 25)
  else d0
/-- DRAINED (R233). -/
def execDrained (p : Fin 64) (t cyc : Nat) (s : State) : Host.Outcome State Fault Refusal := onArray (drained p t cyc) s

/-- DRAIN_TIMEOUT: a drain older than DRAIN_TIMEOUT µs sets its event once and goes on (R234). -/
def drainTimeout (p : Fin 64) (t : Nat) (d : Device) : Device :=
  let d0 := d.at t
  let n := d0.rf (R.sch_DRAIN_TIMEOUT p) 0 24
  match (d0.pipe p).drainTick with
  | some s =>
    if d0.pipeState p = 4 ∧ n ≠ 0 ∧ !(d0.pipe p).drainMissed ∧ s + 1000 * n ≤ d0.now.tick then
      (d0.setPipe p { d0.pipe p with drainMissed := true }).evtBit (schPage p) 27
    else d0
  | none => d0
/-- DRAIN_TIMEOUT (R234). -/
def execDrainTimeout (p : Fin 64) (t : Nat) (s : State) : Host.Outcome State Fault Refusal := onDev (drainTimeout p t) s

/-! ### Ingress (R223 to R225, R292, R293) -/

/-- Source flits before a FIRST are discarded and counted (R224). -/
def Device.dropStray (d : Device) (p : Nat) : Device :=
  let l := d.sourceFlits p
  let n := (l.takeWhile fun f => !f.first).length
  if n = 0 then d else (d.setSource p (l.drop n)).count (R.sch_ING_TAG_STRIPPED p) n

/-- The flits that a job's frame puts at the adapter and the cycle at which its source had the frame's FIRST (R223, R224): a
HOD frame is whole; a frame of a Lath port or a peer channel leaves its source flit by flit, from now on. -/
def Device.frameOf (d : Device) (p : Nat) (j : Job) : Option (List Flit × Nat × Device) :=
  if d.ingKind p = 1 then
    let n := (j.inLen + 31) / 32
    some (frameFlits 0 true (if n = 0 then [[]] else chunk 32 n j.input), 0, d)
  else if (d.sourceFlits p).isEmpty then none
  else
    let k := d.sourceKey p
    let l := Store.get noCycles d.edge.srcAt k
    let d1 := { d with edge := { d.edge with srcAt := Store.set noCycles d.edge.srcAt k (l.drop 1) } }
    some ([], l.headD 0, d1.setPipe p { d1.pipe p with srcOpen := some 0 })

/-- A frame's FIRST flit is sent (R225, R239, R258): its number, the spacing, and the two waits of the ledger; the wait for
the spacing begins 16 cycles after admission, by when R248 has a frame enter that nothing holds (R260; log entry 22). -/
def Device.frameEnters (d : Device) (p : Nat) (j : Job) (fl : List Flit) (src : Nat) : Device :=
  let x := d.pipe p
  let open_ : Nat := (x.lastFirst.map (· + d.rf (R.sch_MIN_INTERVAL p) 0 16)).getD 0
  let starved := src - max j.admCyc (x.lastFirst.getD 0)
  let d1 := d.modJob j.id fun y =>
    { y with
      entered := true
      frame := some x.frameNum
      debits := addDebit (addDebit y.debits 7 (open_ - (j.admCyc + 16))) 6 starved }
  let d2 := d1.setPipe p { x with
    ingQ := x.ingQ.drop 1
    egrQ := x.egrQ ++ [j.id]
    lastFirst := some d.now.cyc
    frameNum := (x.frameNum + 1) % 2 ^ 32
    ingOut := x.ingOut ++ fl }
  d2.count64 (R.sch_ING_FRAMES_LO p) 1

/-- Whether the ingress adapter of pipeline p may begin a frame or a token. -/
def Device.ingressOpen (d : Device) (p : Nat) : Bool := !d.pipeResetting p && !d.pausedRegion p && (d.pipe p).srcOpen.isNone

/-- INGRESS_FRAME: the frame of the oldest admitted job enters, its token sent before and the spacing of R225 met. -/
def ingressFrame (p : Fin 64) (cyc : Nat) (d : Device) : Device :=
  let d0 := if (d.pipe p).srcOpen.isNone && d.ingKind p != 1 then (d.atCyc cyc).dropStray p else d.atCyc cyc
  let x := d0.pipe p
  match x.ingQ.head?.bind d0.job with
  | none => d0
  | some j =>
    let spaced : Bool := match x.lastFirst with
      | some c => decide (c + d0.rf (R.sch_MIN_INTERVAL p) 0 16 ≤ cyc)
      | none => true
    if j.isFrame && d0.ingressOpen p && !d0.needsToken p j.skim && spaced then
      match d0.frameOf p j with
      | none => d0
      | some (fl, src, d1) => if cyc < src then d0 else d1.frameEnters p j fl src
    else d0
/-- INGRESS_FRAME (R223, R225). -/
def execIngressFrame (p : Fin 64) (cyc : Nat) (s : State) : Host.Outcome State Fault Refusal := onArray (ingressFrame p cyc) s

/-- SWAP_TOKEN: the token that the oldest admitted job needs is sent, or R299 completes the job SKIM_MISSING. -/
def swapToken (p : Fin 64) (cyc : Nat) (d : Device) : Device :=
  let d0 := d.atCyc cyc
  let x := d0.pipe p
  match x.ingQ.head?.bind d0.job with
  | none => d0
  | some j =>
    if !d0.ingressOpen p || !(j.isSwap || d0.needsToken p j.skim) then d0
    else if d0.tokenBarred p j.skim then (d0.setPipe p { x with ingQ := x.ingQ.drop 1 }).skimMissing j.id p
    else if j.isSwap then
      (((d0.setPipe p { x with ingQ := x.ingQ.drop 1 }).sendToken p j.skim (some j.id))).modJob j.id fun y => { y with entered := true }
    else d0.sendToken p j.skim none
/-- SWAP_TOKEN (R292, R293, R299). -/
def execSwapToken (p : Fin 64) (cyc : Nat) (s : State) : Host.Outcome State Fault Refusal := onArray (swapToken p cyc) s

/-! ### Egress (R226 to R228, R249) -/

/-- EGR_FRAME: the flit that broke the frame's form, and the pipeline fault (R228, R241). -/
def Device.egrFrame (d : Device) (p : Nat) (f : Flit) : Device :=
  (d.err (schPage p) 0x0181 (wd (f.seq.toNat + 65536 * f.tag.toNat)) 0).pipeFaultSet p 3 0

/-- The LAST flit of a result frame: the payload is cut to what the job keeps (R226) and the frame completes. -/
def Device.resultDone (d : Device) (p : Nat) (bytes : List Byte) : Device :=
  match (d.pipe p).egrQ with
  | [] => d
  | id :: r =>
    let d1 := (d.setPipe p { d.pipe p with egrQ := r, openF := none }).count64 (R.sch_EGR_FRAMES_LO p) 1
    match d1.job id with
    | none => d1
    | some j =>
      let keep := d1.keepBytes j
      let cut := if d1.egrKind p = 4 ∨ j.outLen = 0 then 0 else bytes.length - keep
      let d2 := (if cut = 0 then d1 else d1.count (R.sch_EGR_TRUNC_COUNT p) cut).modJob id fun y =>
        { y with
          payload := bytes.take keep
          trunc := cut
          flags := if cut = 0 then y.flags else y.flags ||| 16 }
      d2.frameDone id

/-- Flits of the frame at egress are taken up to its LAST, to a swap token, or to one that breaks its form (R226 to R228). -/
def Device.takeResult (d : Device) (p : Nat) : List Flit → Device
  | [] => d.setPipe p { d.pipe p with egrIn := [] }
  | f :: r =>
    let x := d.pipe p
    if f.swap && !f.first && !f.last && !f.fold then d.setPipe p { x with egrIn := f :: r }
    else
      let at0 := x.openF.isNone
      let bad := f.fold || f.swap || f.first != at0 || (at0 && x.egrQ.isEmpty) ||
        f.seq != BitVec.ofNat 12 ((x.openF.map (·.seq)).getD 0)
      if bad then (d.setPipe p { x with egrIn := r }).egrFrame p f
      else
        let bytes := ((x.openF.map (·.bytes)).getD []) ++ f.bytes
        if f.last then (d.setPipe p { x with egrIn := r }).resultDone p bytes
        else Device.takeResult (d.setPipe p { x with openF := some ⟨f.seq.toNat + 1, bytes⟩ }) p r

/-- RESULT_FRAME_COMPLETE: the next result frame at egress, to its LAST flit. -/
def resultFrameComplete (p : Fin 64) (t cyc : Nat) (d : Device) : Device :=
  let d0 := (d.at t).atCyc cyc
  if d0.pipeFault p || d0.pipeResetting p then d0 else d0.takeResult p (d0.pipe p).egrIn
/-- RESULT_FRAME_COMPLETE (R226, R249). -/
def execResultFrameComplete (p : Fin 64) (t cyc : Nat) (s : State) : Host.Outcome State Fault Refusal :=
  onArray (resultFrameComplete p t cyc) s

/-- TOKEN_ORDER: the expected and the seen skim ID, and the pipeline fault (R227, R241). With no token outstanding the
expected ID is open (log entry 4). -/
def Device.tokenOrder (d : Device) (p seen : Nat) (expected : Option Nat) : Device :=
  match expected with
  | some e => (d.err (schPage p) 0x0182 (wd e) (wd seen)).pipeFaultSet p 4 0
  | none =>
    let (w, d1) := d.fresh
    (d1.err (schPage p) 0x0182 (wd (w.toNat % 2 ^ 14)) (wd seen)).pipeFaultSet p 4 0

/-- TOKEN_CONSUMED: the swap token at the head of egress is consumed; its SWAP job completes (R227, R293). -/
def tokenConsumed (p : Fin 64) (t cyc : Nat) (d : Device) : Device :=
  let d0 := (d.at t).atCyc cyc
  let x := d0.pipe p
  match x.egrIn with
  | [] => d0
  | f :: r =>
    if !(f.swap && !f.first && !f.last && !f.fold) then d0
    else
      let seen := f.data.toNat % 2 ^ 14
      match x.tokens with
      | [] => (d0.setPipe p { x with egrIn := r }).tokenOrder p seen none
      | k :: ks =>
        if k.skim ≠ seen then (d0.setPipe p { x with egrIn := r }).tokenOrder p seen (some k.skim)
        else
          let d1 := d0.setPipe p { x with egrIn := r, tokens := ks }
          match k.swap.bind d1.job with
          | none => d1
          | some j =>
            if j.orphan || j.suppressed then d1.finish j.id (if j.cancelled then 0x02 else 0x3F) 0 false
            else d1.finishNow j.id (if j.cancelled then 0x02 else 0)
/-- TOKEN_CONSUMED (R227, R293). -/
def execTokenConsumed (p : Fin 64) (t cyc : Nat) (s : State) : Host.Outcome State Fault Refusal := onArray (tokenConsumed p t cyc) s

end Sys2Proof.Machine
end

