-- ==== Sys2Proof/Machine/Observe.lean ====
section
/-! DEFINITION. Machine/Observe.lean: queue-depth sampling, the trace ring and the completion counts (chapter 23, R609 to R619). -/
namespace Sys2Proof.Machine

/-! ### Sampling (R609, R610) -/

/-- The input ports of tile k that some delivery entry names, ascending. -/
def Device.sampledPorts (d : Device) (k : Nat) : List Nat :=
  (List.range 4).filter fun q => (List.range 64).any fun e => d.delE (64 * k + e) % 8 == q + 1

/-- The bucket of an occupancy. -/
def bucketOf (occ : Nat) : Nat := if occ = 0 then 0 else min 15 ((occ + 3) / 4)

/-- The keys of the histogram readings that pipeline p takes in stage cycle c, one for each sampled port of its tiles. -/
def Device.readings (d : Device) (p c : Nat) : List Nat :=
  (recs d.golden p).flatMap fun x =>
    let k := d.relTile p x.rel
    if d.nCtx k = 0 then []
    else (d.sampledPorts k).map fun q => 4096 * p + 16 * x.stage + bucketOf ((d.tile k).occAt q c)

/-- K of pipeline p. -/
def Device.sampleK (d : Device) (p : Nat) : Nat := d.rf (R.obs_SAMPLE_CFG p) 0 5
/-- PERIOD of pipeline p. -/
def Device.samplePeriod (d : Device) (p : Nat) : Nat := d.rf (R.obs_SAMPLE_CFG p) 16 16
/-- The sampling of pipeline p. -/
def Device.samp (d : Device) (p : Nat) : Samp := Store.get samp0 d.trace.samp p

/-- A sample point of pipeline p. -/
def queueSample (p : Fin 64) (t cyc : Nat) (d : Device) : Device :=
  let d0 := (d.at t).atCyc cyc
  let x := d0.samp p
  let k := d0.sampleK p
  if runState (d0.pipeState p) ∧ !d0.pipeResetting p ∧ k ≠ 0 ∧ cyc % 2 ^ k = 0 ∧ x.last ≤ cyc ∧ x.points < d0.samplePeriod p then
    { d0 with trace := { d0.trace with
      hist := (d0.readings p cyc).foldl (fun m key => bump m key 1 wordMax) d0.trace.hist
      samp := Store.set samp0 d0.trace.samp p { x with points := x.points + 1, tick := d0.now.tick, last := cyc + 1 } } }
  else d0
/-- QUEUE_SAMPLE (R609). -/
def execQueueSample (p : Fin 64) (t cyc : Nat) (s : State) : Host.Outcome State Fault Refusal := onArray (queueSample p t cyc) s

/-- PERIOD sample points have been taken: the interval's records are created and the next begins. -/
def sampleIntervalEnd (p : Fin 64) (t : Nat) (d : Device) : Device :=
  let d0 := d.at t
  if 0 < d0.samplePeriod p ∧ d0.samplePeriod p ≤ (d0.samp p).points then d0.closeInterval p false else d0
/-- SAMPLE_INTERVAL_END (R610). -/
def execSampleIntervalEnd (p : Fin 64) (t : Nat) (s : State) : Host.Outcome State Fault Refusal := onArray (sampleIntervalEnd p t) s

/-! ### The trace ring (R614, R615) -/

/-- The oldest record held goes to the ring. -/
def traceRecordWrite (t : Nat) (d : Device) : Device :=
  let d0 := d.at t
  let c := d0.reg R.obs_TRACE_CTRL
  let n := 2 ^ fld c 8 5
  let wr := d0.rn R.obs_TRACE_WR
  match d0.trace.held with
  | [] => d0
  | r :: rest =>
    if fld c 0 1 = 1 ∧ u32sub wr (d0.rn R.obs_TRACE_RD) < n then
      let d1 := (d0.hostWrite 0 (d0.rn64 R.obs_TRACE_BASE_LO + wr % n * 64) r).setN R.obs_TRACE_WR ((wr + 1) % 2 ^ 32)
      { d1 with trace := { d1.trace with held := rest, mirrorDue := true } }
    else d0
/-- TRACE_RECORD_WRITE (R614). -/
def execTraceRecordWrite (t : Nat) (s : State) : Host.Outcome State Fault Refusal := onDev (traceRecordWrite t) s

/-- TRACE_WR is written at TRACE_MIRROR. -/
def traceMirrorWrite (t : Nat) (d : Device) : Device :=
  let d0 := d.at t
  if d0.trace.mirrorDue then
    let d1 := (d0.hostWrite 0 (d0.rn64 R.obs_TRACE_MIRROR_LO) (leBytes 4 (d0.rn R.obs_TRACE_WR))).evtBit 0xF2000 17
    { d1 with trace := { d1.trace with mirrorDue := false } }
  else d0
/-- TRACE_MIRROR_WRITE (R614). -/
def execTraceMirrorWrite (t : Nat) (s : State) : Host.Outcome State Fault Refusal := onDev (traceMirrorWrite t) s

/-- A write of TRACE_RD: accepted up to TRACE_WR. -/
def traceRdWrite (q : Req) (d : Device) : Device :=
  d.writeAt q R.obs_TRACE_RD fun d =>
    let rd := d.rn R.obs_TRACE_RD
    if u32sub q.data.toNat rd ≤ u32sub (d.rn R.obs_TRACE_WR) rd then d.setReg R.obs_TRACE_RD q.data
    else d.errValue 0x0003 q.port R.obs_TRACE_RD q.data
/-- TRACE_RD_WRITE (R615). -/
def execTraceRdWrite (q : Req) (s : State) : Host.Outcome State Fault Refusal := onDev (traceRdWrite q) s

/-! ### Completion counts (R618, R619) -/

/-- The number under which a requester's own selectors and captured values are held. -/
def reqKey (p : Port) : Nat := portCode p + 8 * portHart p

/-- Copy `n` counts from key `a` of one store to key `b` of another. -/
def capture (from_ into : Store Nat) (a b n : Nat) : Store Nat :=
  (List.range n).foldl (fun m i => Store.set zeroN m (b + i) (Store.get zeroN from_ (a + i))) into

/-- A write of QSEL captures the four counts of that queue for its requester. -/
def qselWrite (q : Req) (d : Device) : Device :=
  d.writeAt q R.obs_QSEL fun d =>
    let g := q.data.toNat
    let k := reqKey q.port
    if 65535 < g then d.errValue 0x0003 q.port R.obs_QSEL q.data
    else { d with trace := { d.trace with
      qsel := Store.set zeroN d.trace.qsel k g
      qcap := capture d.trace.qcnt d.trace.qcap (4 * g) (4 * k) 4 } }
/-- QSEL_WRITE (R619). -/
def execQselWrite (q : Req) (s : State) : Host.Outcome State Fault Refusal := onDev (qselWrite q) s

/-- A write of TSEL captures that tenant's counts for its requester. -/
def tselWrite (q : Req) (d : Device) : Device :=
  d.writeAt q R.obs_TSEL fun d =>
    let n := q.data.toNat
    let k := reqKey q.port
    if 1023 < n then d.errValue 0x0003 q.port R.obs_TSEL q.data
    else { d with trace := { d.trace with
      tsel := Store.set zeroN d.trace.tsel k n
      tcap := capture d.trace.tcnt d.trace.tcap (32 * n) (32 * k) 19 } }
/-- TSEL_WRITE (R619). -/
def execTselWrite (q : Req) (s : State) : Host.Outcome State Fault Refusal := onDev (tselWrite q) s

/-- TCTL.CLEAR clears the counts of the tenant that the requester's TSEL selects; captured values stay (log entry 142). -/
def tctlClear (q : Req) (d : Device) : Device :=
  d.writeAt q R.obs_TCTL fun d =>
    if fld q.data 0 1 = 0 then d
    else
      let n := Store.get zeroN d.trace.tsel (reqKey q.port)
      { d with trace := { d.trace with tcnt := Store.wipe (fun k => k / 32 == n) d.trace.tcnt } }
/-- TCTL_CLEAR (R618). -/
def execTctlClear (q : Req) (s : State) : Host.Outcome State Fault Refusal := onDev (tctlClear q) s

end Sys2Proof.Machine
end

