-- ==== Sys2Proof/Machine/Plumb.lean ====
section
/-! DEFINITION. Machine/Plumb.lean: the commands of the Plumb unit (chapter 3). -/
namespace Sys2Proof.Machine

/-! ### Reference inputs -/

/-- The state of reference input i. -/
def Device.refIn (d : Device) (i : Nat) : RefIn := Store.get refIn0 d.plb.ins i
/-- Set it. -/
def Device.setIn (d : Device) (i : Nat) (x : RefIn) : Device :=
  { d with plb := { d.plb with ins := Store.set refIn0 d.plb.ins i x } }
/-- The level of input i as edge detection sees it (R69 INVERT). -/
def Device.effLevel (d : Device) (i : Nat) : Bool := (d.refIn i).level != (d.rf (R.plb_REF_CFG i) 5 1 == 1)
/-- REF_EDGES_i counts one edge; it wraps. -/
def Device.countEdge (d : Device) (i : Nat) : Device := d.setReg (R.plb_REF_EDGES i) (d.reg (R.plb_REF_EDGES i) + 1)
/-- Whether channel c counts input i (R72). -/
def Device.countsInput (d : Device) (c i : Nat) : Bool := d.chEnabled c && d.srcKind c == 1 && d.srcInput c == i
/-- An accepted edge of input i owes a count to every channel that counts it (R69). -/
def Device.owe (d : Device) (i : Nat) (dir : Int) (stamp : Nat) (zero : Bool) : Device :=
  { d with plb := { d.plb with
      owed := d.plb.owed ++ ((List.range 8).filter fun c => d.countsInput c i).map fun c => ⟨c, dir, stamp, zero⟩ } }
/-- The index of R76: every channel that names input i copies its interpolated P. -/
def Device.indexEdge (d : Device) (i stamp : Nat) : Device :=
  ((List.range 8).filter fun c => d.rf (R.plb_INDEX_CFG c) 4 1 = 1 ∧ d.rf (R.plb_INDEX_CFG c) 0 3 = i).foldl (fun d c =>
    let x := d.ch c
    let u := if x.st = .acquiring ∨ x.st = .tracking then
        (if d.freeRunning c || !d.chEnabled c then d.chU c else interp (d.chNum c) (d.chDen c) x (max stamp x.tEdge))
      else d.chU c
    ((d.setN64 (R.plb_INDEX_POS_LO c) (d.toP c u)).count (R.plb_INDEX_COUNT c) 1).evtBit (chPage c) 20) d

/-- The direction of a legal quadrature transition on input i of the pair at `a` (R70): A leading B counts +1. -/
def Device.quadDir (d : Device) (i a : Nat) : Int :=
  let up := if i = a then d.effLevel a != d.effLevel (a + 1) else d.effLevel a == d.effLevel (a + 1)
  let rev := d.rf (R.plb_REF_CFG a) 6 1 == 1
  if up != rev then 1 else -1

/-- One accepted level change of input i, stamped (R68 to R71). -/
def Device.levelChange (d : Device) (i : Nat) (l : Bool) (stamp : Nat) (illegal : Bool) : Device :=
  let x := d.refIn i
  let d1 := d.setIn i { x with level := l, lastEdge := if d.refKind i = 0 then x.lastEdge else some stamp }
  let rising := d1.effLevel i
  match d1.refKind i with
  | 1 => if illegal then d1.countEdge i else (d1.countEdge i).owe i (d1.quadDir i i) stamp false
  | 2 => if illegal then d1.countEdge i else (d1.countEdge i).owe (i - 1) (d1.quadDir i (i - 1)) stamp false
  | 3 => if rising then (d1.countEdge i).indexEdge i stamp else d1
  | 4 => if rising then (d1.countEdge i).owe i 1 stamp false else d1
  | 5 =>
    if rising && decide (x.holdEnd ≤ stamp) then
      ((d1.setIn i { d1.refIn i with holdEnd := stamp + 200000 }).countEdge i).owe i 1 stamp true
    else d1
  | 6 =>
    if rising then
      let d2 := ((d1.setIn i { d1.refIn i with lastPps := some stamp }).countEdge i).owe i 1 stamp false
      match x.lastPps with
      | some p => if 999000000 ≤ stamp - p ∧ stamp - p ≤ 1001000000 then d2 else d2.evtBit 0x10000 16
      | none => d2
    else d1
  | _ => d1

/-- REF_EDGE: level changes accepted in one tick (R69, R70). -/
def refEdge (changes : List (Fin 8 × Bool)) (stamps : List Nat) (t : Nat) (d : Device) : Device :=
  let d0 := d.at t
  let real := (changes.zip stamps).filter fun c => decide ((d0.refIn c.1.1).level ≠ c.1.2)
  let both := fun (i : Nat) => real.any (fun c => c.1.1.val = i) && real.any (fun c => c.1.1.val = i + 1) &&
    d0.refKind i == 1 && d0.refKind (i + 1) == 2
  let bad := fun (i : Nat) => both i || (i % 2 == 1 && both (i - 1))
  let d1 := real.foldl (fun d c => d.levelChange c.1.1 c.1.2 (min c.2 t) (bad c.1.1)) d0
  ([0, 2, 4, 6].filter both).foldl (fun d a =>
    ((List.range 8).filter fun c => d.countsInput c a).foldl (fun d c =>
      (d.count (R.plb_QUAD_ERR_COUNT c) 1).evtBit (chPage c) 18) d) d1

/-- REF_EDGE (R69). -/
def execRefEdge (changes : List (Fin 8 × Bool)) (stamps : List Nat) (t : Nat) (s : State) :
    Host.Outcome State Fault Refusal := onDev (refEdge changes stamps t) s

/-! ### Counts -/

/-- Take the first count owed to channel c of the given sort. -/
def takeOwed (c : Nat) (zero : Bool) : List Owed → Option (Owed × List Owed)
  | [] => none
  | o :: r => if o.ch = c ∧ o.zero = zero then some (o, r) else (takeOwed c zero r).map fun x => (x.1, o :: x.2)

/-- Set the owed counts. -/
def Device.setOwed (d : Device) (l : List Owed) : Device := { d with plb := { d.plb with owed := l } }

/-- CHANNEL_COUNT: an owed count is applied to a REF channel, or a PTP or INTERNAL channel's counts are brought up to the
tick (R73, R78). -/
def channelCount (c : Fin 8) (t : Nat) (d : Device) : Device :=
  let d0 := d.at t
  if d0.freeRunning c then d0.withResume c (·.syncCh c)
  else match takeOwed c false d0.plb.owed with
    | some (o, r) => (d0.setOwed r).withResume c (·.onCounts c o.dir o.stamp)
    | none => d0

/-- CHANNEL_COUNT (R73). -/
def execChannelCount (c : Fin 8) (t : Nat) (s : State) : Host.Outcome State Fault Refusal := onDev (channelCount c t) s

/-- MAINS_ZERO_CROSS: a counted zero-cross reaches its channel's subdivider (R80). -/
def mainsZeroCross (c : Fin 8) (t : Nat) (d : Device) : Device :=
  let d0 := d.at t
  match takeOwed c true d0.plb.owed with
  | some (o, r) => if d0.chEnabled c then (d0.setOwed r).withResume c (·.zeroCross c o.stamp) else d0.setOwed r
  | none => d0

/-- MAINS_ZERO_CROSS (R80). -/
def execMainsZeroCross (c : Fin 8) (t : Nat) (s : State) : Host.Outcome State Fault Refusal := onDev (mainsZeroCross c t) s

/-- MAINS_COUNT_TICK: the next spread count of a locked subdivider (R80). -/
def mainsCountTick (c : Fin 8) (t : Nat) (d : Device) : Device := (d.at t).withResume c (·.mainsTick c)

/-- MAINS_COUNT_TICK (R80). -/
def execMainsCountTick (c : Fin 8) (t : Nat) (s : State) : Host.Outcome State Fault Refusal := onDev (mainsCountTick c t) s

/-! ### PTP, coast and stall -/

/-- PTP_VALID of port k goes to `v` for channel c (R81, R82); the register holds the new value. -/
def Device.ptpChange (d : Device) (c : Nat) (v : Bool) : Device :=
  if v then
    let d1 := d.setCh c { d.ch c with ns := d.ptpNs (d.srcPort c) d.now.tick, tEdge := d.now.tick }
    d1.repredictCh c
  else match (d.ch c).st with
    | .coasting => d
    | .off | .stalled => d
    | _ => if d.srcCoast c then d.coast c else d.enterStalled c

/-- A write of PTP_CTRL (R81). -/
def ptpWrite (v : Word) (d : Device) : Device :=
  let old := d.reg R.plb_PTP_CTRL
  let chs := fun (k : Nat) => (List.range 8).filter fun c => d.chEnabled c && d.srcKind c == 2 && d.srcPort c == k
  let d1 := ((chs 0) ++ (chs 1)).foldl (fun d c => d.syncCh c) d
  let d2 := d1.setF R.plb_PTP_CTRL 0 2 (fld v 0 2)
  [0, 1].foldl (fun d k =>
    if fld old k 1 = fld v k 1 then d else (chs k).foldl (fun d c =>
      let d3 := if fld v k 1 = 0 then d.duePredicted c (· ≤ d.now.tick) else d
      d3.ptpChange c (fld v k 1 = 1)) d) d2

/-- PTP_VALID_WRITE (R81). -/
def execPtpValidWrite (q : Req) (s : State) : Host.Outcome State Fault Refusal :=
  onDev (fun d => d.writeAt q R.plb_PTP_CTRL (ptpWrite q.data)) s

/-- RESYNC of a coasting channel (R82): no effect unless COASTING, nor while its PTP source is not valid. -/
def Device.resync (d : Device) (c : Nat) : Device :=
  if (d.ch c).st ≠ .coasting ∨ !d.chEnabled c ∨ (d.srcKind c = 2 ∧ !d.ptpValid (d.srcPort c)) then d
  else d.jump c fun d =>
    let x := d.ch c
    d.setCh c { x with
      u := x.followU, rem := x.followRem, vel := 0, win := [], start := d.now.tick
      st := if d.freeRunning c then .tracking else .acquiring }

/-- RESYNC (R82). -/
def execResync (c : Fin 8) (q : Req) (s : State) : Host.Outcome State Fault Refusal :=
  onDev (fun d => d.writeAt q (R.plb_RESYNC c) fun d => if fld q.data 0 1 = 1 then d.resync c else d) s

/-- STALL: a REF channel without a count for STALL_TIMEOUT freezes, or coasts where a PPS source has FALLBACK (R82, R83). -/
def stall (c : Fin 8) (t : Nat) (d : Device) : Device :=
  let x := d.ch c
  let n := d.rf (R.plb_STALL_TIMEOUT c) 0 24
  let at_ := max x.tEdge x.start + 1000 * n
  if d.chEnabled c && d.srcKind c == 1 && decide (n ≠ 0) && decide (at_ ≤ t) &&
      (x.st == .acquiring || x.st == .tracking) then
    let d0 := (d.at at_).duePredicted c (· ≤ at_)
    (if d0.isPps c && d0.srcCoast c then d0.coast c else d0.enterStalled c).at t
  else d.at t

/-- STALL (R83). -/
def execStall (c : Fin 8) (t : Nat) (s : State) : Host.Outcome State Fault Refusal := onDev (stall c t) s

/-! ### The position-event queue -/

/-- POST_RESULT (Table 3.5). -/
def Device.postResult (d : Device) (result reason entry : Nat) : Device :=
  d.setN R.plb_POST_RESULT (result + 16 * reason + 65536 * entry)

/-- A refused post of page 9 (R85, R96). -/
def Device.postRefused (d : Device) (result reason : Nat) : Device :=
  (d.postResult result reason 0).err 0x19000 0x0100 (wd reason) (d.reg R.plb_POST_TARGET_LO)

/-- A write of POST_GO (R85); `num` is the number the device gives the entry (log entry 11). -/
def postGo (num : Nat) (v : Word) (d : Device) : Device :=
  if fld v 0 1 = 0 then d
  else
    let ctl := d.reg R.plb_POST_CTRL
    let c := fld ctl 4 3
    match d.targetOf c (d.rn64 R.plb_POST_TARGET_LO) (fld ctl 24 8) with
    | none => d.postRefused 3 1
    | some u =>
      if d.evqFull then d.evqRefuse.postRefused 2 4
      else
        let n := d.freeEntry num
        let d1 := if fld ctl 0 2 = 0 then d.post n .trigger c u (BitVec.ofNat 16 (fld ctl 8 16)) 0 0 0
          else d.post n .wake c u 0 0 (fld ctl 8 6) (d.reg R.plb_POST_TAG)
        d1.postResult 1 0 n

/-- POST_GO (R85). -/
def execPostGo (q : Req) (num : Fin 4096) (s : State) : Host.Outcome State Fault Refusal :=
  onDev (fun d => d.writeAt q R.plb_POST_GO (postGo num q.data)) s

/-- A write of CANCEL (R88). -/
def plbCancel (v : Word) (d : Device) : Device :=
  if fld v 31 1 = 0 then d
  else
    let n := fld v 0 12
    match d.entry n with
    | none => d.err 0x19000 0x0101 1 (wd n)
    | some e =>
      match e.kind with
      | .admission | .release => d.err 0x19000 0x0101 3 (wd n)
      | _ =>
        let d1 := d.cancelEntry n
        { d1 with arriving := d1.arriving.filter fun a => !(a.kind == 1 && a.tag == n) }

/-- PLB_CANCEL (R88). -/
def execPlbCancel (q : Req) (s : State) : Host.Outcome State Fault Refusal :=
  onDev (fun d => d.writeAt q R.plb_CANCEL (plbCancel q.data)) s

/-- ENTRY_DUE: a pending entry falls due by prediction (R86). -/
def entryDue (e : Fin 4096) (t : Nat) (d : Device) : Device :=
  let d0 := d.at t
  match d0.entry e with
  | none => d0
  | some x =>
    match x.due, x.pred with
    | none, some p => if p ≤ t ∧ d0.chEnabled x.ch then d0.fallDue x ⟨p, false, false, false, 0⟩ else d0
    | _, _ => d0

/-- ENTRY_DUE (R86). -/
def execEntryDue (e : Fin 4096) (t : Nat) (s : State) : Host.Outcome State Fault Refusal := onDev (entryDue e t) s

/-- The placed pulses of a delivered entry stand on their own. -/
def Device.detach (d : Device) (n : Nat) : Device :=
  d.setPulses (d.plb.pulses.map fun p => if p.entry = some n then { p with entry := none } else p)

/-- The Source word of a WAKE event (Table 16.6). -/
def wakeSource (e : EvEntry) : Word :=
  wd (1 + 16 * e.ch + 128 * b2n ((e.due.map (·.past)).getD false) + 256 * b2n ((e.due.map (·.jumped)).getD false))

/-- Deliver an entry (R87): TRIGGER entries leave the queue; WAKE entries post their event and stay until it is in the
supervisor's queue (R436); ADMIT and RELEASE entries are handed to SCH. -/
def Device.deliver (d : Device) (e : EvEntry) : Device :=
  let d1 := d.detach e.num
  let h := d1.plb.nextHand
  let d2 := { d1 with plb := { d1.plb with nextHand := h + 1, nextDelivery := d1.now.tick + 2 } }
  match e.kind with
  | .trigger => d2.setEntries (d2.plb.entries.filter fun x => !(x.num == e.num))
  | .wake => (d2.setEntry { e with hand := some h }).supEventTag 1 e.slot (wakeSource e) e.value e.num
  | _ => d2.setEntry { e with hand := some h }

/-- ENTRY_DELIVERY: the first due entry in the order of R87 is delivered, one every 2 ticks. -/
def entryDelivery (t : Nat) (d : Device) : Device :=
  let d0 := d.at t
  if d0.now.tick < d0.plb.nextDelivery then d0
  else match firstDue (d0.plb.entries.filter fun e =>
      e.hand.isNone && (e.due.map fun u => decide (u.tick ≤ d0.now.tick)).getD false) with
    | none => d0
    | some e => d0.deliver e

/-- ENTRY_DELIVERY (R87). -/
def execEntryDelivery (t : Nat) (s : State) : Host.Outcome State Fault Refusal := onDev (entryDelivery t) s

/-! ### Trigger outputs -/

/-- The placed pulse of output j that starts first. -/
def firstPulse (j : Nat) : List Pulse → Option Pulse
  | [] => none
  | p :: r => match firstPulse j r with
    | none => if p.out = j then some p else none
    | some q => if p.out = j ∧ p.start ≤ q.start then some p else some q

/-- A pulse begins (R90, R91, R94). -/
def Device.beginPulse (d : Device) (p : Pulse) : Device :=
  let d1 := d.setPulses (d.plb.pulses.filter fun x => x ≠ p)
  let cfg := d.reg (R.plb_TRIG_CFG p.out)
  if fld cfg 0 1 = 0 then d1
  else
    let d2 := match p.entry with
      | some n => d1.setEntries (d1.plb.entries.map fun (e : EvEntry) =>
          if e.num = n then { e with fired := e.fired ||| BitVec.ofNat 16 (2 ^ p.out) } else e)
      | none => d1
    let d3 := match p.job with
      | some id => d2.modJob id fun j => { j with flags := j.flags ||| 0x20 }
      | none => d2
    let d4 := d3.count (R.plb_TRIG_COUNT p.out) 1
    let d5 := if p.moved then (d4.count R.plb_LATE_COUNT 1).evtBit 0x1A000 17 else d4
    let ends := Store.get zeroN d5.plb.active p.out
    let d6 := if p.start < ends then (d5.count R.plb_OVERLAP_COUNT 1).evtBit 0x1A000 16 else d5
    { d6 with plb := { d6.plb with active := Store.set zeroN d6.plb.active p.out (max ends (p.start + fld cfg 16 16)) } }

/-- TRIGGER_PULSE_START: the first placed pulse of output j begins once its start tick has come. -/
def triggerPulseStart (j : Fin 16) (t : Nat) (d : Device) : Device :=
  let d0 := d.at t
  match firstPulse j d0.plb.pulses with
  | some p => if p.start ≤ d0.now.tick then d0.beginPulse p else d0
  | none => d0

/-- TRIGGER_PULSE_START (R91). -/
def execTriggerPulseStart (j : Fin 16) (t : Nat) (s : State) : Host.Outcome State Fault Refusal :=
  onDev (triggerPulseStart j t) s

/-- TRIGGER_PULSE_END: output j returns to its inactive level after its active time (R90, R94). -/
def triggerPulseEnd (j : Fin 16) (t : Nat) (d : Device) : Device :=
  let d0 := d.at t
  if Store.get zeroN d0.plb.active j.val ≤ d0.now.tick then
    { d0 with plb := { d0.plb with active := Store.set zeroN d0.plb.active j.val 0 } }
  else d0

/-- TRIGGER_PULSE_END (R90). -/
def execTriggerPulseEnd (j : Fin 16) (t : Nat) (s : State) : Host.Outcome State Fault Refusal := onDev (triggerPulseEnd j t) s

/-- A write of FIRE_NOW: a pulse 8 ticks later on each enabled output named (R90, R94). -/
def fireNow (v : Word) (d : Device) : Device :=
  let outs := (maskBits (BitVec.ofNat 16 (fld v 0 16))).filter fun j => d.trigOn j
  d.setPulses (outs.map (fun j => ⟨j, d.now.tick + 8, d.now.tick + 8, false, none, none⟩) ++ d.plb.pulses)

/-- FIRE_NOW (R94). -/
def execFireNow (q : Req) (s : State) : Host.Outcome State Fault Refusal :=
  onDev (fun d => d.writeAt q R.plb_FIRE_NOW (fireNow q.data)) s

/-- EVQ_HIGHWATER_READ: an admitted read restarts the mark from EVQ_USED (R26). -/
def execEvqHighwaterRead (q : Req) (s : State) : Host.Outcome State Fault Refusal :=
  onDev (fun d => d.readAt q R.plb_EVQ_HIGHWATER fun d => d.setN R.plb_EVQ_HIGHWATER d.evqUsed) s

end Sys2Proof.Machine
end

