-- ==== Sys2Proof/Machine/CommitChecks.lean ====
section
/-! DEFINITION. Machine/CommitChecks.lean: the set that a commit snapshots and the checks that every block makes of it (R35, R37, R42,
R387 and the rules named beside each check). -/
namespace Sys2Proof.Machine

/-! ### The set of a commit -/

/-- Whether an offset belongs to the set of unit u: an entry of the queue state table, the pages of a lead page, or one page (R34, R42,
R387). -/
def inUnit (u off : Nat) : Bool :=
  if 0x800000 ≤ u ∧ u < 0xC00000 then decide (u ≤ off ∧ off < u + 0x40)
  else if u = 0xC000 then decide (0xC000 ≤ off ∧ off < 0xE000)
  else if u = 0x200C000 then decide (0x200C000 ≤ off ∧ off < 0x200F000)
  else pageOf off == u

/-- The unit that a write of COMMIT on a page commits: on QEN page 1 the entry that COMMIT_QUEUE names (R387). -/
def Device.commitUnit (d : Device) (pg : Nat) : Nat :=
  if pg = 0x101000 then 0x800000 + 0x40 * d.rf R.qen_COMMIT_QUEUE 0 16 else pg

/-- The page whose COMMIT_STATUS shows the commit of a unit. -/
def statusPage (u : Nat) : Nat := errPage u

/-- All offsets of a register's copies from its first. -/
def dimOffsets : List (Nat × Nat) → List Nat
  | [] => [0]
  | (st, n) :: r => (List.range n).flatMap fun i => (dimOffsets r).map fun o => st * i + o

/-- Whether a register has RWC fields. -/
def RegDef.rwc (r : RegDef) : Bool := r.fields.any fun f => f.acc == .rwc

/-- The pages of a unit of directory entry n: base of each with its index in the block. -/
def unitPages (u n pg : Nat) : List (Nat × Nat) :=
  if u = 0xC000 then [(0xC000, 0), (0xD000, 1)]
  else if u = 0x200C000 then [(0x200C000, 0), (0x200D000, 1), (0x200E000, 2)]
  else if n = 23 then [(u, 0)]
  else [(u, pg)]

/-- The registers with RWC fields of a unit. -/
def unitRegs (u : Nat) : List (Nat × RegDef) :=
  match blockAt u with
  | none => []
  | some (n, pg) => (unitPages u n pg).flatMap fun x =>
    ((regsOf n).filter fun r => r.rwc && (n == 23 || (decide (r.pg ≤ x.2) && decide (x.2 < r.pg + r.pn)))).flatMap fun r =>
      (dimOffsets (if n = 23 then [] else r.dims)).map fun o => (x.1 + r.off + o, r)

/-- The bits of a register that are RWC. -/
def rwcMask (off : Nat) : Word :=
  match regDefAt off with
  | none => 0
  | some r => (r.fields.filter fun f => f.acc == .rwc).foldl (fun (m : Word) f => setFld m f.lo f.w (2 ^ f.w - 1)) 0

/-- The offsets of a snapshot's unit whose RWC fields differ between the snapshot and the committed set. -/
def Device.changed (d : Device) (p : Pending) : List Nat :=
  ((p.snap.map (·.1)) ++ ((d.regs.filter fun e => inUnit p.page e.1).map (·.1))).dedup.filter fun o =>
    (p.get o ^^^ d.reg o) &&& rwcMask o != 0

/-- A STATE refusal against the lowest changed offset that `q` names (R37). -/
def Device.stateFail (d : Device) (p : Pending) (q : Nat → Bool) : Fails :=
  match (d.changed p).filter q with
  | [] => []
  | x :: r => [(r.foldl min x, 3)]

/-- Ranges of every RWC field that its table gives a range (R61). -/
def rangeFails (p : Pending) : Fails :=
  (unitRegs p.page).flatMap fun x =>
    failIf (x.2.fields.any fun f => f.acc == .rwc && !inRange f (fld (p.get x.1) f.lo f.w)) x.1 1

/-- A pair of the snapshot as a 64-bit number. -/
def Pending.n64 (p : Pending) (lo : Nat) : Nat := (p.get lo).toNat + 2 ^ 32 * (p.get (lo + 4)).toNat

/-! ### Plumb (R68, R72 to R75, R82, chapter 3's Edges) -/

/-- Page 0: the kinds of the inputs. -/
def Device.plbInFails (d : Device) (p : Pending) : Fails :=
  let kind := fun i => fld (p.get (R.plb_REF_CFG i)) 0 3
  (List.range 8).flatMap fun i =>
    failIf (kind i == 1 && i % 2 == 1) (R.plb_REF_CFG i) 2 ++
    failIf (kind i == 1 && i % 2 == 0 && kind (i + 1) != 2) (R.plb_REF_CFG (i + 1)) 2 ++
    failIf (kind i != d.refKind i && (List.range 8).any fun c => d.chEnabled c &&
      ((d.srcKind c == 1 && d.srcInput c == i) ||
        (d.rf (R.plb_INDEX_CFG c) 4 1 == 1 && d.rf (R.plb_INDEX_CFG c) 0 3 == i))) (R.plb_REF_CFG i) 3

/-- Page 1 + c: the source and the position of channel c. -/
def Device.plbChFails (d : Device) (p : Pending) (c : Nat) : Fails :=
  let src := p.get (R.plb_SRC c)
  let ref := d.refKind (fld src 4 3)
  let m := p.n64 (R.plb_MOD_LO c)
  let held := d.chEnabled c && d.plb.entries.any fun e => e.ch == c
  let diff := fun (off : Nat) (mask : Word) => (p.get off ^^^ d.reg off) &&& mask != 0
  failIf (fld src 0 2 == 1 && !(ref == 1 || ref == 4 || ref == 5 || ref == 6)) (R.plb_SRC c) 2 ++
  failIf (fld src 12 1 == 1 && !(fld src 0 2 == 2 || fld src 0 2 == 3 || (fld src 0 2 == 1 && ref == 6))) (R.plb_SRC c) 2 ++
  failIf (m != 0 && (decide (m < 0x10000) || decide (2 ^ 62 < m))) (R.plb_MOD_HI c) 1 ++
  failIf (fld (p.get (R.plb_SET_CTRL c)) 0 1 == 1 && m != 0 && decide (m ≤ p.n64 (R.plb_SET_POS_LO c))) (R.plb_SET_CTRL c) 1 ++
  (if held then
    failIf (diff (R.plb_SRC c) 0x7FFFFFFF#32) (R.plb_SRC c) 3 ++
    ([R.plb_NUM c, R.plb_DEN c, R.plb_MOD_LO c, R.plb_MOD_HI c].flatMap fun o => failIf (diff o 0xFFFFFFFF#32) o 3)
  else [])

/-! ### Handler slots (R448) -/

/-- Page 1 of SUP. A BUDGET or HARTS of 0 is refused in an enabled slot (chapter 16's Edges; log entry 143). -/
def Device.supFails (d : Device) (p : Pending) : Fails :=
  ((List.range 64).flatMap fun n =>
    let cfg := p.get (R.sup_HS_CFG n)
    failIf (decide (d.rf R.sup_CODE_LIMIT 2 17 ≤ fld (p.get (R.sup_HS_ENTRY n)) 2 17)) (R.sup_HS_ENTRY n) 1 ++
    failIf (fld cfg 0 1 == 1 && fld (p.get (R.sup_HS_BUDGET n)) 0 24 == 0) (R.sup_HS_BUDGET n) 1 ++
    failIf (fld cfg 0 1 == 1 && fld cfg 4 4 == 0) (R.sup_HS_CFG n) 1) ++
  let f := d.rf R.sup_FAULT_SLOT 0 6
  let h := fld (p.get (R.sup_HS_CFG f)) 4 4
  failIf (h == 1 || h == 2 || h == 4 || h == 8) (R.sup_HS_CFG f) 1

/-! ### Power and thermal (R452, R454, R458 to R460, R463) -/

/-- Whether a POW snapshot holds the array clock: STAGE_MHZ changes, or TRIM_b of a bay powered in both sets (R462). -/
def Device.pausing (d : Device) (p : Pending) : Bool :=
  fld (p.get R.pow_STAGE_CLK) 0 10 != d.rf R.pow_STAGE_CLK 0 10 ||
  (List.range 64).any fun b =>
    fld (p.get (R.pow_BAY_TRIM b)) 0 4 != d.rf (R.pow_BAY_TRIM b) 0 4 && d.domainSet b &&
      fld (p.get (R.pow_BAY_PWR_LO + 4 * (b / 32))) (b % 32) 1 == 1

/-- Whether the present state forbids gating domain k (R454): a bay of a region that is not EMPTY, a slice with an enabled stream or a fill,
a page with a commit PENDING. -/
def Device.gateBarred (d : Device) (k : Nat) : Bool :=
  if k < 64 then
    (bayTiles k).any fun t => ((d.regionOf t).any fun r => d.pipeState r != 0) ||
      d.pend.any fun c => c.page == 0x1000000 + 0x1000 * t
  else
    let j := k - 64
    ((List.range 8).any fun i => d.rf (R.wst_SCFG j i) 0 1 == 1) || (d.slice j).fill.isSome ||
      d.pend.any fun c => c.page == 0x90000 + 0x1000 * j

/-- The POW set. -/
def Device.powFails (d : Device) (p : Pending) : Fails :=
  let f := fld (p.get R.pow_STAGE_CLK) 0 10
  let cap := fld (p.get R.pow_PKG_CAP) 0 8
  let lim := fld (p.get R.pow_CLIP_CFG) 0 4
  (if d.rf R.pow_POW_STATUS 19 2 ≠ 0 then d.stateFail p fun _ => true else []) ++
  failIf (decide (f < 300 ∨ Config.fmax < f)) R.pow_STAGE_CLK 1 ++
  failIf (decide (cap < 35 ∨ Config.capMax < cap)) R.pow_PKG_CAP 1 ++
  failIf (decide (lim < 1 ∨ Config.smax < lim)) R.pow_CLIP_CFG 1 ++
  ((List.range 16).flatMap fun g =>
    let x := fld (p.get (R.pow_CLIP_LIMIT g)) 0 16
    failIf (decide (x < 1 ∨ Config.clipCeil < x)) (R.pow_CLIP_LIMIT g) 1) ++
  ((List.range 64).flatMap fun b =>
    let only := fun o => if o = R.pow_BAY_PWR_LO + 4 * (b / 32) then wd (2 ^ (b % 32)) &&& p.get o
      else if o = R.pow_BAY_PWR_LO ∨ o = R.pow_BAY_PWR_HI then 0 else p.get o
    failIf (!floorOk only d.vcore) (R.pow_BAY_TRIM b) 2) ++
  ((List.range 128).flatMap fun k =>
    let off := if k < 64 then R.pow_BAY_PWR_LO + 4 * (k / 32) else R.pow_SLICE_PWR_LO + 4 * ((k - 64) / 32)
    failIf (d.domainSet k && fld (p.get off) (k % 32) 1 == 0 && d.gateBarred k) off 3)

/-- The throttle points: temperatures from −40 °C to 104.9375 °C (R465). -/
def thmFails (p : Pending) : Fails :=
  (List.range 4).flatMap fun i =>
    failIf (decide (tempOf (p.get (R.thm_THR i)) < -640 ∨ 1679 < tempOf (p.get (R.thm_THR i)))) (R.thm_THR i) 1

/-! ### Weight store and tiles (R107, R219) -/

/-- Whether r is a region whose pipeline is RUNNING, HOLDING or DRAINING. -/
def Device.stateRuns (d : Device) (r : Nat) : Bool := decide (r < 64) && runState (d.pipeState r)

/-- A WST page: the checks of R219. -/
def Device.wstCommitFails (d : Device) (p : Pending) (j : Nat) : Fails :=
  let busy := fun i => d.stateRuns (d.rf (R.wst_SCFG j i) 2 7) && d.rf (R.wst_SCFG j i) 0 1 == 1 ||
    d.stateRuns (fld (p.get (R.wst_SCFG j i)) 2 7) && fld (p.get (R.wst_SCFG j i)) 0 1 == 1
  d.wstFails p.get j ++
  ((List.range 8).flatMap fun i => if busy i then d.stateFail p fun o => 0x100 + 0x10 * i ≤ o % 0x1000 ∧ o % 0x1000 < 0x110 + 0x10 * i else [])

/-- A tile page: the checks of R107, and STATE unless the tile's region is EMPTY or in REWORK (chapter 4's Edges; a tile of no region may
commit, log entry 143). -/
def Device.trwFails (d : Device) (p : Pending) (k : Nat) : Fails :=
  tileFails p.get k ++
  (match d.regionOf k with
    | some r => if d.pipeState r = 0 ∨ d.pipeState r = 6 then [] else d.stateFail p fun _ => true
    | none => [])

/-! ### HBM and tenants (R392, R407, R413, R415) -/

/-- HBM page 0: the areas (R415). -/
def Device.hbmAreaFails (d : Device) (p : Pending) : Fails :=
  let size := fun o => fld (p.get o) 0 16
  let lib := d.lib.any fun e => e.2.st != 0
  (if d.rf R.skm_RENDER_STATE 0 2 ≠ 0 ∨ !d.loadFree ∨ lib then d.stateFail p fun _ => true else []) ++
  failIf (decide (49152 < 3 * size R.hbm_IMAGE_SIZE + size R.hbm_LIBRARY_SIZE + size R.hbm_TRACE_SIZE)) R.hbm_TRACE_SIZE 4

/-- Whether the reserves of one pool exceed it (R407): `pipe` and `ten` give the reserves by pipeline and by tenant. -/
def overPool (pipe ten : Nat → Nat) (ts : List Nat) : Bool :=
  decide (4096 < ((List.range 64).map pipe).sum + (ts.map ten).sum)

/-- HBM page 1: the pipelines' reserves (R407). -/
def Device.hbmMinFails (d : Device) (p : Pending) : Fails :=
  let above := fun ing => overPool (fun i => fld (p.get (R.hbm_PIPE_MIN i)) (poolLo ing) 13) (d.minTen ing) d.tenantsSet
  failIf (above true || above false) (R.hbm_PIPE_MIN 63) 4

/-- A TEN page: windows aligned, ending within 64 bits, apart from each other; reserves within the pools (R393, R407). -/
def Device.tenFails (d : Device) (p : Pending) (t : Nat) : Fails :=
  let base := fun w => p.n64 (R.ten_WBASE_LO t w)
  let host := fun w => p.n64 (R.ten_HOST_LO t w)
  let size := fun w => 4096 * (p.get (R.ten_SIZE t w)).toNat
  let above := fun ing => overPool (d.minPipe ing) (fun u => if u = t then fld (p.get (R.ten_BUF_MIN t)) (poolLo ing) 13 else d.minTen ing u)
    (t :: d.tenantsSet).dedup
  ((List.range 16).flatMap fun w =>
    failIf (base w % 4096 != 0) (R.ten_WBASE_LO t w) 1 ++
    failIf (host w % 4096 != 0) (R.ten_HOST_LO t w) 1 ++
    failIf (decide (2 ^ 64 < base w + size w ∨ 2 ^ 64 < host w + size w)) (R.ten_SIZE t w) 1) ++
  ((pairsBelow 16).flatMap fun x => failIf (overlap (base x.1) (size x.1) (base x.2) (size x.2)) (R.ten_SIZE t x.2) 2) ++
  failIf (above true || above false) (R.ten_BUF_MIN t) 4

/-! ### Queues (R347, R380, R387, chapter 14's Edges) -/

/-- Whether queue g is IDLE (R382): disabled, HEAD equal to FETCH_IDX, and nothing of it is in the tracker or being fetched. -/
def Device.qIdle (d : Device) (g : Nat) : Bool :=
  !d.qEnabled g && d.head g == d.fetchIdx g && (d.queue g).chain.isNone && (d.queue g).held.isEmpty && !(d.jobs.any fun j => j.q == g && !j.orphan) &&
    (d.queue g).turn.isNone && (d.queue g).resetTick.isNone

/-- An entry of the queue state table. -/
def Device.qenFails (d : Device) (p : Pending) (g : Nat) : Fails :=
  let ctl := p.get (R.qst_QCTL g)
  let n := fld ctl 8 5
  let diff := fun (off : Nat) => p.get off != d.reg off
  let base := p.n64 (R.qst_RING_BASE_LO g)
  let coal := p.get (R.qst_COALESCE g)
  failIf (base % 4096 != 0) (R.qst_RING_BASE_LO g) 1 ++
  failIf (fld ctl 2 1 == 1 && p.n64 (R.qst_MIRROR_LO g) % 4 != 0) (R.qst_MIRROR_LO g) 1 ++
  failIf (fld ctl 3 1 == 1 && fld coal 0 8 == 0 && fld coal 16 16 == 0) (R.qst_COALESCE g) 2 ++
  (if d.qIdle g then [] else
    failIf (n != d.qN g || (fld ctl 1 1 == 1) != d.qRunahead g || (fld ctl 0 1 == 1 && !d.qEnabled g)) (R.qst_QCTL g) 3 ++
    failIf (diff (R.qst_RING_BASE_LO g)) (R.qst_RING_BASE_LO g) 3 ++
    failIf (diff (R.qst_RING_BASE_HI g)) (R.qst_RING_BASE_HI g) 3) ++
  failIf (decide (2 ^ n < u32sub (d.queue g).tail (d.head g))) (R.qst_QCTL g) 2

/-! ### Sampling and the trace (R614 to R617) -/

/-- OBS page 0: the trace ring. -/
def Device.traceFails (d : Device) (p : Pending) : Fails :=
  let ctl := p.get R.obs_TRACE_CTRL
  let n := fld ctl 8 5
  let was := d.rf R.obs_TRACE_CTRL 0 1 == 1
  failIf (decide (n < 8 ∨ 24 < n)) R.obs_TRACE_CTRL 1 ++
  failIf (p.n64 R.obs_TRACE_BASE_LO % 4096 != 0) R.obs_TRACE_BASE_LO 1 ++
  failIf (p.n64 R.obs_TRACE_MIRROR_LO % 4 != 0) R.obs_TRACE_MIRROR_LO 1 ++
  (if was then
    failIf (n != d.rf R.obs_TRACE_CTRL 8 5) R.obs_TRACE_CTRL 3 ++
    ([R.obs_TRACE_BASE_LO, R.obs_TRACE_BASE_HI, R.obs_TRACE_MIRROR_LO, R.obs_TRACE_MIRROR_HI].flatMap fun o =>
      failIf (p.get o != d.reg o) o 3)
  else [])

/-- OBS page 1: sampling, and the rate of the histogram records (R617). -/
def Device.sampleFails (d : Device) (p : Pending) : Fails :=
  let k := fun i => fld (p.get (R.obs_SAMPLE_CFG i)) 0 5
  let per := fun i => fld (p.get (R.obs_SAMPLE_CFG i)) 16 16
  let on := (List.range 64).filter fun i => k i != 0 && per i != 0
  let all := (on.map per).foldl (· * ·) 1
  let rate := (on.map fun i => d.rn (R.obs_STAGES i) * 2 ^ (20 - k i) * (all / per i)).sum
  ((List.range 64).flatMap fun i =>
    failIf (k i != 0 && (decide (k i < 8 ∨ 20 < k i) || per i == 0)) (R.obs_SAMPLE_CFG i) 1) ++
  failIf (decide (2 ^ 20 * all < 16 * rate)) (R.obs_SAMPLE_CFG (on.foldl max 0)) 4

/-! ### Pins, transceivers, Ethernet (R501, R503, R506 to R509, chapter 19's Edges) -/

/-- Whether standard STD with drive code DRV in direction OUT is allowed at supply VCCO (Table 19.1). -/
def stdOk (vcco std drv : Nat) (out : Bool) : Bool :=
  match std with
  | 0 => true
  | 1 => vcco ≠ 0 && (drv ≠ 3 || decide (3 ≤ vcco))
  | 2 | 3 => vcco == 2 || vcco == 3
  | 4 => if out then vcco == 3 || vcco == 4 else decide (1 ≤ vcco ∧ vcco ≤ 4)
  | _ => true

/-- An IOB page. -/
def iobFails (p : Pending) (b : Nat) : Fails :=
  let cfg := fun i => p.get (R.iob_IO_CFG b i)
  let std := fun i => fld (cfg i) 0 3
  let vcco := fld (p.get (R.iob_BANK_CFG b)) 0 3
  let out := fun i => fld (cfg i) 11 1 == 1
  ((List.range 48).flatMap fun i =>
    failIf (!stdOk vcco (std i) (fld (cfg i) 4 2) (out i)) (R.iob_BANK_CFG b) 2 ++
    failIf (std i == 4 && i % 2 == 0 && std (i + 1) != 0) (R.iob_IO_CFG b (i + 1)) 2 ++
    failIf (fld (cfg i) 10 1 == 1 && !((std i == 4 && !out i) || std i == 2 || std i == 3)) (R.iob_IO_CFG b i) 2) ++
  (if b = 0 then
    let half := fld (p.get R.iob_ALIVE_CFG) 0 14
    let win := fld (p.get R.iob_HB_WINDOW) 0 24
    failIf (decide (half < 1 ∨ 10000 < half)) R.iob_ALIVE_CFG 1 ++
    failIf (win == 0) R.iob_HB_WINDOW 1 ++
    failIf (decide (win < half)) R.iob_HB_WINDOW 2
  else [])

/-- An XCV page: the reference must exist, the PLL and line rates lie in range, SCRAMBLE needs 64B66B (R506, R507). -/
def xcvFails (p : Pending) (l : Nat) : Fails :=
  let rate := p.get (R.xcv_RATE l)
  let cfg := p.get (R.xcv_LANE_CFG l)
  let q := l / 4
  let ref := fld rate 0 2
  let lost := (ref == 1 && q == 0) || (ref == 2 && q == 7)
  let src := if ref = 1 then q - 1 else if ref = 2 then q + 1 else q
  let pll := Config.xrefKhz src * fld rate 8 8
  let div := 2 ^ fld rate 16 3
  failIf lost (R.xcv_RATE l) 1 ++
  failIf (decide (pll < 16000000 ∨ 32000000 < pll ∨ pll < 1000000 * div)) (R.xcv_RATE l) 1 ++
  failIf (fld cfg 4 1 == 1 && fld cfg 1 2 != 2) (R.xcv_LANE_CFG l) 2

/-- An ETH port page: FEC and auto-negotiation as the mode has them (Table 19.4). -/
def ethFails (p : Pending) (k : Nat) : Fails :=
  let v := p.get (R.eth_PORT_CFG k)
  let mode := fld v 0 3
  failIf ((mode == 0 && (fld v 4 1 == 1 || fld v 5 1 == 1)) || (decide (2 ≤ mode ∧ mode ≤ 5) && fld v 4 1 == 0)) (R.eth_PORT_CFG k) 2

/-! ### Peer channels (R546, R547, chapter 20's Edges) -/

/-- Bits set in the low n bits of a number. -/
def popcount : Nat → Nat → Nat
  | 0, _ => 0
  | n + 1, v => v % 2 + popcount n (v / 2)

/-- The reservation of a port in 10^6 flits per second times 16 (R547). -/
def resv16 (g : Nat → Word) (k : Nat) : Nat :=
  ((List.range 64).map fun c =>
    if fld (g (R.lwl_CH_CFG k c)) 0 2 = 1 then popcount 16 (fld (g (R.lwl_CH_CFG k c)) 16 16) * Config.fmax else 0).sum

/-- LWL page 4 + k: the channels of port k. -/
def Device.chFails (d : Device) (p : Pending) (k : Nat) : Fails :=
  let cfg := fun c => p.get (R.lwl_CH_CFG k c)
  let circ := fun c => fld (cfg c) 0 2 == 1
  let slots := fun (m owner : Nat) => (m % 4096 != 0 && decide (64 ≤ owner)) || (m / 4096 != 0 && owner != 64)
  let last := ((List.range 64).filter circ).foldl max 0
  let diff := fun c => (d.changed p).any fun o => decide (R.lwl_CH_CFG k c ≤ o ∧ o < R.lwl_CH_CFG k c + 8)
  let bound := fun c => (List.range 64).any fun q => !(d.pipeState q == 0 || d.pipeState q == 5 || d.pipeState q == 6) &&
    ((d.ingKind q == 3 && d.ingChan q == 64 * k + c) || (d.egrKind q == 3 && d.egrChan q == 64 * k + c))
  let mine := fun c o => decide (R.lwl_CH_CFG k c ≤ o ∧ o < R.lwl_CH_CFG k c + 8)
  ((List.range 64).flatMap fun c =>
    let tx := fld (cfg c) 16 16
    let rx := fld (p.get (R.lwl_CH_CFG2 k c)) 0 16
    let owner := fld (cfg c) 8 7
    failIf (circ c && (tx / 2 ^ 15 == 1 || slots tx owner)) (R.lwl_CH_CFG k c) 2 ++
    failIf (circ c && (rx / 2 ^ 12 % 2 == 1 || slots rx owner)) (R.lwl_CH_CFG2 k c) 2 ++
    (if diff c && ((d.chKind k c == 1 && d.stateRuns (d.rf (R.lwl_CH_CFG k c) 8 7)) || (decide (2 ≤ d.chKind k c) && bound c))
      then d.stateFail p (mine c) else [])) ++
  failIf (decide (16 * 1800 < resv16 p.get k)) (R.lwl_CH_CFG k last) 4

/-! ### Every check of a set -/

/-- The checks of a snapshot beside the ranges of its table. -/
def Device.blockFails (d : Device) (p : Pending) : Fails :=
  match blockAt p.page with
  | some (5, 1) => d.supFails p
  | some (6, _) => d.powFails p
  | some (7, _) => thmFails p
  | some (9, 0) => d.plbInFails p
  | some (9, pg) => if pg ≤ 8 then d.plbChFails p (pg - 1) else []
  | some (14, j) => d.wstCommitFails p j
  | some (15, 0) => d.hbmAreaFails p
  | some (15, 1) => d.hbmMinFails p
  | some (17, 0) => d.traceFails p
  | some (17, 1) => d.sampleFails p
  | some (22, t) => d.tenFails p t
  | some (23, _) => d.qenFails p ((p.page - 0x800000) / 0x40)
  | some (24, k) => d.trwFails p k
  | some (25, b) => iobFails p b
  | some (26, _) => clkFails d.reg p.get
  | some (27, l) => xcvFails p l
  | some (28, k) => ethFails p k
  | some (29, k) => if 4 ≤ k then d.chFails p (k - 4) else []
  | _ => []

/-- The first failing field of a snapshot (R35, R37). -/
def Device.commitFail (d : Device) (p : Pending) : Option (Nat × Nat) := firstFail (rangeFails p ++ d.blockFails p)

end Sys2Proof.Machine
end

