-- ==== Sys2Proof/Machine/Commit.lean ====
section
/-! DEFINITION. Machine/Commit.lean: shadow and commit (R34 to R45), the safe points and effects of every block's commit, the pausing POW
commit with its hold, and the thermal trip that ends a POW commit's wait (R36, R95, R263, R387, R413, R415, R448, R462, R466). -/
namespace Sys2Proof.Machine

/-! ### COMMIT (R35, R38, R39, R42, R43) -/

/-- Set STATE of a page's COMMIT_STATUS, the rest 0. -/
def Device.setCommitSt (d : Device) (pg st : Nat) : Device := d.setN (pg + 0x1C) st

/-- The shadow of a unit is reloaded from the committed set (R39). -/
def Device.reloadShadow (d : Device) (u : Nat) : Device :=
  (d.regs.filter fun e => inUnit u e.1 && rwcMask e.1 != 0).foldl (fun (d : Device) e => d.setSh e.1 e.2)
    { d with shadow := Store.wipe (inUnit u) d.shadow }

/-- A write of `v` to COMMIT of page pg, already performed by its page (R35, R38, R39, R42, R43, R392). -/
def Device.commitWrite (d : Device) (p : Port) (pg : Nat) (v : Word) : Device :=
  match blockAt pg with
  | none => d
  | some (n, i) =>
    if !hasCommit n i || memberPage n i then d
    else if n = 22 ∧ portCode p = 2 then d.errAccess 0x0001 p (pg + 0x18) true
    else if d.rf (pg + 0x1C) 0 2 = 1 then d.err pg 0x0004 (accessInfo p (pg + 0x18) true) 0
    else
      let u := d.commitUnit pg
      if fld v 1 1 = 1 then (d.reloadShadow u).setCommitSt pg 0
      else if fld v 0 1 = 1 then
        let p : Pending := ⟨u, d.shadow.filter fun e => inUnit u e.1, false, 0, 0⟩
        Device.setCommitSt { d with pend := d.pend ++ [p] } pg 1
      else d

/-- The offset that an access reaches in its page, where it is a page access (R51, R317 to R319). -/
def Device.target (d : Device) (a : Sys2Proof.Access) : Option Nat :=
  match a.target with
  | .page x => (d.resolve a.port x).map d.alias_
  | _ => none

/-- A write `a` to an offset that `p` names, acting by `k` where its page performs it; another access is none of the command's. -/
def Device.writeOf (d : Device) (a : Sys2Proof.Access) (p : Nat → Bool) (k : Nat → Device → Device) : Device :=
  let d0 := d.at a.t
  match a.target, d0.target a with
  | .page x, some off => if p off then d0.access a.port x a.be a.len true k else d0
  | _, _ => d0

/-- Whether an offset is that of a word of the common header of a page (Table 2.1). -/
def isHdr (o off : Nat) : Bool :=
  match blockAt off with
  | some (23, _) | some (31, _) | none => false
  | some _ => off % 0x1000 == o

/-- COMMIT written with APPLY and without DISCARD. -/
def commitApply (a : Sys2Proof.Access) (d : Device) : Device :=
  if fld a.data 0 2 = 1 then d.writeOf a (isHdr 0x18) fun off d => d.commitWrite a.port (pageOf off) a.data else d.at a.t
/-- COMMIT_APPLY (R35). -/
def execCommitApply (a : Access) (s : State) : Host.Outcome State Fault Refusal := onDev (commitApply a) s

/-- COMMIT written with DISCARD. -/
def commitDiscard (a : Sys2Proof.Access) (d : Device) : Device :=
  if fld a.data 1 1 = 1 then d.writeOf a (isHdr 0x18) fun off d => d.commitWrite a.port (pageOf off) a.data else d.at a.t
/-- COMMIT_DISCARD (R39). -/
def execCommitDiscard (a : Access) (s : State) : Host.Outcome State Fault Refusal := onDev (commitDiscard a) s

/-! ### Validation (R35, R37, R40) -/

/-- The commit that a page shows as PENDING. -/
def Device.pendOf (d : Device) (page : Nat) : Option Pending := d.pend.find? fun p => statusPage p.page == page
/-- It is no longer PENDING. -/
def Device.endPend (d : Device) (page : Nat) : Device := { d with pend := d.pend.filter fun p => !(statusPage p.page == page) }

/-- STATE becomes DONE. -/
def Device.commitDone (d : Device) (page : Nat) : Device := ((d.endPend page).setCommitSt page 2).evtBit page 0

/-- STATE becomes REFUSED with the first failing field. -/
def Device.commitRefused (d : Device) (p : Pending) (off reason : Nat) : Device :=
  let page := statusPage p.page
  let o := if p.page = page then off % 0x1000 else off % 0x40
  ((d.endPend page).setCommitSt page (3 + 16 * reason + 256 * ((off - p.page) / 0x1000) + 65536 * o)).evtBit page 1

/-- Validation of the snapshot that a page shows as PENDING ends. -/
def commitValidated (page t : Nat) (d : Device) : Device :=
  let d0 := d.at t
  match d0.pendOf page with
  | none => d0
  | some p =>
    if p.valid then d0
    else if (d0.changed p).isEmpty then d0.commitDone page
    else match d0.commitFail p with
      | some (off, reason) => d0.commitRefused p off reason
      | none =>
        let q := { p with
          valid := true
          vtick := d0.now.tick
          vcyc := d0.now.cyc }
        { d0 with pend := d0.pend.map fun x => if x.page = p.page then q else x }
/-- COMMIT_VALIDATED (R35, R37, R40). -/
def execCommitValidated (page t : Nat) (s : State) : Host.Outcome State Fault Refusal := onDev (commitValidated page t) s

/-! ### Safe points (R36) -/

/-- Whether the trigger outputs that a page 10 set changes are idle, with no start within 64 ticks (R95). -/
def Device.trigSafe (d : Device) (p : Pending) : Bool :=
  (d.changed p).all fun o =>
    let j := (o - R.plb_TRIG_CFG 0) / 8
    decide (Store.get zeroN d.plb.active j ≤ d.now.tick) &&
      !(d.plb.pulses.any fun x => x.out == j && decide (x.start ≤ d.now.tick + 64))

/-- Whether no segment of a changed peer channel is buffered (chapter 20's Edges). -/
def Device.chSafe (d : Device) (p : Pending) (k : Nat) : Bool :=
  (d.changed p).all fun o =>
    let c := (o - R.lwl_CH_CFG k 0) / 0x10
    let x := d.lw k
    (d.chTx k c).isEmpty && (Store.get noFlits d.edge.chRx (64 * k + c)).isEmpty && (Store.get noFlits x.part c).isEmpty &&
      !(x.circ.any fun q => q.1 == c) && !(x.circRx.any fun q => q.1 == c)

/-- Whether the safe point of a validated commit is now: each block's condition, after validation. -/
def State.commitSafe (s : State) (p : Pending) : Bool :=
  let d := s.dev
  let tick := decide (p.vtick < d.now.tick)
  let stage := d.arrayRuns && decide (p.vcyc < d.now.cyc)
  match blockAt p.page with
  | some (5, _) => (d.changed p).all fun o =>
      (List.range 4).all fun h => !((s.hart h).st == .running && (s.hart h).slot == (o - R.sup_HS_ENTRY 0) / 0x10)
  | some (6, _) => tick && !d.pausing p
  | some (9, pg) => if pg ≤ 8 then tick else d.trigSafe p
  | some (10, q) => tick && d.jobs.all fun j => !(j.piped && j.pipe == q && j.st == .writing)
  | some (14, _) => stage && d.now.cyc % 16 == 0
  | some (15, 0) => true
  | some (15, _) => stage
  | some (17, 1) => d.arrayRuns && (d.changed p).all fun o =>
      let q := (o - R.obs_SAMPLE_CFG 0) / 8
      !(runState (d.pipeState q)) || d.sampleK q == 0 || d.now.cyc % 2 ^ d.sampleK q == 0
  | some (22, t) => d.queues.all fun e => tenantOf e.1 != t || e.2.turn.isNone
  | some (23, _) => (d.queue ((p.page - 0x800000) / 0x40)).turn.isNone
  | some (24, _) => stage
  | some (29, k) => if 4 ≤ k then stage && d.now.cyc % 16 == 0 && d.chSafe p (k - 4) else tick
  | _ => tick

/-! ### Applying a set -/

/-- The RWC fields of a snapshot become the committed set in one cycle (R35). -/
def Device.applySet (d : Device) (p : Pending) : Device :=
  (d.changed p).foldl (fun (d : Device) o =>
    d.setReg o ((d.reg o &&& ~~~(rwcMask o)) ||| (p.get o &&& rwcMask o))) d

/-- SET_POS: the channel's position becomes v, with no remainder (R75). -/
def Device.setPos (d : Device) (c : Nat) (v : Int) : Device :=
  let x := d.ch c
  if x.st = .coasting ∧ d.chEnabled c then d.setCh c { x with coastU := v, coastT := d.now.tick }
  else d.setCh c { x with u := v, rem := 0, frozen := v }

/-- A set of channel c stands over the device `old` (R72, R75): restart, hold, PAST entries, and then SET_POS as a jump. -/
def Device.chCommitted (d old : Device) (c : Nat) : Device :=
  let u := old.chU c
  let diff := fun (off : Nat) (m : Word) => (d.reg off ^^^ old.reg off) &&& m != 0
  let enabling := !old.chEnabled c && d.chEnabled c
  let restart := enabling || diff (R.plb_SRC c) 0x173#32 || diff (R.plb_NUM c) 0xFFFFFFFF#32 || diff (R.plb_DEN c) 0xFFFFFFFF#32
  let d1 := if restart then d.startCh c u
    else if old.chEnabled c && !d.chEnabled c then d.setCh c { d.ch c with u := u, frozen := u, vel := 0, win := [], st := .off }
    else d
  let d2 := if enabling then d1.dueReached c u ⟨d1.now.tick, true, false, false, 0⟩ else d1
  let d3 := if d2.rf (R.plb_SET_CTRL c) 0 1 = 1 then
      ((d2.setF (R.plb_SET_CTRL c) 0 1 0).setSh (R.plb_SET_CTRL c) 0).jump c fun d => d.setPos c (sext 64 (d.rn64 (R.plb_SET_POS_LO c)))
    else d2
  d3.repredictCh c

/-- A channel's set is applied: what its position has already reached falls due first (chapter 3's Edges). -/
def Device.applyChannel (d : Device) (p : Pending) (c : Nat) : Device :=
  let old := (d.duePredicted c (· ≤ d.now.tick)).syncCh c
  let was := (old.ch c).st
  let d1 := old.withResume c fun x => (x.applySet p).chCommitted x c
  if was ≠ .stalled ∧ (d1.ch c).st = .stalled then d1.onStall c else d1

/-- RESV and CAPACITY of port k after a commit of its channels (R547). -/
def Device.resvSync (d : Device) (k : Nat) : Device :=
  let d1 := d.setN (R.lwl_RESV k) (resv16 d.reg k / 16)
  d1.setF (R.lwl_PORT_STATUS k) 7 1 (b2n (d.lwState k == 3 && d.rf (R.lwl_PORT_STATUS k) 2 1 == 1 && decide (16 * 900 < resv16 d.reg k)))

/-- A commit of LWL page k: ENABLE cleared or RATE changed takes the link down, ENABLE set starts training (R535, chapter 20's Edges). The
cause that a change of RATE reports is a free value (log entry 144). -/
def Device.portCommitted (d old : Device) (k : Nat) : Device :=
  let on := fun (x : Device) => x.rf (R.lwl_PORT_CFG k) 0 1 = 1
  if on old ∧ !on d then d.linkDown k 3
  else if !on old ∧ on d then d.lwTrain k
  else if d.rf (R.lwl_PORT_CFG k) 1 2 ≠ old.rf (R.lwl_PORT_CFG k) 1 2 then
    let (w, d1) := d.fresh
    d1.linkDown k (w.toNat % 4)
  else d

/-- A commit of a transceiver page: a lane whose rate, PCS or enable changed locks anew (R507, chapter 19). -/
def Device.laneCommitted (d old : Device) (l : Nat) : Device :=
  let m : Word := 0x7#32
  if d.reg (R.xcv_RATE l) ≠ old.reg (R.xcv_RATE l) ∨ (d.reg (R.xcv_LANE_CFG l) ^^^ old.reg (R.xcv_LANE_CFG l)) &&& m ≠ 0 then
    d.setN (R.xcv_LANE_STATUS l) 0
  else d

/-- A commit of an Ethernet port: MODE, FEC or ENABLE changed takes the link down (chapter 19). -/
def Device.ethCommitted (d old : Device) (k : Nat) : Device :=
  let m : Word := 0x80000017#32
  if (d.reg (R.eth_PORT_CFG k) ^^^ old.reg (R.eth_PORT_CFG k)) &&& m ≠ 0 ∧ d.ethUp k then
    ((d.setN (R.eth_PORT_STATUS k) 0).evtBit (0x2030000 + 0x1000 * k) 16).err (0x2030000 + 0x1000 * k) 0x0100 (wd k) 0
  else d

/-- A commit of an IOB page: VCCO_GOOD follows the declared supply (R502), and the presence outputs follow. -/
def Device.iobCommitted (d : Device) (b : Nat) : Device :=
  (d.setF (R.iob_BANK_STAT b) 16 1 (b2n (d.vccoIn b (d.rf (R.iob_BANK_STAT b) 0 13)))).presenceSync

/-- A commit of a WST page: a changed stream that is enabled starts at its SADDR (Table 7.9). -/
def Device.wstCommitted (d : Device) (p : Pending) (j : Nat) : Device :=
  ((List.range 8).filter fun i => p.get (R.wst_SCFG j i) |> fun v => fld v 0 1 == 1).foldl (fun (d : Device) i =>
    (d.setN (R.wst_SPOS j i) (d.rf (R.wst_SADDR j i) 0 17)).setSlice j
      { d.slice j with stopped := (d.slice j).stopped.filter fun x => !(x == i) }) d

/-- A commit of a tile page clears its contexts' FRAME_ORD and its rotators (R122, chapter 6). -/
def Device.tileCommitted (d : Device) (k : Nat) : Device :=
  let d1 := (List.range 8).foldl (fun (d : Device) c => d.setN (R.trw_FRAME_ORD k c) 0) d
  { d1 with tmem := Store.set tileMem0 d1.tmem k { Store.get tileMem0 d1.tmem k with rcfg := [] } }

/-- A commit of the sampling page: the open interval of a changed pipeline ends as PARTIAL, and the next is its first (R610). -/
def Device.sampleCommitted (d : Device) (p : Pending) : Device :=
  (((d.changed p).map fun o => (o - R.obs_SAMPLE_CFG 0) / 8).dedup).foldl (fun (d : Device) q =>
    let d1 := d.closeInterval q true
    { d1 with trace := { d1.trace with samp := Store.set samp0 d1.trace.samp q { Store.get samp0 d1.trace.samp q with first := true } } }) d

/-- A commit of the trace ring: ENABLE set makes TRACE_WR and TRACE_RD 0 (R616). -/
def Device.traceCommitted (d old : Device) : Device :=
  if d.rf R.obs_TRACE_CTRL 0 1 = 1 ∧ old.rf R.obs_TRACE_CTRL 0 1 = 0 then (d.setN R.obs_TRACE_WR 0).setN R.obs_TRACE_RD 0 else d

/-- The area bases follow the sizes (Table 15.2). -/
def Device.areasCommitted (d : Device) : Device :=
  (List.range 5).foldl (fun (d : Device) a => d.setN (R.hbm_AREA_BASE a) (d.areaBase a / 2 ^ 20)) d

/-- A POW set stands: domains and S_LIMIT follow (R454, R460). -/
def Device.powCommitted (d : Device) : Device :=
  d.domainsChanged.limitLowered

/-- Whether the watchdog of queue g watches: enabled, with a weight and a time (R384). -/
def Device.wdogRuns (d : Device) (g : Nat) : Bool := d.qEnabled g && d.qWeight g != 0 && d.rf (R.qst_TIMERS g) 16 16 != 0

/-- A whole set is applied with its block's effects. -/
def Device.applyCommit (d : Device) (p : Pending) : Device :=
  let d1 := d.applySet p
  match blockAt p.page with
  | some (6, _) => d1.powCommitted
  | some (7, _) => d1.throttles
  | some (9, pg) => if 1 ≤ pg ∧ pg ≤ 8 then d.applyChannel p (pg - 1) else d1
  | some (14, j) => d1.wstCommitted { p with snap := p.snap.filter fun e => (d.changed p).any fun o => o / 0x10 == e.1 / 0x10 } j
  | some (15, 0) => d1.areasCommitted
  | some (17, 0) => d1.traceCommitted d
  | some (17, _) => (d.sampleCommitted p).applySet p
  | some (23, _) =>
    let g := (p.page - 0x800000) / 0x40
    if d.qEnabled g ∧ !d1.qEnabled g then d1.disableQueue g
    else if !d.wdogRuns g && d1.wdogRuns g then d1.setQueue g { d1.queue g with wdogTick := d1.now.tick }
    else d1
  | some (24, k) => d1.tileCommitted k
  | some (25, b) => d1.iobCommitted b
  | some (26, _) => d1.clkApplied d.reg
  | some (27, l) => d1.laneCommitted d l
  | some (28, k) => d1.ethCommitted d k
  | some (29, k) => if 4 ≤ k then d1.resvSync (k - 4) else d1.portCommitted d k
  | _ => d1

/-- The safe point of the commit that a page shows as PENDING. -/
def commitSafePoint (page t cyc : Nat) (s : State) : State :=
  let s0 := { s with dev := (s.dev.at t).atCyc cyc }
  match s0.dev.pendOf page with
  | none => s0
  | some p => if p.valid && s0.commitSafe p then { s0 with dev := (s0.dev.applyCommit p).commitDone page } else s0
/-- COMMIT_SAFE_POINT (R35, R36). -/
def execCommitSafePoint (page t cyc : Nat) (s : State) : Host.Outcome State Fault Refusal := onState (commitSafePoint page t cyc) s

/-! ### The pausing commit (R462) -/

/-- Pipelines with a frame in flight. -/
def Device.flightPipes (d : Device) : List Nat :=
  (List.range 64).filter fun p => d.jobs.any fun j => j.isFrame && j.pipe == p && j.inFlight

/-- The hold of a pausing POW commit: in a window in which no commit pause has yet affected a pipeline with a frame in flight, the
set is applied, every frame in flight is debited 40 cycles of COMMIT_PAUSE, and the array clock stops for 40 periods of the outgoing
clock. -/
def commitHold (t cyc : Nat) (d : Device) : Device :=
  let d0 := (d.at t).atCyc cyc
  match d0.pendOf 0xC000 with
  | none => d0
  | some p =>
    let ps := d0.flightPipes
    let w := d0.window
    let paused := fun (w : Nat) => (List.range 64).any fun q => (d0.pipe q).pauseWin == some w
    if !p.valid || !d0.pausing p || !d0.arrayRuns || paused w then d0
    else
      let first := p.vtick / 1000000
      let deferred := decide (first < w) && paused first
      let len := (40000 + d0.mhz - 1) / d0.mhz
      let d1 := (List.range 64).foldl (fun (d : Device) q =>
        let d1 := d.debitPipe q 4 40
        if ps.contains q then d1.setPipe q { d1.pipe q with pauseWin := some w } else d1) (d0.countStretch.count R.pow_PAUSES 1)
      let d2 := (d1.applySet p).powCommitted
      let d3 := d2.setPow { d2.pow with hold := some (d2.now.tick + len) }
      let d4 := if deferred then d3.evtBit 0xC000 21 else d3
      d4.commitDone 0xC000
/-- COMMIT_HOLD (R462). -/
def execCommitHold (t cyc : Nat) (s : State) : Host.Outcome State Fault Refusal := onDev (commitHold t cyc) s

/-- The hold ends: the array clock runs at the committed frequency. -/
def holdEnd (t : Nat) (d : Device) : Device :=
  let d0 := d.at t
  match d0.pow.hold with
  | none => d0
  | some e =>
    if d0.now.tick < e then d0
    else
      let d1 := (d0.setPow { d0.pow with hold := none }).setF R.pow_POW_STATUS 0 10 (d0.rf R.pow_STAGE_CLK 0 10)
      (List.range 64).foldl (fun (d : Device) p => d.setIntrusion p) d1
/-- HOLD_END (R462). -/
def execHoldEnd (t : Nat) (s : State) : Host.Outcome State Fault Refusal := onDev (holdEnd t) s

/-! ### The thermal trip (R466) -/

/-- The trip: a sensor at or above 115 °C, or more than four sensors FAILED (none). A validated POW commit applies at once, with no hold
(chapter 17's Edges). -/
def thermalTrip (k : Option (Fin 64)) (t : Nat) (d : Device) : Device :=
  let d0 := d.at t
  let cond : Bool := match k with
    | some i => d0.rf (R.thm_SENSOR i.val) 16 1 == 0 && decide (1840 ≤ tempOf (d0.reg (R.thm_SENSOR i.val)))
    | none => decide (4 < d0.rf R.thm_FAILED_COUNT 0 7)
  if d0.tripped || !cond then d0
  else
    let (w, d1) := match k with
      | some i => (d0.reg (R.thm_SENSOR i.val), d0.countStretch)
      | none => d0.countStretch.fresh
    let sensor := (k.map Fin.val).getD 0x3F
    let d2 := (d1.setN R.thm_TRIP_STATUS (1 + 2 + 65536 * sensor)).setF R.thm_TRIP_TEMP 0 16 (fld w 0 16)
    let d3 := ((d2.err 0xE000 0x0101 (wd sensor) (wd (fld w 0 16))).evtBit 0xE000 21).presenceSync
    match d3.pendOf 0xC000 with
    | some p =>
      let d4 := (d3.applySet p).powCommitted
      if p.valid then (d4.setF R.pow_POW_STATUS 0 10 (d4.rf R.pow_STAGE_CLK 0 10)).commitDone 0xC000 else d3
    | none => d3
/-- THERMAL_TRIP (R466). -/
def execThermalTrip (k : Option (Fin 64)) (t : Nat) (s : State) : Host.Outcome State Fault Refusal := onDev (thermalTrip k t) s

end Sys2Proof.Machine
end

