-- ==== Sys2Proof/Machine/Scrub.lean ====
section
/-! DEFINITION. Machine/Scrub.lean: the Sanding scrubber: scans, corrections, rewrites from the golden copy, scrub pauses, and its own
settings (chapter 22, R583 to R593; R307). -/
namespace Sys2Proof

/-- CLASS of an item (Table 22.2). -/
def ScrubItem.cls : ScrubItem → Nat
  | .lath _ _ => 0
  | .out _ _ _ => 1
  | .del _ _ _ => 1
  | .prog _ _ => 2
  | .hawk _ _ => 3
  | .act _ _ => 3
  | .wst _ _ => 4

/-- The logical tile, block or slice of an item. -/
def ScrubItem.unit : ScrubItem → Nat
  | .lath b _ => b.val
  | .out k _ _ => k.val
  | .del k _ _ => k.val
  | .prog k _ => k.val
  | .hawk k _ => k.val
  | .act k _ => k.val
  | .wst j _ => j.val

/-- Word, frame or line within it, where chapter 22 numbers it: none for stencil entries and table words (log entry 137). -/
def ScrubItem.place : ScrubItem → Option Nat
  | .lath _ f => some f.val
  | .prog _ w => some w.val
  | .hawk _ w => some w.val
  | .wst _ l => some l.val
  | _ => none

/-- The memory, unit, first word and number of words with a check code that an item is read as. -/
def ScrubItem.words : ScrubItem → Machine.MemKind × Nat × Nat × Nat
  | .lath b f => (.lathFrame, b.val, 64 * f.val, 64)
  | .out k dir s => (.outEntry, k.val, 16 * dir.val + s.val, 1)
  | .del k dir s => (.delEntry, k.val, 16 * dir.val + s.val, 1)
  | .prog k w => (.prog, k.val, w.val, 1)
  | .hawk k w => (.hawk, k.val, w.val, 1)
  | .act k w => (.act, k.val, w.val, 1)
  | .wst j l => (.wst, j.val, 4 * l.val, 4)

end Sys2Proof

namespace Sys2Proof.Machine

/-! ### Coverage (R583, R591, R307) -/

/-- Whether R307 keeps the scrubber out of region r's stencils, programs and Lath frames. -/
def Device.inRework (d : Device) (r : Nat) : Bool := d.pipeState r == 6 || (d.tapeState r == 1 && d.taped r)

/-- Whether stage cycle c offers slice j's array to the scrubber (Table 22.2, class 4). -/
def Device.wstOpen (d : Device) (j c : Nat) : Bool :=
  (List.range 8).all fun i => !(d.rf (R.wst_SCFG j i) 0 1 == 1 && d.rf (R.wst_SCFG j i) (16 + c % 16) 1 == 1)

/-- Whether the page whose commit R591 names is PENDING. -/
def Device.pendingPage (d : Device) (pg : Nat) : Bool := d.pend.any fun c => c.page == pg

/-- The hot slot of tile k whose lines include 64-bit word w of its Hawk. -/
def Device.hawkSlot (d : Device) (k w : Nat) : Option Nat :=
  (List.range (d.numSlots k)).find? fun s => decide (d.slotFirst k s ≤ w / 16 ∧ w / 16 < d.slotFirst k s + d.slotLines k)

/-- The slot of tile k whose activation tables include 64-bit word w of the table store. -/
def Device.actSlot (d : Device) (k w : Nat) : Option Nat :=
  (List.range (d.numSlots k)).find? fun s =>
    let b := d.rf (R.trw_SLOT_ACT k s) 0 5
    decide (b ≤ w / 64 ∧ w / 64 < b + d.rf (R.trw_SLOT_ACT k s) 8 4)

/-- Whether the scrubber may read item i in stage cycle c and write it: the class is enabled, and the item exists and is not excluded. -/
def Device.scannable (d : Device) (i : ScrubItem) (c : Nat) : Bool :=
  let tileOn := fun (k : Nat) => d.bit64 R.pow_BAY_ON_LO (bayOf k) && !d.pendingPage (tilePage k)
  let free := fun (k : Nat) => !(d.regionOf k).any d.inRework
  d.rf R.snd_SND_CFG i.cls 1 == 1 && d.rf R.snd_SND_STATUS 1 1 == 0 &&
  match i with
  | .lath b _ => d.boot.core && d.boot.devReset.isNone && d.blockState b == 2 && !(decide (d.owner b < 64) && d.inRework (d.owner b))
  | .out k _ s => d.arrayRuns && tileOn k && (decide (12 ≤ s.val) || free k)
  | .del k _ s => d.arrayRuns && tileOn k && (decide (12 ≤ s.val) || free k)
  | .prog k w => d.arrayRuns && tileOn k && free k && decide (w.val < 64 * d.nCtx k)
  | .hawk k w => d.arrayRuns && tileOn k && (d.hawkSlot k w).isSome
  | .act k _ => d.arrayRuns && tileOn k
  | .wst j _ => d.arrayRuns && d.bit64 R.pow_SLICE_ON_LO j && !d.pendingPage (wstPage j) && d.wstOpen j c

/-! ### The golden copy (R586 to R590) -/

/-- Where an item's golden words lie: a part of the golden copy (a region section, or none for the base section), or the skim
library. -/
inductive GoldPart where
  | region (r : Nat)
  | base
  | library
  deriving DecidableEq, Repr

/-- Bytes of one tile's share of a body, of its Hawk lines or of its tables; a word beyond them is 0 (R270). -/
def shareWord (body : List Byte) (hit : Nat → Bool) (tables : Bool) (o : Nat) : List Byte :=
  match ((shares body.length body).getD []).find? fun x => hit x.rel with
  | none => List.replicate 8 0
  | some x => padTo 8 (slice_ (if tables then x.act else x.hawk) o 8)

/-- The golden word at byte o of tile k's share of the skim in slot s, with its part. -/
def Device.goldShare (d : Device) (k s : Nat) (tables : Bool) (o : Nat) : Option (GoldPart × List Byte) :=
  match d.regionOf k with
  | none => none
  | some r =>
    let x := d.slotSkim r s
    let st := d.slotState r s
    if st = 0 ∨ st = 1 then none
    else
      let body := if x = 0 then sectD d.golden 0x15 r else (d.libAt x).body
      some (if x = 0 then .region r else .library, shareWord body (fun rel => d.relTile r rel == k) tables o)

/-- The fill record of the golden copy that wrote line l of slice j, with its part: a region's over the base's. -/
def Device.goldLine (d : Device) (j l : Nat) : Option (GoldPart × List Byte) :=
  let hit := fun (s : Sect) => ((wstRecs s.plain).map (·.2)).getD [] |>.findSome? fun f =>
    if f.slice = j ∧ f.line ≤ l ∧ l < f.line + f.count then some (slice_ f.bytes (32 * (l - f.line)) 32) else none
  ((d.golden.filter fun s => s.type == 0x13).findSome? fun s => (hit s).map fun b => (.region s.index, b)).or
    ((d.golden.filter fun s => s.type == 4).findSome? fun s => (hit s).map fun b => (.base, b))

/-- The golden value of the stencil entry of a key (deliveries 2^18 higher), with its part. -/
def Device.goldEntry (d : Device) (k key : Nat) : GoldPart × Nat :=
  let val := fun (es : List (Nat × Nat)) => ((es.find? fun e => e.1 == key).map (·.2)).getD 0
  if 12 ≤ key % 16 then (.base, val (baseEntries (sectD d.golden 2 0)).1)
  else match d.regionOf k with
    | none => (.base, 0)
    | some r => (.region r, val (regionEntries (sectD d.golden 0x12 r) ((recs d.golden r).map fun x => d.relTile r x.rel)))

/-- The part of the golden copy that holds an item, and the write of it from there; none: the item has no source (R588). -/
def Device.golden? (d : Device) (i : ScrubItem) : Option (GoldPart × (Device → Device)) :=
  match i with
  | .lath b f =>
    let o := d.owner b
    let (part, l) := if o < 64 then (GoldPart.region o, sectD d.golden 0x14 o) else (.base, sectD d.golden 3 0)
    ((lathOf l).frames.find? fun x => farKey x.1 == 1280 * b.val + f.val).map fun x => (part, fun d =>
      (d.setLath { d.lath with
        frames := Store.set frame0 d.lath.frames (1280 * b.val + f.val) x.2.2
        crcs := Store.set zeroN d.lath.crcs (1280 * b.val + f.val) x.2.1 }).mend .lathFrame b fun w => w / 64 == f.val)
  | .out k dir s =>
    let key := skey k dir s
    let g := d.goldEntry k key
    some (g.1, fun d => d.writeEntries [(key, g.2)] [])
  | .del k dir s =>
    let key := skey k dir s + 2 ^ 18
    let g := d.goldEntry k key
    some (g.1, fun d => d.writeEntries [(key, g.2)] [])
  | .prog k w =>
    match d.regionOf k with
    | none => none
    | some r => (((recs d.golden r).find? fun x => d.relTile r x.rel == k.val).bind fun x => x.ops[w.val]?).map fun op =>
      (.region r, fun d =>
        let m := d.tmemOf k
        (d.setTmem k { m with prog := Store.set op0 m.prog w op }).mend .prog k fun x => x == w.val)
  | .hawk k w =>
    match d.hawkSlot k w with
    | none => none
    | some s => (d.goldShare k s false (8 * w.val - 128 * d.slotFirst k s)).map fun g => (g.1, fun d =>
        let m := d.tmemOf k
        (d.setTmem k { m with hawk := Memory.wrBytes m.hawk (8 * w.val) g.2 }).mend .hawk k fun x => x == w.val)
  | .act k w =>
    match d.actSlot k w with
    | none => none
    | some s => (d.goldShare k s true (8 * w.val - 512 * d.rf (R.trw_SLOT_ACT k s) 0 5)).map fun g => (g.1, fun d =>
        let m := d.tmemOf k
        (d.setTmem k { m with act := Memory.wrBytes m.act (8 * w.val) g.2 }).mend .act k fun x => x == w.val)
  | .wst j l => (d.goldLine j l).map fun g => (g.1, fun d => d.writeFill ⟨j, l, 1, g.2⟩)

/-- Whether a part of the golden copy is known bad (R590). -/
def Device.goldenBad (d : Device) : GoldPart → Bool
  | .region r => d.bit64 R.snd_GOLDEN_BAD_LO r
  | .base => d.rf R.snd_BASE_GOLDEN_BAD 0 1 == 1
  | .library => false

/-! ### Scanning (R583 to R585) -/

/-- The first word from v on that PROGRESS_SIG has not taken in the pass (R593). -/
def nextSig (used : List Word) : Nat → Word → Word
  | 0, v => v
  | n + 1, v => if used.contains v then nextSig used n (v + 1) else v

/-- PROGRESS_SIG and CLASS_NOW after an item has been read. -/
def Device.progress (d : Device) (i : ScrubItem) : Device :=
  let (w, d1) := d.fresh
  let used := d1.reg R.snd_PROGRESS_SIG :: d1.scrub.sigs
  let v := nextSig used used.length w
  ({ d1 with scrub := { d1.scrub with sigs := v :: d1.scrub.sigs } }.setReg R.snd_PROGRESS_SIG v).setF R.snd_SND_STATUS 4 3 i.cls

/-- A corrected word of an item (R585). -/
def Device.scrubCe (d : Device) (i : ScrubItem) (u : Upset) : Device :=
  let d1 := (d.mend u.mem u.unit (· == u.word)).countCe (R.snd_CE i.cls)
  match i with
  | .lath b _ => d1.countCe (R.lth_CFG_CE b)
  | _ => d1

/-- An uncorrectable item is counted and UE_FOUND raised (R586 to R589); `src` says whether it has a source. -/
def Device.scrubUe (d : Device) (i : ScrubItem) (src : Bool) : Device :=
  let d1 := d.count (R.snd_UE i.cls) 1
  let d2 := match i with
    | .lath b f => ((d1.count (R.lth_CFG_UE b) 1).err 0xF8000 0x0100 (wd (65536 * b.val + f.val)) 0).evtBit 0xF8000 16
    | _ => d1
  let (hi, d3) := match i.place with
    | some n => (wd n, d2)
    | none => d2.fresh
  d3.err 0xF0000 0x0103 (wd (i.cls + 8 * b2n (!src) + 16 * i.unit)) hi

/-- Whether a line or table that no source rewrites shows NOSRC: a weight-store line that no fill record wrote (R588). -/
def Device.hasSource (d : Device) (i : ScrubItem) : Bool :=
  match i with
  | .wst j l => (d.goldLine j l).isSome
  | _ => true

/-- The next item is read: single-bit errors are corrected in place, an uncorrectable one is counted and its golden words are fetched. -/
def scrubScan (i : ScrubItem) (t cyc : Nat) (d : Device) : Device :=
  let d0 := (d.at t).atCyc cyc
  if !d0.scannable i cyc then d0
  else
    let (m, u, w, n) := i.words
    let ms := d0.marks m u w n
    let d1 := (ms.filter fun x => !x.ue).foldl (fun d x => d.scrubCe i x) (d0.progress i)
    let crcBad := match i with
      | .lath b f => ms.isEmpty && (crc16 (d0.frame b f)).toNat != Store.get zeroN d0.lath.crcs (1280 * b.val + f.val)
      | _ => false
    if !ms.any (·.ue) && !crcBad then d1
    else
      let d2 := d1.scrubUe i (d1.hasSource i)
      let fetch := d2.rf R.snd_SND_CFG 8 1 == 1 && (d2.golden? i).any (fun g => !d2.goldenBad g.1) &&
        !d2.scrub.reads.contains i && !d2.scrub.ready.any fun x => x.2 == i
      if fetch then { d2 with scrub := { d2.scrub with reads := d2.scrub.reads ++ [i] } } else d2
/-- SCRUB_SCAN (R583, R585). -/
def execScrubScan (i : ScrubItem) (t cyc : Nat) (s : State) : Host.Outcome State Fault Refusal := onDev (scrubScan i t cyc) s

/-! ### Rewrites (R586 to R590) -/

/-- An item is rewritten from its golden words. -/
def Device.rewrite (d : Device) (i : ScrubItem) : Device :=
  match d.golden? i with
  | none => d
  | some g => ((g.2 d).count R.snd_REWRITES 1).evtBit 0xF0000 17

/-- The region whose pause a rewrite of the item needs: that of a program word or region-slot entry, while it runs (R586). -/
def Device.pauseFor (d : Device) (i : ScrubItem) : Option Nat :=
  let r := match i with
    | .out k _ s => if s.val < 12 then d.regionOf k else none
    | .del k _ s => if s.val < 12 then d.regionOf k else none
    | .prog k _ => d.regionOf k
    | _ => none
  r.filter fun r => runState (d.pipeState r)

/-- Whether some context of the item's tile has the item's slot active (R588). -/
def Device.slotHeld (d : Device) (i : ScrubItem) : Bool :=
  let held := fun (k : Nat) (s : Option Nat) => s.any fun s => (List.range (d.nCtx k)).any fun c => (d.ctx k c).slot == some s
  match i with
  | .hawk k w => held k (d.hawkSlot k w)
  | .act k w => held k (d.actSlot k w)
  | _ => false

/-- The golden copy returned an uncorrectable word at HBM address `a` (R590). -/
def Device.goldenUe (d : Device) (part : GoldPart) (a : Nat) : Device :=
  let d1 := d.hbmMark ⟨.hbm, 0, a / 8, true⟩
  let d2 := match part with
    | .region r => d1.setF (R.snd_GOLDEN_BAD_LO + 4 * (r / 32)) (r % 32) 1 1
    | .base => d1.setN R.snd_BASE_GOLDEN_BAD 1
    | .library => d1
  let lo := match part with
    | .region r => r
    | _ => 0xFF
  ((d2.count R.snd_GOLDEN_UE_COUNT 1).err 0xF0000 0x0101 (wd lo) (wd a)).evtBit 0xF0000 18

/-- The golden words of item i have been read; `ue` is the address of an uncorrectable word among them. -/
def goldenReadDone (i : ScrubItem) (ue : Option Nat) (t cyc : Nat) (d : Device) : Device :=
  let d0 := (d.at t).atCyc cyc
  if !d0.scrub.reads.contains i ∨ !d0.scannable i cyc then d0
  else
    let drop := fun (d : Device) => { d with scrub := { d.scrub with reads := d.scrub.reads.filter fun x => !(x == i) } }
    match d0.golden? i, ue with
    | none, _ => drop d0
    | some g, some a => (drop d0).goldenUe g.1 a
    | some g, none =>
      if d0.goldenBad g.1 then drop d0
      else match d0.pauseFor i with
        | some r =>
          let d1 := drop d0
          let wait := (d1.pipe r).scrubWin == some d1.window && !d1.scrub.ready.any fun x => x.1 == r
          let d2 := { d1 with scrub := { d1.scrub with ready := d1.scrub.ready ++ [(r, i)] } }
          if wait then d2.count R.snd_DEFERRED 1 else d2
        | none => if d0.slotHeld i then d0 else (drop d0).rewrite i
/-- GOLDEN_READ_DONE (R586, R588 to R590). -/
def execGoldenReadDone (i : ScrubItem) (ue : Option Nat) (t cyc : Nat) (s : State) : Host.Outcome State Fault Refusal :=
  onDev (goldenReadDone i ue t cyc) s

/-! ### Scrub pauses (R587) -/

/-- A scrub pause of region p begins at a slot-0 cycle: up to 16 items are rewritten in it, and every frame in flight is debited its
length. A region that runs no more needs no pause (R586). -/
def scrubPause (p : Fin 64) (t cyc : Nat) (d : Device) : Device :=
  let d0 := (d.at t).atCyc cyc
  let mine := (d0.scrub.ready.filter fun x => x.1 == p.val).map (·.2)
  let items := mine.take 16
  let left := mine.drop 16
  let keep := d0.scrub.ready.filter fun x => !(x.1 == p.val)
  if mine.isEmpty ∨ cyc % 16 ≠ 0 ∨ p.val ∈ d0.scrub.paused ∨ d0.pipeState p = 6 then d0
  else if !runState (d0.pipeState p) then mine.foldl Device.rewrite { d0 with scrub := { d0.scrub with ready := keep } }
  else if (d0.pipe p).scrubWin = some d0.window then d0
  else
    let n := 32 * items.length
    let d1 := items.foldl Device.rewrite { d0 with
      scrub := { d0.scrub with
        ready := keep ++ left.map fun i => (p.val, i)
        paused := p.val :: d0.scrub.paused
        ends := Store.set zeroN d0.scrub.ends p (cyc + n) } }
    let d2 := ((d1.count R.snd_PAUSE_CYCLES n).count (R.snd_REGION_PAUSES p) 1).debitPipe p 3 n
    let d3 := d2.setPipe p { d2.pipe p with scrubWin := some d2.window }
    if left.isEmpty then d3 else d3.count R.snd_DEFERRED 1
/-- SCRUB_PAUSE (R587). -/
def execScrubPause (p : Fin 64) (t cyc : Nat) (s : State) : Host.Outcome State Fault Refusal := onArray (scrubPause p t cyc) s

/-- The scrub pause of region p ends: the region runs on. -/
def scrubPauseEnd (p : Fin 64) (t cyc : Nat) (d : Device) : Device :=
  let d0 := (d.at t).atCyc cyc
  if p.val ∈ d0.scrub.paused ∧ Store.get zeroN d0.scrub.ends p ≤ cyc then
    { d0 with scrub := { d0.scrub with
      paused := d0.scrub.paused.filter fun x => !(x == p.val)
      ends := Store.del p d0.scrub.ends } }
  else d0
/-- SCRUB_PAUSE_END (R587). -/
def execScrubPauseEnd (p : Fin 64) (t cyc : Nat) (s : State) : Host.Outcome State Fault Refusal := onArray (scrubPauseEnd p t cyc) s

/-! ### Passes and the scrubber's own settings (R584, R592, R593) -/

/-- SND_STATUS.RUNNING (R593). -/
def Device.scrubbing (d : Device) : Bool :=
  d.boot.core && d.boot.devReset.isNone && d.rf R.snd_SND_CFG 0 5 != 0 && d.rf R.snd_SND_STATUS 1 1 == 0

/-- A pass has covered every item of every enabled class once: the next begins. -/
def scrubPassDone (t : Nat) (d : Device) : Device :=
  let d0 := d.at t
  if !d0.scrubbing then d0
  else
    let n := d0.now.tick - d0.scrub.passTick
    let d1 := (d0.count R.snd_PASS_COUNT 1).setN R.snd_LAST_PASS_US (n / 1000)
    let d2 := if n > 20000000 then (d1.setF R.snd_SND_STATUS 2 1 1).evtBit 0xF0000 19 else d1
    { d2 with scrub := { d2.scrub with passTick := d2.now.tick, sigs := [] } }
/-- SCRUB_PASS_DONE (R584). -/
def execScrubPassDone (t : Nat) (s : State) : Host.Outcome State Fault Refusal := onDev (scrubPassDone t) s

/-- The fields of SND_CFG. -/
abbrev sndMask : Word := 0x11F#32

/-- The vote over the three copies of SND_CFG, in which the bits `f` of each copy have changed: one that disagrees is rewritten from the
others; when all three differ, scrubbing halts, which is a device fault. -/
def sndVote (f0 f1 f2 : BitVec 32) (t : Nat) (d : Device) : Device :=
  let d0 := d.at t
  let v := d0.reg R.snd_SND_CFG
  let copy := fun i f => v ^^^ Store.get zeroW d0.scrub.copies i ^^^ (f &&& sndMask)
  let a := copy 0 f0
  let b := copy 1 f1
  let c := copy 2 f2
  let fix := fun (x : Word) (i : Nat) =>
    ((({ d0 with scrub := { d0.scrub with copies := [] } }.setReg R.snd_SND_CFG x).count R.snd_TMR_FIX_COUNT 1).err 0xF0000 0x0102
      (wd i) 0).evtBit 0xF0000 20
  if !(d0.boot.core && d0.boot.devReset.isNone) ∨ d0.rf R.snd_SND_STATUS 1 1 = 1 then d0
  else if a = b ∧ b = c then { d0 with scrub := { d0.scrub with copies := [] } }.setReg R.snd_SND_CFG a
  else if a = b then fix a 2
  else if a = c then fix a 1
  else if b = c then fix b 0
  else
    let x := (a &&& b) ||| (a &&& c) ||| (b &&& c)
    let st := Store.set zeroW (Store.set zeroW (Store.set zeroW [] 0 (a ^^^ x)) 1 (b ^^^ x)) 2 (c ^^^ x)
    let d1 := ({ d0 with scrub := { d0.scrub with copies := st } }.setReg R.snd_SND_CFG x).setF R.snd_SND_STATUS 1 1 1
    ((d1.evtBit 0xF0000 16).err 0xF0000 0x0100 0 0).deviceFault 0x0100
/-- SND_VOTE (R592). -/
def execSndVote (f0 f1 f2 : BitVec 32) (t : Nat) (s : State) : Host.Outcome State Fault Refusal := onDev (sndVote f0 f1 f2 t) s

/-- A write of SND_CFG writes all three copies; only MGMT and SUPERVISOR write it (R607). -/
def sndCfgWrite (q : Req) (d : Device) : Device :=
  d.writeAt q R.snd_SND_CFG fun d =>
    if whoOk .mgmtSup q.port R.snd_SND_CFG then
      { d with scrub := { d.scrub with copies := [] } }.setReg R.snd_SND_CFG (q.data &&& sndMask)
    else d.errAccess 0x0001 q.port R.snd_SND_CFG true
/-- SND_CFG_WRITE (R592, R607). -/
def execSndCfgWrite (q : Req) (s : State) : Host.Outcome State Fault Refusal := onDev (sndCfgWrite q) s

end Sys2Proof.Machine
end

