-- ==== Sys2Proof/Machine/Live.lean ====
section
/-! DEFINITION. Machine/Live.lean: what a register reads whose value is computed at the read from the block's state, and the value
that a read returns (R22, R23, R26 to R34, R46, R56, and the register table of each chapter). -/
namespace Sys2Proof.Machine

/-- A word from fields: value and lowest bit. -/
def pack (l : List (Nat × Nat)) : Word := wd (l.foldl (fun n x => n + x.1 * 2 ^ x.2) 0)

/-- A word whose bit i is `f i`. -/
def bits32 (f : Nat → Bool) : Word := wd ((List.range 32).foldl (fun n i => n + b2n (f i) * 2 ^ i) 0)

/-- The half of a 64-bit value that the word at `off` of the pair at `lo` holds. -/
def half (off lo v : Nat) : Word := if off = lo then wd v else wd (v / 2 ^ 32)

/-- Whether an offset is either word of a pair. -/
def inPair (off lo : Nat) : Bool := off == lo || off == lo + 4

/-! ### Always-on blocks -/

/-- A counter of events that lie on a line, in a die or at the far end of the link, and that no command carries: what it reads has grown by
a free amount (log entries 106, 113 and 150). -/
def Device.lineCount (d : Device) (off : Nat) : Word := d.reg off + Config.freeRead off d.now.tick

/-- PGD: DIR_STATE_n and BAY_GATED (Table 2.7). -/
def Device.livePgd (d : Device) (o : Nat) : Option Word :=
  if 0x100 ≤ o ∧ o < 0x2F0 ∧ o % 0x10 = 8 then
    let n := (o - 0x100) / 0x10
    let all := (entryPages n).all d.lostPage
    let any := (entryPages n).any d.lostPage
    some (pack [(1, 0), (b2n all, 1), (b2n (any && !all), 2), (b2n (n == 23), 3)])
  else if o = R.pgd_BAY_GATED_LO ∨ o = R.pgd_BAY_GATED_HI then some (~~~(d.reg (if o = R.pgd_BAY_GATED_LO then R.pow_BAY_ON_LO else R.pow_BAY_ON_HI)))
  else none

/-- PRT: PORT_INFO (Table 12.9). -/
def Device.livePrt (d : Device) (o : Nat) : Option Word :=
  if o = R.prt_PORT_INFO then
    some (pack [(d.rf R.idn_FUSE_STATE 8 1, 0), (b2n (d.lwState 0 == 3), 1), (b2n (d.lwState 1 == 3), 2), (b2n (d.lwState 2 == 3), 3),
      (b2n (d.lwState 3 == 3), 4), (b2n d.fabricUp, 5), (d.rf R.prt_PORT_INFO 6 1, 6)])
  else none

/-- The limit on outstanding requests (R312). -/
def Device.tagLimit (d : Device) : Nat := if d.hif.tag10 then 768 else if d.hif.tagExt then 256 else 32

/-- HIF: PF_STATUS, SRIOV, TAGS, L1_ENTRIES, VF_FLR_BUSY and VF_BME (Table 12.10). The most requests outstanding is the device's own timing
(log entry 143). -/
def Device.liveHif (d : Device) (off : Nat) : Option Word :=
  if off = R.hif_PF_STATUS 0 ∨ off = R.hif_PF_STATUS 1 then
    let x := d.fn ((off - R.hif_PF_STATUS 0) / 4)
    some (pack [(b2n x.bme, 0), (b2n x.msixEn, 1), (b2n x.fmask, 2), (b2n x.flr, 3), (if x.d3 then 3 else 0, 4)])
  else if off = R.hif_SRIOV then some (pack [(d.hif.numVfs % 2048, 0), (b2n d.hif.vfEnable, 16), (b2n d.hif.ari, 17)])
  else if off = R.hif_L1_ENTRIES then some (d.lineCount off)
  else if off = R.hif_TAGS then
    some (pack [(d.tagLimit, 0), ((Config.freeRead off d.now.tick).toNat % (d.tagLimit + 1), 16)])
  else if R.hif_VF_FLR_BUSY 0 ≤ off ∧ off < R.hif_VF_FLR_BUSY 32 then
    some (bits32 fun i => (d.fn (2 + 32 * ((off - R.hif_VF_FLR_BUSY 0) / 4) + i)).flr)
  else if R.hif_VF_BME 0 ≤ off ∧ off < R.hif_VF_BME 32 then
    some (bits32 fun i => (d.fn (2 + 32 * ((off - R.hif_VF_BME 0) / 4) + i)).bme)
  else none

/-- POW: the stretch counts run while the step is not 0 (R460). -/
def Device.livePow (d : Device) (off : Nat) : Option Word :=
  if inPair off R.pow_STRETCHED_LO ∨ inPair off R.pow_STRETCH_SUM_LO then some (d.countStretch.reg off)
  else none

/-- The milliseconds left of a timer. -/
def msLeft (fin now : Nat) : Nat := (fin - now + 999999) / 1000000

/-- FLT: REMAIN_MS, SINCE_HB_MS and the log record that LOG_SEL names (Table 22.6). -/
def Device.liveFlt (d : Device) (off : Nat) : Option Word :=
  let r := Store.get logRec0 d.fltLog (d.rf R.flt_LOG_SEL 0 6)
  if off = R.flt_LADDER_STATE then
    some (setFld (d.reg off) 16 16 (if d.rf off 0 2 = 0 then 0 else msLeft (d.ladderTick + 1000000 * d.rf off 16 16) d.now.tick))
  else if off = R.flt_SWD_STATE then
    some (setFld (d.reg off) 16 16 (min 65535 ((d.sup.swd.map fun x => (d.now.tick - x) / 1000000).getD 0)))
  else if off = R.flt_LOG_SRC then some (wd r.src)
  else if off = R.flt_LOG_CODE then some (if r.cls = 3 then 0 else pack [(r.code, 0), (r.cls, 16), (1, 31)])
  else if off = R.flt_LOG_INFO_LO then some r.lo
  else if off = R.flt_LOG_INFO_HI then some r.hi
  else if inPair off R.flt_LOG_TICK_LO then some (half off R.flt_LOG_TICK_LO r.tick)
  else none

/-! ### Plumb (Tables 3.3 to 3.5) -/

/-- The state of channel c as a read sees it: a source without edges has counted up to the present tick (R78). -/
def Device.chNow (d : Device) (c : Nat) : Chan := (d.syncCh c).ch c

/-- EDGE_TICK of channel c: while COASTING the present tick (R82); a PTP source's last tick that carried a count (R78). -/
def Device.edgeTick (d : Device) (c : Nat) : Nat :=
  let x := d.chNow c
  if d.chState c = 4 then d.now.tick
  else if d.srcKind c = 2 ∧ x.tEdge = d.now.tick ∧ x.st ≠ .stalled ∧ d.ptpNs (d.srcPort c) (d.now.tick - 1) = d.ptpNs (d.srcPort c) d.now.tick then
    d.now.tick - 1
  else x.tEdge

/-- PLB page 0 and page 9. -/
def Device.livePlb (d : Device) (off : Nat) : Option Word :=
  if R.plb_REF_STAT 0 ≤ off ∧ off < R.plb_REF_STAT 8 then
    let x := Store.get refIn0 d.plb.ins ((off - R.plb_REF_STAT 0) / 4)
    some (pack [(b2n (x.lastEdge.any fun t => decide (d.now.tick ≤ t + 1000000)), 0), (b2n x.level, 1)])
  else if inPair off R.plb_TICK_LO then some (half off R.plb_TICK_LO d.now.tick)
  else if off = R.plb_EVQ_USED then some (wd d.evqUsed)
  else none

/-- PLB page c + 1: channel c. -/
def Device.liveCh (d : Device) (c off : Nat) : Option Word :=
  let x := d.chNow c
  if inPair off (R.plb_POS_LO c) then some (half off (R.plb_POS_LO c) (d.chP c))
  else if inPair off (R.plb_EDGE_POS_LO c) then
    some (half off (R.plb_EDGE_POS_LO c) (if d.chState c = 4 then d.chP c else d.toP c x.u))
  else if inPair off (R.plb_EDGE_TICK_LO c) then some (half off (R.plb_EDGE_TICK_LO c) (d.edgeTick c))
  else if inPair off (R.plb_VEL_LO c) then some (half off (R.plb_VEL_LO c) (toBits 64 (d.chVel c)))
  else if off = R.plb_CH_STATE c then
    some (pack [(d.chState c, 0), (b2n x.mains.lock, 8), ((d.plb.entries.filter fun e => e.ch == c && !(e.hand.isSome && e.kind == .release)).length, 16)])
  else if off = R.plb_REM c then some (if d.chState c = 4 then 0 else wd x.rem)
  else none

/-! ### The array (Tables 4.6, 7.7, 8.6, 9.6, 11.5) -/

/-- TILE_STATE of tile k. -/
def Device.tileState (d : Device) (k : Nat) : Word :=
  let t := d.tile k
  let c := d.now.cyc
  let ctx := if c < t.switchEnd then t.prev else t.active
  let st := if d.nCtx k = 0 then 0 else if t.halted then 5 else if t.fillWait.isSome then 3 else if c < t.switchEnd then 4
    else if c < t.free then 2 else 1
  match (d.ctx k ctx).slot with
  | some s => pack [(st, 0), (ctx, 4), (s % 16, 8)]
  | none => pack [(st, 0), (ctx, 4), (1, 12)]

/-- The logical tile page of tile k. -/
def Device.liveTile (d : Device) (k off : Nat) : Option Word :=
  let t := d.tile k
  let occ := fun q => min 127 (t.queue q).length
  if off = R.trw_TILE_STATE k then some (d.tileState k)
  else if off = R.trw_QUEUE_OCC_IN k then some (pack [(occ 0, 0), (occ 1, 8), (occ 2, 16), (occ 3, 24)])
  else if off = R.trw_QUEUE_OCC_OUT k then some (pack [(occ 4 + t.reserved 0, 0), (occ 5 + t.reserved 1, 8)])
  else if inPair off (R.trw_PROG_WORD_LO k) then
    let s := d.rn (R.trw_PROG_SEL k)
    some (half off (R.trw_PROG_WORD_LO k) (d.opWord k (fld (wd s) 0 3) (fld (wd s) 8 6)))
  else if R.trw_ISSUE_CYCLES_LO k ≤ off ∧ off < R.trw_HAWK_CE_COUNT k then some ((d.account k d.now.cyc).reg off)
  else none

/-- The SCH page of pipeline p. -/
def Device.liveSch (d : Device) (p off : Nat) : Option Word :=
  if off = R.sch_FLIGHT p then some (wd (min 65535 (d.jobs.filter fun j => j.isFrame && j.pipe == p && j.inFlight).length))
  else if off = R.sch_ENTRY_BACKLOG p then some (wd (d.backlog p))
  else if off = R.sch_WINDOW_DEBIT p then some ((d.settle p).reg off)
  else none

/-- Links under the tape of region r, array-edge links included (R301, Table 11.5): both directions of eight links on each bay side. -/
def Device.borderLinks (d : Device) (r : Nat) : Nat :=
  if d.rf (R.sch_REGION r) 31 1 = 0 then 0 else 32 * (d.rf (R.sch_REGION r) 8 4 + d.rf (R.sch_REGION r) 12 4) / 2

/-- Net records of the crossings of region r's blocks (R302). -/
def Device.lathNets (d : Device) (r : Nat) : Nat := (d.lath.nets.filter fun e => d.owner (e.1 / 1024) == r).length

/-- DAD pages 0 to 3: region r. -/
def Device.liveDad (d : Device) (pg off : Nat) : Option Word :=
  if 4 ≤ pg ∨ off % 0x1000 < 0x100 ∨ 0x500 ≤ off % 0x1000 then none
  else
    let i := (off % 0x1000 - 0x100) / 0x40
    let r := 16 * pg + i
    if off = R.dad_TAPE_STATE pg i then some (setFld (d.reg off) 8 1 (b2n (0 < d.lathNets r)))
    else if off = R.dad_BORDER_LINKS pg i then some (wd (d.borderLinks r))
    else if off = R.dad_LATH_NETS pg i then some (wd (d.lathNets r))
    else none

/-- SKM page 1 and the slot table (Tables 10.10, 10.11). -/
def Device.liveSkm (d : Device) (off : Nat) : Option Word :=
  let x := d.rf R.skm_LIB_SEL 0 14
  let e := d.libAt x
  if off = R.skm_LIB_ENTRY then
    some (if e.st = 0 then 0 else pack [(e.st, 0), (b2n e.owner.isNone, 15), (e.owner.getD 0, 16)])
  else if inPair off R.skm_LIB_HASH_LO then some (half off R.skm_LIB_HASH_LO e.hash)
  else if off = R.skm_LIB_BYTES then some (wd (4096 * e.units))
  else if off = R.skm_LIB_HOT then some (wd ((List.range 64).filter fun p => x ≠ 0 && (d.slotOf p x).any fun s => d.slotState p s == 2).length)
  else if off = R.skm_LIB_FREE_UNITS then some (wd (d.libArea - d.libUnits fun _ => true))
  else if off = R.skm_LIB_COUNT then some (wd (d.lib.filter fun e => e.2.st == 2).length)
  else if 0x63100 ≤ off ∧ off < 0x63900 ∨ 0x64100 ≤ off ∧ off < 0x64900 then
    let p := 32 * ((off - 0x63000) / 0x1000) + (off % 0x1000 - 0x100) / 0x40
    let s := off % 0x40 / 4
    some (setFld (setFld (d.reg off) 20 1 (b2n (decide (s < d.pipeSlots p) && d.slotPinned p s))) 21 1 (b2n (d.slotActive p s)))
  else none

/-- SCM pages 0 and 1. -/
def Device.liveScm (d : Device) (off : Nat) : Option Word := if off = R.scm_SLOT_NOW then some (wd (d.now.cyc % 16)) else none

/-! ### Queues and tenants (Tables 13.7, 14.2 to 14.5, 15.5, 15.6) -/

/-- The status bits that a queue's state decides: ENABLED and IDLE. -/
def Device.queueBits (d : Device) (g : Nat) (w : Word) : Word := setFld (setFld w 0 1 (b2n (d.qEnabled g))) 1 1 (b2n (d.qIdle g))

/-- The push window of queue g. -/
def Device.livePush (d : Device) (g off : Nat) : Option Word :=
  let x := d.queue g
  if off = R.pw_TAIL g then some (wd x.tail)
  else if off = R.pw_HEAD g then some (d.reg (R.qst_HEAD g))
  else if off = R.pw_STATUS g then
    some (d.queueBits g (pack [(b2n (d.qStat g 2), 2), (b2n (d.qRunahead g), 3), (d.rf off 4 1, 4), (b2n (d.qStat g 4), 5), (b2n (d.qStat g 3), 6),
      (b2n (Store.get pushSlot0 x.push 0).armed, 8), (b2n (Store.get pushSlot0 x.push 1).armed, 9),
      (b2n (Store.get pushSlot0 x.push 2).armed, 10), (b2n (Store.get pushSlot0 x.push 3).armed, 11), (d.qN g, 24)]))
  else none

/-- The entry of queue g. -/
def Device.liveQst (d : Device) (g off : Nat) : Option Word :=
  if off = R.qst_QSTATUS g then some (setFld (d.queueBits g (d.reg off)) 7 1 (b2n (d.queue g).fence.isSome))
  else none

/-- The queues that any register or state of the queue engine names, in ascending order. -/
def Device.namedQueues (d : Device) : List Nat :=
  d.regs.filterMap fun e => if 0x800000 ≤ e.1 ∧ e.1 < 0xC00000 ∧ e.1 % 0x40 = 0x28 then some ((e.1 - 0x800000) / 0x40) else none

/-- QEN page 0: WDOG_QUEUE. -/
def Device.liveQen (d : Device) (off : Nat) : Option Word :=
  if off = R.qen_WDOG_QUEUE then
    some (match d.namedQueues.find? fun g => d.qStat g 5 with
      | some g => pack [(g, 0), (1, 31)]
      | none => 0)
  else none

/-- HOD page e: READS_OUT is the engine's own timing while it stages a job, and 0 otherwise (log entry 143). -/
def Device.liveHod (d : Device) (e off : Nat) : Option Word :=
  if off = R.hod_READS_OUT e then
    some (if d.jobs.any fun j => j.isFrame && j.st == .staging && j.pipe % 16 == e then
      wd ((Config.freeRead off d.now.tick).toNat % (d.rf (R.hod_HOD_CFG e) 0 6 + 1)) else 0)
  else none

/-- JTK: USED and SUPPRESSED. -/
def Device.liveJtk (d : Device) (off : Nat) : Option Word :=
  if off = R.jtk_USED then some (wd d.trackerUsed)
  else if off = R.jtk_SUPPRESSED then some (wd (d.jobs.filter fun j => j.orphan).length)
  else none

/-- The TEN page of tenant t. -/
def Device.liveTen (d : Device) (t off : Nat) : Option Word :=
  if off = R.ten_JOBS_NOW t then some (wd (d.jobsNow t))
  else if off = R.ten_SKIM_UNITS t then some (wd (d.libUnits fun e => e.owner == some t))
  else if off = R.ten_BUF_HELD t then some (pack [(d.heldTen true t, 0), (d.heldTen false t, 16)])
  else none

/-- HBM pages 0 to 2, and ONDIE_COUNT of the channel pages. -/
def Device.liveHbm (d : Device) (pg off : Nat) : Option Word :=
  if 16 ≤ pg then if off = R.hbm_ONDIE_COUNT pg 0 ∨ off = R.hbm_ONDIE_COUNT pg 1 then some (d.lineCount off) else none
  else if off = R.hbm_STACKS then some (wd (d.rf R.sec_HBM_TRAIN 0 2))
  else if off = R.hbm_FILL_RESERVED then some (wd ((List.range 64).foldl (fun n p => n + d.rn (R.skm_FILL_RATE p)) 0))
  else if R.hbm_PIPE_HELD 0 ≤ off ∧ off < R.hbm_PIPE_HELD 64 then
    let p := (off - R.hbm_PIPE_HELD 0) / 4
    some (pack [(d.heldAll true p, 0), (d.heldAll false p, 16)])
  else if off = R.hbm_FREE_SHARED then some (pack [(d.freeShared true, 0), (d.freeShared false, 16)])
  else if R.hbm_EGR_WAIT 0 ≤ off ∧ off < R.hbm_EGR_WAIT 64 then some ((d.egrWaitEnd ((off - R.hbm_EGR_WAIT 0) / 4)).reg off)
  else none

/-! ### Lath, board, Linwald, counters (Tables 18.7, 19.7, 19.9, 20.6, 23.3) -/

/-- LTH pages. -/
def Device.liveLth (d : Device) (off : Nat) : Option Word :=
  let fill := fun (m : Store (List Flit)) (r : Nat) => min 32 (Store.get noFlits m r).length
  if off = R.lth_LTH_STATE then some (wd (b2n d.fabricUp))
  else if R.lth_BLOCK_STATE 0 ≤ off ∧ off < R.lth_BLOCK_STATE 64 then
    some (setFld (d.reg off) 2 1 (b2n (d.brst ((off - R.lth_BLOCK_STATE 0) / 4))))
  else if R.lth_LPORT_CFG 0 ≤ off ∧ off < R.lth_LPORT_CFG 64 then
    some (setFld (d.reg off) 5 1 (b2n (decide (d.owner (portBlock ((off - R.lth_LPORT_CFG 0) / 4)) < 64))))
  else if R.lth_LPORT_STAT 0 ≤ off ∧ off < R.lth_LPORT_STAT 64 then
    let r := (off - R.lth_LPORT_STAT 0) / 4
    some (pack [(fill d.edge.lpTx r, 0), (fill d.edge.lpRx r, 8)])
  else if R.lth_LP_RX_WAIT 0 ≤ off ∧ off < R.lth_LP_RX_WAIT 64 then some ((d.countRxWait ((off - R.lth_LP_RX_WAIT 0) / 4)).reg off)
  else none

/-- XCV pages: the counts of line errors and of words received while BRST is asserted. -/
def Device.liveXcv (d : Device) (pg off : Nat) : Option Word :=
  if off = R.xcv_CODE_ERR pg ∨ off = R.xcv_PRBS_ERR pg ∨ off = R.xcv_RX_DROPPED pg then some (d.lineCount off) else none

/-- ETH pages 0 and 1: the FEC counts. ETH page 2: the PTP clocks. -/
def Device.liveEth (d : Device) (pg off : Nat) : Option Word :=
  let p := (off - R.eth_PTP_SEC_LO 0) / 0x40
  let ns := d.ptpNs p d.now.tick
  if pg < 2 then if off = R.eth_FEC_CORR pg ∨ off = R.eth_FEC_UNCORR pg then some (d.lineCount off) else none
  else if off < R.eth_PTP_SEC_LO 0 ∨ R.eth_PTP_SEC_LO 2 ≤ off then none
  else if inPair off (R.eth_PTP_SEC_LO p) then some (half off (R.eth_PTP_SEC_LO p) ((ns / 1000000000 % 2 ^ 48).toNat))
  else if off = R.eth_PTP_NS p then some (wd (ns % 1000000000).toNat)
  else none

/-- LWL pages: PEER_TX_WAIT, FEC_CORR and CH_STATUS. -/
def Device.liveLwl (d : Device) (pg off : Nat) : Option Word :=
  if pg < 4 then
    if off = R.lwl_PEER_TX_WAIT pg then some ((d.lwSettle pg).reg off)
    else if off = R.lwl_FEC_CORR pg then some (d.lineCount off) else none
  else
    let k := pg - 4
    let c := (off % 0x1000 - 0x100) / 0x10
    if off % 0x1000 < 0x100 ∨ off ≠ R.lwl_CH_STATUS k c then none
    else
      let x := d.lw k
      let circuit := d.chKind k c == 1
      let tx := if circuit then (x.circ.filter fun q => q.1 == c).length else (d.chTx k c).length
      let rx := if circuit then (x.circRx.filter fun q => q.1 == c).length
        else (Store.get noFlits d.edge.chRx (64 * k + c)).length + (Store.get noFlits x.part c).length
      let open_ := if circuit then d.circuitOpen k c else d.chKind k c ≠ 0 && d.lwState k == 3
      some (pack [(b2n open_, 0), (b2n (circuit && d.latShort k c), 1), (min 511 (tx + rx), 16)])

/-- OBS page 0 and page 2: the records held and the values captured for requester `p` (R615, R619). -/
def Device.liveObs (d : Device) (p : Port) (off : Nat) : Option Word :=
  let k := reqKey p
  let t := fun i => Store.get zeroN d.trace.tcap (32 * k + i)
  if off = R.obs_TRACE_HELD then some (wd d.trace.held.length)
  else if off = R.obs_QSEL then some (wd (Store.get zeroN d.trace.qsel k))
  else if off = R.obs_TSEL then some (wd (Store.get zeroN d.trace.tsel k))
  else if R.obs_QCNT 0 ≤ off ∧ off < R.obs_QCNT 4 then some (wd (Store.get zeroN d.trace.qcap (4 * k + (off - R.obs_QCNT 0) / 4)))
  else if R.obs_TCNT 0 ≤ off ∧ off < R.obs_TCNT 15 then some (wd (t ((off - R.obs_TCNT 0) / 4)))
  else if inPair off R.obs_TBYTES_IN_LO then some (half off R.obs_TBYTES_IN_LO (t 16))
  else if inPair off R.obs_TBYTES_OUT_LO then some (half off R.obs_TBYTES_OUT_LO (t 17))
  else if off = R.obs_TRUNAHEAD_DISCARD then some (wd (t 18))
  else none

/-! ### The supervisor's page -/

/-- SUP page 0: HART_STATE, EVQ_USED, CYC, and SW_VALUE of the requesting hart (Table 16.11). -/
def State.liveSup (s : State) (p : Port) (off : Nat) : Option Word :=
  if R.sup_HART_STATE 0 ≤ off ∧ off < R.sup_HART_STATE 4 then
    let x := s.hart ((off - R.sup_HART_STATE 0) / 4)
    let st := match x.st with
      | .off => 0
      | .idle => 1
      | .running => 2
      | .faulted => 3
    some (pack [(st, 0), (x.slot % 64, 8)])
  else if off = R.sup_EVQ_USED then some (wd s.dev.sup.evq.length)
  else if off = R.sup_SW_VALUE then some (match p with
    | .supervisor h => Store.get zeroW s.dev.sup.swv h.val
    | _ => 0)
  else if inPair off R.sup_CYC_LO then some (half off R.sup_CYC_LO s.dev.now.hcyc)
  else none

/-! ### The value of a register -/

/-- What the header computes at a read (Table 2.1): STATUS, EVT_PENDING, and a COMMIT that reads 0. -/
def Device.liveHdr (d : Device) (off : Nat) : Option Word :=
  match off % 0x1000 with
  | 0x14 => some (setFld (setFld (d.reg off) 0 1 1) 1 1 (d.rf (pageOf off + 0x30) 31 1))
  | 0x18 => some 0
  | 0x28 => some (d.evtPending (pageOf off))
  | _ => none

/-- The fields that a read shows: a WO field reads 0 (Table 0.4). -/
def shown (off : Nat) (v : Word) : Word :=
  match regDefAt off with
  | none => 0
  | some r => r.fields.foldl (fun v f => if f.acc == .wo then setFld v f.lo f.w 0 else v) v

/-- The word that the register at `off` holds for requester `p`: computed, captured or stored. -/
def State.word (s : State) (p : Port) (off : Nat) : Word :=
  let d := s.dev
  match blockAt off with
  | none => 0
  | some (n, pg) =>
    let hdr := n ≠ 23 && n ≠ 31 && decide (off % 0x1000 < 0x100) && off % 0x1000 ≠ 0x10
    let live := if hdr then d.liveHdr off else match n with
      | 0 => d.livePgd off
      | 2 => d.livePrt off
      | 3 => d.liveHif off
      | 5 => s.liveSup p off
      | 6 => d.livePow off
      | 8 => d.liveFlt off
      | 9 => if 1 ≤ pg ∧ pg ≤ 8 then d.liveCh (pg - 1) off else d.livePlb off
      | 10 => d.liveSch pg off
      | 11 => d.liveSkm off
      | 12 => d.liveDad pg off
      | 13 => d.liveScm off
      | 15 => d.liveHbm pg off
      | 16 => if off = R.snd_SND_STATUS then some (setFld (d.reg off) 0 1 (b2n d.scrubbing)) else none
      | 17 => d.liveObs p off
      | 18 => d.liveLth off
      | 19 => d.liveQen off
      | 20 => d.liveHod pg off
      | 21 => d.liveJtk off
      | 22 => d.liveTen pg off
      | 23 => d.liveQst ((off - 0x800000) / 0x40) off
      | 24 => d.liveTile pg off
      | 27 => d.liveXcv pg off
      | 28 => d.liveEth pg off
      | 29 => d.liveLwl pg off
      | 31 => d.livePush pg off
      | _ => none
    match live with
    | some v => v
    | none => if hdr then d.reg off else shown off (d.reg off)

/-- The value of a read by `p` of the word at `off` that its page performs (R30): HI of a pair reads what the LO read before it
captured. -/
def State.readWord (s : State) (p : Port) (off : Nat) : Word :=
  match (regDefAt off).map (·.pair) with
  | some 2 => ((s.dev.pairOf p (off - 4)).captured).getD (s.word p off)
  | _ => s.word p off

end Sys2Proof.Machine
end

