-- ==== Sys2Proof/Machine/Pages.lean ====
section
/-! DEFINITION. Machine/Pages.lean: writes to the common header and to the registers that have no row of their own: masks, event
enables and routes, first-error records, LO/HI pairs, counters cleared by a write, and the PGD records (R28 to R34, R48 to R54, R61,
R64, R127, R392). -/
namespace Sys2Proof.Machine

/-! ### The common header (R48 to R54) -/

/-- A write of PAGE_PORTS: only MGMT's acts (R48, R49). -/
def Device.portsWrite (d : Device) (p : Port) (pg : Nat) (v : Word) : Device :=
  if portCode p ≠ 0 then d.errAccess 0x0001 p (pg + 0xC) true else (d.narrow pg (fld v 0 7) (fld v 31 1) v true).2

/-- A write of EVT_ENABLE may expose set EVT_RAW bits (R52). -/
def Device.enableWrite (d : Device) (pg : Nat) (v : Word) : Device :=
  (d.setReg (pg + 0x24) v).evtRise pg (d.evtPending pg)

/-- The size of the MSI-X table that FUNC names on a page, where it may be named (R53). -/
def routeSize (pg func : Nat) : Option Nat :=
  match func with
  | 0 => some (msixSize 0)
  | 1 => some (msixSize 1)
  | 2 => if (pageOwner pg).isSome then some (msixSize 2) else none
  | _ => none

/-- A write of EVT_ROUTE: RANGE for a FUNC or VECTOR that R53 refuses; a tenant sets VECTOR and TO_MSIX, and FUNC reads 2. -/
def Device.routeWrite (d : Device) (p : Port) (pg : Nat) (v : Word) : Device :=
  let tenant := portCode p = 2
  let func := if tenant then 2 else fld v 12 2
  if (routeSize pg func).all fun n => decide (n ≤ fld v 0 12) then d.errValue 0x0003 p (pg + 0x2C) v
  else if tenant then ((d.setF (pg + 0x2C) 0 12 (fld v 0 12)).setF (pg + 0x2C) 12 2 2).setF (pg + 0x2C) 30 1 (fld v 30 1)
  else d.setReg (pg + 0x2C) (v &&& 0xC03F3FFF#32)

/-- A W1C of ERR_FIRST.VALID clears CODE, ERR_COUNT and ERR_INFO with it (R54). -/
def Device.clearErr (d : Device) (pg : Nat) : Device :=
  let d1 := (((d.setReg (pg + 0x30) 0).setReg (pg + 0x34) 0).setReg (pg + 0x38) 0).setReg (pg + 0x3C) 0
  if pg = 0xD0000 then { d1 with hbmUe := false } else d1

/-- A W1C of VALID of a PGD record clears it, its count and its last address (R64, chapter 2's Edges). -/
def Device.clearPgd (d : Device) (base : Nat) : Device := d.zeroRegs [base, base + 4, base + 8, base + 0xC]

/-! ### Counters cleared by a write (CTRL.CLEAR_COUNTS of each chapter) -/

/-- The counters that CLEAR_COUNTS of page `pg` of entry n zeroes. -/
def countersOf (n pg : Nat) : List Nat :=
  let each := fun (k : Nat) (f : Nat → List Nat) => ((List.range k).map f).flatten
  let pair := fun (lo : Nat) => [lo, lo + 4]
  match n with
  | 3 => if pg = 3 then [R.hif_MSIX_DROPPED, R.hif_BME_DROPPED, R.hif_CPL_FAIL_COUNT, R.hif_ATS_REQUESTS, R.hif_ATS_INVALIDATES,
      R.hif_UR_RECEIVED] else []
  | 5 => if pg = 0 then [R.sup_EVQ_HIGH, R.sup_EVQ_HELD_COUNT, R.sup_EVQ_DISCARD, R.sup_HB_COUNT, R.sup_TMR_MERGED, R.sup_SP_CE_COUNT,
      R.sup_SP_UE_COUNT] ++ each 64 fun i => [R.sup_HS_MAXUSED i] else []
  | 6 => if pg = 0 then pair R.pow_STRETCHED_LO ++ pair R.pow_STRETCH_SUM_LO ++ [R.pow_CLIP_EVENTS, R.pow_CLIP_AT_LIMIT, R.pow_PAUSES] ++
      each 16 fun g => [R.pow_GROUP_OVER g] else []
  | 8 => [R.flt_ESCALATIONS, R.flt_SWD_EXPIRIES, R.flt_LOG_OVERRUN]
  | 11 => if pg = 2 then [R.skm_FILLS, R.skm_FILL_PROMOTED, R.skm_WARMUPS, R.skm_RA_WARMUPS, R.skm_EVICTIONS, R.skm_FILL_FAULTS,
      R.skm_FILL_WAIT_MAX] else []
  | 12 => if pg < 4 then each 16 fun r => [R.dad_TOKENS_SENT pg r, R.dad_SKIM_MISSING_COUNT pg r, R.dad_REWORK_COUNT pg r,
      R.dad_BLOCKED_COUNT pg r] else []
  | 13 => if pg = 0 then [R.scm_ORPHAN_COUNT, R.scm_LINK_CE_COUNT, R.scm_LINK_UE_COUNT, R.scm_MISALIGN_COUNT, R.scm_CTL_ACCESSES,
      R.scm_CTL_MAX_LAT, R.scm_SHARE_TAKEN_COUNT] else []
  | 14 => pair (R.wst_READS_LO pg) ++ pair (R.wst_MERGED_LO pg) ++ [R.wst_COLLISION_COUNT pg, R.wst_CE_COUNT pg, R.wst_UE_COUNT pg]
  | 15 => if pg = 2 then each 64 fun p => [R.hbm_ING_CONTENTION p, R.hbm_EGR_CONTENTION p, R.hbm_EGR_WAIT p] else []
  | 16 => [R.snd_PASS_COUNT, R.snd_TMR_FIX_COUNT, R.snd_REWRITES, R.snd_DEFERRED, R.snd_PAUSE_CYCLES, R.snd_GOLDEN_UE_COUNT] ++
      (each 5 fun c => [R.snd_CE c, R.snd_UE c]) ++ each 64 fun r => [R.snd_REGION_PAUSES r]
  | 17 => if pg = 0 then [R.obs_TRACE_LOST] else []
  | 18 => if pg = 0 then [R.lth_LRA_ACCESSES, R.lth_LRA_DENIED] ++
      (each 64 fun b => [R.lth_CFG_CE b, R.lth_CFG_UE b, R.lth_BRAM_CE b, R.lth_BRAM_UE b, R.lth_LP_RX_WAIT b, R.lth_LP_FLUSHED b]) else []
  | 19 => if pg = 0 then pair R.qen_TURNS_LO ++ [R.qen_CANCEL_REJECTS, R.qen_CANCEL_LATE, R.qen_DISCARDED] else []
  | 20 => pair (R.hod_BYTES_IN_LO pg) ++ pair (R.hod_BYTES_OUT_LO pg) ++ [R.hod_JOBS_STAGED pg, R.hod_READ_FAILS pg]
  | 21 => if pg = 0 then [R.jtk_HIGH, R.jtk_FULL_TURNS] else []
  | 22 => [R.ten_WINDOW_FAULTS pg, R.ten_QUOTA_TURNS pg]
  | 24 => pair (R.trw_ISSUE_CYCLES_LO pg) ++ pair (R.trw_GATED_CYCLES_LO pg) ++ pair (R.trw_WAIT_IN_LO pg) ++ pair (R.trw_WAIT_OUT_LO pg) ++
      [R.trw_HAWK_CE_COUNT pg, R.trw_MEM_UE_COUNT pg]
  | 26 => if pg = 3 then (each 8 fun k => [R.clk_PLL_UNLOCKS k]) ++ [R.clk_STUCK_SWITCHES, R.clk_OVERFREQS] else []
  | 27 => [R.xcv_CODE_ERR pg, R.xcv_PRBS_ERR pg, R.xcv_RX_DROPPED pg]
  | 29 => if pg < 4 then [R.lwl_REPLAYS pg, R.lwl_LINK_DOWNS pg, R.lwl_CRC_ERR pg, R.lwl_FEC_CORR pg, R.lwl_FEC_UNCORR pg,
      R.lwl_FRAME_NACKS pg, R.lwl_PEER_TX_WAIT pg, R.lwl_RX_DISCARD pg, R.lwl_RX_FLUSHED pg] else []
  | _ => []

/-- Counts that run are brought up to the present moment before they are cleared, so that nothing older counts afterwards. -/
def Device.countNow (d : Device) (n pg : Nat) : Device :=
  match n with
  | 6 => d.countStretch
  | 15 => (List.range 64).foldl (fun d p =>
      if (d.pipe p).egrWant.isSome then d.setPipe p { d.pipe p with egrWant := some d.now.cyc } else d) d
  | 18 => (List.range 64).foldl (fun d r => d.countRxWait r) d
  | 24 => d.account pg d.now.cyc
  | 29 => if pg < 4 then d.lwSettle pg else d
  | _ => d

/-- CLEAR_COUNTS of a page. -/
def Device.clearPage (d : Device) (n pg : Nat) : Device := (d.countNow n pg).zeroRegs (countersOf n pg)

/-- A write of CTRL: CLEAR_COUNTS acts and reads 0; LTH has USER_RESET beside it (Table 18.7). -/
def Device.ctrlWrite (d : Device) (pg : Nat) (v : Word) : Device :=
  match blockAt pg with
  | none => d
  | some (n, i) =>
    let d1 := if n = 18 ∧ i = 0 then d.setF (pg + 0x10) 1 1 (fld v 1 1) else d
    if fld v 0 1 = 1 then d1.clearPage n i else d1

/-! ### Registers without a row of their own -/

/-- Whether the fields of the register at `off` are RWC, and a tenant writes its own page: R392 refuses it. -/
def tenantBarred (p : Port) (off : Nat) : Bool :=
  portCode p == 2 && (match blockAt off with
    | some (22, _) => true
    | _ => false) && ((regDefAt off).map fun r => r.rwc).getD false

/-- The RW bits of the register at `off`. -/
def rwMask (off : Nat) : Word :=
  ((regDefAt off).map fun r => r.fields.foldl (fun w f => if f.acc == .rw then setFld w f.lo f.w (2 ^ f.w - 1) else w) 0#32).getD 0#32

/-- Whether a requester may write the RW fields of the register at `off`. -/
def mayWrite (p : Port) (off : Nat) : Bool := ((regDefAt off).map fun r => r.fields.all fun f => f.acc == .ro || whoOk f.who p off).getD true

/-- A write of `v` to a LO word of an RW pair goes to the requester's staging register (R31). -/
def Device.stageLo (d : Device) (p : Port) (off : Nat) (v : Word) : Device :=
  if mayWrite p off then d.setPair { d.pairOf p off with staged := some (v &&& rwMask off), captured := none }
  else d.errAccess 0x0001 p off true

/-- A write of `v` to a HI word of an RW pair writes both words (R31). -/
def Device.writeHi (d : Device) (p : Port) (off : Nat) (v : Word) : Device :=
  if mayWrite p off then d.writePairHi p (off - 4) (v &&& rwMask off) else d.errAccess 0x0001 p off true

/-- What a written register starts beside holding its value: a timer's period (R440), the rate of a PTP clock (R511), and a queue's
first error cleared whole (Table 14.2). -/
def Device.afterWrite (d : Device) (off : Nat) (v : Word) : Device :=
  if off ∈ (List.range 4).map R.sup_TMR_PERIOD then
    { d with sup := { d.sup with tmr := Store.set zeroN d.sup.tmr ((off - R.sup_TMR_PERIOD 0) / 8) d.now.tick } }
  else match blockAt off with
    | some (23, _) => if off % 0x40 = 0x2C ∧ fld v 31 1 = 1 then d.zeroRegs [off, off + 4, off + 8, off + 0xC] else d
    | _ => d

/-- A new PTP_ADJ: the clock runs on from its present value at the new rate, and the channels that count it are predicted again. -/
def Device.adjWrite (d : Device) (p : Nat) (v : Word) : Device :=
  let chs := (List.range 8).filter fun c => d.chEnabled c && d.srcKind c == 2 && d.srcPort c == p
  let d1 := chs.foldl (fun d c => (d.duePredicted c (· ≤ d.now.tick)).syncCh c) d
  let d2 := (d1.setPtp p (d1.ptpAt p d1.now.tick)).setReg (R.eth_PTP_ADJ p) v
  chs.foldl (fun d c => d.repredictCh c) d2

/-- A write of `v` by `p` to the register at `off` under its access types (R28, R31, R34, R61, R392). -/
def Device.plainWrite (d : Device) (p : Port) (off : Nat) (v : Word) : Device :=
  if tenantBarred p off then d.errAccess 0x0001 p off true
  else if isPairRw off 1 then d.stageLo p off v
  else if isPairRw off 2 then d.writeHi p off v
  else match blockAt off, p with
    | some (5, 0), .supervisor h =>
      if off = R.sup_SW_VALUE then { d with sup := { d.sup with swv := Store.set zeroW d.sup.swv h.val v } }
      else (d.writeFields p off v).afterWrite off v
    | some (28, 2), _ =>
      if off = R.eth_PTP_ADJ 0 ∨ off = R.eth_PTP_ADJ 1 then
        if !mayWrite p off then d.errAccess 0x0001 p off true
        else if 2147484 < (sext 32 v.toNat).natAbs then d.errValue 0x0003 p off v
        else d.adjWrite ((off - R.eth_PTP_ADJ 0) / 0x40) v
      else d.writeFields p off v
    | _, _ => (d.writeFields p off v).afterWrite off v

/-- A write of `v` by `p` to a word of the common header. -/
def Device.hdrWrite (d : Device) (p : Port) (off : Nat) (v : Word) : Device :=
  let pg := pageOf off
  match off % 0x1000 with
  | 0x0C => d.portsWrite p pg v
  | 0x10 => d.ctrlWrite pg v
  | 0x18 => d.commitWrite p pg v
  | 0x20 => d.setReg off (d.reg off &&& ~~~v)
  | 0x24 => d.enableWrite pg v
  | 0x2C => d.routeWrite p pg v
  | 0x30 => if fld v 31 1 = 1 then d.clearErr pg else d
  | _ => d

/-- Whether an offset lies in the common header of a page. -/
def inHeader (off : Nat) : Bool :=
  match blockAt off with
  | some (23, _) | some (31, _) | none => false
  | some _ => decide (off % 0x1000 < 0x100)

/-- Whether an offset is FIRST_SRC of a PGD record. -/
def pgdSrc (off : Nat) : Bool := off == R.pgd_LOST_WRITE_FIRST_SRC || off == R.pgd_LOST_READ_FIRST_SRC || off == R.pgd_DENY_FIRST_SRC

/-- The writes that clear counts outside the header's CTRL: PRT CTRL_COUNTS and SCHED_CMD.CLEAR_COUNTS. -/
def Device.clearOther (d : Device) (off : Nat) (v : Word) : Option Device :=
  match blockAt off with
  | some (2, 0) =>
    if off = R.prt_CTRL_COUNTS then
      some (if fld v 0 1 = 1 then d.zeroRegs (R.prt_CLASS_WIDEN :: (List.range 7).map R.prt_DENY_COUNT) else d)
    else none
  | some (10, p) => if off = R.sch_SCHED_CMD p then some (d.schedCmd p v) else none
  | _ => none

/-! ### The rows -/

/-- PAIR_LO_WRITE: a write to the LO word of an RW pair. -/
def pairLoWrite (a : Sys2Proof.Access) (d : Device) : Device :=
  d.writeOf a (fun o => isPairRw o 1) fun off d => d.plainWrite a.port off a.data
/-- PAIR_LO_WRITE (R31). -/
def execPairLoWrite (a : Access) (s : State) : Host.Outcome State Fault Refusal := onDev (pairLoWrite a) s

/-- PAGE_PORTS_WRITE. -/
def pagePortsWrite (a : Sys2Proof.Access) (d : Device) : Device :=
  d.writeOf a (isHdr 0x0C) fun off d => d.portsWrite a.port (pageOf off) a.data
/-- PAGE_PORTS_WRITE (R49). -/
def execPagePortsWrite (a : Access) (s : State) : Host.Outcome State Fault Refusal := onDev (pagePortsWrite a) s

/-- EVT_ENABLE_WRITE. -/
def evtEnableWrite (a : Sys2Proof.Access) (d : Device) : Device :=
  d.writeOf a (isHdr 0x24) fun off d => d.enableWrite (pageOf off) a.data
/-- EVT_ENABLE_WRITE (R52). -/
def execEvtEnableWrite (a : Access) (s : State) : Host.Outcome State Fault Refusal := onDev (evtEnableWrite a) s

/-- EVT_ROUTE_WRITE. -/
def evtRouteWrite (a : Sys2Proof.Access) (d : Device) : Device :=
  d.writeOf a (isHdr 0x2C) fun off d => d.routeWrite a.port (pageOf off) a.data
/-- EVT_ROUTE_WRITE (R53). -/
def execEvtRouteWrite (a : Access) (s : State) : Host.Outcome State Fault Refusal := onDev (evtRouteWrite a) s

/-- ERR_FIRST_CLEAR: a write of ERR_FIRST with VALID. -/
def errFirstClear (a : Sys2Proof.Access) (d : Device) : Device :=
  if fld a.data 31 1 = 1 then d.writeOf a (isHdr 0x30) fun off d => d.clearErr (pageOf off) else d.at a.t
/-- ERR_FIRST_CLEAR (R54). -/
def execErrFirstClear (a : Access) (s : State) : Host.Outcome State Fault Refusal := onDev (errFirstClear a) s

/-- PGD_RECORD_CLEAR: a write of a PGD FIRST_SRC with VALID. -/
def pgdRecordClear (a : Sys2Proof.Access) (d : Device) : Device :=
  if fld a.data 31 1 = 1 then d.writeOf a pgdSrc fun off d => d.clearPgd (off - 8) else d.at a.t
/-- PGD_RECORD_CLEAR (R64). -/
def execPgdRecordClear (a : Access) (s : State) : Host.Outcome State Fault Refusal := onDev (pgdRecordClear a) s

/-- CLEAR_COUNTS: a write of CTRL, of PRT CTRL_COUNTS or of SCHED_CMD. -/
def clearCounts (a : Sys2Proof.Access) (d : Device) : Device :=
  d.writeOf a (fun o => isHdr 0x10 o || (d.clearOther o 0).isSome) fun off d =>
    if isHdr 0x10 off then d.ctrlWrite (pageOf off) a.data else (d.clearOther off a.data).getD d
/-- CLEAR_COUNTS (R127 and the CTRL of each block's table). -/
def execClearCounts (a : Access) (s : State) : Host.Outcome State Fault Refusal := onDev (clearCounts a) s

end Sys2Proof.Machine
end

