-- ==== Sys2Proof/Machine/Bus.lean ====
section
/-! DEFINITION. Machine/Bus.lean: a write or a read of any register by any port, routed to what the register does: REGISTER_WRITE, PAIR_HI_WRITE,
PAIR_LO_READ, LOGGED_READ, and the accesses of the JTAG, sideband, FABRIC and PEER ports (R24 to R31, R46, R56, R322, R333, R447, R493,
R519, R538, R554). -/
namespace Sys2Proof.Machine

/-! ### Registers that act when written -/

/-- A command register written with a code that its table refuses: RANGE, no effect. -/
def Device.cmdRange (d : Device) (q : Req) (off : Nat) : Device := d.errValue 0x0003 q.port off q.data

/-- SCH PIPE_CMD (Table 8.3). -/
def Device.pipeCmdWrite (d : Device) (p : Fin 64) (q : Req) : Device :=
  match fld q.data 0 3 with
  | 0 => d
  | 1 => pipeStart p q d
  | 2 => pipeHold p q d
  | 3 => pipeResume p q d
  | 4 => pipeDrain p q d
  | 5 => pipeReset p q d
  | _ => d.cmdRange q (R.sch_PIPE_CMD p)

/-- DAD TAPE_CMD (R303). -/
def Device.tapeCmdWrite (d : Device) (r : Fin 64) (q : Req) : Device :=
  match fld q.data 0 2 with
  | 0 => d
  | 1 => tapeEngage r q d.now.cyc d
  | 2 => tapeRelease r q d.now.cyc d
  | _ => d.cmdRange q (R.dad_TAPE_CMD (r / 16) (r % 16))

/-- SKM LOAD_CTRL: a GO with KIND 3 starts nothing and logs RANGE (R61, R275). -/
def Device.loadCtrlWrite (d : Device) (q : Req) : Device :=
  if fld q.data 31 1 = 0 then d.writeFields q.port R.skm_LOAD_CTRL q.data
  else if fld q.data 0 2 = 3 then d.cmdRange q R.skm_LOAD_CTRL
  else loadGo q (fld q.data 0 2) d

/-- SKM LIB_CMD. -/
def Device.libCmdWrite (d : Device) (q : Req) : Device :=
  match fld q.data 0 2 with
  | 1 => libRemove q d
  | 2 => libWarm q d
  | 3 => libEvict q d
  | _ => d

/-- TEN SKL_CMD. -/
def Device.sklCmdWrite (d : Device) (t : Fin 1024) (q : Req) : Device :=
  match fld q.data 0 2 with
  | 0 => d
  | 1 => sklLoad t q d
  | 2 => sklRemove t q d
  | _ => d.cmdRange q (R.ten_SKL_CMD t)

/-- QEN QUEUE_CMD. -/
def Device.queueCmdWrite (d : Device) (q : Req) : Device :=
  match fld q.data 16 2 with
  | 0 => d
  | 1 => queueReset q d
  | _ => d.cmdRange q R.qen_QUEUE_CMD

/-- FLT LADDER_CMD (R603). -/
def Device.ladderCmdWrite (d : Device) (q : Req) : Device :=
  let n := fld q.data 0 3
  match n with
  | 0 => if whoOk .mgmtSup q.port R.flt_LADDER_CMD then d else d.errAccess 0x0001 q.port R.flt_LADDER_CMD true
  | 1 => ladderCmd q 1 1 (fun _ d => d) d
  | 2 => ladderCmd q 2 2 (fun n d => d.ladderQueue n) d
  | 3 => ladderCmd q 3 2 (fun n d => if n < 1024 then d.resetTenant n else d) d
  | 4 => ladderCmd q 4 2 (fun n d => if n < 64 ∧ d.pipeState n ≠ 0 ∧ d.pipeState n ≠ 6 then d.resetPipe n else d) d
  | 5 => ladderCmd q 5 3 (fun _ d => d.requestDevReset (if portCode q.port = 0 then 3 else 4)) d
  | 6 => ladderClear q d
  | _ => d.cmdRange q R.flt_LADDER_CMD

/-- SEC registers of page 0 and 1 that act. -/
def Device.secWrite (d : Device) (q : Req) (off : Nat) : Option Device :=
  if off = R.sec_DEV_RESET then some (devReset q d)
  else if off = R.sec_READY then some (d.readyWrite q)
  else if off = R.sec_HBM_TRAIN then some (retrain q d)
  else if off = R.sec_FW_GO then some (fwGo q d)
  else if off = R.sec_PIN_BURN then some (pinBurn q d)
  else if off = R.sec_SVN_BURN then some (svnBurn q d)
  else none

/-- SUP registers that act on the device alone. -/
def Device.supRegWrite (d : Device) (q : Req) (off : Nat) : Option Device :=
  let k := Fin.ofNat 3 ((off % 0x1000 - 0x600) / 0x100)
  if off = R.sup_SW_EVENT then some (swEvent q d)
  else if off = R.sup_HEARTBEAT then some (heartbeat q d)
  else if 0xB600 ≤ off ∧ off < 0xB900 ∧ off = R.sup_DOORBELL k then some (doorbell k q d)
  else if 0xB600 ≤ off ∧ off < 0xB900 ∧ off = R.sup_MB_DONE k then some (mbDone k q d)
  else none

/-- PLB registers that act: the entry number of a POST_GO is the device's own choice (log entry 11), here a free value. -/
def Device.plbWrite (d : Device) (q : Req) (pg off : Nat) : Option Device :=
  if off = R.plb_PTP_CTRL then some (Sys2Proof.Machine.ptpWrite q.data d)
  else if pg = 9 ∧ off = R.plb_POST_GO then some (postGo ((Config.freeRead off d.now.tick).toNat % 4096) q.data d)
  else if pg = 9 ∧ off = R.plb_CANCEL then some (plbCancel q.data d)
  else if pg = 10 ∧ off = R.plb_FIRE_NOW then some (fireNow q.data d)
  else if 1 ≤ pg ∧ pg ≤ 8 ∧ off = R.plb_RESYNC (pg - 1) then some (if fld q.data 0 1 = 1 then d.resync (pg - 1) else d)
  else none

/-- ETH registers that act. -/
def Device.ethWrite (d : Device) (q : Req) (off : Nat) : Option Device :=
  let p := Fin.ofNat 2 ((off - 0x2032100) / 0x40)
  let sp := Fin.ofNat 2 ((off - R.eth_TX_SLOT_CTRL 0 0) / 0x10)
  let sk := Fin.ofNat 2 ((off - R.eth_TX_SLOT_CTRL 0 0) % 0x10 / 8)
  if off = R.eth_PTP_STEP_HI p then some (ptpStep p q d)
  else if off = R.eth_PTP_SET_GO p then some (ptpSetGo p q d)
  else if R.eth_TX_SLOT_CTRL 0 0 ≤ off ∧ off = R.eth_TX_SLOT_CTRL sp sk then some (txSlotGo sp sk q d)
  else none

/-- OBS registers that act. -/
def Device.obsWrite (d : Device) (q : Req) (off : Nat) : Option Device :=
  if off = R.obs_TRACE_RD then some (traceRdWrite q d)
  else if off = R.obs_QSEL then some (qselWrite q d)
  else if off = R.obs_TSEL then some (tselWrite q d)
  else if off = R.obs_TCTL then some (tctlClear q d)
  else none

/-- The push window of queue g. -/
def Device.pushWrite (d : Device) (g : Fin 65536) (q : Req) (off : Nat) : Option Device :=
  if off % 0x1000 < 0x100 then some (d.pushWords g (off % 0x1000 / 4) [q.data])
  else if off = R.pw_TAIL g then some (tailWrite g q d)
  else if off = R.pw_CANCEL g then some (cancel g q d)
  else none

/-- What a write of the register at `off` does where the register acts: the effect of the row that names it. -/
def Device.actingWrite (d : Device) (q : Req) (off : Nat) : Option Device :=
  match blockAt off with
  | none => none
  | some (n, pg) => match n with
    | 0 => if pgdSrc off then some (if fld q.data 31 1 = 1 then d.clearPgd (off - 8) else d) else none
    | 2 => if off = R.prt_PORT_OFF then some (portOff q d)
      else if off = R.prt_CLASS_MASK then some (classMask q d)
      else d.clearOther off q.data
    | 4 => d.secWrite q off
    | 5 => d.supRegWrite q off
    | 6 => if off = R.pow_VCORE_SET then some (vcoreSetWrite q d) else none
    | 8 => if off = R.flt_LADDER_CMD then some (d.ladderCmdWrite q) else none
    | 9 => d.plbWrite q pg off
    | 10 => if off = R.sch_PIPE_CMD pg then some (d.pipeCmdWrite (Fin.ofNat 64 pg) q) else d.clearOther off q.data
    | 11 => if off = R.skm_LOAD_CTRL then some (d.loadCtrlWrite q)
      else if off = R.skm_LOAD_CMD then some (if fld q.data 0 1 = 1 then loadCmd q 0 Device.activate d else loadDiscard q d)
      else if off = R.skm_LIB_CMD then some (d.libCmdWrite q)
      else none
    | 12 => let r := Fin.ofNat 64 (16 * pg + (off % 0x1000 - 0x100) / 0x40)
      if pg < 4 ∧ 0x100 ≤ off % 0x1000 ∧ off = R.dad_TAPE_CMD (r / 16) (r % 16) then some (d.tapeCmdWrite r q) else none
    | 13 => if off = R.scm_LOAD_CTRL then some (stencilLoadGo q.data d)
      else if off = R.scm_STN_SEL then some (stencilRead q.data d)
      else none
    | 14 => if off = R.wst_FILL_CTRL pg then some (wstFillGo pg q.port q.data d) else none
    | 16 => if off = R.snd_SND_CFG then some (sndCfgWrite q d) else none
    | 17 => d.obsWrite q off
    | 18 => if off = R.lth_RB_GO then some (frameReadback q d) else none
    | 19 => if off = R.qen_QUEUE_CMD then some (d.queueCmdWrite q) else none
    | 22 => if off = R.ten_SKL_CMD pg then some (d.sklCmdWrite (Fin.ofNat 1024 pg) q) else none
    | 24 => if off = R.trw_PEEK_ADDR pg then some (hawkPeek pg q.port q.data d) else none
    | 25 => if off = R.iob_ALIVE_CLEAR then some (aliveClear q d)
      else if off = R.iob_OK_REQ then some (okReqWrite q d)
      else none
    | 28 => d.ethWrite q off
    | 29 => if pg < 4 ∧ off = R.lwl_COPY_CTRL pg ∧ fld q.data 31 1 = 1 then some (copyGo (Fin.ofNat 4 pg) q d)
      else if pg < 4 ∧ off = R.lwl_RREG_CTRL pg ∧ fld q.data 31 1 = 1 then some (rregGo (Fin.ofNat 4 pg) q d)
      else none
    | 31 => d.pushWrite (Fin.ofNat 65536 pg) q off
    | _ => none

/-- A write that its page performs, at the register of PF0 offset `off`. -/
def State.writeReg (s : State) (p : Port) (v : Word) (off : Nat) : State :=
  let q : Req := ⟨p, 15, v, s.dev.now.tick⟩
  if off = R.sup_HART_CMD then hartRestart q s
  else s.onDevice fun d =>
    if inHeader off then d.hdrWrite p off v
    else match d.actingWrite q off with
      | some d1 => d1
      | none => d.plainWrite p off v

/-! ### Accesses -/

/-- How an access ends (R29, R46, R56): 0 performed, 1 denied, 2 unmapped, 3 lost. -/
def Device.ending (d : Device) (p : Port) (a : Nat) (write : Bool) : Nat :=
  match (d.resolve p a).map d.alias_ with
  | none => 2
  | some off => if d.denied p off || mailboxDenied p off write then 1 else if d.lost p off then 3 else 0

/-- A write of `v` at `a` by `p`. -/
def State.busWrite (s : State) (p : Port) (a : Nat) (be : BitVec 4) (len : Nat) (v : Word) : State :=
  if s.dev.reaches p a be len true then s.writeReg p v (((s.dev.resolve p a).map s.dev.alias_).getD 0)
  else s.onDevice fun d => d.access p a be len true fun _ d => d

/-- What a performed read changes before its value is taken (R26): TXTS_POP pops, a refused PEEK is logged (R447). -/
def Device.beforeRead (d : Device) (p : Port) (off : Nat) : Device :=
  let q : Req := ⟨p, 15, 0, d.now.tick⟩
  if off = R.eth_TXTS_POP 0 then txtsPop 0 q d
  else if off = R.eth_TXTS_POP 1 then txtsPop 1 q d
  else match blockAt off with
    | some (24, k) => if portCode p = 7 ∧ inPair off (R.trw_PEEK_LO k) then d.errAccess 0x0001 p off false else d
    | _ => d

/-- What it changes after: the capture of a pair, and the restart of EVQ_HIGHWATER (R26, R30). -/
def State.afterRead (s : State) (p : Port) (off : Nat) : State :=
  s.onDevice fun d =>
    let d1 := if off = R.plb_EVQ_HIGHWATER then d.setN off d.evqUsed else d
    match (regDefAt off).map (·.pair) with
    | some 1 => d1.setPair { d1.pairOf p off with captured := some (s.word p (off + 4)) }
    | some 2 => d1.setPair { d1.pairOf p (off - 4) with captured := none }
    | _ => d1

/-- A read of `a` by `p`: the value it returns and the state after (R26, R29, R30, R46, R56). -/
def State.busRead (s : State) (p : Port) (a : Nat) : Word × State :=
  if s.dev.reaches p a 15 4 false then
    let off := ((s.dev.resolve p a).map s.dev.alias_).getD 0
    let s1 := s.onDevice (·.beforeRead p off)
    let peek := portCode p == 7 && (match blockAt off with
      | some (24, k) => inPair off (R.trw_PEEK_LO k)
      | _ => false)
    (if peek then 0 else s1.readWord p off, s1.afterRead p off)
  else
    (if s.dev.ending p a false = 3 then 0xFFFFFFFF#32 else 0, s.onDevice fun d => d.access p a 15 4 false fun _ d => d)

/-- One 32-bit access of a port that makes whole ones: its ending, the value of a read, and the state after. -/
def State.busAccess (s : State) (p : Port) (a : Nat) (write : Bool) (v : Word) : Nat × Word × State :=
  let e := s.dev.ending p a write
  if write then (e, 0, s.busWrite p a 15 4 v) else (e, (s.busRead p a).1, (s.busRead p a).2)

/-! ### MSI-X tables and configuration space (R312, R315, R322, R327, R328) -/

/-- A write of word w of an MSI-X table entry. -/
def Device.vecWrite (d : Device) (f : Fin 1026) (v w : Nat) (x : Word) : Device :=
  d.msixAccess f v w true fun d =>
    let e := d.vec f v
    match w with
    | 0 => d.setVec f v { e with addrLo := x &&& 0xFFFFFFFC#32 }
    | 1 => d.setVec f v { e with addrHi := x }
    | 2 => d.setVec f v { e with data := x }
    | _ => (d.setVec f v { e with mask := fld x 0 1 = 1 }).msixRelease f v

/-- Every message that Function Mask alone held is sent. -/
def Device.releaseAll (d : Device) (f : Nat) : Device := (List.range (msixSize f)).foldl (fun d v => d.msixRelease f v) d

/-- A configuration write of one field of function f; the fields of SR-IOV stand in PF1. -/
def Device.cfgWrite (d : Device) (f : Fin 1026) (k : Sys2Proof.CfgField) (x : Word) : Device :=
  let b := fld x 0 1 = 1
  let pf1 := f.val = 1
  if !d.portExists (fnPort f) then d
  else match k with
  | .bme => d.setFn f { d.fn f with bme := b }
  | .msixEn => d.setFn f { d.fn f with msixEn := b }
  | .fmask =>
    let d1 := d.setFn f { d.fn f with fmask := b }
    if b then d1 else d1.releaseAll f
  | .atsEn =>
    let d1 := d.setFn f { d.fn f with atsEn := b }
    if b then d1 else { d1 with hif := { d1.hif with ats := d1.hif.ats.filter fun e => !(e.1 == f.val) } }
  | .numVfs => if pf1 ∧ d.hif.vfEnable = false ∧ x.toNat ≤ 1024 then { d with hif := { d.hif with numVfs := x.toNat } } else d
  | .vfEnable => if !pf1 then d else if b then { d with hif := { d.hif with vfEnable := true } } else d.disableVfs
  | .ari => if pf1 then { d with hif := { d.hif with ari := b } } else d
  | .tag10 => { d with hif := { d.hif with tag10 := b } }
  | .tagExt => { d with hif := { d.hif with tagExt := b } }

/-! ### The rows of chapter 2 -/

/-- REGISTER_WRITE: a write of any register, MSI-X word or configuration field; a register that a row of its own names has that row's
effect (log entry 145). -/
def registerWrite (a : Sys2Proof.Access) (s : State) : State :=
  let s0 := s.onDevice (·.at a.t)
  match a.target with
  | .page x => s0.busWrite a.port x a.be a.len a.data
  | .msix f v w => s0.onDevice fun d => d.vecWrite f v w a.data
  | .cfg f k => s0.onDevice fun d => d.cfgWrite f k a.data
/-- REGISTER_WRITE (R28). -/
def execRegisterWrite (a : Access) (s : State) : Host.Outcome State Fault Refusal := onState (registerWrite a) s

/-- Whether an access is to a register that `p` names. -/
def Device.names (d : Device) (a : Sys2Proof.Access) (p : Nat → Bool) : Bool := (d.target a).any p

/-- PAIR_HI_WRITE: a write to the HI word of an RW pair. -/
def pairHiWrite (a : Sys2Proof.Access) (s : State) : State :=
  if (s.dev.at a.t).names a fun o => isPairRw o 2 then registerWrite a s else s.onDevice (·.at a.t)
/-- PAIR_HI_WRITE (R31). -/
def execPairHiWrite (a : Access) (s : State) : Host.Outcome State Fault Refusal := onState (pairHiWrite a) s

/-- PAIR_LO_READ: a read of the LO word of a pair returns it and captures the HI word. -/
def pairLoRead (a : Sys2Proof.Access) (s : State) : State :=
  let s0 := s.onDevice (·.at a.t)
  match a.target with
  | .page x =>
    if s0.dev.names a fun o => (regDefAt o).any fun r => r.pair == 1 then
      if s0.dev.reaches a.port x a.be a.len false then
        let (v, s1) := s0.busRead a.port x
        s1.onDevice (·.emit (.reply (portCode a.port) 0 v))
      else s0.onDevice fun d => d.access a.port x a.be a.len false fun _ d => d
    else s0
  | _ => s0
/-- PAIR_LO_READ (R30). -/
def execPairLoRead (a : Access) (s : State) : Host.Outcome State Fault Refusal := onState (pairLoRead a) s

/-- LOGGED_READ: a read that is denied, lost or unmapped is logged and returns its fixed value; one that completes with Unsupported Request
(too long, across a page, function in D3hot) is reported and logged and returns nothing (R27, R326). -/
def loggedRead (a : Sys2Proof.Access) (d : Device) : Device :=
  let d0 := d.at a.t
  match a.target with
  | .page x =>
    if d0.portExists a.port ∧ !d0.portD3 a.port ∧ d0.ending a.port x false ≠ 0 then
      (d0.access a.port x a.be a.len false fun _ d => d).emit
        (.reply (portCode a.port) 0 (if d0.ending a.port x false = 3 then 0xFFFFFFFF#32 else 0))
    else if d0.portExists a.port ∧ !d0.reaches a.port x a.be a.len false then d0.access a.port x a.be a.len false fun _ d => d
    else d0
  | .msix f v w => if (msixSize f ≤ v.val) || (decide (2 ≤ f.val) && (d0.fn f).flr) then d0.msixAccess f v w false fun d => d else d0
  | .cfg _ _ => d0
/-- LOGGED_READ (R46, R56, R29, R27, R326). -/
def execLoggedRead (a : Access) (s : State) : Host.Outcome State Fault Refusal := onDev (loggedRead a) s

end Sys2Proof.Machine
end

