-- ==== Sys2Proof/Machine/Accesses.lean ====
section
/-! DEFINITION. Machine/Accesses.lean: the register accesses of the JTAG, SUPERVISOR, sideband, FABRIC and PEER ports: PAGEACC, LDD, STD,
ARQ_COMPLETE, SB_REG_ACCESS, LRA_ACCESS, LRA_ANSWER, LW_FLIT_RECEIVED (R333, R425 to R427, R493, R519, R538, R554). -/
namespace Sys2Proof.Machine

/-! ### JTAG (R333) -/

/-- PAGEACC: one Update-DR of the register of Table 12.7; BUSY reads 1 until tick `fin`. -/
def pageacc (addr : Nat) (write go : Bool) (data : Word) (t fin : Nat) (s : State) : State :=
  let s0 := s.onDevice (·.at t)
  if !go || decide (s0.dev.now.tick < s0.dev.hif.jtagBusy) then s0
  else
    let (e, v, s1) := s0.busAccess .debug addr write data
    s1.onDevice fun d => { d with hif := { d.hif with
      jtagBusy := fin
      jtagDenied := e == 1 || e == 2
      jtagData := if write then d.hif.jtagData else v } }
/-- PAGEACC (R333). -/
def execPageacc (addr : BitVec 26) (write go : Bool) (data : BitVec 32) (t fin : Nat) (s : State) : Host.Outcome State Fault Refusal :=
  onState (pageacc addr.toNat write go data t fin) s

/-! ### The supervisor (R418, R425, R426, R427) -/

/-- Whether an address of the supervisor's map lies in a TRW page. -/
def trwAddr (a : Nat) : Bool :=
  (decide (0x11000000 ≤ a) && decide (a < 0x12000000)) || (decide (0x12100000 ≤ a) && decide (a < 0x13180000))

/-- What LDD or STD of an address raises: BUS, or DEV_ASYNC for a TRW page. -/
def pageFault (a : Nat) : Option Nat :=
  if a % 4 ≠ 0 ∨ a < 0x10000000 ∨ 0x14000000 ≤ a then some 0x106 else if trwAddr a then some 0x109 else none

/-- LDD: the register takes the value in the last of its 64 cycles, unless the handler's budget has ended. -/
def hartLdd (h : Fin 4) (c t : Nat) (s : State) : State :=
  (s.onDevice (·.at t)).issue h c (some 0x20) fun i s =>
    let a := (s.hart h).addr i
    match pageFault a with
    | some k => s.faultAt h k (some a)
    | none =>
      let (v, s1) := s.busRead (.supervisor h) (a - 0x10000000)
      if s1.expired h (c + 63) then s1 else s1.put h i.rd v
/-- LDD (R425). -/
def execHartLdd (h : Fin 4) (c t : Nat) (s : State) : Host.Outcome State Fault Refusal := onState (hartLdd h c t) s

/-- STD. -/
def hartStd (h : Fin 4) (c t : Nat) (s : State) : State :=
  (s.onDevice (·.at t)).issue h c (some 0x21) fun i s =>
    let a := (s.hart h).addr i
    match pageFault a with
    | some k => s.faultAt h k (some a)
    | none => s.busWrite (.supervisor h) (a - 0x10000000) 15 4 ((s.hart h).r i.rd)
/-- STD (R425). -/
def execHartStd (h : Fin 4) (c t : Nat) (s : State) : Host.Outcome State Fault Refusal := onState (hartStd h c t) s

/-- A host-window access (R426, R427): ERR, the value and the device after; `r` is what host memory answers to a read. -/
def Device.hostWindow (d : Device) (x : Nat) (write : Bool) (v : Word) (r : Sys2Proof.ReadEnd (BitVec 32)) : Bool × Word × Device :=
  let a := (d.rn64 R.sup_HOSTWIN_BASE_LO + x) % 2 ^ 64
  if d.rf R.sup_HOSTWIN_EN 0 1 = 0 then (true, 0xFFFFFFFF#32, d)
  else if write then (false, 0, d.hostWrite 0 a (leBytes 4 v.toNat))
  else
    let d1 := if d.mayRequest 0 then d.emit (.hostRead 0 a 4) else d
    match d.readEnd 0 r with
    | .data w => (false, w, d1)
    | .fail _ => (true, 0xFFFFFFFF#32, d1)

/-- The request of a hart's port that is performed next: the oldest not yet complete. -/
def Hart.nextReq (x : Hart) : Option Arq := x.arqs.find? fun q => !q.done

/-- ARQ_COMPLETE: the oldest request of the hart's port is performed and its event posted. -/
def arqComplete (h : Fin 4) (r : Sys2Proof.ReadEnd (BitVec 32)) (t : Nat) (s : State) : State :=
  let s0 := s.onDevice (·.at t)
  match (s0.hart h).nextReq with
  | none => s0
  | some q =>
    let done : Bool × Word × State :=
      if q.addr < 0x20000000 then
        let (e, v, s1) := s0.busAccess (.supervisor h) (q.addr - 0x10000000) q.write q.data
        if e = 3 then (true, 0xFFFFFFFF#32, s1) else (false, v, s1)
      else
        let (e, v, d1) := s0.dev.hostWindow (q.addr - 0x20000000) q.write q.data r
        (e, v, { s0 with dev := d1 })
    let (err, v, s1) := done
    let x := s1.hart h
    (s1.setHart h { x with arqs := x.arqs.map fun (y : Arq) => if y.place = q.place then { y with done := true } else y }).onDevice
      (·.supEventTag 2 q.slot (wd (16 * h.val + 64 * q.place + 512 * b2n err)) v (8 * h.val + q.place))
/-- ARQ_COMPLETE (R426). -/
def execArqComplete (h : Fin 4) (r : ReadEnd (BitVec 32)) (t : Nat) (s : State) : Host.Outcome State Fault Refusal :=
  onState (arqComplete h r t) s

/-! ### The sideband (R519) -/

/-- Whether a register-access message is INVALID: its command, its length or its offset. -/
def sbInvalid (m : Sys2Proof.SbReg) : Bool :=
  !((m.cmd == 1 && m.len == 6) || (m.cmd == 2 && m.len == 10)) || m.addr.toNat % 4 != 0

/-- The response to a register access: the code, and the data, 0 where the access is not a read that was performed or lost. -/
def Device.sbAnswer (d : Device) (code : Nat) (v : Word) : Device := d.emit (.reply 3 code v)

/-- SB_REG_ACCESS: one SIDEBAND access, answered at tick `fin`; a message before the answer to the last is dropped. -/
def sbRegAccess (m : Sys2Proof.SbReg) (t fin : Nat) (s : State) : State :=
  let s0 := s.onDevice (·.at t)
  if !s0.dev.sbOn then s0
  else if s0.dev.now.tick < s0.dev.sbBusy then s0.onDevice (·.count R.iob_SB_DROPPED 1)
  else
    let s1 := s0.onDevice fun d => { d with sbBusy := fin }
    if sbInvalid m then s1.onDevice (·.sbAnswer 3 0)
    else
      let (e, v, s2) := (s1.onDevice (·.count R.iob_SB_ACCESSES 1)).busAccess .sideband m.addr.toNat (m.cmd == 2) m.data
      s2.onDevice (·.sbAnswer (e % 3) v)
/-- SB_REG_ACCESS (R519). -/
def execSbRegAccess (m : SbReg) (t fin : Nat) (s : State) : Host.Outcome State Fault Refusal := onState (sbRegAccess m t fin) s

/-! ### The FABRIC port (R493) -/

/-- LRA_ACCESS: the port accepts one access while it owes no answer and block 0 is out of reset. -/
def lraAccess (addr : Nat) (write : Bool) (data : Word) (t : Nat) (s : State) : State :=
  let s0 := s.onDevice (·.at t)
  if !s0.dev.fabricUp || s0.dev.lath.lra.isSome then s0
  else
    let (e, v, s1) := (s0.onDevice (·.count R.lth_LRA_ACCESSES 1)).busAccess .fabric (addr / 4 * 4) write data
    let den := e == 1 || e == 2
    s1.onDevice fun d =>
      let d1 := if den then d.count R.lth_LRA_DENIED 1 else d
      d1.setLath { d1.lath with lra := some ⟨if den then 0 else v, den⟩ }
/-- LRA_ACCESS (R493). -/
def execLraAccess (addr : BitVec 26) (write : Bool) (data : BitVec 32) (t : Nat) (s : State) : Host.Outcome State Fault Refusal :=
  onState (lraAccess addr.toNat write data t) s

/-- LRA_ANSWER: the port answers and is free again. -/
def lraAnswer (t : Nat) (d : Device) : Device :=
  let d0 := d.at t
  match d0.lath.lra with
  | none => d0
  | some x => (d0.setLath { d0.lath with lra := none }).emit (.ra x.rdata x.denied)
/-- LRA_ANSWER (R493). -/
def execLraAnswer (t : Nat) (s : State) : Host.Outcome State Fault Refusal := onDev (lraAnswer t) s

/-! ### Linwald (R538, R554) -/

/-- The code of REG_RESP for how an access ended: 0 OK, 1 DENIED, 2 UNMAPPED; a lost access is OK with its R56 data. -/
def respCode (e : Nat) : Nat := e % 3

/-- One register access of a partner: performed as PEER, answered with REG_RESP. -/
def State.peerAccess (s : State) (k : Fin 4) (q : Nat × Bool × Word) : State :=
  let (e, v, s1) := s.busAccess (.peer k) q.1 q.2.1 q.2.2
  s1.onDevice fun d => (d.lwCtl k (Sys2Proof.vcSeg 3 4 (respCode e) v.toNat)).lwTouch k

/-- LW_FLIT_RECEIVED. -/
def lwFlitReceived (k : Fin 4) (f : Sys2Proof.LwFlit) (overlap : Bool) (t cyc : Nat) (s : State) : State :=
  let s0 := s.onDevice (·.atBoth t cyc)
  let (d1, taken) := s0.dev.lwReceive k f overlap s0.dev.now.cyc
  let s1 := { s0 with dev := d1 }
  if taken then (regReqs f).foldl (fun (s : State) q => s.peerAccess k q) s1 else s1
/-- LW_FLIT_RECEIVED (R538, R554). -/
def execLwFlitReceived (k : Fin 4) (f : LwFlit) (overlap : Bool) (t cyc : Nat) (s : State) : Host.Outcome State Fault Refusal :=
  onState (lwFlitReceived k f overlap t cyc) s

end Sys2Proof.Machine
end

