-- ==== Sys2Proof/Machine/Dispatch.lean ====
section
/-! DEFINITION. Machine/Dispatch.lean: one arm per command, each one direct call of its meaning. -/
namespace Sys2Proof.Machine

def exec (i : Instr) (s : State) : Host.Outcome State Fault Refusal :=
  match i with
  | .registerWrite a => Sys2Proof.Machine.execRegisterWrite a s
  | .pairLoRead a => Sys2Proof.Machine.execPairLoRead a s
  | .pairLoWrite a => Sys2Proof.Machine.execPairLoWrite a s
  | .pairHiWrite a => Sys2Proof.Machine.execPairHiWrite a s
  | .commitApply a => Sys2Proof.Machine.execCommitApply a s
  | .commitValidated page t => Sys2Proof.Machine.execCommitValidated page t s
  | .commitSafePoint page t cyc => Sys2Proof.Machine.execCommitSafePoint page t cyc s
  | .commitDiscard a => Sys2Proof.Machine.execCommitDiscard a s
  | .pagePortsWrite a => Sys2Proof.Machine.execPagePortsWrite a s
  | .evtEnableWrite a => Sys2Proof.Machine.execEvtEnableWrite a s
  | .evtRouteWrite a => Sys2Proof.Machine.execEvtRouteWrite a s
  | .errFirstClear a => Sys2Proof.Machine.execErrFirstClear a s
  | .pgdRecordClear a => Sys2Proof.Machine.execPgdRecordClear a s
  | .clearCounts a => Sys2Proof.Machine.execClearCounts a s
  | .refEdge changes stamps t => Sys2Proof.Machine.execRefEdge changes stamps t s
  | .channelCount c t => Sys2Proof.Machine.execChannelCount c t s
  | .mainsZeroCross c t => Sys2Proof.Machine.execMainsZeroCross c t s
  | .mainsCountTick c t => Sys2Proof.Machine.execMainsCountTick c t s
  | .ptpValidWrite q => Sys2Proof.Machine.execPtpValidWrite q s
  | .resync c q => Sys2Proof.Machine.execResync c q s
  | .stall c t => Sys2Proof.Machine.execStall c t s
  | .postGo q num => Sys2Proof.Machine.execPostGo q num s
  | .plbCancel q => Sys2Proof.Machine.execPlbCancel q s
  | .entryDue e t => Sys2Proof.Machine.execEntryDue e t s
  | .entryDelivery t => Sys2Proof.Machine.execEntryDelivery t s
  | .triggerPulseStart j t => Sys2Proof.Machine.execTriggerPulseStart j t s
  | .triggerPulseEnd j t => Sys2Proof.Machine.execTriggerPulseEnd j t s
  | .fireNow q => Sys2Proof.Machine.execFireNow q s
  | .evqHighwaterRead q => Sys2Proof.Machine.execEvqHighwaterRead q s
  | .illegalOp k cyc => Sys2Proof.Machine.execIllegalOp k cyc s
  | .opNop k cyc => Sys2Proof.Machine.execOpNop k cyc s
  | .opEnd k cyc => Sys2Proof.Machine.execOpEnd k cyc s
  | .opLoop k cyc => Sys2Proof.Machine.execOpLoop k cyc s
  | .opEndl k cyc => Sys2Proof.Machine.execOpEndl k cyc s
  | .opFsw k cyc => Sys2Proof.Machine.execOpFsw k cyc s
  | .opSwapchk k cyc => Sys2Proof.Machine.execOpSwapchk k cyc s
  | .opWait k cyc => Sys2Proof.Machine.execOpWait k cyc s
  | .opTake k cyc => Sys2Proof.Machine.execOpTake k cyc s
  | .opGive k cyc => Sys2Proof.Machine.execOpGive k cyc s
  | .opPass k cyc => Sys2Proof.Machine.execOpPass k cyc s
  | .opTagset k cyc => Sys2Proof.Machine.execOpTagset k cyc s
  | .opHld k cyc => Sys2Proof.Machine.execOpHld k cyc s
  | .opHst k cyc => Sys2Proof.Machine.execOpHst k cyc s
  | .opWsr k cyc => Sys2Proof.Machine.execOpWsr k cyc s
  | .opRot k cyc => Sys2Proof.Machine.execOpRot k cyc s
  | .opMaci k cyc => Sys2Proof.Machine.execOpMaci k cyc s
  | .opMact k cyc => Sys2Proof.Machine.execOpMact k cyc s
  | .opMacf k cyc => Sys2Proof.Machine.execOpMacf k cyc s
  | .opGsum k cyc => Sys2Proof.Machine.execOpGsum k cyc s
  | .opZpc k cyc => Sys2Proof.Machine.execOpZpc k cyc s
  | .opGsc k cyc => Sys2Proof.Machine.execOpGsc k cyc s
  | .opRqn k cyc => Sys2Proof.Machine.execOpRqn k cyc s
  | .opAct k cyc => Sys2Proof.Machine.execOpAct k cyc s
  | .opAddv k cyc => Sys2Proof.Machine.execOpAddv k cyc s
  | .opMulv k cyc => Sys2Proof.Machine.execOpMulv k cyc s
  | .opMaxp k cyc => Sys2Proof.Machine.execOpMaxp k cyc s
  | .opAvgp k cyc => Sys2Proof.Machine.execOpAvgp k cyc s
  | .opExps k cyc => Sys2Proof.Machine.execOpExps k cyc s
  | .opNrm k cyc => Sys2Proof.Machine.execOpNrm k cyc s
  | .opShuf k cyc => Sys2Proof.Machine.execOpShuf k cyc s
  | .opBeatResult k cyc => Sys2Proof.Machine.execOpBeatResult k cyc s
  | .hawkPeek k q => Sys2Proof.Machine.execHawkPeek k q s
  | .flitArrival k dir slot cyc => Sys2Proof.Machine.execFlitArrival k dir slot cyc s
  | .slotSend src cyc => Sys2Proof.Machine.execSlotSend src cyc s
  | .reduceSend k dir cyc => Sys2Proof.Machine.execReduceSend k dir cyc s
  | .flitDelivery k dir slot cyc => Sys2Proof.Machine.execFlitDelivery k dir slot cyc s
  | .streamRead j cyc => Sys2Proof.Machine.execStreamRead j cyc s
  | .wstFillGo j q => Sys2Proof.Machine.execWstFillGo j q s
  | .wstFillDone j cyc => Sys2Proof.Machine.execWstFillDone j cyc s
  | .tilePageAccess port k shares cyc => Sys2Proof.Machine.execTilePageAccess port k shares cyc s
  | .tileAccessDone k cyc => Sys2Proof.Machine.execTileAccessDone k cyc s
  | .stencilLoadGo q => Sys2Proof.Machine.execStencilLoadGo q s
  | .stencilLoadDone cyc => Sys2Proof.Machine.execStencilLoadDone cyc s
  | .stencilRead q => Sys2Proof.Machine.execStencilRead q s
  | .stencilReadDone cyc => Sys2Proof.Machine.execStencilReadDone cyc s
  | .pipeStart p q => Sys2Proof.Machine.execPipeStart p q s
  | .pipeHold p q => Sys2Proof.Machine.execPipeHold p q s
  | .pipeResume p q => Sys2Proof.Machine.execPipeResume p q s
  | .pipeDrain p q => Sys2Proof.Machine.execPipeDrain p q s
  | .pipeReset p q => Sys2Proof.Machine.execPipeReset p q s
  | .pipeResetDone p t cyc => Sys2Proof.Machine.execPipeResetDone p t cyc s
  | .drained p t cyc => Sys2Proof.Machine.execDrained p t cyc s
  | .drainTimeout p t => Sys2Proof.Machine.execDrainTimeout p t s
  | .ingressFrame p cyc => Sys2Proof.Machine.execIngressFrame p cyc s
  | .swapToken p cyc => Sys2Proof.Machine.execSwapToken p cyc s
  | .resultFrameComplete p t cyc => Sys2Proof.Machine.execResultFrameComplete p t cyc s
  | .tokenConsumed p t cyc => Sys2Proof.Machine.execTokenConsumed p t cyc s
  | .jobAtSch g index num t => Sys2Proof.Machine.execJobAtSch g index num t s
  | .evqPostRetry g index num t => Sys2Proof.Machine.execEvqPostRetry g index num t s
  | .admissionDecision p t cyc => Sys2Proof.Machine.execAdmissionDecision p t cyc s
  | .resultRelease e t => Sys2Proof.Machine.execResultRelease e t s
  | .releaseWritesDone g index t => Sys2Proof.Machine.execReleaseWritesDone g index t s
  | .holdWindowEnd p t cyc => Sys2Proof.Machine.execHoldWindowEnd p t cyc s
  | .clearHold p q => Sys2Proof.Machine.execClearHold p q s
  | .loadFull q => Sys2Proof.Machine.execLoadFull q s
  | .loadRegion q => Sys2Proof.Machine.execLoadRegion q s
  | .loadLibrary q => Sys2Proof.Machine.execLoadLibrary q s
  | .loadReadDone r t => Sys2Proof.Machine.execLoadReadDone r t s
  | .loadCheckDone t => Sys2Proof.Machine.execLoadCheckDone t s
  | .loadWriteDone fail t => Sys2Proof.Machine.execLoadWriteDone fail t s
  | .loadVerifyDone fail t => Sys2Proof.Machine.execLoadVerifyDone fail t s
  | .loadActivate q => Sys2Proof.Machine.execLoadActivate q s
  | .loadDiscard q => Sys2Proof.Machine.execLoadDiscard q s
  | .libRemove q => Sys2Proof.Machine.execLibRemove q s
  | .libWarm q => Sys2Proof.Machine.execLibWarm q s
  | .libEvict q => Sys2Proof.Machine.execLibEvict q s
  | .fillStart p cyc => Sys2Proof.Machine.execFillStart p cyc s
  | .slotFillDone p slot cyc => Sys2Proof.Machine.execSlotFillDone p slot cyc s
  | .warmupDone p slot cyc => Sys2Proof.Machine.execWarmupDone p slot cyc s
  | .fillFault p slot a t cyc => Sys2Proof.Machine.execFillFault p slot a t cyc s
  | .tapeEngage r q cyc => Sys2Proof.Machine.execTapeEngage r q cyc s
  | .tapeEngagePoint r cyc => Sys2Proof.Machine.execTapeEngagePoint r cyc s
  | .tapeEngaged r cyc t => Sys2Proof.Machine.execTapeEngaged r cyc t s
  | .tapeRelease r q cyc => Sys2Proof.Machine.execTapeRelease r q cyc s
  | .tapeReleasePoint r cyc => Sys2Proof.Machine.execTapeReleasePoint r cyc s
  | .tapeReleased r cyc t => Sys2Proof.Machine.execTapeReleased r cyc t s
  | .vfEnableClear t => Sys2Proof.Machine.execVfEnableClear t s
  | .vfFlr tn t => Sys2Proof.Machine.execVfFlr tn t s
  | .vfFlrDone tn t => Sys2Proof.Machine.execVfFlrDone tn t s
  | .pfFlr pf t => Sys2Proof.Machine.execPfFlr pf t s
  | .d3hot pf t => Sys2Proof.Machine.execD3hot pf t s
  | .busMasterDisable f t => Sys2Proof.Machine.execBusMasterDisable f t s
  | .atsInvalidate f lo n t => Sys2Proof.Machine.execAtsInvalidate f lo n t s
  | .readFailure g index cause addr t => Sys2Proof.Machine.execReadFailure g index cause addr t s
  | .msixUnmask f v t => Sys2Proof.Machine.execMsixUnmask f v t s
  | .spdmRequest sb t => Sys2Proof.Machine.execSpdmRequest sb t s
  | .pageacc addr write go data t fin => Sys2Proof.Machine.execPageacc addr write go data t fin s
  | .portOff q => Sys2Proof.Machine.execPortOff q s
  | .classMask q => Sys2Proof.Machine.execClassMask q s
  | .classMaskDone t => Sys2Proof.Machine.execClassMaskDone t s
  | .tailWrite g q => Sys2Proof.Machine.execTailWrite g q s
  | .pushWrite g port off len full words t => Sys2Proof.Machine.execPushWrite g port off len full words t s
  | .cancel g q => Sys2Proof.Machine.execCancel g q s
  | .serviceTurn t => Sys2Proof.Machine.execServiceTurn t s
  | .entryFetched g r t => Sys2Proof.Machine.execEntryFetched g r t s
  | .runaheadRead g index r t => Sys2Proof.Machine.execRunaheadRead g index r t s
  | .openChainTimeout g t => Sys2Proof.Machine.execOpenChainTimeout g t s
  | .hodReadDone g index data t => Sys2Proof.Machine.execHodReadDone g index data t s
  | .bufferClaim ing cyc => Sys2Proof.Machine.execBufferClaim ing cyc s
  | .headPublish g t => Sys2Proof.Machine.execHeadPublish g t s
  | .coalesceTimeout g t => Sys2Proof.Machine.execCoalesceTimeout g t s
  | .queueReset q => Sys2Proof.Machine.execQueueReset q s
  | .queueResetDone g t => Sys2Proof.Machine.execQueueResetDone g t s
  | .queueWdog g t => Sys2Proof.Machine.execQueueWdog g t s
  | .sklLoad tn q => Sys2Proof.Machine.execSklLoad tn q s
  | .sklRemove tn q => Sys2Proof.Machine.execSklRemove tn q s
  | .hartAdd h c => Sys2Proof.Machine.execHartAdd h c s
  | .hartSub h c => Sys2Proof.Machine.execHartSub h c s
  | .hartAnd h c => Sys2Proof.Machine.execHartAnd h c s
  | .hartOr h c => Sys2Proof.Machine.execHartOr h c s
  | .hartXor h c => Sys2Proof.Machine.execHartXor h c s
  | .hartSll h c => Sys2Proof.Machine.execHartSll h c s
  | .hartSrl h c => Sys2Proof.Machine.execHartSrl h c s
  | .hartSra h c => Sys2Proof.Machine.execHartSra h c s
  | .hartSlt h c => Sys2Proof.Machine.execHartSlt h c s
  | .hartSltu h c => Sys2Proof.Machine.execHartSltu h c s
  | .hartMul h c => Sys2Proof.Machine.execHartMul h c s
  | .hartAddi h c => Sys2Proof.Machine.execHartAddi h c s
  | .hartAndi h c => Sys2Proof.Machine.execHartAndi h c s
  | .hartOri h c => Sys2Proof.Machine.execHartOri h c s
  | .hartXori h c => Sys2Proof.Machine.execHartXori h c s
  | .hartSlli h c => Sys2Proof.Machine.execHartSlli h c s
  | .hartSrli h c => Sys2Proof.Machine.execHartSrli h c s
  | .hartSrai h c => Sys2Proof.Machine.execHartSrai h c s
  | .hartLui h c => Sys2Proof.Machine.execHartLui h c s
  | .hartLw h c => Sys2Proof.Machine.execHartLw h c s
  | .hartLbu h c => Sys2Proof.Machine.execHartLbu h c s
  | .hartSw h c => Sys2Proof.Machine.execHartSw h c s
  | .hartSb h c => Sys2Proof.Machine.execHartSb h c s
  | .storePerformed c => Sys2Proof.Machine.execStorePerformed c s
  | .hartSwo h c => Sys2Proof.Machine.execHartSwo h c s
  | .hartAmoswap h c => Sys2Proof.Machine.execHartAmoswap h c s
  | .hartCas h c => Sys2Proof.Machine.execHartCas h c s
  | .hartFence h c => Sys2Proof.Machine.execHartFence h c s
  | .hartLdd h c t => Sys2Proof.Machine.execHartLdd h c t s
  | .hartStd h c t => Sys2Proof.Machine.execHartStd h c t s
  | .hartArq h c => Sys2Proof.Machine.execHartArq h c s
  | .arqComplete h r t => Sys2Proof.Machine.execArqComplete h r t s
  | .hartBeq h c => Sys2Proof.Machine.execHartBeq h c s
  | .hartBne h c => Sys2Proof.Machine.execHartBne h c s
  | .hartBlt h c => Sys2Proof.Machine.execHartBlt h c s
  | .hartBge h c => Sys2Proof.Machine.execHartBge h c s
  | .hartBltu h c => Sys2Proof.Machine.execHartBltu h c s
  | .hartBgeu h c => Sys2Proof.Machine.execHartBgeu h c s
  | .hartJmp h c => Sys2Proof.Machine.execHartJmp h c s
  | .hartLoop h c => Sys2Proof.Machine.execHartLoop h c s
  | .hartEndloop h c => Sys2Proof.Machine.execHartEndloop h c s
  | .hartCall h c => Sys2Proof.Machine.execHartCall h c s
  | .hartRet h c => Sys2Proof.Machine.execHartRet h c s
  | .hartDispatch h c => Sys2Proof.Machine.execHartDispatch h c s
  | .hartRdpos h c t => Sys2Proof.Machine.execHartRdpos h c t s
  | .hartRdcyc h c t => Sys2Proof.Machine.execHartRdcyc h c t s
  | .hartDone h c => Sys2Proof.Machine.execHartDone h c s
  | .eventPost t => Sys2Proof.Machine.execEventPost t s
  | .eventDispatch c => Sys2Proof.Machine.execEventDispatch c s
  | .handlerBudget h c => Sys2Proof.Machine.execHandlerBudget h c s
  | .hartRestart q => Sys2Proof.Machine.execHartRestart q s
  | .swEvent q => Sys2Proof.Machine.execSwEvent q s
  | .heartbeat q => Sys2Proof.Machine.execHeartbeat q s
  | .timerPeriod k t => Sys2Proof.Machine.execTimerPeriod k t s
  | .doorbell k q => Sys2Proof.Machine.execDoorbell k q s
  | .mbDone k q => Sys2Proof.Machine.execMbDone k q s
  | .vcoreSetWrite q => Sys2Proof.Machine.execVcoreSetWrite q s
  | .avsReadback mv t => Sys2Proof.Machine.execAvsReadback mv t s
  | .pmbusPoll k r t => Sys2Proof.Machine.execPmbusPoll k r t s
  | .domainReady k t => Sys2Proof.Machine.execDomainReady k t s
  | .clipSample readings t => Sys2Proof.Machine.execClipSample readings t s
  | .stretchRaise t cyc => Sys2Proof.Machine.execStretchRaise t cyc s
  | .stretchRelax t cyc => Sys2Proof.Machine.execStretchRelax t cyc s
  | .commitHold t cyc => Sys2Proof.Machine.execCommitHold t cyc s
  | .holdEnd t => Sys2Proof.Machine.execHoldEnd t s
  | .capWindow mean t => Sys2Proof.Machine.execCapWindow mean t s
  | .sensorUpdate k temp t => Sys2Proof.Machine.execSensorUpdate k temp t s
  | .sensorFail k selfTest t => Sys2Proof.Machine.execSensorFail k selfTest t s
  | .thermalTrip k t => Sys2Proof.Machine.execThermalTrip k t s
  | .tripCooled t => Sys2Proof.Machine.execTripCooled t s
  | .fpllLock k t => Sys2Proof.Machine.execFpllLock k t s
  | .pllUnlock k t => Sys2Proof.Machine.execPllUnlock k t s
  | .clockSwitchDone g t => Sys2Proof.Machine.execClockSwitchDone g t s
  | .stuckSwitch g t => Sys2Proof.Machine.execStuckSwitch g t s
  | .gclkFreqWindow g khz t => Sys2Proof.Machine.execGclkFreqWindow g khz t s
  | .lpTxTransfer r tag data t cyc => Sys2Proof.Machine.execLpTxTransfer r tag data t cyc s
  | .lpRxTransfer r t => Sys2Proof.Machine.execLpRxTransfer r t s
  | .lraAccess addr write data t => Sys2Proof.Machine.execLraAccess addr write data t s
  | .lraAnswer t => Sys2Proof.Machine.execLraAnswer t s
  | .bramAccess b j a t => Sys2Proof.Machine.execBramAccess b j a t s
  | .frameReadback q => Sys2Proof.Machine.execFrameReadback q s
  | .vccoFault b mv t => Sys2Proof.Machine.execVccoFault b mv t s
  | .lockLost l cdr t => Sys2Proof.Machine.execLockLost l cdr t s
  | .ethRxFrame p bytes good full t => Sys2Proof.Machine.execEthRxFrame p bytes good full t s
  | .ethTxFrame p f t => Sys2Proof.Machine.execEthTxFrame p f t s
  | .ethLinkDown p t => Sys2Proof.Machine.execEthLinkDown p t s
  | .txtsPop p q => Sys2Proof.Machine.execTxtsPop p q s
  | .ptpStep p q => Sys2Proof.Machine.execPtpStep p q s
  | .ptpSetGo p q => Sys2Proof.Machine.execPtpSetGo p q s
  | .txSlotGo p k q => Sys2Proof.Machine.execTxSlotGo p k q s
  | .sbMctpControl m t => Sys2Proof.Machine.execSbMctpControl m t s
  | .sbPldm m t => Sys2Proof.Machine.execSbPldm m t s
  | .sbRegAccess m t fin => Sys2Proof.Machine.execSbRegAccess m t fin s
  | .aliveTest t => Sys2Proof.Machine.execAliveTest t s
  | .aliveFault t => Sys2Proof.Machine.execAliveFault t s
  | .aliveClear q => Sys2Proof.Machine.execAliveClear q s
  | .okReqWrite q => Sys2Proof.Machine.execOkReqWrite q s
  | .lwLanesLocked k t cyc => Sys2Proof.Machine.execLwLanesLocked k t cyc s
  | .lwRateTimeout k t => Sys2Proof.Machine.execLwRateTimeout k t s
  | .lwInitReceived k f overlap version code both t cyc => Sys2Proof.Machine.execLwInitReceived k f overlap version code both t cyc s
  | .lwFlitReceived k f overlap t cyc => Sys2Proof.Machine.execLwFlitReceived k f overlap t cyc s
  | .lwRetryReq k f overlap last t cyc => Sys2Proof.Machine.execLwRetryReq k f overlap last t cyc s
  | .lwFlitClose k t cyc => Sys2Proof.Machine.execLwFlitClose k t cyc s
  | .lwSilence k t => Sys2Proof.Machine.execLwSilence k t s
  | .lwLaneLoss k t => Sys2Proof.Machine.execLwLaneLoss k t s
  | .lwRefWindow k within t => Sys2Proof.Machine.execLwRefWindow k within t s
  | .lwAckTimeout k c t => Sys2Proof.Machine.execLwAckTimeout k c t s
  | .copyGo k q => Sys2Proof.Machine.execCopyGo k q s
  | .copyDone k t => Sys2Proof.Machine.execCopyDone k t s
  | .rregGo k q => Sys2Proof.Machine.execRregGo k q s
  | .rregResp k t => Sys2Proof.Machine.execRregResp k t s
  | .powerOnReset vaon vaux t => Sys2Proof.Machine.execPowerOnReset vaon vaux t s
  | .aonStart host i3c sbAddr t => Sys2Proof.Machine.execAonStart host i3c sbAddr t s
  | .coreResetRelease t => Sys2Proof.Machine.execCoreResetRelease t s
  | .brownOut t => Sys2Proof.Machine.execBrownOut t s
  | .sysResetN t => Sys2Proof.Machine.execSysResetN t s
  | .perstNAssert t => Sys2Proof.Machine.execPerstNAssert t s
  | .perstNDeassert t => Sys2Proof.Machine.execPerstNDeassert t s
  | .pcieLinkUp speed width t => Sys2Proof.Machine.execPcieLinkUp speed width t s
  | .refclkLoss t => Sys2Proof.Machine.execRefclkLoss t s
  | .devReset q => Sys2Proof.Machine.execDevReset q s
  | .deviceResetDone t => Sys2Proof.Machine.execDeviceResetDone t s
  | .romImageRead r t => Sys2Proof.Machine.execRomImageRead r t s
  | .fwGo q => Sys2Proof.Machine.execFwGo q s
  | .cfgReadyWrite q => Sys2Proof.Machine.execCfgReadyWrite q s
  | .cfgReadyForced t => Sys2Proof.Machine.execCfgReadyForced t s
  | .noHost q => Sys2Proof.Machine.execNoHost q s
  | .hbmTrained st t => Sys2Proof.Machine.execHbmTrained st t s
  | .trainFail st t => Sys2Proof.Machine.execTrainFail st t s
  | .retrain q => Sys2Proof.Machine.execRetrain q s
  | .pinBurn q => Sys2Proof.Machine.execPinBurn q s
  | .svnBurn q => Sys2Proof.Machine.execSvnBurn q s
  | .burnDone t => Sys2Proof.Machine.execBurnDone t s
  | .scrubScan x t cyc => Sys2Proof.Machine.execScrubScan x t cyc s
  | .goldenReadDone x ue t cyc => Sys2Proof.Machine.execGoldenReadDone x ue t cyc s
  | .scrubPause p t cyc => Sys2Proof.Machine.execScrubPause p t cyc s
  | .scrubPauseEnd p t cyc => Sys2Proof.Machine.execScrubPauseEnd p t cyc s
  | .scrubPassDone t => Sys2Proof.Machine.execScrubPassDone t s
  | .sndVote f0 f1 f2 t => Sys2Proof.Machine.execSndVote f0 f1 f2 t s
  | .sndCfgWrite q => Sys2Proof.Machine.execSndCfgWrite q s
  | .ladderRetry q => Sys2Proof.Machine.execLadderRetry q s
  | .ladderQueueReset q => Sys2Proof.Machine.execLadderQueueReset q s
  | .ladderTenantReset q => Sys2Proof.Machine.execLadderTenantReset q s
  | .ladderPipelineReset q => Sys2Proof.Machine.execLadderPipelineReset q s
  | .ladderDeviceReset q => Sys2Proof.Machine.execLadderDeviceReset q s
  | .ladderClear q => Sys2Proof.Machine.execLadderClear q s
  | .ladderExpiry t => Sys2Proof.Machine.execLadderExpiry t s
  | .swdExpiry t => Sys2Proof.Machine.execSwdExpiry t s
  | .queueSample p t cyc => Sys2Proof.Machine.execQueueSample p t cyc s
  | .sampleIntervalEnd p t => Sys2Proof.Machine.execSampleIntervalEnd p t s
  | .traceRecordWrite t => Sys2Proof.Machine.execTraceRecordWrite t s
  | .traceMirrorWrite t => Sys2Proof.Machine.execTraceMirrorWrite t s
  | .traceRdWrite q => Sys2Proof.Machine.execTraceRdWrite q s
  | .qselWrite q => Sys2Proof.Machine.execQselWrite q s
  | .tselWrite q => Sys2Proof.Machine.execTselWrite q s
  | .tctlClear q => Sys2Proof.Machine.execTctlClear q s
  | .loggedRead a => Sys2Proof.Machine.execLoggedRead a s
  | .illegalInstruction h c => Sys2Proof.Machine.execIllegalInstruction h c s
  | .pcieLinkDown t => Sys2Proof.Machine.execPcieLinkDown t s
  | .pfFlrDone pf t => Sys2Proof.Machine.execPfFlrDone pf t s
  | .returnToD0 pf t => Sys2Proof.Machine.execReturnToD0 pf t s
  | .vccoGood b mv t => Sys2Proof.Machine.execVccoGood b mv t s
  | .laneLocked l t => Sys2Proof.Machine.execLaneLocked l t s
  | .ethLinkUp p t => Sys2Proof.Machine.execEthLinkUp p t s
  | .lwIdleFlit k t cyc => Sys2Proof.Machine.execLwIdleFlit k t cyc s
  | .sbDynamicAddress a t => Sys2Proof.Machine.execSbDynamicAddress a t s
  | .sbOtherMessage t => Sys2Proof.Machine.execSbOtherMessage t s

end Sys2Proof.Machine
end

