-- ==== Sys2Proof/Safety.lean ====
section
/-! DEFINITION. Safety.lean: the terms in which the statements speak of a command: that it completes, that its page performs a
write, that nothing but named registers changes, and the invariants of the supervisor's harts and memories. -/
namespace Sys2Proof.Machine

/-- Command `c` in state `s` answers a next state, of which `P` holds. -/
def Completes (c : Instr) (s : State) (P : State → Prop) : Prop := ∃ t, exec c s = .next t ∧ P t

/-- The page performs a write of the register at `off` by `q` (R24 to R29, R46, R56): the port reaches the register, and no mask, no
tenant rule, no power gate and no reset stands in the way. -/
def Writes (s : State) (q : Req) (off : Nat) : Bool :=
  match (s.dev.at q.t).ownOffset q.port off with
  | none => false
  | some a => (s.dev.at q.t).reaches q.port a q.be 4 true

/-- The page performs a read of the register at `off` by `q`. -/
def Reads (s : State) (q : Req) (off : Nat) : Bool :=
  match (s.dev.at q.t).ownOffset q.port off with
  | none => false
  | some a => (s.dev.at q.t).reaches q.port a q.be 4 false

/-- The page performs the access `a` as a write of the word at PF0 offset `off`. -/
def WritesAt (s : State) (a : Access) (off : Nat) : Bool :=
  match a.target with
  | .page x => (((s.dev.at a.t).resolve a.port x).map (s.dev.at a.t).alias_) == some off && (s.dev.at a.t).reaches a.port x a.be a.len true
  | _ => false

/-- The page performs the access `a` as a read of the word at PF0 offset `off`. -/
def ReadsAt (s : State) (a : Access) (off : Nat) : Bool :=
  match a.target with
  | .page x => (((s.dev.at a.t).resolve a.port x).map (s.dev.at a.t).alias_) == some off && (s.dev.at a.t).reaches a.port x a.be a.len false
  | _ => false

/-- Nothing of the state but the device's registers and its clocks changes: no memory, no hart, no queue, no other unit. -/
def RegsOnly (s t : State) : Prop :=
  { t.dev with regs := s.dev.regs, now := s.dev.now } = s.dev ∧ t.harts = s.harts ∧ t.pending = s.pending

/-- Every register but those of the list `l` holds what it held. -/
def KeepsRegs (s t : State) (l : List Nat) : Prop := ∀ o, o ∉ l → t.dev.reg o = s.dev.reg o

/-- The harts, the scratchpad and the queue of commands are untouched. -/
def KeepsHarts (s t : State) : Prop := t.harts = s.harts ∧ t.pending = s.pending

/-- The commands that may reach the supervisor's harts, their scratchpad or their ports: the supervisor's own instructions and events, the
boot path, the resets, and the accesses of ports that reach HART_CMD. -/
def reachesHarts : Instr → Bool
  | .hartAdd _ _ => true
  | .hartSub _ _ => true
  | .hartAnd _ _ => true
  | .hartOr _ _ => true
  | .hartXor _ _ => true
  | .hartSll _ _ => true
  | .hartSrl _ _ => true
  | .hartSra _ _ => true
  | .hartSlt _ _ => true
  | .hartSltu _ _ => true
  | .hartMul _ _ => true
  | .hartAddi _ _ => true
  | .hartAndi _ _ => true
  | .hartOri _ _ => true
  | .hartXori _ _ => true
  | .hartSlli _ _ => true
  | .hartSrli _ _ => true
  | .hartSrai _ _ => true
  | .hartLui _ _ => true
  | .hartLw _ _ => true
  | .hartLbu _ _ => true
  | .hartSw _ _ => true
  | .hartSb _ _ => true
  | .hartSwo _ _ => true
  | .hartAmoswap _ _ => true
  | .hartCas _ _ => true
  | .hartFence _ _ => true
  | .hartLdd _ _ _ => true
  | .hartStd _ _ _ => true
  | .hartArq _ _ => true
  | .hartBeq _ _ => true
  | .hartBne _ _ => true
  | .hartBlt _ _ => true
  | .hartBge _ _ => true
  | .hartBltu _ _ => true
  | .hartBgeu _ _ => true
  | .hartJmp _ _ => true
  | .hartLoop _ _ => true
  | .hartEndloop _ _ => true
  | .hartCall _ _ => true
  | .hartRet _ _ => true
  | .hartDispatch _ _ => true
  | .hartRdpos _ _ _ => true
  | .hartRdcyc _ _ _ => true
  | .hartDone _ _ => true
  | .hartRestart _ => true
  | .registerWrite _ => true
  | .pairHiWrite _ => true
  | .pageacc _ _ _ _ _ _ => true
  | .sbRegAccess _ _ _ => true
  | .lraAccess _ _ _ _ => true
  | .lwFlitReceived _ _ _ _ _ => true
  | .romImageRead _ _ => true
  | .sysResetN _ => true
  | .coreResetRelease _ => true
  | .swdExpiry _ => true
  | .refclkLoss _ => true
  | .powerOnReset _ _ _ => true
  | .brownOut _ => true
  | .eventPost _ => true
  | .eventDispatch _ => true
  | .handlerBudget _ _ => true
  | .illegalInstruction _ _ => true
  | .storePerformed _ => true
  | .arqComplete _ _ _ => true
  | _ => false

/-- Whether a written register is an ordinary one: no row of its own, no part of a pair, no header word, and of a block whose registers
do nothing beside holding what they hold. -/
def Plain (d : Device) (q : Req) (off : Nat) (r : RegDef) : Prop :=
  regDefAt off = some r ∧ r.pair = 0 ∧ inHeader off = false ∧ d.actingWrite q off = none ∧
    match blockAt off with
    | some (n, _) => n ≠ 5 ∧ n ≠ 22 ∧ n ≠ 23 ∧ n ≠ 28 ∧ n ≠ 31
    | none => False

/-- What the field `f` of a word holds after a write of `v` to its register, by its access type (Table 0.4). -/
def fieldAfter (f : RField) (old v : Word) : Nat :=
  match f.acc with
  | .rw => fld v f.lo f.w
  | .w1c => fld (old &&& ~~~v) f.lo f.w
  | .w1s => fld (old ||| v) f.lo f.w
  | _ => fld old f.lo f.w

/-- The op that issues at tile k in stage cycle `cyc` under R116, its opcode admitted by `ok`, with the tile's counters brought up to the
cycle. -/
def readyOp (s : State) (k cyc : Nat) (ok : Nat → Bool) : Option OpIn :=
  ((s.dev.atCyc cyc).opAt k cyc ok).map fun o => { o with d := o.d.account k cyc }

/-- The array runs, no word of the device is upset, and no flit in the queues of tile k is damaged. -/
def Sound (s : State) (k : Nat) : Prop :=
  s.dev.arrayRuns = true ∧ s.dev.upsets = [] ∧ ∀ q, ∀ f ∈ (s.dev.tile k).queue q, f.bad = 0

/-- A stage op of Table 6.3 that works in beats: its command, its opcode, what it needs and what it does. -/
structure StageOp where
  cmd : Fin 4096 → Nat → Instr
  opc : Nat
  plan : OpIn → OpPlan
  eff : OpIn → List (Nat × List Flit) → Eff

/-- The stage ops that work in beats, each with its opcode of Table 6.3. -/
def stageOps : List StageOp := [
  ⟨.opTake, 0x08, takePlan, takeEff⟩, ⟨.opGive, 0x09, givePlan, giveEff⟩, ⟨.opPass, 0x0A, passPlan, passEff⟩,
  ⟨.opTagset, 0x0B, tagsetPlan, tagsetEff⟩, ⟨.opHld, 0x10, hldPlan, hldEff⟩, ⟨.opHst, 0x11, hstPlan, hstEff⟩,
  ⟨.opWsr, 0x12, wsrPlan, wsrEff⟩, ⟨.opRot, 0x20, rotPlan, rotEff⟩, ⟨.opMaci, 0x21, maciPlan, maciEff⟩,
  ⟨.opMact, 0x22, mactPlan, mactEff⟩, ⟨.opMacf, 0x23, macfPlan, macfEff⟩, ⟨.opGsum, 0x24, gsumPlan, gsumEff⟩,
  ⟨.opZpc, 0x25, zpcPlan, zpcEff⟩, ⟨.opGsc, 0x26, gscPlan, gscEff⟩, ⟨.opRqn, 0x27, rqnPlan, rqnEff⟩,
  ⟨.opAct, 0x28, actPlan, actEff⟩, ⟨.opAddv, 0x29, vecPlan, vecEff (fun a b => satS32 (a + b)) fp32Add⟩,
  ⟨.opMulv, 0x2A, vecPlan, vecEff (fun a b => satS32 (a * b)) fp32Mul⟩, ⟨.opMaxp, 0x2B, vecPlan, vecEff max fp32Max⟩,
  ⟨.opAvgp, 0x2C, avgpPlan, avgpEff⟩, ⟨.opExps, 0x2D, expsPlan, expsEff⟩, ⟨.opNrm, 0x2E, nrmPlan, nrmEff⟩,
  ⟨.opShuf, 0x2F, shufPlan, shufEff⟩]

/-- The array runs and no word of the device is upset. -/
def Clean (s : State) : Prop := s.dev.arrayRuns = true ∧ s.dev.upsets = []

/-- The output entry of (k, dir) for the slot of stage cycle `cyc`. -/
def outNow (s : State) (k dir cyc : Nat) : Nat := s.dev.outE (skey k dir (cyc % 16))

/-- The key of the arrival entry that the output entry of (k, dir) names. -/
def arrNow (s : State) (k dir cyc : Nat) : Nat := entryArr k (outNow s k dir cyc)

/-- The job of a tracker number has a state and a status. -/
def JobIs (s : State) (id : Nat) (x : JobSt) (status : Nat) : Prop := ∃ j, s.dev.job id = some j ∧ j.st = x ∧ j.status = status

/-- The job `j` can complete with a written header: the tracker holds it, it has not completed, no reset has left it behind, and no
FENCE of its queue waits. -/
def CanFinish (s : State) (j : Job) : Prop :=
  s.dev.job j.id = some j ∧ j.st ≠ .completed ∧ j.orphan = false ∧ (s.dev.queue j.q).fence = none

/-- Queue g can hand over a job at once: no chain kept, no fence, room in the tracker and in the tenant's quota. -/
def HandsOver (d : Device) (g : Nat) : Prop :=
  (d.queue g).held = [] ∧ (d.queue g).fence = none ∧ d.trackerFull = false ∧ d.quotaFull (tenantOf g) = false

/-- In hart cycle c hart h issues the instruction word that decodes to i: it runs, it is free, its budget has not ended, and its
fetch passes (R417 to R419, R428, R439). -/
def Issuing (s : State) (h c : Nat) (i : HWord) : Prop :=
  ((s.atHart c).hart h).st = .running ∧ ((s.atHart c).hart h).free ≤ c ∧ (s.atHart c).expired h c = false ∧
  ∃ w s1, (s.atHart c).fetch ((s.atHart c).hart h).pc = (.ok w, s1) ∧ hartDecode w = some i

/-- A hart that has issued instruction i in cycle c: the pc is past it and the hart is busy for its cycles. -/
def Hart.issued (x : Hart) (c : Nat) (i : HWord) : Hart :=
  { x with
    cur := x.pc
    pc := (x.pc + 4) % 2 ^ 32
    free := c + hartCycles i.op
    first := x.first.or (some c) }

/-- Of the state at hart cycle c, hart h alone becomes x; the scratchpad, the other harts and every register but the count of corrected
scratchpad words stand. -/
def HartBecomes (s : State) (h c : Nat) (x : Hart) (t : State) : Prop :=
  t.hart h = x ∧ (∀ k, k ≠ h → t.hart k = (s.atHart c).hart k) ∧ t.harts.sp = (s.atHart c).harts.sp ∧
  KeepsRegs (s.atHart c) t [R.sup_SP_CE_COUNT] ∧ t.pending = s.pending

/-- Hart h faults with a code at the instruction it issues in cycle c (R438): its registers, stacks and the scratchpad stand, the code and
the pc are recorded and a FAULT event is posted. -/
def HartFaults (s : State) (h c code : Nat) (t : State) : Prop :=
  let x := (s.atHart c).hart h
  (t.hart h).st = .faulted ∧ (t.hart h).w = x.w ∧ (t.hart h).pc = x.pc ∧ (t.hart h).loops = x.loops ∧ (t.hart h).calls = x.calls ∧
  (t.hart h).buf = x.buf ∧ t.dev.rn (R.sup_HART_FCODE h) = 2 ^ 31 + code ∧ t.dev.reg (R.sup_HART_FPC h) = wd x.pc ∧
  (∃ e ∈ t.dev.arriving, e.kind = 5 ∧ e.tag = h ∧ e.value = wd code) ∧
  (∀ k, k ≠ h → t.hart k = (s.atHart c).hart k) ∧ t.harts.sp = (s.atHart c).harts.sp ∧ t.pending = s.pending

/-- An instruction of Table 16.5 that writes w[RD]: its command, its opcode and the value, in the table's own terms. -/
structure RegOp where
  cmd : Fin 4 → Nat → Instr
  opc : Nat
  val : Hart → HWord → Word

/-- 1 where a proposition holds. -/
def oneIf (p : Prop) [Decidable p] : Word := if p then 1 else 0

/-- The arithmetic instructions of Table 16.5. -/
def regOps : List RegOp := [
  ⟨.hartAdd, 0x01, fun x i => BitVec.ofNat 32 ((x.r i.rs).toNat + (x.r i.rt).toNat)⟩,
  ⟨.hartSub, 0x02, fun x i => BitVec.ofInt 32 ((x.r i.rs).toInt - (x.r i.rt).toInt)⟩,
  ⟨.hartAnd, 0x03, fun x i => x.r i.rs &&& x.r i.rt⟩, ⟨.hartOr, 0x04, fun x i => x.r i.rs ||| x.r i.rt⟩,
  ⟨.hartXor, 0x05, fun x i => x.r i.rs ^^^ x.r i.rt⟩,
  ⟨.hartSll, 0x06, fun x i => BitVec.ofNat 32 ((x.r i.rs).toNat * 2 ^ ((x.r i.rt).toNat % 32))⟩,
  ⟨.hartSrl, 0x07, fun x i => BitVec.ofNat 32 ((x.r i.rs).toNat / 2 ^ ((x.r i.rt).toNat % 32))⟩,
  ⟨.hartSra, 0x08, fun x i => BitVec.ofInt 32 ((x.r i.rs).toInt / 2 ^ ((x.r i.rt).toNat % 32))⟩,
  ⟨.hartSlt, 0x09, fun x i => oneIf ((x.r i.rs).toInt < (x.r i.rt).toInt)⟩,
  ⟨.hartSltu, 0x0A, fun x i => oneIf ((x.r i.rs).toNat < (x.r i.rt).toNat)⟩,
  ⟨.hartMul, 0x0B, fun x i => BitVec.ofNat 32 ((x.r i.rs).toNat * (x.r i.rt).toNat)⟩,
  ⟨.hartAddi, 0x10, fun x i => BitVec.ofInt 32 ((x.r i.rs).toInt + sext 18 i.imm)⟩,
  ⟨.hartAndi, 0x11, fun x i => x.r i.rs &&& BitVec.ofNat 32 i.imm⟩, ⟨.hartOri, 0x12, fun x i => x.r i.rs ||| BitVec.ofNat 32 i.imm⟩,
  ⟨.hartXori, 0x13, fun x i => x.r i.rs ^^^ BitVec.ofNat 32 i.imm⟩,
  ⟨.hartSlli, 0x14, fun x i => BitVec.ofNat 32 ((x.r i.rs).toNat * 2 ^ (i.imm % 32))⟩,
  ⟨.hartSrli, 0x15, fun x i => BitVec.ofNat 32 ((x.r i.rs).toNat / 2 ^ (i.imm % 32))⟩,
  ⟨.hartSrai, 0x16, fun x i => BitVec.ofInt 32 ((x.r i.rs).toInt / 2 ^ (i.imm % 32))⟩,
  ⟨.hartLui, 0x17, fun _ i => BitVec.ofNat 32 (i.imm * 65536)⟩]

/-- The conditional branches of Table 16.5: command, opcode, condition. -/
def branchOps : List ((Fin 4 → Nat → Instr) × Nat × (Word → Word → Bool)) := [
  (.hartBeq, 0x28, fun a b => decide (a = b)), (.hartBne, 0x29, fun a b => decide (a ≠ b)),
  (.hartBlt, 0x2A, fun a b => decide (a.toInt < b.toInt)), (.hartBge, 0x2B, fun a b => decide (b.toInt ≤ a.toInt)),
  (.hartBltu, 0x2C, fun a b => decide (a.toNat < b.toNat)), (.hartBgeu, 0x2D, fun a b => decide (b.toNat ≤ a.toNat))]

/-- Hart h's request q is complete at tick k (R426): its place is marked, and an event of kind 2 with the hart, the place, ERR and the value
is posted to its slot; its other state stands. -/
def ArqEnds (s : State) (h k : Nat) (q : Arq) (e : Bool) (v : Word) (t : State) : Prop :=
  t.hart h = { s.hart h with arqs := (s.hart h).arqs.map fun y => if y.place = q.place then { y with done := true } else y } ∧
  (∃ x ∈ t.dev.arriving, x.kind = 2 ∧ x.slot = q.slot ∧ x.src = wd (16 * h + 64 * q.place + if e then 512 else 0) ∧ x.value = v ∧
    x.tick = (s.dev.at k).now.tick ∧ x.tag = 8 * h + q.place) ∧ t.pending = s.pending

/-- Post e waits, and every other post that waits enters after it: held ones first, then by hart cycle, kind and number (R436). -/
def EntersFirst (l : List SupEvent) (e : SupEvent) : Prop := e ∈ l ∧ ∀ b ∈ l, b ≠ e → e.before b = true ∧ b.before e = false

/-- Whether hart h could take an event of slot n in hart cycle c: its bit of the slot is set, it is IDLE and free. -/
def CanTake (s : State) (h n c : Nat) : Prop := s.dev.rf (R.sup_HS_CFG n) (4 + h) 1 = 1 ∧ (s.hart h).st = .idle ∧ (s.hart h).free ≤ c

/-- In block RAM u a write of n lanes from lane l with enables we and data v: an enabled lane takes its nine bits, every other lane of every
block RAM is unchanged (R476). -/
def Wrote (s t : State) (u l n we v : Nat) : Prop :=
  ∀ y, Store.get zeroN t.dev.lath.bram y = if 4096 * u + l ≤ y ∧ y < 4096 * u + l + n ∧ we.testBit (y - (4096 * u + l))
    then v / 512 ^ (y - (4096 * u + l)) % 512 else Store.get zeroN s.dev.lath.bram y

/-- The read output of port p of block RAM u takes v, its output register what the output held; every other port is unchanged. -/
def Latched (s t : State) (u p v : Nat) : Prop :=
  Store.get bramPort0 t.dev.lath.ports (2 * u + p) = ⟨v, (Store.get bramPort0 s.dev.lath.ports (2 * u + p)).out, false, false⟩ ∧
  ∀ x, x ≠ 2 * u + p → Store.get bramPort0 t.dev.lath.ports x = Store.get bramPort0 s.dev.lath.ports x

/-- The lanes of a block RAM as they stand, from lane l, n of them, 9 bits each. -/
def lanesOf (s : State) (u l n : Nat) : Nat := ((List.range n).map fun k => Store.get zeroN s.dev.lath.bram (4096 * u + l + k) * 512 ^ k).sum

/-- Port k has sent one RETRY_REQ naming the FSEQ it expects (R538). -/
def AsksAgain (s : State) (k : Nat) (u : State) : Prop :=
  ∃ f, .lw k f ∈ u.dev.out ∧ f.kind = 2 ∧ f.ack.toNat = (s.dev.lw k).rxSeq % 256 ∧ f.bad false = false

/-- A reset of the CORE domain with a cause (R573, R577): CORE is held, hart 0 and the scratchpad run on, the other harts are as at reset,
nothing of the array is left, and the cause is recorded and counted. -/
def CoreHeld (s : State) (cause : Nat) (t : State) : Prop :=
  t.dev.boot.core = false ∧ t.dev.boot.mile = min s.dev.boot.mile 2 ∧ t.harts.sp = s.harts.sp ∧ t.hart 0 = s.hart 0 ∧
  (∀ h, 0 < h → t.hart h = hart0 h) ∧ t.dev.reg R.sec_RESET_CAUSE = wd cause ∧ t.dev.reg R.sec_RESETS = satAdd (s.dev.reg R.sec_RESETS) 1 ∧
  t.dev.jobs = [] ∧ t.dev.tiles = [] ∧ t.dev.hbm = [] ∧ t.dev.pipes = [] ∧ t.dev.hif.linkUp = false ∧ t.pending = s.pending

/-- Every register of the device but the fuses' reads as after power-on reset, and nothing is left of the harts, the memories and the jobs
(R558, R572). -/
def AllCleared (s t : State) : Prop :=
  t.harts = harts0 ∧ (∀ o, t.dev.reg o = if 0x1000 ≤ o ∧ o < 0x2000 ∧ o ≠ 0x100C then s.dev.reg o else resetOf o) ∧
  t.dev.hbm = [] ∧ t.dev.jobs = [] ∧ t.dev.tiles = [] ∧ t.dev.lib = [] ∧ t.dev.boot.por = true ∧ t.dev.boot.core = false ∧ t.pending = s.pending

/-- What always holds of a hart: its pc, the pc of its instruction in progress and the addresses on its stacks are words; at most four
loops and eight calls are open, a loop with 1 to 65,535 passes left; no call was made at a greater loop depth than a later one or than
now; an IDLE hart has none open; its asynchronous requests hold distinct places of the eight; and the cell of w0 holds 0. -/
def HartOk (x : Hart) : Prop :=
  x.pc % 4 = 0 ∧ x.cur % 4 = 0 ∧ x.loops.length ≤ 4 ∧ x.calls.length ≤ 8 ∧
  (∀ l ∈ x.loops, l.start % 4 = 0 ∧ l.fin % 4 = 0 ∧ 1 ≤ l.left ∧ l.left ≤ 65535) ∧
  (∀ a ∈ x.calls, a.1 % 4 = 0) ∧ (x.loops.length :: x.calls.map (·.2)).Pairwise (fun a b => b ≤ a) ∧
  (x.st = .idle → x.loops = [] ∧ x.calls = []) ∧ (x.arqs.map (·.place)).Nodup ∧ (∀ a ∈ x.arqs, a.place < 8) ∧
  Store.get zeroW x.w 0 = 0

/-- The supervisor's invariant: each of the four harts is sound and the scratchpad keeps its canonical form. -/
def HartsInv (s : State) : Prop := (∀ h < 4, HartOk (s.hart h)) ∧ Memory.wf s.harts.sp

end Sys2Proof.Machine
end

