-- ==== Sys2Proof/Certificates/Slice0/Obligations.lean ====
section
/-! DEFINITION. Certificates/Slice0/Obligations.lean: the statements for the provers, one definition each, in the order of
OBLIGATIONS.json. -/

open Sys2Proof Sys2Proof.Machine

/-- For every state whose queue is c followed by r, step answers what exec answers for c on the same state with the queue r; on an empty
queue the block idles (the idling is the model's choice, log entry 13). -/
def Obligations.StepRunsTheFrontCommand : Prop :=
  (∀ (s : State) (c : Instr) (r : List Instr), s.pending = c :: r → step s = exec c { s with pending := r }) ∧
    ∀ s : State, s.pending = [] → step s = .next s

/-- For every command c of the table and every state s, exec c s is a next state whose queue is that of s: no command faults and none is
refused, and no command adds to or takes from the queue. -/
def Obligations.EveryCommandCompletes : Prop :=
  ∀ (c : Instr) (s : State), Completes c s fun t => t.pending = s.pending

/-- Every command outside the list reachesHarts (the supervisor's instructions and events, boot and resets, and the accesses that can
write HART_CMD) answers a next state in which the harts and the scratchpad are what they were. -/
def Obligations.OnlySupervisorCommandsReachTheHarts : Prop :=
  ∀ (c : Instr) (s : State), reachesHarts c = false → Completes c s fun t => t.harts = s.harts

/-- A write of v, performed by its page, to a register without a row of its own whose every field the requester may write and whose RW
fields are given values in range: each RW field takes its part of v, each W1C field loses the bits written 1, each W1S field gains them,
every other field (RO, RWC, WO) of the committed word is unchanged; each RWC field of the shadow takes its part of v and every other field
of the shadow is unchanged; every other register is unchanged, as is all else but the shadow and the clock. -/
def Obligations.RegisterWriteActsByAccessType : Prop :=
  ∀ (s : State) (a : Access) (off : Nat) (r : RegDef), WritesAt s a off = true →
    Plain (s.dev.at a.t) ⟨a.port, 15, a.data, (s.dev.at a.t).now.tick⟩ off r →
    (∀ f ∈ r.fields, whoOk f.who a.port off = true ∧ (f.acc = .rw → inRange f (fld a.data f.lo f.w) = true)) →
    Completes (.registerWrite a) s fun t =>
      (∀ f ∈ r.fields, fld (t.dev.reg off) f.lo f.w = fieldAfter f (s.dev.reg off) a.data ∧
        fld (t.dev.sh off) f.lo f.w = if f.acc = .rwc then fld a.data f.lo f.w else fld (s.dev.sh off) f.lo f.w) ∧
      (∀ o, o ≠ off → t.dev.reg o = s.dev.reg o ∧ t.dev.sh o = s.dev.sh o) ∧
      { t.dev with regs := s.dev.regs, shadow := s.dev.shadow, now := s.dev.now } = s.dev ∧ KeepsHarts s t

/-- For an access of an existing port whose function is not in D3hot. Unmapped: DENY_COUNT goes up by one (saturating), DENY_LAST_ADDR
holds the address, a read answers 0. Denied: DENY_COUNT goes up, a read answers 0. Lost: LOST_WRITE_COUNT or LOST_READ_COUNT goes up, a
read answers all ones. None of them changes a hart, the scratchpad or HBM. -/
def Obligations.RefusedAccessesAreLogged : Prop :=
  ∀ (s : State) (a : Access) (x : Nat), a.target = .page x → (s.dev.at a.t).portExists a.port = true → (s.dev.at a.t).portD3 a.port = false →
    ((s.dev.at a.t).ending a.port x true = 2 → Completes (.registerWrite a) s fun t =>
      t.dev.reg R.pgd_DENY_COUNT = satAdd (s.dev.reg R.pgd_DENY_COUNT) 1 ∧ t.dev.hbm = s.dev.hbm ∧ KeepsHarts s t) ∧
    ((s.dev.at a.t).ending a.port x true = 1 → Completes (.registerWrite a) s fun t =>
      t.dev.reg R.pgd_DENY_COUNT = satAdd (s.dev.reg R.pgd_DENY_COUNT) 1 ∧ t.dev.hbm = s.dev.hbm ∧ KeepsHarts s t) ∧
    ((s.dev.at a.t).ending a.port x true = 3 → Completes (.registerWrite a) s fun t =>
      t.dev.reg R.pgd_LOST_WRITE_COUNT = satAdd (s.dev.reg R.pgd_LOST_WRITE_COUNT) 1 ∧ t.dev.hbm = s.dev.hbm ∧ KeepsHarts s t) ∧
    ((s.dev.at a.t).ending a.port x false = 2 ∨ (s.dev.at a.t).ending a.port x false = 1 → Completes (.loggedRead a) s fun t =>
      t.dev.reg R.pgd_DENY_COUNT = satAdd (s.dev.reg R.pgd_DENY_COUNT) 1 ∧ t.dev.out.head? = some (.reply (portCode a.port) 0 0) ∧
        KeepsHarts s t) ∧
    ((s.dev.at a.t).ending a.port x false = 3 → Completes (.loggedRead a) s fun t =>
      t.dev.reg R.pgd_LOST_READ_COUNT = satAdd (s.dev.reg R.pgd_LOST_READ_COUNT) 1 ∧
        t.dev.out.head? = some (.reply (portCode a.port) 0 0xFFFFFFFF#32) ∧ KeepsHarts s t)

/-- For an ordinary RW pair at lo, lo + 4 that the requester may write: a write to LO changes no register and stages the written RW bits;
a write to HI sets HI to the written RW bits and LO to the staged word, or leaves LO as it was where nothing is staged, and reloads the
staging register from LO; a read of a LO word (but for the supervisor's of PEEK, which R447 bars) answers its present word and captures
the present HI word. -/
def Obligations.PairsStageAndCapture : Prop :=
  ∀ (s : State) (a : Access) (lo : Nat), blockAt lo = blockAt (lo + 4) → inHeader lo = false → inHeader (lo + 4) = false →
    (match blockAt lo with | some (n, _) => n ≠ 5 ∧ n ≠ 22 ∧ n ≠ 23 ∧ n ≠ 28 ∧ n ≠ 31 | none => False) →
    (WritesAt s a lo = true → isPairRw lo 1 = true → mayWrite a.port lo = true →
      Completes (.pairLoWrite a) s fun t => (∀ o, t.dev.reg o = s.dev.reg o) ∧
        (t.dev.pairOf a.port lo).staged = some (a.data &&& rwMask lo) ∧ KeepsHarts s t) ∧
    (WritesAt s a (lo + 4) = true → isPairRw (lo + 4) 2 = true → isPairRw (lo + 4) 1 = false → mayWrite a.port (lo + 4) = true →
      (s.dev.at a.t).actingWrite ⟨a.port, 15, a.data, (s.dev.at a.t).now.tick⟩ (lo + 4) = none →
      Completes (.pairHiWrite a) s fun t => t.dev.reg (lo + 4) = a.data &&& rwMask (lo + 4) ∧
        t.dev.reg lo = ((s.dev.pairOf a.port lo).staged).getD (s.dev.reg lo) ∧
        (t.dev.pairOf a.port lo).staged = some (t.dev.reg lo) ∧ KeepsRegs s t [lo, lo + 4] ∧ KeepsHarts s t) ∧
    (ReadsAt s a lo = true → (regDefAt lo).map (·.pair) = some 1 →
      (portCode a.port = 7 → ∀ k, inPair lo (R.trw_PEEK_LO k) = false) → Completes (.pairLoRead a) s fun t =>
      t.dev.out.head? = some (.reply (portCode a.port) 0 ({ s with dev := s.dev.at a.t }.word a.port lo)) ∧
        (t.dev.pairOf a.port lo).captured = some ({ s with dev := s.dev.at a.t }.word a.port (lo + 4)) ∧
        (∀ o, t.dev.reg o = s.dev.reg o) ∧ KeepsHarts s t)

/-- On a page with HAS_COMMIT that shows its own unit's commits, for a requester that is not a tenant on its TEN page. APPLY without
DISCARD when STATE is not PENDING makes STATE PENDING and adds a snapshot of the unit's shadow; COMMIT written while STATE is PENDING
leaves the pending commits and the shadow and is counted in ERR_COUNT; DISCARD when STATE is not PENDING, with APPLY or without, makes the
shadow of every RWC register of the unit its committed word and sets STATE to IDLE. A tenant's write of COMMIT on a TEN page leaves
commits and shadow and is counted. -/
def Obligations.CommitsTakeASnapshotOrReload : Prop :=
  ∀ (s : State) (a : Access) (n i pg : Nat), pageOf (pg + 0x18) = pg → isHdr 0x18 (pg + 0x18) = true → blockAt pg = some (n, i) →
    hasCommit n i = true → memberPage n i = false → WritesAt s a (pg + 0x18) = true →
    let u := (s.dev.at a.t).commitUnit pg
    let barred := n = 22 ∧ portCode a.port = 2
    (¬barred → fld a.data 0 2 = 1 → s.dev.rf (pg + 0x1C) 0 2 ≠ 1 → Completes (.commitApply a) s fun t =>
      t.dev.reg (pg + 0x1C) = 1 ∧ KeepsRegs s t [pg + 0x1C] ∧ t.dev.shadow = s.dev.shadow ∧
        t.dev.pend = s.dev.pend ++ [⟨u, s.dev.shadow.filter fun e => inUnit u e.1, false, 0, 0⟩] ∧ KeepsHarts s t) ∧
    (¬barred → fld a.data 0 2 = 1 → s.dev.rf (pg + 0x1C) 0 2 = 1 → Completes (.commitApply a) s fun t =>
      t.dev.pend = s.dev.pend ∧ t.dev.shadow = s.dev.shadow ∧ t.dev.reg (pg + 0x34) = satAdd (s.dev.reg (pg + 0x34)) 1 ∧ KeepsHarts s t) ∧
    (¬barred → fld a.data 1 1 = 1 → s.dev.rf (pg + 0x1C) 0 2 ≠ 1 → Completes (.commitDiscard a) s fun t =>
      t.dev.reg (pg + 0x1C) = 0 ∧ KeepsRegs s t [pg + 0x1C] ∧ (∀ o, inUnit u o = true → rwcMask o ≠ 0 → t.dev.sh o = s.dev.reg o) ∧
        t.dev.pend = s.dev.pend ∧ KeepsHarts s t) ∧
    (barred → fld a.data 0 2 ≠ 0 → Completes (if fld a.data 1 1 = 1 then .commitDiscard a else .commitApply a) s fun t =>
      t.dev.pend = s.dev.pend ∧ t.dev.shadow = s.dev.shadow ∧ t.dev.reg (pg + 0x34) = satAdd (s.dev.reg (pg + 0x34)) 1 ∧ KeepsHarts s t)

/-- For the commit that a page shows as PENDING, not yet valid, with a changed field: where the checks find a failing field, the page's
COMMIT_STATUS becomes REFUSED with reason, page and offset and the commit is no longer pending; where they find none, the set is marked
valid and every register stays. At a moment at which a valid set's safe point holds, COMMIT_STATUS becomes DONE and the commit is no
longer pending; at another moment every register stays. -/
def Obligations.ValidationAndSafePointEndACommit : Prop :=
  ∀ (s : State) (page k c : Nat) (p : Pending), (s.dev.at k).pendOf page = some p →
    (p.valid = false → ((s.dev.at k).changed p).isEmpty = false → ∀ off reason, (s.dev.at k).commitFail p = some (off, reason) →
      Completes (.commitValidated page k) s fun t =>
        fld (t.dev.reg (page + 0x1C)) 0 2 = 3 ∧ t.dev.pendOf page = none ∧ t.dev.shadow = s.dev.shadow ∧ KeepsHarts s t) ∧
    (p.valid = false → ((s.dev.at k).changed p).isEmpty = false → (s.dev.at k).commitFail p = none →
      Completes (.commitValidated page k) s fun t =>
        (t.dev.pendOf page).map (·.valid) = some true ∧ (∀ o, t.dev.reg o = s.dev.reg o) ∧ t.dev.shadow = s.dev.shadow ∧ KeepsHarts s t) ∧
    (p.valid = true → ({ s with dev := (s.dev.at k).atCyc c } : State).commitSafe p = true → Completes (.commitSafePoint page k c) s fun t =>
      t.dev.reg (page + 0x1C) = 2 ∧ t.dev.pendOf page = none ∧ KeepsHarts s t) ∧
    (({ s with dev := (s.dev.at k).atCyc c } : State).commitSafe p = false → Completes (.commitSafePoint page k c) s fun t =>
      (∀ o, t.dev.reg o = s.dev.reg o) ∧ t.dev.pend = s.dev.pend ∧ KeepsHarts s t)

/-- A write of PAGE_PORTS performed by its page: from MGMT with LOCK 0 the mask becomes the written mask AND the present one and LOCK the
written LOCK; with LOCK 1, or from any other port, the word stays, and the error is counted in the page's ERR_COUNT. -/
def Obligations.MasksOnlyNarrow : Prop :=
  ∀ (s : State) (a : Access) (off : Nat), WritesAt s a off = true → isHdr 0xC off = true →
    (a.port = .mgmt → s.dev.rf off 31 1 = 0 → Completes (.pagePortsWrite a) s fun t =>
      t.dev.rf off 0 7 = (fld a.data 0 7 &&& s.dev.rf off 0 7) ∧ t.dev.rf off 31 1 = fld a.data 31 1 ∧ KeepsHarts s t) ∧
    (a.port = .mgmt → s.dev.rf off 31 1 = 1 → Completes (.pagePortsWrite a) s fun t =>
      t.dev.reg off = s.dev.reg off ∧ t.dev.reg (off + 0x28) = satAdd (s.dev.reg (off + 0x28)) 1 ∧ KeepsHarts s t) ∧
    (a.port ≠ .mgmt → Completes (.pagePortsWrite a) s fun t =>
      t.dev.reg off = s.dev.reg off ∧ t.dev.reg (off + 0x28) = satAdd (s.dev.reg (off + 0x28)) 1 ∧ KeepsHarts s t)

/-- Performed writes of the common header. EVT_ENABLE takes the written word; where that raises no bit of EVT_PENDING nothing is sent, and
where it raises one with TO_MSIX and an enabled, unmasked, awake function exactly one message of the routed vector is sent. EVT_ROUTE with
FUNC 3 leaves the route. VALID of ERR_FIRST written 1 clears CODE, ERR_COUNT and both info words. VALID of a PGD record written 1 clears
its four words. CLEAR_COUNTS brings every counter of the page to its reset value. -/
def Obligations.EventsEnableRouteAndClear : Prop :=
  ∀ (s : State) (a : Access) (pg : Nat), pageOf pg = pg →
    (WritesAt s a (pg + 0x24) = true → isHdr 0x24 (pg + 0x24) = true → pageOf (pg + 0x24) = pg →
      (s.dev.reg (pg + 0x20) &&& a.data &&& ~~~(s.dev.evtPending pg) = 0 → Completes (.evtEnableWrite a) s fun t =>
        t.dev.reg (pg + 0x24) = a.data ∧ t.dev.out = s.dev.out ∧ t.dev.arriving = s.dev.arriving ∧ KeepsRegs s t [pg + 0x24] ∧ KeepsHarts s t) ∧
      (s.dev.reg (pg + 0x20) &&& a.data &&& ~~~(s.dev.evtPending pg) ≠ 0 → fld (s.dev.reg (pg + 0x2C)) 30 2 = 1 →
        (s.dev.fn (s.dev.routeFn pg)).msixEn = true → s.dev.mayRequest (s.dev.routeFn pg) = true → (s.dev.fn (s.dev.routeFn pg)).fmask = false →
        (s.dev.vec (s.dev.routeFn pg) (fld (s.dev.reg (pg + 0x2C)) 0 12)).mask = false →
        Completes (.evtEnableWrite a) s fun t => t.dev.reg (pg + 0x24) = a.data ∧
          t.dev.out = .msix (s.dev.routeFn pg) (fld (s.dev.reg (pg + 0x2C)) 0 12) :: s.dev.out ∧ KeepsRegs s t [pg + 0x24] ∧ KeepsHarts s t)) ∧
    (WritesAt s a (pg + 0x2C) = true → isHdr 0x2C (pg + 0x2C) = true → pageOf (pg + 0x2C) = pg →
      (fld a.data 12 2 = 3 → portCode a.port ≠ 2 → Completes (.evtRouteWrite a) s fun t =>
        t.dev.reg (pg + 0x2C) = s.dev.reg (pg + 0x2C) ∧ KeepsHarts s t) ∧
      (fld a.data 12 2 = 0 → fld a.data 0 12 < 2048 → portCode a.port ≠ 2 → Completes (.evtRouteWrite a) s fun t =>
        t.dev.reg (pg + 0x2C) = a.data &&& 0xC03F3FFF#32 ∧ KeepsRegs s t [pg + 0x2C] ∧ KeepsHarts s t)) ∧
    (WritesAt s a (pg + 0x30) = true → isHdr 0x30 (pg + 0x30) = true → pageOf (pg + 0x30) = pg → fld a.data 31 1 = 1 →
      Completes (.errFirstClear a) s fun t => t.dev.reg (pg + 0x30) = 0 ∧ t.dev.reg (pg + 0x34) = 0 ∧ t.dev.reg (pg + 0x38) = 0 ∧
        t.dev.reg (pg + 0x3C) = 0 ∧ KeepsRegs s t [pg + 0x30, pg + 0x34, pg + 0x38, pg + 0x3C] ∧ KeepsHarts s t) ∧
    (∀ o, pgdSrc o = true → WritesAt s a o = true → fld a.data 31 1 = 1 → Completes (.pgdRecordClear a) s fun t =>
      t.dev.reg (o - 8) = 0 ∧ t.dev.reg (o - 4) = 0 ∧ t.dev.reg o = 0 ∧ t.dev.reg (o + 4) = 0 ∧
        KeepsRegs s t [o - 8, o - 4, o, o + 4] ∧ RegsOnly s t) ∧
    (∀ n i, WritesAt s a (pg + 0x10) = true → isHdr 0x10 (pg + 0x10) = true → pageOf (pg + 0x10) = pg → blockAt pg = some (n, i) →
      fld a.data 0 1 = 1 → Completes (.clearCounts a) s fun t => (∀ o ∈ countersOf n i, t.dev.reg o = resetOf o) ∧ KeepsHarts s t)

/-- A rising edge of a PULSE input: REF_EDGES goes up by one (it wraps), the input holds the new level and stamp, and every channel that
counts the input is owed one count. An owed count applied to a running REF channel moves its position and remainder by NUM / DEN and takes
the count's stamp. A counted zero-cross of a MAINS channel is taken and becomes the last; a spread count of a locked subdivider is emitted
once its tick has come. -/
def Obligations.ReferenceInputsAreCounted : Prop :=
  (∀ (s : State) (i : Fin 8) (l : Bool) (n k : Nat), s.dev.refKind i = 4 → (s.dev.refIn i).level ≠ l →
      l ≠ (s.dev.rf (R.plb_REF_CFG i) 5 1 == 1) → Completes (.refEdge [(i, l)] [n] k) s fun t =>
        t.dev.reg (R.plb_REF_EDGES i) = s.dev.reg (R.plb_REF_EDGES i) + 1 ∧ (t.dev.refIn i).level = l ∧
        (t.dev.refIn i).lastEdge = some (min n k) ∧
        t.dev.plb.owed = s.dev.plb.owed ++ ((List.range 8).filter fun c => s.dev.countsInput c i).map (fun c => ⟨c, 1, min n k, false⟩) ∧
        KeepsRegs s t [R.plb_REF_EDGES i] ∧ KeepsHarts s t) ∧
    (∀ (s : State) (c : Fin 8) (k : Nat) (o : Owed) (r : List Owed), s.dev.freeRunning c = false → s.dev.chEnabled c = true →
      takeOwed c false s.dev.plb.owed = some (o, r) → (s.dev.ch c).st = .acquiring ∨ (s.dev.ch c).st = .tracking →
      Completes (.channelCount c k) s fun t => t.dev.plb.owed = r ∧ (t.dev.ch c).tEdge = o.stamp ∧
        ((t.dev.ch c).u, (t.dev.ch c).rem) = applyCounts (s.dev.chNum c) (s.dev.chDen c) (s.dev.ch c).u (s.dev.ch c).rem o.dir ∧ KeepsHarts s t) ∧
    (∀ (s : State) (c : Fin 8) (k : Nat) (o : Owed) (r : List Owed), s.dev.chEnabled c = true → (s.dev.ch c).st ≠ .stalled →
      takeOwed c true s.dev.plb.owed = some (o, r) → Completes (.mainsZeroCross c k) s fun t =>
        t.dev.plb.owed = r ∧ (t.dev.ch c).mains.last = some o.stamp ∧ KeepsHarts s t) ∧
    (∀ (s : State) (c : Fin 8) (k e p : Nat), s.dev.isMains c = true → (s.dev.ch c).st ≠ .stalled → (s.dev.ch c).mains.lock = true →
      (s.dev.ch c).mains.last = some e → (s.dev.ch c).mains.periods.head? = some p → (s.dev.ch c).mains.emitted < 65536 →
      e + ((s.dev.ch c).mains.emitted + 1) * p / 65536 ≤ k → Completes (.mainsCountTick c k) s fun t =>
        (t.dev.ch c).mains.emitted = (s.dev.ch c).mains.emitted + 1 ∧ KeepsHarts s t)

/-- A performed write of PTP_CTRL sets the PTP_VALID bits and nothing else where no enabled channel follows PTP. A performed RESYNC of a
COASTING channel with a REF source takes the followed position, with VEL 0, and the channel is ACQUIRING. A REF channel that is not PPS
with COAST, acquiring or tracking, with no entry pending on it, whose STALL_TIMEOUT has passed since its last count is STALLED with VEL 0,
and STALL_COUNT goes up. -/
def Obligations.ChannelsFollowStallAndResync : Prop :=
  (∀ (s : State) (q : Req), Writes s q R.plb_PTP_CTRL = true → (∀ c < 8, s.dev.srcKind c = 2 → s.dev.chEnabled c = false) →
      Completes (.ptpValidWrite q) s fun t => t.dev.rf R.plb_PTP_CTRL 0 2 = fld q.data 0 2 ∧ KeepsRegs s t [R.plb_PTP_CTRL] ∧ RegsOnly s t) ∧
    (∀ (s : State) (c : Fin 8) (q : Req), Writes s q (R.plb_RESYNC c) = true → fld q.data 0 1 = 1 → (s.dev.ch c).st = .coasting →
      s.dev.chEnabled c = true → s.dev.srcKind c = 1 → Completes (.resync c q) s fun t =>
        (t.dev.ch c).u = (s.dev.ch c).followU ∧ (t.dev.ch c).vel = 0 ∧ (t.dev.ch c).st = .acquiring ∧ KeepsHarts s t) ∧
    (∀ (s : State) (c : Fin 8) (k : Nat), s.dev.chEnabled c = true → s.dev.srcKind c = 1 → s.dev.rf (R.plb_STALL_TIMEOUT c) 0 24 ≠ 0 →
      max (s.dev.ch c).tEdge (s.dev.ch c).start + 1000 * s.dev.rf (R.plb_STALL_TIMEOUT c) 0 24 ≤ k →
      (s.dev.ch c).st = .acquiring ∨ (s.dev.ch c).st = .tracking → (s.dev.isPps c && s.dev.srcCoast c) = false →
      (∀ e ∈ s.dev.plb.entries, e.ch ≠ c) → Completes (.stall c k) s fun t =>
        (t.dev.ch c).st = .stalled ∧ (t.dev.ch c).vel = 0 ∧ t.dev.chVel c = 0 ∧
        t.dev.reg (R.plb_STALL_COUNT c) = satAdd (s.dev.reg (R.plb_STALL_COUNT c)) 1 ∧ KeepsHarts s t)

/-- A performed POST_GO with GO: a target out of reach answers POST_RESULT RANGE and posts nothing; a full queue answers FULL and counts
it; otherwise POST_RESULT names the entry, and the queue holds an entry of that number, channel, kind and target. A performed CANCEL of a
TRIGGER or WAKE entry removes it; of no entry it removes nothing and is logged. A pending entry whose predicted tick has come falls due at
that tick. The first due TRIGGER entry is delivered: it leaves the queue, and the next delivery comes 2 ticks later. -/
def Obligations.PositionEntriesArePostedDeliveredAndCancelled : Prop :=
  (∀ (s : State) (q : Req) (num : Fin 4096), Writes s q R.plb_POST_GO = true → fld q.data 0 1 = 1 →
      let d := s.dev.at q.t
      let ctl := s.dev.reg R.plb_POST_CTRL
      let u := d.targetOf (fld ctl 4 3) (d.rn64 R.plb_POST_TARGET_LO) (fld ctl 24 8)
      (u = none → Completes (.postGo q num) s fun t =>
        t.dev.rn R.plb_POST_RESULT = 3 + 16 * 1 ∧ t.dev.plb = s.dev.plb ∧ KeepsHarts s t) ∧
      (u ≠ none → s.dev.evqFull = true → Completes (.postGo q num) s fun t =>
        t.dev.rn R.plb_POST_RESULT = 2 + 16 * 4 ∧ t.dev.plb = s.dev.plb ∧
          t.dev.reg R.plb_EVQ_FULL_COUNT = satAdd (s.dev.reg R.plb_EVQ_FULL_COUNT) 1 ∧ KeepsHarts s t) ∧
      (∀ v, u = some v → s.dev.evqFull = false → Completes (.postGo q num) s fun t =>
        t.dev.rn R.plb_POST_RESULT = 1 + 65536 * s.dev.freeEntry num ∧ KeepsHarts s t ∧
          ∃ e ∈ t.dev.plb.entries, e.num = s.dev.freeEntry num ∧ e.ch = fld ctl 4 3 ∧ e.target = v ∧
            e.kind = if fld ctl 0 2 = 0 then .trigger else .wake)) ∧
    (∀ (s : State) (q : Req), Writes s q R.plb_CANCEL = true → fld q.data 31 1 = 1 →
      (∀ e, s.dev.entry (fld q.data 0 12) = some e → e.kind = .trigger ∨ e.kind = .wake → Completes (.plbCancel q) s fun t =>
        t.dev.plb.entries = (s.dev.plb.entries.filter fun x => !(x.num == fld q.data 0 12)) ∧ (∀ o, t.dev.reg o = s.dev.reg o) ∧ KeepsHarts s t) ∧
      (s.dev.entry (fld q.data 0 12) = none → Completes (.plbCancel q) s fun t =>
        t.dev.plb = s.dev.plb ∧ t.dev.reg (0x19000 + 0x34) = satAdd (s.dev.reg (0x19000 + 0x34)) 1 ∧ KeepsHarts s t)) ∧
    (∀ (s : State) (e : Fin 4096) (k p : Nat) (x : EvEntry), s.dev.entry e = some x → x.due = none → x.pred = some p → p ≤ k →
      s.dev.chEnabled x.ch = true → Completes (.entryDue e k) s fun t =>
        (t.dev.entry e).bind (·.due) = some ⟨p, false, false, false, 0⟩ ∧ KeepsHarts s t) ∧
    (∀ (s : State) (k : Nat) (e : EvEntry), s.dev.plb.nextDelivery ≤ (s.dev.at k).now.tick → e.kind = .trigger →
      firstDue (s.dev.plb.entries.filter fun e => e.hand.isNone && (e.due.map fun u => decide (u.tick ≤ (s.dev.at k).now.tick)).getD false) = some e →
      Completes (.entryDelivery k) s fun t => t.dev.plb.entries = (s.dev.plb.entries.filter fun x => !(x.num == e.num)) ∧
        t.dev.plb.nextDelivery = (s.dev.at k).now.tick + 2 ∧ (∀ o, t.dev.reg o = s.dev.reg o) ∧ KeepsHarts s t)

/-- A performed FIRE_NOW places a pulse 8 ticks ahead on each enabled output named, and changes no register. The first placed pulse of an
enabled output, whose start tick has come, is removed from the placed ones and counted in TRIG_COUNT, and the output is active for its
width from the start. Once the active time is over the output is idle. A performed read of EVQ_HIGHWATER restarts the mark at EVQ_USED. -/
def Obligations.TriggerOutputsPulse : Prop :=
  (∀ (s : State) (q : Req), Writes s q R.plb_FIRE_NOW = true → Completes (.fireNow q) s fun t =>
      t.dev.plb.pulses = ((maskBits (BitVec.ofNat 16 (fld q.data 0 16))).filter fun j => s.dev.trigOn j).map
        (fun j => ⟨j, (s.dev.at q.t).now.tick + 8, (s.dev.at q.t).now.tick + 8, false, none, none⟩) ++ s.dev.plb.pulses ∧
      (∀ o, t.dev.reg o = s.dev.reg o) ∧ KeepsHarts s t) ∧
    (∀ (s : State) (j : Fin 16) (k : Nat) (p : Pulse), firstPulse j s.dev.plb.pulses = some p → p.start ≤ (s.dev.at k).now.tick →
      s.dev.rf (R.plb_TRIG_CFG p.out) 0 1 = 1 → p.out = j → p.job = none → Completes (.triggerPulseStart j k) s fun t =>
        t.dev.plb.pulses = s.dev.plb.pulses.filter (fun x => x ≠ p) ∧
        t.dev.reg (R.plb_TRIG_COUNT j) = satAdd (s.dev.reg (R.plb_TRIG_COUNT j)) 1 ∧
        Store.get zeroN t.dev.plb.active j = max (Store.get zeroN s.dev.plb.active j) (p.start + s.dev.rf (R.plb_TRIG_CFG j) 16 16) ∧ KeepsHarts s t) ∧
    (∀ (s : State) (j : Fin 16) (k : Nat), Store.get zeroN s.dev.plb.active j ≤ (s.dev.at k).now.tick → Completes (.triggerPulseEnd j k) s fun t =>
      Store.get zeroN t.dev.plb.active j = 0 ∧ (∀ o, t.dev.reg o = s.dev.reg o) ∧ KeepsHarts s t) ∧
    (∀ (s : State) (q : Req), Reads s q R.plb_EVQ_HIGHWATER = true → Completes (.evqHighwaterRead q) s fun t =>
      t.dev.reg R.plb_EVQ_HIGHWATER = wd s.dev.evqUsed ∧ KeepsRegs s t [R.plb_EVQ_HIGHWATER] ∧ RegsOnly s t)

/-- For each of the 23 stage ops in beats (TAKE, GIVE, PASS, TAGSET, HLD, HST, WSR, ROT, MACI, MACT, MACF, GSUM, ZPC, GSC, RQN, ACT, ADDV,
MULV, MAXP, AVGP, EXPS, NRM, SHUF): when the op at the pc of the active context of a running tile issues (R116), has beats, finds its
entries free and passes every check, and nothing is upset, then the pc goes to the next op, the issue slot is held for the op's issue
cycles, ISSUE_CYCLES goes up by one (saturating), the tile's other memories take what the op writes, and the accumulator writes of beat b
are due at the end of cycle cyc + b + LAT - 1. No other tile, no HBM byte and no hart changes. -/
def Obligations.StageOpsIssueAndLandTheirResults : Prop :=
  ∀ x ∈ stageOps, ∀ (s : State) (k : Fin 4096) (cyc : Nat) (o : OpIn), Sound s k → readyOp s k cyc (· == x.opc) = some o →
    noBeats o.w = false → o.entriesFree (x.plan o) = true → (o.check (x.plan o) (o.pc + 1)).isNone = true →
    Completes (x.cmd k cyc) s fun t =>
      (t.dev.ctx k o.c).pc = o.pc + 1 ∧ (t.dev.tile k).free = cyc + (x.plan o).issue ∧
      t.dev.rn64 (R.trw_ISSUE_CYCLES_LO k) = min (2 ^ 64 - 1) (s.dev.rn64 (R.trw_ISSUE_CYCLES_LO k) + 1) ∧
      t.dev.tmemOf k = (x.eff o (o.take o.d).1).mem (s.dev.tmemOf k) ∧
      (∀ b ws, (x.eff o (o.take o.d).1).beats[b]? = some ws → ws ≠ [] →
        ∃ r ∈ (t.dev.tile k).results, r.due = cyc + b + (x.plan o).lat - 1 ∧ r.writes = ws) ∧
      (∀ j, j ≠ k.val → t.dev.tile j = s.dev.tile j ∧ t.dev.tmemOf j = s.dev.tmemOf j) ∧ t.dev.hbm = s.dev.hbm ∧ KeepsHarts s t

/-- For the op at the pc of the active context of a running tile, nothing upset. NOP goes to the next op; WAIT holds the issue slot for N
cycles, at least one; END with no open loop and no switch goes to op 0 and counts FRAME_ORD (it wraps); LOOP with a legal ENDL and a count
opens a loop; ENDL with iterations left goes back to the loop's first op; FSW makes context X active from the third cycle; SWAPCHK on a
head flit that is no token goes to the next op, and on the token of a skim that a slot holds makes that slot active in the contexts the
mask names. A word with an opcode outside Table 6.3 halts the tile, where no job of its pipeline awaits its result. -/
def Obligations.ControlOpsMoveThePc : Prop :=
  (∀ (s : State) (k : Fin 4096) (cyc : Nat) (o : OpIn), Sound s k → readyOp s k cyc (· == 0x00) = some o → o.pc < 63 →
      Completes (.opNop k cyc) s fun t => (t.dev.ctx k o.c).pc = o.pc + 1 ∧ (t.dev.tile k).free = cyc + 1 ∧ KeepsHarts s t) ∧
    (∀ (s : State) (k : Fin 4096) (cyc : Nat) (o : OpIn), Sound s k → readyOp s k cyc (· == 0x06) = some o → o.pc < 63 →
      Completes (.opWait k cyc) s fun t => (t.dev.ctx k o.c).pc = o.pc + 1 ∧ (t.dev.tile k).free = cyc + max 1 (o.f 0 16) ∧ KeepsHarts s t) ∧
    (∀ (s : State) (k : Fin 4096) (cyc : Nat) (o : OpIn), Sound s k → readyOp s k cyc (· == 0x01) = some o → o.loops = [] → o.f 3 1 = 0 →
      Completes (.opEnd k cyc) s fun t => (t.dev.ctx k o.c).pc = 0 ∧
        t.dev.reg (R.trw_FRAME_ORD k o.c) = s.dev.reg (R.trw_FRAME_ORD k o.c) + 1 ∧ KeepsHarts s t) ∧
    (∀ (s : State) (k : Fin 4096) (cyc : Nat) (o : OpIn), Sound s k → readyOp s k cyc (· == 0x02) = some o → o.pc < o.f 16 6 →
      ob (o.d.opWord o.k o.c (o.f 16 6)) 58 6 = 0x03 → o.f 0 16 ≠ 0 → o.loops.length < 4 →
      Completes (.opLoop k cyc) s fun t => (t.dev.ctx k o.c).pc = o.pc + 1 ∧
        (t.dev.ctx k o.c).loops = (s.dev.ctx k o.c).loops ++ [⟨o.f 0 16, 0, o.pc + 1, o.f 16 6⟩] ∧ KeepsHarts s t) ∧
    (∀ (s : State) (k : Fin 4096) (cyc : Nat) (o : OpIn) (l : TLoop), Sound s k → readyOp s k cyc (· == 0x03) = some o →
      o.loops.getLast? = some l → l.fin = o.pc → l.iter + 1 < l.count → Completes (.opEndl k cyc) s fun t =>
        (t.dev.ctx k o.c).pc = l.start ∧
        (t.dev.ctx k o.c).loops = (s.dev.ctx k o.c).loops.dropLast ++ [{ l with iter := l.iter + 1 }] ∧ KeepsHarts s t) ∧
    (∀ (s : State) (k : Fin 4096) (cyc : Nat) (o : OpIn), Sound s k → readyOp s k cyc (· == 0x04) = some o → o.f 0 3 < s.dev.nCtx k → o.pc < 63 →
      Completes (.opFsw k cyc) s fun t => (t.dev.tile k).active = o.f 0 3 ∧ (t.dev.tile k).prev = o.c ∧
        (t.dev.tile k).free = cyc + 3 ∧ (t.dev.ctx k o.c).pc = o.pc + 1 ∧ KeepsHarts s t) ∧
    (∀ (s : State) (k : Fin 4096) (cyc : Nat) (o : OpIn) (h : QFlit), Sound s k → readyOp s k cyc (· == 0x05) = some o →
      ((s.dev.tile k).queue o.inp).head? = some h → o.pc < 63 →
      (h.flit.swap = false → Completes (.opSwapchk k cyc) s fun t => (t.dev.ctx k o.c).pc = o.pc + 1 ∧ KeepsHarts s t) ∧
      (h.flit.swap = true → h.flit.first = false → h.flit.last = false → ∀ x, ((List.range (s.dev.numSlots k)).find? fun i =>
          s.dev.rf (R.trw_SLOT_SKIM k i) 31 1 = 1 ∧ s.dev.rf (R.trw_SLOT_SKIM k i) 0 14 = tokenSkim h.flit) = some x →
        (s.dev.tile k).fillWait = none → Completes (.opSwapchk k cyc) s fun t => (t.dev.ctx k o.c).pc = o.pc + 1 ∧
          (∀ c < s.dev.nCtx k, ob (o.f 0 8) c 1 = 1 → (t.dev.ctx k c).slot = some x) ∧ KeepsHarts s t)) ∧
    (∀ (s : State) (k : Fin 4096) (cyc : Nat) (o : OpIn), Sound s k → readyOp s k cyc (fun c => !(c ∈ opcodes)) = some o →
      (∀ j ∈ s.dev.jobs, j.awaiting = false) → Completes (.illegalOp k cyc) s fun t => (t.dev.tile k).halted = true ∧ KeepsHarts s t)

/-- When the first result in flight at a tile is due by the cycle and no other is, its accumulator writes are performed in order, its
flits join their output queues, and it is no longer in flight. A performed write of PEEK_ADDR with a word of Hawk, at a tile whose region
is not RUNNING, HOLDING or DRAINING and with the word not upset, answers the 64-bit word in PEEK_LO and PEEK_HI with DONE; at a tile whose
region runs it answers REFUSED and leaves the data. A supervisor's write leaves PEEK_ADDR and the data and is counted in ERR_COUNT. -/
def Obligations.ResultsArePerformedAndHawkIsPeeked : Prop :=
  (∀ (s : State) (k : Fin 4096) (cyc : Nat) (r : TResult) (l : List TResult), Sound s k → (s.dev.tile k).results = r :: l → r.due ≤ cyc →
      (∀ x ∈ l, cyc < x.due) → Completes (.opBeatResult k cyc) s fun t =>
        (t.dev.tile k).results = l ∧
        (t.dev.tmemOf k).acc = r.writes.foldl (fun m w => Store.set word0 m w.1 w.2) (s.dev.tmemOf k).acc ∧
        (t.dev.tile k).queues = (r.flits.foldl (fun t f => t.push (4 + f.1) f.2 r.due) (s.dev.tile k)).queues ∧
        t.dev.hbm = s.dev.hbm ∧ KeepsHarts s t) ∧
    (∀ (s : State) (k : Fin 4096) (q : Req), Writes s q (R.trw_PEEK_ADDR k) = true → fld q.data 0 15 < 24576 → portCode q.port ≠ 7 →
      s.dev.upset .hawk k (fld q.data 0 15) = none →
      ((∀ p, s.dev.regionOf k = some p → runState (s.dev.pipeState p) = false) → Completes (.hawkPeek k q) s fun t =>
        t.dev.rn (R.trw_PEEK_STATUS k) = 1 ∧
        t.dev.rn64 (R.trw_PEEK_LO k) = Memory.rd (s.dev.tmemOf k).hawk (8 * fld q.data 0 15) 8 ∧
        KeepsRegs s t [R.trw_PEEK_ADDR k, R.trw_PEEK_STATUS k, R.trw_PEEK_LO k, R.trw_PEEK_LO k + 4] ∧ RegsOnly s t) ∧
      (∀ p, s.dev.regionOf k = some p → runState (s.dev.pipeState p) = true → Completes (.hawkPeek k q) s fun t =>
        t.dev.rn (R.trw_PEEK_STATUS k) = 2 ∧ KeepsRegs s t [R.trw_PEEK_ADDR k, R.trw_PEEK_STATUS k] ∧ RegsOnly s t)) ∧
    (∀ (s : State) (k : Fin 4096) (q : Req), Writes s q (R.trw_PEEK_ADDR k) = true → portCode q.port = 7 → Completes (.hawkPeek k q) s fun t =>
      t.dev.reg (R.trw_PEEK_ADDR k) = s.dev.reg (R.trw_PEEK_ADDR k) ∧ t.dev.reg (R.trw_PEEK_LO k) = s.dev.reg (R.trw_PEEK_LO k) ∧
        t.dev.reg (0x1000034 + 0x1000 * k) = satAdd (s.dev.reg (0x1000034 + 0x1000 * k)) 1 ∧ KeepsHarts s t)

/-- In a running array with nothing upset. A flit on a link whose cycle has come leaves the link and stands in its arrival entry for the
entry's consumers; with no consumer it is dropped and ORPHAN_COUNT goes up by one. A FORWARD entry whose arrival entry holds a flit for
it, in a slot not lent and towards an open link, puts that flit on the link to the neighbour, available after 1 + PIPE cycles, and is no
longer among the consumers it waits for; registers stay. A REDUCE entry alone in its group, with the head flit of its OUT port and an
arrived flit of the same tag and sequence number, sends the lane-wise sum and takes the head flit. A delivery entry puts its flit into its
input queue while the queue starts the cycle below 64 flits. -/
def Obligations.FlitsMoveByTheStencil : Prop :=
  (∀ (s : State) (k : Fin 4096) (dir : Fin 4) (slot : Fin 16) (cyc : Nat) (w : Wire), Clean s →
      (s.dev.scrim.wires.find? fun w => w.key == skey k dir slot && decide (w.avail ≤ cyc)) = some w →
      (s.dev.consumers k dir slot ≠ [] → Completes (.flitArrival k dir slot cyc) s fun t =>
        t.dev.scrim.wires = s.dev.scrim.wires.erase w ∧ (t.dev.arr (skey k dir slot)).flit = some w.flit ∧
        (t.dev.arr (skey k dir slot)).left = s.dev.consumers k dir slot ∧ t.dev.regs = s.dev.regs ∧ KeepsHarts s t) ∧
      (s.dev.consumers k dir slot = [] → Completes (.flitArrival k dir slot cyc) s fun t =>
        t.dev.scrim.wires = s.dev.scrim.wires.erase w ∧ (t.dev.arr (skey k dir slot)).flit = none ∧
        t.dev.reg R.scm_ORPHAN_COUNT = satAdd (s.dev.reg R.scm_ORPHAN_COUNT) 1 ∧ KeepsHarts s t)) ∧
    (∀ (s : State) (k : Fin 4096) (dir : Fin 4) (cyc n : Nat) (f : Flit), Clean s → outNow s k dir cyc % 2 = 1 → outNow s k dir cyc / 2 % 4 = 1 →
      neighbour k dir = some n → s.dev.arrFor k dir cyc = some f → s.dev.lentSlot k dir cyc = false → (s.dev.linkOpen k dir cyc).1 = true →
      Completes (.slotSend (.tile k dir) cyc) s fun t =>
        t.dev.scrim.wires = s.dev.scrim.wires ++ [⟨skey n (opp dir) (cyc % 16), f, cyc + 1 + s.dev.pipeOf k dir⟩] ∧
        (16 * dir + cyc % 16) ∉ (t.dev.arr (arrNow s k dir cyc)).left ∧ t.dev.regs = s.dev.regs ∧ t.dev.tiles = s.dev.tiles ∧ KeepsHarts s t) ∧
    (∀ (s : State) (k : Fin 4096) (dir : Fin 4) (cyc n : Nat) (a : Flit) (h : QFlit), Clean s → outNow s k dir cyc % 2 = 1 →
      outNow s k dir cyc / 2 % 4 = 2 → neighbour k dir = some n → s.dev.outGroup k (outNow s k dir cyc / 512 % 2) cyc = [dir.val] →
      ((s.dev.tile k).queue (4 + outNow s k dir cyc / 512 % 2)).head? = some h → h.cyc < cyc → h.bad = 0 →
      s.dev.arrFor k dir cyc = some a → a.tag = h.flit.tag → a.seq = h.flit.seq → (a.swap && h.flit.swap) = false →
      skey k dir (cyc % 16) ∉ s.dev.scrim.blocked → s.dev.lentSlot k dir cyc = false → (s.dev.linkOpen k dir cyc).1 = true →
      Completes (.reduceSend k dir cyc) s fun t =>
        t.dev.scrim.wires = s.dev.scrim.wires ++ [⟨skey n (opp dir) (cyc % 16),
          { a with data := reduceData (outNow s k dir cyc / 1024 % 2 = 1) a.data h.flit.data }, cyc + 1 + s.dev.pipeOf k dir⟩] ∧
        (t.dev.tile k).queue (4 + outNow s k dir cyc / 512 % 2) = ((s.dev.tile k).queue (4 + outNow s k dir cyc / 512 % 2)).drop 1 ∧
        (16 * dir + cyc % 16) ∉ (t.dev.arr (arrNow s k dir cyc)).left ∧ KeepsHarts s t) ∧
    (∀ (s : State) (k : Fin 4096) (dir : Fin 4) (slot : Fin 16) (cyc dest : Nat) (f : Flit), Clean s →
      (s.dev.arr (skey k dir slot)).flit = some f → (s.dev.arr (skey k dir slot)).avail ≤ cyc → 64 ∈ (s.dev.arr (skey k dir slot)).left →
      s.dev.delE (skey k dir slot) % 8 = dest + 1 → dest < 4 → (s.dev.tile k).occAt dest cyc < 64 →
      (∀ p, s.dev.regionOf k = some p → s.dev.pausedRegion p = false ∧ s.dev.pipeResetting p = false) →
      Completes (.flitDelivery k dir slot cyc) s fun t =>
        (t.dev.tile k).queue dest = (s.dev.tile k).queue dest ++ [⟨f, cyc, 0⟩] ∧ 64 ∉ (t.dev.arr (skey k dir slot)).left ∧ KeepsHarts s t)

/-- STREAM_READ of a slice with one stream ready in the cycle: READS goes up by one, the line at SPOS is on the link to the stream's tile
as flit number (SPOS minus first line) modulo 4,096, and SPOS goes to the next line, or after the last line back to the first with LOOP,
else to the line after the last, the stream stopped. Performed writes of FILL_CTRL with GO while no fill runs: length 0 ends DONE at once;
lines and source in range start a fill, with FILL_STATUS BUSY; a source outside OPERATOR ends FAULT and starts none. A fill that ends with
no HBM error has copied every line, DONE. -/
def Obligations.WeightStoreStreamsAndFills : Prop :=
  (∀ (s : State) (j : Fin 64) (cyc i : Nat), Clean s → ((List.range 8).filter fun i => s.dev.streamReady j i cyc) = [i] →
      let cur := s.dev.rf (R.wst_SPOS j i) 0 17
      let first := s.dev.rf (R.wst_SADDR j i) 0 17
      let fin := first + s.dev.rf (R.wst_SLEN j i) 0 18
      Completes (.streamRead j cyc) s fun t =>
        t.dev.rn64 (R.wst_READS_LO j) = min (2 ^ 64 - 1) (s.dev.rn64 (R.wst_READS_LO j) + 1) ∧
        t.dev.scrim.wires = s.dev.scrim.wires ++ [⟨skey (s.dev.streamInto j i).1 (s.dev.streamInto j i).2 (cyc % 16),
          ⟨0, BitVec.ofNat 12 (cur - first), BitVec.ofNat 256 (Memory.rd (s.dev.slice j).bytes (32 * cur) 32)⟩, cyc + 1⟩] ∧
        t.dev.rn (R.wst_SPOS j i) = (if cur + 1 < fin then cur + 1 else if s.dev.rf (R.wst_SCFG j i) 9 1 = 1 then first else fin % 2 ^ 17) ∧
        (¬cur + 1 < fin → s.dev.rf (R.wst_SCFG j i) 9 1 = 0 → i ∈ (t.dev.slice j).stopped) ∧ (t.dev.slice j).bytes = (s.dev.slice j).bytes ∧
        KeepsRegs s t [R.wst_READS_LO j, R.wst_READS_LO j + 4, R.wst_SPOS j i] ∧ KeepsHarts s t) ∧
    (∀ (s : State) (j : Fin 64) (q : Req), Writes s q (R.wst_FILL_CTRL j) = true → fld q.data 0 1 = 1 → s.dev.rf (R.wst_FILL_STATUS j) 0 1 = 0 →
      let a := s.dev.rn64 (R.wst_FILL_HBM_LO j)
      let line := s.dev.rf (R.wst_FILL_ADDR j) 0 17
      let n := s.dev.rf (R.wst_FILL_LEN j) 0 18
      (n = 0 → Completes (.wstFillGo j q) s fun t =>
        t.dev.rn (R.wst_FILL_STATUS j) = 2 ∧ t.dev.slices = s.dev.slices ∧ KeepsHarts s t) ∧
      (n ≠ 0 → line + n ≤ 131072 → s.dev.inOperator a (32 * n) = true → Completes (.wstFillGo j q) s fun t =>
        t.dev.rn (R.wst_FILL_STATUS j) = 1 ∧ (t.dev.slice j).fill = some ⟨line, n, a⟩ ∧ (t.dev.slice j).bytes = (s.dev.slice j).bytes ∧
        KeepsRegs s t [R.wst_FILL_STATUS j] ∧ KeepsHarts s t) ∧
      (n ≠ 0 → line + n ≤ 131072 → s.dev.inOperator a (32 * n) = false → Completes (.wstFillGo j q) s fun t =>
        t.dev.rn (R.wst_FILL_STATUS j) = 4 ∧ t.dev.slices = s.dev.slices ∧ KeepsHarts s t)) ∧
    (∀ (s : State) (j : Fin 64) (cyc : Nat) (f : WFill), Clean s → (s.dev.slice j).fill = some f → Completes (.wstFillDone j cyc) s fun t =>
      (∀ b, Memory.rd8 (t.dev.slice j).bytes b = if 32 * f.line ≤ b ∧ b < 32 * (f.line + f.left)
        then Memory.rd8 s.dev.hbm (f.addr + (b - 32 * f.line)) else Memory.rd8 (s.dev.slice j).bytes b) ∧
      (t.dev.slice j).fill = none ∧ t.dev.rn (R.wst_FILL_STATUS j) = 2 ∧ t.dev.hbm = s.dev.hbm ∧
      (∀ i, i ≠ j.val → t.dev.slice i = s.dev.slice i) ∧ KeepsHarts s t)

/-- In a running array. An access of a requester with none outstanding to another row, to a tile of a powered bay, that uses no SHARE
slot, is carried and counted in CTL_ACCESSES; when it completes it leaves the lane and CTL_MAX_LAT keeps the greatest latency, at most
65,535. A performed LOAD_CTRL with LOAD, no load in progress: a base section outside OPERATOR answers REFUSED with reason RANGE and loads
nothing; a base section in OPERATOR with Render HELD or a region section in OPERATOR, that every check passes, with nothing upset, is in
load with LOAD_STATUS LOADING. When a load is done every entry of a section of distinct entries stands as the section gives it, every
other stands as before, and LOAD_STATUS is DONE. STN_SEL with READ starts a readback, and its end gives the entry selected, with PIPE of
that output and VALID. -/
def Obligations.LaneAccessesAndStencilLoads : Prop :=
  (∀ (s : State) (port : Port) (k : Fin 4096) (cyc : Nat), s.dev.arrayRuns = true → (∀ a ∈ s.dev.scrim.lane, a.port = port → a.tile / 64 = k.val / 64) →
      s.dev.bit64 R.pow_BAY_ON_LO (bayOf k) = true → Completes (.tilePageAccess port k [] cyc) s fun t =>
        t.dev.scrim.lane = s.dev.scrim.lane ++ [⟨port, k, cyc⟩] ∧
        t.dev.reg R.scm_CTL_ACCESSES = satAdd (s.dev.reg R.scm_CTL_ACCESSES) 1 ∧ KeepsRegs s t [R.scm_CTL_ACCESSES] ∧ KeepsHarts s t) ∧
    (∀ (s : State) (k : Fin 4096) (cyc : Nat) (a : LaneAcc), s.dev.arrayRuns = true → s.dev.scrim.lane.find? (·.tile == k.val) = some a →
      Completes (.tileAccessDone k cyc) s fun t => t.dev.scrim.lane = s.dev.scrim.lane.erase a ∧
        t.dev.rn R.scm_CTL_MAX_LAT = max (s.dev.rn R.scm_CTL_MAX_LAT) (min 65535 (cyc - a.cyc)) ∧ KeepsRegs s t [R.scm_CTL_MAX_LAT] ∧ KeepsHarts s t) ∧
    (∀ (s : State) (q : Req), Writes s q R.scm_LOAD_CTRL = true → fld q.data 31 1 = 1 →
      let d := (s.dev.at q.t).setN R.scm_LOAD_CTRL (fld q.data 0 1 + 256 * fld q.data 8 6)
      let src := d.rn64 R.scm_LOAD_SRC_LO
      d.rf R.scm_LOAD_STATUS 0 2 ≠ 1 → d.rf R.scm_LOAD_STATUS 0 2 ≠ 2 →
      (fld q.data 0 1 = 0 → d.inOperator src (52 * 4096) = false → Completes (.stencilLoadGo q) s fun t =>
        t.dev.rn R.scm_LOAD_STATUS = 4 + 16 * 1 ∧ t.dev.scrim = s.dev.scrim ∧ KeepsHarts s t) ∧
      (fld q.data 0 1 = 0 → d.inOperator src (52 * 4096) = true → d.upsets = [] → d.rf R.skm_RENDER_STATE 0 2 = 2 →
        d.stencilCheck none (baseEntries (d.hbmBytesAt src (52 * 4096))).1 = none → Completes (.stencilLoadGo q) s fun t =>
        t.dev.rn R.scm_LOAD_STATUS = 2 ∧ KeepsHarts s t ∧ t.dev.scrim.load = some ⟨none, (baseEntries (d.hbmBytesAt src (52 * 4096))).1,
          (baseEntries (d.hbmBytesAt src (52 * 4096))).2, s.dev.now.cyc⟩) ∧
      (∀ tiles n, fld q.data 0 1 = 1 → ((d.regionTiles (fld q.data 8 6)).filter fun k => d.nCtx k ≠ 0) = tiles → n = 144 * tiles.length →
        d.inOperator src n = true → d.upsets = [] → d.stencilCheck (some (fld q.data 8 6)) (regionEntries (d.hbmBytesAt src n) tiles) = none →
        Completes (.stencilLoadGo q) s fun t => t.dev.rn R.scm_LOAD_STATUS = 2 ∧ KeepsHarts s t ∧
          t.dev.scrim.load = some ⟨some (fld q.data 8 6), regionEntries (d.hbmBytesAt src n) tiles, [], s.dev.now.cyc⟩)) ∧
    (∀ (s : State) (cyc : Nat) (x : StnLoad), s.dev.arrayRuns = true → s.dev.scrim.load = some x → (x.entries.map Prod.fst).Nodup →
      Completes (.stencilLoadDone cyc) s fun t => t.dev.scrim.load = none ∧ t.dev.rn R.scm_LOAD_STATUS = 3 ∧
        (∀ e ∈ x.entries, if e.1 < 2 ^ 18 then Store.get zeroN t.dev.scrim.outE e.1 = e.2 else Store.get zeroN t.dev.scrim.delE (e.1 - 2 ^ 18) = e.2) ∧
        (∀ key, key ∉ x.entries.map Prod.fst → if key < 2 ^ 18 then Store.get zeroN t.dev.scrim.outE key = Store.get zeroN s.dev.scrim.outE key
          else Store.get zeroN t.dev.scrim.delE (key - 2 ^ 18) = Store.get zeroN s.dev.scrim.delE (key - 2 ^ 18)) ∧ KeepsHarts s t) ∧
    (∀ (s : State) (q : Req), Writes s q R.scm_STN_SEL = true → fld q.data 31 1 = 1 → Completes (.stencilRead q) s fun t =>
      t.dev.reg R.scm_STN_SEL = q.data &&& 0x010F3FFF#32 ∧ t.dev.rn R.scm_STN_DATA = 2 ^ 30 ∧ t.dev.scrim.readback = some s.dev.now.cyc ∧
        KeepsRegs s t [R.scm_STN_SEL, R.scm_STN_DATA] ∧ KeepsHarts s t) ∧
    (∀ (s : State) (cyc c : Nat), s.dev.arrayRuns = true → s.dev.scrim.readback = some c →
      let k := s.dev.rf R.scm_STN_SEL 0 12
      let dir := s.dev.rf R.scm_STN_SEL 12 2
      let key := skey k dir (s.dev.rf R.scm_STN_SEL 16 4)
      Completes (.stencilReadDone cyc) s fun t => t.dev.scrim.readback = none ∧ KeepsRegs s t [R.scm_STN_DATA] ∧ KeepsHarts s t ∧
        t.dev.reg R.scm_STN_DATA = wd (2 ^ 31 + 65536 * s.dev.pipeOf k dir +
          (if s.dev.rf R.scm_STN_SEL 24 1 = 0 then Store.get zeroN s.dev.scrim.outE key else Store.get zeroN s.dev.scrim.delE key) % 65536))

/-- For a performed write of PIPE_CMD with no reset in progress. START of a LOADED pipeline that meets its conditions makes it RUNNING
with an invalid skim record; HOLD makes a RUNNING one HOLDING; RESUME makes a HOLDING one with FAULT clear RUNNING and clears the stall
hold; DRAIN makes a RUNNING or HOLDING one with no unadmitted job DRAINING, its jobs as before. RESET of a pipeline that is not EMPTY or
REWORK and has no job sets RESETTING and empties its adapters, with FAULT, FAULT_INFO, frame number and skim record cleared. A command
whose state condition fails leaves PIPE_STATE and jobs and is counted as an error. -/
def Obligations.PipelineCommandsMoveTheState : Prop :=
  ∀ (s : State) (p : Fin 64) (q : Req), Writes s q (R.sch_PIPE_CMD p) = true → s.dev.pipeResetting p = false →
    (fld q.data 0 3 = 1 → s.dev.startOk p = true → Completes (.pipeStart p q) s fun t =>
      t.dev.pipeState p = 2 ∧ t.dev.rf (skimRecord p) 31 1 = 0 ∧ t.dev.jobs = s.dev.jobs ∧ t.dev.hbm = s.dev.hbm ∧ KeepsHarts s t) ∧
    (fld q.data 0 3 = 2 → s.dev.pipeState p = 2 → Completes (.pipeHold p q) s fun t =>
      t.dev.pipeState p = 3 ∧ t.dev.jobs = s.dev.jobs ∧ t.dev.hbm = s.dev.hbm ∧ KeepsHarts s t) ∧
    (fld q.data 0 3 = 3 → s.dev.pipeState p = 3 → s.dev.pipeFault p = false → Completes (.pipeResume p q) s fun t =>
      t.dev.pipeState p = 2 ∧ (t.dev.pipe p).stallChans = [] ∧ t.dev.rf (R.sch_SCHED_STATE p) 1 1 = 0 ∧ t.dev.jobs = s.dev.jobs ∧ KeepsHarts s t) ∧
    (fld q.data 0 3 = 4 → s.dev.pipeState p = 2 ∨ s.dev.pipeState p = 3 →
      (∀ j ∈ s.dev.jobs, j.piped = true → j.pipe = p → j.st = .admitted ∨ j.st = .writing ∨ j.st = .completed) →
      Completes (.pipeDrain p q) s fun t => t.dev.pipeState p = 4 ∧ t.dev.jobs = s.dev.jobs ∧
        (t.dev.pipe p).drainTick = some (s.dev.at q.t).now.tick ∧ KeepsHarts s t) ∧
    (fld q.data 0 3 = 5 → s.dev.pipeState p ≠ 0 → s.dev.pipeState p ≠ 6 → (∀ j ∈ s.dev.jobs, j.piped = true → j.pipe ≠ p) →
      Completes (.pipeReset p q) s fun t => t.dev.pipeResetting p = true ∧ t.dev.pipeFault p = false ∧ t.dev.reg (R.sch_FAULT_INFO p) = 0 ∧
        (t.dev.pipe p).ingQ = [] ∧ (t.dev.pipe p).egrQ = [] ∧ (t.dev.pipe p).tokens = [] ∧ (t.dev.pipe p).frameNum = 0 ∧
        (t.dev.pipe p).ingOut = [] ∧ (t.dev.pipe p).egrIn = [] ∧ t.dev.rf (skimRecord p) 31 1 = 0 ∧ t.dev.jobs = s.dev.jobs ∧ KeepsHarts s t) ∧
    (∀ c ∈ [(1, Instr.pipeStart p q, !s.dev.startOk p), (2, .pipeHold p q, s.dev.pipeState p != 2),
        (3, .pipeResume p q, s.dev.pipeState p != 3 || s.dev.pipeFault p), (4, .pipeDrain p q, s.dev.pipeState p != 2 && s.dev.pipeState p != 3),
        (5, .pipeReset p q, s.dev.pipeState p == 0 || s.dev.pipeState p == 6)], fld q.data 0 3 = c.1 → c.2.2 = true →
      Completes c.2.1 s fun t => t.dev.reg (R.sch_PIPE_STATE p) = s.dev.reg (R.sch_PIPE_STATE p) ∧ t.dev.jobs = s.dev.jobs ∧
        t.dev.reg (schPage p + 0x34) = satAdd (s.dev.reg (schPage p + 0x34)) 1 ∧ KeepsHarts s t)

/-- In a running array. The end of a pipeline reset clears RESETTING and the pipeline is LOADED. A DRAINING pipeline that meets the drain
condition becomes DRAINED. A drain older than DRAIN_TIMEOUT microseconds, not yet reported, sets EVT_RAW bit 27 of the pipeline's page and
marks it reported; the pipeline still drains. -/
def Obligations.ResetsAndDrainsEnd : Prop :=
  (∀ (s : State) (p : Fin 64) (k c : Nat), s.dev.arrayRuns = true → s.dev.pipeResetting p = true → Completes (.pipeResetDone p k c) s fun t =>
      t.dev.pipeResetting p = false ∧ t.dev.pipeState p = 1 ∧ (t.dev.pipe p).resetCyc = none ∧ t.dev.jobs = s.dev.jobs ∧ KeepsHarts s t) ∧
    (∀ (s : State) (p : Fin 64) (k c : Nat), s.dev.arrayRuns = true → s.dev.pipeState p = 4 → s.dev.pipeResetting p = false → s.dev.drainMet p = true →
      Completes (.drained p k c) s fun t => t.dev.pipeState p = 5 ∧ (t.dev.pipe p).drainTick = none ∧ t.dev.jobs = s.dev.jobs ∧ KeepsHarts s t) ∧
    (∀ (s : State) (p : Fin 64) (k a : Nat), s.dev.pipeState p = 4 → (s.dev.pipe p).drainTick = some a → (s.dev.pipe p).drainMissed = false →
      s.dev.rf (R.sch_DRAIN_TIMEOUT p) 0 24 ≠ 0 → a + 1000 * s.dev.rf (R.sch_DRAIN_TIMEOUT p) 0 24 ≤ (s.dev.at k).now.tick →
      Completes (.drainTimeout p k) s fun t => (t.dev.pipe p).drainMissed = true ∧ t.dev.rf (schPage p + 0x20) 27 1 = 1 ∧ t.dev.pipeState p = 4 ∧
        KeepsRegs s t [schPage p + 0x20, R.hif_MSIX_DROPPED] ∧ KeepsHarts s t)

/-- In a running array. INGRESS_FRAME of a HOD pipeline whose oldest admitted job is a FRAME that needs no token, adapter open and
MIN_INTERVAL met: the job has entered with the next frame number, leaves the ingress queue for the egress one, and its flits wait at the
adapter; ING_FRAMES goes up. SWAP_TOKEN for a SWAP job, region with no hot slots: the token of its skim is sent, the skim record holds it
and TOKENS_SENT goes up. RESULT_FRAME_COMPLETE on a one-flit frame (FIRST and LAST, sequence 0): EGR_FRAMES goes up, the frame leaves the
egress queue, and its job has its completion tick and the payload that egress keeps. TOKEN_CONSUMED on the expected token takes it, and
completes the SWAP job that it belongs to with status 0. -/
def Obligations.FramesAndTokensPassTheAdapters : Prop :=
  (∀ (s : State) (p : Fin 64) (cyc : Nat) (j : Job) (r : List Nat), s.dev.arrayRuns = true → s.dev.ingKind p = 1 → (s.dev.pipe p).ingQ = j.id :: r →
      s.dev.job j.id = some j → j.isFrame = true → s.dev.ingressOpen p = true → s.dev.needsToken p j.skim = false →
      (∀ c, (s.dev.pipe p).lastFirst = some c → c + s.dev.rf (R.sch_MIN_INTERVAL p) 0 16 ≤ cyc) → Completes (.ingressFrame p cyc) s fun t =>
        (t.dev.pipe p).ingQ = r ∧ (t.dev.pipe p).egrQ = (s.dev.pipe p).egrQ ++ [j.id] ∧
        (t.dev.pipe p).frameNum = ((s.dev.pipe p).frameNum + 1) % 2 ^ 32 ∧ (t.dev.pipe p).lastFirst = some (s.dev.atCyc cyc).now.cyc ∧
        (t.dev.pipe p).ingOut = (s.dev.pipe p).ingOut ++ frameFlits 0 true
          (if (j.inLen + 31) / 32 = 0 then [[]] else chunk 32 ((j.inLen + 31) / 32) j.input) ∧
        ((t.dev.job j.id).map fun x => (x.entered, x.frame)) = some (true, some (s.dev.pipe p).frameNum) ∧
        t.dev.rn64 (R.sch_ING_FRAMES_LO p) = min (2 ^ 64 - 1) (s.dev.rn64 (R.sch_ING_FRAMES_LO p) + 1) ∧
        KeepsRegs s t [R.sch_ING_FRAMES_LO p, R.sch_ING_FRAMES_LO p + 4] ∧ KeepsHarts s t) ∧
    (∀ (s : State) (p : Fin 64) (cyc : Nat) (j : Job) (r : List Nat), s.dev.arrayRuns = true → (s.dev.pipe p).ingQ = j.id :: r →
      s.dev.job j.id = some j → j.isSwap = true → s.dev.ingressOpen p = true → s.dev.pipeSlots p = 0 → Completes (.swapToken p cyc) s fun t =>
        (t.dev.pipe p).ingQ = r ∧ (t.dev.pipe p).tokens = (s.dev.pipe p).tokens ++ [⟨j.skim, some j.id, (s.dev.pipe p).frameNum⟩] ∧
        (t.dev.pipe p).ingOut = (s.dev.pipe p).ingOut ++ [tokenFlit j.skim] ∧ t.dev.rn (skimRecord p) = j.skim + 2 ^ 31 ∧
        t.dev.reg (R.dad_TOKENS_SENT (p / 16) (p % 16)) = satAdd (s.dev.reg (R.dad_TOKENS_SENT (p / 16) (p % 16))) 1 ∧
        KeepsRegs s t [skimRecord p, R.dad_TOKENS_SENT (p / 16) (p % 16)] ∧ KeepsHarts s t) ∧
    (∀ (s : State) (p : Fin 64) (k cyc : Nat) (j : Job) (f : Flit) (l : List Flit) (r : List Nat), s.dev.arrayRuns = true →
      s.dev.pipeFault p = false → s.dev.pipeResetting p = false → (s.dev.pipe p).egrIn = f :: l → (s.dev.pipe p).egrQ = j.id :: r →
      (s.dev.pipe p).openF = none → f.tag = 3 → f.seq = 0 → s.dev.job j.id = some j → j.pipe = p.val → j.orphan = false → j.suppressed = false →
      j.cancelled = false → j.stalledRef = false → j.late = false → (∀ e ∈ s.dev.plb.entries, e.job ≠ j.id) →
      Completes (.resultFrameComplete p k cyc) s fun t => (t.dev.pipe p).egrQ = r ∧ (t.dev.pipe p).egrIn = l ∧ (t.dev.pipe p).openF = none ∧
        t.dev.rn64 (R.sch_EGR_FRAMES_LO p) = min (2 ^ 64 - 1) (s.dev.rn64 (R.sch_EGR_FRAMES_LO p) + 1) ∧
        ((t.dev.job j.id).map fun x => (x.done, x.payload)) = some (some (s.dev.at k).now.tick, f.bytes.take (s.dev.keepBytes j)) ∧ KeepsHarts s t) ∧
    (∀ (s : State) (p : Fin 64) (k cyc : Nat) (f : Flit) (l : List Flit) (x : Token) (ks : List Token), s.dev.arrayRuns = true →
      (s.dev.pipe p).egrIn = f :: l → f.tag = 4 → (s.dev.pipe p).tokens = x :: ks → x.skim = f.data.toNat % 2 ^ 14 →
      (x.swap = none → Completes (.tokenConsumed p k cyc) s fun t => (t.dev.pipe p).egrIn = l ∧ (t.dev.pipe p).tokens = ks ∧
        t.dev.regs = s.dev.regs ∧ t.dev.jobs = s.dev.jobs ∧ KeepsHarts s t) ∧
      (∀ j, x.swap = some j.id → CanFinish s j → j.suppressed = false → j.cancelled = false → Completes (.tokenConsumed p k cyc) s fun t =>
        (t.dev.pipe p).egrIn = l ∧ (t.dev.pipe p).tokens = ks ∧ JobIs t j.id .completed 0 ∧ KeepsHarts s t))

/-- JOB_AT_SCH of a ready FRAME or SWAP job whose pipeline takes jobs, whose channel follows a reference, whose form and target pass and
whose skim is found, with room in the queue: the job is posted, and the queue holds its ADMIT entry with its target. A refused post whose
64 ticks are over is counted in EVQ_RETRY_COUNT and, with room now, posted. ADMISSION_DECISION of a RUNNING pipeline with no fault and no
reset: a FRAME that the rule admits is admitted, joins the ingress queue, is counted, and its entry becomes its RELEASE entry at the
deadline; one that the rule refuses completes TOO_FAST; a SWAP job with no hold is admitted and its entry is gone. -/
def Obligations.JobsArePostedAndDecided : Prop :=
  (∀ (s : State) (g : Fin 65536) (i : Word) (num : Fin 4096) (k : Nat) (j : Job) (ua : Int), (s.dev.at k).jobAt g i.toNat = some j → j.st = .ready →
      j.piped = true → refusesJobs ((s.dev.at k).pipeState j.pipe) = false → (s.dev.at k).chEnabled j.pch = true → (s.dev.at k).srcKind j.pch ≠ 0 →
      (s.dev.at k).jobForm j = true → (s.dev.at k).targetOf j.pch j.head.admission.toNat 0 = some ua → (s.dev.at k).lookup j.pipe j.skim (tenantOf j.q) = true →
      (s.dev.at k).evqFull = false → Completes (.jobAtSch g i num k) s fun t =>
        ((t.dev.job j.id).map fun x => (x.st, x.entry)) = some (.posted, some (s.dev.freeEntry num)) ∧
        (∃ e ∈ t.dev.plb.entries, e.num = s.dev.freeEntry num ∧ e.kind = .admission ∧ e.ch = j.pch ∧ e.target = ua ∧ e.job = j.id) ∧ KeepsHarts s t) ∧
    (∀ (s : State) (g : Fin 65536) (i : Word) (num : Fin 4096) (k due : Nat) (j : Job), (s.dev.at k).jobAt g i.toNat = some j → j.st = .retry due →
      due ≤ (s.dev.at k).now.tick → Completes (.evqPostRetry g i num k) s fun t =>
        t.dev.reg (R.sch_EVQ_RETRY_COUNT j.pipe) = satAdd (s.dev.reg (R.sch_EVQ_RETRY_COUNT j.pipe)) 1 ∧ KeepsHarts s t ∧
        (s.dev.evqFull = false → ((t.dev.job j.id).map fun x => (x.st, x.entry)) = some (.posted, some (s.dev.freeEntry num)) ∧
          ∃ e ∈ t.dev.plb.entries, e.num = s.dev.freeEntry num ∧ e.kind = .admission ∧ e.target = j.ua ∧ e.job = j.id)) ∧
    (∀ (s : State) (p : Fin 64) (k cyc : Nat) (e : EvEntry) (j : Job),
      let d := (s.dev.at k).atCyc cyc
      d.pipeResetting p = false → d.nextAdmit p = some e → d.job e.job = some j → d.pipeFault p = false → d.pipeState p = 2 →
      (∀ np, j.isSwap = false → d.admitVerdict j = .admission np → Completes (.admissionDecision p k cyc) s fun t =>
        ((t.dev.job j.id).map (·.st)) = some .admitted ∧ (t.dev.pipe p).ingQ = (s.dev.pipe p).ingQ ++ [j.id] ∧
        t.dev.rn64 (R.sch_ADMITTED_LO p) = min (2 ^ 64 - 1) (s.dev.rn64 (R.sch_ADMITTED_LO p) + 1) ∧
        (∃ r ∈ t.dev.plb.entries, r.num = e.num ∧ r.kind = .release ∧ r.target = j.ud ∧ r.job = e.job) ∧ KeepsHarts s t) ∧
      (∀ h, j.isSwap = false → d.admitVerdict j = .refuse h → CanFinish s j → Completes (.admissionDecision p k cyc) s fun t =>
        JobIs t j.id .completed 0x14 ∧ t.dev.reg (R.sch_TOO_FAST_COUNT p) = satAdd (s.dev.reg (R.sch_TOO_FAST_COUNT p)) 1 ∧
        (t.dev.pipe p).ingQ = (s.dev.pipe p).ingQ ∧ KeepsHarts s t) ∧
      (j.isSwap = true → d.rf (R.sch_SCHED_STATE p) 0 1 = 0 → Completes (.admissionDecision p k cyc) s fun t =>
        ((t.dev.job j.id).map (·.st)) = some .admitted ∧ (t.dev.pipe p).ingQ = (s.dev.pipe p).ingQ ++ [j.id] ∧
        (∀ r ∈ t.dev.plb.entries, r.num ≠ e.num) ∧ KeepsHarts s t))

/-- RESULT_RELEASE of a handed-over RELEASE entry removes it. Where the job's result was complete by the due tick, the release begins with
MARGIN_CYC fixed from both ticks; where it is not complete, the job is late and LATE_COUNT goes up. RELEASE_WRITES_DONE of a release to no
peer whose payload is written completes the job with the status that the marks of the job name. HOLD_WINDOW_END of a window later than the
hold's, with at most RECOVER_CYC debit and no late job in the window before, clears HOLD; a performed SCHED_CMD clears HOLD and, with
CLEAR_COUNTS, the counters. -/
def Obligations.ResultsAreReleased : Prop :=
  (∀ (s : State) (e : Fin 4096) (k : Nat) (x : EvEntry) (u : Due) (j : Job),
      (s.dev.plb.entries.find? fun x => x.num = e.val ∧ x.kind = .release ∧ x.hand.isSome) = some x → x.due = some u → s.dev.job x.job = some j →
      (j.done = none → Completes (.resultRelease e k) s fun t => ((t.dev.job j.id).map fun y => (y.late, y.due)) = some (true, some u.tick) ∧
        t.dev.reg (R.sch_LATE_COUNT j.pipe) = satAdd (s.dev.reg (R.sch_LATE_COUNT j.pipe)) 1 ∧ (∀ y ∈ t.dev.plb.entries, y.num ≠ x.num) ∧ KeepsHarts s t) ∧
      (∀ td, j.done = some td → td ≤ u.tick → Completes (.resultRelease e k) s fun t =>
        ((t.dev.job j.id).map fun y => (y.st, y.due, y.mc)) = some (.writing, some u.tick, marginCyc s.dev.mhz u.tick td) ∧
        t.dev.plb.entries = (s.dev.plb.entries.filter fun y => !(y.num == x.num)) ∧ KeepsHarts s t)) ∧
    (∀ (s : State) (g : Fin 65536) (i : Word) (k : Nat) (j : Job), (s.dev.at k).jobAt g i.toNat = some j → j.st = .writing →
      (s.dev.at k).payloadGone j = true → j.peer = none → CanFinish s j → Completes (.releaseWritesDone g i k) s fun t =>
        JobIs t j.id .completed j.releaseStatus ∧ KeepsHarts s t) ∧
    (∀ (s : State) (p : Fin 64) (k cyc h : Nat),
      let d := ((s.dev.atCyc cyc).settle p).at k
      (d.pipe p).holdWin = some h → h + 1 < d.window → d.windowDebit p ≤ d.rf (R.sch_RECOVER_CYC p) 0 24 → (d.pipe p).lateWin ≠ some (d.window - 1) →
      Completes (.holdWindowEnd p k cyc) s fun t => t.dev.rf (R.sch_SCHED_STATE p) 0 1 = 0 ∧
        t.dev.rn (R.sch_WINDOW_DEBIT p) = d.windowDebit p ∧ (t.dev.pipe p).win = d.window ∧ KeepsHarts s t) ∧
    (∀ (s : State) (p : Fin 64) (q : Req), Writes s q (R.sch_SCHED_CMD p) = true → fld q.data 0 1 = 1 → Completes (.clearHold p q) s fun t =>
      t.dev.rf (R.sch_SCHED_STATE p) 0 1 = 0 ∧ t.dev.jobs = s.dev.jobs ∧ KeepsHarts s t ∧ (fld q.data 1 1 = 1 →
        ∀ o ∈ [R.sch_ADMITTED_LO p, R.sch_RELEASED_LO p, R.sch_TOO_FAST_COUNT p, R.sch_LATE_COUNT p, R.sch_DROPPED_COUNT p, R.sch_WORST_MARGIN_CYC p],
          t.dev.reg o = resetOf o))

/-- A performed GO in LOAD_CTRL, with the loader free and host memory as source, starts READING of the kind, region and skim written, and
changes no other register; while a load runs it is counted as an error and the load goes on. The end of the copy of a host image holds the
image and is in CHECKING; a failed read ends FAILED. CHECKING ends IDLE with REFUSED, the check and its reason where a check fails. Where
all pass, a skim is VALID in the library with its owner and body, the load DONE; a REGION load, and a FULL load with no POW commit
pending, is in WRITING, a FULL load with no live Render. -/
def Obligations.LoadsStartReadAndAreChecked : Prop :=
  (∀ (s : State) (q : Req), Writes s q R.skm_LOAD_CTRL = true → fld q.data 31 1 = 1 → ∀ c ∈ [(0, Instr.loadFull q), (1, .loadRegion q), (2, .loadLibrary q)],
      fld q.data 0 2 = c.1 →
      (s.dev.loadFree = true → fld q.data 2 1 = 0 → Completes c.2 s fun t => t.dev.loadSt = 1 ∧
        t.dev.loader = { loader0 with kind := c.1, region := fld q.data 8 6, skim := fld q.data 16 14, fn := (portFn q.port).getD 0, host := true, src := s.dev.rn64 R.skm_LOAD_SRC_LO } ∧
        KeepsRegs s t [R.skm_LOAD_CTRL, R.skm_LOAD_STATUS, R.skm_LOAD_FAIL] ∧ KeepsHarts s t) ∧
      (s.dev.loadFree = false → Completes c.2 s fun t => t.dev.reg R.skm_LOAD_STATUS = s.dev.reg R.skm_LOAD_STATUS ∧ t.dev.loader = s.dev.loader ∧
        t.dev.reg (0x60000 + 0x34) = satAdd (s.dev.reg (0x60000 + 0x34)) 1 ∧ KeepsHarts s t)) ∧
    (∀ (s : State) (l : List Byte) (k : Nat), s.dev.loadSt = 1 → s.dev.loader.host = true →
      (s.dev.mayRequest s.dev.loader.fn = true → Completes (.loadReadDone (.data l) k) s fun t => t.dev.loadSt = 2 ∧
        t.dev.loader.image = (match s.dev.loader.len with | some n => l.take n | none => l) ∧ KeepsRegs s t [R.skm_LOAD_STATUS] ∧ KeepsHarts s t) ∧
      (∀ c, Completes (.loadReadDone (.fail c) k) s fun t => t.dev.loadSt = 7 ∧ t.dev.loader = s.dev.loader ∧
        t.dev.reg R.hif_CPL_FAIL_COUNT = satAdd (s.dev.reg R.hif_CPL_FAIL_COUNT) 1 ∧ KeepsHarts s t)) ∧
    (∀ (s : State) (k : Nat), s.dev.loadSt = 2 →
      (∀ n r sec, (s.dev.at k).checkImage = some (n, r, sec) → Completes (.loadCheckDone k) s fun t =>
        t.dev.reg R.skm_LOAD_STATUS = wd (256 + 4096 * r + 65536 * n) ∧ t.dev.lib = s.dev.lib ∧ t.dev.golden = s.dev.golden ∧ KeepsHarts s t) ∧
      ((s.dev.at k).checkImage = none → s.dev.loader.kind = 2 → Completes (.loadCheckDone k) s fun t => t.dev.loadSt = 6 ∧
        (t.dev.libAt s.dev.loader.skim).st = 2 ∧ (t.dev.libAt s.dev.loader.skim).owner = s.dev.loader.owner ∧
        (t.dev.libAt s.dev.loader.skim).body = sectD (openSects s.dev.loader.image) 0x21 0 ∧
        (∀ x, x ≠ s.dev.loader.skim → t.dev.libAt x = s.dev.libAt x) ∧ KeepsHarts s t) ∧
      ((s.dev.at k).checkImage = none → s.dev.loader.kind = 1 → Completes (.loadCheckDone k) s fun t => t.dev.loadSt = 3 ∧
        t.dev.loader.sects = openSects s.dev.loader.image ∧ t.dev.golden = s.dev.golden ∧ KeepsHarts s t) ∧
      ((s.dev.at k).checkImage = none → s.dev.loader.kind = 0 → (∀ c ∈ s.dev.pend, c.page ≠ 0xC000) → Completes (.loadCheckDone k) s fun t =>
        t.dev.loadSt = 3 ∧ t.dev.golden = [] ∧ KeepsHarts s t))

/-- In a running array WRITING of a REGION load, and of a FULL load whose domains are all on, ends in VERIFYING; VERIFYING ends in STAGED;
either ends FAILED where an item is named. A performed ACTIVATE of a STAGED REGION load makes its sections the region's part of the golden
copy, the pipeline LOADED with the header's LATENCY and MIN_INTERVAL, and ends DONE; of a FULL load it makes its sections the golden copy,
the Render LIVE with its BUILD_ID and the remap in force. A performed DISCARD of a STAGED load ends IDLE. With nothing STAGED either
command is counted as an error and the loader stays. -/
def Obligations.LoadsAreWrittenAndGoLive : Prop :=
  (∀ (s : State) (k : Nat), s.dev.arrayRuns = true → s.dev.loadSt = 3 →
      (s.dev.loader.kind = 1 → Completes (.loadWriteDone none k) s fun t => t.dev.loadSt = 4 ∧ KeepsHarts s t) ∧
      (s.dev.loader.kind ≠ 1 → (∀ x ∈ needDomains s.dev.loader.sects, s.dev.domainOn x = true) → Completes (.loadWriteDone none k) s fun t =>
        t.dev.loadSt = 4 ∧ KeepsHarts s t) ∧
      (∀ f, Completes (.loadWriteDone (some f) k) s fun t => t.dev.loadSt = 7 ∧ KeepsHarts s t)) ∧
    (∀ (s : State) (k : Nat), s.dev.arrayRuns = true → s.dev.loadSt = 4 →
      (Completes (.loadVerifyDone none k) s fun t => t.dev.loadSt = 5 ∧ t.dev.rf (0x60000 + 0x20) 16 1 = 1 ∧ t.dev.golden = s.dev.golden ∧
        KeepsRegs s t [R.skm_LOAD_STATUS, 0x60000 + 0x20, R.hif_MSIX_DROPPED] ∧ KeepsHarts s t) ∧
      (∀ f, Completes (.loadVerifyDone (some f) k) s fun t => t.dev.loadSt = 7 ∧ KeepsHarts s t)) ∧
    (∀ (s : State) (q : Req), Writes s q R.skm_LOAD_CMD = true →
      (fld q.data 0 1 = 1 → s.dev.loadSt = 5 → s.dev.loader.kind = 1 → s.dev.loader.region < 64 → Completes (.loadActivate q) s fun t =>
        let r := s.dev.loader.region
        t.dev.loadSt = 6 ∧ t.dev.golden = goldenWith s.dev.golden s.dev.loader.sects r ∧ t.dev.pipeState r = 1 ∧
        t.dev.rn (R.sch_LATENCY r) = (hdrOf (sectD t.dev.golden 0x10 r)).latency % 2 ^ 32 ∧
        t.dev.rn (R.sch_MIN_INTERVAL r) = (hdrOf (sectD t.dev.golden 0x10 r)).interval % 2 ^ 32 ∧ KeepsHarts s t) ∧
      (fld q.data 0 1 = 1 → s.dev.loadSt = 5 → s.dev.loader.kind = 0 → Completes (.loadActivate q) s fun t =>
        t.dev.loadSt = 6 ∧ t.dev.golden = s.dev.loader.sects ∧ t.dev.rf R.skm_RENDER_STATE 0 2 = 1 ∧ t.dev.rn R.scm_REMAP_STATE = 1 ∧
        t.dev.rn64 R.skm_BUILD_ID_LO = s.dev.loader.build % 2 ^ 64 ∧ KeepsHarts s t) ∧
      (fld q.data 0 1 = 0 → fld q.data 1 1 = 1 → s.dev.loadSt = 5 → Completes (.loadDiscard q) s fun t => t.dev.loadSt = 0 ∧ KeepsHarts s t) ∧
      (s.dev.loadSt ≠ 5 → ∀ c ∈ [Instr.loadActivate q, .loadDiscard q], fld q.data 0 2 = (if c = .loadActivate q then 1 else 2) → Completes c s fun t =>
        t.dev.reg R.skm_LOAD_STATUS = s.dev.reg R.skm_LOAD_STATUS ∧ t.dev.golden = s.dev.golden ∧
        t.dev.reg (0x60000 + 0x34) = satAdd (s.dev.reg (0x60000 + 0x34)) 1 ∧ KeepsHarts s t))

/-- A performed LIB_CMD with GO, SKIM_ID not 0. REMOVE of a skim in use is REFUSED with STATE, of another it empties its entry. WARM in a
loaded pipeline of a VALID skim that matches its section and that no slot holds begins a warm-up of the first free slot, or is REFUSED
with RESOURCE where none is free and EVICT is 0. EVICT makes every unpinned slot that holds the skim INVALID. In a running array an on-
demand request starts a fill of the first free slot; the end of a fill or warm-up of a slot that is not active makes it VALID, its shares
written, and is counted by its sort. A faulted fill makes its slot INVALID and is counted. -/
def Obligations.SkimsAreWarmedFilledAndEvicted : Prop :=
  (∀ (s : State) (q : Req), Writes s q R.skm_LIB_CMD = true → fld q.data 31 1 = 1 → ∀ x, fld q.data 16 14 = x → x ≠ 0 →
      (fld q.data 0 2 = 1 → s.dev.skimUsed x = true → Completes (.libRemove q) s fun t => t.dev.rn R.skm_LIB_RESULT = 2 + 16 * 3 ∧
        t.dev.lib = s.dev.lib ∧ KeepsRegs s t [R.skm_LIB_RESULT] ∧ KeepsHarts s t) ∧
      (fld q.data 0 2 = 1 → s.dev.skimUsed x = false → Completes (.libRemove q) s fun t => t.dev.rn R.skm_LIB_RESULT = 1 ∧
        t.dev.libAt x = lib0 0 ∧ (∀ y, y ≠ x → t.dev.libAt y = s.dev.libAt y) ∧ KeepsRegs s t [R.skm_LIB_RESULT] ∧ KeepsHarts s t) ∧
      (∀ p, fld q.data 0 2 = 2 → fld q.data 2 6 = p → s.dev.pipeState p ≠ 0 → s.dev.pipeState p ≠ 5 → s.dev.pipeState p ≠ 6 → s.dev.libMatches p x = true →
        s.dev.slotOf p x = none →
        (∀ j, s.dev.freeSlot p = some j → j < 16 → Completes (.libWarm q) s fun t => t.dev.rn R.skm_LIB_RESULT = 1 ∧ t.dev.slotState p j = 3 ∧
          t.dev.slotSkim p j = x ∧ t.dev.fills = s.dev.fills ++ [⟨p, j, x, 1, s.dev.now.cyc⟩] ∧ KeepsHarts s t) ∧
        (s.dev.freeSlot p = none → fld q.data 8 1 = 0 → Completes (.libWarm q) s fun t => t.dev.rn R.skm_LIB_RESULT = 2 + 16 * 4 ∧
          t.dev.fills = s.dev.fills ∧ KeepsRegs s t [R.skm_LIB_RESULT] ∧ KeepsHarts s t)) ∧
      (fld q.data 0 2 = 3 → Completes (.libEvict q) s fun t => t.dev.rn R.skm_LIB_RESULT = 1 ∧ KeepsHarts s t ∧
        ∀ p < 64, ∀ j < 16, s.dev.slotSkim p j = x → s.dev.slotPinned p j = false → t.dev.slotState p j = 0)) ∧
    (∀ (s : State) (p : Fin 64) (cyc j : Nat) (r : FillReq), s.dev.arrayRuns = true → (∀ f ∈ s.dev.fills, f.pipe = p.val → f.sort ≠ 0) →
      (s.dev.fillReqs.find? fun r => r.pipe = p.val) = some r → s.dev.slotOf p r.skim = none → s.dev.libMatches p r.skim = true →
      s.dev.rn (R.skm_FILL_RATE p) ≠ 0 → s.dev.freeSlot p = some j → j < 16 → Completes (.fillStart p cyc) s fun t =>
        t.dev.slotState p j = 1 ∧ t.dev.slotSkim p j = r.skim % 2 ^ 14 ∧ t.dev.fillReqs = s.dev.fillReqs.erase r ∧
        t.dev.fills = s.dev.fills ++ [⟨p, j, r.skim, 0, cyc⟩] ∧ KeepsHarts s t) ∧
    (∀ (s : State) (p : Fin 64) (j : Fin 16) (cyc : Nat) (f : Fill), s.dev.arrayRuns = true → s.dev.fillAt p j = some f → s.dev.slotActive p j = false →
      Completes (if f.sort = 0 then .slotFillDone p j cyc else .warmupDone p j cyc) s fun t => t.dev.slotState p j = 2 ∧
        t.dev.slotSkim p j = f.skim % 2 ^ 14 ∧ t.dev.fills = s.dev.fills.erase f ∧ t.dev.tmem = (s.dev.writeShares p j (s.dev.libAt f.skim).body).tmem ∧
        (∀ o ∈ [R.skm_FILLS, R.skm_WARMUPS, R.skm_RA_WARMUPS], t.dev.reg o = satAdd (s.dev.reg o)
          (b2n (o == if f.sort = 0 then R.skm_FILLS else if f.sort = 1 then R.skm_WARMUPS else R.skm_RA_WARMUPS))) ∧ KeepsHarts s t) ∧
    (∀ (s : State) (p : Fin 64) (j : Fin 16) (a k cyc : Nat) (f : Fill), s.dev.fillAt p j = some f → (∀ x, (s.dev.tile x).fillWait = none) →
      Completes (.fillFault p j a k cyc) s fun t => t.dev.slotState p j = 0 ∧
        t.dev.reg R.skm_FILL_FAULTS = satAdd (s.dev.reg R.skm_FILL_FAULTS) 1 ∧ (∀ x ∈ t.dev.fills, ¬(x.pipe = p.val ∧ x.slot = j.val)) ∧ KeepsHarts s t)

/-- A performed ENGAGE of a DRAINED pipeline with RELEASED tapes is ENGAGING; in the first slot-0 cycle after the command the cells hold
the border; 16 stage cycles later the tapes are ENGAGED and a DRAINED pipeline, not in reset, is in REWORK. A performed RELEASE of a
LOADED pipeline with ENGAGED tapes is RELEASING; in the first slot-0 cycle after it the cells let go; 16 cycles later they are RELEASED. A
command that is not accepted leaves the tapes and is counted as an error. -/
def Obligations.TapesEngageAndRelease : Prop :=
  (∀ (s : State) (r : Fin 64) (q : Req) (cyc : Nat), Writes { s with dev := s.dev.atCyc cyc } q (R.dad_TAPE_CMD (r / 16) (r % 16)) = true →
      (fld q.data 0 2 = 1 → s.dev.pipeState r = 5 → s.dev.tapeState r = 0 → Completes (.tapeEngage r q cyc) s fun t =>
        t.dev.tapeState r = 1 ∧ (t.dev.tape r).cmd = cyc ∧ (t.dev.tape r).on = (s.dev.tape r).on ∧
        KeepsRegs s t [R.dad_TAPE_STATE (r / 16) (r % 16)] ∧ KeepsHarts s t) ∧
      (fld q.data 0 2 = 2 → s.dev.pipeState r = 1 → s.dev.tapeState r = 2 → Completes (.tapeRelease r q cyc) s fun t =>
        t.dev.tapeState r = 3 ∧ (t.dev.tape r).cmd = cyc ∧ (t.dev.tape r).on = (s.dev.tape r).on ∧
        KeepsRegs s t [R.dad_TAPE_STATE (r / 16) (r % 16)] ∧ KeepsHarts s t) ∧
      (fld q.data 0 2 = 1 → s.dev.pipeState r ≠ 5 ∨ s.dev.tapeState r ≠ 0 → Completes (.tapeEngage r q cyc) s fun t =>
        t.dev.tapeState r = s.dev.tapeState r ∧ t.dev.tapes = s.dev.tapes ∧
        t.dev.reg (dadPage r + 0x34) = satAdd (s.dev.reg (dadPage r + 0x34)) 1 ∧ KeepsHarts s t)) ∧
    (∀ (s : State) (r : Fin 64) (cyc : Nat), s.dev.arrayRuns = true → cyc % 16 = 0 → (s.dev.tape r).cmd < cyc →
      (s.dev.tapeState r = 1 → (s.dev.tape r).on = false → Completes (.tapeEngagePoint r cyc) s fun t =>
        (t.dev.tape r).on = true ∧ (t.dev.tape r).point = cyc ∧ t.dev.tapeState r = 1 ∧ KeepsHarts s t) ∧
      (s.dev.tapeState r = 3 → (s.dev.tape r).on = true → Completes (.tapeReleasePoint r cyc) s fun t =>
        (t.dev.tape r).on = false ∧ (t.dev.tape r).point = cyc ∧ t.dev.regs = s.dev.regs ∧ KeepsHarts s t)) ∧
    (∀ (s : State) (r : Fin 64) (cyc k : Nat), s.dev.arrayRuns = true → (s.dev.tape r).point + 16 ≤ cyc →
      (s.dev.tapeState r = 1 → (s.dev.tape r).on = true → s.dev.pipeState r = 5 → s.dev.pipeResetting r = false → Completes (.tapeEngaged r cyc k) s fun t =>
        t.dev.tapeState r = 2 ∧ t.dev.pipeState r = 6 ∧
        t.dev.rn (R.dad_LAST_ENGAGE_CYC (r / 16) (r % 16)) = ((s.dev.tape r).point + 16 - (s.dev.tape r).cmd) % 64 ∧ KeepsHarts s t) ∧
      (s.dev.tapeState r = 3 → (s.dev.tape r).on = false → Completes (.tapeReleased r cyc k) s fun t =>
        t.dev.tapeState r = 0 ∧ t.dev.rf (dadPage r + 0x20) (16 + r % 16) 1 = 1 ∧
        KeepsRegs s t [R.dad_TAPE_STATE (r / 16) (r % 16), dadPage r + 0x20, R.hif_MSIX_DROPPED] ∧ KeepsHarts s t))

/-- An FLR of an enabled VF with none in progress, outside a device reset: the FLR is in progress, no job of the tenant but those that a
reset left behind is in the tracker, and its queues and every register of its queue page stand as at reset; its end clears the FLR.
Clearing VF Enable starts an FLR of every enabled VF and clears it. An FLR of PF1 disables the VFs, and NumVFs and TEN_WINDOW read 0.
D3HOT, RETURN_TO_D0 and BUS_MASTER_DISABLE change that bit of that function alone. ATS_INVALIDATE leaves no page of the range in the cache
and is counted. PCIE_LINK_DOWN takes the link down and is counted. -/
def Obligations.FunctionResetsClearAndEnd : Prop :=
  (∀ (s : State) (n : Fin 1024) (k : Nat), s.dev.portExists (.tenant n) = true → (s.dev.fn (2 + n)).flr = false → s.dev.boot.devReset = none →
      Completes (.vfFlr n k) s fun t => (t.dev.fn (2 + n)).flr = true ∧ (∀ j ∈ t.dev.jobs, tenantOf j.q = n.val → j.orphan = true) ∧
        (∀ g, tenantOf g = n.val → t.dev.queue g = queue0 g) ∧
        (∀ o, 0x800000 + 0x1000 * n.val ≤ o → o < 0x801000 + 0x1000 * n.val → t.dev.reg o = resetOf o) ∧ KeepsHarts s t) ∧
    (∀ (s : State) (n : Fin 1024) (k : Nat), (s.dev.fn (2 + n)).flr = true → Completes (.vfFlrDone n k) s fun t =>
      (t.dev.fn (2 + n)).flr = false ∧ (∀ f, f ≠ 2 + n.val → t.dev.fn f = s.dev.fn f) ∧ t.dev.regs = s.dev.regs ∧ KeepsHarts s t) ∧
    (∀ (s : State) (k : Nat), s.dev.hif.vfEnable = true → Completes (.vfEnableClear k) s fun t =>
      t.dev.hif.vfEnable = false ∧ (∀ n < s.dev.hif.numVfs, (t.dev.fn (2 + n)).flr = true) ∧ KeepsHarts s t) ∧
    (∀ (s : State) (p : Fin 2) (k : Nat), (s.dev.fn p).flr = false → Completes (.pfFlr p k) s fun t => (t.dev.fn p).flr = true ∧
      (t.dev.fn p).msixEn = (fn0 p).msixEn ∧ KeepsHarts s t ∧
      (p = 1 → t.dev.hif.vfEnable = false ∧ t.dev.hif.numVfs = 0 ∧ t.dev.reg R.prt_TEN_WINDOW = 0)) ∧
    (∀ (s : State) (p : Fin 2) (k : Nat), (s.dev.fn p).flr = true → Completes (.pfFlrDone p k) s fun t =>
      (t.dev.fn p).flr = false ∧ (∀ f, f ≠ p.val → t.dev.fn f = s.dev.fn f) ∧ t.dev.regs = s.dev.regs ∧ KeepsHarts s t) ∧
    (∀ (s : State) (p : Fin 2) (k : Nat) (b : Bool), Completes (if b then .d3hot p k else .returnToD0 p k) s fun t =>
      t.dev.fn p = { s.dev.fn p with d3 := b } ∧ (∀ f, f ≠ p.val → t.dev.fn f = s.dev.fn f) ∧ t.dev.regs = s.dev.regs ∧ KeepsHarts s t) ∧
    (∀ (s : State) (f : Fin 1026) (k : Nat), Completes (.busMasterDisable f k) s fun t =>
      t.dev.fn f = { s.dev.fn f with bme := false } ∧ (∀ x, x ≠ f.val → t.dev.fn x = s.dev.fn x) ∧ t.dev.regs = s.dev.regs ∧ KeepsHarts s t) ∧
    (∀ (s : State) (f : Fin 1026) (lo n k : Nat), Completes (.atsInvalidate f lo n k) s fun t =>
      (∀ e, e ∈ t.dev.hif.ats ↔ e ∈ s.dev.hif.ats ∧ ¬(e.1 = f.val ∧ lo ≤ e.2 ∧ e.2 < lo + n)) ∧
      t.dev.reg R.hif_ATS_INVALIDATES = satAdd (s.dev.reg R.hif_ATS_INVALIDATES) 1 ∧ KeepsRegs s t [R.hif_ATS_INVALIDATES] ∧ KeepsHarts s t) ∧
    (∀ (s : State) (k : Nat), s.dev.hif.linkUp = true → Completes (.pcieLinkDown k) s fun t => t.dev.hif.linkUp = false ∧
      t.dev.reg R.hif_LINK_STATUS = 0 ∧ t.dev.reg R.hif_LINK_DOWN_COUNT = satAdd (s.dev.reg R.hif_LINK_DOWN_COUNT) 1 ∧ KeepsHarts s t)

/-- Clearing the Mask bit of a vector of a function that exists, is in D0 and not in FLR: with nothing pending the mask is clear and
nothing is sent; with a message pending, no function mask and messages enabled, exactly that message is sent and is no longer pending. A
performed write of PORT_OFF, not the supervisor's, adds the ports written 1. A performed CLASS_MASK with GO of a class of Table 12.8, no
walk running, not the supervisor's: every unlocked page of the class has its mask ANDed with MASK and its LOCK as written, and
CLASS_STATUS reads busy until the walk is done; while one runs the write is counted as an error. -/
def Obligations.MessagesAndPortSwitches : Prop :=
  (∀ (s : State) (f : Fin 1026) (v : Fin 2048) (k : Nat), (s.dev.at k).portExists (fnPort f) = true → (s.dev.at k).portD3 (fnPort f) = false →
      v.val < msixSize f → (s.dev.fn f).flr = false →
      ((s.dev.vec f v).pend = false → Completes (.msixUnmask f v k) s fun t => t.dev.vec f v = { s.dev.vec f v with mask := false } ∧
        t.dev.out = s.dev.out ∧ t.dev.regs = s.dev.regs ∧ KeepsHarts s t) ∧
      ((s.dev.vec f v).pend = true → (s.dev.fn f).fmask = false → (s.dev.fn f).msixEn = true → (s.dev.fn f).bme = true → (s.dev.fn f).d3 = false →
        Completes (.msixUnmask f v k) s fun t => t.dev.vec f v = { s.dev.vec f v with mask := false, pend := false } ∧
          t.dev.out = .msix f v :: s.dev.out ∧ t.dev.regs = s.dev.regs ∧ KeepsHarts s t)) ∧
    (∀ (s : State) (q : Req), Writes s q R.prt_PORT_OFF = true → portCode q.port ≠ 7 → Completes (.portOff q) s fun t =>
      t.dev.reg R.prt_PORT_OFF = s.dev.reg R.prt_PORT_OFF ||| (q.data &&& 0x7E#32) ∧ KeepsRegs s t [R.prt_PORT_OFF] ∧ RegsOnly s t) ∧
    (∀ (s : State) (q : Req), Writes s q R.prt_CLASS_MASK = true → portCode q.port ≠ 7 →
      (s.dev.hif.classWalk = none → fld q.data 8 4 ≤ 10 → fld q.data 31 1 = 1 → Completes (.classMask q) s fun t =>
        t.dev.reg R.prt_CLASS_STATUS = 1 ∧ t.dev.hif.classWalk = some (s.dev.at q.t).now.tick ∧ KeepsHarts s t ∧
        ∀ pg ∈ classPages (fld q.data 8 4), s.dev.rf (pg + 0xC) 31 1 = 0 →
          t.dev.rf (pg + 0xC) 0 7 = (fld q.data 0 7 &&& s.dev.rf (pg + 0xC) 0 7) ∧ t.dev.rf (pg + 0xC) 31 1 = fld q.data 30 1) ∧
      (s.dev.hif.classWalk ≠ none → Completes (.classMask q) s fun t => t.dev.hif.classWalk = s.dev.hif.classWalk ∧
        t.dev.reg (0x2000 + 0x34) = satAdd (s.dev.reg (0x2000 + 0x34)) 1 ∧ KeepsHarts s t ∧
        ∀ pg ∈ classPages (fld q.data 8 4), t.dev.reg (pg + 0xC) = s.dev.reg (pg + 0xC))) ∧
    (∀ (s : State) (k : Nat), s.dev.hif.classWalk ≠ none → Completes (.classMaskDone k) s fun t => t.dev.hif.classWalk = none ∧
      t.dev.reg R.prt_CLASS_STATUS = 0 ∧ t.dev.rf (0x2000 + 0x20) 16 1 = 1 ∧
      KeepsRegs s t [R.prt_CLASS_STATUS, 0x2000 + 0x20, R.hif_MSIX_DROPPED] ∧ KeepsHarts s t)

/-- For a performed write. TAIL v with at most N entries between HEAD and v and between the present TAIL and v, v not the present TAIL:
TAIL is v and the push slots are disarmed; otherwise TAIL stays and the reject is counted. A push write with every byte enable, a legal
place and length: each dword stands in its slot at its place, and no register changes. CANCEL of an index from HEAD to the fetch index
whose job is in the tracker, may be cancelled and is not admitted completes it CANCELLED; of an index from there to TAIL the cancel waits,
if fewer than 8 wait; beyond TAIL it is counted as rejected. -/
def Obligations.TailsPushesAndCancels : Prop :=
  (∀ (s : State) (g : Fin 65536) (q : Req), Writes s q (R.pw_TAIL g) = true →
      let ok := u32sub q.data.toNat (s.dev.head g) ≤ 2 ^ s.dev.qN g ∧ u32sub q.data.toNat (s.dev.queue g).tail ≤ 2 ^ s.dev.qN g
      (ok → q.data.toNat ≠ (s.dev.queue g).tail → Completes (.tailWrite g q) s fun t => (t.dev.queue g).tail = q.data.toNat ∧
        (t.dev.queue g).push = [] ∧ KeepsRegs s t [R.pw_PUSH_DISCARD_COUNT g] ∧ (∀ x, x ≠ g.val → t.dev.queue x = s.dev.queue x) ∧ KeepsHarts s t) ∧
      (¬ok → Completes (.tailWrite g q) s fun t => t.dev.queues = s.dev.queues ∧ t.dev.rf (R.pw_STATUS g) 4 1 = 1 ∧
        t.dev.reg (R.pw_TAIL_REJECT_COUNT g) = satAdd (s.dev.reg (R.pw_TAIL_REJECT_COUNT g)) 1 ∧
        KeepsRegs s t [R.pw_TAIL_REJECT_COUNT g, R.pw_STATUS g] ∧ KeepsHarts s t)) ∧
    (∀ (s : State) (g : Fin 65536) (p : Port) (off k : Nat) (l : List Word), Writes s ⟨p, 15, 0, k⟩ (0x4000000 + 0x1000 * g.val + off) = true →
      off % 4 = 0 → l ≠ [] → off + 4 * l.length ≤ 256 → Completes (.pushWrite g p off (4 * l.length) true l k) s fun t =>
        (∀ i v, l[i]? = some v → Store.get word0 (Store.get pushSlot0 (t.dev.queue g).push ((off / 4 + i) / 16)).words ((off / 4 + i) % 16) = v) ∧
        (t.dev.queue g).tail = (s.dev.queue g).tail ∧ t.dev.regs = s.dev.regs ∧ KeepsHarts s t) ∧
    (∀ (s : State) (g : Fin 65536) (q : Req), Writes s q (R.pw_CANCEL g) = true →
      let n := u32sub q.data.toNat (s.dev.head g)
      (u32sub (s.dev.queue g).tail (s.dev.head g) ≤ n → Completes (.cancel g q) s fun t => t.dev.jobs = s.dev.jobs ∧ t.dev.queues = s.dev.queues ∧
        t.dev.reg R.qen_CANCEL_REJECTS = satAdd (s.dev.reg R.qen_CANCEL_REJECTS) 1 ∧ KeepsRegs s t [R.qen_CANCEL_REJECTS] ∧ KeepsHarts s t) ∧
      (n < u32sub (s.dev.queue g).tail (s.dev.head g) → u32sub (s.dev.fetchIdx g) (s.dev.head g) ≤ n → (s.dev.queue g).cancels.length < 8 →
        Completes (.cancel g q) s fun t => (t.dev.queue g).cancels = (s.dev.queue g).cancels ++ [q.data.toNat] ∧ t.dev.jobs = s.dev.jobs ∧
          t.dev.regs = s.dev.regs ∧ KeepsHarts s t) ∧
      (∀ j, n < u32sub (s.dev.queue g).tail (s.dev.head g) → n < u32sub (s.dev.fetchIdx g) (s.dev.head g) → (s.dev.queue g).chain = none →
        (s.dev.queue g).held = [] → s.dev.jobAt g q.data.toNat = some j → j.noCancel = false → j.st = .staging ∨ j.st = .ready ∨ j.st = .posted →
        CanFinish s j → Completes (.cancel g q) s fun t => JobIs t j.id .completed 0x02 ∧ KeepsHarts s t))

/-- SERVICE_TURN 4 ns after the last began, for the queue that the rotation names, with entries to read and nothing at hand: a turn of
BURST entries is in progress, the ring read of the fetch index is sent and TURNS goes up. ENTRY_FETCHED with data in a queue without
RUNAHEAD or pending cancels, the entry the last before the sampled TAIL: FETCH_IDX moves on; a FIRST and LAST entry is a job of the
tracker; a FIRST entry that is not LAST opens a chain, the turn ends and the queue holds for it. A failed read is repeated once; failing
again it sets FETCH_ERR and ends the turn. RUNAHEAD_READ inside the look-ahead keeps the copy. A chain open for OPEN_CHAIN_TIMEOUT becomes
a job that completes with status CHAIN_TIMEOUT, or BAD_DESCRIPTOR where it had failed. -/
def Obligations.TurnsFetchEntriesAndMakeJobs : Prop :=
  (∀ (s : State) (k n g : Nat) (b : Bool) (d2 : Device),
      let d := s.dev.at k
      let d1 := if b then { d with qen := { d.qen with tenant := n, tcr := d.tenWeight n, visiting := true } } else d
      (∀ x, d.qen.lastTick = some x → x + 4 ≤ d.now.tick) → d.nextTenant d.eligibleQueues = some (n, b) →
      d1.nextQueue d.eligibleQueues n = some (g, d2) → HandsOver d2 g → (d2.queue g).supplied = [] → (d2.queue g).prov = [] → d2.qStat g 3 = false →
      d2.fetchIdx g ≠ (d2.queue g).tail → d2.rf (R.qst_SERVICE g) 8 7 ≠ 0 → Completes (.serviceTurn k) s fun t =>
        (t.dev.queue g).turn = some ⟨(d2.queue g).tail, d2.rf (R.qst_SERVICE g) 8 7, true, false, false⟩ ∧
        t.dev.out = .hostRead (vfOf g) (d2.ringAddr g (d2.fetchIdx g)) 64 :: s.dev.out ∧
        t.dev.rn64 R.qen_TURNS_LO = min (2 ^ 64 - 1) (s.dev.rn64 R.qen_TURNS_LO + 1) ∧
        KeepsRegs s t [R.qen_TURNS_LO, R.qen_TURNS_LO + 4, R.hif_ATS_REQUESTS] ∧ KeepsHarts s t) ∧
    (∀ (s : State) (g : Fin 65536) (k : Nat) (tn : Turn) (e : Desc), (s.dev.queue g).turn = some tn → tn.reading = true → s.dev.mayRequest (vfOf g) = true →
      s.dev.qRunahead g = false → (s.dev.queue g).cancels = [] → (s.dev.queue g).chain = none → HandsOver s.dev g →
      tn.sample = (s.dev.fetchIdx g + 1) % 2 ^ 32 → e.first = true →
      (e.last = true → Completes (.entryFetched g (.data e) k) s fun t => t.dev.fetchIdx g = (s.dev.fetchIdx g + 1) % 2 ^ 32 ∧ (t.dev.queue g).turn = none ∧
        (∃ j ∈ t.dev.jobs, j.q = g.val ∧ j.index = s.dev.fetchIdx g ∧ j.entries = 1 ∧ j.head = e) ∧ KeepsHarts s t) ∧
      (e.last = false → Completes (.entryFetched g (.data e) k) s fun t => t.dev.fetchIdx g = (s.dev.fetchIdx g + 1) % 2 ^ 32 ∧ (t.dev.queue g).turn = none ∧
        (t.dev.queue g).chain = some ⟨s.dev.fetchIdx g, [e], (entryCheck e false).isSome, false, some (s.dev.at k).now.tick⟩ ∧
        t.dev.rf (R.qst_QSTATUS g) 2 1 = 1 ∧ t.dev.jobs = s.dev.jobs ∧ KeepsHarts s t)) ∧
    (∀ (s : State) (g : Fin 65536) (k : Nat) (tn : Turn) (c : Fin 4), (s.dev.queue g).turn = some tn → tn.reading = true → s.dev.mayRequest (vfOf g) = true →
      (tn.repeated = false → Completes (.entryFetched g (.fail c) k) s fun t => (t.dev.queue g).turn = some { tn with repeated := true } ∧
        t.dev.out = .hostRead (vfOf g) (s.dev.ringAddr g (s.dev.fetchIdx g)) 64 :: s.dev.out ∧ KeepsHarts s t) ∧
      (tn.repeated = true → Completes (.entryFetched g (.fail c) k) s fun t => (t.dev.queue g).turn = none ∧ t.dev.qStat g 3 = true ∧
        (t.dev.queue g).chain = none ∧ t.dev.jobs = s.dev.jobs ∧ KeepsHarts s t)) ∧
    (∀ (s : State) (g : Fin 65536) (i : Word) (e : Desc) (k : Nat), s.dev.qEnabled g = true → s.dev.qRunahead g = true → s.dev.qStat g 3 = false →
      u32sub i.toNat (s.dev.queue g).sample < 8 → u32sub i.toNat (s.dev.head g) < 2 ^ s.dev.qN g →
      (∀ x ∈ (s.dev.queue g).supplied, x.1 ≠ i.toNat) → s.dev.mayRequest (vfOf g) = true → Completes (.runaheadRead g i (.data e) k) s fun t =>
        (∃ b, (t.dev.queue g).prov = ((s.dev.queue g).prov.filter fun c => !(c.index == i.toNat)) ++ [⟨i.toNat, e, b⟩]) ∧ t.dev.jobs = s.dev.jobs ∧
        KeepsHarts s t) ∧
    (∀ (s : State) (g : Fin 65536) (k a : Nat) (c : Chain), (s.dev.queue g).chain = some c → c.since = some a → c.entries ≠ [] →
      s.dev.rf (R.qst_TIMERS g) 0 16 ≠ 0 → a + 1000 * s.dev.rf (R.qst_TIMERS g) 0 16 ≤ (s.dev.queue g).lastTurn →
      (s.dev.queue g).turn = none → (s.dev.queue g).tail = s.dev.fetchIdx g → HandsOver s.dev g →
      (∀ j ∈ s.dev.jobs, j.id < s.dev.nextJob) → Completes (.openChainTimeout g k) s fun t => (t.dev.queue g).chain = none ∧
        JobIs t s.dev.nextJob .completed (if c.failed then 0x10 else 0x13) ∧ KeepsHarts s t)

/-- HOD_READ_DONE with the last bytes of a staging job whose buffers hold them: the job is ready with the whole input, JOBS_STAGED goes
up. READ_FAILURE completes a staging job WINDOW_FAULT and is counted. BUFFER_CLAIM at ingress with one pipeline asking grants its job one
buffer of the first tier that has one. HEAD_PUBLISH with the job at HEAD done and the next not in the tracker: HEAD goes past its entries,
the job leaves the tracker, COMPLETED goes up. COALESCE_TIMEOUT after COAL_US, messages enabled: exactly one message of the queue's
vector, and the count of jobs is 0. -/
def Obligations.JobsStageAndHeadsPublish : Prop :=
  (∀ (s : State) (g : Fin 65536) (i : Word) (k : Nat) (l : List Byte) (j : Job), s.dev.jobAt g i.toNat = some j → s.dev.job j.id = some j → j.st = .staging →
      s.dev.mayRequest (vfOf g) = true → j.input.length + l.length = j.inLen → j.inLen ≤ 4096 * j.ing.total → Completes (.hodReadDone g i l k) s fun t =>
        ((t.dev.job j.id).map fun x => (x.st, x.input)) = some (.ready, j.input ++ l) ∧
        t.dev.reg (R.hod_JOBS_STAGED (j.pipe % 16)) = satAdd (s.dev.reg (R.hod_JOBS_STAGED (j.pipe % 16))) 1 ∧
        t.dev.rn64 (R.hod_BYTES_IN_LO (j.pipe % 16)) = min (2 ^ 64 - 1) (s.dev.rn64 (R.hod_BYTES_IN_LO (j.pipe % 16)) + l.length) ∧
        KeepsRegs s t [R.hod_JOBS_STAGED (j.pipe % 16), R.hod_BYTES_IN_LO (j.pipe % 16), R.hod_BYTES_IN_LO (j.pipe % 16) + 4] ∧ KeepsHarts s t) ∧
    (∀ (s : State) (g : Fin 65536) (i : Word) (c : Fin 4) (a k : Nat) (j : Job), s.dev.jobAt g i.toNat = some j → j.st = .staging → CanFinish s j →
      Completes (.readFailure g i c a k) s fun t => JobIs t j.id .completed 0x11 ∧
        t.dev.reg R.hif_CPL_FAIL_COUNT = satAdd (s.dev.reg R.hif_CPL_FAIL_COUNT) 1 ∧
        t.dev.reg (R.hod_READ_FAILS (j.pipe % 16)) = satAdd (s.dev.reg (R.hod_READ_FAILS (j.pipe % 16))) 1 ∧ KeepsHarts s t) ∧
    (∀ (s : State) (cyc p : Nat) (j : Job) (b : Bufs), s.dev.arrayRuns = true → ((List.range 64).filter fun p => (s.dev.claimant true p).isSome) = [p] →
      s.dev.claimant true p = some j → s.dev.claimOne true j = some b → Completes (.bufferClaim true cyc) s fun t =>
        ((t.dev.job j.id).map (·.ing)) = some b ∧ b.total = j.ing.total + 1 ∧ t.dev.regs = s.dev.regs ∧ KeepsHarts s t) ∧
    (∀ (s : State) (g : Fin 65536) (k : Nat) (j : Job), s.dev.jobAt g (s.dev.head g) = some j → j.isDone = true → (j.index + j.entries) % 2 ^ 32 ≠ s.dev.head g →
      (s.dev.dropJob j.id).jobAt g ((j.index + j.entries) % 2 ^ 32) = none → Completes (.headPublish g k) s fun t =>
        t.dev.head g = (j.index + j.entries) % 2 ^ 32 ∧ t.dev.jobs = s.dev.jobs.filter (fun x => !(x.id == j.id)) ∧
        t.dev.reg (R.qst_COMPLETED g) = satAdd (s.dev.reg (R.qst_COMPLETED g)) 1 ∧
        KeepsRegs s t [R.qst_HEAD g, R.qst_COMPLETED g, R.qst_QSTATUS g, R.hif_BME_DROPPED, R.hif_MSIX_DROPPED] ∧ KeepsHarts s t) ∧
    (∀ (s : State) (g : Fin 65536) (k : Nat), s.dev.rf (R.qst_QCTL g) 3 1 = 1 → s.dev.rf (R.qst_COALESCE g) 16 16 ≠ 0 → (s.dev.queue g).coalCount ≠ 0 →
      (s.dev.queue g).coalTick + 1000 * s.dev.rf (R.qst_COALESCE g) 16 16 ≤ (s.dev.at k).now.tick → (s.dev.fn (vfOf g)).msixEn = true →
      s.dev.mayRequest (vfOf g) = true → (s.dev.fn (vfOf g)).fmask = false → (s.dev.vec (vfOf g) (g % 64)).mask = false →
      Completes (.coalesceTimeout g k) s fun t => (t.dev.queue g).coalCount = 0 ∧ t.dev.out = .msix (vfOf g) (g % 64) :: s.dev.out ∧
        t.dev.regs = s.dev.regs ∧ KeepsHarts s t)

/-- A performed QUEUE_CMD RESET of a disabled queue with none in progress: the queue holds nothing, HEAD and FETCH_IDX are its TAIL, no
job of it is left but those that await their frame, and RESETTING reads 1; of an enabled queue it is refused and counted. Its end clears
RESETTING. QUEUE_WDOG of a busy enabled queue whose HEAD has stood for WDOG ms sets STALLED. A performed SKL_CMD LOAD whose source maps,
skim not 0, length not 0, loader free, starts a LIBRARY load for the tenant and SKL_STATUS is LOADING; unmapped it is REFUSED with RANGE.
REMOVE of the tenant's own unused skim empties its entry, of another's is REFUSED. -/
def Obligations.QueueResetsWatchdogAndTenantSkims : Prop :=
  (∀ (s : State) (q : Req) (g : Nat), Writes s q R.qen_QUEUE_CMD = true → fld q.data 16 2 = 1 → fld q.data 0 16 = g →
      (s.dev.qEnabled g = false → (s.dev.queue g).resetTick = none → Completes (.queueReset q) s fun t =>
        t.dev.qStat g 6 = true ∧ (t.dev.queue g).resetTick = some (s.dev.at q.t).now.tick ∧ (t.dev.queue g).chain = none ∧ (t.dev.queue g).held = [] ∧
        (t.dev.queue g).push = [] ∧ t.dev.reg (R.qst_HEAD g) = wd (s.dev.queue g).tail ∧ t.dev.reg (R.qst_FETCH_IDX g) = wd (s.dev.queue g).tail ∧
        t.dev.rn R.qen_RESET_OLD_HEAD = s.dev.head g ∧ (∀ j ∈ t.dev.jobs, j.q = g → j.orphan = true) ∧ KeepsHarts s t) ∧
      (s.dev.qEnabled g = true → Completes (.queueReset q) s fun t => t.dev.queues = s.dev.queues ∧ t.dev.jobs = s.dev.jobs ∧
        t.dev.rf R.qen_QUEUE_CMD_STATUS 1 1 = 1 ∧ t.dev.reg (0x101000 + 0x34) = satAdd (s.dev.reg (0x101000 + 0x34)) 1 ∧ KeepsHarts s t)) ∧
    (∀ (s : State) (g : Fin 65536) (k : Nat), (s.dev.queue g).resetTick ≠ none → Completes (.queueResetDone g k) s fun t =>
      (t.dev.queue g).resetTick = none ∧ t.dev.qStat g 6 = false ∧ t.dev.jobs = s.dev.jobs ∧ KeepsHarts s t) ∧
    (∀ (s : State) (g : Fin 65536) (k : Nat), s.dev.qEnabled g = true → s.dev.qWeight g ≠ 0 → s.dev.rf (R.qst_TIMERS g) 16 16 ≠ 0 → s.dev.qStat g 5 = false →
      (s.dev.queue g).tail ≠ s.dev.head g → (s.dev.queue g).wdogTick + 1000000 * s.dev.rf (R.qst_TIMERS g) 16 16 ≤ (s.dev.at k).now.tick →
      Completes (.queueWdog g k) s fun t => t.dev.qStat g 5 = true ∧ t.dev.jobs = s.dev.jobs ∧ t.dev.queues = s.dev.queues ∧ KeepsHarts s t) ∧
    (∀ (s : State) (n : Fin 1024) (q : Req), Writes s q (R.ten_SKL_CMD n) = true → fld q.data 31 1 = 1 → ∀ x, fld q.data 16 14 = x →
      let m := (s.dev.at q.t).winMap n ((s.dev.at q.t).rn64 (R.ten_SKL_SRC_LO n)) (s.dev.rn (R.ten_SKL_LEN n)) 1
      (fld q.data 0 2 = 1 → m = none → Completes (.sklLoad n q) s fun t => t.dev.rn (R.ten_SKL_STATUS n) = 3 + 16 * 1 ∧ t.dev.loader = s.dev.loader ∧
        KeepsRegs s t [R.ten_SKL_STATUS n] ∧ KeepsHarts s t) ∧
      (∀ a, fld q.data 0 2 = 1 → m = some a → s.dev.rn (R.ten_SKL_LEN n) ≠ 0 → x ≠ 0 → s.dev.loadFree = true → Completes (.sklLoad n q) s fun t =>
        t.dev.loadSt = 1 ∧ t.dev.rn (R.ten_SKL_STATUS n) = 1 ∧ t.dev.loader = ⟨2, 0, x, 2 + n.val, true, a, some (s.dev.rn (R.ten_SKL_LEN n)), some n.val, true, [], [], 0⟩ ∧
        KeepsRegs s t [R.skm_LOAD_STATUS, R.skm_LOAD_FAIL, R.ten_SKL_STATUS n] ∧ KeepsHarts s t) ∧
      (fld q.data 0 2 = 2 → (s.dev.libAt x).owner ≠ some n.val → Completes (.sklRemove n q) s fun t => t.dev.rn (R.ten_SKL_STATUS n) = 3 + 16 * 2 ∧
        t.dev.lib = s.dev.lib ∧ KeepsRegs s t [R.ten_SKL_STATUS n] ∧ KeepsHarts s t) ∧
      (fld q.data 0 2 = 2 → (s.dev.libAt x).st = 2 → (s.dev.libAt x).owner = some n.val → s.dev.skimUsed x = false → Completes (.sklRemove n q) s fun t =>
        t.dev.rn (R.ten_SKL_STATUS n) = 2 ∧ t.dev.libAt x = lib0 0 ∧ (∀ y, y ≠ x → t.dev.libAt y = s.dev.libAt y) ∧
        KeepsRegs s t [R.ten_SKL_STATUS n] ∧ KeepsHarts s t))

/-- For each of the 19 arithmetic instructions (ADD, SUB, AND, OR, XOR, SLL, SRL, SRA, SLT, SLTU, MUL, ADDI, ANDI, ORI, XORI, SLLI, SRLI,
SRAI, LUI): when a hart issues it, the hart after it holds in w[RD] the value that Table 16.5 gives, computed from the registers before
it, its pc is past the instruction and it is busy for the table's cycles; everything else of the hart, the other harts, the scratchpad and
every register but SP_CE_COUNT stand as at that cycle. With RD = 0 no working register changes, and w0 reads 0. For each conditional
branch and JMP: not taken, the hart goes on past it; taken with a target at or before the ENDLOOP of the innermost loop open in the
current frame, its pc is pc + 4 + 4 x OFF (or TGT) modulo 2^32 and nothing else changes; taken beyond it, the hart faults LOOP_MATCH. -/
def Obligations.HartArithmeticAndBranches : Prop :=
  (∀ x ∈ regOps, ∀ (s : State) (h : Fin 4) (c : Nat) (i : HWord), Issuing s h c i → i.op = x.opc → Completes (x.cmd h c) s fun t =>
      HartBecomes s h c ((((s.atHart c).hart h).issued c i).setR i.rd (x.val ((s.atHart c).hart h) i)) t ∧
      (i.rd = 0 → (t.hart h).w = ((s.atHart c).hart h).w)) ∧
    (∀ (x : Hart) (k : Nat) (v : Word), x.r 0 = 0 ∧ (k ≠ 0 → (x.setR k v).r k = v) ∧ ∀ j, j ≠ k → (x.setR k v).r j = x.r j) ∧
    (∀ x ∈ branchOps, ∀ (s : State) (h : Fin 4) (c : Nat) (i : HWord), Issuing s h c i → i.op = x.2.1 →
      let y := (s.atHart c).hart h
      let a := (y.pc + 4) % 2 ^ 32 + 4 * i.imm
      (x.2.2 (y.r i.rd) (y.r i.rs) = false → Completes (x.1 h c) s (HartBecomes s h c (y.issued c i))) ∧
      (x.2.2 (y.r i.rd) (y.r i.rs) = true → y.beyond a = false →
        Completes (x.1 h c) s (HartBecomes s h c { y.issued c i with pc := a % 2 ^ 32 })) ∧
      (x.2.2 (y.r i.rd) (y.r i.rs) = true → y.beyond a = true → Completes (x.1 h c) s (HartFaults s h c 0x102))) ∧
    (∀ (s : State) (h : Fin 4) (c : Nat) (i : HWord), Issuing s h c i → i.op = 0x2E →
      let y := (s.atHart c).hart h
      let a := (y.pc + 4) % 2 ^ 32 + 4 * i.tgt
      (y.beyond a = false → Completes (.hartJmp h c) s (HartBecomes s h c { y.issued c i with pc := a % 2 ^ 32 })) ∧
      (y.beyond a = true → Completes (.hartJmp h c) s (HartFaults s h c 0x102)))

/-- For an instruction that a hart issues, no scratchpad word upset. LW of an aligned scratchpad address takes the word, or the youngest
of its own buffered stores to that word; LBU takes the byte. SW and SB to an allowed address enter the store buffer, due four cycles on,
with memory as it was; a store below CODE_LIMIT faults CODE_WRITE. SWO does the same in the ordered window alone. AMOSWAP and CAS enter
the buffer. When the one access due is performed, a store has written its bytes and no other, AMOSWAP has exchanged w[RD] and memory, and
CAS has written only where memory held what it compares, with the old word in w[RD]. FENCE changes nothing but the pc. -/
def Obligations.LoadsStoresAndAtomicsReachTheScratchpad : Prop :=
  (∀ (s : State) (h : Fin 4) (c : Nat) (i : HWord), Issuing s h c i → s.dev.upsets = [] →
      let y := (s.atHart c).hart h
      let a := (y.r i.rs + sxImm i).toNat
      let b := (y.r i.rs).toNat
      (i.op = 0x18 → a % 4 = 0 → a < 0x80000 → (∀ p ∈ y.buf, p.op = .store → a + 4 ≤ p.addr ∨ p.addr + p.size ≤ a) → Completes (.hartLw h c) s
        (HartBecomes s h c ((y.issued c i).setR i.rd (BitVec.ofNat 32 (Memory.rd (s.atHart c).harts.sp a 4))))) ∧
      (∀ l e v, i.op = 0x18 → a % 4 = 0 → a < 0x80000 → y.buf = l ++ [⟨e, a, 4, v, .store⟩] → Completes (.hartLw h c) s
        (HartBecomes s h c ((y.issued c i).setR i.rd v))) ∧
      (i.op = 0x19 → a < 0x80000 → (∀ p ∈ y.buf, p.op = .store → a < p.addr ∨ p.addr + p.size ≤ a) → Completes (.hartLbu h c) s
        (HartBecomes s h c ((y.issued c i).setR i.rd ((Memory.rd8 (s.atHart c).harts.sp a).setWidth 32)))) ∧
      (∀ x ∈ [(0x1A, 4, Instr.hartSw h c), (0x1B, 1, .hartSb h c)], i.op = x.1 →
        (a % x.2.1 = 0 → s.codeLimit ≤ a → a < 0x7F000 → Completes x.2.2 s
          (HartBecomes s h c { y.issued c i with buf := y.buf ++ [⟨c + 4, a, x.2.1, y.r i.rd, .store⟩] })) ∧
        (a % x.2.1 = 0 → a < (s.atHart c).codeLimit → a < 0x7F000 → Completes x.2.2 s fun t => HartFaults s h c 0x107 t ∧
          t.dev.rn (R.sup_HART_FADDR h) = a)) ∧
      (i.op = 0x1C → a % 4 = 0 → 0x7F000 ≤ a → a < 0x80000 → Completes (.hartSwo h c) s
        (HartBecomes s h c { y.issued c i with buf := y.buf ++ [⟨c + 4, a, 4, y.r i.rd, .store⟩] })) ∧
      (i.op = 0x1C → a < 0x7F000 → Completes (.hartSwo h c) s (HartFaults s h c 0x106)) ∧
      (∀ x ∈ [(0x1D, AccOp.swap i.rd, Instr.hartAmoswap h c), (0x1E, .cas i.rd (y.r i.rd), .hartCas h c)], i.op = x.1 → b % 4 = 0 →
        (s.atHart c).codeLimit ≤ b → b < 0x80000 → Completes x.2.2 s
          (HartBecomes s h c { y.issued c i with buf := y.buf ++ [⟨c + 4, b, 4, y.r i.rt, x.2.1⟩] })) ∧
      (i.op = 0x1F → Completes (.hartFence h c) s (HartBecomes s h c (y.issued c i)))) ∧
    (∀ (s : State) (h : Fin 4) (c : Nat) (p : PAcc), s.dev.upsets = [] → (s.hart h).buf = [p] → (∀ k < 4, k ≠ h.val → (s.hart k).buf = []) → p.due ≤ c →
      (p.inst && s.expired h p.due) = false → Completes (.storePerformed c) s fun t => (t.hart h).buf = [] ∧ t.pending = s.pending ∧
        (p.op = .store → (t.hart h).w = (s.hart h).w ∧ ∀ b, Memory.rd8 t.harts.sp b = if p.addr ≤ b ∧ b < p.addr + p.size
          then BitVec.ofNat 8 (p.data.toNat / 256 ^ (b - p.addr)) else Memory.rd8 s.harts.sp b) ∧
        (∀ rd, p.op = .swap rd → p.addr % 4 = 0 → Memory.rd t.harts.sp p.addr 4 = p.data.toNat ∧
          (rd ≠ 0 → (t.hart h).r rd = BitVec.ofNat 32 (Memory.rd s.harts.sp p.addr 4))) ∧
        (∀ rd v, p.op = .cas rd v → p.addr % 4 = 0 →
          Memory.rd t.harts.sp p.addr 4 = (if Memory.rd s.harts.sp p.addr 4 = v.toNat then p.data.toNat else Memory.rd s.harts.sp p.addr 4) ∧
          (rd ≠ 0 → (t.hart h).r rd = BitVec.ofNat 32 (Memory.rd s.harts.sp p.addr 4))))

/-- For LOOP issued with n = w[RS] and e = pc + 4 x END: END 0 faults ILLEGAL; n above 65,535 faults LOOP_RANGE; a word at e that is not
ENDLOOP faults LOOP_MATCH, as does an e beyond the end of the innermost loop of the frame; n = 0 goes to e + 4; a fifth loop faults
LOOP_DEPTH; else the loop is open with its body at pc + 4, its end e and n left, and the hart goes on. For ENDLOOP: with no loop open in
the frame or another end it faults LOOP_MATCH; with more than one left it counts one and goes back to the body; else the loop closes and
the hart goes on. -/
def Obligations.LoopsCountFromARegister : Prop :=
  ∀ (s : State) (h : Fin 4) (c : Nat) (i : HWord), Issuing s h c i →
    let y := (s.atHart c).hart h
    let n := (y.r i.rs).toNat
    let e := (y.pc + 4 * i.imm) % 2 ^ 32
    let opc := fun (o : Nat) => ∃ w s2, (s.atHart c).fetch e = (.ok w, s2) ∧ fld w 26 6 = o
    (i.op = 0x30 →
      (i.imm = 0 → Completes (.hartLoop h c) s (HartFaults s h c 0x100)) ∧
      (i.imm ≠ 0 → 65535 < n → Completes (.hartLoop h c) s (HartFaults s h c 0x104)) ∧
      (∀ o, i.imm ≠ 0 → n ≤ 65535 → opc o → (s.atHart c).dev.upsets = [] →
        (o ≠ 0x31 → Completes (.hartLoop h c) s (HartFaults s h c 0x102)) ∧
        (o = 0x31 → y.beyond e = true → Completes (.hartLoop h c) s (HartFaults s h c 0x102)) ∧
        (o = 0x31 → y.beyond e = false → n = 0 →
          Completes (.hartLoop h c) s (HartBecomes s h c { y.issued c i with pc := (e + 4) % 2 ^ 32 })) ∧
        (o = 0x31 → y.beyond e = false → n ≠ 0 → y.loops.length = 4 → Completes (.hartLoop h c) s (HartFaults s h c 0x103)) ∧
        (o = 0x31 → y.beyond e = false → n ≠ 0 → y.loops.length ≠ 4 → Completes (.hartLoop h c) s
          (HartBecomes s h c { y.issued c i with loops := ⟨(y.pc + 4) % 2 ^ 32, e, n⟩ :: y.loops })))) ∧
    (i.op = 0x31 →
      ((y.loops.length = y.fb ∨ ∀ l ∈ y.loops.head?, l.fin ≠ y.pc) → Completes (.hartEndloop h c) s (HartFaults s h c 0x102)) ∧
      (∀ l r, y.loops = l :: r → y.loops.length ≠ y.fb → l.fin = y.pc →
        (1 < l.left → Completes (.hartEndloop h c) s
          (HartBecomes s h c { y.issued c i with pc := l.start, loops := { l with left := l.left - 1 } :: r })) ∧
        (l.left = 1 → Completes (.hartEndloop h c) s (HartBecomes s h c { y.issued c i with loops := r }))))

/-- For CALL: with eight entries on the stack it faults STACK; with a target TGT x 4 at or above CODE_LIMIT it faults BUS; else the stack
gains pc + 4 with the present loop depth, which is the base depth of the new frame, and the pc is the target. For RET: with an empty stack
it faults STACK; with a loop depth other than the frame's base it faults LOOP_MATCH; else the stack loses its last entry, whose address is
the pc, and the base depth is that of the entry before, or 0. -/
def Obligations.CallsStackReturnAddresses : Prop :=
  ∀ (s : State) (h : Fin 4) (c : Nat) (i : HWord), Issuing s h c i →
    let y := (s.atHart c).hart h
    (i.op = 0x32 →
      (y.calls.length = 8 → Completes (.hartCall h c) s (HartFaults s h c 0x105)) ∧
      (y.calls.length ≠ 8 → (s.atHart c).codeLimit ≤ 4 * i.tgt → Completes (.hartCall h c) s (HartFaults s h c 0x106)) ∧
      (y.calls.length ≠ 8 → 4 * i.tgt < (s.atHart c).codeLimit → Completes (.hartCall h c) s fun t =>
        HartBecomes s h c { y.issued c i with pc := 4 * i.tgt, calls := ((y.pc + 4) % 2 ^ 32, y.loops.length) :: y.calls } t ∧
        (t.hart h).fb = y.loops.length)) ∧
    (i.op = 0x33 →
      (y.calls = [] → Completes (.hartRet h c) s (HartFaults s h c 0x105)) ∧
      (y.calls ≠ [] → y.loops.length ≠ y.fb → Completes (.hartRet h c) s (HartFaults s h c 0x102)) ∧
      (∀ a n r, y.calls = (a, n) :: r → y.loops.length = y.fb → Completes (.hartRet h c) s fun t =>
        HartBecomes s h c { y.issued c i with pc := a, calls := r } t ∧ (t.hart h).fb = (r.head?.map Prod.snd).getD 0))

/-- For DISPATCH with N = IMM and k = w[RS]: N = 0 faults ILLEGAL; otherwise the target is pc + 4 + 4 x N, and 4 x table[k] more where k <
N, table[k] the word k of the table after the instruction; a target beyond the innermost loop of the frame faults LOOP_MATCH, and any
other is the pc. -/
def Obligations.DispatchIndexesATable : Prop :=
  ∀ (s : State) (h : Fin 4) (c : Nat) (i : HWord), Issuing s h c i → i.op = 0x34 →
    let y := (s.atHart c).hart h
    let k := (y.r i.rs).toNat
    let after := (y.pc + 4) % 2 ^ 32 + 4 * i.imm
    let goes := fun (a : Nat) => (y.beyond a = false → Completes (.hartDispatch h c) s (HartBecomes s h c { y.issued c i with pc := a % 2 ^ 32 })) ∧
      (y.beyond a = true → Completes (.hartDispatch h c) s (HartFaults s h c 0x102))
    (i.imm = 0 → Completes (.hartDispatch h c) s (HartFaults s h c 0x100)) ∧ (i.imm ≠ 0 → i.imm ≤ k → goes after) ∧
    (∀ w s2, i.imm ≠ 0 → k < i.imm → (s.atHart c).dev.upsets = [] → (s.atHart c).fetch ((y.pc + 4) % 2 ^ 32 + 4 * k) = (.ok w, s2) →
      goes ((after + 4 * w.toNat) % 2 ^ 32))

/-- For an instruction that a hart issues. RDPOS writes the reported position, RDCYC the hart cycles (SEL 0) or TICK (SEL 1), low and high
word, into the pair of an even RD from 2 to 14; an odd RD or 0 faults ILLEGAL. ARQ of a tile page or the host window, a multiple of 4,
takes the lowest free place of eight; with none free it faults ARQ_FULL, and of another address BUS. DONE within the budget makes the hart
IDLE with empty stacks and HS_MAXUSED at least the cycles used. A word that does not decode faults ILLEGAL. A running handler whose budget
has ended faults BUDGET, and what its instruction had not performed is not performed. -/
def Obligations.PositionReadsRequestsAndHandlerEnds : Prop :=
  (∀ (s : State) (h : Fin 4) (c k : Nat) (i : HWord),
      let s' := s.onDevice (·.at k)
      let y := (s'.atHart c).hart h
      Issuing s' h c i → ∀ x ∈ [(0x38, (s'.atHart c).dev.chP i.imm, Instr.hartRdpos h c k),
        (0x39, (if i.imm = 0 then (s'.atHart c).dev.now.hcyc else (s'.atHart c).dev.now.tick) % 2 ^ 64, .hartRdcyc h c k)], i.op = x.1 →
      (i.rd % 2 = 0 → i.rd ≠ 0 → Completes x.2.2 s (HartBecomes s' h c (((y.issued c i).setR i.rd (wd x.2.1)).setR (i.rd + 1) (wd (x.2.1 / 2 ^ 32))))) ∧
      (i.rd % 2 = 1 ∨ i.rd = 0 → Completes x.2.2 s (HartFaults s' h c 0x100))) ∧
    (∀ (s : State) (h : Fin 4) (c : Nat) (i : HWord), Issuing s h c i → i.op = 0x22 →
      let y := (s.atHart c).hart h
      let a := (y.r i.rs).toNat
      (arqAddr a = false → Completes (.hartArq h c) s (HartFaults s h c 0x106)) ∧
      (arqAddr a = true → (∀ p < 8, ∃ q ∈ y.arqs, q.place = p) → Completes (.hartArq h c) s (HartFaults s h c 0x10A)) ∧
      (∀ p, arqAddr a = true → p < 8 → (∀ q ∈ y.arqs, q.place ≠ p) → (∀ r < p, ∃ q ∈ y.arqs, q.place = r) → Completes (.hartArq h c) s
        (HartBecomes s h c { y.issued c i with
          arqs := y.arqs ++ [⟨p, a, i.imm / 2 ^ 13 % 2 == 1, y.r i.rt, i.imm % 64, y.nextArq, false⟩]
          nextArq := y.nextArq + 1 }))) ∧
    (∀ (s : State) (h : Fin 4) (c : Nat) (i : HWord), Issuing s h c i → i.op = 0x3A →
      let y := (s.atHart c).hart h
      y.slot < 64 → c + 2 ≤ y.first.getD c + (s.atHart c).budget h → Completes (.hartDone h c) s fun t =>
        t.hart h = { y.issued c i with st := .idle, first := none, loops := [], calls := [] } ∧
        t.dev.rn (R.sup_HS_MAXUSED y.slot) = max ((s.atHart c).dev.rn (R.sup_HS_MAXUSED y.slot)) (c + 2 - y.first.getD c) ∧
        (∀ k, k ≠ h.val → t.hart k = (s.atHart c).hart k) ∧ t.harts.sp = (s.atHart c).harts.sp ∧
        KeepsRegs (s.atHart c) t [R.sup_SP_CE_COUNT, R.sup_HS_MAXUSED y.slot]) ∧
    (∀ (s : State) (h : Fin 4) (c : Nat) (w : Word) (s1 : State), ((s.atHart c).hart h).st = .running → ((s.atHart c).hart h).free ≤ c →
      (s.atHart c).expired h c = false → (s.atHart c).fetch ((s.atHart c).hart h).pc = (.ok w, s1) → hartDecode w = none →
      Completes (.illegalInstruction h c) s (HartFaults s h c 0x100)) ∧
    (∀ (s : State) (h : Fin 4) (c : Nat), (s.atHart c).expired h c = true → Completes (.handlerBudget h c) s fun t => (t.hart h).st = .faulted ∧
      (t.hart h).buf = (((s.atHart c).hart h).buf.filter fun a => !a.inst) ∧ t.dev.rn (R.sup_HART_FCODE h) = 2 ^ 31 + 0x101 ∧
      t.harts.sp = (s.atHart c).harts.sp ∧ t.pending = s.pending)

/-- LDD and STD of an address that is no multiple of 4 or outside the pages fault BUS, of a TRW page DEV_ASYNC; otherwise LDD is a
SUPERVISOR read of the page and w[RD] takes its value where the budget covers its 64 cycles, and STD a SUPERVISOR write of w[RD].
ARQ_COMPLETE performs the oldest request not complete: a page access as SUPERVISOR, ERR and all ones where it is lost; in the host window,
ERR and all ones while HOSTWIN_EN is 0, else a host write of the four bytes, or a host read whose data is the value, ERR and all ones
where it fails. Its event is posted. -/
def Obligations.PagesAndHostMemoryAreReachedByHarts : Prop :=
  (∀ (s : State) (h : Fin 4) (c k : Nat) (i : HWord),
      let s' := s.onDevice (·.at k)
      let y := (s'.atHart c).hart h
      let a := (y.r i.rs + sxImm i).toNat
      let s1 := (s'.atHart c).setHart h (y.issued c i)
      Issuing s' h c i → s.dev.upsets = [] → ∀ x ∈ [(0x20, Instr.hartLdd h c k), (0x21, .hartStd h c k)], i.op = x.1 →
      (a % 4 ≠ 0 ∨ a < 0x10000000 ∨ 0x14000000 ≤ a → Completes x.2 s (HartFaults s' h c 0x106)) ∧
      (a % 4 = 0 → 0x11000000 ≤ a → a < 0x12000000 ∨ 0x12100000 ≤ a ∧ a < 0x13180000 → Completes x.2 s (HartFaults s' h c 0x109)) ∧
      (a % 4 = 0 → 0x10000000 ≤ a → a < 0x11000000 ∨ 0x12000000 ≤ a ∧ a < 0x12100000 ∨ 0x13180000 ≤ a ∧ a < 0x14000000 →
        (x.1 = 0x20 → (s1.busRead (.supervisor h) (a - 0x10000000)).2.expired h (c + 63) = false → Completes x.2 s fun t =>
          t.hart h = (y.issued c i).setR i.rd (s1.busRead (.supervisor h) (a - 0x10000000)).1 ∧
          t.dev = (s1.busRead (.supervisor h) (a - 0x10000000)).2.dev ∧ t.harts.sp = (s'.atHart c).harts.sp ∧
          ∀ j, j ≠ h.val → t.hart j = (s'.atHart c).hart j) ∧
        (x.1 = 0x21 → Completes x.2 s (· = s1.busWrite (.supervisor h) (a - 0x10000000) 15 4 (y.r i.rd))))) ∧
    (∀ (s : State) (h : Fin 4) (r : ReadEnd (BitVec 32)) (k : Nat) (q : Arq), (s.hart h).arqs.find? (fun x => !x.done) = some q →
      let s' := s.onDevice (·.at k)
      let b := (s'.busRead (.supervisor h) (q.addr - 0x10000000)).1
      let on := s.dev.rf R.sup_HOSTWIN_EN 0 1
      let p := (s.dev.rn64 R.sup_HOSTWIN_BASE_LO + (q.addr - 0x20000000)) % 2 ^ 64
      (q.addr < 0x20000000 → q.write = false → s'.dev.ending (.supervisor h) (q.addr - 0x10000000) false ≠ 3 →
        Completes (.arqComplete h r k) s (ArqEnds s h k q false b)) ∧
      (q.addr < 0x20000000 → s'.dev.ending (.supervisor h) (q.addr - 0x10000000) q.write = 3 →
        Completes (.arqComplete h r k) s (ArqEnds s h k q true 0xFFFFFFFF#32)) ∧
      (0x20000000 ≤ q.addr → on = 0 → Completes (.arqComplete h r k) s fun t => ArqEnds s h k q true 0xFFFFFFFF#32 t ∧ RegsOnly s' { t with
        dev := { t.dev with arriving := s.dev.arriving }, harts := s.harts }) ∧
      (0x20000000 ≤ q.addr → on = 1 → q.write = true → s.dev.mayRequest 0 = true → Completes (.arqComplete h r k) s fun t =>
        ArqEnds s h k q false 0 t ∧ t.dev.out = .hostWrite 0 p ((List.range 4).map fun j => BitVec.ofNat 8 (q.data.toNat / 256 ^ j)) :: s.dev.out) ∧
      (∀ w, 0x20000000 ≤ q.addr → on = 1 → q.write = false → s.dev.mayRequest 0 = true → r = .data w → Completes (.arqComplete h r k) s fun t =>
        ArqEnds s h k q false w t ∧ t.dev.out = .hostRead 0 p 4 :: s.dev.out) ∧
      (∀ w, 0x20000000 ≤ q.addr → on = 1 → q.write = false → r = .fail w →
        Completes (.arqComplete h r k) s (ArqEnds s h k q true 0xFFFFFFFF#32)))

/-- EVENT_POST: with fewer than 256 entries the post that enters first is appended as it was posted and no longer waits; with 256, the
first one not yet held is held and counted in EVQ_HELD_COUNT. EVENT_DISPATCH of the oldest entry, its slot enabled: the lowest hart that
the slot admits, IDLE and free, runs it from ENTRY with w1 the value, w2 the source word with the kind, w3 the tick, the other registers 0
and both stacks empty; where the slot is not concurrent, only while no hart runs a handler of it. An entry of a disabled slot, neither
FAULT nor INIT, is discarded and counted. RESTART by MGMT or a hart makes each named FAULTED hart IDLE with its registers 0 and its stacks
empty and leaves every other hart. -/
def Obligations.EventsAreQueuedAndStartHandlers : Prop :=
  (∀ (s : State) (k : Nat) (e : SupEvent), s.dev.sup.evq.length < 256 → EntersFirst s.dev.arriving e → e.held = false →
      Completes (.eventPost k) s fun t => t.dev.sup.evq = s.dev.sup.evq ++ [e] ∧ t.dev.arriving = s.dev.arriving.erase e ∧
        t.dev.rn R.sup_EVQ_USED = s.dev.sup.evq.length + 1 ∧ (e.kind ≠ 1 → KeepsRegs s t [R.sup_EVQ_USED, R.sup_EVQ_HIGH]) ∧
        (e.kind ≠ 2 → KeepsHarts s t) ∧
        (e.kind = 2 → (∀ a, a ∈ (t.hart (e.tag / 8)).arqs ↔ a ∈ (s.hart (e.tag / 8)).arqs ∧ a.place ≠ e.tag % 8) ∧ t.harts.sp = s.harts.sp)) ∧
    (∀ (s : State) (k : Nat) (e : SupEvent), 256 ≤ s.dev.sup.evq.length → EntersFirst (s.dev.arriving.filter fun x => !x.held) e →
      Completes (.eventPost k) s fun t => t.dev.sup.evq = s.dev.sup.evq ∧ { e with held := true } ∈ t.dev.arriving ∧
        t.dev.reg R.sup_EVQ_HELD_COUNT = satAdd (s.dev.reg R.sup_EVQ_HELD_COUNT) 1 ∧ t.dev.rf (0xA000 + 0x20) 17 1 = 1 ∧ KeepsHarts s t) ∧
    (∀ (s : State) (h : Fin 4) (c : Nat) (e : SupEvent) (r : List SupEvent), let s0 := s.atHart c
      s0.dev.sup.evq = e :: r → (∀ x ∈ e :: r, s0.dev.rf (R.sup_HS_CFG x.slot) 0 1 = 1) → CanTake s0 h e.slot c → (∀ j < h.val, ¬CanTake s0 j e.slot c) →
      (s0.dev.rf (R.sup_HS_CFG e.slot) 8 1 = 1 ∨ ∀ j < 4, (s0.hart j).st = .running → (s0.hart j).slot ≠ e.slot) → ¬(e.kind = 5 ∧ e.tag < 4) →
      Completes (.eventDispatch c) s fun t => let x := t.hart h
        x.st = .running ∧ x.slot = e.slot ∧ x.r 1 = e.value ∧ x.r 2 = e.src + wd e.kind ∧ x.r 3 = wd e.tick ∧ (∀ j, 3 < j → x.r j = 0) ∧
        x.pc = s0.dev.rn (R.sup_HS_ENTRY e.slot) % 2 ^ 19 / 4 * 4 ∧ x.loops = [] ∧ x.calls = [] ∧ x.buf = (s0.hart h).buf ∧
        x.arqs = (s0.hart h).arqs ∧ (∀ j, j ≠ h.val → t.hart j = s0.hart j) ∧ t.harts.sp = s0.harts.sp ∧ t.dev.sup.evq = r ∧
        t.dev.reg R.sup_EVQ_USED = wd r.length ∧ KeepsRegs s0 t [R.sup_EVQ_USED, R.sup_EVQ_HIGH]) ∧
    (∀ (s : State) (c : Nat) (e : SupEvent), let s0 := s.atHart c
      s0.dev.sup.evq = [e] → s0.dev.rf (R.sup_HS_CFG e.slot) 0 1 = 0 → e.kind ≠ 5 → e.kind ≠ 7 → Completes (.eventDispatch c) s fun t =>
        t.dev.sup.evq = [] ∧ t.dev.reg R.sup_EVQ_DISCARD = satAdd (s0.dev.reg R.sup_EVQ_DISCARD) 1 ∧ t.harts = s0.harts) ∧
    (∀ (s : State) (q : Req), Writes s q R.sup_HART_CMD = true → portCode q.port = 0 ∨ portCode q.port = 7 → Completes (.hartRestart q) s fun t =>
      t.harts.sp = s.harts.sp ∧ ∀ h < 4, ((fld q.data h 1 = 0 ∨ (s.hart h).st ≠ .faulted) → t.hart h = s.hart h) ∧
        (fld q.data h 1 = 1 → (s.hart h).st = .faulted → (t.hart h).st = .idle ∧ (∀ j, (t.hart h).r j = 0) ∧ (t.hart h).loops = [] ∧
          (t.hart h).calls = [] ∧ t.dev.rf (R.sup_HART_FCODE h) 31 1 = 0))

/-- A performed GO of SW_EVENT by a hart posts an event of kind 3 with its SW_VALUE to the slot written; by another port it posts none and
counts an error. HEARTBEAT by a hart is counted, returns SWD_STATE to 0 and restarts the supervisor watchdog. At the end of a period of
timer k: with no event of it waiting or queued, one of kind 6 and value 1 is posted; otherwise that one takes one period more and
TMR_MERGED counts; a PERIOD of 0 does nothing. RING with BUSY 0 sets BUSY and posts an event of kind 4; with BUSY 1 it is counted as an
error. MB_DONE clears BUSY, sets DONE and raises the mailbox's event. -/
def Obligations.SupervisorSourcesPostEvents : Prop :=
  (∀ (s : State) (q : Req), Writes s q R.sup_SW_EVENT = true → fld q.data 31 1 = 1 →
      (∀ h, q.port = .supervisor h → Completes (.swEvent q) s fun t =>
        ⟨3, fld q.data 0 6, wd (16 * h.val), Store.get zeroW s.dev.sup.swv h, (s.dev.at q.t).now.tick, false, h.val⟩ ∈ t.dev.arriving ∧
        KeepsRegs s t [] ∧ KeepsHarts s t) ∧
      (portCode q.port ≠ 7 → Completes (.swEvent q) s fun t => (∀ e ∈ t.dev.arriving, e.kind = 3 → e ∈ s.dev.arriving) ∧
        t.dev.reg (0xA000 + 0x34) = satAdd (s.dev.reg (0xA000 + 0x34)) 1 ∧ KeepsHarts s t)) ∧
    (∀ (s : State) (q : Req) (h : Fin 4), Writes s q R.sup_HEARTBEAT = true → q.port = .supervisor h → Completes (.heartbeat q) s fun t =>
      t.dev.reg R.sup_HB_COUNT = satAdd (s.dev.reg R.sup_HB_COUNT) 1 ∧ t.dev.rf R.flt_SWD_STATE 0 2 = 0 ∧ t.dev.sup.beat = some (s.dev.at q.t).now.tick ∧
      (∀ x, s.dev.sup.swd = some x → t.dev.sup.swd = some (s.dev.at q.t).now.tick) ∧ KeepsRegs s t [R.sup_HB_COUNT, R.flt_SWD_STATE] ∧ KeepsHarts s t) ∧
    (∀ (s : State) (n : Fin 4) (k : Nat), let p := s.dev.rf (R.sup_TMR_PERIOD n) 0 24
      let mine := fun (e : SupEvent) => e.kind = 6 ∧ e.tag = n.val
      (p = 0 → Completes (.timerPeriod n k) s fun t => t.dev.arriving = s.dev.arriving ∧ RegsOnly s t ∧ KeepsRegs s t []) ∧
      (p ≠ 0 → Store.get zeroN s.dev.sup.tmr n + 1000 * p ≤ (s.dev.at k).now.tick →
        ((∀ e ∈ s.dev.arriving ++ s.dev.sup.evq, ¬mine e) → Completes (.timerPeriod n k) s fun t =>
          ⟨6, s.dev.rf (R.sup_TMR_SLOT n) 0 6, wd (16 * n.val), 1, (s.dev.at k).now.tick, false, n.val⟩ ∈ t.dev.arriving ∧
          Store.get zeroN t.dev.sup.tmr n = Store.get zeroN s.dev.sup.tmr n + 1000 * p ∧ KeepsRegs s t [] ∧ KeepsHarts s t) ∧
        (∀ e, e ∈ s.dev.arriving ++ s.dev.sup.evq → mine e → Completes (.timerPeriod n k) s fun t =>
          { e with value := e.value + 1 } ∈ t.dev.arriving ++ t.dev.sup.evq ∧ t.dev.reg R.sup_TMR_MERGED = satAdd (s.dev.reg R.sup_TMR_MERGED) 1 ∧
          t.dev.arriving.length = s.dev.arriving.length ∧ t.dev.sup.evq.length = s.dev.sup.evq.length ∧
          KeepsRegs s t [R.sup_TMR_MERGED] ∧ KeepsHarts s t))) ∧
    (∀ (s : State) (m : Fin 3) (q : Req), Writes s q (R.sup_DOORBELL m) = true → fld q.data 0 1 = 1 →
      (s.dev.rf (R.sup_MB_STATUS m) 0 1 = 0 → Completes (.doorbell m q) s fun t => t.dev.rf (R.sup_MB_STATUS m) 0 1 = 1 ∧
        (∃ e ∈ t.dev.arriving, e.kind = 4 ∧ e.slot = s.dev.rf (R.sup_MB_SLOT m) 0 6 ∧ e.src = wd (16 * m.val)) ∧
        KeepsRegs s t [R.sup_MB_STATUS m] ∧ KeepsHarts s t) ∧
      (s.dev.rf (R.sup_MB_STATUS m) 0 1 = 1 → Completes (.doorbell m q) s fun t => t.dev.reg (R.sup_MB_STATUS m) = s.dev.reg (R.sup_MB_STATUS m) ∧
        t.dev.reg (0xB000 + 0x34) = satAdd (s.dev.reg (0xB000 + 0x34)) 1 ∧ (∀ e ∈ t.dev.arriving, e.kind = 4 → e ∈ s.dev.arriving) ∧ KeepsHarts s t)) ∧
    (∀ (s : State) (m : Fin 3) (q : Req), Writes s q (R.sup_MB_DONE m) = true → fld q.data 0 1 = 1 → Completes (.mbDone m q) s fun t =>
      t.dev.rf (R.sup_MB_STATUS m) 0 1 = 0 ∧ t.dev.rf (R.sup_MB_STATUS m) 1 1 = 1 ∧ t.dev.rf (0xB000 + 0x20) (16 + m) 1 = 1 ∧
      KeepsRegs s t [R.sup_MB_STATUS m, 0xB000 + 0x20, R.hif_MSIX_DROPPED] ∧ KeepsHarts s t)

/-- A performed VCORE_SET write of v mV from 550 to VMAX, above the floor of the committed set and of every pending POW set, sends it on
the AVSBus and is SETTLING; v out of that range changes nothing and is counted as an error. A read-back at least 10 us later within 10 mV
ends SETTLING, VCORE_NOW its value; a failed one is AVS_FAULT. A PMBus poll that answers with STATUS_WORD 0 and a power below 2^32 mW sets
PMB_P to it, rounded down; one not acknowledged is counted as an error. DOMAIN_READY of a ramp in progress makes that domain ready and no
other, slots 1 to 15 of a bay's pipeline INVALID. A cap window sets PKG_POWER and moves CAP_STEPS up, at most to 12, above the cap, and
down below 15/16 of it. A pausing commit in a window without one applies its set, holds the array clock for 40 periods of the outgoing
clock and debits 40 cycles to the frames in flight; the hold ends at the committed frequency. -/
def Obligations.VoltageDomainsAndStageClock : Prop :=
  (∀ (s : State) (q : Req), let v := fld q.data 0 10
      Writes s q R.pow_VCORE_SET = true →
      (550 ≤ v → v ≤ Config.vmax % 1024 → floorOk s.dev.reg v = true → (∀ c ∈ s.dev.pend, c.page = 0xC000 → floorOk c.get v = true) →
        Completes (.vcoreSetWrite q) s fun t => t.dev.rf R.pow_VCORE_SET 0 10 = v ∧ t.dev.rf R.pow_POW_STATUS 19 1 = 1 ∧ t.dev.rf R.pow_POW_STATUS 20 1 = 0 ∧
          t.dev.rf R.pow_POW_STATUS 0 19 = s.dev.rf R.pow_POW_STATUS 0 19 ∧ t.dev.out = .avs v :: s.dev.out ∧
          t.dev.pow.avs = some (s.dev.at q.t).now.tick ∧ KeepsRegs s t [R.pow_VCORE_SET, R.pow_POW_STATUS] ∧ KeepsHarts s t) ∧
      (v < 550 ∨ Config.vmax % 1024 < v → Completes (.vcoreSetWrite q) s fun t => t.dev.reg R.pow_VCORE_SET = s.dev.reg R.pow_VCORE_SET ∧
        t.dev.pow = s.dev.pow ∧ t.dev.reg (0xC000 + 0x34) = satAdd (s.dev.reg (0xC000 + 0x34)) 1 ∧ KeepsHarts s t)) ∧
    (∀ (s : State) (r : Option Nat) (k wr : Nat), s.dev.pow.avs = some wr → wr + 10000 ≤ (s.dev.at k).now.tick →
      (∀ v, r = some v → v < 1024 → v ≤ s.dev.vcore + 10 → s.dev.vcore ≤ v + 10 → Completes (.avsReadback r k) s fun t =>
        t.dev.rf R.pow_VCORE_NOW 0 10 = v ∧ t.dev.rf R.pow_POW_STATUS 19 1 = 0 ∧ KeepsRegs s t [R.pow_VCORE_NOW, R.pow_POW_STATUS] ∧ RegsOnly s t) ∧
      (r = none → Completes (.avsReadback r k) s fun t => t.dev.rf R.pow_POW_STATUS 19 1 = 0 ∧ t.dev.rf R.pow_POW_STATUS 20 1 = 1 ∧
        t.dev.pow.avs = none ∧ t.dev.rf (0xC000 + 0x20) 19 1 = 1 ∧ t.dev.reg (0xC000 + 0x34) = satAdd (s.dev.reg (0xC000 + 0x34)) 1 ∧ KeepsHarts s t)) ∧
    (∀ (s : State) (n : Fin 8) (r : Option PmbRead) (k : Nat), s.dev.rf (R.pow_PMB_DEV n) 8 1 = 1 → s.dev.boot.core = true →
      Store.get zeroN s.dev.pow.polls n ≠ (s.dev.at k).window + 1 →
      (r = none → Completes (.pmbusPoll n r k) s fun t => t.dev.reg (R.pow_PMB_P n) = s.dev.reg (R.pow_PMB_P n) ∧
        t.dev.reg (0xC000 + 0x34) = satAdd (s.dev.reg (0xC000 + 0x34)) 1 ∧ KeepsHarts s t) ∧
      (∀ (x : PmbRead) (p e f : Nat), r = some x → x.status = 0 → x.mode.toNat < 32 → p < 2 ^ 32 →
        (e : Int) - f = sext 5 x.mode.toNat + sext 5 (x.iout.toNat / 2 ^ 11) → e = 0 ∨ f = 0 →
        (p : Int) * 2 ^ f ≤ x.vout.toNat * sext 11 x.iout.toNat * 1000 * 2 ^ e → x.vout.toNat * sext 11 x.iout.toNat * 1000 * 2 ^ e < ((p : Int) + 1) * 2 ^ f →
        Completes (.pmbusPoll n r k) s fun t => t.dev.rn (R.pow_PMB_P n) = p ∧ t.dev.out = .pmbus n :: s.dev.out ∧
          KeepsRegs s t [R.pow_PMB_P n] ∧ KeepsHarts s t)) ∧
    (∀ (s : State) (n : Fin 128) (k : Nat), n.val ∈ s.dev.pow.ramps.take 4 → Completes (.domainReady n k) s fun t => t.dev.domainOn n = true ∧
      (∀ j < 128, j ≠ n.val → t.dev.domainOn j = s.dev.domainOn j) ∧ t.dev.pow.ramps = s.dev.pow.ramps.erase n ∧
      (∀ p < 64, n.val < 64 → s.dev.inRegion p (n / 8) (n % 8) = true → (∀ q < p, s.dev.inRegion q (n / 8) (n % 8) = false) →
        ∀ j, 1 ≤ j → j < 16 → t.dev.slotState p j = 0) ∧
      ((∀ j < 128, t.dev.domainSet j = t.dev.domainOn j) → t.dev.rf (0xD000 + 0x20) 16 1 = 1) ∧ KeepsHarts s t) ∧
    (∀ (s : State) (mean k : Nat), (s.dev.at k).window ≠ 0 → s.dev.pow.capWin ≠ some (s.dev.at k).window → s.dev.boot.core = true →
      Completes (.capWindow mean k) s fun t =>
        let p := s.dev.rf R.pow_VCORE_NOW 0 10 * mean / 16 + ((List.range 8).map fun j => s.dev.rn (R.pow_PMB_P j)).sum + s.dev.rf R.pow_FIXED_MW 0 16
        let cap := 1000 * s.dev.rf R.pow_PKG_CAP 0 8
        let c := s.dev.rf R.pow_POW_STATUS 14 4
        t.dev.rn R.pow_PKG_POWER = min (2 ^ 32 - 1) p ∧
        t.dev.rf R.pow_POW_STATUS 14 4 = (if cap < p then min 12 (c + 1) else if 16 * p < 15 * cap then c - 1 else c) ∧
        t.dev.pow.capWin = some (s.dev.at k).window ∧ (cap < p → c = 0 → t.dev.rf (0xC000 + 0x20) 18 1 = 1) ∧
        KeepsRegs s t [R.pow_AON_POWER, R.pow_PKG_POWER, R.pow_POW_STATUS, 0xC000 + 0x20, R.hif_MSIX_DROPPED] ∧ KeepsHarts s t) ∧
    (∀ (s : State) (k cyc : Nat) (p : Pending), let d0 := (s.dev.at k).atCyc cyc
      d0.pendOf 0xC000 = some p → p.page = 0xC000 → p.valid = true → d0.pausing p = true → d0.arrayRuns = true →
      (∀ j ∈ s.dev.jobs, 4 < j.debits.length ∧ j.pipe < 64) →
      ((∀ q < 64, (s.dev.pipe q).pauseWin ≠ some d0.window ∧ (s.dev.pipe q).occ.getD 4 0 = 0) → Completes (.commitHold k cyc) s fun t =>
        t.dev.pow.hold = some (d0.now.tick + (40000 + d0.mhz - 1) / d0.mhz) ∧ t.dev.arrayRuns = false ∧ t.dev.pendOf 0xC000 = none ∧
        fld (t.dev.reg R.pow_STAGE_CLK) 0 10 = fld (p.get R.pow_STAGE_CLK) 0 10 ∧ t.dev.reg R.pow_PAUSES = satAdd (s.dev.reg R.pow_PAUSES) 1 ∧
        t.dev.jobs.map (fun j => j.debits.getD 4 0) =
          s.dev.jobs.map (fun j => j.debits.getD 4 0 + if j.isFrame && j.inFlight then 40 else 0) ∧ KeepsHarts s t) ∧
      (∀ q < 64, (s.dev.pipe q).pauseWin = some d0.window → Completes (.commitHold k cyc) s fun t => t.dev = d0 ∧ KeepsHarts s t)) ∧
    (∀ (s : State) (k e : Nat), s.dev.pow.hold = some e →
      (e ≤ (s.dev.at k).now.tick → Completes (.holdEnd k) s fun t => t.dev.pow.hold = none ∧
        t.dev.rf R.pow_POW_STATUS 0 10 = s.dev.rf R.pow_STAGE_CLK 0 10 ∧ KeepsHarts s t) ∧
      ((s.dev.at k).now.tick < e → Completes (.holdEnd k) s fun t => t.dev = s.dev.at k ∧ KeepsHarts s t))

/-- A clip sample at a multiple of 20 ns with 16 readings sets every GROUP_I, counts GROUP_OVER of each group above its limit, and, with
one above, no raise pending and the last step 20 ns old, starts a raise that takes effect 60 ns later, or at S_LIMIT counts CLIP_AT_LIMIT.
A raise that is due adds one step; a fall that is due and above the floor takes one. A sensor's update sets its reading; TMAX is then the
largest of the sensors not FAILED, the lowest of equals, and every throttle point is active as R465 says. A sensor that fails is FAILED
and counted. A sensor not FAILED at 115 degrees or more, not tripped and no POW commit pending, sets TRIP_STATUS and TRIP_TEMP and stops
the array. After a clearing reset, below 105 degrees with at most four FAILED, the trip is over. -/
def Obligations.ClipAndHeatAreBounded : Prop :=
  (∀ (s : State) (l : List (BitVec 16)) (k : Nat), k % 20 = 0 → s.dev.now.tick ≤ k → s.dev.boot.core = true → s.dev.boot.devReset = none → l.length = 16 →
      Completes (.clipSample l k) s fun t =>
        let cur := fun g : Nat => (l.getD g 0).toNat
        let lim := fun g : Nat => s.dev.rf (R.pow_CLIP_LIMIT g) 0 16 * (16 - s.dev.rf R.pow_POW_STATUS 14 4) / 16
        let ready := s.dev.pow.raise = none ∧ (s.dev.sNow = 0 ∨ s.dev.pow.stepTick + 20 ≤ k)
        (∀ g < 16, t.dev.rn (R.pow_GROUP_I g) = cur g ∧
          t.dev.reg (R.pow_GROUP_OVER g) = if lim g < cur g then satAdd (s.dev.reg (R.pow_GROUP_OVER g)) 1 else s.dev.reg (R.pow_GROUP_OVER g)) ∧
        (((∀ g < 16, cur g ≤ lim g) ∨ ¬ready) → t.dev.pow.raise = s.dev.pow.raise ∧ t.dev.reg R.pow_CLIP_AT_LIMIT = s.dev.reg R.pow_CLIP_AT_LIMIT) ∧
        (∀ g < 16, lim g < cur g → ready → (s.dev.sNow < s.dev.sLimit → t.dev.pow.raise = some (k + 60)) ∧
          (s.dev.sLimit ≤ s.dev.sNow → t.dev.pow.raise = none ∧ t.dev.reg R.pow_CLIP_AT_LIMIT = satAdd (s.dev.reg R.pow_CLIP_AT_LIMIT) 1)) ∧
        KeepsRegs s t ([R.pow_CLIP_AT_LIMIT, 0xC000 + 0x20, R.hif_MSIX_DROPPED] ++ (List.range 16).map R.pow_GROUP_I ++ (List.range 16).map R.pow_GROUP_OVER) ∧
        KeepsHarts s t) ∧
    (∀ (s : State) (k cyc wh : Nat), s.dev.arrayRuns = true → s.dev.pow.raise = some wh →
      (wh ≤ (s.dev.at k).now.tick → s.dev.sNow < 15 → Completes (.stretchRaise k cyc) s fun t => t.dev.sNow = s.dev.sNow + 1 ∧ t.dev.pow.raise = none ∧
        t.dev.pow.stepTick = (s.dev.at k).now.tick ∧
        t.dev.reg R.pow_CLIP_EVENTS = (if s.dev.sNow = 0 then satAdd (s.dev.reg R.pow_CLIP_EVENTS) 1 else s.dev.reg R.pow_CLIP_EVENTS) ∧ KeepsHarts s t) ∧
      ((s.dev.at k).now.tick < wh → Completes (.stretchRaise k cyc) s fun t => t.dev = (s.dev.at k).atCyc cyc ∧ KeepsHarts s t)) ∧
    (∀ (s : State) (k cyc : Nat), s.dev.arrayRuns = true →
      let due := (s.dev.sLimit < s.dev.sNow ∧ s.dev.pow.stepTick + s.dev.relaxNs ≤ (s.dev.at k).now.tick) ∨
        (s.dev.sNow ≤ s.dev.sLimit ∧ ∃ x, s.dev.pow.relaxFrom = some x ∧ max x s.dev.pow.stepTick + s.dev.relaxNs ≤ (s.dev.at k).now.tick)
      (due → s.dev.sFloor < s.dev.sNow → Completes (.stretchRelax k cyc) s fun t => t.dev.sNow = s.dev.sNow - 1 ∧ KeepsHarts s t) ∧
      (¬due ∨ s.dev.sNow ≤ s.dev.sFloor → Completes (.stretchRelax k cyc) s fun t => t.dev = (s.dev.at k).atCyc cyc ∧ KeepsHarts s t)) ∧
    (∀ (s : State) (n : Fin 64) (temp : BitVec 16) (k : Nat), s.dev.rf (R.thm_SENSOR n) 16 1 = 0 → Completes (.sensorUpdate n temp k) s fun t =>
      let m := tempOf (t.dev.reg R.thm_TMAX)
      let ok := fun j => t.dev.rf (R.thm_SENSOR j) 16 1 = 0
      t.dev.rf (R.thm_SENSOR n) 0 16 = temp.toNat ∧ ok n ∧ Store.get zeroN t.dev.pow.seen n = (s.dev.at k).now.tick ∧
      (∀ j < 64, j ≠ n.val → t.dev.reg (R.thm_SENSOR j) = s.dev.reg (R.thm_SENSOR j)) ∧ (∀ j < 64, ok j → tempOf (t.dev.reg (R.thm_SENSOR j)) ≤ m) ∧
      (∃ j < 64, ok j ∧ tempOf (t.dev.reg (R.thm_SENSOR j)) = m ∧ t.dev.rf R.thm_TMAX 16 16 = j ∧
        ∀ x < j, ok x → tempOf (t.dev.reg (R.thm_SENSOR x)) < m) ∧
      (∀ p < 4, t.dev.rf R.thm_THR_ACTIVE p 1 = 1 ↔ s.dev.rf (R.thm_THR p) 31 1 = 1 ∧
        tempOf (s.dev.reg (R.thm_THR p)) - (if s.dev.rf R.thm_THR_ACTIVE p 1 = 1 then (s.dev.rf (R.thm_THR p) 16 8 : Int) else 0) ≤ m) ∧ KeepsHarts s t) ∧
    (∀ (s : State) (n : Fin 64) (b : Bool) (k : Nat), s.dev.rf (R.thm_SENSOR n) 16 1 = 0 → s.dev.rf R.thm_FAILED_COUNT 0 7 < 127 →
      (b = true ∨ Store.get zeroN s.dev.pow.seen n + 1100000 ≤ (s.dev.at k).now.tick → Completes (.sensorFail n b k) s fun t =>
        t.dev.rf (R.thm_SENSOR n) 16 1 = 1 ∧ t.dev.rf R.thm_FAILED_COUNT 0 7 = s.dev.rf R.thm_FAILED_COUNT 0 7 + 1 ∧
        t.dev.rf (0xE000 + 0x20) 20 1 = 1 ∧ t.dev.reg (0xE000 + 0x34) = satAdd (s.dev.reg (0xE000 + 0x34)) 1 ∧ KeepsHarts s t) ∧
      (b = false → (s.dev.at k).now.tick < Store.get zeroN s.dev.pow.seen n + 1100000 → Completes (.sensorFail n b k) s fun t =>
        t.dev = s.dev.at k ∧ KeepsHarts s t)) ∧
    (∀ (s : State) (n : Fin 64) (k : Nat), s.dev.tripped = false → s.dev.pendOf 0xC000 = none → s.dev.rf (R.thm_SENSOR n) 16 1 = 0 →
      (115 * 16 ≤ tempOf (s.dev.reg (R.thm_SENSOR n)) → Completes (.thermalTrip (some n) k) s fun t =>
        t.dev.reg R.thm_TRIP_STATUS = wd (3 + 65536 * n.val) ∧ t.dev.rf R.thm_TRIP_TEMP 0 16 = s.dev.rf (R.thm_SENSOR n) 0 16 ∧
        t.dev.reg (0xE000 + 0x34) = satAdd (s.dev.reg (0xE000 + 0x34)) 1 ∧ t.dev.rf (0xE000 + 0x20) 21 1 = 1 ∧ t.dev.arrayRuns = false ∧ KeepsHarts s t) ∧
      (tempOf (s.dev.reg (R.thm_SENSOR n)) < 115 * 16 → Completes (.thermalTrip (some n) k) s fun t => t.dev = s.dev.at k ∧ KeepsHarts s t)) ∧
    (∀ (s : State) (k : Nat), s.dev.pow.cooling = true →
      let cool := (∀ j < 64, s.dev.rf (R.thm_SENSOR j) 16 1 = 1 ∨ tempOf (s.dev.reg (R.thm_SENSOR j)) < 105 * 16) ∧ s.dev.rf R.thm_FAILED_COUNT 0 7 ≤ 4
      (cool → Completes (.tripCooled k) s fun t => t.dev.tripped = false ∧ t.dev.rf R.thm_TRIP_STATUS 1 1 = 0 ∧ t.dev.pow.cooling = false ∧ KeepsHarts s t) ∧
      (¬cool → Completes (.tripCooled k) s fun t => t.dev = s.dev.at k ∧ KeepsHarts s t))

/-- An enabled PLL locks; one that loses lock is counted and an error; a switch ends; an outgoing clock without an edge is counted once; a
clock counted in a window sets GCLK_FREQ and, above 606,000 kHz, stops. LP_TX takes a flit behind those waiting while fewer than 32 wait
and the port is open, LP_RX gives the oldest. The register-access port performs one access as FABRIC, counts it and answers it. A block
RAM out of reset writes the enabled lanes of its word and no other, reads by its policy (DUO), reads at PORT_1 (WIDE), returns both halves
of an intact GUARD word, and in RING mode reads DELAY words behind the write pointer. RB_GO of a CONFIGURED block's frame below 1010, no
word upset, returns its 512 bytes and its CRC; of a BLANK block it is refused. -/
def Obligations.LathMovesFlitsClocksAndBits : Prop :=
  (∀ (s : State) (n : Fin 8) (k : Nat), s.dev.rf (R.clk_PLL_CFG n) 31 1 = 1 → Completes (.fpllLock n k) s fun t =>
      t.dev.rf R.clk_PLL_LOCKED n 1 = 1 ∧ KeepsRegs s t [R.clk_PLL_LOCKED] ∧ RegsOnly s t) ∧
    (∀ (s : State) (n : Fin 8) (k : Nat), s.dev.rf R.clk_PLL_LOCKED n 1 = 1 → Completes (.pllUnlock n k) s fun t => t.dev.rf R.clk_PLL_LOCKED n 1 = 0 ∧
      t.dev.reg (R.clk_PLL_UNLOCKS n) = satAdd (s.dev.reg (R.clk_PLL_UNLOCKS n)) 1 ∧ t.dev.rf (0x200C000 + 0x20) 16 1 = 1 ∧
      t.dev.reg (0x200C000 + 0x34) = satAdd (s.dev.reg (0x200C000 + 0x34)) 1 ∧ KeepsHarts s t) ∧
    (∀ (s : State) (g : Fin 32) (k : Nat), s.dev.rf R.clk_SWITCHING g 1 = 1 →
      Completes (.clockSwitchDone g k) s (fun t => t.dev.rf R.clk_SWITCHING g 1 = 0 ∧ g.val ∉ t.dev.lath.stuck ∧ KeepsRegs s t [R.clk_SWITCHING] ∧ KeepsHarts s t) ∧
      (g.val ∉ s.dev.lath.stuck → Completes (.stuckSwitch g k) s fun t => t.dev.rf R.clk_SWITCHING g 1 = 1 ∧ g.val ∈ t.dev.lath.stuck ∧
        t.dev.reg R.clk_STUCK_SWITCHES = satAdd (s.dev.reg R.clk_STUCK_SWITCHES) 1 ∧ t.dev.rf (0x200C000 + 0x20) 18 1 = 1 ∧ KeepsHarts s t)) ∧
    (∀ (s : State) (g : Fin 32) (f k : Nat), s.dev.rf (R.clk_GCLK_CFG g) 31 1 = 1 → Store.get zeroN s.dev.lath.counted g ≠ (s.dev.at k).window + 1 →
      Completes (.gclkFreqWindow g f k) s fun t => t.dev.rn (R.clk_GCLK_FREQ g) = min (2 ^ 32 - 1) f ∧
        Store.get zeroN t.dev.lath.counted g = (s.dev.at k).window + 1 ∧ KeepsHarts s t ∧
        (f ≤ 606000 → KeepsRegs s t [R.clk_GCLK_FREQ g]) ∧ (606000 < f → s.dev.rf R.clk_GCLK_STOPPED g 1 = 0 → t.dev.rf R.clk_GCLK_STOPPED g 1 = 1 ∧
          t.dev.reg R.clk_OVERFREQS = satAdd (s.dev.reg R.clk_OVERFREQS) 1)) ∧
    (∀ (s : State) (r : Fin 64) (tag : BitVec 4) (x : BitVec 256) (k c : Nat), s.dev.portOpen r 0 = true → let l := Store.get noFlits s.dev.edge.lpTx r
      (l.length < 32 → Completes (.lpTxTransfer r tag x k c) s fun t => Store.get noFlits t.dev.edge.lpTx r = l ++ [⟨tag, 0, x⟩] ∧
        (∀ j, j ≠ r.val → Store.get noFlits t.dev.edge.lpTx j = Store.get noFlits s.dev.edge.lpTx j) ∧ t.dev.regs = s.dev.regs ∧ KeepsHarts s t) ∧
      (32 ≤ l.length → Completes (.lpTxTransfer r tag x k c) s fun t => t.dev = (s.dev.at k).atCyc c ∧ KeepsHarts s t)) ∧
    (∀ (s : State) (r : Fin 64) (k : Nat) (f : Flit) (l : List Flit), Store.get noFlits s.dev.edge.lpRx r = f :: l → s.dev.portOpen r 1 = true →
      Completes (.lpRxTransfer r k) s fun t => Store.get noFlits t.dev.edge.lpRx r = l ∧ t.dev.out = .lath r f :: s.dev.out ∧
        KeepsRegs s t [R.lth_LP_RX_WAIT r] ∧ KeepsHarts s t) ∧
    (∀ (s : State) (a : BitVec 26) (x : Word) (k : Nat), s.dev.fabricUp = true → s.dev.lath.lra = none →
      let s1 := s.onDevice fun d => (d.at k).count R.lth_LRA_ACCESSES 1
      let o := a.toNat / 4 * 4
      let den := s1.dev.ending .fabric o false = 1 ∨ s1.dev.ending .fabric o false = 2
      (den → Completes (.lraAccess a false x k) s fun t => t.dev.lath.lra = some ⟨0, true⟩) ∧
      (¬den → Completes (.lraAccess a false x k) s fun t => t.dev.lath.lra = some ⟨(s1.busRead .fabric o).1, false⟩ ∧
        t.dev.reg R.lth_LRA_ACCESSES = satAdd (s.dev.reg R.lth_LRA_ACCESSES) 1) ∧
      (s1.dev.ending .fabric o true = 0 → Completes (.lraAccess a true x k) s fun t => t.dev.lath.lra = some ⟨0, false⟩ ∧
        t.dev.regs = (s1.busWrite .fabric o 15 4 x).dev.regs)) ∧
    (∀ (s : State) (k : Nat) (x : LraAcc), s.dev.lath.lra = some x → Completes (.lraAnswer k) s fun t => t.dev.lath.lra = none ∧
      t.dev.out = .ra x.rdata x.denied :: s.dev.out ∧ t.dev.regs = s.dev.regs ∧ KeepsHarts s t) ∧
    (∀ (s : State) (b : Fin 64) (j : Fin 30) (a : BramAcc) (k : Nat), s.dev.brst b = false → let u := 30 * b.val + j.val
      let w := a.addr % 256 * 16
      (∀ i : Fin 3, a.mode = .duo i → let n := 2 ^ i.val
        let l := a.addr % (4096 / n) * n
        (a.we.toNat % 2 ^ n = 0 → a.rd = true → Completes (.bramAccess b j a k) s fun t => Latched s t u a.port (lanesOf s u l n) ∧ Wrote s t u l n 0 0) ∧
        (a.we.toNat % 2 ^ n ≠ 0 → Completes (.bramAccess b j a k) s fun t => Wrote s t u l n a.we.toNat a.data.toNat ∧
          (a.policy = .prior → Latched s t u a.port (lanesOf s u l n)) ∧ (a.policy = .fresh → Latched s t u a.port (lanesOf t u l n)) ∧
          (a.policy = .keep → t.dev.lath.ports = s.dev.lath.ports))) ∧
      (a.mode = .wide → a.port = 0 → Completes (.bramAccess b j a k) s fun t => Wrote s t u w 16 a.we.toNat a.data.toNat) ∧
      (a.mode = .wide → a.port = 1 → a.rd = true → Completes (.bramAccess b j a k) s fun t => Latched s t u 1 (lanesOf s u w 16) ∧ Wrote s t u w 16 0 0) ∧
      (a.mode = .guard → a.port = 0 → a.we = 3 → Completes (.bramAccess b j a k) s fun t => t.dev.lath.rdLanes u w 8 = guardWord a.data.toNat ∧
        t.dev.lath.rdLanes u (w + 8) 8 = guardWord (a.data.toNat / 2 ^ 64)) ∧
      (∀ x y, a.mode = .guard → a.port = 1 → a.rd = true → s.dev.lath.rdLanes u w 8 = guardWord x → s.dev.lath.rdLanes u (w + 8) 8 = guardWord y →
        Completes (.bramAccess b j a k) s fun t => Latched s t u 1 (x % 2 ^ 64 + 2 ^ 64 * (y % 2 ^ 64)) ∧ t.dev.regs = s.dev.regs) ∧
      (∀ len del, a.mode = .ring len del → 2 ≤ len → len ≤ 1024 → 1 ≤ del → del < len → let p := Store.get zeroN s.dev.lath.wptr u
        (p < len → Completes (.bramAccess b j a k) s fun t => Wrote s t u (4 * p) 4 (if a.we = 0 then 0 else 15) a.data.toNat ∧
          (a.rd = true → Latched s t u 1 (lanesOf s u (4 * ((p + len - del) % len)) 4)) ∧
          Store.get zeroN t.dev.lath.wptr u = if a.restart then 0 else if a.we = 0 then p else (p + 1) % len))) ∧
    (∀ (s : State) (q : Req), Writes s q R.lth_RB_GO = true → fld q.data 0 1 = 1 → let b := s.dev.rf R.lth_RB_FAR 16 6
      let f := s.dev.rf R.lth_RB_FAR 0 11
      (s.dev.blockState b = 2 → f < 1010 → s.dev.upsets = [] → (s.dev.frame b f).length = 512 → Completes (.frameReadback q) s fun t =>
        (∀ i < 128, t.dev.rn (R.lth_RB_DATA i) = fromLe (((s.dev.frame b f).drop (4 * i)).take 4)) ∧
        t.dev.reg R.lth_RB_CRC = wd (Store.get zeroN s.dev.lath.crcs (1280 * b + f)) ∧ t.dev.reg R.lth_RB_STATUS = 2 ∧ KeepsHarts s t) ∧
      (s.dev.blockState b = 0 → Completes (.frameReadback q) s fun t => t.dev.reg R.lth_RB_STATUS = 8 ∧ KeepsRegs s t [R.lth_RB_STATUS] ∧ KeepsHarts s t))

/-- A bank supply inside its band is good; outside it, it is faulty and an error. A lane that loses lock is an error; one that locks
reports it. A frame at a port that is down is ignored; a bad one is counted; a good one that is no PTP frame is counted and given to the
client, or counted as overflow; a PTP frame steered to the slots is captured in the lowest free one. A sent frame is counted, a waiting
transmit slot first; a timestamp request queues the present time, or is counted lost behind 16. TXTS_POP gives the oldest. A link going
down is an error; one coming up shows FEC. A step adds its nanoseconds to the clock of the next tick; SET_GO loads it. GO of a slot of 64
to 256 bytes waits; of another length it is an error. -/
def Obligations.EthernetBanksAndPtpClocks : Prop :=
  (∀ (s : State) (b : Fin 12) (mv k : Nat), mv < 8192 →
      (s.dev.vccoIn b mv = true → Completes (.vccoGood b mv k) s (fun t => t.dev.rf (R.iob_BANK_STAT b) 16 1 = 1 ∧ t.dev.rf (R.iob_BANK_STAT b) 0 13 = mv ∧
        KeepsRegs s t [R.iob_BANK_STAT b] ∧ RegsOnly s t)) ∧
      (s.dev.vccoIn b mv = false → s.dev.rf (R.iob_BANK_STAT b) 16 1 = 1 → Completes (.vccoFault b mv k) s fun t => t.dev.rf (R.iob_BANK_STAT b) 16 1 = 0 ∧
        t.dev.rf (R.iob_BANK_STAT b) 0 13 = mv ∧ t.dev.rf (0x2000000 + 0x1000 * b + 0x20) 16 1 = 1 ∧
        t.dev.reg (0x2000000 + 0x1000 * b + 0x34) = satAdd (s.dev.reg (0x2000000 + 0x1000 * b + 0x34)) 1 ∧ KeepsHarts s t)) ∧
    (∀ (s : State) (l : Fin 32) (k : Nat),
      (∀ cdr, s.dev.rf (R.xcv_LANE_STATUS l) (if cdr then 1 else 2) 1 = 1 → Completes (.lockLost l cdr k) s fun t => t.dev.rf (R.xcv_LANE_STATUS l) 2 1 = 0 ∧
        t.dev.rf (R.xcv_LANE_STATUS l) 1 1 = (if cdr then 0 else s.dev.rf (R.xcv_LANE_STATUS l) 1 1) ∧
        t.dev.reg (0x2010000 + 0x1000 * l + 0x34) = satAdd (s.dev.reg (0x2010000 + 0x1000 * l + 0x34)) 1 ∧ KeepsHarts s t) ∧
      (s.dev.rf (R.xcv_LANE_CFG l) 0 1 = 1 → Completes (.laneLocked l k) s fun t =>
        t.dev.rf (R.xcv_LANE_STATUS l) 0 3 = (if s.dev.rf (R.xcv_LANE_CFG l) 1 2 = 0 then 3 else 7) ∧ KeepsRegs s t [R.xcv_LANE_STATUS l] ∧ RegsOnly s t)) ∧
    (∀ (s : State) (p : Fin 2) (b : List (BitVec 8)) (good full : Bool) (k : Nat),
      (s.dev.ethUp p = false → Completes (.ethRxFrame p b good full k) s fun t => t.dev = s.dev.at k ∧ KeepsHarts s t) ∧
      (s.dev.ethUp p = true → good = false ∨ b.length < 64 ∨ 9216 < b.length → Completes (.ethRxFrame p b good full k) s fun t =>
        t.dev.reg (R.eth_RX_BAD p) = satAdd (s.dev.reg (R.eth_RX_BAD p)) 1 ∧ KeepsRegs s t [R.eth_RX_BAD p] ∧ RegsOnly s t) ∧
      (s.dev.ethUp p = true → good = true → 64 ≤ b.length → b.length ≤ 9216 →
        (isPtpFrame b = false → s.dev.brst p = false → Completes (.ethRxFrame p b good full k) s fun t =>
          t.dev.rn64 (R.eth_RX_FRAMES_LO p) = min (2 ^ 64 - 1) (s.dev.rn64 (R.eth_RX_FRAMES_LO p) + 1) ∧
          t.dev.out = (if full then s.dev.out else .frame 0 p b :: s.dev.out) ∧
          (full = true → t.dev.reg (R.eth_RX_OVERFLOW p) = satAdd (s.dev.reg (R.eth_RX_OVERFLOW p)) 1) ∧
          KeepsRegs s t [R.eth_RX_FRAMES_LO p, R.eth_RX_FRAMES_HI p, R.eth_RX_OVERFLOW p] ∧ KeepsHarts s t) ∧
        (∀ j < 4, isPtpFrame b = true → s.dev.rf (R.eth_PORT_CFG p) 8 2 = 1 → b.length ≤ 256 → s.dev.rf (R.eth_RX_SLOT_FULL p) j 1 = 0 →
          (∀ i < j, s.dev.rf (R.eth_RX_SLOT_FULL p) i 1 = 1) → Completes (.ethRxFrame p b good full k) s fun t =>
            t.dev.rf (R.eth_RX_SLOT_FULL p) j 1 = 1 ∧ t.dev.rn (R.eth_RX_SLOT_INFO p j) = b.length ∧
            (∀ i < b.length, fld (t.dev.reg (R.eth_RX_SLOT_DATA p j (i / 4))) (8 * (i % 4)) 8 = (b.getD i 0).toNat) ∧
            (∀ o ∈ t.dev.out, (∃ i, o = .frame 0 p i) → o ∈ s.dev.out) ∧ KeepsHarts s t))) ∧
    (∀ (s : State) (p : Fin 2) (c : ClientFrame) (k : Nat), s.dev.ethUp p = true →
      let sent := fun (t : State) => t.dev.rn64 (R.eth_TX_FRAMES_LO p) = min (2 ^ 64 - 1) (s.dev.rn64 (R.eth_TX_FRAMES_LO p) + 1) ∧ KeepsHarts s t
      let l := Store.get noStamps s.dev.board.txts p
      ((∀ x ∈ s.dev.board.txq, x / 2 ≠ p.val) → s.dev.brst p = false → 64 ≤ c.bytes.length → c.bytes.length ≤ 9216 → c.oneStep = none →
        Completes (.ethTxFrame p (some c) k) s fun t => sent t ∧ t.dev.out = .frame 1 p c.bytes :: s.dev.out ∧
          (c.tsReq = none → Store.get noStamps t.dev.board.txts p = l) ∧
          (∀ g, c.tsReq = some g → l.length < 16 → Store.get noStamps t.dev.board.txts p = l ++ [⟨g.toNat, ((s.dev.at k).stamp p).1, ((s.dev.at k).stamp p).2⟩]) ∧
          (∀ g, c.tsReq = some g → 16 ≤ l.length → Store.get noStamps t.dev.board.txts p = l ∧
            t.dev.reg (R.eth_TXTS_LOST p) = satAdd (s.dev.reg (R.eth_TXTS_LOST p)) 1)) ∧
      (∀ x r, s.dev.board.txq = x :: r → x / 2 = p.val → Completes (.ethTxFrame p (some c) k) s fun t => sent t ∧ t.dev.board.txq = r ∧
        t.dev.rf R.eth_TX_SLOT_DONE x 1 = 1 ∧ t.dev.rf (0x2033000 + 0x20) (18 + p) 1 = 1)) ∧
    (∀ (s : State) (p : Fin 2) (k : Nat),
      (s.dev.ethUp p = true → Completes (.ethLinkDown p k) s fun t => t.dev.reg (R.eth_PORT_STATUS p) = 0 ∧
        t.dev.rf (0x2030000 + 0x1000 * p + 0x20) 16 1 = 1 ∧
        t.dev.reg (0x2030000 + 0x1000 * p + 0x34) = satAdd (s.dev.reg (0x2030000 + 0x1000 * p + 0x34)) 1 ∧ KeepsHarts s t) ∧
      (s.dev.rf (R.eth_PORT_CFG p) 31 1 = 1 → Completes (.ethLinkUp p k) s fun t =>
        t.dev.rn (R.eth_PORT_STATUS p) = 1 + 2 * s.dev.rf (R.eth_PORT_CFG p) 5 1 ∧ KeepsRegs s t [R.eth_PORT_STATUS p] ∧ RegsOnly s t)) ∧
    (∀ (s : State) (p : Fin 2) (q : Req), Reads s q (R.eth_TXTS_POP p) = true →
      (Store.get noStamps s.dev.board.txts p = [] → Completes (.txtsPop p q) s fun t => t.dev.reg (R.eth_TXTS_POP p) = 0 ∧ KeepsRegs s t [R.eth_TXTS_POP p]) ∧
      (∀ x l, Store.get noStamps s.dev.board.txts p = x :: l → l.length < 16 → Completes (.txtsPop p q) s fun t => Store.get noStamps t.dev.board.txts p = l ∧
        t.dev.rf (R.eth_TXTS_POP p) 31 1 = 1 ∧ t.dev.rf (R.eth_TXTS_POP p) 8 8 = x.tag % 256 ∧ t.dev.reg (R.eth_TXTS_SEC p) = wd x.sec ∧
        t.dev.reg (R.eth_TXTS_NS p) = wd x.ns ∧ KeepsRegs s t [R.eth_TXTS_POP p, R.eth_TXTS_SEC p, R.eth_TXTS_NS p] ∧ KeepsHarts s t)) ∧
    (∀ (s : State) (p : Fin 2) (q : Req), portCode q.port = 0 ∨ portCode q.port = 7 → let d := s.dev.at q.t
      let now := fun (t : State) => (Store.get ptpClk0 t.dev.plb.ptp p).value
      (Writes s q (R.eth_PTP_STEP_HI p) = true → Completes (.ptpStep p q) s fun t => t.dev.now.tick = d.now.tick + 1 ∧
        let lo := ((s.dev.pairOf q.port (R.eth_PTP_STEP_LO p)).staged.getD (s.dev.reg (R.eth_PTP_STEP_LO p))).toNat
        now t = s.dev.ptpAt p (d.now.tick + 1) + sext 64 (lo + 2 ^ 32 * q.data.toNat) * 2 ^ 32) ∧
      (Writes s q (R.eth_PTP_SET_GO p) = true → fld q.data 0 1 = 1 → Completes (.ptpSetGo p q) s fun t => t.dev.now.tick = d.now.tick + 1 ∧
        now t = (((s.dev.rn (R.eth_PTP_SET_SEC_LO p) + 2 ^ 32 * s.dev.rf (R.eth_PTP_SET_SEC_HI p) 0 16) * 1000000000 + s.dev.rn (R.eth_PTP_SET_NS p) : Nat) : Int)
          * 2 ^ 32)) ∧
    (∀ (s : State) (p j : Fin 2) (q : Req), Writes s q (R.eth_TX_SLOT_CTRL p j) = true → fld q.data 31 1 = 1 →
      (64 ≤ fld q.data 0 9 → fld q.data 0 9 ≤ 256 → 2 * p.val + j.val ∉ s.dev.board.txq → Completes (.txSlotGo p j q) s fun t =>
        t.dev.board.txq = s.dev.board.txq ++ [2 * p.val + j.val] ∧ t.dev.rf (R.eth_TX_SLOT_CTRL p j) 0 9 = fld q.data 0 9 ∧ KeepsHarts s t) ∧
      (fld q.data 0 9 < 64 ∨ 256 < fld q.data 0 9 → Completes (.txSlotGo p j q) s fun t => t.dev.board.txq = s.dev.board.txq ∧
        t.dev.reg (0x2033000 + 0x34) = satAdd (s.dev.reg (0x2033000 + 0x34)) 1 ∧ KeepsHarts s t))

/-- While the always-on island hears the sideband: Set Endpoint ID of a valid EID assigns it; the other control messages answer their
values; before PRIMED a PLDM request answers ERROR_NOT_READY and an SPDM request Busy; afterwards a sensor of R520 answers its register,
and any other answer is the firmware's, a free value. A register access answers how it ended and the value; one before the last answer,
and a message of another type, is dropped and counted; a malformed one answers INVALID. A dynamic address is taken in I3C. PAGEACC
performs one DEBUG access when it is not busy. ALIVE toggles at its test while enabled, fed by the heartbeat and in no fault state, else
it stops with its cause. Disagreeing pads set FAULT, which ALIVE_CLEAR clears; OK_REQ requests DEV_OK. -/
def Obligations.SidebandDebugAndPresence : Prop :=
  (∀ (s : State) (k : Nat), s.dev.sbOn = true → let d := s.dev.at k
      (∀ e : BitVec 8, e ≠ 0 → e ≠ 0xFF → Completes (.sbMctpControl (.setEid e) k) s fun t => t.dev.rf R.iob_SB_STATUS 8 8 = e.toNat ∧
        t.dev.rf R.prt_PORT_INFO 6 1 = 1 ∧ t.dev.out = .reply 3 0 (wd e.toNat) :: s.dev.out ∧ KeepsRegs s t [R.iob_SB_STATUS, R.prt_PORT_INFO] ∧ KeepsHarts s t) ∧
      (Completes (.sbMctpControl .getEid k) s fun t => t.dev = { d with out := .reply 3 0 (wd (s.dev.rf R.iob_SB_STATUS 8 8)) :: s.dev.out } ∧ KeepsHarts s t) ∧
      (∀ m, s.dev.boot.mile < 2 → Completes (.sbPldm m k) s fun t => t.dev = { d with out := .reply 3 4 0 :: s.dev.out } ∧ KeepsHarts s t) ∧
      (2 ≤ s.dev.boot.mile → (∀ n < 64, Completes (.sbPldm (.numeric (n + 2)) k) s fun t =>
          t.dev = { d with out := .reply 3 0 (wd (s.dev.rf (R.thm_SENSOR n) 0 16)) :: s.dev.out } ∧ KeepsHarts s t) ∧
        (Completes (.sbPldm (.numeric 66) k) s fun t => t.dev = { d with out := .reply 3 0 (s.dev.reg R.pow_PKG_POWER) :: s.dev.out } ∧ KeepsHarts s t) ∧
        (Completes (.sbPldm (.state 80) k) s fun t => t.dev = { d with out := .reply 3 0 (s.dev.reg R.sec_DEV_STATE) :: s.dev.out } ∧ KeepsHarts s t) ∧
        (Completes (.sbPldm .other k) s fun t => t.dev = { d with
          out := .reply 3 0 (Config.freeWord s.dev.free) :: s.dev.out
          free := s.dev.free + 1 } ∧ KeepsHarts s t)) ∧
      (s.dev.boot.mile < 2 → Completes (.spdmRequest true k) s fun t => t.dev = { d with out := .reply 3 3 0 :: s.dev.out } ∧ KeepsHarts s t) ∧
      (∀ m fin, d.now.tick < s.dev.sbBusy → Completes (.sbRegAccess m k fin) s fun t =>
        t.dev.reg R.iob_SB_DROPPED = satAdd (s.dev.reg R.iob_SB_DROPPED) 1 ∧ KeepsRegs s t [R.iob_SB_DROPPED] ∧ RegsOnly s t) ∧
      (∀ m fin, s.dev.sbBusy ≤ d.now.tick → (m.cmd = 1 → m.len ≠ 6) → (m.cmd = 2 → m.len ≠ 10) → Completes (.sbRegAccess m k fin) s fun t =>
        t.dev = { d with
          sbBusy := fin
          out := .reply 3 3 0 :: s.dev.out } ∧ KeepsHarts s t) ∧
      (∀ m fin, s.dev.sbBusy ≤ d.now.tick → m.cmd = 1 → m.len = 6 → m.addr.toNat % 4 = 0 → Completes (.sbRegAccess m k fin) s fun t =>
        let s1 : State := { s with dev := { d with sbBusy := fin }.count R.iob_SB_ACCESSES 1 }
        t.dev = (s1.busRead .sideband m.addr.toNat).2.dev.emit (.reply 3 (s1.dev.ending .sideband m.addr.toNat false % 3) (s1.busRead .sideband m.addr.toNat).1)) ∧
      (Completes (.sbOtherMessage k) s fun t => t.dev.reg R.iob_SB_DROPPED = satAdd (s.dev.reg R.iob_SB_DROPPED) 1 ∧
        KeepsRegs s t [R.iob_SB_DROPPED] ∧ RegsOnly s t) ∧
      (∀ a, s.dev.rf R.iob_SB_STATUS 0 1 = 1 → Completes (.sbDynamicAddress a k) s fun t => t.dev.rf R.iob_SB_STATUS 16 7 = a.toNat ∧
        KeepsRegs s t [R.iob_SB_STATUS] ∧ RegsOnly s t)) ∧
    (∀ (s : State) (a : BitVec 26) (x : Word) (k fin : Nat), let s1 := s.onDevice (·.at k)
      (s.dev.hif.jtagBusy ≤ s1.dev.now.tick → Completes (.pageacc a false true x k fin) s fun t =>
        t.dev.hif.jtagData = (s1.busRead .debug a.toNat).1 ∧ t.dev.hif.jtagBusy = fin ∧
        t.dev.hif.jtagDenied = (s1.dev.ending .debug a.toNat false == 1 || s1.dev.ending .debug a.toNat false == 2)) ∧
      (s.dev.hif.jtagBusy ≤ s1.dev.now.tick → Completes (.pageacc a true true x k fin) s fun t => t.dev.regs = (s1.busWrite .debug a.toNat 15 4 x).dev.regs ∧
        t.dev.hif.jtagData = (s1.busWrite .debug a.toNat 15 4 x).dev.hif.jtagData) ∧
      (∀ wr, s1.dev.now.tick < s.dev.hif.jtagBusy → Completes (.pageacc a wr true x k fin) s fun t => t = s1) ∧
      (∀ wr, Completes (.pageacc a wr false x k fin) s fun t => t = s1)) ∧
    (∀ (s : State) (k : Nat), let h := 1000 * s.dev.rf R.iob_ALIVE_CFG 0 14
      let c := s.dev.now.tick ≤ k ∧ h ≠ 0 ∧ k % h = 0 ∧ s.dev.presenceDriven = true ∧ s.dev.board.aliveTick ≠ some k
      let good := s.dev.rf R.iob_ALIVE_CFG 31 1 = 1 ∧ s.dev.faultState = false ∧ ∃ b, s.dev.sup.beat = some b ∧ k < b + 1000 * s.dev.rf R.iob_HB_WINDOW 0 24
      (c → good → Completes (.aliveTest k) s fun t => t.dev.rf R.iob_ALIVE_STATUS 0 1 = 1 ∧
        t.dev.rf R.iob_ALIVE_STATUS 1 1 = 1 - s.dev.rf R.iob_ALIVE_STATUS 1 1 ∧ t.dev.rf R.iob_ALIVE_STATUS 4 2 = 0 ∧
        KeepsRegs s t [R.iob_ALIVE_STATUS] ∧ KeepsHarts s t) ∧
      (c → ¬good → Completes (.aliveTest k) s fun t => t.dev.rf R.iob_ALIVE_STATUS 0 1 = 0 ∧
        t.dev.rf R.iob_ALIVE_STATUS 4 2 = (if s.dev.rf R.iob_ALIVE_CFG 31 1 = 0 then 3 else if s.dev.faultState then 2 else 1) ∧
        (s.dev.rf R.iob_ALIVE_STATUS 0 1 = 1 → t.dev.reg R.iob_ALIVE_STOPS = satAdd (s.dev.reg R.iob_ALIVE_STOPS) 1 ∧
          t.dev.rf (0x2000000 + 0x20) 17 1 = 1) ∧ KeepsHarts s t)) ∧
    (∀ (s : State) (k : Nat), s.dev.presenceDriven = true → Completes (.aliveFault k) s fun t => t.dev.rf R.iob_ALIVE_STATUS 8 1 = 1 ∧
      t.dev.rf R.iob_PRESENCE_STATUS 0 1 = 0 ∧ t.dev.rf R.iob_PRESENCE_STATUS 1 1 = 1 ∧ t.dev.rf (0x2000000 + 0x20) 18 1 = 1 ∧ KeepsHarts s t) ∧
    (∀ (s : State) (q : Req), Writes s q R.iob_ALIVE_CLEAR = true → fld q.data 0 1 = 1 → Completes (.aliveClear q) s fun t =>
      t.dev.rf R.iob_ALIVE_STATUS 8 1 = 0 ∧ t.dev.rf R.iob_PRESENCE_STATUS 1 1 = (if t.dev.faultState then 1 else 0) ∧ KeepsHarts s t) ∧
    (∀ (s : State) (q : Req), Writes s q R.iob_OK_REQ = true → portCode q.port = 0 ∨ portCode q.port = 7 → Completes (.okReqWrite q) s fun t =>
      t.dev.rf R.iob_OK_REQ 0 1 = fld q.data 0 1 ∧ (t.dev.rf R.iob_PRESENCE_STATUS 0 1 = 1 ↔ t.dev.devOk = true) ∧ KeepsHarts s t)

/-- With its lanes locked a TRAINING port is in INIT at the rate it trained and sends one CRC-good INIT flit with FSEQ 0. 20 ms of FULL
training under AUTO give way to HALF. A CRC-good INIT flit of the same version and DEVICE_CODE that answers this side's brings the port
UP: it expects the next FSEQ, channel frame numbers and LAT_MEAS are 0, and its event is raised; another version or code sets REFUSED. An
UP port goes down after 8 us without a CRC-good flit, or when a lane is lost: LINK_DOWNS counts, nothing waits, and it is DOWN or
TRAINING, DOWN when not enabled. A port in INIT trains again when a lane is lost. A reference window out of bounds clears REF_COMMON, and
no circuit is open. -/
def Obligations.LinksTrainRunAndGoDown : Prop :=
  (∀ (s : State) (k : Fin 4) (t c : Nat),
      (s.dev.lwState k = 1 → Completes (.lwLanesLocked k t c) s fun u =>
        u.dev.lwState k = 2 ∧ u.dev.rf (R.lwl_PORT_STATUS k) 2 1 = (match s.dev.rf (R.lwl_PORT_CFG k) 1 2 with
          | 0 => if (s.dev.lw k).half then 1 else 0
          | 2 => 1
          | _ => 0) ∧ (u.dev.lw k).txSeq = 1 ∧ KeepsRegs s u [R.lwl_PORT_STATUS k] ∧ KeepsHarts s u ∧
        ∃ f, u.dev.out = .lw k f :: s.dev.out ∧ f.kind = 3 ∧ f.fseq = 0 ∧ f.scyc = BitVec.ofNat 32 (s.dev.atBoth t c).now.cyc ∧
          f.segs = [] ∧ f.bad false = false) ∧
      (s.dev.lwState k ≠ 1 → Completes (.lwLanesLocked k t c) s fun u => u.dev = s.dev.atBoth t c ∧ KeepsHarts s u)) ∧
    (∀ (s : State) (k : Fin 4) (t : Nat), s.dev.lwState k = 1 → s.dev.rf (R.lwl_PORT_CFG k) 1 2 = 0 → (s.dev.lw k).half = false →
      ((s.dev.lw k).since + 20000000 ≤ (s.dev.at t).now.tick → Completes (.lwRateTimeout k t) s fun u =>
        u.dev.lw k = { s.dev.lw k with half := true } ∧ u.dev.regs = s.dev.regs ∧ KeepsHarts s u) ∧
      ((s.dev.at t).now.tick < (s.dev.lw k).since + 20000000 → Completes (.lwRateTimeout k t) s fun u => u.dev = s.dev.at t ∧ KeepsHarts s u)) ∧
    (∀ (s : State) (k : Fin 4) (f : LwFlit) (o : Bool) (v code t c : Nat), f.kind = 3 → s.dev.lwState k = 2 → f.bad o = false →
      (v ≠ 1 ∨ code ≠ s.dev.rn R.idn_DEVICE_CODE → ∀ b, Completes (.lwInitReceived k f o v code b t c) s fun u => u.dev.lwState k = 2 ∧
        u.dev.rf (R.lwl_PORT_STATUS k) 6 1 = 1 ∧ KeepsRegs s u [R.lwl_PORT_STATUS k] ∧ RegsOnly s u) ∧
      (v = 1 → code = s.dev.rn R.idn_DEVICE_CODE → Completes (.lwInitReceived k f o v code false t c) s fun u => u.dev.lwState k = 2 ∧
        u.dev.regs = s.dev.regs ∧ (u.dev.lw k).ofs = some ((s.dev.lw k).ofs.getD (((s.dev.atBoth t c).now.cyc : Int) - f.scyc.toNat)) ∧ KeepsHarts s u) ∧
      (v = 1 → code = s.dev.rn R.idn_DEVICE_CODE → Completes (.lwInitReceived k f o v code true t c) s fun u => u.dev.lwState k = 3 ∧
        u.dev.rf (R.lwl_PORT_STATUS k) 2 1 = s.dev.rf (R.lwl_PORT_STATUS k) 2 1 ∧ u.dev.rf (R.lwl_PORT_STATUS k) 3 1 = 1 ∧
        u.dev.rf (R.lwl_PORT_STATUS k) 4 1 = f.state.toNat % 2 ∧ (u.dev.lw k).rxSeq = (f.fseq.toNat + 1) % 256 ∧
        (u.dev.lw k).lastGood = (s.dev.at t).now.tick ∧ u.dev.reg (R.lwl_LAT_MEAS k) = 0 ∧ (∀ x < 64, u.dev.reg (R.lwl_CH_FRAMES k x) = 0) ∧
        u.dev.rf (lwPage k + 0x20) 16 1 = 1 ∧ KeepsHarts s u)) ∧
    (∀ (s : State) (k : Fin 4) (t : Nat),
      let downs := fun (u : State) => u.dev.reg (R.lwl_LINK_DOWNS k) = satAdd (s.dev.reg (R.lwl_LINK_DOWNS k)) 1 ∧ u.dev.lwState k ≤ 1 ∧
        (s.dev.rf (R.lwl_PORT_CFG k) 0 1 = 0 → u.dev.lwState k = 0) ∧ (u.dev.lw k).opened = none ∧ (u.dev.lw k).replay = [] ∧
        (u.dev.lw k).ctl = [] ∧ (u.dev.lw k).mr = [] ∧ (u.dev.lw k).mw = [] ∧ (u.dev.lw k).circ = [] ∧ (u.dev.lw k).copy = none ∧
        u.dev.rf (lwPage k + 0x20) 17 1 = 1 ∧ KeepsHarts s u
      (s.dev.lwState k = 3 → (s.dev.lw k).lastGood + 8000 ≤ (s.dev.at t).now.tick → Completes (.lwSilence k t) s downs) ∧
      (s.dev.lwState k = 3 → (s.dev.at t).now.tick < (s.dev.lw k).lastGood + 8000 → Completes (.lwSilence k t) s fun u => u.dev = s.dev.at t ∧ KeepsHarts s u) ∧
      (s.dev.lwState k = 3 → Completes (.lwLaneLoss k t) s downs) ∧
      (s.dev.lwState k = 2 → s.dev.rf (R.lwl_PORT_CFG k) 0 1 = 1 → s.dev.boot.devReset = none → Completes (.lwLaneLoss k t) s fun u =>
        u.dev.lwState k = 1 ∧ (u.dev.lw k).since = (s.dev.at t).now.tick ∧ (u.dev.lw k).half = false ∧ KeepsRegs s u [R.lwl_PORT_STATUS k] ∧ KeepsHarts s u) ∧
      (s.dev.lwState k < 2 → Completes (.lwLaneLoss k t) s fun u => u.dev = s.dev.at t ∧ KeepsHarts s u)) ∧
    (∀ (s : State) (k : Fin 4) (t : Nat), s.dev.lwState k = 3 → s.dev.rf (R.lwl_PORT_STATUS k) 3 1 = 1 →
      (Completes (.lwRefWindow k false t) s fun u => u.dev.rf (R.lwl_PORT_STATUS k) 3 1 = 0 ∧ u.dev.lwState k = 3 ∧ (∀ c, u.dev.circuitOpen k c = false) ∧
        u.dev.rf (lwPage k + 0x20) 22 1 = 1 ∧ KeepsRegs s u [R.lwl_PORT_STATUS k, lwPage k + 0x20, R.hif_MSIX_DROPPED] ∧ KeepsHarts s u) ∧
      (Completes (.lwRefWindow k true t) s fun u => u.dev = s.dev.at t ∧ KeepsHarts s u))

/-- A port that is not UP takes no flit. At an UP port: a CRC-bad flit, or a DATA flit out of order while none is awaited, makes it ask
again, at most eight times a window, and takes no FSEQ; a CRC-good IDLE flit drops what it acknowledges and reports the partner's state; a
DATA flit in order is taken and the next FSEQ expected, and a one-flit frame of an open FRAME_RX channel is buffered, numbered and
acknowledged. A RETRY_REQ sends every unacknowledged flit again. A flit open for four cycles closes, is sent with the next FSEQ and kept.
An idle port sends IDLE. A frame unanswered in time no longer waits. COPY_GO starts a copy of a good range, ends LINK when not UP, and
does nothing while BUSY; COPY_DONE reports its end. RREG_GO queues a request, LOST when not UP; its answer gives code and data. -/
def Obligations.FlitsCarryFramesCopiesAndRequests : Prop :=
  (∀ (s : State) (k : Fin 4) (f : LwFlit) (o : Bool) (t c : Nat), let x := s.dev.lw k
      let d := s.dev.atBoth t c
      let again := x.retrying = none ∧ (x.retryWin = d.window → x.retries < 8)
      (s.dev.lwState k ≠ 3 → Completes (.lwFlitReceived k f o t c) s fun u => u.dev = d ∧ KeepsHarts s u) ∧
      (s.dev.lwState k = 3 → f.bad o = true → again → Completes (.lwFlitReceived k f o t c) s fun u => AsksAgain s k u ∧
        u.dev.reg (R.lwl_CRC_ERR k) = satAdd (s.dev.reg (R.lwl_CRC_ERR k)) 1 ∧ (u.dev.lw k).rxSeq = x.rxSeq ∧ KeepsHarts s u) ∧
      (s.dev.lwState k = 3 → f.bad o = true → x.retryWin = d.window → 8 ≤ x.retries → Completes (.lwFlitReceived k f o t c) s fun u =>
        u.dev.reg (R.lwl_RETRY_LIMIT k) = satAdd (s.dev.reg (R.lwl_RETRY_LIMIT k)) 1 ∧ u.dev.lwState k ≤ 1 ∧ KeepsHarts s u) ∧
      (s.dev.lwState k = 3 → f.bad o = false → f.kind = 0 → f.fseq.toNat ≠ x.rxSeq → again → Completes (.lwFlitReceived k f o t c) s fun u =>
        AsksAgain s k u ∧ (u.dev.lw k).rxSeq = x.rxSeq ∧ KeepsHarts s u) ∧
      (s.dev.lwState k = 3 → f.bad o = false → f.kind = 1 → Completes (.lwFlitReceived k f o t c) s fun u =>
        (u.dev.lw k).lastGood = d.now.tick ∧ (u.dev.lw k).replay = ackReplay f.ack.toNat x.replay ∧ (u.dev.lw k).rxSeq = x.rxSeq ∧
        u.dev.rf (R.lwl_PORT_STATUS k) 4 1 = f.state.toNat % 2 ∧ u.dev.rf (R.lwl_PORT_STATUS k) 5 1 = f.state.toNat / 2 % 2 ∧ KeepsHarts s u) ∧
      (s.dev.lwState k = 3 → f.bad o = false → f.kind = 0 → f.fseq.toNat = x.rxSeq → x.retrying = none → f.segs = [] →
        Completes (.lwFlitReceived k f o t c) s fun u => (u.dev.lw k).rxSeq = (x.rxSeq + 1) % 256 ∧ (u.dev.lw k).replay = ackReplay f.ack.toNat x.replay ∧
          KeepsHarts s u) ∧
      (∀ g, s.dev.lwState k = 3 → f.bad o = false → f.kind = 0 → f.fseq.toNat = x.rxSeq → x.retrying = none → f.segs = [g] → g.valid = true → g.vc = 0 →
        s.dev.chKind k g.ch = 3 → s.dev.rxOpen k g.ch = true → g.flit.first = true → g.flit.last = true → Store.get noFlits x.part g.ch = [] →
        Completes (.lwFlitReceived k f o t c) s fun u =>
          Store.get noFlits u.dev.edge.chRx (64 * k + g.ch) = Store.get noFlits s.dev.edge.chRx (64 * k + g.ch) ++ [g.flit] ∧
          u.dev.rn (R.lwl_CH_FRAMES k g.ch) = (s.dev.rn (R.lwl_CH_FRAMES k g.ch) + 1) % 2 ^ 32 ∧
          (u.dev.lw k).ctl = x.ctl ++ [vcSeg 3 1 g.ch (s.dev.rn (R.lwl_CH_FRAMES k g.ch))] ∧ (u.dev.lw k).rxSeq = (x.rxSeq + 1) % 256 ∧ KeepsHarts s u)) ∧
    (∀ (s : State) (k : Fin 4) (f : LwFlit) (o : Bool) (l t c : Nat), s.dev.lwState k = 3 → f.kind = 2 → f.bad o = false → f.state.toNat % 2 = 1 →
      Completes (.lwRetryReq k f o l t c) s fun u => let r := ackReplay ((f.ack.toNat + 255) % 256) (s.dev.lw k).replay
        u.dev.out = (r.map (Output.lw k)).reverse ++ s.dev.out ∧ (u.dev.lw k).replay = r ∧
        u.dev.reg (R.lwl_REPLAYS k) = satAdd (s.dev.reg (R.lwl_REPLAYS k)) 1 ∧ KeepsHarts s u) ∧
    (∀ (s : State) (k : Fin 4) (t c o b : Nat), s.dev.lwState k = 3 → (s.dev.lw k).opened = some (o, b) → o + 4 ≤ (s.dev.atBoth t c).now.cyc →
      Completes (.lwFlitClose k t c) s fun u => ∃ f, u.dev.out = .lw k f :: s.dev.out ∧ f.kind = 0 ∧ f.fseq = BitVec.ofNat 8 (s.dev.lw k).txSeq ∧
        f.ack = BitVec.ofNat 8 (s.dev.lw k).acked ∧ f.scyc = BitVec.ofNat 32 o ∧ f.segs.length ≤ 6 ∧ f.bad false = false ∧
        (u.dev.lw k).replay = (s.dev.lw k).replay ++ [f] ∧ (u.dev.lw k).txSeq = ((s.dev.lw k).txSeq + 1) % 256 ∧ KeepsHarts s u) ∧
    (∀ (s : State) (k : Fin 4) (t c : Nat), s.dev.lwState k = 3 →
      ((s.dev.lw k).opened = none → Completes (.lwIdleFlit k t c) s fun u => ∃ f, u.dev.out = .lw k f :: s.dev.out ∧ f.kind = 1 ∧ f.segs = [] ∧
        f.bad false = false ∧ (u.dev.lw k).replay = (s.dev.lw k).replay ∧ (u.dev.lw k).txSeq = (s.dev.lw k).txSeq ∧ u.dev.regs = s.dev.regs ∧ KeepsHarts s u) ∧
      ((s.dev.lw k).opened ≠ none → Completes (.lwIdleFlit k t c) s fun u => u.dev = s.dev.atBoth t c ∧ KeepsHarts s u)) ∧
    (∀ (s : State) (k : Fin 4) (c : Fin 64) (t n a : Nat), (s.dev.lw k).awaits.find? (fun q => q.1 == c.val) = some (c.val, n, a) →
      let us := s.dev.rf (R.lwl_PORT_CFG k) 16 16
      (us ≠ 0 → a + 1000 * us ≤ (s.dev.at t).now.tick → Completes (.lwAckTimeout k c t) s fun u =>
        (∀ q ∈ (u.dev.lw k).awaits, ¬(q.1 = c.val ∧ q.2.1 = n)) ∧ KeepsHarts s u) ∧
      (us = 0 ∨ (s.dev.at t).now.tick < a + 1000 * us → Completes (.lwAckTimeout k c t) s fun u => u.dev = s.dev.at t ∧ KeepsHarts s u)) ∧
    (∀ (s : State) (k : Fin 4) (q : Req), Writes s q (R.lwl_COPY_CTRL k) = true → fld q.data 31 1 = 1 → let n := s.dev.rn (R.lwl_COPY_LEN k)
      let a := s.dev.rn64 (R.lwl_COPY_LOCAL_LO k)
      (s.dev.rf (R.lwl_COPY_STATUS k) 0 1 = 1 → Completes (.copyGo k q) s fun u => KeepsRegs s u [R.lwl_COPY_CTRL k] ∧ RegsOnly s u) ∧
      (s.dev.rf (R.lwl_COPY_STATUS k) 0 1 = 0 → n = 0 ∨ n % 32 ≠ 0 ∨ s.dev.inOperator a n = false → Completes (.copyGo k q) s fun u =>
        u.dev.reg (R.lwl_COPY_STATUS k) = s.dev.reg (R.lwl_COPY_STATUS k) ∧ (u.dev.lw k).copy = (s.dev.lw k).copy ∧
        u.dev.reg (lwPage k + 0x34) = satAdd (s.dev.reg (lwPage k + 0x34)) 1 ∧ KeepsHarts s u) ∧
      (s.dev.rf (R.lwl_COPY_STATUS k) 0 1 = 0 → n ≠ 0 → n % 32 = 0 → s.dev.inOperator a n = true → s.dev.lwState k ≠ 3 → Completes (.copyGo k q) s fun u =>
        u.dev.reg (R.lwl_COPY_STATUS k) = wd (4 + 16 * 2) ∧ (u.dev.lw k).copy = none ∧ KeepsHarts s u) ∧
      (s.dev.rf (R.lwl_COPY_STATUS k) 0 1 = 0 → n ≠ 0 → n % 32 = 0 → s.dev.inOperator a n = true → s.dev.lwState k = 3 → Completes (.copyGo k q) s fun u =>
        u.dev.reg (R.lwl_COPY_STATUS k) = 1 ∧ (∃ x, (u.dev.lw k).copy = some x ∧ x.lcl = a ∧ x.remote = s.dev.rn64 (R.lwl_COPY_REMOTE_LO k) ∧ x.len = n ∧
          x.pull = (fld q.data 0 1 == 1)) ∧ KeepsHarts s u)) ∧
    (∀ (s : State) (k : Fin 4) (t : Nat) (x : LwCopy), (s.dev.lw k).copy = some x →
      (∀ r, x.reason = some r → Completes (.copyDone k t) s fun u => u.dev.reg (R.lwl_COPY_STATUS k) = wd (4 + 16 * r) ∧ (u.dev.lw k).copy = none ∧
        u.dev.reg (lwPage k + 0x34) = satAdd (s.dev.reg (lwPage k + 0x34)) 1 ∧ KeepsHarts s u) ∧
      (x.reason = none → x.issued = x.len → x.pieces = [] → Completes (.copyDone k t) s fun u => u.dev.reg (R.lwl_COPY_STATUS k) = 2 ∧
        (u.dev.lw k).copy = none ∧ u.dev.rf (lwPage k + 0x20) 21 1 = 1 ∧ KeepsHarts s u) ∧
      (x.reason = none → x.issued ≠ x.len ∨ x.pieces ≠ [] → Completes (.copyDone k t) s fun u => u.dev = s.dev.at t ∧ KeepsHarts s u)) ∧
    (∀ (s : State) (k : Fin 4) (q : Req), Writes s q (R.lwl_RREG_CTRL k) = true → fld q.data 31 1 = 1 →
      (s.dev.rf (R.lwl_RREG_STATUS k) 0 1 = 1 → Completes (.rregGo k q) s fun u => KeepsRegs s u [R.lwl_RREG_CTRL k] ∧ RegsOnly s u) ∧
      (s.dev.rf (R.lwl_RREG_STATUS k) 0 1 = 0 → s.dev.lwState k ≠ 3 → Completes (.rregGo k q) s fun u => u.dev.reg (R.lwl_RREG_STATUS k) = 14 ∧
        KeepsRegs s u [R.lwl_RREG_CTRL k, R.lwl_RREG_STATUS k] ∧ RegsOnly s u) ∧
      (s.dev.rf (R.lwl_RREG_STATUS k) 0 1 = 0 → s.dev.lwState k = 3 → Completes (.rregGo k q) s fun u => u.dev.reg (R.lwl_RREG_STATUS k) = 1 ∧
        (u.dev.lw k).ctl = (s.dev.lw k).ctl ++ [vcSeg 3 3 0 (s.dev.rn (R.lwl_RREG_ADDR k) / 4 * 4 + 2 ^ 32 * fld q.data 0 1 +
          2 ^ 64 * s.dev.rn (R.lwl_RREG_DATA k))] ∧ KeepsHarts s u)) ∧
    (∀ (s : State) (k : Fin 4) (t e : Nat) (v : Word), (s.dev.lw k).resp = some (e, v) → s.dev.rf (R.lwl_RREG_STATUS k) 0 1 = 1 →
      Completes (.rregResp k t) s fun u => u.dev.reg (R.lwl_RREG_STATUS k) = wd (2 + 4 * e) ∧ (u.dev.lw k).resp = none ∧
        u.dev.reg (R.lwl_RREG_DATA k) = (if s.dev.rf (R.lwl_RREG_CTRL k) 0 1 = 0 ∧ e = 0 then v else s.dev.reg (R.lwl_RREG_DATA k)) ∧
        KeepsRegs s u [R.lwl_RREG_STATUS k, R.lwl_RREG_DATA k] ∧ KeepsHarts s u)

/-- A supply out of range or the loss of SYS_REFCLK clears every register but the fuses and every memory, and holds the device in power-on
reset; supplies in range change nothing. The always-on island then starts: milestone 1, the Primer ROM at slot A or waiting for the link,
the straps in BOOT_STATUS and SB_STATUS. CORE leaves reset with the stage-cycle counter 0, HBM training started and harts 1 to 3 IDLE. A
brown-out and SYS_RESET_N hold CORE, keep hart 0 and the scratchpad and record causes 6 and 1. DEV_RESET by MGMT or SUPERVISOR starts a
device reset with cause 3 or 4, without jobs, tiles and pipelines, HBM and the harts kept; one in progress absorbs it; another port is
refused. Its end records the cause. -/
def Obligations.ResetsClearWhatTheyReach : Prop :=
  (∀ (s : State) (a b : Bool) (k : Nat), Completes (.powerOnReset a b k) s fun t =>
      if a && b then t.dev = s.dev.at k ∧ KeepsHarts s t else AllCleared s t ∧ t.dev.boot.vaon = a ∧ t.dev.boot.vaux = b) ∧
    (∀ (s : State) (k : Nat), Completes (.refclkLoss k) s fun t => AllCleared s t ∧ t.dev.boot.refclk = false) ∧
    (∀ (s : State) (host i3c : Bool) (x : Fin 4) (k : Nat),
      (s.dev.boot.por = true → Completes (.aonStart host i3c x k) s fun t => t.dev.boot.por = false ∧ t.dev.boot.mile = 1 ∧
        t.dev.boot.rom = (if host then .waitLink else .slotA) ∧ t.dev.rf R.sec_BOOT_STATUS 16 1 = (if host then 1 else 0) ∧
        t.dev.rf R.iob_SB_STATUS 0 1 = (if i3c then 1 else 0) ∧ t.dev.rf R.iob_SB_STATUS 16 7 = 0x64 + x.val ∧
        KeepsRegs s t [R.sec_BOOT_STATUS, R.iob_SB_STATUS, R.iob_PRESENCE_STATUS, 0x2000000 + 0x20, R.hif_MSIX_DROPPED] ∧ KeepsHarts s t) ∧
      (s.dev.boot.por = false → Completes (.aonStart host i3c x k) s fun t => t.dev = s.dev.at k ∧ KeepsHarts s t)) ∧
    (∀ (s : State) (k : Nat),
      (s.dev.boot.por = false → s.dev.boot.core = false → Completes (.coreResetRelease k) s fun t => t.dev.boot.core = true ∧ t.dev.boot.sysN = true ∧
        t.dev.boot.step3 = true ∧ t.dev.now.cyc = 0 ∧ t.dev.boot.trainStart = some (s.dev.at k).now.tick ∧ t.harts.sp = s.harts.sp ∧ t.hart 0 = s.hart 0 ∧
        (∀ h, 1 ≤ h → h ≤ 3 → t.hart h = if (s.hart h).st = .off then { hart0 h with st := .idle } else s.hart h) ∧ t.pending = s.pending) ∧
      (s.dev.boot.core = true → Completes (.coreResetRelease k) s fun t => t.dev = s.dev.at k ∧ KeepsHarts s t)) ∧
    (∀ (s : State) (k : Nat), s.dev.boot.por = false →
      (s.dev.boot.step3 = true → Completes (.brownOut k) s fun t => CoreHeld s 6 t ∧ t.dev.boot.step3 = false) ∧
      (s.dev.boot.sysN = true → Completes (.sysResetN k) s fun t => CoreHeld s 1 t ∧ t.dev.boot.sysN = false) ∧
      (s.dev.boot.sysN = false → Completes (.sysResetN k) s fun t => t.dev = s.dev.at k ∧ KeepsHarts s t)) ∧
    (∀ (s : State) (q : Req), Writes s q R.sec_DEV_RESET = true →
      (∀ c ∈ [(0, 3), (7, 4)], portCode q.port = c.1 → fld q.data 0 1 = 1 → s.dev.boot.devReset = none → s.dev.boot.core = true →
        Completes (.devReset q) s fun t => t.dev.boot.devReset = some c.2 ∧ t.dev.jobs = [] ∧ t.dev.tiles = [] ∧ t.dev.pipes = [] ∧ t.dev.hbm = s.dev.hbm ∧
          t.dev.arrayRuns = false ∧ KeepsHarts s t) ∧
      (portCode q.port = 0 → s.dev.boot.devReset ≠ none ∨ fld q.data 0 1 = 0 → Completes (.devReset q) s fun t => t.dev.boot = s.dev.boot ∧
        t.dev.jobs = s.dev.jobs ∧ RegsOnly s t ∧ KeepsRegs s t []) ∧
      (portCode q.port ≠ 0 → portCode q.port ≠ 7 → Completes (.devReset q) s fun t => t.dev.boot = s.dev.boot ∧
        t.dev.reg (0x8000 + 0x34) = satAdd (s.dev.reg (0x8000 + 0x34)) 1 ∧ KeepsHarts s t)) ∧
    (∀ (s : State) (k c : Nat), s.dev.boot.devReset = some c → Completes (.deviceResetDone k) s fun t => t.dev.boot.devReset = none ∧
      t.dev.reg R.sec_RESET_CAUSE = wd c ∧ t.dev.reg R.sec_RESETS = satAdd (s.dev.reg R.sec_RESETS) 1 ∧ t.dev.rf R.flt_DEV_FAULT 0 1 = 0 ∧
      t.dev.rf (0x8000 + 0x20) 17 1 = 1 ∧ KeepsHarts s t)

/-- PERST_N asserted clears CFG_READY and, with CORE out of reset, starts a device reset with cause 2 with the link down, the milestone at
most 2 and the TEN pages as at reset; deasserted, its 900 ms begin, after which CFG_READY is set. The link comes up only with CORE and
PERST_N released and shows its speed and width; the Primer ROM that waits for it then sets CFG_READY. A READY write sets CFG_READY, or
NO_HOST by SUPERVISOR alone; with the link up, or NO_HOST, milestone 2 becomes 3 at least. A stack that trains reads zeros and reports it,
and with both milestone 3 becomes 4; one that has not trained within 60 ms fails and is an error; RETRAIN clears the failures when no
Render is present and the loader is at rest. -/
def Obligations.LinkReadinessAndTrainingMakeMilestones : Prop :=
  (∀ (s : State) (k : Nat), s.dev.boot.por = false →
      (s.dev.boot.perstN = true → Completes (.perstNAssert k) s fun t => t.dev.boot.perstN = false ∧ t.dev.boot.perstAt = some (s.dev.at k).now.tick ∧
        t.dev.boot.perstTick = none ∧ t.dev.rf R.sec_BOOT_STATUS 2 1 = 0 ∧ t.dev.rf R.sec_READY 0 1 = 0 ∧ KeepsHarts s t ∧
        (s.dev.boot.core = true → t.dev.boot.devReset = some 2 ∧ t.dev.hif.linkUp = false ∧ t.dev.boot.mile ≤ 2 ∧ t.dev.jobs = [] ∧
          ∀ o, 0x400000 ≤ o → o < 0x800000 → o % 0x1000 ≠ 0xC → t.dev.reg o = resetOf o)) ∧
      (s.dev.boot.perstN = false → Completes (.perstNDeassert k) s fun t => t.dev.boot = { s.dev.boot with perstN := true, perstTick := some (s.dev.at k).now.tick } ∧
        t.dev.regs = s.dev.regs ∧ KeepsHarts s t)) ∧
    (∀ (s : State) (v : Fin 6) (x : Fin 17) (k : Nat),
      (s.dev.hif.linkUp = false → s.dev.boot.core = true → s.dev.boot.perstN = true → Completes (.pcieLinkUp v x k) s fun t => t.dev.hif.linkUp = true ∧
        t.dev.reg R.hif_LINK_STATUS = wd (v.val + 16 * x.val + 4096) ∧ KeepsHarts s t ∧
        (s.dev.boot.rom = .waitLink → t.dev.boot.rom = .waitGo ∧ t.dev.rf R.sec_BOOT_STATUS 2 1 = 1 ∧ t.dev.rf R.sec_READY 0 1 = 1)) ∧
      (s.dev.hif.linkUp = true ∨ s.dev.boot.core = false ∨ s.dev.boot.perstN = false → Completes (.pcieLinkUp v x k) s fun t =>
        t.dev = s.dev.at k ∧ KeepsHarts s t)) ∧
    (∀ (s : State) (q : Req), Writes s q R.sec_READY = true →
      (fld q.data 0 1 = 1 → fld q.data 1 1 = 0 → s.dev.boot.perstAt ≠ some (s.dev.at q.t).now.tick → Completes (.cfgReadyWrite q) s fun t =>
        t.dev.rf R.sec_BOOT_STATUS 2 1 = 1 ∧ t.dev.rf R.sec_READY 0 1 = 1 ∧ KeepsHarts s t ∧
        (s.dev.boot.core = true → s.dev.boot.mile = 2 → s.dev.hif.linkUp = true → 3 ≤ t.dev.boot.mile)) ∧
      (fld q.data 0 1 = 0 → fld q.data 1 1 = 1 → portCode q.port = 7 → Completes (.noHost q) s fun t => t.dev.rf R.sec_READY 1 1 = 1 ∧
        t.dev.rf R.sec_READY 0 1 = s.dev.rf R.sec_READY 0 1 ∧ KeepsHarts s t ∧ (s.dev.boot.core = true → s.dev.boot.mile = 2 → 3 ≤ t.dev.boot.mile)) ∧
      (fld q.data 0 1 = 0 → fld q.data 1 1 = 1 → portCode q.port ≠ 7 → Completes (.noHost q) s fun t =>
        t.dev.reg R.sec_READY = s.dev.reg R.sec_READY ∧ t.dev.reg (0x8000 + 0x34) = satAdd (s.dev.reg (0x8000 + 0x34)) 1 ∧ KeepsHarts s t)) ∧
    (∀ (s : State) (k p : Nat), s.dev.boot.perstTick = some p →
      (p + 900000000 ≤ (s.dev.at k).now.tick → Completes (.cfgReadyForced k) s fun t => t.dev.rf R.sec_BOOT_STATUS 2 1 = 1 ∧
        t.dev.rf R.sec_READY 0 1 = 1 ∧ KeepsHarts s t) ∧
      ((s.dev.at k).now.tick < p + 900000000 → Completes (.cfgReadyForced k) s fun t => t.dev = s.dev.at k ∧ KeepsHarts s t)) ∧
    (∀ (s : State) (x : Fin 2) (k : Nat), s.dev.boot.core = true → s.dev.rf R.sec_HBM_TRAIN x 1 = 0 → s.dev.rf R.sec_HBM_TRAIN (2 + x) 1 = 0 →
      (Completes (.hbmTrained x k) s fun t => t.dev.rf R.sec_HBM_TRAIN x 1 = 1 ∧ KeepsHarts s t ∧
        (∀ a, Memory.rd8 t.dev.hbm a = if a / 256 % 32 / 16 = x.val then 0 else Memory.rd8 s.dev.hbm a) ∧
        (s.dev.boot.mile = 3 → s.dev.rf R.sec_HBM_TRAIN (1 - x) 1 = 1 → t.dev.boot.mile = 4)) ∧
      (∀ b, s.dev.boot.trainStart = some b →
        (b + 60000000 ≤ (s.dev.at k).now.tick → Completes (.trainFail x k) s fun t => t.dev.rf R.sec_HBM_TRAIN (2 + x) 1 = 1 ∧
          t.dev.reg (0x8000 + 0x34) = satAdd (s.dev.reg (0x8000 + 0x34)) 1 ∧ t.dev.rf (0x8000 + 0x20) 18 1 = 1 ∧ KeepsHarts s t) ∧
        ((s.dev.at k).now.tick < b + 60000000 → Completes (.trainFail x k) s fun t => t.dev = s.dev.at k ∧ KeepsHarts s t))) ∧
    (∀ (s : State) (q : Req), Writes s q R.sec_HBM_TRAIN = true → fld q.data 8 1 = 1 →
      (s.dev.rf R.skm_RENDER_STATE 0 2 = 0 → s.dev.loadFree = true → s.dev.rf R.sec_HBM_TRAIN 2 2 ≠ 0 → Completes (.retrain q) s fun t =>
        t.dev.rf R.sec_HBM_TRAIN 2 2 = 0 ∧ t.dev.rf R.sec_HBM_TRAIN 0 2 = s.dev.rf R.sec_HBM_TRAIN 0 2 ∧
        t.dev.boot.trainStart = some (s.dev.at q.t).now.tick ∧ KeepsRegs s t [R.sec_HBM_TRAIN] ∧ KeepsHarts s t) ∧
      (s.dev.rf R.skm_RENDER_STATE 0 2 ≠ 0 ∨ s.dev.loadFree = false → Completes (.retrain q) s fun t => t.dev.reg R.sec_HBM_TRAIN = s.dev.reg R.sec_HBM_TRAIN ∧
        t.dev.reg (0x8000 + 0x34) = satAdd (s.dev.reg (0x8000 + 0x34)) 1 ∧ KeepsHarts s t))

/-- An image that fails a check of R564 is recorded with its reason in the field of its source: after slot A the ROM reads slot B, after
slot B it waits for the host, after the host's image FW_LOAD_STATUS is FAILED and it waits again. An image that passes is handed off:
CODE_LIMIT, the entry, budget and slot 0 as its header says, the scratchpad its code and zeros beyond, FW_SVN its SVN, milestone 2 at
least, hart 0 IDLE, and an INIT event. FW_GO starts the host read while the ROM waits for it; from PRIMED on it is an error. MGMT may burn
an owner pin that is not programmed, revoke a pin that leaves one accepted, and raise the roll-back floor; another port, or a burn that
may not be, burns nothing. BURN_DONE ends the burn in progress with its bits set, the floor never lowered. -/
def Obligations.FirmwareIsCheckedAndFusesBurn : Prop :=
  (∀ (s : State) (r : Option (List (BitVec 8))) (k : Nat), let f := s.dev.attempt r
      (f ≠ 0 → s.dev.boot.rom = .slotA → Completes (.romImageRead r k) s fun t => t.dev.rf R.sec_BOOT_STATUS 4 4 = f ∧ t.dev.boot = { s.dev.boot with rom := .slotB } ∧
        KeepsRegs s t [R.sec_BOOT_STATUS] ∧ KeepsHarts s t) ∧
      (f ≠ 0 → s.dev.boot.rom = .slotB → Completes (.romImageRead r k) s fun t => t.dev.rf R.sec_BOOT_STATUS 8 4 = f ∧
        t.dev.boot.rom = (if s.dev.boot.core && s.dev.hif.linkUp then .waitGo else .waitLink) ∧ KeepsHarts s t) ∧
      (f ≠ 0 → s.dev.boot.rom = .host → Completes (.romImageRead r k) s fun t => t.dev.rf R.sec_BOOT_STATUS 12 4 = f ∧ t.dev.reg R.sec_FW_LOAD_STATUS = 3 ∧
        t.dev.boot.rom = .waitGo ∧ KeepsRegs s t [R.sec_BOOT_STATUS, R.sec_FW_LOAD_STATUS] ∧ KeepsHarts s t) ∧
      (∀ l, r = some l → f = 0 → s.dev.boot.rom = .slotA ∨ s.dev.boot.rom = .slotB ∨ s.dev.boot.rom = .host → Completes (.romImageRead r k) s fun t =>
        t.dev.reg R.sup_CODE_LIMIT = wd (2 ^ 31 + at_ l 20 4) ∧ t.dev.reg (R.sup_HS_ENTRY 0) = wd (at_ l 24 4) ∧ t.dev.reg (R.sup_HS_BUDGET 0) = wd (at_ l 28 4) ∧
        t.dev.reg (R.sup_HS_CFG 0) = 0x11 ∧ t.dev.reg R.sec_FW_SVN = wd (at_ l 12 1) ∧ t.dev.boot.rom = .done ∧ 2 ≤ t.dev.boot.mile ∧
        t.hart 0 = (if (s.hart 0).st = .off then { hart0 0 with st := .idle } else s.hart 0) ∧ (∀ h, h ≠ 0 → t.hart h = s.hart h) ∧
        (∀ a, Memory.rd8 t.harts.sp a = ((fwCode l).getD []).getD a 0) ∧ (∃ e ∈ t.dev.arriving, e.kind = 7 ∧ e.slot = 0) ∧
        t.pending = s.pending)) ∧
    (∀ (s : State) (q : Req), Writes s q R.sec_FW_GO = true → fld q.data 0 1 = 1 →
      (s.dev.boot.mile < 2 → s.dev.boot.rom = .waitGo → Completes (.fwGo q) s fun t => t.dev.boot = { s.dev.boot with rom := .host } ∧
        t.dev.reg R.sec_FW_LOAD_STATUS = 1 ∧ t.dev.out = .hostRead 0 (s.dev.rn64 R.sec_FW_SRC_LO) (s.dev.rf R.sec_FW_LEN 0 23) :: s.dev.out ∧
        KeepsRegs s t [R.sec_FW_LOAD_STATUS] ∧ KeepsHarts s t) ∧
      (2 ≤ s.dev.boot.mile → Completes (.fwGo q) s fun t => t.dev.boot = s.dev.boot ∧
        t.dev.reg (0x8000 + 0x34) = satAdd (s.dev.reg (0x8000 + 0x34)) 1 ∧ KeepsHarts s t)) ∧
    (∀ (s : State) (q : Req), Writes s q R.sec_PIN_BURN = true → fld q.data 31 1 = 1 → let p := fld q.data 0 2
      let prog := s.dev.rf R.idn_FUSE_STATE 0 4
      let rev := s.dev.rf R.idn_FUSE_STATE 4 4
      let starts := fun (x : Nat × Nat × Nat) => Completes (.pinBurn q) s fun t => t.dev.boot = { s.dev.boot with burn := some x } ∧
        t.dev.reg R.sec_PIN_BURN_STATUS = 1 ∧ KeepsRegs s t [R.sec_PIN_BURN_STATUS] ∧ KeepsHarts s t
      let refused := Completes (.pinBurn q) s fun t => t.dev.boot = s.dev.boot ∧ t.dev.reg R.sec_PIN_BURN_STATUS = 4 ∧
        t.dev.reg (0x8000 + 0x34) = satAdd (s.dev.reg (0x8000 + 0x34)) 1 ∧ KeepsHarts s t
      (portCode q.port = 0 → s.dev.boot.burn = none →
        (fld q.data 4 1 = 0 → 2 ≤ p → prog / 2 ^ p % 2 = 0 → starts (0, p, s.dev.stagedDigest)) ∧
        (fld q.data 4 1 = 0 → p < 2 ∨ prog / 2 ^ p % 2 = 1 → refused) ∧
        (fld q.data 4 1 = 1 → acceptedPins prog (rev ||| 2 ^ p) ≠ [] → starts (1, p, 0)) ∧
        (fld q.data 4 1 = 1 → acceptedPins prog (rev ||| 2 ^ p) = [] → refused)) ∧
      (portCode q.port = 0 → s.dev.boot.burn ≠ none → Completes (.pinBurn q) s fun t => RegsOnly s t ∧ KeepsRegs s t []) ∧
      (portCode q.port ≠ 0 → Completes (.pinBurn q) s fun t => t.dev.boot = s.dev.boot ∧
        t.dev.reg (0x8000 + 0x34) = satAdd (s.dev.reg (0x8000 + 0x34)) 1 ∧ KeepsHarts s t)) ∧
    (∀ (s : State) (q : Req), Writes s q R.sec_SVN_BURN = true → fld q.data 0 1 = 1 → portCode q.port = 0 →
      (s.dev.boot.burn = none → Completes (.svnBurn q) s fun t => t.dev.boot = { s.dev.boot with burn := some (2, s.dev.rf R.sec_FW_SVN 0 7, 0) } ∧
        t.dev.reg R.sec_PIN_BURN_STATUS = 1 ∧ KeepsRegs s t [R.sec_PIN_BURN_STATUS] ∧ KeepsHarts s t) ∧
      (s.dev.boot.burn ≠ none → Completes (.svnBurn q) s fun t => RegsOnly s t ∧ KeepsRegs s t [])) ∧
    (∀ (s : State) (k a p v : Nat), s.dev.boot.burn = some (a, p, v) → Completes (.burnDone k) s fun t => t.dev.boot = { s.dev.boot with burn := none } ∧
      t.dev.reg R.sec_PIN_BURN_STATUS = 2 ∧ KeepsHarts s t ∧
      (a = 0 → p < 4 → t.dev.rf R.idn_FUSE_STATE p 1 = 1 ∧ ∀ x < 12, t.dev.reg (R.idn_PIN_DIGEST p x) = wd (v / 2 ^ (32 * x))) ∧
      (a = 1 → p < 4 → t.dev.rf R.idn_FUSE_STATE (4 + p) 1 = 1 ∧ t.dev.rf R.idn_FUSE_STATE 0 4 = s.dev.rf R.idn_FUSE_STATE 0 4) ∧
      (a = 2 → p < 128 → t.dev.rf R.idn_FUSE_STATE 16 7 = max p (s.dev.rf R.idn_FUSE_STATE 16 7)))

/-- An item that may not be scanned now changes nothing. A sound one moves PROGRESS_SIG to a value it has not had in the pass. One single-
bit error is corrected and counted in CE of the class. An uncorrectable item is counted and is an error; with REWRITE_EN, a good source
and no fetch of it under way, its golden words are fetched. Golden words of an item that needs no pause and whose slot no context holds
rewrite it: no error stays, REWRITES counts. A golden word that is uncorrectable rewrites nothing and counts GOLDEN_UE_COUNT. An item that
needs its running region paused waits for the pause. -/
def Obligations.ScrubberScansCorrectsAndRewrites : Prop :=
  (∀ (s : State) (i : ScrubItem) (k cyc : Nat), let d := (s.dev.at k).atCyc cyc
      let ms := s.dev.marks i.words.1 i.words.2.1 i.words.2.2.1 i.words.2.2.2
      let ce := fun (t : State) => t.dev.reg (R.snd_CE i.cls) = satAdd (s.dev.reg (R.snd_CE i.cls)) 1
      (d.scannable i cyc = false → Completes (.scrubScan i k cyc) s fun t => t.dev = d ∧ KeepsHarts s t) ∧
      (d.scannable i cyc = true →
        (ms = [] → (∀ b f, i = .lath b f → (crc16 (s.dev.frame b f)).toNat = Store.get zeroN s.dev.lath.crcs (1280 * b + f)) → s.dev.scrub.sigs.length < 2 ^ 31 →
          Completes (.scrubScan i k cyc) s fun t => t.dev.reg R.snd_PROGRESS_SIG ≠ s.dev.reg R.snd_PROGRESS_SIG ∧
            t.dev.reg R.snd_PROGRESS_SIG ∉ s.dev.scrub.sigs ∧ t.dev.scrub.sigs = t.dev.reg R.snd_PROGRESS_SIG :: s.dev.scrub.sigs ∧
            t.dev.rf R.snd_SND_STATUS 4 3 = i.cls ∧ KeepsRegs s t [R.snd_PROGRESS_SIG, R.snd_SND_STATUS] ∧ KeepsHarts s t) ∧
        (∀ u, ms = [u] → u.ue = false → Completes (.scrubScan i k cyc) s fun t => t.dev.upsets = s.dev.upsets.filter (fun x => !(x == u)) ∧ ce t ∧
          t.dev.scrub.reads = s.dev.scrub.reads ∧ KeepsHarts s t ∧
          (∀ b f, i = .lath b f → t.dev.reg (R.lth_CFG_CE b) = satAdd (s.dev.reg (R.lth_CFG_CE b)) 1) ∧
          ∀ o, (∀ b f, i = .lath b f → o ≠ R.lth_CFG_CE b) → o ∉ [R.snd_PROGRESS_SIG, R.snd_SND_STATUS, R.snd_CE i.cls] → t.dev.reg o = s.dev.reg o) ∧
        (∀ u, ms = [u] → u.ue = true → Completes (.scrubScan i k cyc) s fun t => t.dev.upsets = s.dev.upsets ∧
          t.dev.reg (R.snd_UE i.cls) = satAdd (s.dev.reg (R.snd_UE i.cls)) 1 ∧ t.dev.reg (0xF0000 + 0x34) = satAdd (s.dev.reg (0xF0000 + 0x34)) 1 ∧ KeepsHarts s t ∧
          (∀ b f, i = .lath b f → t.dev.reg (R.lth_CFG_UE b) = satAdd (s.dev.reg (R.lth_CFG_UE b)) 1 ∧ t.dev.rf (0xF8000 + 0x20) 16 1 = 1) ∧
          (s.dev.rf R.snd_SND_CFG 8 1 = 0 ∨ i ∈ s.dev.scrub.reads → t.dev.scrub.reads = s.dev.scrub.reads) ∧
          (∀ g, s.dev.rf R.snd_SND_CFG 8 1 = 1 → s.dev.golden? i = some g → s.dev.goldenBad g.1 = false → i ∉ s.dev.scrub.reads →
            (∀ x ∈ s.dev.scrub.ready, x.2 ≠ i) → t.dev.scrub.reads = s.dev.scrub.reads ++ [i])))) ∧
    (∀ (s : State) (i : ScrubItem) (ue : Option Nat) (k cyc : Nat), let d := (s.dev.at k).atCyc cyc
      (i ∉ s.dev.scrub.reads ∨ d.scannable i cyc = false → Completes (.goldenReadDone i ue k cyc) s fun t => t.dev = d ∧ KeepsHarts s t) ∧
      (∀ g, i ∈ s.dev.scrub.reads → d.scannable i cyc = true → d.golden? i = some g →
        (∀ a, ue = some a → a < 2 ^ 32 → Completes (.goldenReadDone i ue k cyc) s fun t => i ∉ t.dev.scrub.reads ∧ t.dev.reg R.snd_REWRITES = s.dev.reg R.snd_REWRITES ∧
          t.dev.reg R.snd_GOLDEN_UE_COUNT = satAdd (s.dev.reg R.snd_GOLDEN_UE_COUNT) 1 ∧ t.dev.rf (0xF0000 + 0x20) 18 1 = 1 ∧
          (∀ r < 64, g.1 = .region r → t.dev.bit64 R.snd_GOLDEN_BAD_LO r = true) ∧ (g.1 = .base → t.dev.rf R.snd_BASE_GOLDEN_BAD 0 1 = 1) ∧ KeepsHarts s t) ∧
        (ue = none → s.dev.goldenBad g.1 = false →
          (∀ r, d.pauseFor i = some r → Completes (.goldenReadDone i ue k cyc) s fun t => i ∉ t.dev.scrub.reads ∧
            t.dev.scrub.ready = s.dev.scrub.ready ++ [(r, i)] ∧ KeepsRegs s t [R.snd_DEFERRED] ∧ KeepsHarts s t) ∧
          (d.pauseFor i = none → d.slotHeld i = true → Completes (.goldenReadDone i ue k cyc) s fun t => t.dev = d ∧ KeepsHarts s t) ∧
          (d.pauseFor i = none → d.slotHeld i = false → Completes (.goldenReadDone i ue k cyc) s fun t => i ∉ t.dev.scrub.reads ∧
            t.dev.reg R.snd_REWRITES = satAdd (s.dev.reg R.snd_REWRITES) 1 ∧ t.dev.rf (0xF0000 + 0x20) 17 1 = 1 ∧
            t.dev.marks i.words.1 i.words.2.1 i.words.2.2.1 i.words.2.2.2 = [] ∧
            KeepsRegs s t [R.snd_REWRITES, 0xF0000 + 0x20, R.hif_MSIX_DROPPED] ∧ KeepsHarts s t))))

/-- In a slot-0 stage cycle of a window without one, a pause of a running region with waiting items begins: 32 cycles for each of up to 16
items, counted, and debited to every frame in flight; the others wait for the next window and DEFERRED counts. In a cycle of another slot,
in a window that had one, or with nothing waiting, none begins. It ends 32 cycles for each item later. A pass that ends counts with its
length in us; one longer than 20 ms is SLOW. Copies that agree are taken; one that differs is rewritten, counted and an error; three that
differ halt scrubbing as a device fault, with a device reset of cause 5 and rung 3. SND_CFG is written by MGMT and SUPERVISOR alone. -/
def Obligations.ScrubPausesPassesAndSettings : Prop :=
  (∀ (s : State) (p : Fin 64) (k cyc : Nat), let d := (s.dev.at k).atCyc cyc
      let mine := s.dev.scrub.ready.filter fun x => x.1 == p.val
      let n := 32 * min 16 mine.length
      s.dev.arrayRuns = true →
      (runState (s.dev.pipeState p) = true → mine = [] ∨ cyc % 16 ≠ 0 ∨ p.val ∈ s.dev.scrub.paused ∨ (s.dev.pipe p).scrubWin = some d.window →
        Completes (.scrubPause p k cyc) s fun t => t.dev = d ∧ KeepsHarts s t) ∧
      (mine ≠ [] → cyc % 16 = 0 → p.val ∉ s.dev.scrub.paused → runState (s.dev.pipeState p) = true → (s.dev.pipe p).scrubWin ≠ some d.window →
        (∀ j ∈ s.dev.jobs, 4 < j.debits.length) → (s.dev.pipe p).occ.all (· == 0) = true → Completes (.scrubPause p k cyc) s fun t =>
          t.dev.scrub.paused = p.val :: s.dev.scrub.paused ∧ Store.get zeroN t.dev.scrub.ends p = cyc + n ∧ t.dev.regionRuns p = false ∧
          t.dev.scrub.ready = s.dev.scrub.ready.filter (fun x => !(x.1 == p.val)) ++ mine.drop 16 ∧ (t.dev.pipe p).scrubWin = some d.window ∧
          t.dev.reg R.snd_PAUSE_CYCLES = satAdd (s.dev.reg R.snd_PAUSE_CYCLES) n ∧
          t.dev.reg (R.snd_REGION_PAUSES p) = satAdd (s.dev.reg (R.snd_REGION_PAUSES p)) 1 ∧
          t.dev.reg R.snd_DEFERRED = (if mine.length ≤ 16 then s.dev.reg R.snd_DEFERRED else satAdd (s.dev.reg R.snd_DEFERRED) 1) ∧
          t.dev.jobs.map (fun j => j.debits.getD 3 0) =
            s.dev.jobs.map (fun j => j.debits.getD 3 0 + if j.isFrame && j.pipe == p.val && j.inFlight then n else 0) ∧ KeepsHarts s t) ∧
      (p.val ∈ s.dev.scrub.paused → Store.get zeroN s.dev.scrub.ends p ≤ cyc → Completes (.scrubPauseEnd p k cyc) s fun t => p.val ∉ t.dev.scrub.paused ∧
        (∀ r, r ≠ p.val → (r ∈ t.dev.scrub.paused ↔ r ∈ s.dev.scrub.paused)) ∧ KeepsRegs s t [] ∧ KeepsHarts s t) ∧
      (p.val ∉ s.dev.scrub.paused ∨ cyc < Store.get zeroN s.dev.scrub.ends p → Completes (.scrubPauseEnd p k cyc) s fun t => t.dev = d ∧ KeepsHarts s t)) ∧
    (∀ (s : State) (k : Nat), let n := (s.dev.at k).now.tick - s.dev.scrub.passTick
      (s.dev.scrubbing = false → Completes (.scrubPassDone k) s fun t => t.dev = s.dev.at k ∧ KeepsHarts s t) ∧
      (s.dev.scrubbing = true → Completes (.scrubPassDone k) s fun t => t.dev.reg R.snd_PASS_COUNT = satAdd (s.dev.reg R.snd_PASS_COUNT) 1 ∧
        t.dev.reg R.snd_LAST_PASS_US = wd (n / 1000) ∧ t.dev.scrub.sigs = [] ∧ t.dev.scrub.passTick = (s.dev.at k).now.tick ∧
        (20000000 < n → t.dev.rf R.snd_SND_STATUS 2 1 = 1 ∧ t.dev.rf (0xF0000 + 0x20) 19 1 = 1) ∧
        (n ≤ 20000000 → KeepsRegs s t [R.snd_PASS_COUNT, R.snd_LAST_PASS_US]) ∧ KeepsHarts s t)) ∧
    (∀ (s : State) (f0 f1 f2 : BitVec 32) (k : Nat), s.dev.boot.core = true → s.dev.boot.devReset = none → s.dev.rf R.snd_SND_STATUS 1 1 = 0 →
      let copy := fun (j : Nat) (f : BitVec 32) => s.dev.reg R.snd_SND_CFG ^^^ Store.get zeroW s.dev.scrub.copies j ^^^ (f &&& sndMask)
      (copy 0 f0 = copy 1 f1 → copy 1 f1 = copy 2 f2 → Completes (.sndVote f0 f1 f2 k) s fun t => t.dev.reg R.snd_SND_CFG = copy 0 f0 ∧
        t.dev.scrub.copies = [] ∧ KeepsRegs s t [R.snd_SND_CFG] ∧ KeepsHarts s t) ∧
      (∀ x n, copy 0 f0 = x ∧ copy 1 f1 = x ∧ copy 2 f2 ≠ x ∧ n = 2 ∨ copy 0 f0 = x ∧ copy 2 f2 = x ∧ copy 1 f1 ≠ x ∧ n = 1 ∨
          copy 1 f1 = x ∧ copy 2 f2 = x ∧ copy 0 f0 ≠ x ∧ n = 0 → Completes (.sndVote f0 f1 f2 k) s fun t => t.dev.reg R.snd_SND_CFG = x ∧
        t.dev.scrub.copies = [] ∧ t.dev.reg R.snd_TMR_FIX_COUNT = satAdd (s.dev.reg R.snd_TMR_FIX_COUNT) 1 ∧ t.dev.rf (0xF0000 + 0x20) 20 1 = 1 ∧
        t.dev.reg (0xF0000 + 0x34) = satAdd (s.dev.reg (0xF0000 + 0x34)) 1 ∧
        (s.dev.rf (0xF0000 + 0x30) 31 1 = 0 → t.dev.reg (0xF0000 + 0x38) = wd n) ∧ KeepsHarts s t) ∧
      (copy 0 f0 ≠ copy 1 f1 → copy 0 f0 ≠ copy 2 f2 → copy 1 f1 ≠ copy 2 f2 → Completes (.sndVote f0 f1 f2 k) s fun t =>
        t.dev.boot.devReset = some 5 ∧ t.dev.rf R.flt_DEV_FAULT 0 1 = 1 ∧ t.dev.rung = 3 ∧ KeepsHarts s t)) ∧
    (∀ (s : State) (q : Req), Writes s q R.snd_SND_CFG = true →
      (portCode q.port = 0 ∨ portCode q.port = 7 → Completes (.sndCfgWrite q) s fun t => t.dev.reg R.snd_SND_CFG = q.data &&& 0x11F ∧
        t.dev.scrub.copies = [] ∧ KeepsRegs s t [R.snd_SND_CFG] ∧ KeepsHarts s t) ∧
      (portCode q.port ≠ 0 → portCode q.port ≠ 7 → Completes (.sndCfgWrite q) s fun t => t.dev.reg R.snd_SND_CFG = s.dev.reg R.snd_SND_CFG ∧
        t.dev.scrub = s.dev.scrub ∧ t.dev.reg (0xF0000 + 0x34) = satAdd (s.dev.reg (0xF0000 + 0x34)) 1 ∧ KeepsHarts s t))

/-- An action below the present rung is refused with STATE and changes nothing else; any other is performed, its rung set, and a climb
loads the rung's limit: a queue is disabled and reset, a tenant's jobs and queue settings are discarded, a pipeline resets, the device
resets with cause 3 from MGMT and 4 from SUPERVISOR. Another port is refused as an error. CLEAR disarms. The timer of rung 1 or 2 that
runs out resets the device with cause 5 at rung 3; that of rung 3 does so once more, and the second time stops the array. The supervisor
watchdog first restarts faulted harts and resets the device; the second time it asserts CYCLE_REQ_N. -/
def Obligations.LadderCommandsAndTimersRecover : Prop :=
  (∀ (s : State) (q : Req), Writes s q R.flt_LADDER_CMD = true → ∀ c ∈ ([(.ladderRetry, 1, 1), (.ladderQueueReset, 2, 2), (.ladderTenantReset, 3, 2), (.ladderPipelineReset, 4, 2),
        (.ladderDeviceReset, 5, 3)] : List ((Req → Instr) × Nat × Nat)),
      let n := fld q.data 8 16
      let done := fun (t : State) => t.dev.reg R.flt_LADDER_RESULT = 1 ∧ t.dev.rung = c.2.2 ∧
        (s.dev.rung < c.2.2 → t.dev.reg R.flt_LADDER_STATE = wd (c.2.2 + 65536 * s.dev.rn (R.flt_LIMIT (c.2.2 - 1)))) ∧ KeepsHarts s t
      (fld q.data 0 3 ≠ c.2.1 → Completes (c.1 q) s fun t => t.dev = s.dev.at q.t ∧ KeepsHarts s t) ∧
      (fld q.data 0 3 = c.2.1 → portCode q.port ≠ 0 → portCode q.port ≠ 7 → Completes (c.1 q) s fun t => t.dev.boot = s.dev.boot ∧
        t.dev.reg R.flt_LADDER_STATE = s.dev.reg R.flt_LADDER_STATE ∧ t.dev.reg (0xF000 + 0x34) = satAdd (s.dev.reg (0xF000 + 0x34)) 1 ∧ KeepsHarts s t) ∧
      (fld q.data 0 3 = c.2.1 → portCode q.port = 0 ∨ portCode q.port = 7 →
        (c.2.2 < s.dev.rung → Completes (c.1 q) s fun t => t.dev.reg R.flt_LADDER_RESULT = 2 ∧ KeepsRegs s t [R.flt_LADDER_RESULT] ∧ RegsOnly s t) ∧
        (s.dev.rung ≤ c.2.2 → Completes (c.1 q) s fun t => done t ∧
          (c.2.1 = 1 → KeepsRegs s t [R.flt_LADDER_RESULT, R.flt_LADDER_STATE]) ∧
          (c.2.1 = 2 → t.dev.qEnabled n = false ∧ (t.dev.queue n).resetTick.isSome = true) ∧
          (c.2.1 = 3 → n < 1024 → (∀ j ∈ t.dev.jobs, tenantOf j.q = n → j.orphan = true) ∧
            ∀ g, g / 64 = n → t.dev.reg (R.qst_QCTL g) = resetOf (R.qst_QCTL g)) ∧
          (c.2.1 = 4 → n < 64 → s.dev.pipeState n ≠ 0 → s.dev.pipeState n ≠ 6 → t.dev.pipeResetting n = true) ∧
          (c.2.1 = 5 → s.dev.boot.core = true → s.dev.boot.devReset = none → t.dev.boot.devReset = some (if portCode q.port = 0 then 3 else 4))))) ∧
    (∀ (s : State) (q : Req), Writes s q R.flt_LADDER_CMD = true → fld q.data 0 3 = 6 → portCode q.port = 0 ∨ portCode q.port = 7 →
      Completes (.ladderClear q) s fun t => t.dev.reg R.flt_LADDER_STATE = 0 ∧ t.dev.reg R.flt_LADDER_RESULT = 1 ∧
        KeepsRegs s t [R.flt_LADDER_STATE, R.flt_LADDER_RESULT] ∧ RegsOnly s t) ∧
    (∀ (s : State) (k : Nat), let over_ := s.dev.ladderEnd ≤ (s.dev.at k).now.tick ∧ s.dev.rf R.flt_DEV_FAULT 1 1 = 0
      (s.dev.rung = 0 ∨ ¬over_ → Completes (.ladderExpiry k) s fun t => t.dev = s.dev.at k ∧ KeepsHarts s t) ∧
      (over_ → s.dev.boot.core = true → s.dev.boot.devReset = none → s.dev.rung = 1 ∨ s.dev.rung = 2 → Completes (.ladderExpiry k) s fun t =>
        t.dev.boot.devReset = some 5 ∧ t.dev.reg R.flt_LADDER_STATE = wd (3 + 65536 * s.dev.rn (R.flt_LIMIT 2)) ∧
        t.dev.reg R.flt_ESCALATIONS = satAdd (s.dev.reg R.flt_ESCALATIONS) 1 ∧ t.dev.rf (0xF000 + 0x20) 17 1 = 1 ∧ KeepsHarts s t) ∧
      (over_ → s.dev.boot.core = true → s.dev.boot.devReset = none → s.dev.rung = 3 → s.dev.rf R.flt_LADDER_STATE 2 1 = 0 → Completes (.ladderExpiry k) s fun t =>
        t.dev.boot.devReset = some 5 ∧ t.dev.rung = 3 ∧ t.dev.rf R.flt_LADDER_STATE 2 1 = 1 ∧
        t.dev.reg R.flt_ESCALATIONS = s.dev.reg R.flt_ESCALATIONS ∧ KeepsHarts s t) ∧
      (over_ → s.dev.rung = 3 → s.dev.rf R.flt_LADDER_STATE 2 1 = 1 → Completes (.ladderExpiry k) s fun t => t.dev.rf R.flt_DEV_FAULT 1 1 = 1 ∧
        t.dev.arrayRuns = false ∧ t.dev.boot = s.dev.boot ∧ KeepsHarts s t)) ∧
    (∀ (s : State) (k : Nat), let now := (s.dev.at k).now.tick
      let ms := 1000000 * s.dev.rf R.flt_SWD_CFG 0 10
      ((s.dev.sup.swd = none ∨ ∃ x, s.dev.sup.swd = some x ∧ now < x + ms) ∨ 2 ≤ s.dev.rf R.flt_SWD_STATE 0 2 →
        Completes (.swdExpiry k) s fun t => t.dev = s.dev.at k ∧ KeepsHarts s t) ∧
      (∀ x, s.dev.sup.swd = some x → x + ms ≤ now →
        (s.dev.rf R.flt_SWD_STATE 0 2 = 0 → Completes (.swdExpiry k) s fun t => t.dev.rf R.flt_SWD_STATE 0 2 = 1 ∧
          t.dev.reg R.flt_SWD_EXPIRIES = satAdd (s.dev.reg R.flt_SWD_EXPIRIES) 1 ∧ t.dev.rf R.flt_DEV_FAULT 0 1 = 1 ∧ t.dev.rung = 3 ∧
          (s.dev.boot.core = true → s.dev.boot.devReset = none → t.dev.boot.devReset = some 5) ∧ t.pending = s.pending ∧
          ∀ h < 4, ((s.hart h).st = .faulted → (t.hart h).st = .idle ∧ (t.hart h).loops = [] ∧ (t.hart h).calls = []) ∧
            ((s.hart h).st ≠ .faulted → t.hart h = s.hart h)) ∧
        (s.dev.rf R.flt_SWD_STATE 0 2 = 1 → Completes (.swdExpiry k) s fun t => t.dev.rf R.flt_SWD_STATE 0 2 = 2 ∧
          t.dev.reg R.flt_SWD_EXPIRIES = satAdd (s.dev.reg R.flt_SWD_EXPIRIES) 1 ∧ t.dev.rf R.iob_PRESENCE_STATUS 2 1 = 1 ∧
          t.dev.boot = s.dev.boot ∧ KeepsHarts s t)))

/-- At a sample point of a running pipeline whose interval is open, each sampled port adds one to the bucket of its occupancy and the
point counts; at any other time nothing changes. After PERIOD points the histograms of the pipeline start again, one record created for
each stage. While the ring is enabled and not full, the oldest record held goes to its slot and TRACE_WR counts; the mirror is then
written once, with its event. TRACE_RD moves only up to TRACE_WR. QSEL and TSEL in range capture the counts of their queue or tenant for
their requester alone; out of range they are an error. CLEAR zeroes the counts of the selected tenant. -/
def Obligations.SamplingTraceAndCountsAreKept : Prop :=
  (∀ (s : State) (p : Fin 64) (k cyc : Nat), let d := (s.dev.at k).atCyc cyc
      let x := s.dev.samp p
      let point := runState (s.dev.pipeState p) = true ∧ s.dev.pipeResetting p = false ∧ s.dev.sampleK p ≠ 0 ∧ cyc % 2 ^ s.dev.sampleK p = 0 ∧ x.last ≤ cyc ∧
        x.points < s.dev.samplePeriod p
      s.dev.arrayRuns = true →
      (point → Completes (.queueSample p k cyc) s fun t => KeepsRegs s t [] ∧ (t.dev.samp p).points = x.points + 1 ∧ (t.dev.samp p).tick = d.now.tick ∧
        (∀ b, Store.get zeroN s.dev.trace.hist b + (s.dev.readings p cyc).count b ≤ wordMax →
          Store.get zeroN t.dev.trace.hist b = Store.get zeroN s.dev.trace.hist b + (s.dev.readings p cyc).count b) ∧
        { t.dev.trace with hist := s.dev.trace.hist, samp := s.dev.trace.samp } = s.dev.trace ∧ KeepsHarts s t) ∧
      (¬point → Completes (.queueSample p k cyc) s fun t => t.dev = d ∧ KeepsHarts s t) ∧
      (s.dev.samplePeriod p = 0 ∨ x.points < s.dev.samplePeriod p → Completes (.sampleIntervalEnd p k) s fun t => t.dev = s.dev.at k ∧ KeepsHarts s t) ∧
      (0 < s.dev.samplePeriod p → s.dev.samplePeriod p ≤ x.points → Completes (.sampleIntervalEnd p k) s fun t => (t.dev.samp p).points = 0 ∧
        (∀ b, Store.get zeroN t.dev.trace.hist b = if b / 4096 = p then 0 else Store.get zeroN s.dev.trace.hist b) ∧
        t.dev.rn R.obs_TRACE_SEQ = (s.dev.rn R.obs_TRACE_SEQ + (s.dev.histStages p).length) % 2 ^ 32 ∧
        (64 * (s.dev.trace.held.length + (s.dev.histStages p).length) ≤ s.dev.rf R.hbm_TRACE_SIZE 0 16 * 2 ^ 20 →
          t.dev.trace.held.length = s.dev.trace.held.length + (s.dev.histStages p).length ∧ KeepsRegs s t [R.obs_TRACE_SEQ]) ∧ KeepsHarts s t)) ∧
    (∀ (s : State) (k : Nat), let n := 2 ^ s.dev.rf R.obs_TRACE_CTRL 8 5
      let wr := s.dev.rn R.obs_TRACE_WR
      let room := s.dev.rf R.obs_TRACE_CTRL 0 1 = 1 ∧ u32sub wr (s.dev.rn R.obs_TRACE_RD) < n
      (s.dev.trace.held = [] ∨ ¬room → Completes (.traceRecordWrite k) s fun t => t.dev = s.dev.at k ∧ KeepsHarts s t) ∧
      (∀ r rest, s.dev.trace.held = r :: rest → room → s.dev.mayRequest 0 = true → Completes (.traceRecordWrite k) s fun t =>
        t.dev.out = .hostWrite 0 (s.dev.rn64 R.obs_TRACE_BASE_LO + wr % n * 64) r :: s.dev.out ∧ t.dev.trace.held = rest ∧
        t.dev.rn R.obs_TRACE_WR = (wr + 1) % 2 ^ 32 ∧ t.dev.trace.mirrorDue = true ∧ KeepsRegs s t [R.obs_TRACE_WR] ∧ KeepsHarts s t) ∧
      (s.dev.trace.mirrorDue = false → Completes (.traceMirrorWrite k) s fun t => t.dev = s.dev.at k ∧ KeepsHarts s t) ∧
      (s.dev.trace.mirrorDue = true → s.dev.mayRequest 0 = true → Completes (.traceMirrorWrite k) s fun t => t.dev.trace.mirrorDue = false ∧
        .hostWrite 0 (s.dev.rn64 R.obs_TRACE_MIRROR_LO) (leBytes 4 wr) ∈ t.dev.out ∧ t.dev.rf (0xF2000 + 0x20) 17 1 = 1 ∧
        (s.dev.rf (0xF2000 + 0x24) 17 1 = 0 → t.dev.out = .hostWrite 0 (s.dev.rn64 R.obs_TRACE_MIRROR_LO) (leBytes 4 wr) :: s.dev.out) ∧
        KeepsRegs s t [0xF2000 + 0x20, R.hif_MSIX_DROPPED] ∧ KeepsHarts s t)) ∧
    (∀ (s : State) (q : Req), let rd := s.dev.rn R.obs_TRACE_RD
      let key := reqKey q.port
      let n := q.data.toNat
      let refused := fun (c : Instr) (pg : Nat) => Completes c s fun t => t.dev.trace = s.dev.trace ∧ t.dev.reg R.obs_TRACE_RD = s.dev.reg R.obs_TRACE_RD ∧
        t.dev.reg (pg + 0x34) =
          satAdd (s.dev.reg (pg + 0x34)) 1 ∧ KeepsHarts s t
      (Writes s q R.obs_TRACE_RD = true → u32sub n rd ≤ u32sub (s.dev.rn R.obs_TRACE_WR) rd → Completes (.traceRdWrite q) s fun t =>
        t.dev.reg R.obs_TRACE_RD = q.data ∧ KeepsRegs s t [R.obs_TRACE_RD] ∧ RegsOnly s t) ∧
      (Writes s q R.obs_TRACE_RD = true → u32sub (s.dev.rn R.obs_TRACE_WR) rd < u32sub n rd → refused (.traceRdWrite q) (pageOf R.obs_TRACE_RD)) ∧
      (Writes s q R.obs_QSEL = true → n < 65536 → Completes (.qselWrite q) s fun t => Store.get zeroN t.dev.trace.qsel key = n ∧
        (∀ j, Store.get zeroN t.dev.trace.qcap j = if j / 4 = key then Store.get zeroN s.dev.trace.qcnt (4 * n + j % 4) else Store.get zeroN s.dev.trace.qcap j) ∧
        { t.dev.trace with qsel := s.dev.trace.qsel, qcap := s.dev.trace.qcap } = s.dev.trace ∧ KeepsRegs s t [] ∧ KeepsHarts s t) ∧
      (Writes s q R.obs_QSEL = true → 65536 ≤ n → refused (.qselWrite q) (pageOf R.obs_QSEL)) ∧
      (Writes s q R.obs_TSEL = true → n < 1024 → Completes (.tselWrite q) s fun t => Store.get zeroN t.dev.trace.tsel key = n ∧
        (∀ j, Store.get zeroN t.dev.trace.tcap j =
          if j / 32 = key ∧ j % 32 < 19 then Store.get zeroN s.dev.trace.tcnt (32 * n + j % 32) else Store.get zeroN s.dev.trace.tcap j) ∧
        { t.dev.trace with tsel := s.dev.trace.tsel, tcap := s.dev.trace.tcap } = s.dev.trace ∧ KeepsRegs s t [] ∧ KeepsHarts s t) ∧
      (Writes s q R.obs_TSEL = true → 1024 ≤ n → refused (.tselWrite q) (pageOf R.obs_TSEL)) ∧
      (Writes s q R.obs_TCTL = true → Completes (.tctlClear q) s fun t => KeepsRegs s t [] ∧ KeepsHarts s t ∧
        { t.dev.trace with tcnt := s.dev.trace.tcnt } = s.dev.trace ∧ ∀ j, Store.get zeroN t.dev.trace.tcnt j =
          if fld q.data 0 1 = 1 ∧ j / 32 = Store.get zeroN s.dev.trace.tsel key then 0 else Store.get zeroN s.dev.trace.tcnt j))

/-- For every state whose four harts are sound (pc and stack addresses are words; at most 4 loops and 8 calls open, each loop with 1 to
65,535 passes left; no call deeper in loops than a later one or than now, so that RET never finds fewer loops than its CALL left; an IDLE
hart with none open; distinct asynchronous places below 8; w0 zero) and whose scratchpad keeps its canonical form, if step answers a next
state, the same holds of it, whatever command was at the front of the queue. It holds of State.reset. -/
def Obligations.EveryStepKeepsTheHartsSound : Prop :=
  (∀ s t : State, HartsInv s → step s = .next t → HartsInv t) ∧ HartsInv State.reset

/-- After power-on reset the registers named hold the reset values of their tables (stage clock 300 MHz, scrub classes all enabled with
REWRITE_EN, ladder limits 100, 500 and 2,000 ms, the supervisor watchdog 1,000 ms, DEV_STATE AON, HART_STATE OFF, the port masks of the
PRT and SND pages, clear counts); no job, no commit, no event and no command waits; the scratchpad, HBM and the tiles hold nothing; CORE
is held in reset and the array does not run. -/
def Obligations.ResetHoldsTheStatedValues : Prop :=
  (∀ x ∈ [(R.pow_STAGE_CLK, 300), (R.pow_POW_STATUS, 300), (R.snd_SND_CFG, 0x11F), (R.flt_LIMIT 0, 100), (R.flt_LIMIT 1, 500), (R.flt_LIMIT 2, 2000),
        (R.flt_SWD_CFG, 1000), (R.sec_DEV_STATE, 1), (R.sup_HART_STATE 0, 0), (R.flt_LADDER_STATE, 0), (R.pgd_DENY_COUNT, 0), (R.obs_TRACE_CTRL, 0)],
      State.reset.dev.rn x.1 = x.2) ∧
    (∀ o, State.reset.dev.reg o = resetOf o) ∧ (∀ h, (State.reset.hart h).st = .off ∧ ∀ i, (State.reset.hart h).r i = 0) ∧
    State.reset.pending = [] ∧ State.reset.harts.sp = [] ∧ State.reset.dev.hbm = [] ∧ State.reset.dev.jobs = [] ∧ State.reset.dev.pend = [] ∧
    State.reset.dev.arriving = [] ∧ State.reset.dev.tiles = [] ∧ State.reset.dev.boot.core = false ∧ State.reset.dev.arrayRuns = false
end

