-- ==== Sys2Proof/Laws/Access.lean ====
section
/-! SUPPORT. Laws/Access.lean: what an access that its page performs does: exactly what its effect says, at the register it names. -/
namespace Sys2Proof.Machine

/-- An access that reaches its page acts there, and does nothing else. -/
theorem Device.access_of_reaches {d : Device} {p : Port} {a : Nat} {be : BitVec 4} {len : Nat} {write : Bool}
    {k : Nat → Device → Device} (h : d.reaches p a be len write = true) :
    d.access p a be len write k = k (((d.resolve p a).map d.alias_).getD 0) d := by
  unfold Device.reaches at h
  unfold Device.access
  cases hr : d.resolve p a with
  | none => simp [hr] at h
  | some raw =>
    simp only [hr, Option.map_some, Bool.and_eq_true, Bool.not_eq_true', Bool.or_eq_false_iff, Bool.and_eq_false_iff,
      decide_eq_false_iff_not, bne_eq_false_iff_eq] at h
    obtain ⟨⟨h1, h2⟩, ⟨⟨⟨⟨⟨h3, h4⟩, h5⟩, h6⟩, h7⟩, h8⟩⟩ := h
    have h9 : ¬(67108864 ≤ d.alias_ raw ∧ (be ≠ 15 ∨ len ≠ 4)) := by
      rintro ⟨x, y⟩
      rcases h6 with h6 | h6
      · exact h6 x
      · rcases y with y | y
        · exact y h6.1
        · exact y h6.2
    have h10 : ¬(64 < len ∨ 4096 < d.alias_ raw % 4096 + len) := by
      rintro (x | x)
      · exact h7.1 x
      · exact h7.2 x
    have h11 : ¬((write && decide (be ≠ 15)) = true) := by
      rcases h8 with h8 | h8
      · simp [h8]
      · simp [h8]
    simp only [h1, h2, h3, h4, h5, Bool.not_true, Bool.or_false, Option.map_some, Option.getD_some]
    simp only [Bool.false_eq_true, if_false]
    rw [if_neg h9, if_neg h10, if_neg h11]

/-- A command that writes one register has its effect where the write is performed. -/
theorem Device.writeAt_of_writes {s : State} {q : Req} {off : Nat} {k : Device → Device} (h : Writes s q off = true) :
    s.dev.writeAt q off k = k (s.dev.at q.t) := by
  unfold Writes at h
  unfold Device.writeAt
  cases ho : (s.dev.at q.t).ownOffset q.port off with
  | none => simp [ho] at h
  | some a =>
    simp only [ho] at h ⊢
    exact Device.access_of_reaches h

/-- A command of an access has its effect where the access is performed as a write of a word that the command names. -/
theorem Device.writeOf_of_writes {s : State} {a : Access} {off : Nat} {p : Nat → Bool} {k : Nat → Device → Device}
    (h : WritesAt s a off = true) (hp : p off = true) : s.dev.writeOf a p k = k off (s.dev.at a.t) := by
  unfold WritesAt at h
  unfold Device.writeOf Device.target
  cases ht : a.target with
  | page x =>
    simp only [ht, Bool.and_eq_true, beq_iff_eq] at h ⊢
    obtain ⟨h1, h2⟩ := h
    simp only [h1, hp, if_true]
    rw [Device.access_of_reaches h2, h1, Option.getD_some]
  | msix f v w => simp [ht] at h
  | cfg f c => simp [ht] at h

end Sys2Proof.Machine
end

