-- ==== Sys2Proof/Laws/State.lean ====
section
/-! SUPPORT. Laws/State.lean: what each update of State and Device leaves alone, one lemma per field, true by definition. -/
namespace Sys2Proof.Machine

@[simp] theorem State.onDevice_dev (s : State) (f : Device → Device) : (s.onDevice f).dev = f s.dev := rfl
@[simp] theorem State.onDevice_harts (s : State) (f : Device → Device) : (s.onDevice f).harts = s.harts := rfl
@[simp] theorem State.onDevice_pending (s : State) (f : Device → Device) : (s.onDevice f).pending = s.pending := rfl
@[simp] theorem State.onDevice_hart (s : State) (f : Device → Device) (h : Nat) : (s.onDevice f).hart h = s.hart h := rfl
@[simp] theorem State.setHart_dev (s : State) (h : Nat) (x : Hart) : (s.setHart h x).dev = s.dev := rfl
@[simp] theorem State.setHart_sp (s : State) (h : Nat) (x : Hart) : (s.setHart h x).harts.sp = s.harts.sp := rfl
@[simp] theorem State.setHart_pending (s : State) (h : Nat) (x : Hart) : (s.setHart h x).pending = s.pending := rfl

/-! The register writes are all setReg. -/

@[simp] theorem Device.setN_eq (d : Device) (o n : Nat) : d.setN o n = d.setReg o (wd n) := rfl
@[simp] theorem Device.setF_eq (d : Device) (o lo w x : Nat) : d.setF o lo w x = d.setReg o (setFld (d.reg o) lo w x) := rfl
@[simp] theorem Device.count_eq (d : Device) (o k : Nat) : d.count o k = d.setReg o (satAdd (d.reg o) k) := rfl
@[simp] theorem Device.rf_eq (d : Device) (o lo w : Nat) : d.rf o lo w = fld (d.reg o) lo w := rfl
@[simp] theorem Device.rn_eq (d : Device) (o : Nat) : d.rn o = (d.reg o).toNat := rfl

/-! setReg changes regs alone. -/

@[simp] theorem Device.setReg_now (d : Device) (o : Nat) (v : Word) : (d.setReg o v).now = d.now := rfl
@[simp] theorem Device.setReg_shadow (d : Device) (o : Nat) (v : Word) : (d.setReg o v).shadow = d.shadow := rfl
@[simp] theorem Device.setReg_pend (d : Device) (o : Nat) (v : Word) : (d.setReg o v).pend = d.pend := rfl
@[simp] theorem Device.setReg_pairs (d : Device) (o : Nat) (v : Word) : (d.setReg o v).pairs = d.pairs := rfl
@[simp] theorem Device.setReg_out (d : Device) (o : Nat) (v : Word) : (d.setReg o v).out = d.out := rfl
@[simp] theorem Device.setReg_free (d : Device) (o : Nat) (v : Word) : (d.setReg o v).free = d.free := rfl
@[simp] theorem Device.setReg_hif (d : Device) (o : Nat) (v : Word) : (d.setReg o v).hif = d.hif := rfl
@[simp] theorem Device.setReg_fltLog (d : Device) (o : Nat) (v : Word) : (d.setReg o v).fltLog = d.fltLog := rfl
@[simp] theorem Device.setReg_ladderTick (d : Device) (o : Nat) (v : Word) : (d.setReg o v).ladderTick = d.ladderTick := rfl
@[simp] theorem Device.setReg_arriving (d : Device) (o : Nat) (v : Word) : (d.setReg o v).arriving = d.arriving := rfl
@[simp] theorem Device.setReg_boot (d : Device) (o : Nat) (v : Word) : (d.setReg o v).boot = d.boot := rfl
@[simp] theorem Device.setReg_plb (d : Device) (o : Nat) (v : Word) : (d.setReg o v).plb = d.plb := rfl
@[simp] theorem Device.setReg_jobs (d : Device) (o : Nat) (v : Word) : (d.setReg o v).jobs = d.jobs := rfl
@[simp] theorem Device.setReg_nextJob (d : Device) (o : Nat) (v : Word) : (d.setReg o v).nextJob = d.nextJob := rfl
@[simp] theorem Device.setReg_pipes (d : Device) (o : Nat) (v : Word) : (d.setReg o v).pipes = d.pipes := rfl
@[simp] theorem Device.setReg_queues (d : Device) (o : Nat) (v : Word) : (d.setReg o v).queues = d.queues := rfl
@[simp] theorem Device.setReg_qen (d : Device) (o : Nat) (v : Word) : (d.setReg o v).qen = d.qen := rfl
@[simp] theorem Device.setReg_edge (d : Device) (o : Nat) (v : Word) : (d.setReg o v).edge = d.edge := rfl
@[simp] theorem Device.setReg_trace (d : Device) (o : Nat) (v : Word) : (d.setReg o v).trace = d.trace := rfl
@[simp] theorem Device.setReg_upsets (d : Device) (o : Nat) (v : Word) : (d.setReg o v).upsets = d.upsets := rfl
@[simp] theorem Device.setReg_tiles (d : Device) (o : Nat) (v : Word) : (d.setReg o v).tiles = d.tiles := rfl
@[simp] theorem Device.setReg_tmem (d : Device) (o : Nat) (v : Word) : (d.setReg o v).tmem = d.tmem := rfl
@[simp] theorem Device.setReg_scrim (d : Device) (o : Nat) (v : Word) : (d.setReg o v).scrim = d.scrim := rfl
@[simp] theorem Device.setReg_slices (d : Device) (o : Nat) (v : Word) : (d.setReg o v).slices = d.slices := rfl
@[simp] theorem Device.setReg_fills (d : Device) (o : Nat) (v : Word) : (d.setReg o v).fills = d.fills := rfl
@[simp] theorem Device.setReg_fillReqs (d : Device) (o : Nat) (v : Word) : (d.setReg o v).fillReqs = d.fillReqs := rfl
@[simp] theorem Device.setReg_slotUse (d : Device) (o : Nat) (v : Word) : (d.setReg o v).slotUse = d.slotUse := rfl
@[simp] theorem Device.setReg_slotClock (d : Device) (o : Nat) (v : Word) : (d.setReg o v).slotClock = d.slotClock := rfl
@[simp] theorem Device.setReg_lib (d : Device) (o : Nat) (v : Word) : (d.setReg o v).lib = d.lib := rfl
@[simp] theorem Device.setReg_scrub (d : Device) (o : Nat) (v : Word) : (d.setReg o v).scrub = d.scrub := rfl
@[simp] theorem Device.setReg_tapes (d : Device) (o : Nat) (v : Word) : (d.setReg o v).tapes = d.tapes := rfl
@[simp] theorem Device.setReg_hbm (d : Device) (o : Nat) (v : Word) : (d.setReg o v).hbm = d.hbm := rfl
@[simp] theorem Device.setReg_hbmUe (d : Device) (o : Nat) (v : Word) : (d.setReg o v).hbmUe = d.hbmUe := rfl
@[simp] theorem Device.setReg_loader (d : Device) (o : Nat) (v : Word) : (d.setReg o v).loader = d.loader := rfl
@[simp] theorem Device.setReg_golden (d : Device) (o : Nat) (v : Word) : (d.setReg o v).golden = d.golden := rfl
@[simp] theorem Device.setReg_sup (d : Device) (o : Nat) (v : Word) : (d.setReg o v).sup = d.sup := rfl
@[simp] theorem Device.setReg_pow (d : Device) (o : Nat) (v : Word) : (d.setReg o v).pow = d.pow := rfl
@[simp] theorem Device.setReg_lath (d : Device) (o : Nat) (v : Word) : (d.setReg o v).lath = d.lath := rfl
@[simp] theorem Device.setReg_board (d : Device) (o : Nat) (v : Word) : (d.setReg o v).board = d.board := rfl
@[simp] theorem Device.setReg_lwl (d : Device) (o : Nat) (v : Word) : (d.setReg o v).lwl = d.lwl := rfl
@[simp] theorem Device.setReg_sbBusy (d : Device) (o : Nat) (v : Word) : (d.setReg o v).sbBusy = d.sbBusy := rfl
@[simp] theorem Device.setReg_sh (d : Device) (o : Nat) (v : Word) (p : Nat) : (d.setReg o v).sh p = d.sh p := rfl

/-! setSh changes shadow alone. -/

@[simp] theorem Device.setSh_now (d : Device) (o : Nat) (v : Word) : (d.setSh o v).now = d.now := rfl
@[simp] theorem Device.setSh_regs (d : Device) (o : Nat) (v : Word) : (d.setSh o v).regs = d.regs := rfl
@[simp] theorem Device.setSh_pend (d : Device) (o : Nat) (v : Word) : (d.setSh o v).pend = d.pend := rfl
@[simp] theorem Device.setSh_pairs (d : Device) (o : Nat) (v : Word) : (d.setSh o v).pairs = d.pairs := rfl
@[simp] theorem Device.setSh_out (d : Device) (o : Nat) (v : Word) : (d.setSh o v).out = d.out := rfl
@[simp] theorem Device.setSh_free (d : Device) (o : Nat) (v : Word) : (d.setSh o v).free = d.free := rfl
@[simp] theorem Device.setSh_hif (d : Device) (o : Nat) (v : Word) : (d.setSh o v).hif = d.hif := rfl
@[simp] theorem Device.setSh_fltLog (d : Device) (o : Nat) (v : Word) : (d.setSh o v).fltLog = d.fltLog := rfl
@[simp] theorem Device.setSh_ladderTick (d : Device) (o : Nat) (v : Word) : (d.setSh o v).ladderTick = d.ladderTick := rfl
@[simp] theorem Device.setSh_arriving (d : Device) (o : Nat) (v : Word) : (d.setSh o v).arriving = d.arriving := rfl
@[simp] theorem Device.setSh_boot (d : Device) (o : Nat) (v : Word) : (d.setSh o v).boot = d.boot := rfl
@[simp] theorem Device.setSh_plb (d : Device) (o : Nat) (v : Word) : (d.setSh o v).plb = d.plb := rfl
@[simp] theorem Device.setSh_jobs (d : Device) (o : Nat) (v : Word) : (d.setSh o v).jobs = d.jobs := rfl
@[simp] theorem Device.setSh_nextJob (d : Device) (o : Nat) (v : Word) : (d.setSh o v).nextJob = d.nextJob := rfl
@[simp] theorem Device.setSh_pipes (d : Device) (o : Nat) (v : Word) : (d.setSh o v).pipes = d.pipes := rfl
@[simp] theorem Device.setSh_queues (d : Device) (o : Nat) (v : Word) : (d.setSh o v).queues = d.queues := rfl
@[simp] theorem Device.setSh_qen (d : Device) (o : Nat) (v : Word) : (d.setSh o v).qen = d.qen := rfl
@[simp] theorem Device.setSh_edge (d : Device) (o : Nat) (v : Word) : (d.setSh o v).edge = d.edge := rfl
@[simp] theorem Device.setSh_trace (d : Device) (o : Nat) (v : Word) : (d.setSh o v).trace = d.trace := rfl
@[simp] theorem Device.setSh_upsets (d : Device) (o : Nat) (v : Word) : (d.setSh o v).upsets = d.upsets := rfl
@[simp] theorem Device.setSh_tiles (d : Device) (o : Nat) (v : Word) : (d.setSh o v).tiles = d.tiles := rfl
@[simp] theorem Device.setSh_tmem (d : Device) (o : Nat) (v : Word) : (d.setSh o v).tmem = d.tmem := rfl
@[simp] theorem Device.setSh_scrim (d : Device) (o : Nat) (v : Word) : (d.setSh o v).scrim = d.scrim := rfl
@[simp] theorem Device.setSh_slices (d : Device) (o : Nat) (v : Word) : (d.setSh o v).slices = d.slices := rfl
@[simp] theorem Device.setSh_fills (d : Device) (o : Nat) (v : Word) : (d.setSh o v).fills = d.fills := rfl
@[simp] theorem Device.setSh_fillReqs (d : Device) (o : Nat) (v : Word) : (d.setSh o v).fillReqs = d.fillReqs := rfl
@[simp] theorem Device.setSh_slotUse (d : Device) (o : Nat) (v : Word) : (d.setSh o v).slotUse = d.slotUse := rfl
@[simp] theorem Device.setSh_slotClock (d : Device) (o : Nat) (v : Word) : (d.setSh o v).slotClock = d.slotClock := rfl
@[simp] theorem Device.setSh_lib (d : Device) (o : Nat) (v : Word) : (d.setSh o v).lib = d.lib := rfl
@[simp] theorem Device.setSh_scrub (d : Device) (o : Nat) (v : Word) : (d.setSh o v).scrub = d.scrub := rfl
@[simp] theorem Device.setSh_tapes (d : Device) (o : Nat) (v : Word) : (d.setSh o v).tapes = d.tapes := rfl
@[simp] theorem Device.setSh_hbm (d : Device) (o : Nat) (v : Word) : (d.setSh o v).hbm = d.hbm := rfl
@[simp] theorem Device.setSh_hbmUe (d : Device) (o : Nat) (v : Word) : (d.setSh o v).hbmUe = d.hbmUe := rfl
@[simp] theorem Device.setSh_loader (d : Device) (o : Nat) (v : Word) : (d.setSh o v).loader = d.loader := rfl
@[simp] theorem Device.setSh_golden (d : Device) (o : Nat) (v : Word) : (d.setSh o v).golden = d.golden := rfl
@[simp] theorem Device.setSh_sup (d : Device) (o : Nat) (v : Word) : (d.setSh o v).sup = d.sup := rfl
@[simp] theorem Device.setSh_pow (d : Device) (o : Nat) (v : Word) : (d.setSh o v).pow = d.pow := rfl
@[simp] theorem Device.setSh_lath (d : Device) (o : Nat) (v : Word) : (d.setSh o v).lath = d.lath := rfl
@[simp] theorem Device.setSh_board (d : Device) (o : Nat) (v : Word) : (d.setSh o v).board = d.board := rfl
@[simp] theorem Device.setSh_lwl (d : Device) (o : Nat) (v : Word) : (d.setSh o v).lwl = d.lwl := rfl
@[simp] theorem Device.setSh_sbBusy (d : Device) (o : Nat) (v : Word) : (d.setSh o v).sbBusy = d.sbBusy := rfl
@[simp] theorem Device.setSh_reg (d : Device) (o : Nat) (v : Word) (p : Nat) : (d.setSh o v).reg p = d.reg p := rfl

/-! at changes now alone. -/

@[simp] theorem Device.at_regs (d : Device) (t : Nat) : (d.at t).regs = d.regs := rfl
@[simp] theorem Device.at_shadow (d : Device) (t : Nat) : (d.at t).shadow = d.shadow := rfl
@[simp] theorem Device.at_pend (d : Device) (t : Nat) : (d.at t).pend = d.pend := rfl
@[simp] theorem Device.at_pairs (d : Device) (t : Nat) : (d.at t).pairs = d.pairs := rfl
@[simp] theorem Device.at_out (d : Device) (t : Nat) : (d.at t).out = d.out := rfl
@[simp] theorem Device.at_free (d : Device) (t : Nat) : (d.at t).free = d.free := rfl
@[simp] theorem Device.at_hif (d : Device) (t : Nat) : (d.at t).hif = d.hif := rfl
@[simp] theorem Device.at_fltLog (d : Device) (t : Nat) : (d.at t).fltLog = d.fltLog := rfl
@[simp] theorem Device.at_ladderTick (d : Device) (t : Nat) : (d.at t).ladderTick = d.ladderTick := rfl
@[simp] theorem Device.at_arriving (d : Device) (t : Nat) : (d.at t).arriving = d.arriving := rfl
@[simp] theorem Device.at_boot (d : Device) (t : Nat) : (d.at t).boot = d.boot := rfl
@[simp] theorem Device.at_plb (d : Device) (t : Nat) : (d.at t).plb = d.plb := rfl
@[simp] theorem Device.at_jobs (d : Device) (t : Nat) : (d.at t).jobs = d.jobs := rfl
@[simp] theorem Device.at_nextJob (d : Device) (t : Nat) : (d.at t).nextJob = d.nextJob := rfl
@[simp] theorem Device.at_pipes (d : Device) (t : Nat) : (d.at t).pipes = d.pipes := rfl
@[simp] theorem Device.at_queues (d : Device) (t : Nat) : (d.at t).queues = d.queues := rfl
@[simp] theorem Device.at_qen (d : Device) (t : Nat) : (d.at t).qen = d.qen := rfl
@[simp] theorem Device.at_edge (d : Device) (t : Nat) : (d.at t).edge = d.edge := rfl
@[simp] theorem Device.at_trace (d : Device) (t : Nat) : (d.at t).trace = d.trace := rfl
@[simp] theorem Device.at_upsets (d : Device) (t : Nat) : (d.at t).upsets = d.upsets := rfl
@[simp] theorem Device.at_tiles (d : Device) (t : Nat) : (d.at t).tiles = d.tiles := rfl
@[simp] theorem Device.at_tmem (d : Device) (t : Nat) : (d.at t).tmem = d.tmem := rfl
@[simp] theorem Device.at_scrim (d : Device) (t : Nat) : (d.at t).scrim = d.scrim := rfl
@[simp] theorem Device.at_slices (d : Device) (t : Nat) : (d.at t).slices = d.slices := rfl
@[simp] theorem Device.at_fills (d : Device) (t : Nat) : (d.at t).fills = d.fills := rfl
@[simp] theorem Device.at_fillReqs (d : Device) (t : Nat) : (d.at t).fillReqs = d.fillReqs := rfl
@[simp] theorem Device.at_slotUse (d : Device) (t : Nat) : (d.at t).slotUse = d.slotUse := rfl
@[simp] theorem Device.at_slotClock (d : Device) (t : Nat) : (d.at t).slotClock = d.slotClock := rfl
@[simp] theorem Device.at_lib (d : Device) (t : Nat) : (d.at t).lib = d.lib := rfl
@[simp] theorem Device.at_scrub (d : Device) (t : Nat) : (d.at t).scrub = d.scrub := rfl
@[simp] theorem Device.at_tapes (d : Device) (t : Nat) : (d.at t).tapes = d.tapes := rfl
@[simp] theorem Device.at_hbm (d : Device) (t : Nat) : (d.at t).hbm = d.hbm := rfl
@[simp] theorem Device.at_hbmUe (d : Device) (t : Nat) : (d.at t).hbmUe = d.hbmUe := rfl
@[simp] theorem Device.at_loader (d : Device) (t : Nat) : (d.at t).loader = d.loader := rfl
@[simp] theorem Device.at_golden (d : Device) (t : Nat) : (d.at t).golden = d.golden := rfl
@[simp] theorem Device.at_sup (d : Device) (t : Nat) : (d.at t).sup = d.sup := rfl
@[simp] theorem Device.at_pow (d : Device) (t : Nat) : (d.at t).pow = d.pow := rfl
@[simp] theorem Device.at_lath (d : Device) (t : Nat) : (d.at t).lath = d.lath := rfl
@[simp] theorem Device.at_board (d : Device) (t : Nat) : (d.at t).board = d.board := rfl
@[simp] theorem Device.at_lwl (d : Device) (t : Nat) : (d.at t).lwl = d.lwl := rfl
@[simp] theorem Device.at_sbBusy (d : Device) (t : Nat) : (d.at t).sbBusy = d.sbBusy := rfl
@[simp] theorem Device.at_reg (d : Device) (t : Nat) (p : Nat) : (d.at t).reg p = d.reg p := rfl
@[simp] theorem Device.at_sh (d : Device) (t : Nat) (p : Nat) : (d.at t).sh p = d.sh p := rfl

/-! atCyc changes now alone. -/

@[simp] theorem Device.atCyc_regs (d : Device) (c : Nat) : (d.atCyc c).regs = d.regs := rfl
@[simp] theorem Device.atCyc_shadow (d : Device) (c : Nat) : (d.atCyc c).shadow = d.shadow := rfl
@[simp] theorem Device.atCyc_pend (d : Device) (c : Nat) : (d.atCyc c).pend = d.pend := rfl
@[simp] theorem Device.atCyc_pairs (d : Device) (c : Nat) : (d.atCyc c).pairs = d.pairs := rfl
@[simp] theorem Device.atCyc_out (d : Device) (c : Nat) : (d.atCyc c).out = d.out := rfl
@[simp] theorem Device.atCyc_free (d : Device) (c : Nat) : (d.atCyc c).free = d.free := rfl
@[simp] theorem Device.atCyc_hif (d : Device) (c : Nat) : (d.atCyc c).hif = d.hif := rfl
@[simp] theorem Device.atCyc_fltLog (d : Device) (c : Nat) : (d.atCyc c).fltLog = d.fltLog := rfl
@[simp] theorem Device.atCyc_ladderTick (d : Device) (c : Nat) : (d.atCyc c).ladderTick = d.ladderTick := rfl
@[simp] theorem Device.atCyc_arriving (d : Device) (c : Nat) : (d.atCyc c).arriving = d.arriving := rfl
@[simp] theorem Device.atCyc_boot (d : Device) (c : Nat) : (d.atCyc c).boot = d.boot := rfl
@[simp] theorem Device.atCyc_plb (d : Device) (c : Nat) : (d.atCyc c).plb = d.plb := rfl
@[simp] theorem Device.atCyc_jobs (d : Device) (c : Nat) : (d.atCyc c).jobs = d.jobs := rfl
@[simp] theorem Device.atCyc_nextJob (d : Device) (c : Nat) : (d.atCyc c).nextJob = d.nextJob := rfl
@[simp] theorem Device.atCyc_pipes (d : Device) (c : Nat) : (d.atCyc c).pipes = d.pipes := rfl
@[simp] theorem Device.atCyc_queues (d : Device) (c : Nat) : (d.atCyc c).queues = d.queues := rfl
@[simp] theorem Device.atCyc_qen (d : Device) (c : Nat) : (d.atCyc c).qen = d.qen := rfl
@[simp] theorem Device.atCyc_edge (d : Device) (c : Nat) : (d.atCyc c).edge = d.edge := rfl
@[simp] theorem Device.atCyc_trace (d : Device) (c : Nat) : (d.atCyc c).trace = d.trace := rfl
@[simp] theorem Device.atCyc_upsets (d : Device) (c : Nat) : (d.atCyc c).upsets = d.upsets := rfl
@[simp] theorem Device.atCyc_tiles (d : Device) (c : Nat) : (d.atCyc c).tiles = d.tiles := rfl
@[simp] theorem Device.atCyc_tmem (d : Device) (c : Nat) : (d.atCyc c).tmem = d.tmem := rfl
@[simp] theorem Device.atCyc_scrim (d : Device) (c : Nat) : (d.atCyc c).scrim = d.scrim := rfl
@[simp] theorem Device.atCyc_slices (d : Device) (c : Nat) : (d.atCyc c).slices = d.slices := rfl
@[simp] theorem Device.atCyc_fills (d : Device) (c : Nat) : (d.atCyc c).fills = d.fills := rfl
@[simp] theorem Device.atCyc_fillReqs (d : Device) (c : Nat) : (d.atCyc c).fillReqs = d.fillReqs := rfl
@[simp] theorem Device.atCyc_slotUse (d : Device) (c : Nat) : (d.atCyc c).slotUse = d.slotUse := rfl
@[simp] theorem Device.atCyc_slotClock (d : Device) (c : Nat) : (d.atCyc c).slotClock = d.slotClock := rfl
@[simp] theorem Device.atCyc_lib (d : Device) (c : Nat) : (d.atCyc c).lib = d.lib := rfl
@[simp] theorem Device.atCyc_scrub (d : Device) (c : Nat) : (d.atCyc c).scrub = d.scrub := rfl
@[simp] theorem Device.atCyc_tapes (d : Device) (c : Nat) : (d.atCyc c).tapes = d.tapes := rfl
@[simp] theorem Device.atCyc_hbm (d : Device) (c : Nat) : (d.atCyc c).hbm = d.hbm := rfl
@[simp] theorem Device.atCyc_hbmUe (d : Device) (c : Nat) : (d.atCyc c).hbmUe = d.hbmUe := rfl
@[simp] theorem Device.atCyc_loader (d : Device) (c : Nat) : (d.atCyc c).loader = d.loader := rfl
@[simp] theorem Device.atCyc_golden (d : Device) (c : Nat) : (d.atCyc c).golden = d.golden := rfl
@[simp] theorem Device.atCyc_sup (d : Device) (c : Nat) : (d.atCyc c).sup = d.sup := rfl
@[simp] theorem Device.atCyc_pow (d : Device) (c : Nat) : (d.atCyc c).pow = d.pow := rfl
@[simp] theorem Device.atCyc_lath (d : Device) (c : Nat) : (d.atCyc c).lath = d.lath := rfl
@[simp] theorem Device.atCyc_board (d : Device) (c : Nat) : (d.atCyc c).board = d.board := rfl
@[simp] theorem Device.atCyc_lwl (d : Device) (c : Nat) : (d.atCyc c).lwl = d.lwl := rfl
@[simp] theorem Device.atCyc_sbBusy (d : Device) (c : Nat) : (d.atCyc c).sbBusy = d.sbBusy := rfl
@[simp] theorem Device.atCyc_reg (d : Device) (c : Nat) (p : Nat) : (d.atCyc c).reg p = d.reg p := rfl
@[simp] theorem Device.atCyc_sh (d : Device) (c : Nat) (p : Nat) : (d.atCyc c).sh p = d.sh p := rfl

/-! emit changes out alone. -/

@[simp] theorem Device.emit_now (d : Device) (o : Output) : (d.emit o).now = d.now := rfl
@[simp] theorem Device.emit_regs (d : Device) (o : Output) : (d.emit o).regs = d.regs := rfl
@[simp] theorem Device.emit_shadow (d : Device) (o : Output) : (d.emit o).shadow = d.shadow := rfl
@[simp] theorem Device.emit_pend (d : Device) (o : Output) : (d.emit o).pend = d.pend := rfl
@[simp] theorem Device.emit_pairs (d : Device) (o : Output) : (d.emit o).pairs = d.pairs := rfl
@[simp] theorem Device.emit_free (d : Device) (o : Output) : (d.emit o).free = d.free := rfl
@[simp] theorem Device.emit_hif (d : Device) (o : Output) : (d.emit o).hif = d.hif := rfl
@[simp] theorem Device.emit_fltLog (d : Device) (o : Output) : (d.emit o).fltLog = d.fltLog := rfl
@[simp] theorem Device.emit_ladderTick (d : Device) (o : Output) : (d.emit o).ladderTick = d.ladderTick := rfl
@[simp] theorem Device.emit_arriving (d : Device) (o : Output) : (d.emit o).arriving = d.arriving := rfl
@[simp] theorem Device.emit_boot (d : Device) (o : Output) : (d.emit o).boot = d.boot := rfl
@[simp] theorem Device.emit_plb (d : Device) (o : Output) : (d.emit o).plb = d.plb := rfl
@[simp] theorem Device.emit_jobs (d : Device) (o : Output) : (d.emit o).jobs = d.jobs := rfl
@[simp] theorem Device.emit_nextJob (d : Device) (o : Output) : (d.emit o).nextJob = d.nextJob := rfl
@[simp] theorem Device.emit_pipes (d : Device) (o : Output) : (d.emit o).pipes = d.pipes := rfl
@[simp] theorem Device.emit_queues (d : Device) (o : Output) : (d.emit o).queues = d.queues := rfl
@[simp] theorem Device.emit_qen (d : Device) (o : Output) : (d.emit o).qen = d.qen := rfl
@[simp] theorem Device.emit_edge (d : Device) (o : Output) : (d.emit o).edge = d.edge := rfl
@[simp] theorem Device.emit_trace (d : Device) (o : Output) : (d.emit o).trace = d.trace := rfl
@[simp] theorem Device.emit_upsets (d : Device) (o : Output) : (d.emit o).upsets = d.upsets := rfl
@[simp] theorem Device.emit_tiles (d : Device) (o : Output) : (d.emit o).tiles = d.tiles := rfl
@[simp] theorem Device.emit_tmem (d : Device) (o : Output) : (d.emit o).tmem = d.tmem := rfl
@[simp] theorem Device.emit_scrim (d : Device) (o : Output) : (d.emit o).scrim = d.scrim := rfl
@[simp] theorem Device.emit_slices (d : Device) (o : Output) : (d.emit o).slices = d.slices := rfl
@[simp] theorem Device.emit_fills (d : Device) (o : Output) : (d.emit o).fills = d.fills := rfl
@[simp] theorem Device.emit_fillReqs (d : Device) (o : Output) : (d.emit o).fillReqs = d.fillReqs := rfl
@[simp] theorem Device.emit_slotUse (d : Device) (o : Output) : (d.emit o).slotUse = d.slotUse := rfl
@[simp] theorem Device.emit_slotClock (d : Device) (o : Output) : (d.emit o).slotClock = d.slotClock := rfl
@[simp] theorem Device.emit_lib (d : Device) (o : Output) : (d.emit o).lib = d.lib := rfl
@[simp] theorem Device.emit_scrub (d : Device) (o : Output) : (d.emit o).scrub = d.scrub := rfl
@[simp] theorem Device.emit_tapes (d : Device) (o : Output) : (d.emit o).tapes = d.tapes := rfl
@[simp] theorem Device.emit_hbm (d : Device) (o : Output) : (d.emit o).hbm = d.hbm := rfl
@[simp] theorem Device.emit_hbmUe (d : Device) (o : Output) : (d.emit o).hbmUe = d.hbmUe := rfl
@[simp] theorem Device.emit_loader (d : Device) (o : Output) : (d.emit o).loader = d.loader := rfl
@[simp] theorem Device.emit_golden (d : Device) (o : Output) : (d.emit o).golden = d.golden := rfl
@[simp] theorem Device.emit_sup (d : Device) (o : Output) : (d.emit o).sup = d.sup := rfl
@[simp] theorem Device.emit_pow (d : Device) (o : Output) : (d.emit o).pow = d.pow := rfl
@[simp] theorem Device.emit_lath (d : Device) (o : Output) : (d.emit o).lath = d.lath := rfl
@[simp] theorem Device.emit_board (d : Device) (o : Output) : (d.emit o).board = d.board := rfl
@[simp] theorem Device.emit_lwl (d : Device) (o : Output) : (d.emit o).lwl = d.lwl := rfl
@[simp] theorem Device.emit_sbBusy (d : Device) (o : Output) : (d.emit o).sbBusy = d.sbBusy := rfl
@[simp] theorem Device.emit_reg (d : Device) (o : Output) (p : Nat) : (d.emit o).reg p = d.reg p := rfl
@[simp] theorem Device.emit_sh (d : Device) (o : Output) (p : Nat) : (d.emit o).sh p = d.sh p := rfl

/-! setFn changes hif alone. -/

@[simp] theorem Device.setFn_now (d : Device) (f : Nat) (x : Fn) : (d.setFn f x).now = d.now := rfl
@[simp] theorem Device.setFn_regs (d : Device) (f : Nat) (x : Fn) : (d.setFn f x).regs = d.regs := rfl
@[simp] theorem Device.setFn_shadow (d : Device) (f : Nat) (x : Fn) : (d.setFn f x).shadow = d.shadow := rfl
@[simp] theorem Device.setFn_pend (d : Device) (f : Nat) (x : Fn) : (d.setFn f x).pend = d.pend := rfl
@[simp] theorem Device.setFn_pairs (d : Device) (f : Nat) (x : Fn) : (d.setFn f x).pairs = d.pairs := rfl
@[simp] theorem Device.setFn_out (d : Device) (f : Nat) (x : Fn) : (d.setFn f x).out = d.out := rfl
@[simp] theorem Device.setFn_free (d : Device) (f : Nat) (x : Fn) : (d.setFn f x).free = d.free := rfl
@[simp] theorem Device.setFn_fltLog (d : Device) (f : Nat) (x : Fn) : (d.setFn f x).fltLog = d.fltLog := rfl
@[simp] theorem Device.setFn_ladderTick (d : Device) (f : Nat) (x : Fn) : (d.setFn f x).ladderTick = d.ladderTick := rfl
@[simp] theorem Device.setFn_arriving (d : Device) (f : Nat) (x : Fn) : (d.setFn f x).arriving = d.arriving := rfl
@[simp] theorem Device.setFn_boot (d : Device) (f : Nat) (x : Fn) : (d.setFn f x).boot = d.boot := rfl
@[simp] theorem Device.setFn_plb (d : Device) (f : Nat) (x : Fn) : (d.setFn f x).plb = d.plb := rfl
@[simp] theorem Device.setFn_jobs (d : Device) (f : Nat) (x : Fn) : (d.setFn f x).jobs = d.jobs := rfl
@[simp] theorem Device.setFn_nextJob (d : Device) (f : Nat) (x : Fn) : (d.setFn f x).nextJob = d.nextJob := rfl
@[simp] theorem Device.setFn_pipes (d : Device) (f : Nat) (x : Fn) : (d.setFn f x).pipes = d.pipes := rfl
@[simp] theorem Device.setFn_queues (d : Device) (f : Nat) (x : Fn) : (d.setFn f x).queues = d.queues := rfl
@[simp] theorem Device.setFn_qen (d : Device) (f : Nat) (x : Fn) : (d.setFn f x).qen = d.qen := rfl
@[simp] theorem Device.setFn_edge (d : Device) (f : Nat) (x : Fn) : (d.setFn f x).edge = d.edge := rfl
@[simp] theorem Device.setFn_trace (d : Device) (f : Nat) (x : Fn) : (d.setFn f x).trace = d.trace := rfl
@[simp] theorem Device.setFn_upsets (d : Device) (f : Nat) (x : Fn) : (d.setFn f x).upsets = d.upsets := rfl
@[simp] theorem Device.setFn_tiles (d : Device) (f : Nat) (x : Fn) : (d.setFn f x).tiles = d.tiles := rfl
@[simp] theorem Device.setFn_tmem (d : Device) (f : Nat) (x : Fn) : (d.setFn f x).tmem = d.tmem := rfl
@[simp] theorem Device.setFn_scrim (d : Device) (f : Nat) (x : Fn) : (d.setFn f x).scrim = d.scrim := rfl
@[simp] theorem Device.setFn_slices (d : Device) (f : Nat) (x : Fn) : (d.setFn f x).slices = d.slices := rfl
@[simp] theorem Device.setFn_fills (d : Device) (f : Nat) (x : Fn) : (d.setFn f x).fills = d.fills := rfl
@[simp] theorem Device.setFn_fillReqs (d : Device) (f : Nat) (x : Fn) : (d.setFn f x).fillReqs = d.fillReqs := rfl
@[simp] theorem Device.setFn_slotUse (d : Device) (f : Nat) (x : Fn) : (d.setFn f x).slotUse = d.slotUse := rfl
@[simp] theorem Device.setFn_slotClock (d : Device) (f : Nat) (x : Fn) : (d.setFn f x).slotClock = d.slotClock := rfl
@[simp] theorem Device.setFn_lib (d : Device) (f : Nat) (x : Fn) : (d.setFn f x).lib = d.lib := rfl
@[simp] theorem Device.setFn_scrub (d : Device) (f : Nat) (x : Fn) : (d.setFn f x).scrub = d.scrub := rfl
@[simp] theorem Device.setFn_tapes (d : Device) (f : Nat) (x : Fn) : (d.setFn f x).tapes = d.tapes := rfl
@[simp] theorem Device.setFn_hbm (d : Device) (f : Nat) (x : Fn) : (d.setFn f x).hbm = d.hbm := rfl
@[simp] theorem Device.setFn_hbmUe (d : Device) (f : Nat) (x : Fn) : (d.setFn f x).hbmUe = d.hbmUe := rfl
@[simp] theorem Device.setFn_loader (d : Device) (f : Nat) (x : Fn) : (d.setFn f x).loader = d.loader := rfl
@[simp] theorem Device.setFn_golden (d : Device) (f : Nat) (x : Fn) : (d.setFn f x).golden = d.golden := rfl
@[simp] theorem Device.setFn_sup (d : Device) (f : Nat) (x : Fn) : (d.setFn f x).sup = d.sup := rfl
@[simp] theorem Device.setFn_pow (d : Device) (f : Nat) (x : Fn) : (d.setFn f x).pow = d.pow := rfl
@[simp] theorem Device.setFn_lath (d : Device) (f : Nat) (x : Fn) : (d.setFn f x).lath = d.lath := rfl
@[simp] theorem Device.setFn_board (d : Device) (f : Nat) (x : Fn) : (d.setFn f x).board = d.board := rfl
@[simp] theorem Device.setFn_lwl (d : Device) (f : Nat) (x : Fn) : (d.setFn f x).lwl = d.lwl := rfl
@[simp] theorem Device.setFn_sbBusy (d : Device) (f : Nat) (x : Fn) : (d.setFn f x).sbBusy = d.sbBusy := rfl
@[simp] theorem Device.setFn_reg (d : Device) (f : Nat) (x : Fn) (p : Nat) : (d.setFn f x).reg p = d.reg p := rfl
@[simp] theorem Device.setFn_sh (d : Device) (f : Nat) (x : Fn) (p : Nat) : (d.setFn f x).sh p = d.sh p := rfl

/-! modBoot changes boot alone. -/

@[simp] theorem Device.modBoot_now (d : Device) (f : Boot → Boot) : (d.modBoot f).now = d.now := rfl
@[simp] theorem Device.modBoot_regs (d : Device) (f : Boot → Boot) : (d.modBoot f).regs = d.regs := rfl
@[simp] theorem Device.modBoot_shadow (d : Device) (f : Boot → Boot) : (d.modBoot f).shadow = d.shadow := rfl
@[simp] theorem Device.modBoot_pend (d : Device) (f : Boot → Boot) : (d.modBoot f).pend = d.pend := rfl
@[simp] theorem Device.modBoot_pairs (d : Device) (f : Boot → Boot) : (d.modBoot f).pairs = d.pairs := rfl
@[simp] theorem Device.modBoot_out (d : Device) (f : Boot → Boot) : (d.modBoot f).out = d.out := rfl
@[simp] theorem Device.modBoot_free (d : Device) (f : Boot → Boot) : (d.modBoot f).free = d.free := rfl
@[simp] theorem Device.modBoot_hif (d : Device) (f : Boot → Boot) : (d.modBoot f).hif = d.hif := rfl
@[simp] theorem Device.modBoot_fltLog (d : Device) (f : Boot → Boot) : (d.modBoot f).fltLog = d.fltLog := rfl
@[simp] theorem Device.modBoot_ladderTick (d : Device) (f : Boot → Boot) : (d.modBoot f).ladderTick = d.ladderTick := rfl
@[simp] theorem Device.modBoot_arriving (d : Device) (f : Boot → Boot) : (d.modBoot f).arriving = d.arriving := rfl
@[simp] theorem Device.modBoot_plb (d : Device) (f : Boot → Boot) : (d.modBoot f).plb = d.plb := rfl
@[simp] theorem Device.modBoot_jobs (d : Device) (f : Boot → Boot) : (d.modBoot f).jobs = d.jobs := rfl
@[simp] theorem Device.modBoot_nextJob (d : Device) (f : Boot → Boot) : (d.modBoot f).nextJob = d.nextJob := rfl
@[simp] theorem Device.modBoot_pipes (d : Device) (f : Boot → Boot) : (d.modBoot f).pipes = d.pipes := rfl
@[simp] theorem Device.modBoot_queues (d : Device) (f : Boot → Boot) : (d.modBoot f).queues = d.queues := rfl
@[simp] theorem Device.modBoot_qen (d : Device) (f : Boot → Boot) : (d.modBoot f).qen = d.qen := rfl
@[simp] theorem Device.modBoot_edge (d : Device) (f : Boot → Boot) : (d.modBoot f).edge = d.edge := rfl
@[simp] theorem Device.modBoot_trace (d : Device) (f : Boot → Boot) : (d.modBoot f).trace = d.trace := rfl
@[simp] theorem Device.modBoot_upsets (d : Device) (f : Boot → Boot) : (d.modBoot f).upsets = d.upsets := rfl
@[simp] theorem Device.modBoot_tiles (d : Device) (f : Boot → Boot) : (d.modBoot f).tiles = d.tiles := rfl
@[simp] theorem Device.modBoot_tmem (d : Device) (f : Boot → Boot) : (d.modBoot f).tmem = d.tmem := rfl
@[simp] theorem Device.modBoot_scrim (d : Device) (f : Boot → Boot) : (d.modBoot f).scrim = d.scrim := rfl
@[simp] theorem Device.modBoot_slices (d : Device) (f : Boot → Boot) : (d.modBoot f).slices = d.slices := rfl
@[simp] theorem Device.modBoot_fills (d : Device) (f : Boot → Boot) : (d.modBoot f).fills = d.fills := rfl
@[simp] theorem Device.modBoot_fillReqs (d : Device) (f : Boot → Boot) : (d.modBoot f).fillReqs = d.fillReqs := rfl
@[simp] theorem Device.modBoot_slotUse (d : Device) (f : Boot → Boot) : (d.modBoot f).slotUse = d.slotUse := rfl
@[simp] theorem Device.modBoot_slotClock (d : Device) (f : Boot → Boot) : (d.modBoot f).slotClock = d.slotClock := rfl
@[simp] theorem Device.modBoot_lib (d : Device) (f : Boot → Boot) : (d.modBoot f).lib = d.lib := rfl
@[simp] theorem Device.modBoot_scrub (d : Device) (f : Boot → Boot) : (d.modBoot f).scrub = d.scrub := rfl
@[simp] theorem Device.modBoot_tapes (d : Device) (f : Boot → Boot) : (d.modBoot f).tapes = d.tapes := rfl
@[simp] theorem Device.modBoot_hbm (d : Device) (f : Boot → Boot) : (d.modBoot f).hbm = d.hbm := rfl
@[simp] theorem Device.modBoot_hbmUe (d : Device) (f : Boot → Boot) : (d.modBoot f).hbmUe = d.hbmUe := rfl
@[simp] theorem Device.modBoot_loader (d : Device) (f : Boot → Boot) : (d.modBoot f).loader = d.loader := rfl
@[simp] theorem Device.modBoot_golden (d : Device) (f : Boot → Boot) : (d.modBoot f).golden = d.golden := rfl
@[simp] theorem Device.modBoot_sup (d : Device) (f : Boot → Boot) : (d.modBoot f).sup = d.sup := rfl
@[simp] theorem Device.modBoot_pow (d : Device) (f : Boot → Boot) : (d.modBoot f).pow = d.pow := rfl
@[simp] theorem Device.modBoot_lath (d : Device) (f : Boot → Boot) : (d.modBoot f).lath = d.lath := rfl
@[simp] theorem Device.modBoot_board (d : Device) (f : Boot → Boot) : (d.modBoot f).board = d.board := rfl
@[simp] theorem Device.modBoot_lwl (d : Device) (f : Boot → Boot) : (d.modBoot f).lwl = d.lwl := rfl
@[simp] theorem Device.modBoot_sbBusy (d : Device) (f : Boot → Boot) : (d.modBoot f).sbBusy = d.sbBusy := rfl
@[simp] theorem Device.modBoot_reg (d : Device) (f : Boot → Boot) (p : Nat) : (d.modBoot f).reg p = d.reg p := rfl
@[simp] theorem Device.modBoot_sh (d : Device) (f : Boot → Boot) (p : Nat) : (d.modBoot f).sh p = d.sh p := rfl

/-! setPow changes pow alone. -/

@[simp] theorem Device.setPow_now (d : Device) (x : Pow) : (d.setPow x).now = d.now := rfl
@[simp] theorem Device.setPow_regs (d : Device) (x : Pow) : (d.setPow x).regs = d.regs := rfl
@[simp] theorem Device.setPow_shadow (d : Device) (x : Pow) : (d.setPow x).shadow = d.shadow := rfl
@[simp] theorem Device.setPow_pend (d : Device) (x : Pow) : (d.setPow x).pend = d.pend := rfl
@[simp] theorem Device.setPow_pairs (d : Device) (x : Pow) : (d.setPow x).pairs = d.pairs := rfl
@[simp] theorem Device.setPow_out (d : Device) (x : Pow) : (d.setPow x).out = d.out := rfl
@[simp] theorem Device.setPow_free (d : Device) (x : Pow) : (d.setPow x).free = d.free := rfl
@[simp] theorem Device.setPow_hif (d : Device) (x : Pow) : (d.setPow x).hif = d.hif := rfl
@[simp] theorem Device.setPow_fltLog (d : Device) (x : Pow) : (d.setPow x).fltLog = d.fltLog := rfl
@[simp] theorem Device.setPow_ladderTick (d : Device) (x : Pow) : (d.setPow x).ladderTick = d.ladderTick := rfl
@[simp] theorem Device.setPow_arriving (d : Device) (x : Pow) : (d.setPow x).arriving = d.arriving := rfl
@[simp] theorem Device.setPow_boot (d : Device) (x : Pow) : (d.setPow x).boot = d.boot := rfl
@[simp] theorem Device.setPow_plb (d : Device) (x : Pow) : (d.setPow x).plb = d.plb := rfl
@[simp] theorem Device.setPow_jobs (d : Device) (x : Pow) : (d.setPow x).jobs = d.jobs := rfl
@[simp] theorem Device.setPow_nextJob (d : Device) (x : Pow) : (d.setPow x).nextJob = d.nextJob := rfl
@[simp] theorem Device.setPow_pipes (d : Device) (x : Pow) : (d.setPow x).pipes = d.pipes := rfl
@[simp] theorem Device.setPow_queues (d : Device) (x : Pow) : (d.setPow x).queues = d.queues := rfl
@[simp] theorem Device.setPow_qen (d : Device) (x : Pow) : (d.setPow x).qen = d.qen := rfl
@[simp] theorem Device.setPow_edge (d : Device) (x : Pow) : (d.setPow x).edge = d.edge := rfl
@[simp] theorem Device.setPow_trace (d : Device) (x : Pow) : (d.setPow x).trace = d.trace := rfl
@[simp] theorem Device.setPow_upsets (d : Device) (x : Pow) : (d.setPow x).upsets = d.upsets := rfl
@[simp] theorem Device.setPow_tiles (d : Device) (x : Pow) : (d.setPow x).tiles = d.tiles := rfl
@[simp] theorem Device.setPow_tmem (d : Device) (x : Pow) : (d.setPow x).tmem = d.tmem := rfl
@[simp] theorem Device.setPow_scrim (d : Device) (x : Pow) : (d.setPow x).scrim = d.scrim := rfl
@[simp] theorem Device.setPow_slices (d : Device) (x : Pow) : (d.setPow x).slices = d.slices := rfl
@[simp] theorem Device.setPow_fills (d : Device) (x : Pow) : (d.setPow x).fills = d.fills := rfl
@[simp] theorem Device.setPow_fillReqs (d : Device) (x : Pow) : (d.setPow x).fillReqs = d.fillReqs := rfl
@[simp] theorem Device.setPow_slotUse (d : Device) (x : Pow) : (d.setPow x).slotUse = d.slotUse := rfl
@[simp] theorem Device.setPow_slotClock (d : Device) (x : Pow) : (d.setPow x).slotClock = d.slotClock := rfl
@[simp] theorem Device.setPow_lib (d : Device) (x : Pow) : (d.setPow x).lib = d.lib := rfl
@[simp] theorem Device.setPow_scrub (d : Device) (x : Pow) : (d.setPow x).scrub = d.scrub := rfl
@[simp] theorem Device.setPow_tapes (d : Device) (x : Pow) : (d.setPow x).tapes = d.tapes := rfl
@[simp] theorem Device.setPow_hbm (d : Device) (x : Pow) : (d.setPow x).hbm = d.hbm := rfl
@[simp] theorem Device.setPow_hbmUe (d : Device) (x : Pow) : (d.setPow x).hbmUe = d.hbmUe := rfl
@[simp] theorem Device.setPow_loader (d : Device) (x : Pow) : (d.setPow x).loader = d.loader := rfl
@[simp] theorem Device.setPow_golden (d : Device) (x : Pow) : (d.setPow x).golden = d.golden := rfl
@[simp] theorem Device.setPow_sup (d : Device) (x : Pow) : (d.setPow x).sup = d.sup := rfl
@[simp] theorem Device.setPow_lath (d : Device) (x : Pow) : (d.setPow x).lath = d.lath := rfl
@[simp] theorem Device.setPow_board (d : Device) (x : Pow) : (d.setPow x).board = d.board := rfl
@[simp] theorem Device.setPow_lwl (d : Device) (x : Pow) : (d.setPow x).lwl = d.lwl := rfl
@[simp] theorem Device.setPow_sbBusy (d : Device) (x : Pow) : (d.setPow x).sbBusy = d.sbBusy := rfl
@[simp] theorem Device.setPow_reg (d : Device) (x : Pow) (p : Nat) : (d.setPow x).reg p = d.reg p := rfl
@[simp] theorem Device.setPow_sh (d : Device) (x : Pow) (p : Nat) : (d.setPow x).sh p = d.sh p := rfl

/-! setPipe changes pipes alone. -/

@[simp] theorem Device.setPipe_now (d : Device) (p : Nat) (x : Pipe) : (d.setPipe p x).now = d.now := rfl
@[simp] theorem Device.setPipe_regs (d : Device) (p : Nat) (x : Pipe) : (d.setPipe p x).regs = d.regs := rfl
@[simp] theorem Device.setPipe_shadow (d : Device) (p : Nat) (x : Pipe) : (d.setPipe p x).shadow = d.shadow := rfl
@[simp] theorem Device.setPipe_pend (d : Device) (p : Nat) (x : Pipe) : (d.setPipe p x).pend = d.pend := rfl
@[simp] theorem Device.setPipe_pairs (d : Device) (p : Nat) (x : Pipe) : (d.setPipe p x).pairs = d.pairs := rfl
@[simp] theorem Device.setPipe_out (d : Device) (p : Nat) (x : Pipe) : (d.setPipe p x).out = d.out := rfl
@[simp] theorem Device.setPipe_free (d : Device) (p : Nat) (x : Pipe) : (d.setPipe p x).free = d.free := rfl
@[simp] theorem Device.setPipe_hif (d : Device) (p : Nat) (x : Pipe) : (d.setPipe p x).hif = d.hif := rfl
@[simp] theorem Device.setPipe_fltLog (d : Device) (p : Nat) (x : Pipe) : (d.setPipe p x).fltLog = d.fltLog := rfl
@[simp] theorem Device.setPipe_ladderTick (d : Device) (p : Nat) (x : Pipe) : (d.setPipe p x).ladderTick = d.ladderTick := rfl
@[simp] theorem Device.setPipe_arriving (d : Device) (p : Nat) (x : Pipe) : (d.setPipe p x).arriving = d.arriving := rfl
@[simp] theorem Device.setPipe_boot (d : Device) (p : Nat) (x : Pipe) : (d.setPipe p x).boot = d.boot := rfl
@[simp] theorem Device.setPipe_plb (d : Device) (p : Nat) (x : Pipe) : (d.setPipe p x).plb = d.plb := rfl
@[simp] theorem Device.setPipe_jobs (d : Device) (p : Nat) (x : Pipe) : (d.setPipe p x).jobs = d.jobs := rfl
@[simp] theorem Device.setPipe_nextJob (d : Device) (p : Nat) (x : Pipe) : (d.setPipe p x).nextJob = d.nextJob := rfl
@[simp] theorem Device.setPipe_queues (d : Device) (p : Nat) (x : Pipe) : (d.setPipe p x).queues = d.queues := rfl
@[simp] theorem Device.setPipe_qen (d : Device) (p : Nat) (x : Pipe) : (d.setPipe p x).qen = d.qen := rfl
@[simp] theorem Device.setPipe_edge (d : Device) (p : Nat) (x : Pipe) : (d.setPipe p x).edge = d.edge := rfl
@[simp] theorem Device.setPipe_trace (d : Device) (p : Nat) (x : Pipe) : (d.setPipe p x).trace = d.trace := rfl
@[simp] theorem Device.setPipe_upsets (d : Device) (p : Nat) (x : Pipe) : (d.setPipe p x).upsets = d.upsets := rfl
@[simp] theorem Device.setPipe_tiles (d : Device) (p : Nat) (x : Pipe) : (d.setPipe p x).tiles = d.tiles := rfl
@[simp] theorem Device.setPipe_tmem (d : Device) (p : Nat) (x : Pipe) : (d.setPipe p x).tmem = d.tmem := rfl
@[simp] theorem Device.setPipe_scrim (d : Device) (p : Nat) (x : Pipe) : (d.setPipe p x).scrim = d.scrim := rfl
@[simp] theorem Device.setPipe_slices (d : Device) (p : Nat) (x : Pipe) : (d.setPipe p x).slices = d.slices := rfl
@[simp] theorem Device.setPipe_fills (d : Device) (p : Nat) (x : Pipe) : (d.setPipe p x).fills = d.fills := rfl
@[simp] theorem Device.setPipe_fillReqs (d : Device) (p : Nat) (x : Pipe) : (d.setPipe p x).fillReqs = d.fillReqs := rfl
@[simp] theorem Device.setPipe_slotUse (d : Device) (p : Nat) (x : Pipe) : (d.setPipe p x).slotUse = d.slotUse := rfl
@[simp] theorem Device.setPipe_slotClock (d : Device) (p : Nat) (x : Pipe) : (d.setPipe p x).slotClock = d.slotClock := rfl
@[simp] theorem Device.setPipe_lib (d : Device) (p : Nat) (x : Pipe) : (d.setPipe p x).lib = d.lib := rfl
@[simp] theorem Device.setPipe_scrub (d : Device) (p : Nat) (x : Pipe) : (d.setPipe p x).scrub = d.scrub := rfl
@[simp] theorem Device.setPipe_tapes (d : Device) (p : Nat) (x : Pipe) : (d.setPipe p x).tapes = d.tapes := rfl
@[simp] theorem Device.setPipe_hbm (d : Device) (p : Nat) (x : Pipe) : (d.setPipe p x).hbm = d.hbm := rfl
@[simp] theorem Device.setPipe_hbmUe (d : Device) (p : Nat) (x : Pipe) : (d.setPipe p x).hbmUe = d.hbmUe := rfl
@[simp] theorem Device.setPipe_loader (d : Device) (p : Nat) (x : Pipe) : (d.setPipe p x).loader = d.loader := rfl
@[simp] theorem Device.setPipe_golden (d : Device) (p : Nat) (x : Pipe) : (d.setPipe p x).golden = d.golden := rfl
@[simp] theorem Device.setPipe_sup (d : Device) (p : Nat) (x : Pipe) : (d.setPipe p x).sup = d.sup := rfl
@[simp] theorem Device.setPipe_pow (d : Device) (p : Nat) (x : Pipe) : (d.setPipe p x).pow = d.pow := rfl
@[simp] theorem Device.setPipe_lath (d : Device) (p : Nat) (x : Pipe) : (d.setPipe p x).lath = d.lath := rfl
@[simp] theorem Device.setPipe_board (d : Device) (p : Nat) (x : Pipe) : (d.setPipe p x).board = d.board := rfl
@[simp] theorem Device.setPipe_lwl (d : Device) (p : Nat) (x : Pipe) : (d.setPipe p x).lwl = d.lwl := rfl
@[simp] theorem Device.setPipe_sbBusy (d : Device) (p : Nat) (x : Pipe) : (d.setPipe p x).sbBusy = d.sbBusy := rfl
@[simp] theorem Device.setPipe_reg (d : Device) (p : Nat) (x : Pipe) (p : Nat) : (d.setPipe p x).reg p = d.reg p := rfl
@[simp] theorem Device.setPipe_sh (d : Device) (p : Nat) (x : Pipe) (p : Nat) : (d.setPipe p x).sh p = d.sh p := rfl

/-! setQueue changes queues alone. -/

@[simp] theorem Device.setQueue_now (d : Device) (g : Nat) (x : Queue) : (d.setQueue g x).now = d.now := rfl
@[simp] theorem Device.setQueue_regs (d : Device) (g : Nat) (x : Queue) : (d.setQueue g x).regs = d.regs := rfl
@[simp] theorem Device.setQueue_shadow (d : Device) (g : Nat) (x : Queue) : (d.setQueue g x).shadow = d.shadow := rfl
@[simp] theorem Device.setQueue_pend (d : Device) (g : Nat) (x : Queue) : (d.setQueue g x).pend = d.pend := rfl
@[simp] theorem Device.setQueue_pairs (d : Device) (g : Nat) (x : Queue) : (d.setQueue g x).pairs = d.pairs := rfl
@[simp] theorem Device.setQueue_out (d : Device) (g : Nat) (x : Queue) : (d.setQueue g x).out = d.out := rfl
@[simp] theorem Device.setQueue_free (d : Device) (g : Nat) (x : Queue) : (d.setQueue g x).free = d.free := rfl
@[simp] theorem Device.setQueue_hif (d : Device) (g : Nat) (x : Queue) : (d.setQueue g x).hif = d.hif := rfl
@[simp] theorem Device.setQueue_fltLog (d : Device) (g : Nat) (x : Queue) : (d.setQueue g x).fltLog = d.fltLog := rfl
@[simp] theorem Device.setQueue_ladderTick (d : Device) (g : Nat) (x : Queue) : (d.setQueue g x).ladderTick = d.ladderTick := rfl
@[simp] theorem Device.setQueue_arriving (d : Device) (g : Nat) (x : Queue) : (d.setQueue g x).arriving = d.arriving := rfl
@[simp] theorem Device.setQueue_boot (d : Device) (g : Nat) (x : Queue) : (d.setQueue g x).boot = d.boot := rfl
@[simp] theorem Device.setQueue_plb (d : Device) (g : Nat) (x : Queue) : (d.setQueue g x).plb = d.plb := rfl
@[simp] theorem Device.setQueue_jobs (d : Device) (g : Nat) (x : Queue) : (d.setQueue g x).jobs = d.jobs := rfl
@[simp] theorem Device.setQueue_nextJob (d : Device) (g : Nat) (x : Queue) : (d.setQueue g x).nextJob = d.nextJob := rfl
@[simp] theorem Device.setQueue_pipes (d : Device) (g : Nat) (x : Queue) : (d.setQueue g x).pipes = d.pipes := rfl
@[simp] theorem Device.setQueue_qen (d : Device) (g : Nat) (x : Queue) : (d.setQueue g x).qen = d.qen := rfl
@[simp] theorem Device.setQueue_edge (d : Device) (g : Nat) (x : Queue) : (d.setQueue g x).edge = d.edge := rfl
@[simp] theorem Device.setQueue_trace (d : Device) (g : Nat) (x : Queue) : (d.setQueue g x).trace = d.trace := rfl
@[simp] theorem Device.setQueue_upsets (d : Device) (g : Nat) (x : Queue) : (d.setQueue g x).upsets = d.upsets := rfl
@[simp] theorem Device.setQueue_tiles (d : Device) (g : Nat) (x : Queue) : (d.setQueue g x).tiles = d.tiles := rfl
@[simp] theorem Device.setQueue_tmem (d : Device) (g : Nat) (x : Queue) : (d.setQueue g x).tmem = d.tmem := rfl
@[simp] theorem Device.setQueue_scrim (d : Device) (g : Nat) (x : Queue) : (d.setQueue g x).scrim = d.scrim := rfl
@[simp] theorem Device.setQueue_slices (d : Device) (g : Nat) (x : Queue) : (d.setQueue g x).slices = d.slices := rfl
@[simp] theorem Device.setQueue_fills (d : Device) (g : Nat) (x : Queue) : (d.setQueue g x).fills = d.fills := rfl
@[simp] theorem Device.setQueue_fillReqs (d : Device) (g : Nat) (x : Queue) : (d.setQueue g x).fillReqs = d.fillReqs := rfl
@[simp] theorem Device.setQueue_slotUse (d : Device) (g : Nat) (x : Queue) : (d.setQueue g x).slotUse = d.slotUse := rfl
@[simp] theorem Device.setQueue_slotClock (d : Device) (g : Nat) (x : Queue) : (d.setQueue g x).slotClock = d.slotClock := rfl
@[simp] theorem Device.setQueue_lib (d : Device) (g : Nat) (x : Queue) : (d.setQueue g x).lib = d.lib := rfl
@[simp] theorem Device.setQueue_scrub (d : Device) (g : Nat) (x : Queue) : (d.setQueue g x).scrub = d.scrub := rfl
@[simp] theorem Device.setQueue_tapes (d : Device) (g : Nat) (x : Queue) : (d.setQueue g x).tapes = d.tapes := rfl
@[simp] theorem Device.setQueue_hbm (d : Device) (g : Nat) (x : Queue) : (d.setQueue g x).hbm = d.hbm := rfl
@[simp] theorem Device.setQueue_hbmUe (d : Device) (g : Nat) (x : Queue) : (d.setQueue g x).hbmUe = d.hbmUe := rfl
@[simp] theorem Device.setQueue_loader (d : Device) (g : Nat) (x : Queue) : (d.setQueue g x).loader = d.loader := rfl
@[simp] theorem Device.setQueue_golden (d : Device) (g : Nat) (x : Queue) : (d.setQueue g x).golden = d.golden := rfl
@[simp] theorem Device.setQueue_sup (d : Device) (g : Nat) (x : Queue) : (d.setQueue g x).sup = d.sup := rfl
@[simp] theorem Device.setQueue_pow (d : Device) (g : Nat) (x : Queue) : (d.setQueue g x).pow = d.pow := rfl
@[simp] theorem Device.setQueue_lath (d : Device) (g : Nat) (x : Queue) : (d.setQueue g x).lath = d.lath := rfl
@[simp] theorem Device.setQueue_board (d : Device) (g : Nat) (x : Queue) : (d.setQueue g x).board = d.board := rfl
@[simp] theorem Device.setQueue_lwl (d : Device) (g : Nat) (x : Queue) : (d.setQueue g x).lwl = d.lwl := rfl
@[simp] theorem Device.setQueue_sbBusy (d : Device) (g : Nat) (x : Queue) : (d.setQueue g x).sbBusy = d.sbBusy := rfl
@[simp] theorem Device.setQueue_reg (d : Device) (g : Nat) (x : Queue) (p : Nat) : (d.setQueue g x).reg p = d.reg p := rfl
@[simp] theorem Device.setQueue_sh (d : Device) (g : Nat) (x : Queue) (p : Nat) : (d.setQueue g x).sh p = d.sh p := rfl

/-! setTile changes tiles alone. -/

@[simp] theorem Device.setTile_now (d : Device) (k : Nat) (x : Tile) : (d.setTile k x).now = d.now := rfl
@[simp] theorem Device.setTile_regs (d : Device) (k : Nat) (x : Tile) : (d.setTile k x).regs = d.regs := rfl
@[simp] theorem Device.setTile_shadow (d : Device) (k : Nat) (x : Tile) : (d.setTile k x).shadow = d.shadow := rfl
@[simp] theorem Device.setTile_pend (d : Device) (k : Nat) (x : Tile) : (d.setTile k x).pend = d.pend := rfl
@[simp] theorem Device.setTile_pairs (d : Device) (k : Nat) (x : Tile) : (d.setTile k x).pairs = d.pairs := rfl
@[simp] theorem Device.setTile_out (d : Device) (k : Nat) (x : Tile) : (d.setTile k x).out = d.out := rfl
@[simp] theorem Device.setTile_free (d : Device) (k : Nat) (x : Tile) : (d.setTile k x).free = d.free := rfl
@[simp] theorem Device.setTile_hif (d : Device) (k : Nat) (x : Tile) : (d.setTile k x).hif = d.hif := rfl
@[simp] theorem Device.setTile_fltLog (d : Device) (k : Nat) (x : Tile) : (d.setTile k x).fltLog = d.fltLog := rfl
@[simp] theorem Device.setTile_ladderTick (d : Device) (k : Nat) (x : Tile) : (d.setTile k x).ladderTick = d.ladderTick := rfl
@[simp] theorem Device.setTile_arriving (d : Device) (k : Nat) (x : Tile) : (d.setTile k x).arriving = d.arriving := rfl
@[simp] theorem Device.setTile_boot (d : Device) (k : Nat) (x : Tile) : (d.setTile k x).boot = d.boot := rfl
@[simp] theorem Device.setTile_plb (d : Device) (k : Nat) (x : Tile) : (d.setTile k x).plb = d.plb := rfl
@[simp] theorem Device.setTile_jobs (d : Device) (k : Nat) (x : Tile) : (d.setTile k x).jobs = d.jobs := rfl
@[simp] theorem Device.setTile_nextJob (d : Device) (k : Nat) (x : Tile) : (d.setTile k x).nextJob = d.nextJob := rfl
@[simp] theorem Device.setTile_pipes (d : Device) (k : Nat) (x : Tile) : (d.setTile k x).pipes = d.pipes := rfl
@[simp] theorem Device.setTile_queues (d : Device) (k : Nat) (x : Tile) : (d.setTile k x).queues = d.queues := rfl
@[simp] theorem Device.setTile_qen (d : Device) (k : Nat) (x : Tile) : (d.setTile k x).qen = d.qen := rfl
@[simp] theorem Device.setTile_edge (d : Device) (k : Nat) (x : Tile) : (d.setTile k x).edge = d.edge := rfl
@[simp] theorem Device.setTile_trace (d : Device) (k : Nat) (x : Tile) : (d.setTile k x).trace = d.trace := rfl
@[simp] theorem Device.setTile_upsets (d : Device) (k : Nat) (x : Tile) : (d.setTile k x).upsets = d.upsets := rfl
@[simp] theorem Device.setTile_tmem (d : Device) (k : Nat) (x : Tile) : (d.setTile k x).tmem = d.tmem := rfl
@[simp] theorem Device.setTile_scrim (d : Device) (k : Nat) (x : Tile) : (d.setTile k x).scrim = d.scrim := rfl
@[simp] theorem Device.setTile_slices (d : Device) (k : Nat) (x : Tile) : (d.setTile k x).slices = d.slices := rfl
@[simp] theorem Device.setTile_fills (d : Device) (k : Nat) (x : Tile) : (d.setTile k x).fills = d.fills := rfl
@[simp] theorem Device.setTile_fillReqs (d : Device) (k : Nat) (x : Tile) : (d.setTile k x).fillReqs = d.fillReqs := rfl
@[simp] theorem Device.setTile_slotUse (d : Device) (k : Nat) (x : Tile) : (d.setTile k x).slotUse = d.slotUse := rfl
@[simp] theorem Device.setTile_slotClock (d : Device) (k : Nat) (x : Tile) : (d.setTile k x).slotClock = d.slotClock := rfl
@[simp] theorem Device.setTile_lib (d : Device) (k : Nat) (x : Tile) : (d.setTile k x).lib = d.lib := rfl
@[simp] theorem Device.setTile_scrub (d : Device) (k : Nat) (x : Tile) : (d.setTile k x).scrub = d.scrub := rfl
@[simp] theorem Device.setTile_tapes (d : Device) (k : Nat) (x : Tile) : (d.setTile k x).tapes = d.tapes := rfl
@[simp] theorem Device.setTile_hbm (d : Device) (k : Nat) (x : Tile) : (d.setTile k x).hbm = d.hbm := rfl
@[simp] theorem Device.setTile_hbmUe (d : Device) (k : Nat) (x : Tile) : (d.setTile k x).hbmUe = d.hbmUe := rfl
@[simp] theorem Device.setTile_loader (d : Device) (k : Nat) (x : Tile) : (d.setTile k x).loader = d.loader := rfl
@[simp] theorem Device.setTile_golden (d : Device) (k : Nat) (x : Tile) : (d.setTile k x).golden = d.golden := rfl
@[simp] theorem Device.setTile_sup (d : Device) (k : Nat) (x : Tile) : (d.setTile k x).sup = d.sup := rfl
@[simp] theorem Device.setTile_pow (d : Device) (k : Nat) (x : Tile) : (d.setTile k x).pow = d.pow := rfl
@[simp] theorem Device.setTile_lath (d : Device) (k : Nat) (x : Tile) : (d.setTile k x).lath = d.lath := rfl
@[simp] theorem Device.setTile_board (d : Device) (k : Nat) (x : Tile) : (d.setTile k x).board = d.board := rfl
@[simp] theorem Device.setTile_lwl (d : Device) (k : Nat) (x : Tile) : (d.setTile k x).lwl = d.lwl := rfl
@[simp] theorem Device.setTile_sbBusy (d : Device) (k : Nat) (x : Tile) : (d.setTile k x).sbBusy = d.sbBusy := rfl
@[simp] theorem Device.setTile_reg (d : Device) (k : Nat) (x : Tile) (p : Nat) : (d.setTile k x).reg p = d.reg p := rfl
@[simp] theorem Device.setTile_sh (d : Device) (k : Nat) (x : Tile) (p : Nat) : (d.setTile k x).sh p = d.sh p := rfl

end Sys2Proof.Machine
end

