-- ==== Sys2Proof/Laws/Store.lean ====
section
/-! SUPPORT. Laws/Store.lean: what the operations of a sparse table and of a byte memory do, and that they keep the canonical form. -/
namespace Sys2Proof.Machine

variable {α : Type} {dflt : Nat → α}

@[simp] theorem Store.get_nil (k : Nat) : Store.get dflt [] k = dflt k := rfl

theorem Store.get_cons (p : Nat × α) (m : Store α) (k : Nat) :
    Store.get dflt (p :: m) k = if k = p.1 then p.2 else Store.get dflt m k := rfl

/-- A key that no entry has reads as the default. -/
theorem Store.get_absent (m : Store α) (k : Nat) (h : ∀ p ∈ m, p.1 ≠ k) : Store.get dflt m k = dflt k := by
  induction m with
  | nil => rfl
  | cons p m ih =>
    rw [Store.get_cons, if_neg (fun e => h p (by simp) e.symm)]
    exact ih fun q hq => h q (List.mem_cons_of_mem _ hq)

/-- Removing a key makes it read as the default. -/
theorem Store.get_del (m : Store α) (k j : Nat) :
    Store.get dflt (Store.del k m) j = if j = k then dflt j else Store.get dflt m j := by
  induction m with
  | nil => simp [Store.del]
  | cons p m ih =>
    simp only [Store.del] at ih
    by_cases hp : p.1 = k
    · simp only [Store.del, List.filter_cons, hp, ne_eq, not_true_eq_false, decide_false]
      rw [Store.get_cons]
      by_cases hj : j = k
      · simpa [hj] using ih
      · simpa [hj, hp] using ih
    · simp only [Store.del, List.filter_cons, ne_eq, hp, not_false_eq_true, decide_true, if_true]
      rw [Store.get_cons, Store.get_cons]
      by_cases hj : j = k
      · have : j ≠ p.1 := fun e => hp (e ▸ hj)
        simp only [if_neg this]
        simpa [hj] using ih
      · by_cases hq : j = p.1
        · simp [hq, hp]
        · simp only [if_neg hq]
          simpa [hj] using ih

/-- Putting a value at a key makes it read as that value. -/
theorem Store.get_put (m : Store α) (k j : Nat) (v : α) :
    Store.get dflt (Store.put k v m) j = if j = k then v else Store.get dflt m j := by
  induction m with
  | nil => simp [Store.put, Store.get]
  | cons p m ih =>
    obtain ⟨k', v'⟩ := p
    simp only [Store.put]
    split
    · simp [Store.get]
    · split
      · subst_vars
        simp only [Store.get]
        split <;> rfl
      · simp only [Store.get, ih]
        split
        · rename_i h1 h2 h3
          subst h3
          rw [if_neg (fun e => h2 e.symm)]
        · rfl

/-- A read after a write to the same key gives the value; every other key reads as before. -/
@[simp] theorem Store.get_set [DecidableEq α] (m : Store α) (k j : Nat) (v : α) :
    Store.get dflt (Store.set dflt m k v) j = if j = k then v else Store.get dflt m j := by
  unfold Store.set
  split
  · rename_i h
    rw [Store.get_del]
    by_cases hj : j = k
    · simp [hj, h]
    · simp [hj]
  · exact Store.get_put m k j v

/-- Wiping returns the named keys to the default and leaves the others. -/
theorem Store.get_wipe (p : Nat → Bool) (m : Store α) (j : Nat) :
    Store.get dflt (Store.wipe p m) j = if p j then dflt j else Store.get dflt m j := by
  induction m with
  | nil => simp [Store.wipe]
  | cons q m ih =>
    simp only [Store.wipe] at ih
    by_cases hq : p q.1
    · simp only [Store.wipe, List.filter_cons, hq, Bool.not_true]
      rw [Store.get_cons]
      by_cases hj : j = q.1
      · simpa [hj, hq] using ih
      · simpa [hj] using ih
    · simp only [Store.wipe, List.filter_cons, hq]
      by_cases hj : j = q.1
      · simp [Store.get_cons, hj, hq]
      · simpa [Store.get_cons, hj] using ih

theorem Store.mem_put {m : Store α} {k : Nat} {v : α} {q : Nat × α} (h : q ∈ Store.put k v m) : q = (k, v) ∨ q ∈ m := by
  induction m with
  | nil => simpa [Store.put] using h
  | cons p m ih =>
    obtain ⟨k', v'⟩ := p
    simp only [Store.put] at h
    split at h
    · simpa using h
    · split at h
      · rcases List.mem_cons.1 h with h | h
        · exact .inl h
        · exact .inr (List.mem_cons_of_mem _ h)
      · rcases List.mem_cons.1 h with h | h
        · exact .inr (by simp [h])
        · rcases ih h with h | h
          · exact .inl h
          · exact .inr (List.mem_cons_of_mem _ h)

theorem Store.pairwise_put {m : Store α} (k : Nat) (v : α) (h : m.Pairwise fun a b => a.1 < b.1) :
    (Store.put k v m).Pairwise fun a b => a.1 < b.1 := by
  induction m with
  | nil => simp [Store.put]
  | cons p m ih =>
    obtain ⟨k', v'⟩ := p
    obtain ⟨h1, h2⟩ := List.pairwise_cons.1 h
    simp only [Store.put]
    split
    · rename_i hlt
      refine List.pairwise_cons.2 ⟨fun q hq => ?_, h⟩
      rcases List.mem_cons.1 hq with rfl | hq
      · exact hlt
      · exact Nat.lt_trans hlt (h1 q hq)
    · split
      · rename_i heq
        exact List.pairwise_cons.2 ⟨fun q hq => heq ▸ h1 q hq, h2⟩
      · rename_i hge hne
        refine List.pairwise_cons.2 ⟨fun q hq => ?_, ih h2⟩
        rcases Store.mem_put hq with rfl | hq
        · show k' < k; omega
        · exact h1 q hq

/-- Removing a key keeps the canonical form. -/
theorem Store.wf_del {m : Store α} (k : Nat) (h : Store.wf dflt m) : Store.wf dflt (Store.del k m) :=
  ⟨h.1.sublist List.filter_sublist, fun p hp => h.2 p (List.mem_filter.1 hp).1⟩

/-- Wiping keys keeps the canonical form. -/
theorem Store.wf_wipe {m : Store α} (p : Nat → Bool) (h : Store.wf dflt m) : Store.wf dflt (Store.wipe p m) :=
  ⟨h.1.sublist List.filter_sublist, fun q hq => h.2 q (List.mem_filter.1 hq).1⟩

/-- A write keeps the canonical form. -/
theorem Store.wf_set [DecidableEq α] {m : Store α} (k : Nat) (v : α) (h : Store.wf dflt m) :
    Store.wf dflt (Store.set dflt m k v) := by
  unfold Store.set
  split
  · exact Store.wf_del k h
  · rename_i hv
    refine ⟨Store.pairwise_put k v h.1, fun p hp => ?_⟩
    rcases Store.mem_put hp with rfl | hp
    · exact hv
    · exact h.2 p hp

/-- The empty table has the canonical form. -/
theorem Store.wf_nil : Store.wf dflt ([] : Store α) := ⟨List.Pairwise.nil, by simp⟩

/-- Two tables in canonical form that read alike at every key are the same table. -/
theorem Store.ext_get {m n : Store α} (hm : Store.wf dflt m) (hn : Store.wf dflt n)
    (h : ∀ k, Store.get dflt m k = Store.get dflt n k) : m = n := by
  have low : ∀ {x : Store α} {k : Nat}, (∀ p ∈ x, k < p.1) → Store.get dflt x k = dflt k := fun hx =>
    Store.get_absent _ _ fun p hp => Nat.ne_of_gt (hx p hp)
  induction m generalizing n with
  | nil =>
    cases n with
    | nil => rfl
    | cons q n =>
      have h1 := h q.1
      rw [Store.get_nil, Store.get_cons, if_pos rfl] at h1
      exact absurd h1.symm (hn.2 q (by simp))
  | cons p m ih =>
    obtain ⟨hm1, hm2⟩ := List.pairwise_cons.1 hm.1
    cases n with
    | nil =>
      have h1 := h p.1
      rw [Store.get_nil, Store.get_cons, if_pos rfl] at h1
      exact absurd h1 (hm.2 p (by simp))
    | cons q n =>
      obtain ⟨hn1, hn2⟩ := List.pairwise_cons.1 hn.1
      have hpv := hm.2 p (by simp)
      have hqv := hn.2 q (by simp)
      have hk : p.1 = q.1 := by
        rcases Nat.lt_trichotomy p.1 q.1 with hl | he | hl
        · have h1 := h p.1
          rw [Store.get_cons, if_pos rfl, low fun r hr => ?_] at h1
          · exact absurd h1 hpv
          · rcases List.mem_cons.1 hr with rfl | hr
            · exact hl
            · exact Nat.lt_trans hl (hn1 r hr)
        · exact he
        · have h1 := h q.1
          rw [Store.get_cons q, if_pos rfl, low fun r hr => ?_] at h1
          · exact absurd h1.symm hqv
          · rcases List.mem_cons.1 hr with rfl | hr
            · exact hl
            · exact Nat.lt_trans hl (hm1 r hr)
      have hv : p.2 = q.2 := by
        have h1 := h p.1
        rw [Store.get_cons, if_pos rfl, Store.get_cons, if_pos hk] at h1
        exact h1
      have hpq : p = q := Prod.ext hk hv
      subst hpq
      congr 1
      refine ih ⟨hm2, fun r hr => hm.2 r (List.mem_cons_of_mem _ hr)⟩ ⟨hn2, fun r hr => hn.2 r (List.mem_cons_of_mem _ hr)⟩ fun k => ?_
      by_cases hkp : k = p.1
      · rw [hkp, low hm1, low hn1]
      · have h1 := h k
        rwa [Store.get_cons, if_neg hkp, Store.get_cons, if_neg hkp] at h1

/-! ### Memory -/

/-- A byte reads as written; every other byte reads as before. -/
@[simp] theorem Memory.rd8_wr8 (m : Memory) (a b : Nat) (v : Byte) :
    Memory.rd8 (Memory.wr8 m a v) b = if b = a then v else Memory.rd8 m b := Store.get_set m a b v

/-- A write of n bytes at `a`: byte i of the number is read at a + i, and every other byte as before. -/
theorem Memory.rd8_wr (m : Memory) (a n v b : Nat) :
    Memory.rd8 (Memory.wr m a n v) b =
      if a ≤ b ∧ b < a + n then BitVec.ofNat 8 (v / 256 ^ (b - a)) else Memory.rd8 m b := by
  induction n generalizing m a v with
  | zero => rw [Memory.wr, if_neg (by omega)]
  | succ n ih =>
    rw [Memory.wr, ih, Memory.rd8_wr8]
    by_cases h : a + 1 ≤ b ∧ b < a + 1 + n
    · have e : b - a = (b - (a + 1)) + 1 := by omega
      rw [if_pos h, if_pos (by omega), e, Nat.pow_succ', Nat.div_div_eq_div_mul]
    · rw [if_neg h]
      by_cases h2 : b = a
      · rw [if_pos h2, if_pos (by omega), h2]
        simp
      · rw [if_neg h2, if_neg (by omega)]

/-- A list of bytes written at `a`. -/
theorem Memory.rd8_wrBytes (m : Memory) (a : Nat) (l : List Byte) (b : Nat) :
    Memory.rd8 (Memory.wrBytes m a l) b = if h : a ≤ b ∧ b - a < l.length then l[b - a]'h.2 else Memory.rd8 m b := by
  induction l generalizing m a with
  | nil => simp [Memory.wrBytes]
  | cons x l ih =>
    rw [Memory.wrBytes, ih, Memory.rd8_wr8]
    by_cases h2 : b = a
    · subst h2
      rw [dif_neg (by omega), if_pos rfl, dif_pos (by simp)]
      simp
    · by_cases h : a + 1 ≤ b ∧ b - (a + 1) < l.length
      · have h3 : a ≤ b ∧ b - a < (x :: l).length := by simp only [List.length_cons]; omega
        rw [dif_pos h, dif_pos h3]
        have e : b - a = (b - (a + 1)) + 1 := by omega
        simp [e]
      · have h3 : ¬(a ≤ b ∧ b - a < (x :: l).length) := by simp only [List.length_cons]; omega
        rw [dif_neg h, dif_neg h3, if_neg h2]

/-- The byte operations keep the canonical form. -/
theorem Memory.wf_wr8 {m : Memory} (a : Nat) (v : Byte) (h : m.wf) : (m.wr8 a v).wf := Store.wf_set a v h

theorem Memory.wf_wr {m : Memory} (a n v : Nat) (h : m.wf) : (m.wr a n v).wf := by
  induction n generalizing m a v with
  | zero => exact h
  | succ n ih => exact ih _ _ (Memory.wf_wr8 _ _ h)

theorem Memory.wf_wrBytes {m : Memory} (a : Nat) (l : List Byte) (h : m.wf) : (m.wrBytes a l).wf := by
  induction l generalizing m a with
  | nil => exact h
  | cons x l ih => exact ih _ (Memory.wf_wr8 _ _ h)

end Sys2Proof.Machine
end

