-- ==== Sys2Proof/Laws/Harts.lean ====
section
/-! SUPPORT. Laws/Harts.lean: the harts read after a write, and what the issue of one instruction does. -/
namespace Sys2Proof.Machine

@[simp] theorem State.hart_setHart (s : State) (h k : Nat) (x : Hart) : (s.setHart h x).hart k = if k = h then x else s.hart k := by
  unfold State.hart State.setHart
  exact Store.get_set s.harts.all h k x

/-- w0 reads 0, whatever has been written (R417). -/
@[simp] theorem Hart.r_zero (x : Hart) : x.r 0 = 0 := rfl

theorem Hart.setR_zero (x : Hart) (v : Word) : x.setR 0 v = x := rfl

theorem Hart.r_setR (x : Hart) (i j : Nat) (v : Word) (h : i ≠ 0) : (x.setR i v).r j = if j = i then v else x.r j := by
  unfold Hart.r Hart.setR
  rw [if_neg h]
  by_cases hj : j = 0
  · subst hj
    rw [if_pos rfl, if_pos rfl, if_neg (Ne.symm h)]
  · rw [if_neg hj, if_neg hj]
    exact Store.get_set x.w i j v

/-- Reading a scratchpad word leaves the harts and the scratchpad. -/
@[simp] theorem State.spWord_harts (s : State) (a : Nat) : (s.spWord a).2.harts = s.harts := by
  unfold State.spWord
  dsimp only
  split <;> rfl

@[simp] theorem State.spWord_pending (s : State) (a : Nat) : (s.spWord a).2.pending = s.pending := by
  unfold State.spWord
  dsimp only
  split <;> rfl

@[simp] theorem State.fetch_harts (s : State) (a : Nat) : (s.fetch a).2.harts = s.harts := by
  unfold State.fetch
  split
  · rfl
  · have h := s.spWord_harts a
    revert h
    generalize s.spWord a = x
    intro h
    match x with
    | (none, s1) => exact h
    | (some w, s1) => exact h

/-- A hart that issues an instruction goes past it, is busy for its cycles, and the instruction acts. -/
theorem State.issue_of_issuing {s : State} {h c : Nat} {i : HWord} (act : HWord → State → State) (hi : Issuing s h c i) :
    s.issue h c (some i.op) act =
      act i (((s.atHart c).fetch ((s.atHart c).hart h).pc).2.setHart h (((s.atHart c).hart h).issued c i)) := by
  obtain ⟨h1, h2, h3, w, s1, hf, hd⟩ := hi
  have hh : s1.harts = (s.atHart c).harts := by
    have := (s.atHart c).fetch_harts ((s.atHart c).hart h).pc
    rw [hf] at this
    exact this
  have hx : s1.hart h = (s.atHart c).hart h := by
    unfold State.hart
    rw [hh]
  unfold State.issue
  dsimp only
  rw [if_neg (by simp [h1, h2]), if_neg (by simp [h3])]
  simp only [hf, hd, hx]
  rw [if_neg (by simp)]
  rfl

end Sys2Proof.Machine
end

