-- ==== Sys2Proof/Laws/Ops.lean ====
section
/-! SUPPORT. Laws/Ops.lean: registers and their fields read after a write, and what a message, an event bit and an error can change. -/
namespace Sys2Proof.Machine

/-! ### Registers -/

@[simp] theorem Device.reg_setReg (d : Device) (o p : Nat) (v : Word) : (d.setReg o v).reg p = if p = o then v else d.reg p := by
  unfold Device.reg Device.setReg
  exact Store.get_set d.regs o p v

@[simp] theorem Device.sh_setSh (d : Device) (o p : Nat) (v : Word) : (d.setSh o v).sh p = if p = o then v else d.sh p := by
  unfold Device.sh Device.setSh
  exact Store.get_set d.shadow o p v

/-! ### Fields -/

/-- A field written reads back, modulo its width. -/
theorem fld_setFld (v : Word) {lo w : Nat} (x : Nat) (h : lo + w ≤ 32) : fld (setFld v lo w x) lo w = x % 2 ^ w := by
  unfold setFld fld
  have hv := v.isLt
  have hp : 2 ^ lo * 2 ^ w ≤ 2 ^ 32 := by rw [← Nat.pow_add]; exact Nat.pow_le_pow_right (by omega) h
  have hlo : 0 < 2 ^ lo := Nat.pos_of_ne_zero (by simp)
  have hw : 0 < 2 ^ w := Nat.pos_of_ne_zero (by simp)
  generalize hP : 2 ^ lo = P at *
  generalize hQ : 2 ^ w = Q at *
  generalize hn : v.toNat = n at *
  have e1 : n = P * (Q * (n / P / Q) + n / P % Q) + n % P := by rw [Nat.div_add_mod, Nat.div_add_mod]
  have hx : x % Q < Q := Nat.mod_lt _ hw
  have hr : n % P < P := Nat.mod_lt _ hlo
  have hd : P * (Q * (n / P / Q)) ≤ n := by
    calc P * (Q * (n / P / Q)) ≤ P * (n / P) := Nat.mul_le_mul_left _ (Nat.mul_div_le _ _)
      _ ≤ n := Nat.mul_div_le _ _
  have e2 : n - n / P % Q * P = P * (Q * (n / P / Q)) + n % P := by
    have : n / P % Q * P = P * (n / P % Q) := Nat.mul_comm _ _
    rw [this]
    have := e1
    rw [Nat.mul_add] at this
    omega
  rw [e2, BitVec.toNat_ofNat]
  have e3 : P * (Q * (n / P / Q)) + n % P + x % Q * P = P * (Q * (n / P / Q) + x % Q) + n % P := by ring
  have hdiv : 2 ^ 32 = P * Q * (2 ^ 32 / (P * Q)) := by
    have : P * Q ∣ 2 ^ 32 := by
      rw [← hP, ← hQ, ← Nat.pow_add]; exact Nat.pow_dvd_pow 2 h
    exact (Nat.mul_div_cancel' this).symm
  rw [e3, hdiv, Nat.mul_assoc P Q, ← Nat.mod_mul_right_div_self, ← Nat.mul_assoc P Q, Nat.mod_mul_right_mod, Nat.mod_mul_right_div_self,
    Nat.mul_add_div hlo, Nat.div_eq_of_lt hr, Nat.add_zero, Nat.mul_add_mod, Nat.mod_mod]

/-! ### Messages, events and errors -/

/-- What the device does when it speaks up: beside registers it changes the pending bits of MSI-X vectors, what it has sent, the supervisor
posts, the fault log and the ladder's tick, and nothing else. -/
abbrev Device.Speaks (d e : Device) : Prop :=
  { e with
    regs := d.regs
    hif := { e.hif with vecs := d.hif.vecs }
    out := d.out
    arriving := d.arriving
    fltLog := d.fltLog
    ladderTick := d.ladderTick } = d

theorem Device.Speaks.refl (d : Device) : d.Speaks d := rfl

theorem Device.Speaks.trans {d e f : Device} (h : d.Speaks e) (g : e.Speaks f) : d.Speaks f := by
  unfold Device.Speaks at *
  rw [← h]
  rw [← g]

theorem Device.speaks_setReg (d : Device) (o : Nat) (v : Word) : d.Speaks (d.setReg o v) := rfl

/-- A message changes no register but MSIX_DROPPED. -/
theorem Device.msix_reg (d : Device) (f v o : Nat) (h : o ≠ R.hif_MSIX_DROPPED) : (d.msix f v).reg o = d.reg o := by
  unfold Device.msix
  dsimp only
  split
  · simp [h]
  · split <;> rfl

theorem Device.msix_speaks (d : Device) (f v : Nat) : d.Speaks (d.msix f v) := by
  unfold Device.msix
  dsimp only
  split
  · rfl
  · split <;> rfl

theorem Device.evtSend_reg (d : Device) (pg o : Nat) (h : o ≠ R.hif_MSIX_DROPPED) : (d.evtSend pg).reg o = d.reg o := by
  unfold Device.evtSend
  dsimp only
  split <;> split
  all_goals first
    | rfl
    | exact d.msix_reg _ _ o h

theorem Device.evtSend_speaks (d : Device) (pg : Nat) : d.Speaks (d.evtSend pg) := by
  unfold Device.evtSend
  dsimp only
  split <;> split
  all_goals first
    | rfl
    | exact d.msix_speaks _ _

/-- EVT_RAW bits of a page rise; no register changes but that one and MSIX_DROPPED (R52). -/
theorem Device.evt_reg (d : Device) (pg o : Nat) (b : Word) (h : o ≠ R.hif_MSIX_DROPPED) :
    (d.evt pg b).reg o = if o = pg + 0x20 then d.reg o ||| b else d.reg o := by
  unfold Device.evt Device.evtRise
  split
  · rw [Device.evtSend_reg _ _ _ h]
    simp only [Device.reg_setReg]
    split <;> simp_all
  · simp only [Device.reg_setReg]
    split <;> simp_all

theorem Device.evt_speaks (d : Device) (pg : Nat) (b : Word) : d.Speaks (d.evt pg b) := by
  unfold Device.evt Device.evtRise
  split
  · exact (d.speaks_setReg _ _).trans (Device.evtSend_speaks _ _)
  · rfl

theorem Device.evtBit_reg (d : Device) (pg i o : Nat) (h : o ≠ R.hif_MSIX_DROPPED) :
    (d.evtBit pg i).reg o = if o = pg + 0x20 then d.reg o ||| wd (2 ^ i) else d.reg o := d.evt_reg pg o _ h

theorem Device.evtBit_speaks (d : Device) (pg i : Nat) : d.Speaks (d.evtBit pg i) := d.evt_speaks pg _

/-- Arming the ladder touches LADDER_STATE alone. -/
theorem Device.armLadder_reg (d : Device) (o : Nat) (h : o ≠ R.flt_LADDER_STATE) : d.armLadder.reg o = d.reg o := by
  unfold Device.armLadder
  split
  · show ((d.setN _ _).reg o) = _
    simp [h]
  · rfl

theorem Device.armLadder_speaks (d : Device) : d.Speaks d.armLadder := by
  unfold Device.armLadder
  split <;> rfl

/-- The registers that a record of the fault log may change (R597, R598). -/
def faultRegs : List Nat := [R.flt_LOG_HEAD, R.flt_LOG_OVERRUN, 0xF000 + 0x20, R.flt_LADDER_STATE, R.hif_MSIX_DROPPED]

theorem Device.faultLog_reg (d : Device) (src code cls : Nat) (lo hi : Word) (o : Nat) (h : o ∉ faultRegs) :
    (d.faultLog src code cls lo hi).reg o = d.reg o := by
  simp only [faultRegs, List.mem_cons, List.not_mem_nil, or_false, not_or] at h
  obtain ⟨h1, h2, h3, h4, h5⟩ := h
  unfold Device.faultLog
  dsimp only
  have key : ∀ (b : Prop) [Decidable b] (e : Device), e.regs = d.regs → (((if b then
      (e.setN R.flt_LOG_HEAD ((d.rf R.flt_LOG_HEAD 0 6 + 1) % 64)).count R.flt_LOG_OVERRUN 1
      else e.setN R.flt_LOG_HEAD ((d.rf R.flt_LOG_HEAD 0 6 + 1) % 64)).evtBit 0xF000 19).reg o) = d.reg o := by
    intro b _ e he
    rw [Device.evtBit_reg _ _ _ _ h5, if_neg h3]
    split
    · rw [Device.setN_eq, Device.count_eq, Device.reg_setReg, if_neg h2, Device.reg_setReg, if_neg h1, Device.reg, he]
      rfl
    · rw [Device.setN_eq, Device.reg_setReg, if_neg h1, Device.reg, he]
      rfl
  split
  · rw [Device.armLadder_reg _ _ h4]
    exact key _ _ rfl
  · exact key _ _ rfl

theorem Device.faultLog_speaks (d : Device) (src code cls : Nat) (lo hi : Word) : d.Speaks (d.faultLog src code cls lo hi) := by
  unfold Device.faultLog
  dsimp only
  split
  · refine Device.Speaks.trans ?_ (Device.armLadder_speaks _)
    refine Device.Speaks.trans ?_ (Device.evtBit_speaks _ _ _)
    split <;> rfl
  · refine Device.Speaks.trans ?_ (Device.evtBit_speaks _ _ _)
    split <;> rfl

/-- A block error changes no register but its page's error record and EVT_RAW, and those of the fault log (R54, R595). -/
theorem Device.err_reg (d : Device) (pg code : Nat) (lo hi : Word) (o : Nat) (h : o ∉ faultRegs)
    (h2 : o ∉ [pg + 0x20, pg + 0x30, pg + 0x34, pg + 0x38, pg + 0x3C]) : (d.err pg code lo hi).reg o = d.reg o := by
  have h5 : o ≠ R.hif_MSIX_DROPPED := by
    intro e
    exact h (by simp [faultRegs, e])
  simp only [List.mem_cons, List.not_mem_nil, or_false, not_or] at h2
  obtain ⟨a, b, c, e, f⟩ := h2
  unfold Device.err Device.errAs
  dsimp only
  have key : ∀ x : Device, x.reg o = d.reg o → ((x.count (pg + 0x34) 1).evtBit pg 2).reg o = d.reg o := by
    intro x hx
    rw [Device.evtBit_reg _ _ _ _ h5, if_neg a]
    simp [c, hx]
  split
  · rw [Device.faultLog_reg _ _ _ _ _ _ _ h]
    refine key _ ?_
    split
    · rfl
    · simp [b, e, f]
  · refine key _ ?_
    split
    · rfl
    · simp [b, e, f]

theorem Device.err_speaks (d : Device) (pg code : Nat) (lo hi : Word) : d.Speaks (d.err pg code lo hi) := by
  unfold Device.err Device.errAs
  dsimp only
  have key : ∀ x : Device, d.Speaks x → d.Speaks ((x.count (pg + 0x34) 1).evtBit pg 2) := fun x hx =>
    (hx.trans (x.speaks_setReg (pg + 0x34) (satAdd (x.reg (pg + 0x34)) 1))).trans (Device.evtBit_speaks _ _ _)
  split
  · refine Device.Speaks.trans ?_ (Device.faultLog_speaks _ _ _ _ _ _)
    refine key _ ?_
    split <;> rfl
  · refine key _ ?_
    split <;> rfl

/-- Every block error counts in its page's ERR_COUNT (R54). -/
theorem Device.err_count (d : Device) (pg code : Nat) (lo hi : Word) (h : pg + 0x34 ∉ faultRegs) :
    (d.err pg code lo hi).reg (pg + 0x34) = satAdd (d.reg (pg + 0x34)) 1 := by
  have h5 : pg + 0x34 ≠ R.hif_MSIX_DROPPED := by
    intro e
    exact h (by simp [faultRegs, e])
  unfold Device.err Device.errAs
  dsimp only
  have key : ∀ x : Device, x.reg (pg + 0x34) = d.reg (pg + 0x34) →
      ((x.count (pg + 0x34) 1).evtBit pg 2).reg (pg + 0x34) = satAdd (d.reg (pg + 0x34)) 1 := by
    intro x hx
    rw [Device.evtBit_reg _ _ _ _ h5, if_neg (by omega)]
    simp [hx]
  split
  · rw [Device.faultLog_reg _ _ _ _ _ _ _ h]
    refine key _ ?_
    split
    · rfl
    · simp
  · refine key _ ?_
    split
    · rfl
    · simp

end Sys2Proof.Machine
end

