-- ==== Sys2Proof/WellFormed.lean ====
section
/-! DEFINITION. WellFormed.lean: which operands a sender can give a command, beyond what the operands' types say. Every command has its
meaning on every operand; these are the operands that the interfaces of the device can carry. -/
namespace Sys2Proof

/-- A register access: a dword-aligned page offset, and the length in bytes of a request of at most 4,096 bytes (R27, R319). -/
def Access.wellFormed (a : Access) : Bool :=
  decide (4 ≤ a.len ∧ a.len ≤ 4096 ∧ a.len % 4 = 0) && match a.target with
    | .page x => decide (x % 4 = 0 ∧ x < 2 ^ 32)
    | _ => true

/-- A page that a commit names: an offset of the register BAR, a multiple of the page size (R26). -/
def pageWellFormed (pg : Nat) : Bool := decide (pg % 0x1000 = 0 ∧ pg < 0x8000000)

/-- A block-RAM access: an address inside the mode's words, the lanes of the mode, RESTART in RING mode alone; a RING of 2 to 1,024 words
with a DELAY below its LENGTH (R475, Table 18.3). -/
def BramAcc.wellFormed (a : BramAcc) : Bool :=
  match a.mode with
  | .duo n => decide (a.addr < 4096 / 2 ^ n.val ∧ a.we.toNat < 2 ^ 2 ^ n.val ∧ a.data.toNat < 2 ^ (9 * 2 ^ n.val)) && !a.restart
  | .wide => decide (a.addr < 256) && !a.restart
  | .guard => decide (a.addr < 256 ∧ a.we.toNat < 4 ∧ a.data.toNat < 2 ^ 128) && !a.restart
  | .ring len del => decide (2 ≤ len ∧ len ≤ 1024 ∧ 1 ≤ del ∧ del < len ∧ a.data.toNat < 2 ^ 36)

/-- A Linwald flit: seven credit words and at most six segments (Table 20.1). -/
def LwFlit.wellFormed (f : LwFlit) : Bool := decide (f.crStream.length = 7 ∧ f.segs.length ≤ 6)

/-- A frame of the client interface: TS_OFF and CKSUM_OFF are 16-bit offsets (R515). -/
def ClientFrame.wellFormed (f : ClientFrame) : Bool := f.oneStep.all fun x => decide (x.1 < 65536 ∧ x.2 < 65536)

/-- Whether a sender can give the command. -/
def Instr.wellFormed : Instr → Bool
  | .registerWrite a => a.wellFormed
  | .pairLoRead a => a.wellFormed
  | .pairLoWrite a => a.wellFormed
  | .pairHiWrite a => a.wellFormed
  | .commitApply a => a.wellFormed
  | .commitDiscard a => a.wellFormed
  | .pagePortsWrite a => a.wellFormed
  | .evtEnableWrite a => a.wellFormed
  | .evtRouteWrite a => a.wellFormed
  | .errFirstClear a => a.wellFormed
  | .pgdRecordClear a => a.wellFormed
  | .clearCounts a => a.wellFormed
  | .loggedRead a => a.wellFormed
  | .commitValidated pg _ => pageWellFormed pg
  | .commitSafePoint pg _ _ => pageWellFormed pg
  | .refEdge l m _ => !l.isEmpty && decide (l.length = m.length ∧ (l.map (·.1)).Nodup)
  | .pushWrite _ _ off len _ words _ => decide (off < 4096 ∧ 4 ≤ len ∧ words.length * 4 = len)
  | .atsInvalidate _ _ n _ => decide (1 ≤ n)
  | .clipSample r _ => decide (r.length = 16)
  | .bramAccess _ _ a _ => a.wellFormed
  | .ethTxFrame _ f _ => f.all (·.wellFormed)
  | .lwInitReceived _ f _ v c _ _ _ => f.wellFormed && decide (v < 2 ^ 32 ∧ c < 2 ^ 32)
  | .lwFlitReceived _ f _ _ _ => f.wellFormed
  | .lwRetryReq _ f _ _ _ _ => f.wellFormed
  | .vccoGood _ mv _ => decide (mv < 8192)
  | .vccoFault _ mv _ => decide (mv < 8192)
  | .avsReadback v _ => v.all fun x => decide (x < 1024)
  | _ => true

end Sys2Proof
end

