-- ==== Sys2Proof/Tests/Slice0.lean ====
section
/-! SUPPORT. Tests/Slice0.lean: small states and operands that meet the hypotheses of the statements, and the smoke test of
WellFormed. -/
namespace Sys2Proof.Tests
set_option Elab.async false
open Sys2Proof Sys2Proof.Machine

/-- A device in operation: CORE is out of reset, the milestone is READY, every bay and slice is powered. -/
def running : Device :=
  let d := Device.reset
  let b : Boot := { d.boot with
    core := true
    mile := 3
    rom := .done
    perstN := true }
  let d1 := { d with boot := b }
  let d2 := (d1.setReg R.pow_BAY_ON_LO 0xFFFFFFFF#32).setReg R.pow_BAY_ON_HI 0xFFFFFFFF#32
  (d2.setReg R.pow_SLICE_ON_LO 0xFFFFFFFF#32).setReg R.pow_SLICE_ON_HI 0xFFFFFFFF#32

/-- The state of a device. -/
def st (d : Device) : State := { State.reset with dev := d }

/-- A write by MGMT at tick 5. -/
def w (v : Word) : Req := ⟨.mgmt, 15, v, 5⟩

/-- Both clauses of StepRunsTheFrontCommand are met. -/
theorem witness_step : ({ st running with pending := [Instr.lraAnswer 3] } : State).pending = .lraAnswer 3 :: [] ∧ (st running).pending = [] :=
  ⟨rfl, rfl⟩

/-- A command outside the list of OnlySupervisorCommandsReachTheHarts. -/
theorem witness_unlisted : reachesHarts (.lraAnswer 3) = false := rfl

/-- A MGMT write of FLT AER_CFG meets the hypotheses of RegisterWriteActsByAccessType. -/
theorem witness_plain : WritesAt (st running) ⟨.mgmt, .page R.flt_AER_CFG, 15, 4, 1#32, 5⟩ R.flt_AER_CFG = true ∧
    (regDefAt R.flt_AER_CFG).any (fun r => r.pair == 0 && r.fields.all fun f =>
      whoOk f.who .mgmt R.flt_AER_CFG && (f.acc != .rw || inRange f (fld 1#32 f.lo f.w))) = true ∧
    inHeader R.flt_AER_CFG = false ∧ ((running.at 5).actingWrite ⟨.mgmt, 15, 1#32, 5⟩ R.flt_AER_CFG).isNone = true ∧
    blockAt R.flt_AER_CFG = some (8, 0) := by decide

/-- An unmapped, a denied and a lost access: the clauses of RefusedAccessesAreLogged. -/
theorem witness_refused : (running.at 5).portExists .mgmt = true ∧ (running.at 5).portD3 .mgmt = false ∧
    (running.at 5).ending .mgmt 0x300000 true = 2 ∧ (running.at 5).ending .mgmt 0x300000 false = 2 ∧
    (running.at 5).ending .fabric R.prt_PORT_OFF true = 1 ∧ (running.at 5).ending .fabric R.prt_PORT_OFF false = 1 ∧
    (Device.reset.at 5).ending .mgmt R.prt_PORT_OFF true = 3 ∧ (Device.reset.at 5).ending .mgmt R.prt_PORT_OFF false = 3 ∧
    (running.at 5).portExists .fabric = true ∧ (running.at 5).portD3 .fabric = false := by decide

/-- SEC FW_SRC meets the clauses of PairsStageAndCapture. -/
theorem witness_pairs : blockAt R.sec_FW_SRC_LO = blockAt (R.sec_FW_SRC_LO + 4) ∧ inHeader R.sec_FW_SRC_LO = false ∧
    inHeader (R.sec_FW_SRC_LO + 4) = false ∧ blockAt R.sec_FW_SRC_LO = some (4, 1) ∧
    WritesAt (st running) ⟨.mgmt, .page R.sec_FW_SRC_LO, 15, 4, 7#32, 5⟩ R.sec_FW_SRC_LO = true ∧
    isPairRw R.sec_FW_SRC_LO 1 = true ∧ mayWrite .mgmt R.sec_FW_SRC_LO = true ∧
    ReadsAt (st running) ⟨.mgmt, .page R.sec_FW_SRC_LO, 15, 4, 0#32, 5⟩ R.sec_FW_SRC_LO = true ∧
    (regDefAt R.sec_FW_SRC_LO).map (·.pair) = some 1 := by decide
theorem witness_pairs_hi : WritesAt (st running) ⟨.mgmt, .page (R.sec_FW_SRC_LO + 4), 15, 4, 7#32, 5⟩ (R.sec_FW_SRC_LO + 4) = true ∧
    isPairRw (R.sec_FW_SRC_LO + 4) 2 = true ∧ isPairRw (R.sec_FW_SRC_LO + 4) 1 = false ∧ mayWrite .mgmt (R.sec_FW_SRC_LO + 4) = true ∧
    ((running.at 5).actingWrite ⟨.mgmt, 15, 7#32, 5⟩ (R.sec_FW_SRC_LO + 4)).isNone = true := by decide

/-- A device whose THM commit is PENDING. -/
def pendThm : Device := running.setN (0xE000 + 0x1C) 1
/-- THM COMMIT, written by MGMT, and TEN page 3's, written by its tenant, meet the clauses of CommitsTakeASnapshotOrReload. -/
theorem witness_commit : pageOf (0xE000 + 0x18) = 0xE000 ∧ isHdr 0x18 (0xE000 + 0x18) = true ∧ blockAt 0xE000 = some (7, 0) ∧
    hasCommit 7 0 = true ∧ memberPage 7 0 = false ∧ fld 1#32 0 2 = 1 ∧ fld 3#32 1 1 = 1 ∧
    WritesAt (st running) ⟨.mgmt, .page (0xE000 + 0x18), 15, 4, 1#32, 5⟩ (0xE000 + 0x18) = true ∧ running.rf (0xE000 + 0x1C) 0 2 ≠ 1 ∧
    WritesAt (st running) ⟨.mgmt, .page (0xE000 + 0x18), 15, 4, 3#32, 5⟩ (0xE000 + 0x18) = true ∧
    WritesAt (st pendThm) ⟨.mgmt, .page (0xE000 + 0x18), 15, 4, 1#32, 5⟩ (0xE000 + 0x18) = true ∧ pendThm.rf (0xE000 + 0x1C) 0 2 = 1 := by decide
/-- A device whose VFs are enabled. -/
def withVfs : Device := { running with hif := { running.hif with vfEnable := true, numVfs := 1024 } }
theorem witness_commit_tenant : pageOf (0x403000 + 0x18) = 0x403000 ∧ isHdr 0x18 (0x403000 + 0x18) = true ∧ blockAt 0x403000 = some (22, 3) ∧
    hasCommit 22 3 = true ∧ memberPage 22 3 = false ∧
    WritesAt (st withVfs) ⟨.tenant 3, .page 0x18, 15, 4, 1#32, 5⟩ (0x403000 + 0x18) = true := by decide

/-- A device whose THM masks are locked. -/
def lockedThm : Device := running.setF (0xE000 + 0xC) 31 1 1
/-- The three clauses of MasksOnlyNarrow. -/
theorem witness_masks : isHdr 0xC (0xE000 + 0xC) = true ∧ running.rf (0xE000 + 0xC) 31 1 = 0 ∧ lockedThm.rf (0xE000 + 0xC) 31 1 = 1 ∧
    WritesAt (st running) ⟨.mgmt, .page (0xE000 + 0xC), 15, 4, 1#32, 5⟩ (0xE000 + 0xC) = true ∧
    WritesAt (st lockedThm) ⟨.mgmt, .page (0xE000 + 0xC), 15, 4, 1#32, 5⟩ (0xE000 + 0xC) = true ∧
    WritesAt (st running) ⟨.supervisor 0, .page (0xE000 + 0xC), 15, 4, 1#32, 5⟩ (0xE000 + 0xC) = true := by decide

/-- A THM commit whose THR_0 holds v. -/
def pThm (v : Word) (ok : Bool) : Pending := ⟨0xE000, Store.set resetOf [] (R.thm_THR 0) v, ok, 0, 0⟩
def thmPend (v : Word) (ok : Bool) : Device := { pendThm with pend := [pThm v ok] }
/-- The clauses of ValidationAndSafePointEndACommit: a set out of range, one that passes, a valid one before and after its tick. -/
theorem witness_validation : ((thmPend 0x7000#32 false).at 5).pendOf 0xE000 = some (pThm 0x7000#32 false) ∧
    (((thmPend 0x7000#32 false).at 5).changed (pThm 0x7000#32 false)).isEmpty = false ∧
    ((thmPend 0x7000#32 false).at 5).commitFail (pThm 0x7000#32 false) = some (R.thm_THR 0, 1) ∧
    (((thmPend 0x400#32 false).at 5).changed (pThm 0x400#32 false)).isEmpty = false ∧
    ((thmPend 0x400#32 false).at 5).commitFail (pThm 0x400#32 false) = none := by decide
theorem witness_safe_point : ({ st (thmPend 0x400#32 true) with dev := ((thmPend 0x400#32 true).at 5).atCyc 9 } : State).commitSafe (pThm 0x400#32 true) = true ∧
    ({ st (thmPend 0x400#32 true) with dev := ((thmPend 0x400#32 true).at 0).atCyc 9 } : State).commitSafe (pThm 0x400#32 true) = false := by decide

/-- A device with a set, not enabled event of THM page 0, routed to vector 7 of PF0, whose messages may be sent. -/
def routed : Device := (((running.setReg (0xE000 + 0x20) 1#32).setReg (0xE000 + 0x2C) 0x40000007#32).setFn 0
  { running.fn 0 with bme := true, msixEn := true }).setVec 0 7 { running.vec 0 7 with mask := false }
/-- The clauses of EventsEnableRouteAndClear. -/
theorem witness_events : pageOf 0xE000 = 0xE000 ∧ WritesAt (st routed) ⟨.mgmt, .page (0xE000 + 0x24), 15, 4, 1#32, 5⟩ (0xE000 + 0x24) = true ∧
    isHdr 0x24 (0xE000 + 0x24) = true ∧ pageOf (0xE000 + 0x24) = 0xE000 ∧
    routed.reg (0xE000 + 0x20) &&& 1#32 &&& ~~~(routed.evtPending 0xE000) ≠ 0 ∧ routed.reg (0xE000 + 0x20) &&& 2#32 &&& ~~~(routed.evtPending 0xE000) = 0 ∧
    fld (routed.reg (0xE000 + 0x2C)) 30 2 = 1 ∧ (routed.fn (routed.routeFn 0xE000)).msixEn = true ∧ routed.mayRequest (routed.routeFn 0xE000) = true ∧
    (routed.fn (routed.routeFn 0xE000)).fmask = false ∧ (routed.vec (routed.routeFn 0xE000) 7).mask = false := by decide
theorem witness_clears : WritesAt (st running) ⟨.mgmt, .page (0xE000 + 0x2C), 15, 4, 0x3000#32, 5⟩ (0xE000 + 0x2C) = true ∧
    isHdr 0x2C (0xE000 + 0x2C) = true ∧ pageOf (0xE000 + 0x2C) = 0xE000 ∧ fld 0x3000#32 12 2 = 3 ∧ fld 0x7FF#32 12 2 = 0 ∧ fld 0x7FF#32 0 12 < 2048 ∧
    WritesAt (st running) ⟨.mgmt, .page (0xE000 + 0x2C), 15, 4, 0x7FF#32, 5⟩ (0xE000 + 0x2C) = true ∧
    WritesAt (st running) ⟨.mgmt, .page (0xE000 + 0x30), 15, 4, 0x80000000#32, 5⟩ (0xE000 + 0x30) = true ∧
    isHdr 0x30 (0xE000 + 0x30) = true ∧ pageOf (0xE000 + 0x30) = 0xE000 ∧ fld 0x80000000#32 31 1 = 1 ∧ pgdSrc R.pgd_DENY_FIRST_SRC = true ∧
    WritesAt (st running) ⟨.mgmt, .page R.pgd_DENY_FIRST_SRC, 15, 4, 0x80000000#32, 5⟩ R.pgd_DENY_FIRST_SRC = true ∧
    WritesAt (st running) ⟨.mgmt, .page (0xC000 + 0x10), 15, 4, 1#32, 5⟩ (0xC000 + 0x10) = true ∧ isHdr 0x10 (0xC000 + 0x10) = true ∧
    pageOf (0xC000 + 0x10) = 0xC000 ∧ blockAt 0xC000 = some (6, 0) := by decide

/-- Channel 0 counts input 0, which is PULSE; a count and a zero-cross are owed to it. -/
def counting (st : ChState) (kind : Nat) : Device :=
  let d := (running.setN (R.plb_REF_CFG 0) kind).setN (R.plb_SRC 0) (2 ^ 31 + 1)
  let x : Chan := { d.ch 0 with st := st, mains := ⟨true, some 10, [65536], 3⟩ }
  (d.setCh 0 x).setOwed [⟨0, 1, 3, false⟩, ⟨0, 1, 4, true⟩]
/-- The clauses of ReferenceInputsAreCounted. -/
theorem witness_reference : (counting .tracking 4).refKind 0 = 4 ∧ ((counting .tracking 4).refIn 0).level ≠ true ∧
    true ≠ ((counting .tracking 4).rf (R.plb_REF_CFG 0) 5 1 == 1) ∧ (counting .tracking 4).freeRunning 0 = false ∧
    (counting .tracking 4).chEnabled 0 = true ∧ takeOwed 0 false (counting .tracking 4).plb.owed = some (⟨0, 1, 3, false⟩, [⟨0, 1, 4, true⟩]) ∧
    ((counting .tracking 4).ch 0).st = .tracking ∧ takeOwed 0 true (counting .tracking 4).plb.owed = some (⟨0, 1, 4, true⟩, [⟨0, 1, 3, false⟩]) ∧
    (counting .tracking 5).isMains 0 = true ∧ ((counting .tracking 5).ch 0).mains = ⟨true, some 10, [65536], 3⟩ ∧ 10 + (3 + 1) * 65536 / 65536 ≤ 14 := by
  decide

/-- Channel 0 as in `counting`, with a STALL_TIMEOUT of 1 µs. -/
def timed (st : ChState) : Device := (counting st 4).setN (R.plb_STALL_TIMEOUT 0) 1
/-- The clauses of ChannelsFollowStallAndResync. -/
theorem witness_stall : Writes (st running) (w 3) R.plb_PTP_CTRL = true ∧ (List.range 8).all (fun c => running.srcKind c != 2) = true ∧
    Writes (st (counting .coasting 4)) (w 1) (R.plb_RESYNC 0) = true ∧ ((counting .coasting 4).ch 0).st = .coasting ∧
    (counting .coasting 4).srcKind 0 = 1 ∧ (timed .tracking).chEnabled 0 = true ∧ (timed .tracking).rf (R.plb_STALL_TIMEOUT 0) 0 24 ≠ 0 ∧
    max ((timed .tracking).ch 0).tEdge ((timed .tracking).ch 0).start + 1000 * (timed .tracking).rf (R.plb_STALL_TIMEOUT 0) 0 24 ≤ 2000 ∧
    ((timed .tracking).ch 0).st = .tracking ∧ ((timed .tracking).isPps 0 && (timed .tracking).srcCoast 0) = false ∧
    (timed .tracking).plb.entries = [] := by decide

/-- An entry of channel 0, pending or due. -/
def entryOf (due : Option Due) : EvEntry := ⟨7, .trigger, 0, 50, 0, 0, 0, 0, 0, some 9, due, 0, none, false⟩
/-- `counting` with that entry. -/
def queued (due : Option Due) : Device := (counting .tracking 4).setEntries [entryOf due]
/-- A queue of n entries. -/
def fullOf (n : Nat) : Device := running.setEntries ((List.range n).map fun n => { entryOf none with num := n })
/-- A device whose POST_TARGET is out of reach of a channel with MOD 16. -/
def farTarget : Device := (running.setN (R.plb_MOD_LO 0) 16).setN R.plb_POST_TARGET_LO 16
/-- The clauses of PositionEntriesArePostedDeliveredAndCancelled. -/
theorem witness_post : Writes (st running) (w 1) R.plb_POST_GO = true ∧ Writes (st farTarget) (w 1) R.plb_POST_GO = true ∧
    (farTarget.at 5).targetOf 0 ((farTarget.at 5).rn64 R.plb_POST_TARGET_LO) 0 = none ∧
    ((running.at 5).targetOf 0 ((running.at 5).rn64 R.plb_POST_TARGET_LO) 0).isSome = true ∧ running.evqFull = false := by decide
theorem used_all (n : Nat) : (fullOf n).evqUsed = n := by
  show (((List.range n).map fun n => { entryOf none with num := n }).filter fun e => !(e.hand.isSome && e.kind == .release)).length = n
  rw [List.filter_map, List.length_map]
  simp [Function.comp_def, entryOf]
theorem witness_post_full : (fullOf 4096).evqFull = true := by
  unfold Device.evqFull
  rw [used_all]
  rfl
theorem witness_cancel : Writes (st (queued none)) (w 0x80000007) R.plb_CANCEL = true ∧ (queued none).entry (fld 0x80000007#32 0 12) = some (entryOf none) ∧
    Writes (st running) (w 0x80000007) R.plb_CANCEL = true ∧ running.entry 7 = none ∧ (queued none).chEnabled 0 = true ∧
    firstDue ((queued (some ⟨9, false, false, false, 0⟩)).plb.entries.filter fun e => e.hand.isNone &&
      (e.due.map fun u => decide (u.tick ≤ ((queued (some ⟨9, false, false, false, 0⟩)).at 9).now.tick)).getD false) =
      some (entryOf (some ⟨9, false, false, false, 0⟩)) := by decide

/-- A placed pulse of output 2, which is enabled. -/
def pulsing : Device := (running.setN (R.plb_TRIG_CFG 2) (1 + 65536 * 100)).setPulses [⟨2, 9, 9, false, none, none⟩]
/-- The clauses of TriggerOutputsPulse. -/
theorem witness_trigger : Writes (st running) (w 4) R.plb_FIRE_NOW = true ∧ firstPulse 2 pulsing.plb.pulses = some ⟨2, 9, 9, false, none, none⟩ ∧
    9 ≤ (pulsing.at 9).now.tick ∧ pulsing.rf (R.plb_TRIG_CFG 2) 0 1 = 1 ∧ Store.get zeroN pulsing.plb.active 2 ≤ (pulsing.at 9).now.tick ∧
    Reads (st running) (w 0) R.plb_EVQ_HIGHWATER = true := by decide

/-- Region 0 is the whole of bay 0, its pipeline RUNNING; tile 0 has one context whose op 0 is `w`, and a flit in queue 0. -/
def tileDev (w : Nat) (f : Flit) (x : TCtx) : Device :=
  let d := (running.setN (R.sch_REGION 0) (2 ^ 31 + 256 + 4096)).setN (R.sch_PIPE_STATE 0) 2
  let d1 := (d.setN (R.trw_CTX_COUNT 0) 1).setN (R.trw_CTX_ACC 0 0) (256 * 64)
  let d2 := (d1.setN (R.trw_SLOT_SKIM 0 0) (2 ^ 31 + 5)).setN (R.trw_HAWK_SLOTS 0) (1 + 65536 * 4)
  let d3 := (d2.setN (R.trw_CTX_HAWK 0 0) (65536 * 8)).setN (R.trw_SLOT_ACT 0 0) 256
  let m : TileMem := { d3.tmemOf 0 with prog := Store.set op0 (Store.set op0 [] 0 (BitVec.ofNat 64 w)) 1 (BitVec.ofNat 64 (3 * 2 ^ 58)) }
  let q : List QFlit := List.replicate 20 ⟨f, 0, 0⟩
  let t : Tile := { d3.tile 0 with queues := [(0, q), (1, q)] }
  (d3.setTmem 0 m).setTile 0 (t.setCtx 0 { x with slot := some 0 })
/-- A data flit and the token of skim 5. -/
def dataFlit : Flit := ⟨0, 0, 0⟩
def tokFlit : Flit := ⟨4, 0, 5⟩
/-- The word of an op: opcode, CNT 1, IN_EN and other low fields. -/
def opWordOf (opc low : Nat) : Nat := opc * 2 ^ 58 + 2 ^ 55 + 2 ^ 49 + low
/-- Whether op word w issues at tile 0 in cycle 9 and passes every check of stage op x. -/
def issues (x : StageOp) (w : Nat) : Bool :=
  match readyOp (st (tileDev w dataFlit (tctx0 0))) 0 9 (· == x.opc) with
  | none => false
  | some o => !noBeats o.w && o.entriesFree (x.plan o) && (o.check (x.plan o) (o.pc + 1)).isNone
/-- The low fields with which each stage op passes its checks. -/
def lows : List Nat := [4, 4, 0, 1, 0, 2 ^ 20, 0, 0, 0, 8, 0, 0, 1 + 2 ^ 20, 0, 0, 0, 0, 0, 0, 0, 0, 0, 0]
/-- Every stage op in beats meets the hypotheses of StageOpsIssueAndLandTheirResults. -/
theorem witness_stage_ops : ((stageOps.zip lows).all fun x =>
    issues x.1 (opWordOf x.1.opc x.2 - if x.1.opc = 0x25 ∨ x.1.opc = 0x20 then 2 ^ 55 else 0)) = true := by decide +kernel
theorem witness_sound : (tileDev 0 dataFlit (tctx0 0)).arrayRuns = true ∧ (tileDev 0 dataFlit (tctx0 0)).upsets = [] ∧
    (((tileDev 0 dataFlit (tctx0 0)).tile 0).queues.all fun e => e.2.all fun f => f.bad == 0) = true := by decide +kernel

/-- The op that issues at tile 0 in cycle 9 of word w. -/
def ctl (w : Nat) (f : Flit) (x : TCtx) (ok : Nat → Bool) : Option OpIn := readyOp (st (tileDev w f x)) 0 9 ok
/-- The clauses of ControlOpsMoveThePc. -/
theorem witness_control : (ctl 0 dataFlit (tctx0 0) (· == 0x00)).isSome = true ∧ (ctl (6 * 2 ^ 58 + 3) dataFlit (tctx0 0) (· == 0x06)).isSome = true ∧
    ((ctl (2 ^ 58) dataFlit (tctx0 0) (· == 0x01)).any fun o => o.loops.isEmpty && o.f 3 1 == 0) = true ∧
    ((ctl (2 * 2 ^ 58 + 65536 + 2) dataFlit (tctx0 0) (· == 0x02)).any fun o => decide (o.pc < o.f 16 6) &&
      ob (o.d.opWord o.k o.c (o.f 16 6)) 58 6 == 0x03 && o.f 0 16 != 0 && o.loops.isEmpty) = true ∧
    ((ctl (3 * 2 ^ 58) dataFlit { tctx0 0 with loops := [⟨3, 0, 0, 0⟩] } (· == 0x03)).any fun o =>
      o.loops.getLast? == some ⟨3, 0, 0, 0⟩ && o.pc == 0) = true ∧
    ((ctl (4 * 2 ^ 58) dataFlit (tctx0 0) (· == 0x04)).any fun o => decide (o.f 0 3 < 1) && decide (o.pc < 63)) = true ∧
    ((ctl (5 * 2 ^ 58 + 2 ^ 55 + 1) tokFlit (tctx0 0) (· == 0x05)).any fun o => o.inp == 0 && decide (o.pc < 63)) = true ∧
    tokFlit.swap = true ∧ dataFlit.swap = false ∧ tokFlit.first = false ∧ tokFlit.last = false ∧ tokenSkim tokFlit = 5 ∧
    (ctl (7 * 2 ^ 58) dataFlit (tctx0 0) fun c => !(c ∈ opcodes)).isSome = true := by decide +kernel

/-- A result due in cycle 9 at tile 0, and a tile whose region does not run. -/
def resulting : Device := (tileDev 0 dataFlit (tctx0 0)).setTile 0 { (tileDev 0 dataFlit (tctx0 0)).tile 0 with results := [⟨9, [(3, 7)], []⟩, ⟨12, [], []⟩] }
theorem witness_result : resulting.arrayRuns = true ∧ (resulting.tile 0).results = [⟨9, [(3, 7)], []⟩, ⟨12, [], []⟩] ∧
    Writes (st running) (w 3) (R.trw_PEEK_ADDR 0) = true ∧ running.regionOf 0 = none ∧ running.upsets = [] ∧
    Writes (st resulting) (w 3) (R.trw_PEEK_ADDR 0) = true ∧ resulting.regionOf 0 = some 0 ∧ Writes (st running) ⟨.supervisor 1, 15, 3, 5⟩ (R.trw_PEEK_ADDR 0) = true ∧ runState (resulting.pipeState 0) = true := by
  decide +kernel

/-- Tile 1 forwards what comes from the west in slot 0 to the east; tile 2 delivers what comes from the west to queue 3; tile 3
reduces it into its port 0. -/
def fabric : Device :=
  let x : Scrim := { scrim0 with
    outE := [(skey 1 1 0, 1 + 2 + 8 * 3), (skey 3 1 0, 1 + 4 + 8 * 3)]
    delE := [(skey 2 3 0, 4)]
    wires := [⟨skey 1 3 0, dataFlit, 16⟩, ⟨skey 5 3 0, dataFlit, 16⟩]
    arr := [(skey 1 3 0, ⟨some dataFlit, 16, [16], none⟩), (skey 2 3 0, ⟨some dataFlit, 16, [64], none⟩),
      (skey 3 3 0, ⟨some dataFlit, 16, [16], none⟩)] }
  let t : Tile := { running.tile 3 with queues := [(4, [⟨dataFlit, 1, 0⟩])] }
  { running.setTile 3 t with scrim := x }
/-- The clauses of FlitsMoveByTheStencil. -/
theorem witness_arrival : fabric.arrayRuns = true ∧ fabric.upsets = [] ∧ fabric.consumers 1 3 0 ≠ [] ∧ fabric.consumers 5 3 0 = [] ∧
    (fabric.scrim.wires.find? fun w => w.key == skey 1 3 0 && decide (w.avail ≤ 16)).isSome = true ∧
    (fabric.scrim.wires.find? fun w => w.key == skey 5 3 0 && decide (w.avail ≤ 16)).isSome = true := by decide +kernel
theorem witness_forward : outNow (st fabric) 1 1 16 % 2 = 1 ∧ outNow (st fabric) 1 1 16 / 2 % 4 = 1 ∧ neighbour 1 1 = some 2 ∧
    fabric.arrFor 1 1 16 = some dataFlit ∧ fabric.lentSlot 1 1 16 = false ∧ (fabric.linkOpen 1 1 16).1 = true ∧
    outNow (st fabric) 3 1 16 / 2 % 4 = 2 ∧ fabric.outGroup 3 0 16 = [1] ∧
    fabric.arrFor 3 1 16 = some dataFlit ∧ (fabric.linkOpen 3 1 16).1 = true ∧ dataFlit.swap = false := by decide +kernel
theorem witness_delivery : fabric.delE (skey 2 3 0) % 8 = 3 + 1 ∧ (fabric.tile 2).occAt 3 16 < 64 ∧ fabric.regionOf 2 = none := by decide +kernel

/-- Slice 0: stream 2 enabled in slot 0, lines 4 and 5; a fill of line 7 from OPERATOR, not yet started, or started. -/
def streaming : Device :=
  let d := ((running.setN (R.wst_SCFG 0 2) (1 + 65536)).setN (R.wst_SLEN 0 2) 2).setN (R.wst_SADDR 0 2) 4
  (d.setN (R.wst_SPOS 0 2) 4).setSlice 0 ⟨[], some ⟨7, 1, 44288 * 2 ^ 20⟩, []⟩
/-- Slice 0 with FILL_LEN n from HBM address a. -/
def filling (n a : Nat) : Device := (running.setN (R.wst_FILL_LEN 0) n).setN64 (R.wst_FILL_HBM_LO 0) a
/-- The clauses of WeightStoreStreamsAndFills. -/
theorem witness_weights : ((List.range 8).filter fun i => streaming.streamReady 0 i 32) = [2] ∧ streaming.arrayRuns = true ∧ streaming.upsets = [] ∧
    ((streaming.slice 0).fill).isSome = true ∧ Writes (st (filling 0 0)) (w 1) (R.wst_FILL_CTRL 0) = true ∧
    (filling 0 0).rf (R.wst_FILL_LEN 0) 0 18 = 0 ∧ (filling 0 0).rf (R.wst_FILL_STATUS 0) 0 1 = 0 ∧
    Writes (st (filling 2 (44288 * 2 ^ 20))) (w 1) (R.wst_FILL_CTRL 0) = true ∧
    (filling 2 (44288 * 2 ^ 20)).inOperator ((filling 2 (44288 * 2 ^ 20)).rn64 (R.wst_FILL_HBM_LO 0)) 64 = true ∧
    (filling 2 0).inOperator ((filling 2 0).rn64 (R.wst_FILL_HBM_LO 0)) 64 = false := by decide +kernel

/-- An access on the lane, a section in load, a readback. -/
def laneDev : Device := { running with scrim := { scrim0 with
  lane := [⟨.mgmt, 9, 3⟩]
  load := some ⟨none, [(skey 1 1 0, 1)], [], 3⟩
  readback := some 3 } }
/-- LOAD_SRC in OPERATOR, with no Render region. -/
def loadable : Device := (running.setN64 R.scm_LOAD_SRC_LO (44288 * 2 ^ 20)).setN R.skm_RENDER_STATE 2
def loadNow : Device := (loadable.at 5).setN R.scm_LOAD_CTRL (1 + 256 * 3)
/-- The clauses of LaneAccessesAndStencilLoads (a base section of zero bytes passes: no entry is valid). -/
theorem witness_lane : running.arrayRuns = true ∧ running.scrim.lane = [] ∧ running.bit64 R.pow_BAY_ON_LO (bayOf 7) = true ∧
    laneDev.arrayRuns = true ∧ laneDev.scrim.lane.find? (·.tile == 9) = some ⟨.mgmt, 9, 3⟩ ∧ laneDev.scrim.load.isSome = true ∧
    laneDev.scrim.readback = some 3 ∧ Writes (st running) (w 0x80000000) R.scm_LOAD_CTRL = true ∧
    ((running.at 5).setN R.scm_LOAD_CTRL 0).inOperator (((running.at 5).setN R.scm_LOAD_CTRL 0).rn64 R.scm_LOAD_SRC_LO) (52 * 4096) = false ∧
    Writes (st loadable) (w 0x80000301) R.scm_LOAD_CTRL = true ∧ loadNow.inOperator (loadNow.rn64 R.scm_LOAD_SRC_LO) 0 = true ∧
    loadNow.regionTiles 3 = [] ∧ loadNow.stencilCheck (some 3) (regionEntries [] []) = none ∧
    Writes (st running) (w 0x80000000) R.scm_STN_SEL = true := by decide +kernel

/-- Pipeline 0 in a state, HOD to HOD. -/
def piped (st : Nat) : Device :=
  let d := (running.setN (R.sch_PIPE_STATE 0) st).setN (R.sch_ING_CFG 0) 1
  (d.setN (R.sch_EGR_CFG 0) 1).setN (R.dad_TAPE_STATE 0 0) 0
/-- The clauses of PipelineCommandsMoveTheState. -/
theorem witness_pipe_cmd : (List.range 5).all (fun n => Writes (st (piped (n + 1))) (w (BitVec.ofNat 32 (n + 1))) (R.sch_PIPE_CMD 0)) = true ∧
    (piped 1).startOk 0 = true ∧ (piped 2).startOk 0 = false ∧ (piped 2).pipeState 0 = 2 ∧ (piped 3).pipeState 0 = 3 ∧ (piped 3).pipeFault 0 = false ∧
    (piped 1).pipeResetting 0 = false ∧ (piped 2).jobs = [] ∧ (piped 0).pipeState 0 = 0 := by decide +kernel

/-- Pipeline 0 drains since tick 0. -/
def draining : Device := ((piped 4).setN (R.sch_DRAIN_TIMEOUT 0) 1).setPipe 0 { (piped 4).pipe 0 with drainTick := some 0 }
/-- The clauses of ResetsAndDrainsEnd. -/
theorem witness_drain : (piped (512 + 2)).pipeResetting 0 = true ∧ (piped (512 + 2)).arrayRuns = true ∧ draining.drainMet 0 = true ∧ draining.pipeState 0 = 4 ∧
    draining.rf (R.sch_DRAIN_TIMEOUT 0) 0 24 = 1 ∧ (draining.pipe 0).drainTick = some 0 ∧ (draining.pipe 0).drainMissed = false ∧
    0 + 1000 * 1 ≤ (draining.at 1000).now.tick := by decide +kernel

/-- A job of pipeline 0 with number 1: its KIND and its state. -/
def jobOf (kind : Nat) (x : JobSt) : Job :=
  { newJob ⟨1, 64, 0, 1, ⟨BitVec.ofNat 32 (3 + 4 * kind), 0, 0, 0, 0, 0, 5, 9, 0, 0, 0⟩, false, [], [], [], none, 0, 0⟩ with st := x }
/-- Pipeline 0 RUNNING with that job in its queues, one flit at egress and a token sent. -/
def busyPipe (kind : Nat) (x : JobSt) (f : Flit) : Device :=
  let d := { (piped 2).setN (skimRecord 0) (2 ^ 31) with jobs := [jobOf kind x] }
  d.setPipe 0 { d.pipe 0 with ingQ := [1], egrQ := [1], egrIn := [f], tokens := [⟨5, some 1, 0⟩] }
/-- The clauses of FramesAndTokensPassTheAdapters. -/
theorem witness_adapters : (busyPipe 0 .admitted dataFlit).arrayRuns = true ∧ (busyPipe 0 .admitted dataFlit).ingKind 0 = 1 ∧
    (jobOf 0 .admitted).isFrame = true ∧ (busyPipe 0 .admitted dataFlit).ingressOpen 0 = true ∧ (jobOf 0 .admitted).skim = 0 ∧
    (busyPipe 0 .admitted dataFlit).needsToken 0 0 = false ∧ (busyPipe 0 .admitted dataFlit).job 1 = some (jobOf 0 .admitted) ∧
    ((busyPipe 0 .admitted dataFlit).pipe 0).lastFirst = none ∧ (jobOf 3 .admitted).isSwap = true ∧ (busyPipe 3 .admitted dataFlit).pipeSlots 0 = 0 ∧
    (busyPipe 3 .admitted dataFlit).ingressOpen 0 = true := by decide +kernel
theorem witness_egress : (busyPipe 0 .admitted ⟨3, 0, 7⟩).pipeFault 0 = false ∧ (jobOf 0 .admitted).pipe = 0 ∧ (jobOf 0 .admitted).orphan = false ∧
    (jobOf 0 .admitted).suppressed = false ∧ (jobOf 0 .admitted).late = false ∧ (busyPipe 0 .admitted ⟨3, 0, 7⟩).plb.entries = [] ∧
    (tokenFlit 5).tag = 4 ∧ 5 = (tokenFlit 5).data.toNat % 2 ^ 14 ∧ ((busyPipe 3 .admitted (tokenFlit 5)).pipe 0).tokens = [⟨5, some 1, 0⟩] ∧
    (busyPipe 3 .admitted (tokenFlit 5)).job 1 = some (jobOf 3 .admitted) ∧ ((busyPipe 3 .admitted (tokenFlit 5)).queue 64).fence = none := by decide +kernel

/-- Pipeline 0 RUNNING, channel 0 tracking, one job and its ADMIT entry handed over. -/
def deciding (kind : Nat) (x : JobSt) (hold : Nat) : Device :=
  let d := ((piped 2).setN (R.plb_REF_CFG 0) 4).setN (R.plb_SRC 0) (2 ^ 31 + 1)
  let d1 := (d.setCh 0 { d.ch 0 with st := .tracking }).setN (R.sch_SCHED_STATE 0) hold
  { d1.setEntries [{ entryOf (some ⟨2, false, false, false, 0⟩) with kind := .admission, job := 1, hand := some 1 }] with
    jobs := [jobOf kind x] }
/-- The clauses of JobsArePostedAndDecided. -/
theorem witness_posts : ((deciding 0 .ready 0).at 3).jobAt 64 0 = some (jobOf 0 .ready) ∧ (jobOf 0 .ready).piped = true ∧
    refusesJobs (((deciding 0 .ready 0).at 3).pipeState 0) = false ∧ ((deciding 0 .ready 0).at 3).chEnabled 0 = true ∧
    ((deciding 0 .ready 0).at 3).srcKind 0 = 1 ∧ ((deciding 0 .ready 0).at 3).jobForm (jobOf 0 .ready) = true ∧
    (((deciding 0 .ready 0).at 3).targetOf 0 5 0).isSome = true ∧ ((deciding 0 .ready 0).at 3).lookup 0 0 1 = true ∧
    ((deciding 0 .ready 0).at 3).evqFull = false ∧ ((deciding 0 (.retry 2) 0).at 3).jobAt 64 0 = some (jobOf 0 (.retry 2)) ∧
    2 ≤ ((deciding 0 (.retry 2) 0).at 3).now.tick := by decide +kernel
theorem witness_decides : ((deciding 0 .posted 0).nextAdmit 0).isSome = true ∧ (deciding 0 .posted 0).pipeState 0 = 2 ∧
    (deciding 0 .posted 0).admitVerdict (jobOf 0 .posted) = .refuse false ∧ (deciding 0 .posted 0).admitVerdict { jobOf 0 .posted with ud := 9 } = .admission true ∧
    (deciding 3 .posted 0).rf (R.sch_SCHED_STATE 0) 0 1 = 0 ∧ (deciding 0 .posted 0).job 1 = some (jobOf 0 .posted) ∧
    ((deciding 0 .posted 0).queue 64).fence = none := by decide +kernel

/-- A RELEASE entry handed over, due at tick 9, of a job whose result came at tick td; or a job whose release writes. -/
def releasing (td : Option Nat) (x : JobSt) : Device :=
  { (deciding 0 .posted 1).setEntries [{ entryOf (some ⟨9, false, false, false, 0⟩) with kind := .release, job := 1, hand := some 1 }] with
    jobs := [{ jobOf 0 x with done := td }] }
/-- Pipeline 0 holds since window 0. -/
def heldPipe0 : Device := (deciding 0 .posted 1).setPipe 0 { (deciding 0 .posted 1).pipe 0 with holdWin := some 0 }
/-- The clauses of ResultsAreReleased. -/
theorem witness_releases : ((releasing none .admitted).plb.entries.find? fun x => x.num = 7 ∧ x.kind = .release ∧ x.hand.isSome).isSome = true ∧
    ((releasing none .admitted).job 1).isSome = true ∧ ((releasing (some 8) .admitted).job 1).map (·.done) = some (some 8) ∧
    ((releasing (some 8) .writing).at 9).jobAt 64 0 = some { jobOf 0 .writing with done := some 8 } ∧
    ((releasing (some 8) .writing).at 9).payloadGone { jobOf 0 .writing with done := some 8 } = true ∧
    (((heldPipe0.atCyc 5).settle 0).at 3000000).window = 3 ∧ ((((heldPipe0.atCyc 5).settle 0).at 3000000).pipe 0).holdWin = some 0 ∧
    (((heldPipe0.atCyc 5).settle 0).at 3000000).windowDebit 0 = 0 ∧ ((((heldPipe0.atCyc 5).settle 0).at 3000000).pipe 0).lateWin = none ∧
    Writes (st (piped 2)) (w 3) (R.sch_SCHED_CMD 0) = true := by decide +kernel

/-- The loader in a state, host memory its source. -/
def loading (x kind : Nat) : Device := { running.setN R.skm_LOAD_STATUS x with loader := { loader0 with kind := kind, host := true, region := 3, skim := 5 } }
/-- PF0 may request. -/
def mastering (d : Device) : Device := d.setFn 0 { d.fn 0 with bme := true }
/-- The clauses of LoadsStartReadAndAreChecked that need no image. -/
theorem witness_loads : (List.range 3).all (fun k => Writes (st running) (w (BitVec.ofNat 32 (2 ^ 31 + k))) R.skm_LOAD_CTRL) = true ∧
    running.loadFree = true ∧ (loading 1 0).loadFree = false ∧ (loading 1 0).loadSt = 1 ∧ (mastering (loading 1 0)).mayRequest 0 = true ∧
    (loading 2 0).loadSt = 2 ∧ ((loading 2 0).at 5).checkImage = some (1, 1, none) ∧ (loading 2 0).pend = [] := by decide +kernel

/-- The clauses of LoadsAreWrittenAndGoLive. -/
theorem witness_staged : (loading 3 1).arrayRuns = true ∧ (loading 3 1).loadSt = 3 ∧ (loading 4 0).loadSt = 4 ∧ (loading 5 1).loadSt = 5 ∧
    (loading 5 1).loader.kind = 1 ∧ (loading 5 0).loader.kind = 0 ∧ needDomains (loading 3 0).loader.sects = [] ∧ (loading 5 1).loader.region < 64 ∧
    Writes (st (loading 5 1)) (w 1) R.skm_LOAD_CMD = true ∧ Writes (st (loading 5 1)) (w 2) R.skm_LOAD_CMD = true := by decide +kernel

/-- Region 0 holds tile 0 with n hot slots; skim 5 is in the library; slot 1 fills with it where `f`. -/
def hot (n : Nat) (f : Bool) (sort : Nat) : Device :=
  let d := ((piped 2).setN (R.sch_REGION 0) (2 ^ 31 + 256 + 4096)).setN (R.trw_HAWK_SLOTS 0) (n + 65536)
  let d1 := { d.setN (R.skm_FILL_RATE 0) 1 with
    lib := [(5, ⟨2, 0, 1, none, []⟩)]
    fillReqs := [⟨0, 5, 3⟩] }
  if f then d1.beginFill 0 1 5 sort 3 else d1
/-- The clauses of SkimsAreWarmedFilledAndEvicted (a skim not in use: witness_skl). -/
theorem witness_lib : Writes (st (hot 2 false 0)) (w (BitVec.ofNat 32 (2 ^ 31 + 5 * 65536 + 1))) R.skm_LIB_CMD = true ∧
    (hot 2 true 0).skimUsed 5 = true := by decide +kernel
theorem witness_warm : (hot 2 false 0).pipeState 0 = 2 ∧ (hot 2 false 0).libMatches 0 5 = true ∧ (hot 2 false 0).slotOf 0 5 = none ∧
    (hot 2 false 0).freeSlot 0 = some 1 ∧ (hot 1 false 0).freeSlot 0 = none ∧ (hot 1 false 0).slotOf 0 5 = none ∧ (hot 2 false 0).arrayRuns = true ∧
    (hot 2 false 0).fills = [] ∧ (hot 2 false 0).rn (R.skm_FILL_RATE 0) = 1 ∧ (hot 2 true 0).fillAt 0 1 = some ⟨0, 1, 5, 0, 3⟩ ∧
    (hot 2 true 1).fillAt 0 1 = some ⟨0, 1, 5, 1, 3⟩ ∧ (hot 2 true 0).slotActive 0 1 = false ∧ (hot 2 true 0).slotPinned 0 1 = false ∧
    (hot 2 true 0).tiles = [] := by decide +kernel

/-- Region 0 with its pipeline in a state and its tapes in a state. -/
def taping (p st : Nat) (on : Bool) : Device := ((piped p).setTapeState 0 st).setTape 0 ⟨on, 3, 16, none⟩
/-- The clauses of TapesEngageAndRelease. -/
theorem witness_tapes : Writes (st ((taping 5 0 false).atCyc 9)) (w 1) (R.dad_TAPE_CMD 0 0) = true ∧ (taping 5 0 false).pipeState 0 = 5 ∧
    (taping 5 0 false).tapeState 0 = 0 ∧ (taping 1 2 true).pipeState 0 = 1 ∧ (taping 1 2 true).tapeState 0 = 2 ∧ (taping 5 1 false).arrayRuns = true ∧
    ((taping 5 1 false).tape 0).cmd < 16 ∧ ((taping 5 1 false).tape 0).on = false ∧ (taping 5 1 true).tapeState 0 = 1 ∧
    ((taping 5 1 true).tape 0).point + 16 ≤ 32 ∧ (taping 5 1 true).pipeResetting 0 = false ∧ (taping 1 3 true).tapeState 0 = 3 := by decide +kernel

/-- A skim image of 768 bytes: SKIM_HDR of zeros, an empty body, a signature block of zeros. -/
def skimImage : List Byte :=
  let dirEntry := fun (t off n : Nat) => leBytes 8 t ++ leBytes 8 off ++ leBytes 8 n ++ leBytes 24 0
  leBytes 4 0x4B535847 ++ leBytes 4 1 ++ leBytes 8 768 ++ leBytes 4 (resetOf R.idn_DEVICE_CODE).toNat ++ leBytes 4 2 ++ leBytes 8 64 ++
    leBytes 8 256 ++ leBytes 24 0 ++ dirEntry 0x20 192 16 ++ dirEntry 0x21 256 0 ++ leBytes 608 0
/-- Every check of a skim image but 3 and 4, which rest on the digest and the signature that Config leaves open, passes for it. -/
theorem witness_skim_image : skimImage.length = 768 ∧ checkHead skimImage true = none ∧ boxFail skimImage true none none (2 ^ 30) = none ∧
    checkOpen skimImage = none ∧ (loading 2 2).checkLibrary skimImage (openSects skimImage) (loading 2 2).loader = none := by decide +kernel

/-- A function under FLR. -/
def inFlr (f : Nat) : Device := withVfs.setFn f { withVfs.fn f with flr := true }
/-- The clauses of FunctionResetsClearAndEnd. -/
theorem witness_flr : withVfs.portExists (.tenant 3) = true ∧ (withVfs.fn 5).flr = false ∧ withVfs.boot.devReset = none ∧ ((inFlr 5).fn 5).flr = true ∧
    withVfs.hif.vfEnable = true ∧ (withVfs.fn 1).flr = false ∧ ((inFlr 1).fn 1).flr = true ∧
    ({ running with hif := { running.hif with linkUp := true } } : Device).hif.linkUp = true := by decide +kernel

/-- PF0 with MSI-X enabled and vector 9 masked, its message pending or not. -/
def unmasking (p : Bool) : Device :=
  let d := running.setFn 0 { running.fn 0 with msixEn := true, bme := true, fmask := false }
  d.setVec 0 9 { d.vec 0 9 with mask := true, pend := p }
/-- A walk in progress. -/
def walking : Device := { running with hif := { running.hif with classWalk := some 3 } }
/-- The clauses of MessagesAndPortSwitches. -/
theorem witness_messages : ((unmasking true).at 5).portExists (fnPort 0) = true ∧ ((unmasking true).at 5).portD3 (fnPort 0) = false ∧
    ((unmasking true).fn 0).flr = false ∧ ((unmasking true).vec 0 9).pend = true ∧ ((unmasking false).vec 0 9).pend = false ∧ ((unmasking true).fn 0).d3 = false ∧
    Writes (st running) (w 4) R.prt_PORT_OFF = true ∧ Writes (st running) (w 0x80000311) R.prt_CLASS_MASK = true ∧ running.hif.classWalk = none ∧
    fld 0x80000311#32 8 4 ≤ 10 ∧ fld 0x80000311#32 31 1 = 1 ∧ running.rf (0x6000 + 0xC) 31 1 = 0 ∧ 0x6000 ∈ classPages 3 ∧
    Writes (st walking) (w 0x80000311) R.prt_CLASS_MASK = true ∧ walking.hif.classWalk ≠ none := by decide +kernel

/-- Queue 64 (tenant 1) of 4 entries, enabled, with a tail and a fetch index; the tenant's VF exists. -/
def queueDev (tail fetch : Nat) (j : List Job) : Device :=
  let d := (withVfs.setN (R.qst_QCTL 64) (1 + 256 * 2)).setN (R.qst_FETCH_IDX 64) fetch
  { d.setQueue 64 { d.queue 64 with tail := tail } with jobs := j }
/-- A write by tenant 1. -/
def tw (v : Word) : Req := ⟨.tenant 1, 15, v, 5⟩
/-- The clauses of TailsPushesAndCancels. -/
theorem witness_tail : Writes (st (queueDev 1 1 [])) (tw 3) (R.pw_TAIL 64) = true ∧ u32sub 3 ((queueDev 1 1 []).head 64) ≤ 2 ^ (queueDev 1 1 []).qN 64 ∧
    u32sub 3 ((queueDev 1 1 []).queue 64).tail ≤ 2 ^ (queueDev 1 1 []).qN 64 ∧ ¬u32sub 9 ((queueDev 1 1 []).head 64) ≤ 2 ^ (queueDev 1 1 []).qN 64 ∧
    Writes (st (queueDev 1 1 [])) (tw 9) (R.pw_TAIL 64) = true ∧
    Writes (st (queueDev 1 1 [])) ⟨.tenant 1, 15, 0, 5⟩ (0x4000000 + 0x1000 * 64 + 64) = true := by decide +kernel
theorem witness_cancels : Writes (st (queueDev 2 1 [jobOf 0 .ready])) (tw 0) (R.pw_CANCEL 64) = true ∧
    u32sub 0 ((queueDev 2 1 []).head 64) < u32sub ((queueDev 2 1 []).fetchIdx 64) ((queueDev 2 1 []).head 64) ∧
    (queueDev 2 1 [jobOf 0 .ready]).jobAt 64 0 = some (jobOf 0 .ready) ∧ (jobOf 0 .ready).noCancel = false ∧
    u32sub ((queueDev 2 1 []).fetchIdx 64) ((queueDev 2 1 []).head 64) ≤ u32sub 1 ((queueDev 2 1 []).head 64) ∧
    u32sub ((queueDev 2 1 []).queue 64).tail ((queueDev 2 1 []).head 64) ≤ u32sub 2 ((queueDev 2 1 []).head 64) := by decide +kernel

/-- A tenant function that may request. -/
def vfOn (d : Device) : Device := ((d.setFn 3 { d.fn 3 with bme := true }).setN (R.ten_TEN_CFG 1) 5).setN (R.ten_JOBS_QUOTA 1) 9
/-- Queue 64 with one entry to fetch, or one being read, or an open chain. -/
def turnDev (x : Option Turn) (c : Option Chain) (ctl : Nat) : Device :=
  let d := (vfOn (queueDev (if c.isSome then 0 else 1) 0 [])).setN (R.qst_SERVICE 64) (5 + 256 * 4)
  let d1 := ((d.setN (R.qst_QCTL 64) ctl).setN (R.qst_TIMERS 64) 1).setTurn 64 x
  d1.setQueue 64 { d1.queue 64 with chain := c, lastTurn := 2000 }
/-- A descriptor with its control word. -/
def desc (c : Word) : Desc := ⟨c, 0, 0, 0, 0, 0, 0, 0, 0, 0, 0⟩
/-- The hypotheses of HandsOver, as one decision. -/
theorem witness_turn : (turnDev none none 513).eligibleQueues = [64] ∧ (turnDev none none 513).nextTenant [64] = some (1, true) ∧
    ((turnDev none none 513).nextQueue [64] 1).map (·.1) = some 64 ∧ ((turnDev none none 513).queue 64).held = [] ∧
    ((turnDev none none 513).queue 64).fence = none ∧ (turnDev none none 513).trackerFull = false ∧ (turnDev none none 513).quotaFull 1 = false ∧
    (turnDev none none 513).fetchIdx 64 ≠ ((turnDev none none 513).queue 64).tail ∧ (turnDev none none 513).rf (R.qst_SERVICE 64) 8 7 = 4 ∧
    (turnDev none none 513).qStat 64 3 = false ∧ (turnDev none none 513).qen.lastTick = none := by decide +kernel
theorem witness_fetched : ((turnDev (some ⟨1, 4, true, false, false⟩) none 513).queue 64).turn = some ⟨1, 4, true, false, false⟩ ∧
    (turnDev (some ⟨1, 4, true, false, false⟩) none 513).mayRequest (vfOf 64) = true ∧ (turnDev none none 513).qRunahead 64 = false ∧
    ((turnDev none none 513).queue 64).cancels = [] ∧ 1 = ((turnDev none none 513).fetchIdx 64 + 1) % 2 ^ 32 ∧ (desc 3).first = true ∧ (desc 3).last = true ∧
    (desc 1).first = true ∧ (desc 1).last = false ∧ (turnDev none none 515).qRunahead 64 = true ∧ (turnDev none none 515).qEnabled 64 = true ∧
    u32sub 0 ((turnDev none none 515).queue 64).sample < 8 ∧ (turnDev none none 515).mayRequest (vfOf 64) = true := by decide +kernel
theorem witness_chain : ((turnDev none (some ⟨0, [desc 1], false, false, some 0⟩) 513).queue 64).chain = some ⟨0, [desc 1], false, false, some 0⟩ ∧
    (turnDev none (some ⟨0, [desc 1], false, false, some 0⟩) 513).rf (R.qst_TIMERS 64) 0 16 = 1 ∧
    ((turnDev none (some ⟨0, [desc 1], false, false, some 0⟩) 513).queue 64).tail = (turnDev none (some ⟨0, [desc 1], false, false, some 0⟩) 513).fetchIdx 64 ∧
    0 + 1000 * 1 ≤ ((turnDev none (some ⟨0, [desc 1], false, false, some 0⟩) 513).queue 64).lastTurn := by decide +kernel

/-- A staging job with one buffer or none; a completed job at HEAD; a queue with a message due. -/
def stagingDev (n : Nat) : Device := vfOn (queueDev 1 1 [{ jobOf 0 .staging with inLen := 4, ing := ⟨0, 0, n⟩ }])
def doneDev : Device := vfOn (queueDev 1 1 [jobOf 0 .completed])
def msgDev : Device :=
  let d := ((vfOn (queueDev 1 1 [])).setN (R.qst_QCTL 64) 8).setN (R.qst_COALESCE 64) 65536
  let d1 := d.setQueue 64 { d.queue 64 with coalCount := 1 }
  (d1.setFn 3 { d1.fn 3 with msixEn := true }).setVec 3 0 { d1.vec 3 0 with mask := false }
/-- The clauses of JobsStageAndHeadsPublish. -/
theorem witness_staging : ((stagingDev 1).jobAt 64 0).isSome = true ∧ (stagingDev 1).mayRequest (vfOf 64) = true ∧ ((stagingDev 1).queue 64).fence = none ∧
    ((List.range 64).filter fun p => ((stagingDev 0).claimant true p).isSome) = [0] ∧
    (((stagingDev 0).claimant true 0).bind fun j => (stagingDev 0).claimOne true j) = some ⟨0, 0, 1⟩ ∧ (stagingDev 0).arrayRuns = true := by decide +kernel
theorem witness_publish : doneDev.jobAt 64 (doneDev.head 64) = some (jobOf 0 .completed) ∧ (jobOf 0 .completed).isDone = true ∧
    (doneDev.dropJob 1).jobAt 64 1 = none ∧ (0 + 1) % 2 ^ 32 ≠ doneDev.head 64 ∧ msgDev.rf (R.qst_QCTL 64) 3 1 = 1 ∧ msgDev.rf (R.qst_COALESCE 64) 16 16 = 1 ∧
    (msgDev.queue 64).coalCount ≠ 0 ∧ 0 + 1000 * 1 ≤ (msgDev.at 1000).now.tick ∧ (msgDev.fn 3).msixEn = true ∧ msgDev.mayRequest 3 = true ∧
    (msgDev.fn 3).fmask = false ∧ (msgDev.vec 3 0).mask = false := by decide +kernel

/-- Queue 64 disabled, in reset, or stalled with a watchdog of 1 ms. -/
def resetDev (ctl : Nat) (r : Option Nat) : Device :=
  let d := ((vfOn (queueDev 2 1 [jobOf 0 .ready])).setN (R.qst_QCTL 64) ctl).setN (R.qst_TIMERS 64) 65536
  (d.setN (R.qst_SERVICE 64) 5).setQueue 64 { d.queue 64 with resetTick := r }
/-- Tenant 1 with window 0 of 4 KiB at 0, mapped, and its skim 5 in the library. -/
def sklDev (len : Nat) : Device :=
  let d := ((vfOn withVfs).setN (R.ten_SIZE 1 0) 1).setN (R.ten_PERM 1 0) 3
  { d.setN (R.ten_SKL_LEN 1) len with lib := [(5, ⟨2, 0, 1, some 1, []⟩), (6, ⟨2, 0, 1, none, []⟩)] }
/-- The clauses of QueueResetsWatchdogAndTenantSkims. -/
theorem witness_queue_reset : Writes (st (resetDev 0 none)) (w (65536 + 64)) R.qen_QUEUE_CMD = true ∧ (resetDev 0 none).qEnabled 64 = false ∧
    ((resetDev 0 none).queue 64).resetTick = none ∧ (resetDev 1 none).qEnabled 64 = true ∧ ((resetDev 0 (some 3)).queue 64).resetTick = some 3 ∧
    (resetDev 1 none).qWeight 64 ≠ 0 ∧ (resetDev 1 none).rf (R.qst_TIMERS 64) 16 16 = 1 ∧ ((resetDev 1 none).queue 64).tail ≠ (resetDev 1 none).head 64 ∧
    (resetDev 1 none).qStat 64 5 = false ∧ 0 + 1000000 * 1 ≤ ((resetDev 1 none).at 1000000).now.tick := by decide +kernel
theorem witness_skl : Writes (st (sklDev 9)) (tw 0x80050001) (R.ten_SKL_CMD 1) = true ∧ Writes (st (sklDev 9)) (tw 0x80050002) (R.ten_SKL_CMD 1) = true ∧
    ((sklDev 9).at 5).winMap 1 (((sklDev 9).at 5).rn64 (R.ten_SKL_SRC_LO 1)) 9 1 = some 0 ∧
    ((sklDev 9999).at 5).winMap 1 (((sklDev 9999).at 5).rn64 (R.ten_SKL_SRC_LO 1)) 9999 1 = none ∧ (sklDev 9).loadFree = true ∧
    ((sklDev 9).libAt 5).owner = some 1 ∧ ((sklDev 9).libAt 6).owner ≠ some 1 ∧ (sklDev 9).skimUsed 5 = false ∧
    Writes (st (sklDev 9)) (w (BitVec.ofNat 32 (2 ^ 31 + 5 * 65536 + 2))) R.skm_LIB_CMD = true := by decide +kernel

/-- A running hart 1 whose word at pc 8 is `w`, with CODE_LIMIT 64, w1 = 5, w2 = 3 and open loops and calls. -/
def hartIn (w : Nat) (l : List HLoop) (k : List (Nat × Nat)) : State :=
  let x : Hart := { hart0 1 with st := .running, pc := 8, w := [(1, 5), (2, 3)], loops := l, calls := k }
  let d := (running.setN R.sup_CODE_LIMIT (2 ^ 31 + 64)).setN (R.sup_HS_BUDGET 0) 1000
  { State.reset with dev := d, harts := ⟨[(1, x)], Memory.wr [] 8 4 w⟩ }
/-- Whether hart 1 issues the word in cycle 9, and whether it decodes to an opcode. -/
def issues1 (s : State) (op : Nat) : Bool :=
  let s0 := s.atHart 9
  decide ((s0.hart 1).st = .running) && decide ((s0.hart 1).free ≤ 9) && !s0.expired 1 9 && match s0.fetch (s0.hart 1).pc with
    | (.ok w, _) => (hartDecode w).map (·.op) == some op
    | _ => false
/-- Every arithmetic instruction and branch issues somewhere: word OPC, RD 3, RS 1, RT 2 or IMM 5. -/
theorem witness_arithmetic : (regOps.all fun x => issues1 (hartIn (x.opc * 2 ^ 26 + 3 * 2 ^ 22 + (if x.opc = 0x17 then 0 else 2 ^ 18) + if x.opc < 0x10 then 2 * 2 ^ 14 else 5) [] []) x.opc) = true ∧
    (branchOps.all fun x => issues1 (hartIn (x.2.1 * 2 ^ 26 + 2 ^ 22 + 2 * 2 ^ 18 + 5) [] []) x.2.1) = true ∧
    issues1 (hartIn (0x2E * 2 ^ 26 + 5) [⟨4, 12, 2⟩] []) 0x2E = true := by decide +kernel

/-- Targets inside and beyond an open loop, and in a frame with no loop of its own. -/
theorem witness_branches : (((hartIn 0 [⟨4, 40, 2⟩] []).atHart 9).hart 1).beyond 32 = false ∧ (((hartIn 0 [⟨4, 40, 2⟩] []).atHart 9).hart 1).beyond 44 = true ∧
    (((hartIn 0 [⟨4, 40, 2⟩] [(20, 1)]).atHart 9).hart 1).beyond 44 = false ∧ (branchOps.all fun x => x.2.2 3 3 || x.2.2 3 5 || x.2.2 5 3) = true ∧
    (branchOps.all fun x => !x.2.2 3 3 || !x.2.2 3 5 || !x.2.2 5 3) = true := by decide +kernel

/-- Hart 1 with w1 = `a` and a store buffer. -/
def memIn (w a : Nat) (b : List PAcc) : State :=
  let s := hartIn w [] []
  s.setHart 1 { s.hart 1 with w := [(1, BitVec.ofNat 32 a), (2, 3)], buf := b }
/-- The instructions of LoadsStoresAndAtomicsReachTheScratchpad issue, with RS 1 and RD 2; the accesses are aligned and allowed. -/
theorem witness_memory : ([0x18, 0x19, 0x1A, 0x1B].all fun op => issues1 (memIn (op * 2 ^ 26 + 2 * 2 ^ 22 + 2 ^ 18) 128 []) op) = true ∧
    issues1 (memIn (0x1C * 2 ^ 26 + 2 * 2 ^ 22 + 2 ^ 18) 0x7F000 []) 0x1C = true ∧ issues1 (memIn (0x1A * 2 ^ 26 + 2 * 2 ^ 22 + 2 ^ 18) 4 []) 0x1A = true ∧
    ([0x1D, 0x1E].all fun op => issues1 (memIn (op * 2 ^ 26 + 2 * 2 ^ 22 + 2 ^ 18 + 2 * 2 ^ 14) 128 []) op) = true ∧ issues1 (memIn (0x1F * 2 ^ 26) 0 []) 0x1F = true ∧
    issues1 (memIn (0x18 * 2 ^ 26 + 2 * 2 ^ 22 + 2 ^ 18) 128 [⟨11, 128, 4, 7, .store⟩]) 0x18 = true ∧ (memIn 0 0 []).dev.upsets = [] ∧
    ((memIn 0 0 [⟨9, 128, 4, 7, .swap 2⟩]).hart 1).buf = [⟨9, 128, 4, 7, .swap 2⟩] ∧ (memIn 0 0 []).codeLimit = 64 ∧ ((memIn 0 0 []).hart 2).buf = [] ∧
    (memIn 0 0 [⟨9, 128, 4, 7, .swap 2⟩]).expired 1 9 = false := by decide +kernel

/-- LOOP with END 2 over an ENDLOOP at 16, or over another word; ENDLOOP of a loop that ends at 8. -/
def loopIn (rs n wEnd : Nat) (l : List HLoop) : State :=
  let s := hartIn (0x30 * 2 ^ 26 + rs * 2 ^ 18 + 2) l []
  let s1 := { s with harts := { s.harts with sp := Memory.wr s.harts.sp 16 4 wEnd } }
  s1.setHart 1 { s1.hart 1 with w := [(1, BitVec.ofNat 32 n)] }
/-- The clauses of LoopsCountFromARegister. -/
theorem witness_loops : issues1 (loopIn 1 3 (0x31 * 2 ^ 26) []) 0x30 = true ∧ issues1 (loopIn 0 3 (0x31 * 2 ^ 26) []) 0x30 = true ∧
    issues1 (loopIn 1 70000 (0x31 * 2 ^ 26) []) 0x30 = true ∧ issues1 (hartIn (0x30 * 2 ^ 26 + 2 ^ 18) [] []) 0x30 = true ∧
    issues1 (hartIn (0x31 * 2 ^ 26) [⟨4, 8, 3⟩] []) 0x31 = true ∧ issues1 (hartIn (0x31 * 2 ^ 26) [⟨4, 8, 1⟩] []) 0x31 = true ∧
    issues1 (hartIn (0x31 * 2 ^ 26) [] []) 0x31 = true ∧ issues1 (loopIn 1 3 (0x31 * 2 ^ 26) (List.replicate 4 ⟨4, 40, 3⟩)) 0x30 = true ∧
    issues1 (loopIn 1 3 (0x31 * 2 ^ 26) [⟨4, 12, 3⟩]) 0x30 = true ∧ (((loopIn 1 3 0 [⟨4, 12, 3⟩]).atHart 9).hart 1).beyond 16 = true ∧
    (((loopIn 1 3 0 []).atHart 9).hart 1).beyond 16 = false := by decide +kernel
theorem witness_loop_end : (match ((loopIn 1 3 (0x31 * 2 ^ 26) []).atHart 9).fetch 16 with | (.ok w, _) => fld w 26 6 | _ => 0) = 0x31 ∧
    (match ((loopIn 1 3 5 []).atHart 9).fetch 16 with | (.ok w, _) => fld w 26 6 | _ => 1) = 0 ∧ ((loopIn 1 3 5 []).atHart 9).dev.upsets = [] := by decide +kernel

/-- The clauses of CallsStackReturnAddresses. -/
theorem witness_calls : issues1 (hartIn (0x32 * 2 ^ 26 + 5) [] []) 0x32 = true ∧ issues1 (hartIn (0x32 * 2 ^ 26 + 16) [] []) 0x32 = true ∧
    (hartIn 0 [] []).codeLimit = 64 ∧ issues1 (hartIn (0x32 * 2 ^ 26 + 5) [] (List.replicate 8 (4, 0))) 0x32 = true ∧
    issues1 (hartIn (0x33 * 2 ^ 26) [] []) 0x33 = true ∧ issues1 (hartIn (0x33 * 2 ^ 26) [⟨4, 8, 3⟩] [(4, 1)]) 0x33 = true ∧
    issues1 (hartIn (0x33 * 2 ^ 26) [⟨4, 8, 3⟩] [(4, 0)]) 0x33 = true ∧ ((hartIn 0 [⟨4, 8, 3⟩] [(4, 1)]).hart 1).fb = 1 := by decide +kernel

/-- The clauses of DispatchIndexesATable: RS 1 holds 5, RS 0 holds 0, tables of 2 words. -/
theorem witness_dispatch : issues1 (hartIn (0x34 * 2 ^ 26 + 2 ^ 18 + 2) [] []) 0x34 = true ∧ issues1 (hartIn (0x34 * 2 ^ 26 + 2) [] []) 0x34 = true ∧
    issues1 (hartIn (0x34 * 2 ^ 26) [] []) 0x34 = true ∧ ((hartIn (0x34 * 2 ^ 26 + 2) [] []).atHart 9).dev.upsets = [] ∧
    (match ((hartIn (0x34 * 2 ^ 26 + 2) [] []).atHart 9).fetch 12 with | (.ok _, _) => true | _ => false) = true ∧
    (((hartIn 0 [⟨4, 12, 3⟩] []).atHart 9).hart 1).beyond 20 = true := by decide +kernel

/-- Hart 1 with w1 = an address and eight or no requests. -/
def arqIn (w a n : Nat) : State :=
  let s := hartIn w [] []
  s.setHart 1 { s.hart 1 with w := [(1, BitVec.ofNat 32 a)], arqs := (List.range n).map fun k => ⟨k, 0, false, 0, 0, k, false⟩ }
/-- Hart 1 whose handler began long ago. -/
def overrun : State := (hartIn 0 [] []).setHart 1 { (hartIn 0 [] []).hart 1 with first := some 0 }
/-- The clauses of PositionReadsRequestsAndHandlerEnds. -/
theorem witness_reads : issues1 ((hartIn (0x38 * 2 ^ 26 + 2 * 2 ^ 22 + 3) [] []).onDevice (·.at 7)) 0x38 = true ∧
    issues1 ((hartIn (0x39 * 2 ^ 26 + 2 * 2 ^ 22 + 1) [] []).onDevice (·.at 7)) 0x39 = true ∧
    issues1 ((hartIn (0x39 * 2 ^ 26 + 3 * 2 ^ 22) [] []).onDevice (·.at 7)) 0x39 = true ∧ issues1 (arqIn (0x22 * 2 ^ 26 + 2 ^ 18 + 5) 0x11000000 0) 0x22 = true ∧
    issues1 (arqIn (0x22 * 2 ^ 26 + 2 ^ 18 + 5) 0x11000000 8) 0x22 = true ∧ arqAddr 0x11000000 = true ∧ arqAddr 5 = false ∧
    issues1 (hartIn (0x3A * 2 ^ 26) [] []) 0x3A = true ∧ ((hartIn 0 [] []).atHart 9).budget 1 = 1000 ∧ ((hartIn 0 [] []).hart 1).slot = 0 ∧
    hartDecode 0 = none ∧ (overrun.atHart 1000).expired 1 1000 = true := by decide +kernel

/-- Hart 1 about to issue a page access of address `a`. -/
def pageIn (op a : Nat) : State := (memIn (op * 2 ^ 26 + 2 * 2 ^ 22 + 2 ^ 18) a []).onDevice (·.at 7)
/-- Hart 1 with a request. -/
def asking (a : Nat) (wr en : Bool) : State :=
  let s := arqIn 0 0 0
  let d := (s.dev.setN R.sup_HOSTWIN_EN (if en then 1 else 0)).setFn 0 { s.dev.fn 0 with bme := true }
  { s.setHart 1 { s.hart 1 with arqs := [⟨0, a, wr, 5, 3, 0, false⟩] } with dev := d }
/-- The clauses of PagesAndHostMemoryAreReachedByHarts. -/
theorem witness_page_access : ([5, 0x10000000, 0x11000000, 0x12000000].all fun a => issues1 (pageIn 0x20 a) 0x20 && issues1 (pageIn 0x21 a) 0x21) = true ∧
    (((pageIn 0x20 0x1000A100).atHart 9).busRead (.supervisor 1) 0xA100).2.expired 1 72 = false := by decide +kernel
theorem witness_requests : ((asking 0x10000008 false true).hart 1).arqs.find? (fun x => !x.done) = some ⟨0, 0x10000008, false, 5, 3, 0, false⟩ ∧
    (asking 0x10000008 false true).dev.ending (.supervisor 1) 8 false ≠ 3 ∧ ({ Device.reset with boot := running.boot } : Device).ending (.supervisor 1) 0x1000000 true = 3 ∧
    (asking 0 false true).dev.rf R.sup_HOSTWIN_EN 0 1 = 1 ∧ (asking 0 true false).dev.rf R.sup_HOSTWIN_EN 0 1 = 0 ∧
    (asking 0 true true).dev.mayRequest 0 = true := by decide +kernel

/-- A post of kind 3 or 2 that waits, and queues of n of them. -/
def waiting (n : Nat) (k : Nat) : Device := { running with
  arriving := [⟨k, 5, 0, 9, 3, false, 8⟩]
  sup := { running.sup with evq := List.replicate n ⟨3, 5, 0, 9, 3, false, 8⟩ } }
/-- One queued event of slot 5, its slot as `cfg` says, and the first n harts idle. -/
def queuedEvent (cfg n : Nat) : State :=
  let s := st ((waiting 1 3).setN (R.sup_HS_CFG 5) cfg)
  (List.range n).foldl (fun s h => s.setHart h { s.hart h with st := .idle }) s
/-- The clauses of EventsAreQueuedAndStartHandlers. -/
theorem witness_post_order : (waiting 0 3).arriving = [⟨3, 5, 0, 9, 3, false, 8⟩] ∧ (waiting 0 2).arriving = [⟨2, 5, 0, 9, 3, false, 8⟩] ∧
    (waiting 255 3).sup.evq.length = 255 ∧ (waiting 256 3).sup.evq.length = 256 := by decide +kernel
theorem witness_dispatched : ((queuedEvent 0x31 2).atHart 9).dev.sup.evq = [⟨3, 5, 0, 9, 3, false, 8⟩] ∧
    ((queuedEvent 0x21 2).atHart 9).dev.rf (R.sup_HS_CFG 5) 0 1 = 1 ∧ ((queuedEvent 0x21 2).atHart 9).dev.rf (R.sup_HS_CFG 5) 5 1 = 1 ∧
    ((queuedEvent 0x21 2).atHart 9).dev.rf (R.sup_HS_CFG 5) 4 1 = 0 ∧ (((queuedEvent 0x21 2).atHart 9).hart 1).st = .idle ∧
    (((queuedEvent 0x21 2).atHart 9).hart 1).free ≤ 9 ∧ (∀ j < 4, (((queuedEvent 0x21 2).atHart 9).hart j).st ≠ .running) ∧
    ((queuedEvent 0x20 2).atHart 9).dev.rf (R.sup_HS_CFG 5) 0 1 = 0 ∧ Writes (st running) (w 2) R.sup_HART_CMD = true ∧
    ((hartIn 0 [] []).setHart 1 { hart0 1 with st := .faulted }).hart 1 = { hart0 1 with st := .faulted } := by decide +kernel

/-- Timer 2 with a period of 3 us. -/
def timing (l : List SupEvent) : Device := { running.setN (R.sup_TMR_PERIOD 2) 3 with arriving := l }
/-- Mailbox 0 busy or not. -/
def mailing (b : Nat) : Device := running.setN (R.sup_MB_STATUS 0) b
/-- The clauses of SupervisorSourcesPostEvents. -/
theorem witness_sources : Writes (st running) ⟨.supervisor 1, 15, 0x80000005, 5⟩ R.sup_SW_EVENT = true ∧ Writes (st running) (w 0x80000005) R.sup_SW_EVENT = true ∧
    fld 0x80000005#32 31 1 = 1 ∧ Writes (st running) ⟨.supervisor 1, 15, 1, 5⟩ R.sup_HEARTBEAT = true ∧ (timing []).rf (R.sup_TMR_PERIOD 2) 0 24 = 3 ∧
    Store.get zeroN (timing []).sup.tmr 2 + 3000 ≤ ((timing []).at 3000).now.tick ∧ running.rf (R.sup_TMR_PERIOD 2) 0 24 = 0 ∧
    (timing [⟨6, 0, 32, 1, 2, false, 2⟩]).arriving = [⟨6, 0, 32, 1, 2, false, 2⟩] := by decide +kernel
theorem witness_mailboxes : Writes (st (mailing 0)) (w 1) (R.sup_DOORBELL 0) = true ∧ Writes (st (mailing 1)) (w 1) (R.sup_DOORBELL 0) = true ∧
    (mailing 0).rf (R.sup_MB_STATUS 0) 0 1 = 0 ∧ (mailing 1).rf (R.sup_MB_STATUS 0) 0 1 = 1 ∧
    Writes (st (mailing 1)) ⟨.supervisor 1, 15, 1, 5⟩ (R.sup_MB_DONE 0) = true := by decide +kernel

/-- A VCORE write at tick 0, a PMBus device 2, and a ramp of bay 3 or slice 1. -/
def powered : Device :=
  let d := running.setN (R.pow_PMB_DEV 2) 0x140
  { d with pow := { d.pow with avs := some 0, ramps := [3, 65] } }
/-- A POW commit that changes the stage clock; `h`: the hold in progress. -/
def pausing_ (win hold : Option Nat) : Device :=
  let d := running.setPipe 3 { running.pipe 3 with pauseWin := win }
  { d with
    pend := [⟨0xC000, [(R.pow_STAGE_CLK, 800)], true, 0, 0⟩]
    pow := { d.pow with hold := hold } }
/-- The clauses of VoltageDomainsAndStageClock that rest on no fuse. -/
theorem witness_voltage : Writes (st running) (w 700) R.pow_VCORE_SET = true ∧ floorOk Device.reset.reg 700 = true ∧ powered.pow.avs = some 0 ∧
    0 + 10000 ≤ (powered.at 20000).now.tick ∧ powered.rf (R.pow_PMB_DEV 2) 8 1 = 1 ∧ powered.boot.core = true ∧
    Store.get zeroN powered.pow.polls 2 ≠ (powered.at 20000).window + 1 ∧ 3 ∈ powered.pow.ramps.take 4 ∧ 65 ∈ powered.pow.ramps.take 4 ∧
    (powered.at 3000000).window ≠ 0 ∧ powered.pow.capWin ≠ some (powered.at 3000000).window := by decide +kernel
/-- 750 mV in units of 2^-12 V and 8 A: 12 W, of which the decoding is exact. -/
theorem witness_pmbus : (0 : Int) - 14 = sext 5 (0x14#8).toNat + sext 5 ((0xF008#16).toNat / 2 ^ 11) ∧
    (6000 : Int) * 2 ^ 14 ≤ 3072 * 4 * sext 11 (0xF008#16).toNat * 1000 * 2 ^ 0 ∧ (3072 * 4 : Int) * sext 11 (0xF008#16).toNat * 1000 * 2 ^ 0 < (6000 + 1) * 2 ^ 14 := by decide
theorem witness_hold : (((pausing_ none none).at 5).atCyc 5).pendOf 0xC000 = some ⟨0xC000, [(R.pow_STAGE_CLK, 800)], true, 0, 0⟩ ∧
    (((pausing_ none none).at 5).atCyc 5).pausing ⟨0xC000, [(R.pow_STAGE_CLK, 800)], true, 0, 0⟩ = true ∧ (pausing_ none none).arrayRuns = true ∧
    (pausing_ none none).jobs = [] ∧ ((pausing_ (some 0) none).pipe 3).pauseWin = some (((pausing_ (some 0) none).at 5).atCyc 5).window ∧
    (∀ q < 64, ((pausing_ none none).pipe q).pauseWin ≠ some 0 ∧ ((pausing_ none none).pipe q).occ.getD 4 0 = 0) ∧
    (pausing_ none (some 9)).pow.hold = some 9 := by decide +kernel

/-- Group 2 limited to 320, S_LIMIT 3, step n, a raise due at `r`, calm since `c`. -/
def clipping (n : Nat) (r c : Option Nat) : Device :=
  let d0 := running.setF R.pow_POW_STATUS 10 4 n
  let d := { d0 with regs := Store.put (R.pow_CLIP_LIMIT 2) 320 (Store.put R.pow_CLIP_CFG 0x503 d0.regs) }
  { d with pow := { d.pow with raise := r, relaxFrom := c } }
/-- Sensor 5 reads t sixteenths of a degree. -/
def warm (t : Nat) (c : Bool) : Device :=
  let d := running.setN (R.thm_SENSOR 5) t
  { d with pow := { d.pow with cooling := c } }
/-- The clauses of ClipAndHeatAreBounded. -/
theorem witness_clip : (40 : Nat) % 20 = 0 ∧ (clipping 1 none none).now.tick ≤ 40 ∧ (clipping 1 none none).boot.devReset = none ∧ (clipping 1 none none).boot.core = true ∧
    (clipping 1 none none).sNow < (clipping 1 none none).sLimit ∧ (clipping 3 none none).sLimit ≤ (clipping 3 none none).sNow ∧
    (clipping 1 (some 9) none).arrayRuns = true ∧ (clipping 1 (some 9) none).sNow = 1 ∧ (clipping 1 none none).rf (R.pow_CLIP_LIMIT 2) 0 16 = 320 ∧
    max 3 (clipping 1 none (some 3)).pow.stepTick + (clipping 1 none (some 3)).relaxNs ≤ ((clipping 1 none (some 3)).at 2000000).now.tick ∧
    (clipping 1 none none).sFloor = 0 := by decide +kernel
theorem witness_heat : (warm 1840 false).tripped = false ∧ (warm 1840 false).pendOf 0xC000 = none ∧ (warm 1840 false).rf (R.thm_SENSOR 5) 16 1 = 0 ∧
    115 * 16 ≤ tempOf ((warm 1840 false).reg (R.thm_SENSOR 5)) ∧ tempOf ((warm 1839 false).reg (R.thm_SENSOR 5)) < 115 * 16 ∧
    (warm 1600 true).pow.cooling = true ∧ (∀ j < 64, tempOf ((warm 1600 true).reg (R.thm_SENSOR j)) < 105 * 16) ∧
    ¬tempOf ((warm 1680 true).reg (R.thm_SENSOR 5)) < 105 * 16 ∧ (warm 1600 true).rf R.thm_FAILED_COUNT 0 7 ≤ 4 := by decide +kernel

/-- Block 0 and the block of Lath port 0 CONFIGURED, port 0 open both ways, PLL 3 enabled and locked, clock 5 enabled and switching. -/
def lathDev : Device :=
  let d := (((running.setF (R.lth_BLOCK_STATE 0) 0 2 2).setF (R.lth_BLOCK_STATE (portBlock 0)) 0 2 2).setF (R.lth_LPORT_CFG 0) 0 2 3)
  let d1 := ((d.setF (R.clk_PLL_CFG 3) 31 1 1).setF R.clk_PLL_LOCKED 3 1 1).setF (R.clk_GCLK_CFG 5) 31 1 1
  let d2 := d1.setF R.clk_SWITCHING 5 1 1
  { d2 with edge := { d2.edge with lpRx := [(0, [⟨1, 0, 7⟩])] } }
/-- 32 flits wait in TX of port 0; an access waits for its answer. -/
def lathFull : Device := { lathDev with
  edge := { lathDev.edge with lpTx := [(0, List.replicate 32 ⟨1, 0, 7⟩)] }
  lath := { lathDev.lath with lra := some ⟨5, false⟩ } }
/-- The clauses of LathMovesFlitsClocksAndBits. -/
theorem witness_clocks : lathDev.rf (R.clk_PLL_CFG 3) 31 1 = 1 ∧ lathDev.rf R.clk_PLL_LOCKED 3 1 = 1 ∧ lathDev.rf R.clk_SWITCHING 5 1 = 1 ∧
    5 ∉ lathDev.lath.stuck ∧ lathDev.rf (R.clk_GCLK_CFG 5) 31 1 = 1 ∧ Store.get zeroN lathDev.lath.counted 5 ≠ (lathDev.at 5).window + 1 ∧
    lathDev.rf R.clk_GCLK_STOPPED 5 1 = 0 := by decide +kernel
theorem witness_lath : lathDev.portOpen 0 0 = true ∧ lathDev.portOpen 0 1 = true ∧ (Store.get noFlits lathFull.edge.lpTx 0).length = 32 ∧
    Store.get noFlits lathDev.edge.lpRx 0 = [⟨1, 0, 7⟩] ∧ lathDev.fabricUp = true ∧ lathDev.lath.lra = none ∧ lathFull.lath.lra = some ⟨5, false⟩ ∧
    lathDev.ending .fabric 0x2010100 false = 1 ∧ lathDev.ending .fabric (R.plb_FIRE_NOW / 0x1000 * 0x1000) false = 0 ∧ lathDev.ending .fabric (R.plb_FIRE_NOW / 0x1000 * 0x1000 + 0x24) true = 0 ∧ lathDev.brst 0 = false ∧
    Writes (st lathDev) (w 1) R.lth_RB_GO = true ∧ lathDev.blockState 0 = 2 ∧ lathDev.rf R.lth_RB_FAR 0 11 = 0 ∧ lathDev.upsets = [] ∧
    (lathDev.frame 0 0).length = 512 ∧ running.blockState 0 = 0 ∧ Writes (st running) (w 1) R.lth_RB_GO = true := by decide +kernel
/-- An intact GUARD word of zeros where its check bits are zero, or of any data once written. -/
theorem witness_guard (x : Nat) (h : Config.bramCheck 0 = 0) : (Lath.rdLanes lath0 0 0 8 = guardWord 0) ∧ guardWord x % 2 ^ 64 = x % 2 ^ 64 := by
  refine ⟨?_, ?_⟩
  · simp only [guardWord, Nat.zero_mod, Nat.zero_add]
    rw [show BitVec.ofNat 64 0 = 0 from rfl, h]; decide
  · simp only [guardWord, Nat.add_mul_mod_self_left]; exact Nat.mod_mod _ _

/-- Both Ethernet ports up and enabled, the client's blocks CONFIGURED, lanes and a bank good. -/
def ethDev : Device :=
  let d := ((running.setN (R.eth_PORT_STATUS 0) 1).setF (R.eth_PORT_CFG 0) 31 1 1).setF (R.eth_PORT_CFG 0) 8 2 1
  let d1 := ((d.setF (R.lth_BLOCK_STATE 0) 0 2 2).setF (R.xcv_LANE_CFG 3) 0 1 1).setF (R.xcv_LANE_STATUS 3) 0 3 7
  d1.setF (R.iob_BANK_STAT 2) 16 1 1
/-- n timestamps wait, and slot 1 of port 0 where `q`. -/
def stamped (n : Nat) (q : Bool) : Device := { ethDev with board := { ethDev.board with
  txts := [(0, List.replicate n ⟨4, 5, 6⟩)]
  txq := if q then [1] else [] } }
/-- A frame of n zero bytes, or a PTP frame. -/
def frameOf (n : Nat) (ptp : Bool) : List (BitVec 8) :=
  let b := List.replicate n 0
  if ptp then (b.set 12 0x88).set 13 0xF7 else b
/-- The clauses of EthernetBanksAndPtpClocks. -/
theorem witness_eth : ethDev.vccoIn 2 (vccoMv (ethDev.rf (R.iob_BANK_CFG 2) 0 3)) = (vccoMv (ethDev.rf (R.iob_BANK_CFG 2) 0 3) != 0) ∧ ethDev.vccoIn 2 9 = false ∧
    ethDev.rf (R.iob_BANK_STAT 2) 16 1 = 1 ∧ ethDev.rf (R.xcv_LANE_STATUS 3) 1 1 = 1 ∧ ethDev.rf (R.xcv_LANE_STATUS 3) 2 1 = 1 ∧
    ethDev.rf (R.xcv_LANE_CFG 3) 0 1 = 1 ∧ ethDev.ethUp 0 = true ∧ running.ethUp 1 = false ∧ isPtpFrame (frameOf 64 false) = false ∧
    isPtpFrame (frameOf 64 true) = true ∧ ethDev.brst 0 = false ∧ ethDev.rf (R.eth_PORT_CFG 0) 8 2 = 1 ∧ ethDev.rf (R.eth_RX_SLOT_FULL 0) 0 1 = 0 ∧
    (Store.get noStamps (stamped 16 false).board.txts 0).length = 16 ∧ (stamped 3 true).board.txq = [1] ∧ (stamped 3 false).board.txq = [] := by decide +kernel
theorem witness_ptp : Reads (st (stamped 3 false)) (w 0) (R.eth_TXTS_POP 0) = true ∧ Store.get noStamps (stamped 0 false).board.txts 0 = [] ∧
    Writes (st ethDev) (w 4) (R.eth_PTP_STEP_HI 1) = true ∧ Writes (st ethDev) (w 1) (R.eth_PTP_SET_GO 1) = true ∧ ethDev.rf (R.eth_PORT_CFG 0) 31 1 = 1 ∧
    Writes (st ethDev) (w 0x80000040) (R.eth_TX_SLOT_CTRL 0 1) = true ∧ Writes (st ethDev) (w 0x80000003) (R.eth_TX_SLOT_CTRL 0 1) = true := by decide +kernel

/-- The sideband heard: VAON, VAUX and SYS_N up, at a milestone; the bus I3C. -/
def hearing (mile busy : Nat) : Device :=
  let b : Boot := { running.boot with
    vaon := true
    vaux := true
    sysN := true
    por := false
    mile := mile }
  { (running.setF R.iob_SB_STATUS 0 1 1) with
    boot := b
    sbBusy := busy }
/-- ALIVE enabled with a half-period of 2 us, a window of 5 us and the last beat at tick 0. -/
def alive (en : Nat) : Device :=
  let d := (((hearing 3 0).setN R.iob_ALIVE_CFG (2 + 2 ^ 31 * en)).setN R.iob_HB_WINDOW 5).setF R.iob_ALIVE_STATUS 0 1 1
  { d with sup := { d.sup with beat := some 0 } }
/-- The clauses of SidebandDebugAndPresence. -/
theorem witness_sideband : (hearing 3 0).sbOn = true ∧ (hearing 1 0).sbOn = true ∧ (hearing 1 0).boot.mile < 2 ∧ ((hearing 3 900).at 5).now.tick < (hearing 3 900).sbBusy ∧
    (hearing 3 0).rf R.iob_SB_STATUS 0 1 = 1 ∧ running.hif.jtagBusy ≤ (running.at 5).now.tick ∧
    (running.at 5).now.tick < ({ running with hif := { running.hif with jtagBusy := 9 } } : Device).hif.jtagBusy := by decide +kernel
theorem witness_alive : (alive 1).now.tick ≤ 4000 ∧ 1000 * (alive 1).rf R.iob_ALIVE_CFG 0 14 = 2000 ∧ (alive 1).presenceDriven = true ∧
    (alive 1).board.aliveTick ≠ some 4000 ∧ (alive 1).faultState = false ∧ 4000 < 0 + 1000 * (alive 1).rf R.iob_HB_WINDOW 0 24 ∧
    (alive 1).rf R.iob_ALIVE_CFG 31 1 = 1 ∧ (alive 0).rf R.iob_ALIVE_CFG 31 1 = 0 ∧ (alive 0).rf R.iob_ALIVE_STATUS 0 1 = 1 ∧
    Writes (st (alive 1)) (w 1) R.iob_ALIVE_CLEAR = true ∧ Writes (st (alive 1)) (w 1) R.iob_OK_REQ = true := by decide +kernel

/-- Port 2 enabled and in a state, its status word and what it holds beside. -/
def linked (st : Nat) (x : LwPort) : Device := ((running.setF (R.lwl_PORT_CFG 2) 0 1 1).setN (R.lwl_PORT_STATUS 2) (st + 8)).setLw 2 x
/-- A CRC-good flit of a type, FSEQ and segments. -/
def goodFlit (type fseq : Nat) (l : List LwSeg) : LwFlit :=
  ({ fseq := BitVec.ofNat 8 fseq, ack := 0, type := BitVec.ofNat 8 type, state := 1, scyc := 5, crMw := 0, crMr := 0, crCtl := 0, crStream := [], segs := l,
     crc := 0 } : LwFlit).sealed
/-- It is CRC-good. -/
theorem goodFlit_good (a b : Nat) (l : List LwSeg) : (goodFlit a b l).bad false = false := by
  show (false || crc32 _ != crc32 _) = false
  exact bne_self_eq_false' _
/-- The clauses of LinksTrainRunAndGoDown (a CRC-good flit: goodFlit_good). -/
theorem witness_train : (linked 1 (lwPort0 2)).lwState 2 = 1 ∧ (linked 2 (lwPort0 2)).lwState 2 = 2 ∧ (linked 3 (lwPort0 2)).lwState 2 = 3 ∧
    (linked 0 (lwPort0 2)).lwState 2 = 0 ∧ (linked 1 (lwPort0 2)).rf (R.lwl_PORT_CFG 2) 1 2 = 0 ∧ ((linked 1 (lwPort0 2)).lw 2).half = false ∧
    ((linked 1 (lwPort0 2)).lw 2).since + 20000000 ≤ ((linked 1 (lwPort0 2)).at 20000000).now.tick ∧
    (goodFlit 3 0 []).kind = 3 ∧ ((linked 3 (lwPort0 2)).lw 2).lastGood + 8000 ≤ ((linked 3 (lwPort0 2)).at 8000).now.tick ∧
    (linked 2 (lwPort0 2)).rf (R.lwl_PORT_CFG 2) 0 1 = 1 ∧ (linked 2 (lwPort0 2)).boot.devReset = none ∧
    (linked 3 (lwPort0 2)).rf (R.lwl_PORT_STATUS 2) 3 1 = 1 := by decide +kernel

/-- Port 2 UP with something of its port set. -/
def up (f : LwPort → LwPort) : Device := linked 3 (f (lwPort0 2))
/-- Channel 9 of port 2 a FRAME_RX channel of pipeline 4, in a state. -/
def framed : Device :=
  let d := ((up id).setN (R.lwl_CH_CFG 2 9) (3 + 256 * 4)).setN (R.sch_ING_CFG 4) (3 + 2 ^ 16 * 2 + 2 ^ 18 * 9)
  d.setF (R.sch_PIPE_STATE 4) 0 3 2
/-- Port 2 with a copy of 256 bytes asked for in OPERATOR, from a base. -/
def copying (busy : Nat) (up_ : Bool) : Device :=
  let d := (if up_ then up id else linked 0 (lwPort0 2)).setN (R.lwl_COPY_LEN 2) 256
  (d.setN64 (R.lwl_COPY_LOCAL_LO 2) (running.areaBase 4)).setN (R.lwl_COPY_STATUS 2) busy
/-- The clauses of FlitsCarryFramesCopiesAndRequests (CRC-good flits: goodFlit_good). -/
theorem witness_flits : (up id).lwState 2 = 3 ∧ ((up id).lw 2).retrying = none ∧ ((up id).lw 2).retries < 8 ∧ (goodFlit 0 0 []).bad true = true ∧
    (goodFlit 0 0 []).kind = 0 ∧ (goodFlit 0 7 []).fseq.toNat ≠ ((up id).lw 2).rxSeq ∧
    (goodFlit 0 0 []).fseq.toNat = ((up id).lw 2).rxSeq ∧ (goodFlit 1 0 []).kind = 1 ∧ (goodFlit 2 0 []).kind = 2 ∧
    (goodFlit 2 0 []).state.toNat % 2 = 1 ∧ ((up fun x => { x with opened := some (1, 1) }).lw 2).opened = some (1, 1) ∧
    ((up fun x => { x with retries := 8 }).lw 2).retryWin = ((up id).atBoth 5 5).window ∧
    ((up fun x => { x with awaits := [(9, 4, 0)] }).lw 2).awaits.find? (fun q => q.1 == 9) = some (9, 4, 0) := by decide +kernel
theorem witness_frame : framed.chKind 2 9 = 3 ∧ framed.rxOpen 2 9 = true ∧ (streamSeg 9 0 ⟨3, 0, 7⟩).valid = true ∧ (streamSeg 9 0 ⟨3, 0, 7⟩).vc = 0 ∧
    (streamSeg 9 0 ⟨3, 0, 7⟩).ch = 9 ∧ (streamSeg 9 0 ⟨3, 0, 7⟩).flit.first = true ∧ (streamSeg 9 0 ⟨3, 0, 7⟩).flit.last = true := by decide +kernel
theorem witness_copies : Writes (st (copying 0 true)) (w 0x80000001) (R.lwl_COPY_CTRL 2) = true ∧ (copying 1 true).rf (R.lwl_COPY_STATUS 2) 0 1 = 1 ∧
    (copying 0 true).rn (R.lwl_COPY_LEN 2) = 256 ∧ (copying 0 true).inOperator ((copying 0 true).rn64 (R.lwl_COPY_LOCAL_LO 2)) 256 = true ∧
    (copying 0 false).lwState 2 = 0 ∧ Writes (st (copying 0 false)) (w 0x80000000) (R.lwl_RREG_CTRL 2) = true ∧
    ((copying 0 true).setN (R.lwl_RREG_STATUS 2) 1).rf (R.lwl_RREG_STATUS 2) 0 1 = 1 ∧ ((up fun x => { x with resp := some (0, 5) }).lw 2).resp = some (0, 5) ∧
    ((up fun x => { x with copy := some ⟨0, 0, 32, true, 32, [], none⟩ }).lw 2).copy = some ⟨0, 0, 32, true, 32, [], none⟩ := by decide +kernel

/-- A device in a boot state. -/
def booting (f : Boot → Boot) : Device := { running with boot := f running.boot }
/-- The clauses of ResetsClearWhatTheyReach. -/
theorem witness_resets : (booting fun b => { b with por := true }).boot.por = true ∧ running.boot.por = false ∧ (booting fun b => { b with core := false }).boot.core = false ∧
    running.boot.core = true ∧ (booting fun b => { b with step3 := true }).boot.step3 = true ∧ running.boot.sysN = true ∧
    (booting fun b => { b with sysN := false }).boot.sysN = false ∧ Writes (st running) (w 1) R.sec_DEV_RESET = true ∧ fld 1#32 0 1 = 1 ∧
    Writes (st running) ⟨.supervisor 0, 15, 1, 5⟩ R.sec_DEV_RESET = true ∧ running.boot.devReset = none ∧
    (booting fun b => { b with devReset := some 3 }).boot.devReset = some 3 ∧
    Writes (st (booting fun b => { b with devReset := some 3 })) (w 1) R.sec_DEV_RESET = true ∧
    Writes (st { running.setN 0x800C 0x1B with regs := Store.put R.idn_FUSE_STATE 0 (running.setN 0x800C 0x1B).regs }) ⟨.debug, 15, 1, 5⟩ R.sec_DEV_RESET = true := by decide +kernel

/-- Stack 1 trained, training begun at tick 0; failures where `f`; a Render where `r`. -/
def training (f r : Nat) : Device :=
  ((booting fun b => { b with trainStart := some 0, perstTick := some 0 }).setN R.sec_HBM_TRAIN (2 + 4 * f)).setF R.skm_RENDER_STATE 0 2 r
/-- The clauses of LinkReadinessAndTrainingMakeMilestones. -/
theorem witness_ready : running.boot.perstN = true ∧ (booting fun b => { b with perstN := false }).boot.perstN = false ∧ running.hif.linkUp = false ∧
    Writes (st running) (w 1) R.sec_READY = true ∧ Writes (st running) (w 2) R.sec_READY = true ∧ Writes (st running) ⟨.supervisor 2, 15, 2, 5⟩ R.sec_READY = true ∧
    running.boot.perstAt ≠ some (running.at 5).now.tick ∧ (training 0 0).boot.perstTick = some 0 ∧ (training 0 0).rf R.sec_HBM_TRAIN 0 1 = 0 ∧
    (training 0 0).rf R.sec_HBM_TRAIN 2 1 = 0 ∧ (training 0 0).rf R.sec_HBM_TRAIN 1 1 = 1 ∧ (training 0 0).boot.mile = 3 ∧
    0 + 60000000 ≤ ((training 0 0).at 60000000).now.tick ∧ Writes (st (training 1 0)) (w 0x100) R.sec_HBM_TRAIN = true ∧ fld 0x100#32 8 1 = 1 ∧
    (training 1 0).rf R.skm_RENDER_STATE 0 2 = 0 ∧ (training 1 0).loadFree = true ∧ (training 1 0).rf R.sec_HBM_TRAIN 2 2 ≠ 0 ∧
    (training 1 1).rf R.skm_RENDER_STATE 0 2 ≠ 0 := by decide +kernel

/-- The Primer ROM at a step, before PRIMED. -/
def rom (x : Rom) : Device := booting fun b => { b with rom := x, mile := 1 }
/-- The fuses with a state of their own. -/
def fused (v : Nat) (b : Option (Nat × Nat × Nat)) : Device :=
  let d := booting fun x => { x with burn := b }
  { d with regs := Store.put R.idn_FUSE_STATE (BitVec.ofNat 32 v) d.regs }
/-- The clauses of FirmwareIsCheckedAndFusesBurn; that an image passes rests on the hash and the signature of Config. -/
theorem witness_firmware : (rom .slotA).attempt none = 1 ∧ (rom .slotB).attempt (some []) = 2 ∧ (rom .host).boot.rom = .host ∧
    Writes (st (rom .waitGo)) (w 1) R.sec_FW_GO = true ∧ (rom .waitGo).boot.rom = .waitGo ∧ (rom .waitGo).boot.mile < 2 ∧
    Writes (st running) (w 1) R.sec_FW_GO = true ∧ 2 ≤ running.boot.mile := by decide +kernel
theorem witness_fuses : Writes (st (fused 1 none)) (w 0x80000002) R.sec_PIN_BURN = true ∧ Writes (st (fused 1 none)) ⟨.supervisor 1, 15, 0x80000002, 5⟩ R.sec_PIN_BURN = true ∧
    (fused 1 none).rf R.idn_FUSE_STATE 0 4 / 2 ^ 2 % 2 = 0 ∧ (fused 5 none).rf R.idn_FUSE_STATE 0 4 / 2 ^ 2 % 2 = 1 ∧
    acceptedPins 3 (0 ||| 2 ^ 1) ≠ [] ∧ acceptedPins 1 (0 ||| 2 ^ 0) = [] ∧ (fused 1 (some (0, 2, 9))).boot.burn = some (0, 2, 9) ∧
    (fused 1 (some (1, 0, 0))).boot.burn ≠ none ∧ Writes (st (fused 1 none)) (w 1) R.sec_SVN_BURN = true ∧ fld 0x80000012#32 4 1 = 1 ∧
    Writes (st (fused 1 none)) (w 0x80000012) R.sec_PIN_BURN = true := by decide +kernel

/-- A device that scrubs every class and rewrites, with pipeline 1 in state `st` on block (0, 0), frame 3 of the CONFIGURED block 2
damaged once for each of `u`, and the golden words of `r` on their way. -/
def scrubDev (st : Nat) (u : List Bool) (r : List ScrubItem) : Device :=
  let d := (running.setN R.snd_SND_CFG 0x11F).setN (R.lth_BLOCK_STATE 2) 2
  let d1 := ((d.setN (R.lth_OWNER 0) 0xFFFFFFFF).setF (R.sch_PIPE_STATE 1) 0 3 st).setN (R.sch_REGION 1) 0x80001100
  let d2 := { d1 with pow := { d1.pow with cooling := false, hold := none } }
  { d2 with
    upsets := u.map fun b => ⟨.lathFrame, 2, 200, b⟩
    scrub := { d2.scrub with reads := r } }
/-- Slot 0 of tile 0 VALID with skim 3 and, where `h`, active in context 0. -/
def heldDev (h : Bool) : Device :=
  let d := (scrubDev 2 [] [.hawk 0 0]).setN (R.trw_HAWK_SLOTS 0) 0x10001
  let d1 := (d.setN (slotReg 1 0) 0x20003).setN (R.trw_CTX_COUNT 0) 1
  if h then d1.setTile 0 ((d1.tile 0).setCtx 0 { d1.ctx 0 0 with slot := some 0 }) else d1
/-- The clauses of ScrubberScansCorrectsAndRewrites. -/
theorem witness_scrub : (((scrubDev 2 [] []).at 5).atCyc 0).scannable (.lath 2 3) 0 = true ∧ ((running.at 5).atCyc 0).scannable (.lath 2 3) 0 = false ∧
    (scrubDev 2 [] []).marks .lathFrame 2 192 64 = [] ∧ (scrubDev 2 [false] []).marks .lathFrame 2 192 64 = [⟨.lathFrame, 2, 200, false⟩] ∧
    (scrubDev 2 [true] []).marks .lathFrame 2 192 64 = [⟨.lathFrame, 2, 200, true⟩] ∧ (((scrubDev 2 [] []).at 5).atCyc 0).scannable (.prog 0 0) 0 = false ∧
    (((heldDev false).at 5).atCyc 0).scannable (.prog 0 0) 0 = true ∧ (heldDev false).marks .prog 0 0 1 = [] ∧
    ((scrubDev 2 [true] []).golden? (.out 0 0 12)).map (fun g => (scrubDev 2 [true] []).goldenBad g.1) = some false ∧
    (scrubDev 2 [] []).rf R.snd_SND_CFG 8 1 = 1 ∧ (scrubDev 2 [] []).scrub.ready = [] := by decide +kernel
theorem witness_golden : (((scrubDev 2 [] [.out 0 0 12]).at 5).atCyc 0).scannable (.out 0 0 12) 0 = true ∧
    ((((scrubDev 2 [] []).at 5).atCyc 0).golden? (.out 0 0 12)).isSome ∧ ((((scrubDev 2 [] []).at 5).atCyc 0).golden? (.out 0 0 3)).isSome ∧
    (((scrubDev 2 [] []).at 5).atCyc 0).pauseFor (.out 0 0 3) = some 1 ∧ (((scrubDev 2 [] []).at 5).atCyc 0).scannable (.out 0 0 3) 0 = true ∧
    (((scrubDev 2 [] []).at 5).atCyc 0).pauseFor (.out 0 0 12) = none ∧ (((scrubDev 2 [] []).at 5).atCyc 0).slotHeld (.out 0 0 12) = false ∧
    (((heldDev true).at 5).atCyc 0).slotHeld (.hawk 0 0) = true ∧ (((heldDev true).at 5).atCyc 0).pauseFor (.hawk 0 0) = none ∧
    ((((heldDev true).at 5).atCyc 0).golden? (.hawk 0 0)).isSome ∧ (((heldDev true).at 5).atCyc 0).scannable (.hawk 0 0) 0 = true := by decide +kernel

/-- Region 1 runs, with 17 items waiting for its pause; a pause of it until cycle 64 where `p`. -/
def waiting17 (p : Bool) : Device :=
  let d := scrubDev 2 [] []
  { d with scrub := { d.scrub with
    ready := List.replicate 17 (1, .out 0 0 3)
    paused := if p then [1] else []
    ends := if p then [(1, 64)] else [] } }
/-- The clauses of ScrubPausesPassesAndSettings. -/
theorem witness_pauses : (waiting17 false).arrayRuns = true ∧ runState ((waiting17 false).pipeState 1) = true ∧
    ((waiting17 false).scrub.ready.filter fun x => x.1 == 1).length = 17 ∧ ((waiting17 false).pipe 1).scrubWin ≠ some (((waiting17 false).at 5000000).atCyc 32).window ∧
    ((waiting17 false).pipe 1).occ.all (· == 0) = true ∧ (waiting17 true).arrayRuns = true ∧ Store.get zeroN (waiting17 true).scrub.ends 1 = 64 ∧
    (waiting17 true).scrubbing = true ∧ running.scrubbing = (running.rf R.snd_SND_CFG 0 5 != 0) ∧ (running.setN R.snd_SND_CFG 0).scrubbing = false ∧
    running.rf R.snd_SND_STATUS 1 1 = 0 ∧ running.scrub.copies = [] ∧ 1#32 &&& sndMask = 1#32 ∧ 2#32 &&& sndMask = 2#32 ∧
    Writes (st running) (w 3) R.snd_SND_CFG = true := by decide +kernel
theorem witness_snd_cfg_denied : Writes (st { running.setN 0xF000C 0x1B with regs := Store.put R.idn_FUSE_STATE 0 (running.setN 0xF000C 0x1B).regs }) ⟨.debug, 15, 1, 5⟩
    R.snd_SND_CFG = true := by decide +kernel

/-- A ladder at rung r whose limit is l ms from tick 0, its second expiry at rung 3 due where `b`; the watchdog at stage w since tick 0. -/
def laddered (r l : Nat) (b : Bool) (sw : Nat) : Device :=
  let d := (running.setN R.flt_LADDER_STATE (r + 4 * b2n b + 65536 * l)).setN R.flt_SWD_STATE sw
  let d1 := { d with ladderTick := 0 }
  { d1 with sup := { d1.sup with swd := some 0 } }
/-- The clauses of LadderCommandsAndTimersRecover. -/
theorem witness_ladder : Writes (st (laddered 2 5 false 0)) (w 0x101) R.flt_LADDER_CMD = true ∧ fld 0x101#32 0 3 = 1 ∧ fld 0x102#32 0 3 = 2 ∧ fld 0x203#32 0 3 = 3 ∧
    fld 0x104#32 0 3 = 4 ∧ fld 5#32 0 3 = 5 ∧ fld 6#32 0 3 = 6 ∧ (laddered 2 5 false 0).rung = 2 ∧ (laddered 3 5 false 0).rung = 3 ∧
    Writes (st (laddered 1 5 false 0)) ⟨.supervisor 0, 15, 0x105, 5⟩ R.flt_LADDER_CMD = true ∧ running.rung = 0 ∧
    (laddered 3 5 false 0).ladderEnd ≤ ((laddered 3 5 false 0).at 6000000).now.tick ∧ (laddered 3 5 true 0).rf R.flt_LADDER_STATE 2 1 = 1 ∧
    running.rf R.flt_DEV_FAULT 1 1 = 0 ∧ (laddered 3 5 false 0).rf R.flt_LADDER_STATE 2 1 = 0 ∧ running.boot.core = true ∧ running.boot.devReset = none ∧
    1000000 * (laddered 0 0 false 1).rf R.flt_SWD_CFG 0 10 ≤ ((laddered 0 0 false 1).at 2000000000).now.tick ∧ (laddered 0 0 false 1).rf R.flt_SWD_STATE 0 2 = 1 ∧
    (laddered 0 0 false 0).rf R.flt_SWD_STATE 0 2 = 0 ∧ running.sup.swd = none ∧ (running.setF (R.sch_PIPE_STATE 1) 0 3 2).pipeState 1 = 2 := by decide +kernel
theorem witness_ladder_denied : Writes (st { running.setN 0xF00C 0x1B with regs := Store.put R.idn_FUSE_STATE 0 (running.setN 0xF00C 0x1B).regs }) ⟨.debug, 15, 5, 5⟩
    R.flt_LADDER_CMD = true := by decide +kernel

/-- Pipeline 1 runs and samples every second cycle, n points of 2 taken; the ring is enabled where `e`, with one record held and PF0 a bus
master. -/
def sampling (n : Nat) (e : Bool) : Device :=
  let d := (running.setF (R.sch_PIPE_STATE 1) 0 3 2).setN (R.obs_SAMPLE_CFG 1) 0x20001
  let d1 := d.setN R.obs_TRACE_CTRL (0x800 + b2n e)
  let d2 := d1.setFn 0 { d1.fn 0 with bme := true }
  { d2 with trace := { d2.trace with
    samp := [(1, ⟨n, 0, false, 0⟩)]
    held := [List.replicate 64 0]
    mirrorDue := e } }
/-- The clauses of SamplingTraceAndCountsAreKept. -/
theorem witness_observe : (sampling 1 true).arrayRuns = true ∧ runState ((sampling 1 true).pipeState 1) = true ∧ (sampling 1 true).pipeResetting 1 = false ∧
    (sampling 1 true).sampleK 1 = 1 ∧ (sampling 1 true).samplePeriod 1 = 2 ∧ ((sampling 1 true).samp 1).points = 1 ∧ ((sampling 2 true).samp 1).points = 2 ∧
    (sampling 1 true).mayRequest 0 = true ∧ (sampling 1 true).rf R.obs_TRACE_CTRL 0 1 = 1 ∧ running.trace.held = [] ∧ (sampling 1 false).rf R.obs_TRACE_CTRL 0 1 = 0 ∧
    (sampling 1 true).trace.mirrorDue = true ∧ (sampling 1 true).rf (0xF2000 + 0x24) 17 1 = 0 ∧ running.trace.mirrorDue = false ∧
    Writes (st running) (w 0) R.obs_TRACE_RD = true ∧ Writes (st running) (w 1) R.obs_TRACE_RD = true ∧ Writes (st running) (w 65535) R.obs_QSEL = true ∧
    Writes (st running) (w 65536) R.obs_QSEL = true ∧ Writes (st running) (w 1023) R.obs_TSEL = true ∧ Writes (st running) (w 1024) R.obs_TSEL = true ∧
    Writes (st running) (w 1) R.obs_TCTL = true ∧ running.rn R.obs_TRACE_WR = 0 ∧ u32sub 1 0 = 1 := by decide +kernel

/-- Hart 1 runs in a loop inside a call; its queue holds ENDLOOP's command, so that the step acts on it. -/
def soundHarts : State :=
  let s := hartIn (0x31 * 2 ^ 26) [⟨4, 8, 2⟩] [(64, 0)]
  { s with pending := [.hartEndloop 1 9] }
theorem soundHarts_inv : HartsInv soundHarts := by
  refine ⟨?_, by decide⟩
  intro h hh
  match h, hh with
  | 0, _ => unfold HartOk; decide
  | 1, _ => unfold HartOk; decide
  | 2, _ => unfold HartOk; decide
  | 3, _ => unfold HartOk; decide
/-- The step of soundHarts answers a next state in which hart 1 is back at the loop's start. -/
theorem witness_harts_inv : (match step soundHarts with
  | .next t => decide ((t.hart 1).pc = 4)
  | _ => false) = true := by decide +kernel

/-- One ill-formed term for each check of WellFormed, which the check refuses, and a command that passes. -/
theorem test_wellformed_access : (Instr.registerWrite ⟨.mgmt, .page 0x102, 15, 4, 0, 0⟩).wellFormed = false ∧
    (Instr.loggedRead ⟨.mgmt, .page 0x100, 15, 6, 0, 0⟩).wellFormed = false ∧ (Instr.loggedRead ⟨.mgmt, .page 0x100, 15, 4, 0, 0⟩).wellFormed = true := by decide
theorem test_wellformed_page : (Instr.commitValidated 0x1004 0).wellFormed = false ∧ (Instr.commitSafePoint 0x8000000 0 0).wellFormed = false := by decide
theorem test_wellformed_ref : (Instr.refEdge [(0, true), (0, false)] [1, 2] 3).wellFormed = false ∧ (Instr.refEdge [] [] 3).wellFormed = false ∧
    (Instr.refEdge [(0, true)] [] 3).wellFormed = false := by decide
theorem test_wellformed_push : (Instr.pushWrite 0 .mgmt 0 8 true [0] 0).wellFormed = false ∧ (Instr.pushWrite 0 .mgmt 4096 4 true [0] 0).wellFormed = false := by decide
theorem test_wellformed_bram : (Instr.bramAccess 0 0 ⟨.wide, .prior, 0, 1, false, 256, 0, false⟩ 0).wellFormed = false ∧
    (Instr.bramAccess 0 0 ⟨.duo 2, .prior, 0, 16, false, 0, 0, false⟩ 0).wellFormed = false ∧
    (Instr.bramAccess 0 0 ⟨.ring 8 8, .prior, 0, 1, true, 0, 0, true⟩ 0).wellFormed = false ∧
    (Instr.bramAccess 0 0 ⟨.guard, .prior, 0, 4, false, 0, 0, false⟩ 0).wellFormed = false := by decide
theorem test_wellformed_flit : (Instr.lwFlitReceived 0 ⟨0, 0, 0, 0, 0, 0, 0, 0, [], [], 0⟩ false 0 0).wellFormed = false ∧
    (Instr.lwFlitReceived 0 ⟨0, 0, 0, 0, 0, 0, 0, 0, List.replicate 7 0, List.replicate 7 ⟨0, 0⟩, 0⟩ false 0 0).wellFormed = false := by decide
theorem test_wellformed_rest : (Instr.clipSample [] 0).wellFormed = false ∧ (Instr.atsInvalidate 0 0 0 0).wellFormed = false ∧
    (Instr.ethTxFrame 0 (some ⟨[], none, some (65536, 0)⟩) 0).wellFormed = false ∧ (Instr.vccoGood 0 8192 0).wellFormed = false ∧
    (Instr.avsReadback (some 1024) 0).wellFormed = false := by decide

end Sys2Proof.Tests
end

section
/-! PROOFS. Fields of a word bit by bit, and what a write by access type leaves in each field of a register (R6, R10, R28, R34). -/
namespace Sys2Proof.Machine

/-! ### Fields bit by bit (R6) -/

/-- Taking from a number the bits it shares with another leaves the bits that the other has not. -/
theorem testBit_sub_and (a b i : Nat) : (a - (a &&& b)).testBit i = (a.testBit i && !b.testBit i) := by
  have hle : a &&& b ≤ a := Nat.and_le_left
  have hmod : (a &&& b) % 2 = 1 ↔ a % 2 = 1 ∧ b % 2 = 1 := Nat.and_mod_two_eq_one
  induction i generalizing a b with
  | zero =>
    rw [Bool.eq_iff_iff]
    simp only [Nat.testBit_zero, Bool.and_eq_true, Bool.not_eq_true', decide_eq_true_eq, decide_eq_false_iff_not]
    omega
  | succ i ih =>
    have hdiv : (a &&& b) / 2 = a / 2 &&& b / 2 := Nat.and_div_two
    have hhalf : (a - (a &&& b)) / 2 = a / 2 - (a / 2 &&& b / 2) := by omega
    rw [Nat.testBit_succ, hhalf, ih _ _ Nat.and_le_left Nat.and_mod_two_eq_one, Nat.testBit_succ, Nat.testBit_succ]

theorem testBit_fld (v : Word) (lo w i : Nat) : (fld v lo w).testBit i = (decide (i < w) && v.toNat.testBit (i + lo)) := by
  rw [fld, Nat.testBit_mod_two_pow, Nat.testBit_div_two_pow]

/-- A field of a word is a number of the field's width. -/
theorem fld_lt (v : Word) (lo w : Nat) : fld v lo w < 2 ^ w := Nat.mod_lt _ (Nat.two_pow_pos w)

/-- Writing a field sets the bits of the field and leaves every other bit of the word. -/
theorem testBit_setFld (v : Word) {lo w : Nat} (x : Nat) (h : lo + w ≤ 32) (i : Nat) :
    (setFld v lo w x).toNat.testBit i =
      if lo ≤ i ∧ i < lo + w then x.testBit (i - lo) else v.toNat.testBit i := by
  have hB : v.toNat % 2 ^ lo < 2 ^ lo := Nat.mod_lt _ (Nat.two_pow_pos lo)
  have hX : x % 2 ^ w < 2 ^ w := Nat.mod_lt _ (Nat.two_pow_pos w)
  have hparts : v.toNat = 2 ^ lo * (2 ^ w * (v.toNat / 2 ^ lo / 2 ^ w) + fld v lo w) + v.toNat % 2 ^ lo := by
    rw [fld, Nat.div_add_mod, Nat.div_add_mod]
  have hnew : v.toNat - fld v lo w * 2 ^ lo + x % 2 ^ w * 2 ^ lo =
      2 ^ lo * (2 ^ w * (v.toNat / 2 ^ lo / 2 ^ w) + x % 2 ^ w) + v.toNat % 2 ^ lo := by
    have h1 := hparts
    rw [Nat.mul_add] at h1 ⊢
    rw [Nat.mul_comm (fld v lo w), Nat.mul_comm (x % 2 ^ w)]
    omega
  rw [setFld, BitVec.toNat_ofNat, hnew, Nat.testBit_mod_two_pow, Nat.testBit_two_pow_mul_add _ hB, Nat.testBit_two_pow_mul_add _ hX,
    Nat.testBit_mod_two_pow, Nat.testBit_mod_two_pow, Nat.testBit_div_two_pow, Nat.testBit_div_two_pow]
  by_cases h1 : i < lo
  · simp [h1, show i < 32 by omega, show ¬lo ≤ i by omega]
  · by_cases h2 : i < lo + w
    · simp [h1, h2, show i < 32 by omega, show lo ≤ i by omega, show i - lo < w by omega]
    · have e : i - lo - w + w + lo = i := by omega
      have h3 : 32 ≤ i → v.toNat.testBit i = false := fun hi =>
        Nat.testBit_lt_two_pow (Nat.lt_of_lt_of_le v.isLt (Nat.pow_le_pow_right (by omega) hi))
      rw [e, if_neg h1, if_neg (by omega), if_neg (by omega)]
      by_cases h4 : i < 32
      · simp [h4]
      · simp [h4, h3 (by omega)]

/-- A field that lies beside the one written reads as before. -/
theorem fld_setFld_beside (v : Word) {lo w lo' w' : Nat} (x : Nat) (h : lo + w ≤ 32) (hb : lo' + w' ≤ lo ∨ lo + w ≤ lo') :
    fld (setFld v lo w x) lo' w' = fld v lo' w' := by
  refine Nat.eq_of_testBit_eq fun i => ?_
  rw [testBit_fld, testBit_fld, testBit_setFld v x h]
  by_cases hi : i < w'
  · rw [if_neg (by omega)]
  · simp [hi]

/-! ### Access types (R10, R28, R34) -/

/-- The fields of a register lie inside its 32 bits and share none. -/
abbrev FieldsFit (l : List RField) : Prop :=
  (∀ f ∈ l, f.lo + f.w ≤ 32) ∧ l.Pairwise fun f g => g.lo + g.w ≤ f.lo ∨ f.lo + f.w ≤ g.lo

/-- A write's effect on one field leaves every field beside it. -/
def ActsInField (k : RField → Word → Word) : Prop :=
  ∀ (f g : RField) (w : Word), f.lo + f.w ≤ 32 → (g.lo + g.w ≤ f.lo ∨ f.lo + f.w ≤ g.lo) → fld (k f w) g.lo g.w = fld w g.lo g.w

/-- A fold over fields that lie beside a field leaves that field. -/
theorem fld_foldl_beside {k : RField → Word → Word} (hk : ActsInField k) {l : List RField} {f : RField} (w : Word)
    (hl : ∀ g ∈ l, g.lo + g.w ≤ 32) (hb : ∀ g ∈ l, g.lo + g.w ≤ f.lo ∨ f.lo + f.w ≤ g.lo) :
    fld (l.foldl (fun w f => k f w) w) f.lo f.w = fld w f.lo f.w := by
  induction l generalizing w with
  | nil => rfl
  | cons g l ih =>
    rw [List.forall_mem_cons] at hl hb
    rw [List.foldl_cons, ih _ hl.2 hb.2, hk g f w hl.1 hb.1.symm]

/-- A fold over fields that share no bit does to each field what it does alone, at a word in which the field is as it was. -/
theorem fld_foldl_fields {k : RField → Word → Word} (hk : ActsInField k) {l : List RField} (hl : FieldsFit l) (w : Word)
    {f : RField} (hf : f ∈ l) :
    ∃ w', fld w' f.lo f.w = fld w f.lo f.w ∧ fld (l.foldl (fun w f => k f w) w) f.lo f.w = fld (k f w') f.lo f.w := by
  induction l generalizing w with
  | nil => simp at hf
  | cons g l ih =>
    obtain ⟨hfit, hbeside⟩ := hl
    rw [List.forall_mem_cons] at hfit
    rw [List.pairwise_cons] at hbeside
    rw [List.foldl_cons]
    rcases List.mem_cons.1 hf with rfl | hf
    · exact ⟨w, rfl, fld_foldl_beside hk _ hfit.2 fun g hg => (hbeside.1 g hg)⟩
    · obtain ⟨w', h1, h2⟩ := ih ⟨hfit.2, hbeside.2⟩ (k g w) hf
      exact ⟨w', h1.trans (hk g f w hfit.1 (hbeside.1 f hf)), h2⟩

theorem fieldLive_actsInField (v : Word) : ActsInField fun f w => fieldLive f v w := by
  intro f g w hf hb
  dsimp only [fieldLive]
  split
  · split
    · exact fld_setFld_beside w _ hf hb
    · rfl
  · exact fld_setFld_beside w _ hf hb
  · exact fld_setFld_beside w _ hf hb
  · rfl

theorem fieldShadow_actsInField (v : Word) : ActsInField fun f w => fieldShadow f v w := by
  intro f g w hf hb
  dsimp only [fieldShadow]
  split
  · exact fld_setFld_beside w _ hf hb
  · rfl

/-- The bits of a field that a write of ones clears. -/
theorem fld_and_not (w v : Word) (lo n : Nat) (h : lo + n ≤ 32) : fld (w &&& ~~~v) lo n = fld w lo n - (fld w lo n &&& fld v lo n) := by
  refine Nat.eq_of_testBit_eq fun i => ?_
  rw [testBit_sub_and, testBit_fld, testBit_fld, testBit_fld, BitVec.testBit_toNat, BitVec.testBit_toNat, BitVec.testBit_toNat,
    BitVec.getLsbD_and, BitVec.getLsbD_not]
  by_cases hi : i < n
  · simp [hi, show i + lo < 32 by omega]
  · simp [hi]

theorem fld_or (w v : Word) (lo n : Nat) : fld (w ||| v) lo n = fld w lo n ||| fld v lo n := by
  refine Nat.eq_of_testBit_eq fun i => ?_
  rw [Nat.testBit_or, testBit_fld, testBit_fld, testBit_fld, BitVec.toNat_or, Nat.testBit_or]
  by_cases hi : i < n
  · simp [hi]
  · simp [hi]

/-- A field written by its access type holds what Table 0.4 says. -/
theorem fld_fieldLive {f : RField} {v : Word} (w : Word) (hf : f.lo + f.w ≤ 32)
    (hr : f.acc = .rw → inRange f (fld v f.lo f.w) = true) : fld (fieldLive f v w) f.lo f.w = fieldAfter f w v := by
  cases h : f.acc with
  | rw =>
    simp only [fieldLive, fieldAfter, h, hr h, if_true]
    rw [fld_setFld w _ hf, Nat.mod_eq_of_lt (fld_lt v _ _)]
  | w1c =>
    simp only [fieldLive, fieldAfter, h]
    rw [fld_setFld w _ hf, fld_and_not w v _ _ hf]
    exact Nat.mod_eq_of_lt (Nat.lt_of_le_of_lt (Nat.sub_le _ _) (fld_lt w _ _))
  | w1s =>
    simp only [fieldLive, fieldAfter, h]
    rw [fld_setFld w _ hf, fld_or]
    exact Nat.mod_eq_of_lt (Nat.or_lt_two_pow (fld_lt w _ _) (fld_lt v _ _))
  | ro => simp only [fieldLive, fieldAfter, h]
  | rwc => simp only [fieldLive, fieldAfter, h]
  | wo => simp only [fieldLive, fieldAfter, h]

/-- What a field holds after a write depends on the old word by that field alone. -/
theorem fieldAfter_congr {f : RField} {w w' : Word} (v : Word) (hf : f.lo + f.w ≤ 32) (h : fld w' f.lo f.w = fld w f.lo f.w) :
    fieldAfter f w' v = fieldAfter f w v := by
  unfold fieldAfter
  split
  · rfl
  · rw [fld_and_not w' v _ _ hf, fld_and_not w v _ _ hf, h]
  · rw [fld_or, fld_or, h]
  · exact h

theorem fld_fieldShadow {f : RField} (v w : Word) (hf : f.lo + f.w ≤ 32) :
    fld (fieldShadow f v w) f.lo f.w = if f.acc = .rwc then fld v f.lo f.w else fld w f.lo f.w := by
  unfold fieldShadow
  split
  case h_1 h => rw [if_pos h, fld_setFld w _ hf, Nat.mod_eq_of_lt (fld_lt v _ _)]
  case h_2 h => rw [if_neg h]

/-- The live word after a write of every field. -/
theorem fld_foldl_fieldLive {l : List RField} {v : Word} (hl : FieldsFit l)
    (hr : ∀ f ∈ l, f.acc = .rw → inRange f (fld v f.lo f.w) = true) (w : Word) {f : RField} (hf : f ∈ l) :
    fld (l.foldl (fun w f => fieldLive f v w) w) f.lo f.w = fieldAfter f w v := by
  obtain ⟨w', h1, h2⟩ := fld_foldl_fields (fieldLive_actsInField v) hl w hf
  rw [h2, fld_fieldLive w' (hl.1 f hf) (hr f hf), fieldAfter_congr v (hl.1 f hf) h1]

/-- The shadow word after a write of every field. -/
theorem fld_foldl_fieldShadow {l : List RField} (v : Word) (hl : FieldsFit l) (w : Word) {f : RField} (hf : f ∈ l) :
    fld (l.foldl (fun w f => fieldShadow f v w) w) f.lo f.w = if f.acc = .rwc then fld v f.lo f.w else fld w f.lo f.w := by
  obtain ⟨w', h1, h2⟩ := fld_foldl_fields (fieldShadow_actsInField v) hl w hf
  rw [h2, fld_fieldShadow v w' (hl.1 f hf), h1]

end Sys2Proof.Machine
end

section
/-! PROOFS. The register tables keep fields apart; registers that hold what they hold; O4 (R28, R34, R61, R62). -/
namespace Sys2Proof.Machine

/-! ### The register map (R10, R62) -/

/-- In every register of the tables the fields lie inside the word and share no bit, and every register and copy of one is word-aligned. -/
theorem regsOf_wellFormed : ∀ n < 32, ∀ r ∈ regsOf n, FieldsFit r.fields ∧ r.off % 4 = 0 ∧ ∀ x ∈ r.dims, x.1 % 4 = 0 := by decide +kernel

theorem dirFind_lt {off n i : Nat} (l : List (Nat × Nat × Nat)) (m : Nat) (h : dirFind off m l = some (n, i)) : n < m + l.length := by
  induction l generalizing m with
  | nil => simp [dirFind] at h
  | cons e l ih =>
    obtain ⟨b, c, p⟩ := e
    rw [dirFind] at h
    split at h
    · simp only [Option.some.injEq, Prod.mk.injEq] at h
      simp only [List.length_cons]
      omega
    · have := ih (m + 1) h
      simp only [List.length_cons]
      omega

/-- The directory has entries 0 to 30, and 31 stands for the push windows. -/
theorem blockAt_lt {off n i : Nat} (h : blockAt off = some (n, i)) : n < 32 := by
  unfold blockAt at h
  split at h
  · simp only [Option.some.injEq, Prod.mk.injEq] at h
    omega
  · have := dirFind_lt dirTable 0 h
    simp only [dirTable, List.length_cons, List.length_nil] at this
    omega

/-- The register at an offset is one of its block's table. -/
theorem regDefAt_mem {off : Nat} {r : RegDef} (h : regDefAt off = some r) : ∃ n < 32, r ∈ regsOf n := by
  unfold regDefAt at h
  cases hb : blockAt off with
  | none => simp [hb] at h
  | some x =>
    obtain ⟨n, i⟩ := x
    simp only [hb] at h
    refine ⟨n, blockAt_lt hb, ?_⟩
    split at h
    · next hn => exact hn ▸ List.mem_of_find?_eq_some h
    · exact List.mem_of_find?_eq_some h

theorem fieldsFit_of_regDefAt {off : Nat} {r : RegDef} (h : regDefAt off = some r) : FieldsFit r.fields := by
  obtain ⟨n, hn, hr⟩ := regDefAt_mem h
  exact (regsOf_wellFormed n hn r hr).1

/-! ### Blocks whose registers hold what they hold -/

/-- An offset of a block none of whose registers does anything beside holding its value: not the supervisor's, a tenant's, the queue state
table's, the Ethernet's or a push window's. -/
def InPlainBlock (off : Nat) : Prop :=
  match blockAt off with
  | some (n, _) => n ≠ 5 ∧ n ≠ 22 ∧ n ≠ 23 ∧ n ≠ 28 ∧ n ≠ 31
  | none => False

theorem InPlainBlock.block {off : Nat} (h : InPlainBlock off) :
    ∃ n i, blockAt off = some (n, i) ∧ n ≠ 5 ∧ n ≠ 22 ∧ n ≠ 23 ∧ n ≠ 28 ∧ n ≠ 31 := by
  unfold InPlainBlock at h
  cases hx : blockAt off with
  | none => simp [hx] at h
  | some x =>
    simp only [hx] at h
    exact ⟨x.1, x.2, rfl, h⟩

/-- An offset of a plain block is not one of block 5's. -/
theorem InPlainBlock.ne_of_sup {off o i : Nat} (h : InPlainBlock off) (ho : blockAt o = some (5, i)) : off ≠ o := by
  rintro rfl
  obtain ⟨n, j, hb, h5, -⟩ := h.block
  rw [ho] at hb
  exact h5 (by simp_all)

theorem InPlainBlock.ne_hartCmd {off : Nat} (h : InPlainBlock off) : off ≠ R.sup_HART_CMD :=
  h.ne_of_sup (i := 0) (by decide)

/-- R392 bars a tenant from no register of a plain block. -/
theorem InPlainBlock.tenantBarred_eq {off : Nat} (h : InPlainBlock off) (p : Port) : tenantBarred p off = false := by
  obtain ⟨n, i, hb, -, h22, -⟩ := h.block
  unfold tenantBarred
  rw [hb]
  split
  · next h => simp_all
  · simp

/-- A written register of a plain block starts nothing. -/
theorem InPlainBlock.afterWrite_eq {off : Nat} (h : InPlainBlock off) (d : Device) (v : Word) : d.afterWrite off v = d := by
  have htmr : off ∉ (List.range 4).map R.sup_TMR_PERIOD := by
    intro hmem
    obtain ⟨k, hk, rfl⟩ := List.mem_map.1 hmem
    have hsup : ∀ k < 4, blockAt (R.sup_TMR_PERIOD k) = some (5, 0) := by decide
    exact h.ne_of_sup (hsup k (List.mem_range.1 hk)) rfl
  obtain ⟨n, i, hb, -, -, h23, -⟩ := h.block
  unfold Device.afterWrite
  rw [if_neg htmr, hb]
  split
  · next h => simp_all
  · rfl

/-- A write to a register of a plain block that is no part of an RW pair goes to its fields. -/
theorem InPlainBlock.plainWrite_eq {off : Nat} (h : InPlainBlock off) (d : Device) (p : Port) (v : Word)
    (h1 : isPairRw off 1 = false) (h2 : isPairRw off 2 = false) : d.plainWrite p off v = d.writeFields p off v := by
  unfold Device.plainWrite
  rw [h.tenantBarred_eq, h1, h2]
  simp only [Bool.false_eq_true, if_false]
  obtain ⟨n, i, hb, h5, -, -, h28, -⟩ := h.block
  rw [hb]
  split
  · next h => simp_all
  · next h => simp_all
  · exact h.afterWrite_eq _ v

/-- A write of every field of a register, its values in range: the live word takes its fields, and the shadow word too where the register
has RWC fields; nothing is logged. -/
theorem Device.writeFields_eq (d : Device) {p : Port} {off : Nat} {v : Word} {r : RegDef} (hr : regDefAt off = some r)
    (hf : ∀ f ∈ r.fields, whoOk f.who p off = true ∧ (f.acc = .rw → inRange f (fld v f.lo f.w) = true)) :
    d.writeFields p off v =
      let d1 := d.setReg off (r.fields.foldl (fun w f => fieldLive f v w) (d.reg off))
      if r.rwc then d1.setSh off (r.fields.foldl (fun w f => fieldShadow f v w) (d.sh off)) else d1 := by
  have hall : r.fields.filter (fun f => whoOk f.who p off) = r.fields := List.filter_eq_self.2 fun f h => (hf f h).1
  have hrange : r.fields.any (fun f => f.acc == .rw && !inRange f (fld v f.lo f.w)) = false := by
    rw [List.any_eq_false]
    intro f h
    have := (hf f h).2
    simp_all
  have hwho : r.fields.any (fun f => f.acc != .ro && !whoOk f.who p off) = false := by
    rw [List.any_eq_false]
    intro f h
    simp [(hf f h).1]
  unfold Device.writeFields RegDef.rwc
  simp only [hr, hall, hrange, hwho, Bool.false_eq_true, if_false]

/-- A register without RWC fields has nothing in its shadow to write. -/
theorem acc_ne_rwc {r : RegDef} (h : r.rwc = false) {f : RField} (hf : f ∈ r.fields) : f.acc ≠ .rwc := by
  unfold RegDef.rwc at h
  rw [List.any_eq_false] at h
  simpa using h f hf

/-! ### Accesses that name a register -/

/-- A REGISTER_WRITE that its page performs writes the register it names. -/
theorem registerWrite_of_writes {s : State} {a : Access} {off : Nat} (h : WritesAt s a off = true) :
    registerWrite a s = (s.onDevice (·.at a.t)).writeReg a.port a.data off := by
  unfold WritesAt at h
  unfold registerWrite
  cases ht : a.target with
  | page x =>
    simp only [ht, Bool.and_eq_true, beq_iff_eq] at h
    obtain ⟨hoff, hreach⟩ := h
    simp only [State.busWrite, State.onDevice_dev, hreach, if_true, hoff, Option.getD_some]
  | msix f v w => simp [ht] at h
  | cfg f c => simp [ht] at h

/-- A write of a register of a plain block that has no row of its own goes to the register's access types. -/
theorem writeReg_plain {s : State} {p : Port} {v : Word} {off : Nat} (hb : InPlainBlock off) (hh : inHeader off = false)
    (ha : s.dev.actingWrite ⟨p, 15, v, s.dev.now.tick⟩ off = none) : s.writeReg p v off = s.onDevice (·.plainWrite p off v) := by
  unfold State.writeReg
  rw [if_neg hb.ne_hartCmd]
  simp only [State.onDevice, hh, ha, Bool.false_eq_true, if_false]

/-! ### O4 -/

/-- Settles O4: the write is a fold over the register's fields, which the tables keep apart. -/
theorem registerWriteActsByAccessType : Obligations.RegisterWriteActsByAccessType := by
  unfold Obligations.RegisterWriteActsByAccessType
  intro s a off r hw hplain hf
  obtain ⟨hr, hpair, hhdr, hact, hblock⟩ := hplain
  have hb : InPlainBlock off := hblock
  have hno : ∀ k, 0 < k → isPairRw off k = false := fun k hk => by
    simp [isPairRw, hr, hpair, show (0 == k) = false by simp; omega]
  have hfit := fieldsFit_of_regDefAt hr
  refine ⟨_, rfl, ?_⟩
  rw [registerWrite_of_writes hw, writeReg_plain hb hhdr hact]
  simp only [State.onDevice, hb.plainWrite_eq _ _ _ (hno 1 (by omega)) (hno 2 (by omega)), Device.writeFields_eq _ hr hf]
  have hrange : ∀ f ∈ r.fields, f.acc = .rw → inRange f (fld a.data f.lo f.w) = true := fun f h => (hf f h).2
  cases hrwc : r.rwc with
  | true =>
    simp only [if_true]
    refine ⟨fun f h => ⟨?_, ?_⟩, fun o ho => ?_, rfl, rfl, rfl⟩
    · simp [fld_foldl_fieldLive hfit hrange _ h]
    · simp [fld_foldl_fieldShadow a.data hfit _ h]
    · simp [ho]
  | false =>
    simp only [Bool.false_eq_true, if_false]
    refine ⟨fun f h => ⟨?_, ?_⟩, fun o ho => ?_, rfl, rfl, rfl⟩
    · simp [fld_foldl_fieldLive hfit hrange _ h]
    · simp [acc_ne_rwc hrwc h]
    · simp [ho]

end Sys2Proof.Machine
end

section
/-! PROOFS. LO/HI pairs: staging, writing both words, capturing; O6 (R26, R30, R31). -/
namespace Sys2Proof.Machine

/-! ### Staging and capture registers (R30, R31) -/

@[simp] theorem Device.setPair_reg (d : Device) (r : PairReg) (o : Nat) : (d.setPair r).reg o = d.reg o := rfl

theorem Device.pairOf_eq (d : Device) (p : Port) (lo : Nat) : (d.pairOf p lo).port = p ∧ (d.pairOf p lo).off = lo := by
  unfold Device.pairOf
  cases h : d.pairs.find? fun r => r.port = p ∧ r.off = lo with
  | none => exact ⟨rfl, rfl⟩
  | some r => simpa using List.find?_some h

/-- The pair registers of a requester read as they were set. -/
@[simp] theorem Device.pairOf_setPair (d e : Device) (p : Port) (lo : Nat) (c st : Option Word) :
    (d.setPair { e.pairOf p lo with captured := c, staged := st }).pairOf p lo = { e.pairOf p lo with captured := c, staged := st } := by
  obtain ⟨hp, ho⟩ := e.pairOf_eq p lo
  generalize e.pairOf p lo = q at *
  subst hp ho
  simp [Device.pairOf, Device.setPair]

/-- A HI write writes both words and reloads the staging register from LO (R31). -/
theorem Device.writePairHi_reg (d : Device) (p : Port) (lo : Nat) (v : Word) (o : Nat) :
    (d.writePairHi p lo v).reg o =
      if o = lo + 4 then v else if o = lo then ((d.pairOf p lo).staged).getD (d.reg lo) else d.reg o := by
  unfold Device.writePairHi
  simp only [Device.setPair_reg, Device.reg_setReg]

theorem Device.writePairHi_staged (d : Device) (p : Port) (lo : Nat) (v : Word) :
    ((d.writePairHi p lo v).pairOf p lo).staged = some ((d.pairOf p lo).staged.getD (d.reg lo)) := by
  simp only [Device.writePairHi, Device.pairOf_setPair]

/-- A write to the LO word of an RW pair of a plain block goes to the staging register (R31). -/
theorem InPlainBlock.plainWrite_lo {lo : Nat} (h : InPlainBlock lo) (d : Device) {p : Port} (v : Word) (hp : isPairRw lo 1 = true)
    (hm : mayWrite p lo = true) :
    d.plainWrite p lo v = d.setPair { d.pairOf p lo with staged := some (v &&& rwMask lo), captured := none } := by
  unfold Device.plainWrite Device.stageLo
  simp only [h.tenantBarred_eq, hp, hm, Bool.false_eq_true, if_false, if_true]

/-- A write to the HI word of an RW pair of a plain block writes the pair (R31). -/
theorem InPlainBlock.plainWrite_hi {lo : Nat} (h : InPlainBlock (lo + 4)) (d : Device) {p : Port} (v : Word) (hp : isPairRw (lo + 4) 2 = true)
    (h1 : isPairRw (lo + 4) 1 = false) (hm : mayWrite p (lo + 4) = true) :
    d.plainWrite p (lo + 4) v = d.writePairHi p lo (v &&& rwMask (lo + 4)) := by
  unfold Device.plainWrite Device.writeHi
  simp only [h.tenantBarred_eq, hp, h1, hm, Bool.false_eq_true, if_false, if_true, Nat.add_sub_cancel]

/-! ### Reads of a LO word (R26, R30) -/

/-- The copies of a register stand at multiples of four from its first. -/
theorem dimsHit_aligned {o : Nat} {l : List (Nat × Nat)} (hl : ∀ x ∈ l, x.1 % 4 = 0) (h : dimsHit o l = true) : o % 4 = 0 := by
  induction l generalizing o with
  | nil =>
    simp only [dimsHit, decide_eq_true_eq] at h
    omega
  | cons x l ih =>
    obtain ⟨st, n⟩ := x
    rw [List.forall_mem_cons] at hl
    have hst : o % 4 = o % st % 4 := (Nat.mod_mod_of_dvd o (Nat.dvd_of_mod_eq_zero hl.1)).symm
    rw [dimsHit] at h
    split at h
    · rw [Bool.or_eq_true] at h
      rcases h with h | h
      · rw [hst, ih hl.2 h]
      · simp only [Bool.and_eq_true, decide_eq_true_eq] at h
        omega
    · simp at h

/-- Every register of a plain block is word-aligned. -/
theorem InPlainBlock.aligned {off : Nat} (h : InPlainBlock off) {r : RegDef} (hr : regDefAt off = some r) : off % 4 = 0 := by
  obtain ⟨n, i, hb, -, -, h23, -⟩ := h.block
  simp only [regDefAt, hb, if_neg h23] at hr
  obtain ⟨-, hoff, hdims⟩ := regsOf_wellFormed n (blockAt_lt hb) r (List.mem_of_find?_eq_some hr)
  have hhit := List.find?_some hr
  simp only [RegDef.hit, Bool.and_eq_true, decide_eq_true_eq] at hhit
  obtain ⟨⟨-, hle⟩, hhit⟩ := hhit
  have := dimsHit_aligned hdims hhit
  omega

/-- A read that reaches its page at a word-aligned offset reaches it as a read of that word. -/
theorem Device.reaches_word {d : Device} {p : Port} {x : Nat} {be : BitVec 4} {len off : Nat} (h : d.reaches p x be len false = true)
    (ho : (d.resolve p x).map d.alias_ = some off) (hoff : off % 4 = 0) : d.reaches p x 15 4 false = true := by
  unfold Device.reaches at h ⊢
  simp only [ho] at h ⊢
  simp only [Bool.and_eq_true, Bool.not_eq_true', Bool.or_eq_false_iff, decide_eq_false_iff_not] at h ⊢
  obtain ⟨⟨h1, h2⟩, ⟨⟨⟨⟨⟨h3, h4⟩, h5⟩, -⟩, -⟩, -⟩⟩ := h
  exact ⟨⟨h1, h2⟩, ⟨⟨⟨⟨⟨h3, h4⟩, h5⟩, by simp⟩, by omega, by omega⟩, by simp⟩⟩

/-- Whether `p` is the supervisor reading a word of a tile's PEEK (R447). -/
def peekBarred (p : Port) (off : Nat) : Prop := portCode p = 7 ∧ ∃ k, inPair off (R.trw_PEEK_LO k) = true

/-- A read of a plain block changes nothing before its value is taken, but for the supervisor's of PEEK. -/
theorem InPlainBlock.beforeRead_eq {off : Nat} (h : InPlainBlock off) (d : Device) {p : Port} (hp : ¬peekBarred p off) :
    d.beforeRead p off = d := by
  obtain ⟨n, i, hb, -, -, -, h28, -⟩ := h.block
  have hpop : ∀ k < 2, blockAt (R.eth_TXTS_POP k) = some (28, 2) := by decide
  have hne : ∀ k < 2, off ≠ R.eth_TXTS_POP k := by
    rintro k hk rfl
    rw [hpop k hk] at hb
    exact h28 (by simp_all)
  unfold Device.beforeRead
  simp only [hne 0 (by omega), hne 1 (by omega), if_false, hb]
  split
  · exact if_neg fun hx => hp ⟨hx.1, _, hx.2⟩
  · rfl

/-- After a read of a LO word its requester's capture register holds the present HI word, and no register has changed (R30). -/
theorem State.afterRead_lo (s : State) {p : Port} {lo : Nat} (h : (regDefAt lo).map (·.pair) = some 1) :
    s.afterRead p lo = s.onDevice fun d => d.setPair { d.pairOf p lo with captured := some (s.word p (lo + 4)) } := by
  have hne : lo ≠ R.plb_EVQ_HIGHWATER := by
    rintro rfl
    exact absurd h (by decide +kernel)
  unfold State.afterRead
  simp only [hne, if_false, h]

/-- A read of the LO word of a pair of a plain block answers the word and captures HI. -/
theorem State.busRead_lo {s : State} {p : Port} {x lo : Nat} (hb : InPlainBlock lo) (hp : ¬peekBarred p lo)
    (hpair : (regDefAt lo).map (·.pair) = some 1) (ho : (s.dev.resolve p x).map s.dev.alias_ = some lo)
    (hr : s.dev.reaches p x 15 4 false = true) :
    s.busRead p x =
      (s.word p lo, s.onDevice fun d => d.setPair { d.pairOf p lo with captured := some (s.word p (lo + 4)) }) := by
  unfold State.busRead
  simp only [hr, if_true, ho, Option.getD_some, State.onDevice, hb.beforeRead_eq _ hp, State.afterRead_lo s hpair]
  refine Prod.ext ?_ rfl
  dsimp only
  rw [if_neg]
  · simp only [State.readWord, hpair]
  · rw [Bool.and_eq_true]
    rintro ⟨h7, hk⟩
    split at hk
    · exact hp ⟨by simpa using h7, _, hk⟩
    · simp at hk

/-- A PAIR_LO_READ that its page performs answers the LO word and captures the HI word. -/
theorem pairLoRead_of_reads {s : State} {a : Access} {lo : Nat} (h : ReadsAt s a lo = true) (hb : InPlainBlock lo)
    (hp : ¬peekBarred a.port lo) (hpair : (regDefAt lo).map (·.pair) = some 1) :
    let s0 := s.onDevice (·.at a.t)
    pairLoRead a s = s0.onDevice fun d =>
      (d.setPair { d.pairOf a.port lo with captured := some (s0.word a.port (lo + 4)) }).emit
        (.reply (portCode a.port) 0 (s0.word a.port lo)) := by
  obtain ⟨r, hr, hr1⟩ := Option.map_eq_some_iff.1 hpair
  unfold ReadsAt at h
  unfold pairLoRead
  cases ht : a.target with
  | page x =>
    simp only [ht, Bool.and_eq_true, beq_iff_eq] at h
    obtain ⟨hoff, hreach⟩ := h
    have hword := Device.reaches_word hreach hoff (hb.aligned hr)
    simp only [State.onDevice_dev, Device.names, Device.target, ht, hoff, Option.any_some, hr, hr1, BEq.rfl, if_true, hreach]
    rw [State.busRead_lo (s := s.onDevice (·.at a.t)) hb hp hpair hoff hword]
    rfl
  | msix f v w => simp [ht] at h
  | cfg f c => simp [ht] at h

/-! ### O6 -/

/-- A command that writes the HI word of a pair is the write of its register. -/
theorem pairHiWrite_of_writes {s : State} {a : Access} {off : Nat} (h : WritesAt s a off = true) (hp : isPairRw off 2 = true) :
    pairHiWrite a s = registerWrite a s := by
  unfold WritesAt at h
  cases ht : a.target with
  | page x =>
    simp only [ht, Bool.and_eq_true, beq_iff_eq] at h
    simp only [pairHiWrite, Device.names, Device.target, ht, h.1, Option.any_some, hp, if_true]
  | msix f v w => simp [ht] at h
  | cfg f c => simp [ht] at h

/-- Settles O6: a LO write reaches the staging register alone, a HI write both words, and a LO read the capture register alone. -/
theorem pairsStageAndCapture : Obligations.PairsStageAndCapture := by
  unfold Obligations.PairsStageAndCapture
  intro s a lo hsame _ hhi hblock
  have hlo : InPlainBlock lo := hblock
  have hhi' : InPlainBlock (lo + 4) := by
    rw [InPlainBlock, ← hsame]
    exact hblock
  refine ⟨fun hw hp hm => ⟨_, rfl, ?_⟩, fun hw hp h1 hm hact => ⟨_, rfl, ?_⟩, fun hr hp hpeek => ⟨_, rfl, ?_⟩⟩
  · rw [show pairLoWrite a s.dev = _ from Device.writeOf_of_writes hw hp, hlo.plainWrite_lo _ _ hp hm]
    exact ⟨fun o => rfl, by simp only [Device.pairOf_setPair], rfl, rfl⟩
  · rw [pairHiWrite_of_writes hw hp, registerWrite_of_writes hw, writeReg_plain hhi' hhi hact]
    simp only [State.onDevice, hhi'.plainWrite_hi _ _ hp h1 hm, Device.writePairHi_staged, Device.writePairHi_reg]
    have hne : lo ≠ lo + 4 := by omega
    refine ⟨by simp, ?_, ?_, fun o ho => ?_, rfl, rfl⟩
    · simp only [hne, if_false, if_true]
      rfl
    · simp only [hne, if_false, if_true]
    · simp only [List.mem_cons, List.not_mem_nil, or_false, not_or] at ho
      exact (Device.writePairHi_reg _ _ _ _ o).trans ((if_neg ho.2).trans (if_neg ho.1))
  · have hp' : ¬peekBarred a.port lo := by
      rintro ⟨h7, k, hk⟩
      exact absurd (hpeek h7 k) (by simp [hk])
    rw [pairLoRead_of_reads hr hlo hp' hp]
    refine ⟨rfl, ?_, fun o => rfl, rfl, rfl⟩
    exact congrArg PairReg.captured (Device.pairOf_setPair _ _ _ _ _ _)

end Sys2Proof.Machine
end

section
/-! PROOFS. The end of a commit and the writes of PAGE_PORTS; O8 and O9 (R35, R36, R48, R49). -/
namespace Sys2Proof.Machine

/-! ### What speaking up leaves alone -/

theorem Device.Speaks.pend_eq {d e : Device} (h : d.Speaks e) : e.pend = d.pend := by
  have := congrArg Device.pend h
  exact this

theorem Device.Speaks.shadow_eq {d e : Device} (h : d.Speaks e) : e.shadow = d.shadow := by
  have := congrArg Device.shadow h
  exact this


/-- A page stands at a multiple of the page size. -/
theorem pageOf_mod (off : Nat) : pageOf off % 0x1000 = 0 := by
  unfold pageOf
  omega

/-- A word of the header of a page other than EVT_RAW is none of the registers that the fault log changes. -/
theorem notMem_faultRegs {o : Nat} (h : o % 0x1000 < 0x100) (h20 : o % 0x1000 ≠ 0x20) : o ∉ faultRegs := by
  intro hm
  have hregs : ∀ x ∈ faultRegs, 0x100 ≤ x % 0x1000 ∨ x % 0x1000 = 0x20 := by decide
  rcases hregs o hm with h1 | h1 <;> omega

theorem ne_msixDropped {o : Nat} (h : o % 0x1000 < 0x100) : o ≠ R.hif_MSIX_DROPPED := by
  rintro rfl
  exact absurd h (by decide)

/-! ### The end of a commit (R35, R36) -/

theorem Device.pendOf_page {d : Device} {page : Nat} {p : Pending} (h : d.pendOf page = some p) : statusPage p.page = page := by
  simpa using List.find?_some h

theorem statusPage_mod (u : Nat) : statusPage u % 0x1000 = 0 := by
  unfold statusPage errPage
  split
  · rfl
  · exact pageOf_mod u

/-- A page whose commits have been ended shows none as PENDING. -/
theorem Device.pendOf_endPend (d : Device) (page : Nat) : (d.endPend page).pendOf page = none := by
  simp [Device.pendOf, Device.endPend]

/-- STATE of COMMIT_STATUS is set, and an event bit of the page rises: COMMIT_STATUS holds what was set. -/
theorem Device.commitStatus_reg (d : Device) {page : Nat} (hp : page % 0x1000 = 0) (st i : Nat) :
    ((d.setCommitSt page st).evtBit page i).reg (page + 0x1C) = wd st := by
  rw [Device.evtBit_reg _ _ _ _ (ne_msixDropped (by omega)), if_neg (by omega)]
  simp [Device.setCommitSt]

theorem Device.commitStatus_pend (d : Device) (page st i : Nat) : ((d.setCommitSt page st).evtBit page i).pend = d.pend :=
  (Device.evtBit_speaks _ page i).pend_eq

/-- A commit that is done: COMMIT_STATUS reads DONE and the page shows no commit as PENDING. -/
theorem Device.commitDone_status (d : Device) {page : Nat} (hp : page % 0x1000 = 0) :
    (d.commitDone page).reg (page + 0x1C) = 2 ∧ (d.commitDone page).pendOf page = none := by
  refine ⟨Device.commitStatus_reg _ hp 2 0, ?_⟩
  rw [Device.pendOf, Device.commitDone, Device.commitStatus_pend]
  exact d.pendOf_endPend page

/-- A commit that is refused: STATE reads REFUSED, the page shows no commit as PENDING, and the shadow stays. -/
theorem Device.commitRefused_status (d : Device) {p : Pending} (off reason : Nat) :
    let page := statusPage p.page
    (d.commitRefused p off reason).rf (page + 0x1C) 0 2 = 3 ∧ (d.commitRefused p off reason).pendOf page = none ∧
      (d.commitRefused p off reason).shadow = d.shadow := by
  refine ⟨?_, ?_, (Device.evtBit_speaks _ _ _).shadow_eq⟩
  · rw [Device.rf, Device.commitRefused, Device.commitStatus_reg _ (statusPage_mod p.page), fld, wd, BitVec.toNat_ofNat]
    omega
  · rw [Device.pendOf, Device.commitRefused, Device.commitStatus_pend]
    exact d.pendOf_endPend _

/-- Changing the shown commit of a page without moving it changes what the page shows. -/
theorem find?_map_page {l : List Pending} {p q : Pending} {page : Nat} (h : l.find? (fun x => statusPage x.page == page) = some p)
    (hq : q.page = p.page) :
    (l.map fun x => if x.page = p.page then q else x).find? (fun x => statusPage x.page == page) = some q := by
  have hpage : statusPage p.page = page := by simpa using List.find?_some h
  induction l with
  | nil => simp at h
  | cons x l ih =>
    rw [List.map_cons, List.find?_cons]
    by_cases hx : x.page = p.page
    · simp [hx, hq, hpage]
    · by_cases hs : statusPage x.page = page
      · simp_all
      · rw [List.find?_cons] at h
        simp only [hx, if_false, beq_eq_false_iff_ne.2 hs] at h ⊢
        exact ih h

/-- Settles O8: a failing field refuses the set and its absence marks it valid; the safe point ends it DONE. -/
theorem validationAndSafePointEndACommit : Obligations.ValidationAndSafePointEndACommit := by
  unfold Obligations.ValidationAndSafePointEndACommit
  intro s page k c p hpend
  obtain rfl := Device.pendOf_page hpend
  have hcyc : ((s.dev.at k).atCyc c).pendOf (statusPage p.page) = some p := hpend
  refine ⟨fun hv hch off reason hfail => ⟨_, rfl, ?_⟩, fun hv hch hfail => ⟨_, rfl, ?_⟩, fun hv hsafe => ⟨_, rfl, ?_⟩,
    fun hsafe => ⟨_, rfl, ?_⟩⟩
  · simp only [commitValidated, hpend, hv, hch, hfail, Bool.false_eq_true, if_false]
    obtain ⟨h1, h2, h3⟩ := (s.dev.at k).commitRefused_status (p := p) off reason
    exact ⟨h1, h2, h3, rfl, rfl⟩
  · simp only [commitValidated, hpend, hv, hch, hfail, Bool.false_eq_true, if_false]
    refine ⟨?_, fun o => rfl, rfl, rfl, rfl⟩
    refine (congrArg (Option.map (·.valid)) (find?_map_page hpend ?_)).trans ?_ <;> rfl
  · simp only [commitSafePoint, hcyc, hv, hsafe, Bool.and_self, if_true]
    obtain ⟨h1, h2⟩ := Device.commitDone_status (({ s with dev := (s.dev.at k).atCyc c } : State).dev.applyCommit p) (statusPage_mod p.page)
    exact ⟨h1, h2, rfl, rfl⟩
  · simp only [commitSafePoint, hcyc, hsafe, Bool.and_false, Bool.false_eq_true, if_false]
    exact ⟨fun o => rfl, rfl, rfl, rfl⟩

/-! ### PAGE_PORTS (R48, R49) -/

/-- A word of a page's header is not one of the queue state table's, so its errors go to its own page. -/
theorem errPage_of_isHdr {x off : Nat} (h : isHdr x off = true) : errPage off = pageOf off ∧ off = pageOf off + x := by
  unfold isHdr at h
  unfold errPage
  have hpage := Nat.div_add_mod off 0x1000
  split at h
  · simp at h
  · simp at h
  · simp at h
  · next y h23 h31 hy =>
    refine ⟨?_, ?_⟩
    · split
      · next g hg => exact absurd (hy.symm.trans hg) (by simpa using h23 g)
      · rfl
    · simp only [beq_iff_eq] at h
      unfold pageOf
      omega

/-- An error at a control word of a page's header leaves the word and counts in the page's ERR_COUNT (R54). -/
theorem Device.err_hdr (d : Device) {x off : Nat} (h : isHdr x off = true) (hx : x < 0x30) (hx20 : x ≠ 0x20) (code : Nat) (lo hi : Word) :
    (d.err (errPage off) code lo hi).reg off = d.reg off ∧
      (d.err (errPage off) code lo hi).reg (pageOf off + 0x34) = satAdd (d.reg (pageOf off + 0x34)) 1 := by
  obtain ⟨he, ho⟩ := errPage_of_isHdr h
  have hpg := pageOf_mod off
  rw [he]
  refine ⟨d.err_reg _ code lo hi _ (notMem_faultRegs (by omega) (by omega)) ?_,
    d.err_count _ code lo hi (notMem_faultRegs (by omega) (by omega))⟩
  simp only [List.mem_cons, List.not_mem_nil, or_false, not_or]
  omega

theorem portCode_eq_zero {p : Port} (h : portCode p = 0) : p = .mgmt := by
  cases p <;> simp_all [portCode]

/-- A narrowing of an unlocked PAGE_PORTS leaves the AND of the masks and the LOCK given (R49). -/
theorem Device.narrow_unlocked (d : Device) {off : Nat} (h : isHdr 0xC off = true) (hl : d.rf off 31 1 = 0) (mask lock : Nat) (v : Word)
    (widen : Bool) :
    (d.narrow (pageOf off) mask lock v widen).2.reg off = setFld (setFld (d.reg off) 0 7 (mask &&& d.rf off 0 7)) 31 1 lock := by
  obtain ⟨-, ho⟩ := errPage_of_isHdr h
  unfold Device.narrow
  simp only [← ho, hl, Nat.zero_ne_one, if_false]
  split
  · rw [Device.errValue, (Device.err_hdr _ h (by omega) (by omega) _ _ _).1]
    simp
  · simp

theorem Device.narrow_locked (d : Device) {off : Nat} (h : isHdr 0xC off = true) (hl : d.rf off 31 1 = 1) (mask lock : Nat) (v : Word)
    (widen : Bool) : (d.narrow (pageOf off) mask lock v widen).2 = d.errValue 0x0005 .mgmt off v := by
  obtain ⟨-, ho⟩ := errPage_of_isHdr h
  unfold Device.narrow
  rw [← ho, if_pos hl]

/-- Settles O9: an unlocked MGMT write narrows, every other write is an error of the page. -/
theorem masksOnlyNarrow : Obligations.MasksOnlyNarrow := by
  unfold Obligations.MasksOnlyNarrow
  intro s a off hw hh
  have hcount : pageOf off + 0x34 = off + 0x28 := by
    obtain ⟨-, ho⟩ := errPage_of_isHdr hh
    omega
  have hrun : pagePortsWrite a s.dev = (s.dev.at a.t).portsWrite a.port (pageOf off) a.data := Device.writeOf_of_writes hw hh
  refine ⟨fun hp hl => ⟨_, rfl, ?_⟩, fun hp hl => ⟨_, rfl, ?_⟩, fun hp => ⟨_, rfl, ?_⟩⟩
  · have hreg := (s.dev.at a.t).narrow_unlocked hh hl (fld a.data 0 7) (fld a.data 31 1) a.data true
    have hmask := Nat.and_lt_two_pow (fld a.data 0 7) (fld_lt (s.dev.reg off) 0 7)
    simp only [hrun, Device.portsWrite, hp, portCode, ne_eq, not_true_eq_false, if_false, Device.rf, hreg]
    refine ⟨?_, ?_, rfl, rfl⟩
    · rw [fld_setFld_beside _ _ (by omega) (by omega), fld_setFld _ _ (by omega)]
      exact Nat.mod_eq_of_lt hmask
    · rw [fld_setFld _ _ (by omega)]
      exact Nat.mod_eq_of_lt (fld_lt _ _ _)
  · have herr := (s.dev.at a.t).err_hdr hh (by omega) (by omega) 0x0005 (accessInfo .mgmt off true) a.data
    rw [hcount] at herr
    simp only [hrun, Device.portsWrite, hp, portCode, ne_eq, not_true_eq_false, if_false, (s.dev.at a.t).narrow_locked hh hl]
    exact ⟨herr.1, herr.2, rfl, rfl⟩
  · have herr := (s.dev.at a.t).err_hdr hh (by omega) (by omega) 0x0001 (accessInfo a.port off true) (wd (portTenant a.port))
    obtain ⟨-, ho⟩ := errPage_of_isHdr hh
    rw [hcount] at herr
    simp only [hrun, Device.portsWrite, if_pos fun h => hp (portCode_eq_zero h), ← ho]
    exact ⟨herr.1, herr.2, rfl, rfl⟩

end Sys2Proof.Machine
end

section
/-! PROOFS. Event enables and routes, first-error and PGD records, cleared counts; O10 (R52 to R54, R64). -/
namespace Sys2Proof.Machine

/-- A register written changes no other. -/
theorem keepsRegs_setReg (s : State) (t off : Nat) (v : Word) :
    KeepsRegs s { s with dev := (s.dev.at t).setReg off v } [off] := fun o ho => by
  simp [List.mem_singleton.not.1 ho]

/-! ### EVT_ENABLE (R52) -/

theorem Device.routeFn_congr {d e : Device} (pg : Nat) (h : e.reg (pg + 0x2C) = d.reg (pg + 0x2C)) : e.routeFn pg = d.routeFn pg := by
  simp only [Device.routeFn, Device.rf, h]

/-- A due message of a function that may send it, not masked, is sent (R322). -/
theorem Device.msix_sends {d : Device} {f v : Nat} (hen : (d.fn f).msixEn = true) (hreq : d.mayRequest f = true)
    (hf : (d.fn f).fmask = false) (hv : (d.vec f v).mask = false) : d.msix f v = d.emit (.msix f v) := by
  simp only [Device.mayRequest, Bool.and_eq_true, Bool.not_eq_true'] at hreq
  obtain ⟨⟨hbme, hd3⟩, hflr⟩ := hreq
  simp [Device.msix, hen, hf, hv, hbme, hd3, hflr]

/-- A page routed to MSI-X alone sends its message and nothing else (R52, R53). -/
theorem Device.evtSend_msix (d : Device) {pg : Nat} (h : fld (d.reg (pg + 0x2C)) 30 2 = 1) :
    d.evtSend pg = d.msix (d.routeFn pg) (fld (d.reg (pg + 0x2C)) 0 12) := by
  have h30 : fld (d.reg (pg + 0x2C)) 30 1 = 1 := by
    unfold fld at h ⊢
    omega
  have h31 : fld (d.reg (pg + 0x2C)) 31 1 ≠ 1 := by
    unfold fld at h ⊢
    omega
  simp only [Device.evtSend, h30, h31, false_and, if_true, if_false]

/-- What EVT_PENDING reads after a write of EVT_ENABLE. -/
theorem Device.evtPending_setEnable (d : Device) (pg : Nat) (v : Word) :
    (d.setReg (pg + 0x24) v).evtPending pg = d.reg (pg + 0x20) &&& v := by
  simp [Device.evtPending]

/-- A write of EVT_ENABLE that raises no bit of EVT_PENDING sends nothing. -/
theorem Device.enableWrite_silent (d : Device) {pg : Nat} {v : Word} (h : d.reg (pg + 0x20) &&& v &&& ~~~(d.evtPending pg) = 0) :
    d.enableWrite pg v = d.setReg (pg + 0x24) v := by
  rw [Device.enableWrite, Device.evtRise, Device.evtPending_setEnable, if_neg (not_not.2 h)]

/-- A write of EVT_ENABLE that raises a bit of EVT_PENDING sends the message of a page routed to MSI-X alone. -/
theorem Device.enableWrite_sends (d : Device) {pg : Nat} {v : Word} (h : d.reg (pg + 0x20) &&& v &&& ~~~(d.evtPending pg) ≠ 0)
    (hroute : fld (d.reg (pg + 0x2C)) 30 2 = 1) (hen : (d.fn (d.routeFn pg)).msixEn = true) (hreq : d.mayRequest (d.routeFn pg) = true)
    (hfm : (d.fn (d.routeFn pg)).fmask = false) (hmask : (d.vec (d.routeFn pg) (fld (d.reg (pg + 0x2C)) 0 12)).mask = false) :
    d.enableWrite pg v = (d.setReg (pg + 0x24) v).emit (.msix (d.routeFn pg) (fld (d.reg (pg + 0x2C)) 0 12)) := by
  have hreg : (d.setReg (pg + 0x24) v).reg (pg + 0x2C) = d.reg (pg + 0x2C) := by simp
  rw [Device.enableWrite, Device.evtRise, Device.evtPending_setEnable, if_pos h, Device.evtSend_msix _ (by rwa [hreg]), hreg,
    Device.routeFn_congr pg hreg]
  exact Device.msix_sends hen hreq hfm hmask

/-! ### EVT_ROUTE (R53) -/

/-- A route to FUNC 3 is refused with RANGE. -/
theorem Device.routeWrite_func3 (d : Device) {p : Port} (pg : Nat) {v : Word} (hf : fld v 12 2 = 3) (hp : portCode p ≠ 2) :
    d.routeWrite p pg v = d.errValue 0x0003 p (pg + 0x2C) v := by
  simp [Device.routeWrite, hf, hp, routeSize]

/-- A route to PF0 with a vector of its table is taken. -/
theorem Device.routeWrite_pf0 (d : Device) {p : Port} (pg : Nat) {v : Word} (hf : fld v 12 2 = 0) (hv : fld v 0 12 < 2048)
    (hp : portCode p ≠ 2) : d.routeWrite p pg v = d.setReg (pg + 0x2C) (v &&& 0xC03F3FFF#32) := by
  simp [Device.routeWrite, hf, hp, routeSize, msixSize, hv]

/-! ### Clears (R54, R64, R127) -/

theorem Device.clearErr_reg (d : Device) (pg o : Nat) :
    (d.clearErr pg).reg o = if o ∈ [pg + 0x30, pg + 0x34, pg + 0x38, pg + 0x3C] then 0 else d.reg o := by
  have hreg : ∀ (b : Prop) [Decidable b] (e : Device), (if b then { e with hbmUe := false } else e).reg o = e.reg o := by
    intro b _ e
    split <;> rfl
  rw [Device.clearErr, hreg]
  simp only [Device.reg_setReg, List.mem_cons, List.not_mem_nil, or_false]
  grind

/-- Zeroed registers read their reset values, and every other register is unchanged. -/
theorem Device.zeroRegs_reg (d : Device) (l : List Nat) (o : Nat) : (d.zeroRegs l).reg o = if o ∈ l then resetOf o else d.reg o := by
  induction l generalizing d with
  | nil => simp [Device.zeroRegs]
  | cons x l ih =>
    rw [Device.zeroRegs, ih, Device.reg_setReg]
    by_cases hl : o ∈ l
    · simp [hl]
    · by_cases hx : o = x <;> simp [hl, hx]

/-- Zeroing registers changes nothing but registers. -/
theorem Device.zeroRegs_frame (d : Device) (l : List Nat) : { d.zeroRegs l with regs := d.regs } = d := by
  induction l generalizing d with
  | nil => rfl
  | cons x l ih =>
    have := ih (d.setReg x (resetOf x))
    exact congrArg (fun e : Device => { e with regs := d.regs }) this

/-- The four words of a PGD record are 0 at reset. -/
theorem resetOf_pgd {o : Nat} (h : pgdSrc o = true) : 8 ≤ o ∧ ∀ x ∈ [o - 8, o - 4, o, o + 4], resetOf x = 0 := by
  simp only [pgdSrc, Bool.or_eq_true, beq_iff_eq] at h
  rcases h with (rfl | rfl) | rfl <;> decide +kernel

/-- CLEAR_COUNTS of a page brings each of its counters to its reset value. -/
theorem Device.ctrlWrite_clears (d : Device) {pg n i : Nat} {v : Word} (hb : blockAt pg = some (n, i)) (hv : fld v 0 1 = 1) {o : Nat}
    (ho : o ∈ countersOf n i) : (d.ctrlWrite pg v).reg o = resetOf o := by
  simp only [Device.ctrlWrite, hb, hv, if_true, Device.clearPage]
  rw [Device.zeroRegs_reg, if_pos ho]

/-! ### O10 -/

/-- Settles O10: each write of the header is the effect that its row names, on the page of the word written. -/
theorem eventsEnableRouteAndClear : Obligations.EventsEnableRouteAndClear := by
  unfold Obligations.EventsEnableRouteAndClear
  intro s a pg _
  refine ⟨fun hw hh hp => ⟨fun hrise => ⟨_, rfl, ?_⟩, fun hrise hroute hen hreq hfm hmask => ⟨_, rfl, ?_⟩⟩,
    fun hw hh hp => ⟨fun hf hport => ⟨_, rfl, ?_⟩, fun hf hv hport => ⟨_, rfl, ?_⟩⟩,
    fun hw hh hp hv => ⟨_, rfl, ?_⟩, fun o ho hw hv => ⟨_, rfl, ?_⟩, fun n i hw hh hp hb hv => ⟨_, rfl, ?_⟩⟩
  · rw [show evtEnableWrite a s.dev = _ from Device.writeOf_of_writes hw hh, hp, (s.dev.at a.t).enableWrite_silent hrise]
    exact ⟨by simp, rfl, rfl, keepsRegs_setReg s _ _ _, rfl, rfl⟩
  · rw [show evtEnableWrite a s.dev = _ from Device.writeOf_of_writes hw hh, hp,
      (s.dev.at a.t).enableWrite_sends hrise hroute hen hreq hfm hmask]
    exact ⟨by simp, rfl, keepsRegs_setReg s _ _ _, rfl, rfl⟩
  · have herr := (s.dev.at a.t).err_hdr hh (by omega) (by omega) 0x0003 (accessInfo a.port (pg + 0x2C) true) a.data
    rw [show evtRouteWrite a s.dev = _ from Device.writeOf_of_writes hw hh, hp, Device.routeWrite_func3 _ pg hf hport]
    exact ⟨herr.1, rfl, rfl⟩
  · rw [show evtRouteWrite a s.dev = _ from Device.writeOf_of_writes hw hh, hp, Device.routeWrite_pf0 _ pg hf hv hport]
    exact ⟨by simp, keepsRegs_setReg s _ _ _, rfl, rfl⟩
  · have hrun : errFirstClear a s.dev = (s.dev.at a.t).clearErr pg := by
      rw [errFirstClear, if_pos hv, Device.writeOf_of_writes hw hh, hp]
    rw [hrun]
    refine ⟨?_, ?_, ?_, ?_, fun o ho => (Device.clearErr_reg _ pg o).trans (if_neg ho), rfl, rfl⟩ <;> simp [Device.clearErr_reg]
  · obtain ⟨h8, hreset⟩ := resetOf_pgd ho
    have hrun : pgdRecordClear a s.dev = (s.dev.at a.t).zeroRegs [o - 8, o - 4, o, o + 4] := by
      rw [pgdRecordClear, if_pos hv, Device.writeOf_of_writes hw ho, Device.clearPgd, show o - 8 + 4 = o - 4 by omega,
        show o - 8 + 8 = o by omega, show o - 8 + 0xC = o + 4 by omega]
    have hreg := Device.zeroRegs_reg (s.dev.at a.t) [o - 8, o - 4, o, o + 4]
    have hzero : ∀ x ∈ [o - 8, o - 4, o, o + 4], ((s.dev.at a.t).zeroRegs [o - 8, o - 4, o, o + 4]).reg x = 0 := fun x hx => by
      rw [hreg, if_pos hx, hreset x hx]
    rw [hrun]
    refine ⟨hzero _ (by simp), hzero _ (by simp), hzero _ (by simp), hzero _ (by simp), fun x hx => (hreg x).trans (if_neg hx), ?_,
      rfl, rfl⟩
    exact congrArg (fun e : Device => { e with now := s.dev.now }) (Device.zeroRegs_frame (s.dev.at a.t) [o - 8, o - 4, o, o + 4])
  · have hrun : clearCounts a s.dev = (s.dev.at a.t).ctrlWrite pg a.data := by
      rw [clearCounts, Device.writeOf_of_writes hw (by rw [hh, Bool.true_or]), if_pos hh, hp]
    rw [hrun]
    exact ⟨fun o ho => Device.ctrlWrite_clears _ hb hv ho, rfl, rfl⟩

end Sys2Proof.Machine
end

section
/-! PROOFS. What the Plumb unit's shared operations leave alone: predictions, placements, due entries and counts (R73, R79 to R91). -/
namespace Sys2Proof.Machine

theorem Device.Speaks.plb_eq {d e : Device} (h : d.Speaks e) : e.plb = d.plb := by
  have := congrArg Device.plb h
  exact this

/-! ### Channels and inputs -/

@[simp] theorem Device.ch_setCh (d : Device) (c k : Nat) (x : Chan) : (d.setCh c x).ch k = if k = c then x else d.ch k := by
  unfold Device.ch Device.setCh
  exact Store.get_set d.plb.chans c k x

@[simp] theorem Device.at_ch (d : Device) (t c : Nat) : (d.at t).ch c = d.ch c := rfl

@[simp] theorem Device.refIn_setIn (d : Device) (i k : Nat) (x : RefIn) : (d.setIn i x).refIn k = if k = i then x else d.refIn k := by
  unfold Device.refIn Device.setIn
  exact Store.get_set d.plb.ins i k x

/-! ### What scheduling position events may change (R86, R91) -/

/-- What happens when entries are predicted, placed and fall due: beside the entries, their pulses and registers, the device changes only
what it changes when it speaks up. -/
def Device.Schedules (d e : Device) : Prop :=
  d.Speaks { e with plb := { e.plb with entries := d.plb.entries, pulses := d.plb.pulses } }

theorem Device.Schedules.refl (d : Device) : d.Schedules d := rfl

theorem Device.Schedules.trans {d e f : Device} (h : d.Schedules e) (g : e.Schedules f) : d.Schedules f := by
  have := congrArg (fun x : Device => { x with
    regs := d.regs
    hif := { x.hif with vecs := d.hif.vecs }
    out := d.out
    arriving := d.arriving
    fltLog := d.fltLog
    ladderTick := d.ladderTick
    plb := { x.plb with entries := d.plb.entries, pulses := d.plb.pulses } }) g
  exact this.trans h

theorem Device.Speaks.schedules {d e : Device} (h : d.Speaks e) : d.Schedules e := by
  unfold Device.Schedules
  rw [← h.plb_eq]
  exact h

theorem Device.Schedules.chans_eq {d e : Device} (h : d.Schedules e) : e.plb.chans = d.plb.chans := by
  have := congrArg (fun x : Device => x.plb.chans) h
  exact this

theorem Device.Schedules.ch_eq {d e : Device} (h : d.Schedules e) (c : Nat) : e.ch c = d.ch c := by
  rw [Device.ch, h.chans_eq, Device.ch]

theorem Device.Schedules.owed_eq {d e : Device} (h : d.Schedules e) : e.plb.owed = d.plb.owed := by
  have := congrArg (fun x : Device => x.plb.owed) h
  exact this

/-- A channel set on both sides leaves the rest as it was. -/
theorem Device.Schedules.setCh {d e : Device} (h : d.Schedules e) (c : Nat) (x : Chan) : (d.setCh c x).Schedules (e.setCh c x) := by
  have := congrArg (fun d : Device => d.setCh c x) h
  exact this

/-- What holds of one step of a fold holds of the fold: scheduling, entry by entry, is scheduling. -/
theorem Device.schedules_foldl {α : Type} {k : Device → α → Device} (h : ∀ (d : Device) (a : α), d.Schedules (k d a)) (l : List α)
    (d : Device) : d.Schedules (l.foldl k d) := by
  induction l generalizing d with
  | nil => exact .refl d
  | cons a l ih => exact (h d a).trans (ih _)

theorem Device.schedules_setReg (d : Device) (o : Nat) (v : Word) : d.Schedules (d.setReg o v) := rfl

theorem Device.setPulses_schedules (d : Device) (l : List Pulse) : d.Schedules (d.setPulses l) := rfl

theorem Device.placeEntry_schedules (d : Device) (e : EvEntry) (base : Nat) (offs : Bool) : d.Schedules (d.placeEntry e base offs) := rfl

theorem Device.setEntry_schedules (d : Device) (e : EvEntry) : d.Schedules (d.setEntry e) := rfl

theorem Device.repredict_schedules (d : Device) (e : EvEntry) : d.Schedules (d.repredict e) := by
  unfold Device.repredict
  dsimp only
  split <;> rfl

theorem Device.repredictCh_schedules (d : Device) (c : Nat) : d.Schedules (d.repredictCh c) :=
  Device.schedules_foldl Device.repredict_schedules _ d

/-- What holds once an entry is marked due, and still holds after any register, pulse or event bit is set, holds when it has fallen due. -/
theorem Device.fallDue_preserves {P : Device → Prop} {d : Device} {e : EvEntry} {due : Due}
    (hmark : P (d.setEntry { e with due := some due }))
    (hreg : ∀ x o v, P x → P (x.setReg o v)) (hpulses : ∀ x l, P x → P (x.setPulses l))
    (hevt : ∀ x pg i, P x → P (x.evtBit pg i)) : P (d.fallDue e due) := by
  unfold Device.fallDue
  extract_lets d1 d2 d3 d4
  have h2 : P d2 := by
    dsimp only [d2]
    split
    · exact hpulses _ _ (hreg _ _ _ hmark)
    · split
      · exact hpulses _ _ hmark
      · exact hmark
  have h3 : P d3 := hpulses _ _ (hreg _ _ _ h2)
  have h4 : P d4 := by
    dsimp only [d4]
    split
    · split
      · exact hevt _ _ _ (hreg _ _ _ h3)
      · exact h3
    · exact h2
  exact hpulses _ _ h4

theorem Device.fallDue_schedules (d : Device) (e : EvEntry) (due : Due) : d.Schedules (d.fallDue e due) :=
  Device.fallDue_preserves (d.setEntry_schedules _) (fun x _ _ h => h.trans (x.schedules_setReg _ _))
    (fun x _ h => h.trans (x.setPulses_schedules _)) fun x _ _ h => h.trans (x.evtBit_speaks _ _).schedules

/-- A due mark without PAST and JUMPED changes no register. -/
theorem Device.fallDue_regs (d : Device) (e : EvEntry) {due : Due} (hp : due.past = false) (hj : due.jumped = false) :
    (d.fallDue e due).regs = d.regs := by
  simp only [Device.fallDue, hp, hj, Bool.false_eq_true, if_false]
  split <;> rfl

theorem Device.duePredicted_schedules (d : Device) (c : Nat) (p : Nat → Bool) : d.Schedules (d.duePredicted c p) :=
  Device.schedules_foldl (fun d e => d.fallDue_schedules e _) _ d

theorem Device.dueReached_schedules (d : Device) (c : Nat) (u : Int) (due : Due) : d.Schedules (d.dueReached c u due) :=
  Device.schedules_foldl (fun d e => d.fallDue_schedules e _) _ d

/-- Entries that fall due by prediction change no register. -/
theorem Device.duePredicted_regs (d : Device) (c : Nat) (p : Nat → Bool) : (d.duePredicted c p).regs = d.regs := by
  unfold Device.duePredicted
  exact List.foldlRecOn _ _ (motive := fun e : Device => e.regs = d.regs) rfl fun e he x _ => (e.fallDue_regs x rfl rfl).trans he

/-! ### Counts (R73, R77, R80) -/

/-- `k` counts of one stamp at a channel that is not COASTING move its position and remainder; beside the channel, entries fall due and are
predicted again, and the mains subdivider stays. -/
theorem Device.onCounts_moves (d : Device) {c : Nat} (k : Int) (stamp : Nat) (he : d.chEnabled c = true) (hst : (d.ch c).st ≠ .coasting) :
    ∃ x : Chan, (d.setCh c x).Schedules (d.onCounts c k stamp) ∧ x.tEdge = stamp ∧ x.mains = (d.ch c).mains ∧
      (x.u, x.rem) = applyCounts (d.chNum c) (d.chDen c) (d.ch c).u (d.ch c).rem k := by
  have hland : ∀ (e : Device) (b : Prop) [Decidable b] (u : Int) (due : Due),
      e.Schedules (((if b then e.evtBit (chPage c) 17 else e).dueReached c u due).repredictCh c) := by
    intro e b _ u due
    refine Device.Schedules.trans (Device.Schedules.trans ?_ (Device.dueReached_schedules _ c u due)) (Device.repredictCh_schedules _ c)
    split
    · exact (Device.evtBit_speaks _ _ _).schedules
    · exact .refl _
  unfold Device.onCounts
  simp only [he, Bool.not_true, Bool.false_eq_true, if_false]
  exact ⟨_, ((d.duePredicted_schedules c _).setCh c _).trans (hland _ _ _ _), rfl, rfl, rfl⟩

/-- Counts at a channel leave its mains subdivider and the counts owed. -/
theorem Device.onCounts_keeps (d : Device) (c : Nat) (k : Int) (stamp : Nat) :
    ((d.onCounts c k stamp).ch c).mains = (d.ch c).mains ∧ (d.onCounts c k stamp).plb.owed = d.plb.owed := by
  by_cases he : d.chEnabled c = true
  · by_cases hst : (d.ch c).st = .coasting
    · unfold Device.onCounts
      simp only [he, hst, Bool.not_true, Bool.false_eq_true, if_false]
      exact ⟨by simp, rfl⟩
    · obtain ⟨x, hx, -, hm, -⟩ := d.onCounts_moves k stamp he hst
      rw [hx.ch_eq, hx.owed_eq]
      exact ⟨by simp [hm], rfl⟩
  · unfold Device.onCounts
    simp [he]

/-- A zero-cross becomes the last of its subdivider, and the counts owed stay (R80). -/
theorem Device.zeroCross_last (d : Device) (c e : Nat) :
    ((d.zeroCross c e).ch c).mains.last = some e ∧ (d.zeroCross c e).plb.owed = d.plb.owed := by
  unfold Device.zeroCross
  extract_lets m owed m1 bad vel stalled x d1 d2 st y d3 d4
  have hlast : m1.last = some e := by
    dsimp only [m1]
    split
    · rfl
    · split <;> rfl
  have h1 : (d1.ch c).mains = m1 ∧ d1.plb.owed = d.plb.owed := ⟨by simp [d1], rfl⟩
  have h2 : (d2.ch c).mains = m1 ∧ d2.plb.owed = d.plb.owed := by
    dsimp only [d2]
    split
    · exact h1
    · obtain ⟨hm, ho⟩ := d1.onCounts_keeps c owed e
      exact ⟨hm.trans h1.1, ho.trans h1.2⟩
  have h3 : (d3.ch c).mains = m1 ∧ d3.plb.owed = d.plb.owed := ⟨by simp [d3, y, h2.1], h2.2⟩
  have h4 : d3.Schedules d4 := by
    dsimp only [d4]
    split
    · exact (Device.evtBit_speaks _ _ _).schedules
    · exact .refl _
  have h5 := h4.trans (d4.repredictCh_schedules c)
  rw [h5.ch_eq, h5.owed_eq, h3.1]
  exact ⟨hlast, h3.2⟩

end Sys2Proof.Machine
end

section
/-! PROOFS. Reference inputs, owed counts and the mains subdivider; O11 (R69, R73, R80). -/
namespace Sys2Proof.Machine

/-! ### Registers and inputs -/

@[simp] theorem Device.setIn_reg (d : Device) (i : Nat) (x : RefIn) (o : Nat) : (d.setIn i x).reg o = d.reg o := rfl
@[simp] theorem Device.owe_reg (d : Device) (i : Nat) (dir : Int) (t : Nat) (z : Bool) (o : Nat) : (d.owe i dir t z).reg o = d.reg o := rfl
@[simp] theorem Device.owe_refIn (d : Device) (i : Nat) (dir : Int) (t : Nat) (z : Bool) (j : Nat) :
    (d.owe i dir t z).refIn j = d.refIn j := rfl
@[simp] theorem Device.countEdge_refIn (d : Device) (i j : Nat) : (d.countEdge i).refIn j = d.refIn j := rfl

@[simp] theorem Device.countEdge_reg (d : Device) (i o : Nat) :
    (d.countEdge i).reg o = if o = R.plb_REF_EDGES i then d.reg (R.plb_REF_EDGES i) + 1 else d.reg o := by
  rw [Device.countEdge, Device.reg_setReg]

/-! ### Level changes of an input (R69) -/

/-- One level change alone in its tick is accepted as it is: there is no second input to make a quadrature pair illegal. -/
theorem refEdge_single (d : Device) {i : Fin 8} {l : Bool} (n k : Nat) (h : (d.refIn i).level ≠ l) :
    refEdge [(i, l)] [n] k d = (d.at k).levelChange i l (min n k) false := by
  have hreal : decide (((d.at k).refIn i).level ≠ l) = true := decide_eq_true h
  have hboth : ∀ a : Nat,
      (decide (i.val = a) && decide (i.val = a + 1) && (d.at k).refKind a == 1 && (d.at k).refKind (a + 1) == 2) = false := fun a => by
    by_cases ha : i.val = a <;> simp [ha]
  unfold refEdge
  simp only [List.zip_cons_cons, List.zip_nil_right, List.filter_cons, hreal, if_true, List.filter_nil, List.any_cons, List.any_nil,
    Bool.or_false, List.foldl_cons, List.foldl_nil, hboth, Bool.and_false, Bool.false_eq_true, if_false]

/-- A rising edge of a PULSE input is counted and owed to the channels that count the input. -/
theorem Device.levelChange_pulse (d : Device) {i : Nat} {l : Bool} (stamp : Nat) (illegal : Bool) (hk : d.refKind i = 4)
    (hl : l ≠ (d.rf (R.plb_REF_CFG i) 5 1 == 1)) :
    d.levelChange i l stamp illegal =
      ((d.setIn i { d.refIn i with level := l, lastEdge := some stamp }).countEdge i).owe i 1 stamp false := by
  have hrise : ∀ x : RefIn, x.level = l → (d.setIn i x).effLevel i = true := fun x hx => by
    simpa [Device.effLevel, hx] using hl
  have hkind : ∀ x : RefIn, (d.setIn i x).refKind i = 4 := fun _ => hk
  unfold Device.levelChange
  simp only [hk, hkind, hrise, if_true]
  rfl

theorem plb_REF_EDGES_ne_SRC (i : Fin 8) (c : Nat) : R.plb_SRC c ≠ R.plb_REF_EDGES i := by
  have := i.isLt
  unfold R.plb_SRC R.plb_REF_EDGES
  omega

/-- Counting an edge changes no channel's source. -/
theorem Device.countsInput_countEdge (d : Device) (i : Fin 8) (c j : Nat) : (d.countEdge i).countsInput c j = d.countsInput c j := by
  have hsrc : (d.countEdge i).reg (R.plb_SRC c) = d.reg (R.plb_SRC c) := by
    rw [Device.countEdge_reg, if_neg (plb_REF_EDGES_ne_SRC i c)]
  unfold Device.countsInput Device.chEnabled Device.srcKind Device.srcInput Device.rf
  rw [hsrc]

/-! ### Counts that reach their channel (R73, R80) -/

/-- What resumes with a channel resumes only when it leaves STALLED. -/
theorem Device.withResume_running (d : Device) {c : Nat} (h : (d.ch c).st ≠ .stalled) (f : Device → Device) :
    d.withResume c f = f d := by
  simp [Device.withResume, h]

/-- A spread count that is due is emitted (R80). -/
theorem Device.mainsTick_emits {d : Device} {c e p : Nat} (hm : d.isMains c = true) (hlock : (d.ch c).mains.lock = true)
    (hlast : (d.ch c).mains.last = some e) (hp : (d.ch c).mains.periods.head? = some p) (hlt : (d.ch c).mains.emitted < 65536)
    (hdue : e + ((d.ch c).mains.emitted + 1) * p / 65536 ≤ d.now.tick) :
    ((d.mainsTick c).ch c).mains.emitted = (d.ch c).mains.emitted + 1 := by
  unfold Device.mainsTick
  simp only [hlast, hp, hm, hlock, hlt, hdue, decide_true, Bool.and_self, if_true]
  rw [(Device.onCounts_keeps _ _ _ _).1]
  simp

/-! ### O11 -/

/-- Settles O11: an edge is owed, an owed count moves its channel, and the subdivider keeps its zero-crosses and emits its counts. -/
theorem referenceInputsAreCounted : Obligations.ReferenceInputsAreCounted := by
  unfold Obligations.ReferenceInputsAreCounted
  refine ⟨fun s i l n k hkind hlevel hrise => ⟨_, rfl, ?_⟩, fun s c k o r hfree hen htake hst => ⟨_, rfl, ?_⟩,
    fun s c k o r hen hst htake => ⟨_, rfl, ?_⟩, fun s c k e p hm hst hlock hlast hp hlt hdue => ⟨_, rfl, ?_⟩⟩
  · have hrun : refEdge [(i, l)] [n] k s.dev = _ := (refEdge_single s.dev n k hlevel).trans
      ((s.dev.at k).levelChange_pulse (min n k) false hkind hrise)
    rw [hrun]
    refine ⟨by simp, by simp, by simp, ?_, fun o ho => ?_, rfl, rfl⟩
    · simp only [Device.owe, Device.countsInput_countEdge]
      rfl
    · simp [List.mem_singleton.not.1 ho]
  · have hne : ∀ st : ChState, st = .stalled ∨ st = .coasting → (s.dev.ch c).st ≠ st := by
      rintro st (rfl | rfl) <;> rcases hst with h | h <;> simp [h]
    have hrun : channelCount c k s.dev = ((s.dev.at k).setOwed r).onCounts c o.dir o.stamp := by
      simp only [channelCount, show (s.dev.at k).freeRunning c = false from hfree, Bool.false_eq_true, if_false,
        show takeOwed c false (s.dev.at k).plb.owed = some (o, r) from htake]
      exact Device.withResume_running ((s.dev.at k).setOwed r) (hne _ (.inl rfl)) _
    obtain ⟨x, hx, htick, -, hpos⟩ := ((s.dev.at k).setOwed r).onCounts_moves o.dir o.stamp hen (hne _ (.inr rfl))
    have hch := hx.ch_eq c
    rw [Device.ch_setCh, if_pos rfl] at hch
    rw [hrun]
    dsimp only
    rw [hch]
    exact ⟨hx.owed_eq, htick, hpos, rfl, rfl⟩
  · have hrun : mainsZeroCross c k s.dev = ((s.dev.at k).setOwed r).zeroCross c o.stamp := by
      simp only [mainsZeroCross, show takeOwed c true (s.dev.at k).plb.owed = some (o, r) from htake,
        show (s.dev.at k).chEnabled c = true from hen, if_true]
      exact Device.withResume_running ((s.dev.at k).setOwed r) hst _
    rw [hrun]
    obtain ⟨hlast, howed⟩ := ((s.dev.at k).setOwed r).zeroCross_last c o.stamp
    exact ⟨howed, hlast, rfl, rfl⟩
  · have hrun : mainsCountTick c k s.dev = (s.dev.at k).mainsTick c := (s.dev.at k).withResume_running hst _
    rw [hrun]
    exact ⟨Device.mainsTick_emits hm hlock hlast hp hlt (hdue.trans (Nat.le_max_right _ _)), rfl, rfl⟩

end Sys2Proof.Machine
end

section
/-! PROOFS. PTP_VALID, RESYNC and a stall; O12 (R81 to R83). -/
namespace Sys2Proof.Machine

/-! ### PTP_VALID (R81) -/

/-- Where no enabled channel follows PTP, a write of PTP_CTRL sets the PTP_VALID bits and does nothing else. -/
theorem ptpWrite_unfollowed (v : Word) (d : Device) (h : ∀ c < 8, d.srcKind c = 2 → d.chEnabled c = false) :
    ptpWrite v d = d.setF R.plb_PTP_CTRL 0 2 (fld v 0 2) := by
  have hnone : ∀ k : Nat, ((List.range 8).filter fun c => d.chEnabled c && d.srcKind c == 2 && d.srcPort c == k) = [] := by
    intro k
    refine List.filter_eq_nil_iff.2 fun c hc => ?_
    by_cases h2 : d.srcKind c = 2
    · simp [h c (List.mem_range.1 hc) h2]
    · simp [h2]
  unfold ptpWrite
  simp only [hnone, List.append_nil, List.foldl_nil, ite_self, List.foldl_cons]

/-! ### RESYNC (R82, R89) -/

theorem Device.freeRunning_congr {d e : Device} (c : Nat) (h : e.regs = d.regs) : e.freeRunning c = d.freeRunning c := by
  unfold Device.freeRunning Device.srcKind Device.rf Device.reg
  rw [h]

/-- A jump of a channel that counts edges: due entries are marked before and after `f` moves the channel. -/
theorem Device.jump_ref (d : Device) {c : Nat} (h : d.freeRunning c = false) (f : Device → Device) :
    ∃ e : Device, d.Schedules e ∧ e.regs = d.regs ∧ (f e).Schedules (d.jump c f) := by
  have hregs := d.duePredicted_regs c (· ≤ d.now.tick)
  have hfree := (Device.freeRunning_congr c hregs).trans h
  refine ⟨_, d.duePredicted_schedules c (· ≤ d.now.tick), hregs, ?_⟩
  unfold Device.jump Device.syncCh
  simp only [hfree, Bool.not_false, Bool.or_true, if_true]
  refine Device.Schedules.trans ?_ (Device.repredictCh_schedules _ c)
  split
  · exact Device.dueReached_schedules _ _ _ _
  · exact .refl _

/-- RESYNC of a COASTING channel that counts edges: the channel stands at the followed position and is ACQUIRING. -/
theorem Device.resync_ref (d : Device) {c : Nat} (hst : (d.ch c).st = .coasting) (hen : d.chEnabled c = true) (hsrc : d.srcKind c = 1) :
    ((d.resync c).ch c).u = (d.ch c).followU ∧ ((d.resync c).ch c).vel = 0 ∧ ((d.resync c).ch c).st = .acquiring := by
  have hfree : d.freeRunning c = false := by simp [Device.freeRunning, hsrc]
  unfold Device.resync
  rw [if_neg (by simp [hst, hen, hsrc])]
  obtain ⟨e, he, hregs, hj⟩ := d.jump_ref hfree fun d =>
    let x := d.ch c
    d.setCh c { x with
      u := x.followU, rem := x.followRem, vel := 0, win := [], start := d.now.tick
      st := if d.freeRunning c then .tracking else .acquiring }
  rw [hj.ch_eq]
  simp [he.ch_eq, (Device.freeRunning_congr c hregs).trans hfree]

/-! ### Stalls (R83) -/

section
variable {d : Device} {c : Nat} (h : ∀ e ∈ d.plb.entries, e.ch ≠ c)
include h

/-- Where no entry of the channel is pending, none is predicted or falls due. -/
theorem Device.duePredicted_idle (p : Nat → Bool) : d.duePredicted c p = d := by
  have hnone : (d.plb.entries.filter fun e => e.ch = c ∧ e.due = none ∧ (e.pred.map p).getD false) = [] :=
    List.filter_eq_nil_iff.2 fun e he => by simp [h e he]
  rw [Device.duePredicted, hnone, List.foldl_nil]

theorem Device.repredictCh_idle : d.repredictCh c = d := by
  have hnone : (d.plb.entries.filter fun e => e.ch = c ∧ e.due = none) = [] :=
    List.filter_eq_nil_iff.2 fun e he => by simp [h e he]
  rw [Device.repredictCh, hnone, List.foldl_nil]

/-- Where no entry of the channel is pending, no pipeline responds to its stall. -/
theorem Device.onStall_idle : d.onStall c = d := by
  have hpipe : ∀ p, d.stallPipe c p = d := by
    intro p
    unfold Device.stallPipe
    dsimp only
    rw [if_pos]
    rw [Bool.not_eq_true', List.any_eq_false]
    intro e he
    simp [h e he]
  unfold Device.onStall
  exact List.foldlRecOn _ _ (motive := fun e => e = d) rfl fun e he p _ => by rw [he, hpipe]

end

/-- A channel with no entry pending that enters STALLED freezes, counts and says so. -/
theorem Device.enterStalled_idle {d : Device} {c : Nat} (h : ∀ e ∈ d.plb.entries, e.ch ≠ c) :
    d.enterStalled c =
      ((d.setCh c { d.ch c with frozen := d.chU c, vel := 0, win := [], st := .stalled }).count (R.plb_STALL_COUNT c) 1).evtBit
        (chPage c) 16 := by
  have hfreeze : d.freeze c = d.setCh c { d.ch c with frozen := d.chU c, vel := 0, win := [], st := .stalled } :=
    Device.repredictCh_idle (d := d.setCh c _) h
  unfold Device.enterStalled
  rw [hfreeze]
  refine Device.onStall_idle ?_
  rw [(Device.evtBit_speaks _ _ _).plb_eq]
  exact h

theorem Device.chVel_stalled {d : Device} {c : Nat} (h : (d.ch c).st = .stalled) : d.chVel c = 0 := by
  simp [Device.chVel, h]

/-- The stall of a channel that has no entry pending: it is STALLED with VEL 0, and STALL_COUNT goes up. -/
theorem Device.enterStalled_status {d : Device} (c : Fin 8) (h : ∀ e ∈ d.plb.entries, e.ch ≠ c) :
    ((d.enterStalled c).ch c).st = .stalled ∧ ((d.enterStalled c).ch c).vel = 0 ∧
      (d.enterStalled c).reg (R.plb_STALL_COUNT c) = satAdd (d.reg (R.plb_STALL_COUNT c)) 1 := by
  have hc := c.isLt
  have hdrop : R.plb_STALL_COUNT c ≠ R.hif_MSIX_DROPPED := by
    unfold R.plb_STALL_COUNT R.hif_MSIX_DROPPED
    omega
  have hraw : R.plb_STALL_COUNT c ≠ chPage c + 0x20 := by
    unfold R.plb_STALL_COUNT chPage
    omega
  rw [Device.enterStalled_idle h, (Device.evtBit_speaks _ _ _).schedules.ch_eq, Device.evtBit_reg _ _ _ _ hdrop, if_neg hraw]
  have hch : ∀ (x : Chan) (v : Word), ((d.setCh c x).setReg (R.plb_STALL_COUNT c) v).ch c = x := fun x v => by
    rw [show ((d.setCh c x).setReg (R.plb_STALL_COUNT c) v).ch c = (d.setCh c x).ch c from rfl, Device.ch_setCh, if_pos rfl]
  rw [Device.count_eq, hch, Device.reg_setReg, if_pos rfl]
  exact ⟨rfl, rfl, rfl⟩

/-- STALL of a channel whose time without a count is over and that has no entry pending makes it STALLED. -/
theorem stall_idle {d : Device} {c : Fin 8} {k : Nat} (hen : d.chEnabled c = true) (hsrc : d.srcKind c = 1)
    (hn : d.rf (R.plb_STALL_TIMEOUT c) 0 24 ≠ 0)
    (hdue : max (d.ch c).tEdge (d.ch c).start + 1000 * d.rf (R.plb_STALL_TIMEOUT c) 0 24 ≤ k)
    (hst : (d.ch c).st = .acquiring ∨ (d.ch c).st = .tracking) (hcoast : (d.isPps c && d.srcCoast c) = false)
    (hidle : ∀ e ∈ d.plb.entries, e.ch ≠ c) :
    stall c k d =
      ((d.at (max (d.ch c).tEdge (d.ch c).start + 1000 * d.rf (R.plb_STALL_TIMEOUT c) 0 24)).enterStalled c).at k := by
  have hrun : ((d.ch c).st == .acquiring || (d.ch c).st == .tracking) = true := by
    rcases hst with h | h <;> simp [h]
  unfold stall
  dsimp only
  rw [if_pos (by simp [hen, hsrc, hrun, hdue, -Device.rf_eq, hn])]
  generalize max (d.ch c).tEdge (d.ch c).start + 1000 * d.rf (R.plb_STALL_TIMEOUT c) 0 24 = t
  rw [Device.duePredicted_idle (d := d.at t) hidle, show ((d.at t).isPps c && (d.at t).srcCoast c) = false from hcoast]
  rfl

/-! ### O12 -/

/-- Settles O12: unfollowed PTP_VALID is a register write, RESYNC a jump to the followed position, a stall a freeze that nothing awaits. -/
theorem channelsFollowStallAndResync : Obligations.ChannelsFollowStallAndResync := by
  unfold Obligations.ChannelsFollowStallAndResync
  refine ⟨fun s q hw hnone => ⟨_, rfl, ?_⟩, fun s c q hw hv hst hen hsrc => ⟨_, rfl, ?_⟩,
    fun s c k hen hsrc hn hdue hst hcoast hidle => ⟨_, rfl, ?_⟩⟩
  · have hrun : s.dev.writeAt q R.plb_PTP_CTRL (ptpWrite q.data) = (s.dev.at q.t).setF R.plb_PTP_CTRL 0 2 (fld q.data 0 2) :=
      (Device.writeAt_of_writes hw).trans (ptpWrite_unfollowed _ _ hnone)
    dsimp only
    rw [hrun]
    refine ⟨?_, keepsRegs_setReg s _ _ _, rfl, rfl, rfl⟩
    simp only [Device.rf_eq, Device.setF_eq, Device.reg_setReg, if_true]
    rw [fld_setFld _ _ (by omega)]
    exact Nat.mod_eq_of_lt (fld_lt _ _ _)
  · have hrun : s.dev.writeAt q (R.plb_RESYNC c) (fun d => if fld q.data 0 1 = 1 then d.resync c else d) = (s.dev.at q.t).resync c :=
      (Device.writeAt_of_writes hw).trans (if_pos hv)
    dsimp only
    rw [hrun]
    obtain ⟨h1, h2, h3⟩ := (s.dev.at q.t).resync_ref hst hen hsrc
    exact ⟨h1, h2, h3, rfl, rfl⟩
  · have hrun := stall_idle hen hsrc hn hdue hst hcoast hidle
    generalize max (s.dev.ch c).tEdge (s.dev.ch c).start + 1000 * s.dev.rf (R.plb_STALL_TIMEOUT c) 0 24 = t at hrun
    dsimp only
    rw [hrun]
    obtain ⟨h1, h2, h3⟩ := Device.enterStalled_status (d := s.dev.at t) c hidle
    rw [← Device.at_ch _ k] at h1 h2
    rw [Device.at_reg, ← Device.at_reg _ k] at h3
    exact ⟨h1, h2, Device.chVel_stalled h1, h3, rfl, rfl⟩

end Sys2Proof.Machine
end

section
/-! PROOFS. The position-event queue: posts, cancels, due entries and deliveries; O13 (R84 to R88). -/
namespace Sys2Proof.Machine

/-! ### Entries of the queue (R84) -/

/-- An entry set in a queue that holds its number is in the queue. -/
theorem Device.mem_setEntry {d : Device} {e x : EvEntry} (h : x ∈ d.plb.entries) (hn : x.num = e.num) :
    e ∈ (d.setEntry e).plb.entries :=
  List.mem_map.2 ⟨x, h, if_pos hn⟩

theorem Device.entry_num {d : Device} {n : Nat} {x : EvEntry} (h : d.entry n = some x) : x.num = n := by
  simpa using List.find?_some h

/-- An entry set in place of one reads back by its number. -/
theorem Device.entry_setEntry {d : Device} {e x : EvEntry} (h : d.entry e.num = some x) : (d.setEntry e).entry e.num = some e := by
  have hsame : ((fun y : EvEntry => decide (y.num = e.num)) ∘ fun y => if y.num = e.num then e else y) =
      fun y => decide (y.num = e.num) := by
    funext y
    by_cases hy : y.num = e.num <;> simp [hy]
  show ((d.plb.entries.map fun y => if y.num = e.num then e else y).find? fun y => decide (y.num = e.num)) = some e
  rw [List.find?_map, hsame, show d.plb.entries.find? (fun y => decide (y.num = e.num)) = some x from h, Option.map_some,
    if_pos (Device.entry_num h)]

/-- An entry that falls due takes its mark and nothing else of the queue changes. -/
theorem Device.fallDue_entries (d : Device) (e : EvEntry) (due : Due) :
    (d.fallDue e due).plb.entries = (d.setEntry { e with due := some due }).plb.entries :=
  Device.fallDue_preserves (P := fun x => x.plb.entries = (d.setEntry { e with due := some due }).plb.entries) rfl (fun _ _ _ h => h)
    (fun _ _ h => h) fun x pg i h => by rwa [(x.evtBit_speaks pg i).plb_eq]

theorem Device.entry_fallDue (d : Device) {n : Nat} {x : EvEntry} {due : Due} (h : d.entry n = some x) :
    (d.fallDue x due).entry n = some { x with due := some due } := by
  obtain rfl := Device.entry_num h
  rw [Device.entry, Device.fallDue_entries]
  exact Device.entry_setEntry (e := { x with due := some due }) h

theorem Device.repredict_entries (d : Device) (e : EvEntry) :
    (d.repredict e).plb.entries = (d.setEntry { e with pred := d.predict e.ch e.target }).plb.entries := by
  unfold Device.repredict
  dsimp only
  split <;> rfl

/-! ### Posts (R85, R86) -/

/-- The number given to a post is one of the queue's. -/
theorem Device.freeEntry_lt (d : Device) (n : Fin 4096) : d.freeEntry n < 4096 := by
  unfold Device.freeEntry
  split
  · cases h : (List.range 4096).find? fun k => !d.plb.entries.any (·.num = k) with
    | none => simp
    | some k => exact List.mem_range.1 (List.mem_of_find?_eq_some h)
  · exact n.isLt

/-- A post adds an entry of the number, channel, target and kind posted. -/
theorem Device.post_mem (d : Device) (n : Nat) (kind : EvKind) (c : Nat) (target : Int) (mask : BitVec 16) (job slot : Nat) (value : Word) :
    ∃ e ∈ (d.post n kind c target mask job slot value).plb.entries, e.num = n ∧ e.ch = c ∧ e.target = target ∧ e.kind = kind := by
  unfold Device.post
  extract_lets e q d1 d2 used d3
  have hmem : e ∈ d1.plb.entries := List.mem_append_right _ (List.mem_singleton_self e)
  have h2 : ∃ x ∈ d2.plb.entries, x.num = n ∧ x.ch = c ∧ x.target = target ∧ x.kind = kind := by
    dsimp only [d2]
    split
    · rw [Device.fallDue_entries]
      exact ⟨_, Device.mem_setEntry hmem rfl, rfl, rfl, rfl, rfl⟩
    · rw [Device.repredict_entries]
      exact ⟨_, Device.mem_setEntry hmem rfl, rfl, rfl, rfl, rfl⟩
  split
  · rw [(Device.evtBit_speaks _ _ _).plb_eq]
    exact h2
  · exact h2

/-- A refused post answers its result and reason, and changes nothing of the Plumb unit (R85). -/
theorem Device.postRefused_result (d : Device) (result reason : Nat) :
    (d.postRefused result reason).reg R.plb_POST_RESULT = wd (result + 16 * reason) ∧ (d.postRefused result reason).plb = d.plb := by
  refine ⟨?_, (Device.err_speaks _ _ _ _ _).plb_eq⟩
  rw [Device.postRefused, Device.err_reg _ _ _ _ _ _ (by decide) (by decide)]
  simp [Device.postResult]

/-- A post to a full queue is counted in EVQ_FULL_COUNT. -/
theorem Device.evqRefuse_full (d : Device) (result reason : Nat) :
    (d.evqRefuse.postRefused result reason).reg R.plb_EVQ_FULL_COUNT = satAdd (d.reg R.plb_EVQ_FULL_COUNT) 1 ∧
      d.evqRefuse.plb = d.plb := by
  refine ⟨?_, (Device.evtBit_speaks _ _ _).plb_eq⟩
  rw [Device.postRefused, Device.err_reg _ _ _ _ _ _ (by decide) (by decide), Device.postResult, Device.setN_eq, Device.reg_setReg,
    if_neg (by decide), Device.evqRefuse, Device.evtBit_reg _ _ _ _ (by decide), if_neg (by decide)]
  simp

section
variable {d : Device} (num : Fin 4096) {v : Word} (hgo : fld v 0 1 ≠ 0)
include hgo

/-- A write of POST_GO with a target out of reach is refused with RANGE. -/
theorem postGo_outOfReach
    (hu : d.targetOf (fld (d.reg R.plb_POST_CTRL) 4 3) (d.rn64 R.plb_POST_TARGET_LO) (fld (d.reg R.plb_POST_CTRL) 24 8) = none) :
    postGo num v d = d.postRefused 3 1 := by
  rw [postGo, if_neg hgo]
  simp only [hu]

/-- A write of POST_GO to a full queue is refused with FULL. -/
theorem postGo_full {u : Int}
    (hu : d.targetOf (fld (d.reg R.plb_POST_CTRL) 4 3) (d.rn64 R.plb_POST_TARGET_LO) (fld (d.reg R.plb_POST_CTRL) 24 8) = some u)
    (hfull : d.evqFull = true) : postGo num v d = d.evqRefuse.postRefused 2 4 := by
  rw [postGo, if_neg hgo]
  simp only [hu, hfull, if_true]

/-- A write of POST_GO that posts answers with the entry's number, and the queue holds the entry. -/
theorem postGo_posts {u : Int}
    (hu : d.targetOf (fld (d.reg R.plb_POST_CTRL) 4 3) (d.rn64 R.plb_POST_TARGET_LO) (fld (d.reg R.plb_POST_CTRL) 24 8) = some u)
    (hroom : d.evqFull = false) :
    (postGo num v d).rn R.plb_POST_RESULT = 1 + 65536 * d.freeEntry num ∧
      ∃ e ∈ (postGo num v d).plb.entries, e.num = d.freeEntry num ∧ e.ch = fld (d.reg R.plb_POST_CTRL) 4 3 ∧ e.target = u ∧
        e.kind = if fld (d.reg R.plb_POST_CTRL) 0 2 = 0 then .trigger else .wake := by
  have hres : ∀ e : Device, (e.postResult 1 0 (d.freeEntry num)).rn R.plb_POST_RESULT = 1 + 65536 * d.freeEntry num := fun e => by
    have := d.freeEntry_lt num
    rw [Device.postResult, Device.rn, Device.setN_eq, Device.reg_setReg, if_pos rfl, wd, BitVec.toNat_ofNat]
    omega
  rw [postGo, if_neg hgo]
  simp only [hu, hroom, Bool.false_eq_true, if_false]
  refine ⟨hres _, ?_⟩
  split
  · exact d.post_mem _ _ _ _ _ _ _ _
  · exact d.post_mem _ _ _ _ _ _ _ _

end

/-! ### Cancels (R88) -/

section
variable {d : Device} {v : Word} (hvalid : fld v 31 1 ≠ 0)
include hvalid

/-- A cancel that names no entry is an error of page 9. -/
theorem plbCancel_absent (h : d.entry (fld v 0 12) = none) : plbCancel v d = d.err 0x19000 0x0101 1 (wd (fld v 0 12)) := by
  rw [plbCancel, if_neg hvalid]
  simp only [h]

/-- A cancel of a TRIGGER or WAKE entry removes it and changes no register. -/
theorem plbCancel_removes {e : EvEntry} (h : d.entry (fld v 0 12) = some e) (hkind : e.kind = .trigger ∨ e.kind = .wake) :
    (plbCancel v d).plb.entries = d.plb.entries.filter (fun x => !(x.num == fld v 0 12)) ∧ (plbCancel v d).regs = d.regs := by
  rw [plbCancel, if_neg hvalid]
  rcases hkind with hk | hk
  · simp only [h, hk]
    exact ⟨rfl, rfl⟩
  · simp only [h, hk]
    exact ⟨rfl, rfl⟩

end

/-! ### O13 -/

/-- Settles O13: a post refuses or adds its entry (the number is the device's choice, log entry 11), a cancel removes one, a due tick marks
one, and a delivered TRIGGER entry leaves. -/
theorem positionEntriesArePostedDeliveredAndCancelled : Obligations.PositionEntriesArePostedDeliveredAndCancelled := by
  unfold Obligations.PositionEntriesArePostedDeliveredAndCancelled
  refine ⟨fun s q num hw hv => ?_, fun s q hw hv => ?_, fun s e k p x hx hdue hp hle hen => ⟨_, rfl, ?_⟩,
    fun s k e hnext hkind hfirst => ⟨_, rfl, ?_⟩⟩
  · intro d ctl u
    have hrun : s.dev.writeAt q R.plb_POST_GO (postGo num q.data) = postGo num q.data d := Device.writeAt_of_writes hw
    have hgo : fld q.data 0 1 ≠ 0 := by omega
    refine ⟨fun hu => ⟨_, rfl, ?_⟩, fun hu hfull => ⟨_, rfl, ?_⟩, fun v hu hfull => ⟨_, rfl, ?_⟩⟩
    · obtain ⟨hres, hplb⟩ := d.postRefused_result 3 1
      dsimp only
      rw [hrun, postGo_outOfReach num hgo hu, Device.rn, hres]
      exact ⟨rfl, hplb, rfl, rfl⟩
    · obtain ⟨v, hv'⟩ := Option.ne_none_iff_exists'.1 hu
      obtain ⟨hres, hplb⟩ := d.evqRefuse.postRefused_result 2 4
      obtain ⟨hcount, hplb'⟩ := d.evqRefuse_full 2 4
      dsimp only
      rw [hrun, postGo_full num hgo hv' hfull, Device.rn, hres]
      exact ⟨rfl, hplb.trans hplb', hcount, rfl, rfl⟩
    · obtain ⟨hres, hmem⟩ := postGo_posts num hgo hu hfull
      dsimp only
      rw [hrun]
      exact ⟨hres, ⟨rfl, rfl⟩, hmem⟩
  · have hrun : s.dev.writeAt q R.plb_CANCEL (plbCancel q.data) = plbCancel q.data (s.dev.at q.t) := Device.writeAt_of_writes hw
    have hvalid : fld q.data 31 1 ≠ 0 := by omega
    refine ⟨fun e he hkind => ⟨_, rfl, ?_⟩, fun hnone => ⟨_, rfl, ?_⟩⟩
    · obtain ⟨hentries, hregs⟩ := plbCancel_removes (d := s.dev.at q.t) hvalid he hkind
      dsimp only
      rw [hrun]
      exact ⟨hentries, fun o => congrArg (Store.get resetOf · o) hregs, rfl, rfl⟩
    · dsimp only
      rw [hrun, plbCancel_absent (d := s.dev.at q.t) hvalid hnone]
      exact ⟨(Device.err_speaks _ _ _ _ _).plb_eq, Device.err_count _ _ _ _ _ (by decide), rfl, rfl⟩
  · have hrun : entryDue e k s.dev = (s.dev.at k).fallDue x ⟨p, false, false, false, 0⟩ := by
      simp only [entryDue, show (s.dev.at k).entry e = some x from hx, hdue, hp]
      exact if_pos ⟨hle, hen⟩
    dsimp only
    rw [hrun, (s.dev.at k).entry_fallDue hx]
    exact ⟨rfl, rfl, rfl⟩
  · have hrun : entryDelivery k s.dev = (s.dev.at k).deliver e := by
      simp only [entryDelivery, Device.at_plb, Nat.not_lt.2 hnext, if_false, hfirst]
    rw [hrun]
    simp only [Device.deliver, hkind]
    exact ⟨rfl, rfl, fun o => rfl, rfl, rfl⟩

end Sys2Proof.Machine
end

section
/-! PROOFS. Trigger outputs and the high-water mark; O14 (R26, R90, R91, R94). -/
namespace Sys2Proof.Machine

/-- A read of one register has its effect where the read is performed. -/
theorem Device.readAt_of_reads {s : State} {q : Req} {off : Nat} {k : Device → Device} (h : Reads s q off = true) :
    s.dev.readAt q off k = k (s.dev.at q.t) := by
  unfold Reads at h
  unfold Device.readAt
  cases ho : (s.dev.at q.t).ownOffset q.port off with
  | none => simp [ho] at h
  | some a =>
    simp only [ho] at h ⊢
    exact Device.access_of_reaches h

/-! ### The start of a pulse (R90, R91, R94) -/

/-- A count of page 10 with its event, where it applies, leaves the Plumb unit and each output's TRIG_COUNT. -/
theorem Device.countEvent_keeps (d : Device) (j : Fin 16) (b : Prop) [Decidable b] {o : Nat} (i : Nat) (ho : o ≠ R.plb_TRIG_COUNT j) :
    (if b then (d.count o 1).evtBit 0x1A000 i else d).plb = d.plb ∧
      (if b then (d.count o 1).evtBit 0x1A000 i else d).reg (R.plb_TRIG_COUNT j) = d.reg (R.plb_TRIG_COUNT j) := by
  have hj := j.isLt
  have hdrop : R.plb_TRIG_COUNT j ≠ R.hif_MSIX_DROPPED := by
    unfold R.plb_TRIG_COUNT R.hif_MSIX_DROPPED
    omega
  have hraw : R.plb_TRIG_COUNT j ≠ 0x1A000 + 0x20 := by
    unfold R.plb_TRIG_COUNT
    omega
  split
  · refine ⟨(Device.evtBit_speaks _ _ _).plb_eq, ?_⟩
    rw [Device.evtBit_reg _ _ _ _ hdrop, if_neg hraw, Device.count_eq, Device.reg_setReg, if_neg ho.symm]
  · exact ⟨rfl, rfl⟩

/-- A pulse that begins on an enabled output leaves the placed ones, is counted, and extends the output's active time. -/
theorem Device.beginPulse_starts (d : Device) {j : Fin 16} {p : Pulse} (hout : p.out = j) (hjob : p.job = none)
    (hen : d.rf (R.plb_TRIG_CFG j) 0 1 = 1) :
    (d.beginPulse p).plb.pulses = d.plb.pulses.filter (fun x => x ≠ p) ∧
      (d.beginPulse p).reg (R.plb_TRIG_COUNT j) = satAdd (d.reg (R.plb_TRIG_COUNT j)) 1 ∧
      Store.get zeroN (d.beginPulse p).plb.active j =
        max (Store.get zeroN d.plb.active j) (p.start + d.rf (R.plb_TRIG_CFG j) 16 16) := by
  unfold Device.beginPulse
  extract_lets d1 cfg d2 d3 d4 d5 ends d6
  have hj := j.isLt
  have hlate : R.plb_LATE_COUNT ≠ R.plb_TRIG_COUNT j := by
    unfold R.plb_LATE_COUNT R.plb_TRIG_COUNT
    omega
  have hover : R.plb_OVERLAP_COUNT ≠ R.plb_TRIG_COUNT j := by
    unfold R.plb_OVERLAP_COUNT R.plb_TRIG_COUNT
    omega
  have hcfg : cfg = d.reg (R.plb_TRIG_CFG j) := congrArg (fun i => d.reg (R.plb_TRIG_CFG i)) hout
  have h2 : d2.plb.pulses = d1.plb.pulses ∧ d2.plb.active = d.plb.active ∧ d2.reg (R.plb_TRIG_COUNT j) = d.reg (R.plb_TRIG_COUNT j) := by
    dsimp only [d2]
    split <;> exact ⟨rfl, rfl, rfl⟩
  obtain ⟨hpulses, hactive, hcount⟩ := h2
  have h3 : d3 = d2 := by simp only [d3, hjob]
  have h4 : d4.plb = d2.plb ∧ d4.reg (R.plb_TRIG_COUNT j) = satAdd (d.reg (R.plb_TRIG_COUNT j)) 1 :=
    ⟨show d3.plb = d2.plb by rw [h3], by simp only [d4, h3, hout, Device.count_eq, Device.reg_setReg, if_true, hcount]⟩
  have h5 := d4.countEvent_keeps j (p.moved = true) 17 hlate
  have h6 := d5.countEvent_keeps j (p.start < ends) 16 hover
  have hplb : d6.plb = d2.plb := h6.1.trans (h5.1.trans h4.1)
  have hends : ends = Store.get zeroN d.plb.active j := by
    rw [← hactive, ← h4.1, ← h5.1, ← hout]
  rw [if_neg (by rw [hcfg, ← Device.rf_eq, hen]; omega)]
  refine ⟨(congrArg Plb.pulses hplb).trans hpulses, h6.2.trans (h5.2.trans h4.2), ?_⟩
  dsimp only
  rw [hout, Store.get_set, if_pos rfl, hends, hcfg, Device.rf]

/-! ### O14 -/

/-- Settles O14: FIRE_NOW places pulses, the first that is due begins and is counted, an output past its time is idle, and a read restarts
the mark. -/
theorem triggerOutputsPulse : Obligations.TriggerOutputsPulse := by
  unfold Obligations.TriggerOutputsPulse
  refine ⟨fun s q hw => ⟨_, rfl, ?_⟩, fun s j k p hfirst hle hen hout hjob => ⟨_, rfl, ?_⟩, fun s j k hle => ⟨_, rfl, ?_⟩,
    fun s q hr => ⟨_, rfl, ?_⟩⟩
  · have hrun : s.dev.writeAt q R.plb_FIRE_NOW (fireNow q.data) = fireNow q.data (s.dev.at q.t) := Device.writeAt_of_writes hw
    dsimp only
    rw [hrun]
    exact ⟨rfl, fun o => rfl, rfl, rfl⟩
  · have hrun : triggerPulseStart j k s.dev = (s.dev.at k).beginPulse p := by
      simp only [triggerPulseStart, Device.at_plb, hfirst]
      exact if_pos hle
    rw [hout] at hen
    obtain ⟨hpulses, hcount, hactive⟩ := (s.dev.at k).beginPulse_starts hout hjob hen
    rw [hrun]
    exact ⟨hpulses, hcount, hactive, rfl, rfl⟩
  · have hrun : triggerPulseEnd j k s.dev = _ := if_pos hle
    rw [hrun]
    exact ⟨by simp, fun o => rfl, rfl, rfl⟩
  · have hrun : s.dev.readAt q R.plb_EVQ_HIGHWATER (fun d => d.setN R.plb_EVQ_HIGHWATER d.evqUsed) =
        (s.dev.at q.t).setN R.plb_EVQ_HIGHWATER (s.dev.at q.t).evqUsed := Device.readAt_of_reads hr
    dsimp only
    rw [hrun]
    exact ⟨by simp; rfl, keepsRegs_setReg s _ _ _, rfl, rfl, rfl⟩

end Sys2Proof.Machine
end

section
/-! PROOFS. A tile read after a write, its counters brought up to a cycle, and the op that issues (R110, R116, R118). -/
namespace Sys2Proof.Machine

/-! ### Tiles and their memories -/

@[simp] theorem Device.tile_setTile (d : Device) (k j : Nat) (x : Tile) : (d.setTile k x).tile j = if j = k then x else d.tile j := by
  unfold Device.tile Device.setTile
  exact Store.get_set d.tiles k j x

@[simp] theorem Device.tmemOf_setTmem (d : Device) (k j : Nat) (x : TileMem) :
    (d.setTmem k x).tmemOf j = if j = k then x else d.tmemOf j := by
  unfold Device.tmemOf Device.setTmem
  exact Store.get_set d.tmem k j x

@[simp] theorem Device.setTile_tmemOf (d : Device) (k j : Nat) (x : Tile) : (d.setTile k x).tmemOf j = d.tmemOf j := rfl

/-! ### 64-bit counts -/

/-- A 64-bit number written to a pair reads back from it. -/
theorem Device.rn64_setN64 (d : Device) (lo : Nat) {n : Nat} (h : n < 2 ^ 64) : (d.setN64 lo n).rn64 lo = n := by
  have hlo : n % 2 ^ 32 % 2 ^ 32 = n % 2 ^ 32 := Nat.mod_mod _ _
  have hhi : n / 2 ^ 32 % 2 ^ 32 = n / 2 ^ 32 := Nat.mod_eq_of_lt (by omega)
  have hne : lo ≠ lo + 4 := by omega
  simp only [Device.rn64, Device.setN64, Device.rn_eq, Device.setN_eq, Device.reg_setReg, if_true, hne, if_false, wd, BitVec.toNat_ofNat,
    hlo, hhi]
  exact Nat.mod_add_div n _

theorem Device.reg_setN64 (d : Device) {lo o : Nat} (n : Nat) (h : o ∉ [lo, lo + 4]) : (d.setN64 lo n).reg o = d.reg o := by
  simp only [List.mem_cons, List.not_mem_nil, or_false, not_or] at h
  simp [Device.setN64, h]

/-! ### The counters of a tile while no op issues (R118) -/

/-- The counters of tile k that go up while no op issues. -/
def waitCounters (k : Nat) : List Nat :=
  [R.trw_GATED_CYCLES_LO k, R.trw_GATED_CYCLES_LO k + 4, R.trw_WAIT_IN_LO k, R.trw_WAIT_IN_LO k + 4, R.trw_WAIT_OUT_LO k,
    R.trw_WAIT_OUT_LO k + 4]

/-- A register of a tile's page outside [0x208, 0x220) is none of its wait counters. -/
theorem notMem_waitCounters {k n : Nat} (h : n < 0x208 ∨ 0x220 ≤ n) : 0x1000000 + n + 0x1000 * k ∉ waitCounters k := by
  simp only [waitCounters, List.mem_cons, List.not_mem_nil, or_false, R.trw_GATED_CYCLES_LO, R.trw_WAIT_IN_LO, R.trw_WAIT_OUT_LO]
  omega

/-- At most those counters of tile k have changed. -/
def Device.Waits (k : Nat) (d e : Device) : Prop := { e with regs := d.regs } = d ∧ ∀ o, o ∉ waitCounters k → e.reg o = d.reg o

theorem Device.Waits.refl (k : Nat) (d : Device) : Device.Waits k d d := ⟨rfl, fun _ _ => rfl⟩

theorem Device.Waits.trans {k : Nat} {d e f : Device} (h : Device.Waits k d e) (g : Device.Waits k e f) : Device.Waits k d f :=
  ⟨(congrArg (fun x : Device => { x with regs := d.regs }) g.1).trans h.1, fun o ho => (g.2 o ho).trans (h.2 o ho)⟩

theorem Device.waits_count64 {k lo : Nat} (d : Device) (n : Nat) (h : ∀ o ∈ [lo, lo + 4], o ∈ waitCounters k) :
    Device.Waits k d (d.count64 lo n) :=
  ⟨rfl, fun _ ho => d.reg_setN64 _ fun hlo => ho (h _ hlo)⟩

theorem Device.Waits.tile_eq {k : Nat} {d e : Device} (h : Device.Waits k d e) (j : Nat) : e.tile j = d.tile j := by
  have := congrArg (fun x : Device => x.tile j) h.1
  exact this

/-- Cycles without an issue count in the wait counters alone. -/
theorem Device.countSpan_waits (d : Device) (k a b : Nat) : Device.Waits k d (d.countSpan k a b) := by
  have hgated : Device.Waits k d (d.count64 (R.trw_GATED_CYCLES_LO k) (b - max a (d.tile k).busyUntil)) :=
    d.waits_count64 _ (by simp [waitCounters])
  unfold Device.countSpan
  split
  · exact .refl k d
  · dsimp only
    split
    · exact hgated
    · split
      · exact hgated.trans (Device.waits_count64 _ _ (by simp [waitCounters]))
      · split
        · exact hgated.trans (Device.waits_count64 _ _ (by simp [waitCounters]))
        · exact hgated

/-- Bringing the counters of a tile up to a cycle changes its wait counters and the cycle they stand for. -/
theorem Device.account_eq (d : Device) (k c : Nat) :
    ∃ e, Device.Waits k d e ∧ d.account k c = e.setTile k { d.tile k with last := max (d.tile k).last c } := by
  have hw := (d.countSpan_waits k (d.tile k).last (min c ((d.tile k).last + 1))).trans
    (Device.countSpan_waits _ k ((d.tile k).last + 1) c)
  refine ⟨_, hw, ?_⟩
  unfold Device.account
  dsimp only
  rw [hw.tile_eq]

theorem Device.account_tile (d : Device) (k c j : Nat) :
    (d.account k c).tile j = if j = k then { d.tile k with last := max (d.tile k).last c } else d.tile j := by
  obtain ⟨e, he, h⟩ := d.account_eq k c
  rw [h, Device.tile_setTile, he.tile_eq]

theorem Device.account_reg (d : Device) (k c : Nat) {o : Nat} (ho : o ∉ waitCounters k) : (d.account k c).reg o = d.reg o := by
  obtain ⟨e, ⟨-, he⟩, h⟩ := d.account_eq k c
  rw [h, Device.setTile_reg, he o ho]

theorem Device.account_frame (d : Device) (k c : Nat) : { d.account k c with regs := d.regs, tiles := d.tiles } = d := by
  obtain ⟨e, ⟨he, -⟩, h⟩ := d.account_eq k c
  rw [h]
  exact congrArg (fun x : Device => { x with tiles := d.tiles }) he

theorem Device.account_tmemOf (d : Device) (k c j : Nat) : (d.account k c).tmemOf j = d.tmemOf j := by
  have := congrArg (fun x : Device => x.tmemOf j) (d.account_frame k c)
  exact this

theorem Device.account_hbm (d : Device) (k c : Nat) : (d.account k c).hbm = d.hbm := by
  have := congrArg Device.hbm (d.account_frame k c)
  exact this

/-! ### The op that issues (R116) -/

section
variable {s : State} {k cyc : Nat} {ok : Nat → Bool} {o : OpIn} (h : readyOp s k cyc ok = some o)
include h

/-- The op that issues at a tile is that of its active context, on the device with the tile's counters brought up. -/
theorem readyOp_opAt : ∃ o0, (s.dev.atCyc cyc).opAt k cyc ok = some o0 ∧ { o0 with d := o0.d.account k cyc } = o ∧
    o.k = k ∧ o.cyc = cyc ∧ o.d = (s.dev.atCyc cyc).account k cyc := by
  obtain ⟨o0, h0, rfl⟩ := Option.map_eq_some_iff.1 h
  have heq := h0
  unfold Device.opAt at heq
  dsimp only at heq
  split at heq
  · obtain rfl := Option.some.inj heq
    exact ⟨_, h0, rfl, rfl, rfl, rfl⟩
  · simp at heq

theorem readyOp_k : o.k = k := by
  obtain ⟨-, -, -, hk, -⟩ := readyOp_opAt h
  exact hk

theorem readyOp_cyc : o.cyc = cyc := by
  obtain ⟨-, -, -, -, hc, -⟩ := readyOp_opAt h
  exact hc

theorem readyOp_dev : o.d = (s.dev.atCyc cyc).account k cyc := by
  obtain ⟨-, -, -, -, -, hd⟩ := readyOp_opAt h
  exact hd

/-- Nothing of the device but counters of the tile and the clock has changed when the op issues. -/
theorem readyOp_frame : { o.d with regs := s.dev.regs, tiles := s.dev.tiles, now := s.dev.now } = s.dev := by
  rw [readyOp_dev h]
  exact congrArg (fun x : Device => { x with now := s.dev.now }) ((s.dev.atCyc cyc).account_frame k cyc)

theorem readyOp_upsets (hs : Sound s k) : o.d.upsets = [] := by
  obtain ⟨-, hup, -⟩ := hs
  have := congrArg Device.upsets (readyOp_frame h)
  exact this.trans hup

theorem readyOp_reg {r : Nat} (hr : r ∉ waitCounters k) : o.d.reg r = s.dev.reg r := by
  rw [readyOp_dev h, Device.account_reg _ _ _ hr]
  rfl

theorem readyOp_tile (j : Nat) :
    o.d.tile j = if j = k then { s.dev.tile k with last := max (s.dev.tile k).last cyc } else s.dev.tile j := by
  rw [readyOp_dev h, Device.account_tile]
  rfl

theorem readyOp_queue (q : Nat) : (o.d.tile o.k).queue q = (s.dev.tile k).queue q := by
  rw [readyOp_k h, readyOp_tile h, if_pos rfl]
  rfl

end

/-- The fetch of an op word that is not upset gives the op (R110). -/
theorem OpIn.fetch_clean {o : OpIn} (h : o.d.upsets = []) : o.fetch = (some o, o.d) := by
  simp [OpIn.fetch, Device.upset, h]

end Sys2Proof.Machine
end

section
/-! PROOFS. The issue of a stage op in beats: what it meets, takes and commits; O15 (R116, R117, R155, R158). -/
namespace Sys2Proof.Machine

/-! ### What an op meets where nothing is upset (Table 4.5) -/

theorem Device.readMarks_clean {d : Device} (h : d.upsets = []) (k c : Nat) (m : MemKind) (w n : Nat) : d.readMarks k c m w n = d := by
  simp [Device.readMarks, Device.marks, h]

theorem Device.mend_clean {d : Device} (h : d.upsets = []) (m : MemKind) (unit : Nat) (p : Nat → Bool) : d.mend m unit p = d := by
  unfold Device.mend
  rw [h, List.filter_nil, ← h]

/-- An op that reads no upset word and no damaged flit meets no error. -/
theorem OpIn.touch_clean {o : OpIn} (p : OpPlan) {d : Device} (h : d.upsets = [])
    (hq : ∀ q, ∀ f ∈ (o.d.tile o.k).queue q, f.bad = 0) : o.touch p d = d := by
  unfold OpIn.touch
  extract_lets d1 d2 es d3
  have h1 : d1 = d := List.foldlRecOn _ _ (motive := fun e => e = d) rfl fun e he _ _ => by
    rw [he, Device.readMarks_clean h]
  have h2 : d2 = d := by
    dsimp only [d2]
    rw [h1]
    split
    · split
      · exact Device.readMarks_clean h ..
      · rfl
    · rfl
  have h3 : d3 = d := by simp [d3, h2, h]
  have hnone : ((opTakes o.rcfg o.w).flatMap fun q =>
      (((o.d.tile o.k).queue q.1 |>.take q.2).filter (·.bad == 1)).map fun _ => q.1) = [] := by
    simp only [List.flatMap_eq_nil_iff, List.map_eq_nil_iff, List.filter_eq_nil_iff, beq_iff_eq]
    intro q _ f hf
    rw [hq q.1 f (List.mem_of_mem_take hf)]
    omega
  rw [hnone, List.foldl_nil, h3]

/-! ### The flits an op takes (R116, R159) -/

/-- At most the control state of tile k and the count of free values have changed. -/
def Device.TakesAt (k : Nat) (d e : Device) : Prop :=
  { e with tiles := d.tiles, free := d.free } = d ∧ ∀ j, j ≠ k → e.tile j = d.tile j

theorem Device.TakesAt.refl (k : Nat) (d : Device) : Device.TakesAt k d d := ⟨rfl, fun _ _ => rfl⟩

theorem Device.TakesAt.trans {k : Nat} {d e f : Device} (h : Device.TakesAt k d e) (g : Device.TakesAt k e f) : Device.TakesAt k d f :=
  ⟨(congrArg (fun x : Device => { x with tiles := d.tiles, free := d.free }) g.1).trans h.1, fun j hj => (g.2 j hj).trans (h.2 j hj)⟩

theorem Device.takesAt_setTile (d : Device) (k : Nat) (x : Tile) : Device.TakesAt k d (d.setTile k x) :=
  ⟨rfl, fun j hj => by rw [Device.tile_setTile, if_neg hj]⟩

theorem freeFlits_takesAt (k n : Nat) (d : Device) : Device.TakesAt k d (freeFlits n d).2 := by
  induction n generalizing d with
  | zero => exact .refl k d
  | succ n ih =>
    have hfree : Device.TakesAt k d { d with free := d.free + 9 } := ⟨rfl, fun _ _ => rfl⟩
    exact hfree.trans (ih _)

/-- Taking flits changes the tile's queues, or the free values where no port supplies them. -/
theorem OpIn.take_takesAt (o : OpIn) (d : Device) : Device.TakesAt o.k d (o.take d).2 := by
  unfold OpIn.take
  dsimp only
  split
  · exact List.foldlRecOn _ _ (motive := fun s : List (Nat × List Flit) × Device => Device.TakesAt o.k d s.2) (.refl o.k d)
      fun s hs q _ => hs.trans (freeFlits_takesAt o.k q.2 s.2)
  · exact List.foldlRecOn _ _ (motive := fun s : List (Nat × List Flit) × Device => Device.TakesAt o.k d s.2) (.refl o.k d)
      fun s hs q _ => hs.trans (s.2.takesAt_setTile o.k _)

/-! ### Results in flight (R155) -/

theorem mem_insResult {r x : TResult} {l : List TResult} : x ∈ insResult r l ↔ x = r ∨ x ∈ l := by
  induction l with
  | nil => simp [insResult]
  | cons y l ih =>
    rw [insResult]
    split
    · simp
    · rw [List.mem_cons, ih, List.mem_cons]
      tauto

/-- Results put in flight one after another are all in flight. -/
theorem mem_foldl_insResult {rs : List TResult} {r : TResult} (h : r ∈ rs) (l : List TResult) :
    r ∈ rs.foldl (fun l r => insResult r l) l := by
  induction rs generalizing l with
  | nil => simp at h
  | cons x rs ih =>
    rw [List.foldl_cons]
    rcases List.mem_cons.1 h with rfl | h
    · exact List.foldlRecOn _ _ (motive := fun l => r ∈ l) (mem_insResult.2 (.inl rfl)) fun m hm y _ => mem_insResult.2 (.inr hm)
    · exact ih h _

/-- A beat with accumulator writes has a result, due its latency after the beat. -/
theorem mem_opResults {cyc lat b : Nat} {beats : List (List (Nat × Word))} (fl : List (Nat × Nat × Flit)) {ws : List (Nat × Word)}
    (hb : beats[b]? = some ws) (hws : ws ≠ []) : ∃ r ∈ opResults cyc lat beats fl, r.due = cyc + b + lat - 1 ∧ r.writes = ws := by
  have hlen : beats.length ≤ fl.foldl (fun n f => max n (f.1 + 1)) beats.length :=
    List.foldlRecOn _ _ (motive := fun n => beats.length ≤ n) (Nat.le_refl _) fun n hn f _ => by omega
  obtain ⟨hlt, -⟩ := List.getElem?_eq_some_iff.1 hb
  refine ⟨⟨cyc + b + lat - 1, ws, (fl.filter (·.1 == b)).map (·.2)⟩, List.mem_filter.2 ⟨List.mem_map.2 ⟨b, ?_, ?_⟩, ?_⟩, rfl, rfl⟩
  · exact List.mem_range.2 (Nat.lt_of_lt_of_le hlt hlen)
  · rw [hb, Option.getD_some]
  · simp [hws]

/-! ### The effect of an issue (R116, R117) -/

theorem TCtx.number_pc (x : TCtx) (p : Nat) (tag : BitVec 4) : (x.number p tag).2.pc = x.pc := by
  unfold TCtx.number
  dsimp only
  split
  · rfl
  · split
    · split <;> rfl
    · split <;> rfl

theorem numberOuts_pc (p : Nat) (x : TCtx) (l : List (Nat × BitVec 4 × BitVec 256)) : (numberOuts p x l).2.pc = x.pc := by
  induction l generalizing x with
  | nil => rfl
  | cons a l ih => exact (ih (x.number p a.2.1).2).trans (x.number_pc p a.2.1)

/-- An op that issues: the tile's memories take its writes, ISSUE_CYCLES goes up, the context goes to the next op, the issue slot is held,
and the results are put in flight. -/
theorem OpIn.commit_eq (o : OpIn) (issue lat next : Nat) (e : Eff) (d : Device) :
    ∃ (x : TCtx) (fl : List (Nat × Nat × Flit)) (t : Tile), x.pc = next ∧ t.ctxs = Store.set tctx0 (d.tile o.k).ctxs o.c x ∧
      t.free = o.cyc + issue ∧
      t.results = (opResults o.cyc lat e.beats fl).foldl (fun l r => insResult r l) (d.tile o.k).results ∧
      o.commit issue lat next e d =
        e.dev (((d.setTmem o.k (e.mem (d.tmemOf o.k))).count64 (R.trw_ISSUE_CYCLES_LO o.k) 1).setTile o.k t) := by
  have hpc : ((outPorts o.w).foldl (fun (s : List (Nat × Nat × Flit) × TCtx) p =>
      let (l, y) := numberOuts p s.2 e.outs
      (s.1 ++ l, y)) ([], { (d.ctx o.k o.c) with pc := next })).2.pc = next :=
    List.foldlRecOn _ _ (motive := fun s : List (Nat × Nat × Flit) × TCtx => s.2.pc = next) rfl fun s hs p _ =>
      (numberOuts_pc p s.2 e.outs).trans hs
  exact ⟨_, _, _, hpc, rfl, rfl, rfl, rfl⟩

/-- Where nothing is upset, an op that issues, finds its entries free and passes its checks takes its flits and commits its effect. -/
theorem issueOp_commits {s : State} {k cyc opc : Nat} {plan : OpIn → OpPlan} {eff : OpIn → List (Nat × List Flit) → Eff} {o : OpIn}
    (hs : Sound s k) (h : readyOp s k cyc (· == opc) = some o) (hbeats : noBeats o.w = false) (hfree : o.entriesFree (plan o) = true)
    (hcheck : (o.check (plan o) (o.pc + 1)).isNone = true) :
    issueOp opc plan eff k cyc s.dev =
      o.commit (plan o).issue (plan o).lat (o.pc + 1) (eff o (o.take o.d).1) (o.take o.d).2 := by
  have hup := readyOp_upsets h hs
  have hq : ∀ q, ∀ f ∈ (o.d.tile o.k).queue q, f.bad = 0 := fun q f hf => by
    obtain ⟨-, -, hbad⟩ := hs
    rw [readyOp_queue h] at hf
    exact hbad q f hf
  obtain ⟨o0, h0, rfl, -⟩ := readyOp_opAt h
  unfold issueOp
  simp only [h0, OpIn.fetch_clean hup, hbeats, hfree, Option.isNone_iff_eq_none.1 hcheck, OpIn.touch_clean _ hup hq, Bool.false_eq_true,
    Bool.not_true, if_false]

/-! ### The stage ops in beats (Table 6.3) -/

/-- The command of a stage op in beats is its issue at a tile of the running array. -/
theorem exec_stageOp : ∀ x ∈ stageOps, ∀ (k : Fin 4096) (cyc : Nat) (s : State),
    exec (x.cmd k cyc) s = onArray (issueOp x.opc x.plan x.eff k cyc) s := by
  rw [← List.forall_iff_forall_mem]
  unfold stageOps
  and_intros <;> exact fun k cyc s => rfl

/-- An effect that, beside the tile's memories, only mends what it writes: it leaves a device in which nothing is upset. -/
def MendsOnly (eff : OpIn → List (Nat × List Flit) → Eff) : Prop :=
  ∀ (o : OpIn) (fl : List (Nat × List Flit)) (d : Device), d.upsets = [] → (eff o fl).dev d = d

theorem mendBank_clean {d : Device} (h : d.upsets = []) (k bank at_ n : Nat) : mendBank k bank at_ n d = d :=
  Device.mend_clean h ..

theorem mendHawk_clean {d : Device} (h : d.upsets = []) (k at_ n : Nat) : mendHawk k at_ n d = d :=
  Device.mend_clean h ..

theorem OpIn.macDev_clean (o : OpIn) {d : Device} (h : d.upsets = []) (bytes n : Nat) : o.macDev bytes n d = d := by
  have hparity : o.parity bytes d = d := by simp [OpIn.parity, h]
  rw [OpIn.macDev, hparity, mendBank_clean h]

theorem hldEff_mendsOnly : MendsOnly hldEff := by
  intro o fl d h
  unfold hldEff
  dsimp only
  split
  · exact mendBank_clean h ..
  · rfl
  · rfl

theorem hstEff_mendsOnly : MendsOnly hstEff := fun _ _ d h =>
  List.foldlRecOn _ _ (motive := fun e => e = d) rfl fun _ he _ _ => mendHawk_clean (he ▸ h) .. |>.trans he

theorem wsrEff_mendsOnly : MendsOnly wsrEff := fun _ _ _ h => mendBank_clean h ..

theorem macEffs_mendOnly : MendsOnly maciEff ∧ MendsOnly mactEff ∧ MendsOnly macfEff :=
  ⟨fun o _ _ h => o.macDev_clean h .., fun o _ _ h => o.macDev_clean h .., fun o _ _ h => o.macDev_clean h ..⟩

/-- An effect on the tile's memories and results alone mends nothing. -/
theorem mendsOnly_id {eff : OpIn → List (Nat × List Flit) → Eff} (h : ∀ o fl, (eff o fl).dev = id := by exact fun _ _ => rfl) :
    MendsOnly eff := fun o fl d _ => by
  rw [h, id]

/-- Beside a tile's memories, a stage op changes nothing but the marks of the words it writes. -/
theorem stageOp_mendsOnly : ∀ x ∈ stageOps, MendsOnly x.eff := by
  obtain ⟨hmaci, hmact, hmacf⟩ := macEffs_mendOnly
  rw [← List.forall_iff_forall_mem]
  unfold stageOps
  exact ⟨mendsOnly_id, mendsOnly_id, mendsOnly_id, mendsOnly_id, hldEff_mendsOnly, hstEff_mendsOnly, wsrEff_mendsOnly, mendsOnly_id,
    hmaci, hmact, hmacf, mendsOnly_id, mendsOnly_id, mendsOnly_id, mendsOnly_id, mendsOnly_id, mendsOnly_id, mendsOnly_id, mendsOnly_id,
    mendsOnly_id, mendsOnly_id, mendsOnly_id, mendsOnly_id⟩

/-! ### O15 -/

/-- What an issue finds after its flits are taken is what stood before the command, but for the tile, its wait counters and the clock. -/
theorem readyOp_taken {s : State} {k cyc : Nat} {ok : Nat → Bool} {o : OpIn} (h : readyOp s k cyc ok = some o) (hs : Sound s k) :
    let d := (o.take o.d).2
    d.upsets = [] ∧ d.hbm = s.dev.hbm ∧ (∀ j, d.tmemOf j = s.dev.tmemOf j) ∧ (∀ j, j ≠ k → d.tile j = s.dev.tile j) ∧
      ∀ r, r ∉ waitCounters k → d.reg r = s.dev.reg r := by
  obtain ⟨htake, htiles⟩ := o.take_takesAt o.d
  have hdev := readyOp_frame h
  refine ⟨?_, ?_, fun j => ?_, fun j hj => ?_, fun r hr => ?_⟩
  · have := congrArg Device.upsets htake
    exact this.trans (readyOp_upsets h hs)
  · have h1 := congrArg Device.hbm htake
    have h2 := congrArg Device.hbm hdev
    exact h1.trans h2
  · have h1 := congrArg (fun d : Device => d.tmemOf j) htake
    have h2 := congrArg (fun d : Device => d.tmemOf j) hdev
    exact h1.trans h2
  · rw [htiles j (readyOp_k h ▸ hj), readyOp_tile h, if_neg hj]
  · have h1 := congrArg (fun d : Device => d.reg r) htake
    exact h1.trans (readyOp_reg h hr)

/-- Settles O15: the op issues on the device as it was but for wait counters, takes its flits, and its commit puts every beat in flight. -/
theorem stageOpsIssueAndLandTheirResults : Obligations.StageOpsIssueAndLandTheirResults := by
  unfold Obligations.StageOpsIssueAndLandTheirResults
  intro x hx s k cyc o hs h hbeats hfree hcheck
  obtain ⟨hup, hhbm, hmem, htiles, hregs⟩ := readyOp_taken h hs
  obtain ⟨c, fl, t, hpc, hctxs, htfree, hresults, hcommit⟩ := o.commit_eq (x.plan o).issue (x.plan o).lat (o.pc + 1)
    (x.eff o (o.take o.d).1) (o.take o.d).2
  have ⟨harray, _⟩ := hs
  have hrun : s.dev.inArray (issueOp x.opc x.plan x.eff k cyc) = _ := (if_pos harray).trans
    ((issueOp_commits hs h hbeats hfree hcheck).trans (hcommit.trans (stageOp_mendsOnly x hx o _ _ hup)))
  rw [readyOp_k h] at hrun
  rw [readyOp_cyc h] at htfree hresults
  have hissue : (o.take o.d).2.rn64 (R.trw_ISSUE_CYCLES_LO k) = s.dev.rn64 (R.trw_ISSUE_CYCLES_LO k) := by
    simp only [Device.rn64, Device.rn_eq]
    rw [hregs _ (notMem_waitCounters (n := 0x200) (by omega)), hregs (R.trw_ISSUE_CYCLES_LO k + 4) ?_]
    rw [R.trw_ISSUE_CYCLES_LO, Nat.add_right_comm]
    exact notMem_waitCounters (n := 0x204) (by omega)
  refine ⟨_, exec_stageOp x hx k cyc s, ?_⟩
  dsimp only
  rw [hrun]
  generalize (o.take o.d).2 = d at *
  refine ⟨?_, ?_, ?_, ?_, fun b ws hb hws => ?_, fun j hj => ⟨?_, ?_⟩, hhbm, rfl, rfl⟩
  · rw [Device.ctx, Device.tile_setTile, if_pos rfl, hctxs, Store.get_set, if_pos rfl, hpc]
  · rw [Device.tile_setTile, if_pos rfl, htfree]
  · rw [← hissue]
    exact Device.rn64_setN64 _ _ (by omega)
  · rw [← hmem]
    exact (Device.tmemOf_setTmem d k k _).trans (if_pos rfl)
  · obtain ⟨r, hr, hdue, hwrites⟩ := mem_opResults (cyc := cyc) (lat := (x.plan o).lat) fl hb hws
    rw [Device.tile_setTile, if_pos rfl, hresults]
    exact ⟨r, mem_foldl_insResult hr _, hdue, hwrites⟩
  · rw [Device.tile_setTile, if_neg hj]
    exact htiles j hj
  · rw [← hmem]
    exact (Device.tmemOf_setTmem d k j _).trans (if_neg hj)

end Sys2Proof.Machine
end

section
/-! PROOFS. END in a context number whose FRAME_ORD is another register; O16 refuted (R121, R127, R168). -/
namespace Sys2Proof.Machine

/-- A device that runs tile 0 in region 0, with context 8 active and END as that context's op 0. R121 lets no switch reach a context above
7, but a state can name one, and the FRAME_ORD of context 8 would stand where ISSUE_CYCLES_LO does. -/
def endInContext8 : Device :=
  let d := { Device.reset with boot := { Device.reset.boot with core := true } }
  let d1 := (d.setN R.pow_BAY_ON_LO 1).setN (R.trw_CTX_COUNT 0) 1
  let d2 := (d1.setN (R.sch_REGION 0) (2 ^ 31 + 256 + 4096)).setN (R.sch_PIPE_STATE 0) 2
  (d2.setTmem 0 { d2.tmemOf 0 with prog := Store.set op0 [] (64 * 8) (BitVec.ofNat 64 (2 ^ 58)) }).setTile 0 { tile0 0 with active := 8 }

/-- The state of that device. -/
def endState : State := { State.reset with dev := endInContext8 }

/-- The END that issues there in cycle 9. -/
def endOfContext8 : OpIn := ⟨(endInContext8.atCyc 9).account 0 9, 0, 8, 0, 2 ^ 58, 9⟩

theorem endState_sound : Sound endState 0 := by
  refine ⟨by decide +kernel, by decide +kernel, fun q f hf => ?_⟩
  simp [endState, endInContext8, Tile.queue, tile0, noQ] at hf

theorem endState_ready : readyOp endState 0 9 (· == 0x01) = some endOfContext8 := by
  unfold readyOp Device.opAt
  dsimp only
  rw [if_pos (by decide +kernel)]
  rfl

/-- That END counts twice in the one register: once as FRAME_ORD and once as ISSUE_CYCLES. -/
theorem endState_frameOrd : endInContext8.reg (R.trw_FRAME_ORD 0 8) = 0 ∧
    (endInContext8.inArray (opEnd 0 9)).reg (R.trw_FRAME_ORD 0 8) = 2 := by decide +kernel

/-- Refutes O16: END in context 8 adds 2 to its FRAME_ORD, which is ISSUE_CYCLES_LO; the statement does not bound the active context. -/
theorem not_controlOpsMoveThePc : ¬ Obligations.ControlOpsMoveThePc := by
  unfold Obligations.ControlOpsMoveThePc
  rintro ⟨-, -, hend, -⟩
  obtain ⟨t, ht, -, hord, -⟩ := hend endState 0 9 endOfContext8 endState_sound endState_ready (by decide +kernel) (by decide +kernel)
  obtain rfl : _ = t := Host.Outcome.next.inj ht
  obtain ⟨hbefore, hafter⟩ := endState_frameOrd
  exact absurd (hafter.symm.trans (hord.trans (congrArg (· + 1) hbefore))) (by decide)

end Sys2Proof.Machine
end

section
/-! PROOFS. Results performed at the end of their cycle, and the Hawk peek; O17 (R127, R155, R447). -/
namespace Sys2Proof.Machine

/-! ### Results of beats (R155) -/

/-- Flits that join queues leave the results in flight. -/
theorem Tile.foldl_push_results (l : List (Nat × Flit)) (c : Nat) (t : Tile) :
    (l.foldl (fun t f => t.push (4 + f.1) f.2 c) t).results = t.results :=
  List.foldlRecOn _ _ (motive := fun u : Tile => u.results = t.results) rfl fun _ hu _ _ => hu

/-- The queues that flits join depend on the queues that stood there alone. -/
theorem Tile.foldl_push_queues {t u : Tile} (h : t.queues = u.queues) (l : List (Nat × Flit)) (c : Nat) :
    (l.foldl (fun t f => t.push (4 + f.1) f.2 c) t).queues = (l.foldl (fun t f => t.push (4 + f.1) f.2 c) u).queues := by
  induction l generalizing t u with
  | nil => exact h
  | cons f l ih =>
    have hpush : (t.push (4 + f.1) f.2 c).queues = (u.push (4 + f.1) f.2 c).queues := by
      simp only [Tile.push, Tile.setQueue, Tile.queue, h]
    exact ih hpush

/-- A result performed: its writes reach the accumulators in order, its flits their queues; what else is in flight stays. -/
theorem Device.performResult_spec (d : Device) (k : Nat) (r : TResult) :
    ((d.performResult k r).tmemOf k).acc = r.writes.foldl (fun m w => Store.set word0 m w.1 w.2) (d.tmemOf k).acc ∧
      (d.performResult k r).tile k = r.flits.foldl (fun t f => t.push (4 + f.1) f.2 r.due) (d.tile k) ∧
      (d.performResult k r).hbm = d.hbm := by
  refine ⟨?_, (Device.tile_setTile _ k k _).trans (if_pos rfl), rfl⟩
  exact congrArg TileMem.acc ((Device.tmemOf_setTmem d k k _).trans (if_pos rfl))

/-- Where the first result in flight alone is due, the cycle performs it and drops it. -/
theorem opBeatResult_first {d : Device} {k cyc : Nat} {r : TResult} {l : List TResult} (hr : (d.tile k).results = r :: l)
    (hdue : r.due ≤ cyc) (hl : ∀ x ∈ l, cyc < x.due) :
    ∃ t : Tile, opBeatResult k cyc d = (((d.atCyc cyc).account k cyc).setTile k t).performResult k r ∧ t.results = l ∧
      t.queues = (d.tile k).queues := by
  have htile : ((d.atCyc cyc).account k cyc).tile k = { d.tile k with last := max (d.tile k).last cyc } :=
    (Device.account_tile _ k cyc k).trans (if_pos rfl)
  have hlater : (l.filter fun x => decide (x.due ≤ cyc)) = [] := List.filter_eq_nil_iff.2 fun x hx => by simp [hl x hx]
  refine ⟨{ d.tile k with last := max (d.tile k).last cyc, results := l, busy := max (d.tile k).busy (r.due + 1) }, ?_, rfl, rfl⟩
  unfold opBeatResult
  simp only [htile, hr, List.filter_cons, hdue, decide_true, if_true, hlater, List.foldl_cons, List.foldl_nil, List.drop_one,
    List.tail_cons]

/-! ### The Hawk peek (R127, R447) -/

/-- An offset that the directory finds lies in the range of its entry (R62). -/
theorem dirFind_range {off n i : Nat} (l : List (Nat × Nat × Nat)) (m : Nat) (h : dirFind off m l = some (n, i)) :
    ∃ e, l[n - m]? = some e ∧ m ≤ n ∧ e.1 ≤ off ∧ off < e.1 + 0x1000 * e.2.2 := by
  induction l generalizing m with
  | nil => simp [dirFind] at h
  | cons e l ih =>
    obtain ⟨b, c, p⟩ := e
    rw [dirFind] at h
    split at h
    · next hin =>
      simp only [Option.some.injEq, Prod.mk.injEq] at h
      obtain ⟨rfl, -⟩ := h
      exact ⟨(b, c, p), by simp, Nat.le_refl _, hin⟩
    · obtain ⟨e, he, hle, hin⟩ := ih (m + 1) h
      refine ⟨e, ?_, by omega, hin⟩
      rw [show n - m = (n - (m + 1)) + 1 by omega, List.getElem?_cons_succ, he]

/-- The errors of a register of a tile's page are those of the page. -/
theorem errPage_tile {k n : Nat} (hn : n < 0x1000) : errPage (0x1000000 + n + 0x1000 * k) = 0x1000000 + 0x1000 * k := by
  unfold errPage
  split
  · next i h =>
    exfalso
    unfold blockAt at h
    split at h
    · simp at h
    · obtain ⟨e, he, -, hin⟩ := dirFind_range _ _ h
      obtain rfl : (0x800000, 0x0, 1024) = e := Option.some.inj he
      dsimp only at hin
      omega
  · unfold pageOf
    omega

/-- The regions are where REGION registers say. -/
theorem Device.regionOf_congr {d e : Device} (h : ∀ p < 64, e.reg (R.sch_REGION p) = d.reg (R.sch_REGION p)) (k : Nat) :
    e.regionOf k = d.regionOf k :=
  List.find?_congr fun p hp => by
    unfold Device.inRegion
    rw [h p (List.mem_range.1 hp)]

theorem Device.regionOf_lt {d : Device} {k p : Nat} (h : d.regionOf k = some p) : p < 64 :=
  List.mem_range.1 (List.mem_of_find?_eq_some h)

/-- PEEK_ADDR is no register of a pipeline. -/
theorem Device.regionOf_setPeekAddr (d : Device) (k : Nat) (v : Word) : (d.setReg (R.trw_PEEK_ADDR k) v).regionOf k = d.regionOf k :=
  Device.regionOf_congr (fun _ _ => by rw [Device.reg_setReg, if_neg (by unfold R.sch_REGION R.trw_PEEK_ADDR; omega)]) k

theorem Device.pipeState_setPeekAddr (d : Device) (k : Nat) (v : Word) {p : Nat} (_ : p < 64) :
    (d.setReg (R.trw_PEEK_ADDR k) v).pipeState p = d.pipeState p := by
  unfold Device.pipeState Device.rf
  rw [Device.reg_setReg, if_neg (by unfold R.sch_PIPE_STATE R.trw_PEEK_ADDR; omega)]

/-- A number read from n bytes has n bytes. -/
theorem Memory.rd_lt (m : Memory) (a n : Nat) : Memory.rd m a n < 256 ^ n := by
  induction n generalizing a with
  | zero => simp [Memory.rd]
  | succ n ih =>
    have h1 := (Memory.rd8 m a).isLt
    have h2 := ih (a + 1)
    rw [Memory.rd, Nat.pow_succ']
    omega

/-- An access error of PEEK_ADDR leaves it and the data, and is counted in the ERR_COUNT of the tile's page (R54). -/
theorem Device.errAccess_peek (d : Device) (code : Nat) (p : Port) (k : Nat) :
    let e := d.errAccess code p (R.trw_PEEK_ADDR k) true
    e.reg (R.trw_PEEK_ADDR k) = d.reg (R.trw_PEEK_ADDR k) ∧ e.reg (R.trw_PEEK_LO k) = d.reg (R.trw_PEEK_LO k) ∧
      e.reg (0x1000034 + 0x1000 * k) = satAdd (d.reg (0x1000034 + 0x1000 * k)) 1 := by
  have hfault : ∀ n, 0x1000000 + n + 0x1000 * k ∉ faultRegs := fun n hm => by
    have hlow : ∀ x ∈ faultRegs, x < 0x1000000 := by decide
    have := hlow _ hm
    omega
  have hpage : ∀ n, 0x40 ≤ n → 0x1000000 + n + 0x1000 * k ∉ [0x1000000 + 0x1000 * k + 0x20, 0x1000000 + 0x1000 * k + 0x30,
      0x1000000 + 0x1000 * k + 0x34, 0x1000000 + 0x1000 * k + 0x38, 0x1000000 + 0x1000 * k + 0x3C] := fun n hn => by
    simp only [List.mem_cons, List.not_mem_nil, or_false]
    omega
  unfold Device.errAccess
  rw [errPage_tile (n := 0x240) (by omega)]
  refine ⟨d.err_reg _ _ _ _ _ (hfault 0x240) (hpage 0x240 (by omega)), d.err_reg _ _ _ _ _ (hfault 0x248) (hpage 0x248 (by omega)), ?_⟩
  have hcount := fun lo hi => d.err_count (0x1000000 + 0x1000 * k) code lo hi (by rw [Nat.add_right_comm]; exact hfault 0x34)
  rw [Nat.add_right_comm] at hcount
  exact hcount _ _

section
variable {d : Device} {k : Nat} {p : Port} {v : Word} (hport : portCode p ≠ 7) (hv : fld v 0 15 < 24576)
include hport hv

/-- At a tile whose region runs, a write of PEEK_ADDR is answered REFUSED. -/
theorem hawkPeek_refused {r : Nat} (hr : d.regionOf k = some r) (hrun : runState (d.pipeState r) = true) :
    hawkPeek k p v d = (d.setN (R.trw_PEEK_ADDR k) (fld v 0 15)).setN (R.trw_PEEK_STATUS k) 2 := by
  have hreg := d.regionOf_setPeekAddr k (wd (fld v 0 15))
  have hstate := d.pipeState_setPeekAddr k (wd (fld v 0 15)) (Device.regionOf_lt hr)
  unfold hawkPeek
  simp only [hport, Nat.not_lt.2 (Nat.le_of_lt_succ hv), if_false, Device.setN, hreg, hr, hstate, hrun, if_true]

/-- At a tile whose region does not run, a write of PEEK_ADDR with a word that is not upset answers the word with DONE. -/
theorem hawkPeek_done (hidle : ∀ r, d.regionOf k = some r → runState (d.pipeState r) = false)
    (hup : d.upset .hawk k (fld v 0 15) = none) :
    hawkPeek k p v d = ((d.setN (R.trw_PEEK_ADDR k) (fld v 0 15)).setN (R.trw_PEEK_STATUS k) 1).setN64 (R.trw_PEEK_LO k)
      (Memory.rd (d.tmemOf k).hawk (8 * fld v 0 15) 8) := by
  have hreg := d.regionOf_setPeekAddr k (wd (fld v 0 15))
  have hup' : (d.setReg (R.trw_PEEK_ADDR k) (wd (fld v 0 15))).upset .hawk k (fld v 0 15) = none := hup
  unfold hawkPeek
  simp only [hport, Nat.not_lt.2 (Nat.le_of_lt_succ hv), if_false, Device.setN, hreg, hup']
  cases hr : d.regionOf k with
  | none => rfl
  | some r =>
    have hstate := d.pipeState_setPeekAddr k (wd (fld v 0 15)) (Device.regionOf_lt hr)
    simp only [hstate, hidle r hr, Bool.false_eq_true, if_false]
    rfl

end

/-! ### O17 -/

/-- Settles O17: a cycle performs the one result that is due, and a write of PEEK_ADDR answers by the state of the tile's region. -/
theorem resultsArePerformedAndHawkIsPeeked : Obligations.ResultsArePerformedAndHawkIsPeeked := by
  unfold Obligations.ResultsArePerformedAndHawkIsPeeked
  refine ⟨fun s k cyc r l hs hr hdue hl => ⟨_, rfl, ?_⟩,
    fun s k q hw hv hp hup => ⟨fun hidle => ⟨_, rfl, ?_⟩, fun r hr hruns => ⟨_, rfl, ?_⟩⟩, fun s k q hw hp => ⟨_, rfl, ?_⟩⟩
  · obtain ⟨harray, -⟩ := hs
    obtain ⟨t, ht, hres, hqueues⟩ := opBeatResult_first hr hdue hl
    have hrun : s.dev.inArray (opBeatResult k cyc) = _ := (if_pos harray).trans ht
    obtain ⟨hacc, htile, hhbm⟩ := Device.performResult_spec (((s.dev.atCyc cyc).account k cyc).setTile k t) k r
    dsimp only
    rw [hrun, htile, hacc, hhbm, Tile.foldl_push_results, Device.tile_setTile, if_pos rfl, Tile.foldl_push_queues hqueues,
      Device.setTile_tmemOf, Device.account_tmemOf]
    exact ⟨hres, rfl, rfl, Device.account_hbm _ _ _, rfl, rfl⟩
  · have hrun : s.dev.writeAt q (R.trw_PEEK_ADDR k) (hawkPeek k q.port q.data) = _ :=
      (Device.writeAt_of_writes hw).trans (hawkPeek_done hp hv hidle hup)
    have hlt := Memory.rd_lt (s.dev.tmemOf k).hawk (8 * fld q.data 0 15) 8
    dsimp only
    rw [hrun]
    refine ⟨?_, Device.rn64_setN64 _ _ hlt, fun o ho => ?_, rfl, rfl, rfl⟩
    · have hstatus : R.trw_PEEK_STATUS k ∉ [R.trw_PEEK_LO k, R.trw_PEEK_LO k + 4] := by
        simp only [List.mem_cons, List.not_mem_nil, or_false, R.trw_PEEK_STATUS, R.trw_PEEK_LO]
        omega
      rw [Device.rn, Device.reg_setN64 _ _ hstatus, Device.setN_eq, Device.reg_setReg, if_pos rfl]
      rfl
    · simp only [List.mem_cons, List.not_mem_nil, or_false, not_or] at ho
      obtain ⟨haddr, hstatus, hlo, hhi⟩ := ho
      rw [Device.reg_setN64 _ _ (by simp [hlo, hhi]), Device.setN_eq, Device.reg_setReg, if_neg hstatus, Device.setN_eq, Device.reg_setReg,
        if_neg haddr]
      rfl
  · have hrun : s.dev.writeAt q (R.trw_PEEK_ADDR k) (hawkPeek k q.port q.data) = _ :=
      (Device.writeAt_of_writes hw).trans (hawkPeek_refused hp hv hr hruns)
    dsimp only
    rw [hrun]
    refine ⟨?_, fun o ho => ?_, rfl, rfl, rfl⟩
    · rw [Device.rn, Device.setN_eq, Device.reg_setReg, if_pos rfl]
      rfl
    · simp only [List.mem_cons, List.not_mem_nil, or_false, not_or] at ho
      obtain ⟨haddr, hstatus⟩ := ho
      rw [Device.setN_eq, Device.reg_setReg, if_neg hstatus, Device.setN_eq, Device.reg_setReg, if_neg haddr]
      rfl
  · have hrun : s.dev.writeAt q (R.trw_PEEK_ADDR k) (hawkPeek k q.port q.data) = _ :=
      (Device.writeAt_of_writes hw).trans (if_pos hp)
    obtain ⟨haddr, hlo, hcount⟩ := (s.dev.at q.t).errAccess_peek 0x0001 q.port k
    dsimp only
    rw [hrun]
    exact ⟨haddr, hlo, hcount, rfl, rfl⟩

end Sys2Proof.Machine
end

section
/-! PROOFS. Arrival, sending and delivery of flits where nothing is upset; O18 (R196 to R200, R203). -/
namespace Sys2Proof.Machine

/-! ### What speaking up and upset words leave alone -/

theorem Device.Speaks.scrim_eq {d e : Device} (h : d.Speaks e) : e.scrim = d.scrim := by
  have := congrArg Device.scrim h
  exact this

theorem Device.upset_clean {d : Device} (h : d.upsets = []) (m : MemKind) (unit word : Nat) : d.upset m unit word = none := by
  simp [Device.upset, h]

theorem Device.deadEntry_clean {d : Device} (h : d.upsets = []) (m : MemKind) (k dir slot base : Nat) :
    d.deadEntry m k dir slot base = d := by
  simp [Device.deadEntry, Device.upset_clean h]

theorem Device.linkRead_clean {d : Device} (h : d.upsets = []) (key : Nat) (deliver : Bool) : d.linkRead key deliver = d := by
  simp [Device.linkRead, Device.upset_clean h]

/-! ### Arrival entries (R196) -/

@[simp] theorem Device.arr_setArr (d : Device) (key j : Nat) (x : Arr) : (d.setArr key x).arr j = if j = key then x else d.arr j := by
  unfold Device.arr Device.setArr
  exact Store.get_set d.scrim.arr key j x

theorem Device.notMem_left_setArr (d : Device) (key : Nat) {who : Nat} {x : Arr} (h : who ∉ x.left) :
    who ∉ ((d.setArr key x).arr key).left := by
  rwa [Device.arr_setArr, if_pos rfl]

/-- A consumer that takes its flit changes the arrival entry alone, and is no longer among the consumers it waits for. -/
theorem Device.consume_clean {d : Device} (h : d.upsets = []) (key who c : Nat) :
    ∃ x : Arr, d.consume key who c = d.setArr key x ∧ who ∉ x.left := by
  unfold Device.consume
  dsimp only
  split
  · exact ⟨_, Device.mend_clean (d := d.setArr key _) h .., List.not_mem_nil⟩
  · exact ⟨_, rfl, by simp⟩

/-- With a consumer, the flit that arrives stands in its entry for the entry's consumers. -/
theorem flitArrival_stands {d : Device} {k dir slot cyc : Nat} {w : Wire} (hup : d.upsets = [])
    (hw : (d.scrim.wires.find? fun w => w.key == skey k dir slot && decide (w.avail ≤ cyc)) = some w)
    (hc : d.consumers k dir slot ≠ []) :
    flitArrival k dir slot cyc d = ((d.atCyc cyc).scr fun s => { s with wires := s.wires.erase w }).setArr (skey k dir slot)
      ⟨some w.flit, w.avail, d.consumers k dir slot, (d.arr (skey k dir slot)).emptied⟩ := by
  unfold flitArrival
  simp only [Device.atCyc_scrim, hw]
  refine (if_neg fun h => hc (List.isEmpty_iff.1 h)).trans ?_
  rw [Device.mend_clean]
  · rfl
  · exact hup

/-- Without a consumer, the flit that arrives is dropped and counted. -/
theorem flitArrival_orphan {d : Device} {k dir slot cyc : Nat} {w : Wire}
    (hw : (d.scrim.wires.find? fun w => w.key == skey k dir slot && decide (w.avail ≤ cyc)) = some w)
    (hc : d.consumers k dir slot = []) :
    flitArrival k dir slot cyc d = ((((d.atCyc cyc).scr fun s => { s with wires := s.wires.erase w }).setArr (skey k dir slot)
      ⟨none, w.avail, [], some w.avail⟩).count R.scm_ORPHAN_COUNT 1).evtBit 0x80000 18 := by
  unfold flitArrival
  simp only [Device.atCyc_scrim, hw]
  exact if_pos (List.isEmpty_iff.2 hc)

/-! ### Sending towards a neighbour (R190, R197) -/

/-- READY towards a neighbour does not depend on the clocks. -/
theorem Device.linkOpen_atCyc (d : Device) {k dir n : Nat} (hn : neighbour k dir = some n) (c cyc : Nat) :
    (d.atCyc cyc).linkOpen k dir c = d.linkOpen k dir c := by
  unfold Device.linkOpen
  rw [hn]
  rfl

section
variable {d : Device} {k dir c n : Nat} (hup : d.upsets = []) (hn : neighbour k dir = some n)
include hup hn

/-- An output takes the flit of an arrival entry and sends a flit to its neighbour, where it is available after 1 + PIPE cycles. -/
theorem Device.take_and_send (key : Nat) (f : Flit) :
    ∃ x : Arr, ((d.linkRead key false).consume key (16 * dir + c % 16) c).sendFlit k dir c f =
      (d.setArr key x).wire (skey n (opp dir) (c % 16)) f (c + 1 + d.pipeOf k dir) ∧ 16 * dir + c % 16 ∉ x.left := by
  obtain ⟨x, hx, hleft⟩ := Device.consume_clean hup key (16 * dir + c % 16) c
  refine ⟨x, ?_, hleft⟩
  rw [Device.linkRead_clean hup, hx, Device.sendFlit, hn]
  rfl

/-- A FORWARD entry sends the flit that its arrival entry holds for it. -/
theorem Device.sendForward_sends {f : Flit} (harr : d.arrFor k dir c = some f) (hlent : d.lentSlot k dir c = false)
    (hopen : (d.linkOpen k dir c).1 = true) :
    let key := entryArr k (d.outE (skey k dir (c % 16)))
    ∃ x : Arr, d.sendForward k dir c = (d.setArr key x).wire (skey n (opp dir) (c % 16)) f (c + 1 + d.pipeOf k dir) ∧
      16 * dir + c % 16 ∉ x.left := by
  intro key
  have hlink : d.linkOpen k dir c = (true, (d.linkOpen k dir c).2) := Prod.ext hopen rfl
  rw [Device.sendForward, harr, hlent, hlink]
  exact Device.take_and_send hup hn key f

/-- A REDUCE entry sends the lane-wise sum of the flit that its arrival entry holds for it and the head flit (R203). -/
theorem Device.sendMember_reduces {a h : Flit} (hkind : d.outE (skey k dir (c % 16)) / 2 % 4 = 2) (harr : d.arrFor k dir c = some a)
    (hswap : (a.swap && h.swap) = false) :
    let e := d.outE (skey k dir (c % 16))
    ∃ x : Arr, d.sendMember k c h dir = (d.setArr (entryArr k e) x).wire (skey n (opp dir) (c % 16))
      { a with data := reduceData (e / 1024 % 2 = 1) a.data h.data } (c + 1 + d.pipeOf k dir) ∧ 16 * dir + c % 16 ∉ x.left := by
  intro e
  simp only [Device.sendMember, hkind, harr, hswap, Nat.reduceEqDiff, Bool.false_eq_true, if_false]
  exact Device.take_and_send hup hn (entryArr k e) _

end

/-- SLOT_SEND of a valid FORWARD entry. -/
theorem slotSend_forward {d : Device} {k : Fin 4096} {dir : Fin 4} {cyc : Nat} (hup : d.upsets = [])
    (hvalid : d.outE (skey k dir (cyc % 16)) % 2 = 1) (hkind : d.outE (skey k dir (cyc % 16)) / 2 % 4 = 1) :
    slotSend (.tile k dir) cyc d = (d.atCyc cyc).sendForward k dir cyc := by
  have hvalid' : (d.atCyc cyc).outE (skey k dir (cyc % 16)) % 2 = 1 := hvalid
  have hkind' : (d.atCyc cyc).outE (skey k dir (cyc % 16)) / 2 % 4 = 1 := hkind
  unfold slotSend
  simp only [Device.deadEntry_clean (d := d.atCyc cyc) hup, hvalid', hkind', Nat.one_ne_zero, if_false]

/-- REDUCE_SEND of a valid REDUCE entry. -/
theorem reduceSend_group {d : Device} {k dir cyc : Nat} (hup : d.upsets = [])
    (hvalid : d.outE (skey k dir (cyc % 16)) % 2 = 1) (hkind : d.outE (skey k dir (cyc % 16)) / 2 % 4 = 2) :
    reduceSend k dir cyc d = (d.atCyc cyc).sendGroup k (d.outE (skey k dir (cyc % 16)) / 512 % 2) cyc := by
  unfold reduceSend
  simp only [Device.deadEntry_clean (d := d.atCyc cyc) hup]
  exact if_pos ⟨hvalid, hkind⟩

/-! ### A REDUCE entry alone in its group (R198, R203) -/

/-- Everything that a REDUCE entry alone in its group needs to send: the head flit `h` of the OUT port and the flit `a` of its arrival entry
have the same tag and sequence number, and nothing holds the output. -/
structure Device.ReducesAlone (d : Device) (k dir o c : Nat) (a : Flit) (h : QFlit) : Prop where
  kind : d.outE (skey k dir (c % 16)) / 2 % 4 = 2
  group : d.outGroup k o c = [dir]
  head : ((d.tile k).queue (4 + o)).head? = some h
  early : h.cyc < c
  sound : h.bad = 0
  arrived : d.arrFor k dir c = some a
  tag : a.tag = h.flit.tag
  seq : a.seq = h.flit.seq
  unblocked : skey k dir (c % 16) ∉ d.scrim.blocked
  unlent : d.lentSlot k dir c = false
  link : (d.linkOpen k dir c).1 = true

/-- It takes the head flit and sends as the one member of its group. -/
theorem Device.sendGroup_alone {d : Device} {k dir o c : Nat} {a : Flit} {h : QFlit} (hr : d.ReducesAlone k dir o c a h) :
    d.sendGroup k o c = (d.modTile k c fun t => (t.takeN (4 + o) 1 c).2).sendMember k c h.flit dir := by
  obtain ⟨hkind, hgroup, hhead, hearly, hsound, harr, htag, hseq, hblocked, hlent, hlink⟩ := hr
  unfold Device.sendGroup
  simp [hhead, hgroup, hkind, hearly, hsound, harr, htag, hseq, hblocked, hlent, hlink]

/-- A change of a tile's control state changes registers and tiles alone. -/
theorem Device.modTile_frame (d : Device) (k c : Nat) (f : Tile → Tile) : { d.modTile k c f with regs := d.regs, tiles := d.tiles } = d :=
  d.account_frame k c

theorem Device.modTile_scrim (d : Device) (k c : Nat) (f : Tile → Tile) : (d.modTile k c f).scrim = d.scrim := by
  have := congrArg Device.scrim (d.modTile_frame k c f)
  exact this

theorem Device.modTile_upsets (d : Device) (k c : Nat) (f : Tile → Tile) : (d.modTile k c f).upsets = d.upsets := by
  have := congrArg Device.upsets (d.modTile_frame k c f)
  exact this

/-- The tile changed is the tile as it stood, its counters' cycle brought up. -/
theorem Device.modTile_tile (d : Device) (k c : Nat) (f : Tile → Tile) :
    (d.modTile k c f).tile k = f { d.tile k with last := max (d.tile k).last c } := by
  rw [Device.modTile, Device.tile_setTile, if_pos rfl, Device.account_tile, if_pos rfl]

@[simp] theorem Tile.queue_setQueue (t : Tile) (q j : Nat) (l : List QFlit) :
    (t.setQueue q l).queue j = if j = q then l else t.queue j := by
  unfold Tile.queue Tile.setQueue
  exact Store.get_set t.queues q j l

theorem Tile.takeN_queue (t : Tile) (q n c : Nat) : (t.takeN q n c).2.queue q = (t.queue q).drop n :=
  (Tile.queue_setQueue t q q _).trans (if_pos rfl)

/-- What a REDUCE entry alone in its group sends, and what is left: the sum is on the link, the head flit taken, the entry's wait ended. -/
theorem Device.sendGroup_reduces {d : Device} {k dir o c n : Nat} {a : Flit} {h : QFlit} (hup : d.upsets = [])
    (hr : d.ReducesAlone k dir o c a h) (hn : neighbour k dir = some n) (hswap : (a.swap && h.flit.swap) = false) :
    let e := d.outE (skey k dir (c % 16))
    (d.sendGroup k o c).scrim.wires = d.scrim.wires ++ [⟨skey n (opp dir) (c % 16),
        { a with data := reduceData (e / 1024 % 2 = 1) a.data h.flit.data }, c + 1 + d.pipeOf k dir⟩] ∧
      ((d.sendGroup k o c).tile k).queue (4 + o) = ((d.tile k).queue (4 + o)).drop 1 ∧
      16 * dir + c % 16 ∉ ((d.sendGroup k o c).arr (entryArr k e)).left := by
  intro e
  let d1 := d.modTile k c fun t => (t.takeN (4 + o) 1 c).2
  have hscrim : d1.scrim = d.scrim := d.modTile_scrim k c _
  have hwires : d1.scrim.wires = d.scrim.wires := congrArg Scrim.wires hscrim
  have houtE : d1.outE (skey k dir (c % 16)) = e := by rw [Device.outE, hscrim]; rfl
  have hpipe : d1.pipeOf k dir = d.pipeOf k dir := by rw [Device.pipeOf, hscrim]; rfl
  have harr : d1.arrFor k dir c = some a := by
    rw [← hr.arrived, Device.arrFor, houtE, Device.arr, hscrim]
    rfl
  have hkind : d1.outE (skey k dir (c % 16)) / 2 % 4 = 2 := by rw [houtE]; exact hr.kind
  obtain ⟨x, hx, hleft⟩ := Device.sendMember_reduces (d := d1) (c := c) ((d.modTile_upsets k c _).trans hup) hn hkind harr hswap
  rw [houtE, hpipe] at hx
  rw [Device.sendGroup_alone hr]
  change d1.sendMember k c h.flit dir = _ at hx
  rw [hx]
  refine ⟨congrArg (· ++ [_]) hwires, ?_, d1.notMem_left_setArr (entryArr k e) hleft⟩
  change (d1.tile k).queue (4 + o) = _
  rw [Device.modTile_tile, Tile.takeN_queue]
  rfl

/-! ### Delivery (R197) -/

/-- A delivery entry whose region neither pauses nor resets puts its flit into an input queue that starts the cycle below 64 flits. -/
theorem flitDelivery_delivers {d : Device} {k dir slot cyc dest : Nat} {f : Flit} (hup : d.upsets = [])
    (hflit : (d.arr (skey k dir slot)).flit = some f) (havail : (d.arr (skey k dir slot)).avail ≤ cyc)
    (hleft : 64 ∈ (d.arr (skey k dir slot)).left) (hdel : d.delE (skey k dir slot) % 8 = dest + 1) (hdest : dest < 4)
    (hocc : (d.tile k).occAt dest cyc < 64)
    (hrun : ∀ p, d.regionOf k = some p → d.pausedRegion p = false ∧ d.pipeResetting p = false) :
    ∃ x : Arr, flitDelivery k dir slot cyc d =
      ((d.atCyc cyc).setArr (skey k dir slot) x).modTile k cyc (fun t => t.push dest f cyc) ∧ 64 ∉ x.left := by
  obtain ⟨x, hx, hxleft⟩ := Device.consume_clean (d := d.atCyc cyc) hup (skey k dir slot) 64 cyc
  refine ⟨x, ?_, hxleft⟩
  have hflit' : ((d.atCyc cyc).arr (skey k dir slot)).flit = some f := hflit
  have hdel' : (d.atCyc cyc).delE (skey k dir slot) % 8 = dest + 1 := hdel
  have hregion : (d.atCyc cyc).regionOf k = d.regionOf k := rfl
  unfold flitDelivery
  simp only [Device.deadEntry_clean (d := d.atCyc cyc) hup, Device.linkRead_clean (d := d.atCyc cyc) hup, hx, hflit', hdel', hregion]
  cases hreg : d.regionOf k with
  | none => exact if_pos ⟨havail, hleft, hdest, by simp, hocc⟩
  | some p =>
    obtain ⟨hpause, hreset⟩ := hrun p hreg
    have hpause' : (d.atCyc cyc).pausedRegion p = false := hpause
    have hreset' : ((d.atCyc cyc).setArr (skey k dir slot) x).pipeResetting p = false := hreset
    rw [if_pos ⟨havail, hleft, hdest, by simp [hpause'], hocc⟩, Option.map_some, Option.getD_some, hreset']
    exact if_neg Bool.false_ne_true

/-! ### O18 -/

/-- Settles O18: what arrives, is forwarded, reduced and delivered where nothing is upset. -/
theorem flitsMoveByTheStencil : Obligations.FlitsMoveByTheStencil := by
  unfold Obligations.FlitsMoveByTheStencil
  refine ⟨fun s k dir slot cyc w hs hw => ⟨fun hc => ⟨_, rfl, ?_⟩, fun hc => ⟨_, rfl, ?_⟩⟩,
    fun s k dir cyc n f hs hvalid hkind hn harr hlent hopen => ⟨_, rfl, ?_⟩,
    fun s k dir cyc n a h hs hvalid hkind hn hgroup hhead hearly hsound harr htag hseq hswap hblocked hlent hopen => ⟨_, rfl, ?_⟩,
    fun s k dir slot cyc dest f hs hflit havail hleft hdel hdest hocc hrun => ⟨_, rfl, ?_⟩⟩
  all_goals obtain ⟨hruns, hup⟩ := hs
  · have hrun : s.dev.inArray (flitArrival k dir slot cyc) = _ := (if_pos hruns).trans (flitArrival_stands hup hw hc)
    dsimp only
    rw [hrun, Device.arr_setArr, if_pos rfl]
    exact ⟨rfl, rfl, rfl, rfl, rfl, rfl⟩
  · have hrun : s.dev.inArray (flitArrival k dir slot cyc) = _ := (if_pos hruns).trans (flitArrival_orphan hw hc)
    dsimp only
    rw [hrun, Device.arr, (Device.evtBit_speaks _ _ _).scrim_eq, Device.evtBit_reg _ _ _ _ (by decide), if_neg (by decide)]
    refine ⟨rfl, ?_, ?_, rfl, rfl⟩
    · exact congrArg Arr.flit ((Device.arr_setArr _ _ _ _).trans (if_pos rfl))
    · rw [Device.count_eq, Device.reg_setReg, if_pos rfl]
      rfl
  · obtain ⟨x, hx, hleft⟩ := Device.sendForward_sends (d := s.dev.atCyc cyc) hup hn harr hlent
      ((congrArg Prod.fst (s.dev.linkOpen_atCyc hn cyc cyc)).trans hopen)
    have hrun : s.dev.inArray (slotSend (.tile k dir) cyc) = _ := (if_pos hruns).trans ((slotSend_forward hup hvalid hkind).trans hx)
    dsimp only
    rw [hrun]
    exact ⟨rfl, (s.dev.atCyc cyc).notMem_left_setArr (arrNow s k dir cyc) hleft, rfl, rfl, rfl, rfl⟩
  · have halone : (s.dev.atCyc cyc).ReducesAlone k dir (outNow s k dir cyc / 512 % 2) cyc a h :=
      ⟨hkind, hgroup, hhead, hearly, hsound, harr, htag, hseq, hblocked, hlent,
        (congrArg Prod.fst (s.dev.linkOpen_atCyc hn cyc cyc)).trans hopen⟩
    obtain ⟨hwires, hqueue, hleft⟩ := Device.sendGroup_reduces (d := s.dev.atCyc cyc) hup halone hn hswap
    have hrun : s.dev.inArray (reduceSend k dir cyc) = _ := (if_pos hruns).trans (reduceSend_group hup hvalid hkind)
    dsimp only
    rw [hrun]
    exact ⟨hwires, hqueue, hleft, rfl, rfl⟩
  · obtain ⟨x, hx, hxleft⟩ := flitDelivery_delivers hup hflit havail hleft hdel hdest hocc hrun
    have hrun' : s.dev.inArray (flitDelivery k dir slot cyc) = _ := (if_pos hruns).trans hx
    dsimp only
    rw [hrun', Device.modTile_tile, Device.arr, Device.modTile_scrim]
    exact ⟨(Tile.queue_setQueue _ _ _ _).trans (if_pos rfl), (s.dev.atCyc cyc).notMem_left_setArr (skey k dir slot) hxleft, rfl, rfl⟩

end Sys2Proof.Machine
end

section
/-! PROOFS. Streams and fills of the weight store; O19 (R206, R208). -/
namespace Sys2Proof.Machine

/-! ### Slices and words -/

@[simp] theorem Device.slice_setSlice (d : Device) (j i : Nat) (x : Slice) :
    (d.setSlice j x).slice i = if i = j then x else d.slice i := by
  unfold Device.slice Device.setSlice
  exact Store.get_set d.slices j i x

theorem Device.Speaks.slices_eq {d e : Device} (h : d.Speaks e) : e.slices = d.slices := by
  have := congrArg Device.slices h
  exact this

theorem Device.Speaks.slice_eq {d e : Device} (h : d.Speaks e) (i : Nat) : e.slice i = d.slice i :=
  congrArg (Store.get slice0 · i) h.slices_eq

theorem Device.Speaks.hbm_eq {d e : Device} (h : d.Speaks e) : e.hbm = d.hbm := by
  have := congrArg Device.hbm h
  exact this

/-- A number that fits a word reads back from the register it is written to. -/
theorem Device.rn_setN (d : Device) (o : Nat) {n : Nat} (h : n < 2 ^ 32) : (d.setN o n).rn o = n := by
  rw [Device.rn, Device.setN_eq, Device.reg_setReg, if_pos rfl, wd, BitVec.toNat_ofNat, Nat.mod_eq_of_lt h]

/-- The fault log changes no register above the FLT page. -/
theorem notMem_faultRegs_above {o : Nat} (h : 0x10000 ≤ o) : o ∉ faultRegs := fun hm => by
  have hlow : ∀ x ∈ faultRegs, x < 0x10000 := by decide
  exact absurd (hlow o hm) (Nat.not_lt.2 h)

/-! ### Streams (R206) -/

theorem Device.streamMarks_clean {d : Device} (h : d.upsets = []) (j line : Nat) (l : List Nat) : d.streamMarks j line l = d := by
  simp [Device.streamMarks, Device.marks, h]

/-- Counting a read of a slice leaves the registers of its streams. -/
theorem Device.reg_count64_stream (d : Device) (j k : Nat) {i n : Nat} (hi : i < 8) (hn : n < 0x10) :
    (d.count64 (R.wst_READS_LO j) k).reg (0x90100 + n + 0x1000 * j + 0x10 * i) = d.reg (0x90100 + n + 0x1000 * j + 0x10 * i) := by
  refine d.reg_setN64 _ ?_
  simp only [List.mem_cons, List.not_mem_nil, or_false, R.wst_READS_LO]
  omega

/-- A stream alone in its cycle: the read is counted, and the stream sends its line. -/
theorem streamRead_alone {d : Device} {j cyc i : Nat} (hup : d.upsets = [])
    (hready : ((List.range 8).filter fun i => d.streamReady j i cyc) = [i]) :
    streamRead j cyc d = ((d.atCyc cyc).count64 (R.wst_READS_LO j) 1).streamSend j i cyc
      (BitVec.ofNat 256 (Memory.rd (d.slice j).bytes (32 * d.rf (R.wst_SPOS j i) 0 17) 32)) := by
  have hready' : ((List.range 8).filter fun i => (d.atCyc cyc).streamReady j i cyc) = [i] := hready
  unfold streamRead
  simp only [hready', List.filter_nil, List.length_singleton, List.length_nil, Nat.lt_irrefl, gt_iff_lt, if_false, Nat.zero_add,
    List.foldl_cons, List.foldl_nil]
  rw [Device.streamMarks_clean]
  · rfl
  · exact hup

/-- A stream sends its current line towards its tile and advances; it changes no register but its SPOS. -/
theorem Device.streamSend_spec (d : Device) (j i c : Nat) (data : BitVec 256) :
    let cur := d.rf (R.wst_SPOS j i) 0 17
    let first := d.rf (R.wst_SADDR j i) 0 17
    let fin := first + d.rf (R.wst_SLEN j i) 0 18
    let e := d.streamSend j i c data
    e.scrim.wires = d.scrim.wires ++ [⟨skey (d.streamInto j i).1 (d.streamInto j i).2 (c % 16),
        ⟨0, BitVec.ofNat 12 (cur - first), data⟩, c + 1⟩] ∧
      e.rn (R.wst_SPOS j i) = (if cur + 1 < fin then cur + 1 else if d.rf (R.wst_SCFG j i) 9 1 = 1 then first else fin % 2 ^ 17) ∧
      (¬cur + 1 < fin → d.rf (R.wst_SCFG j i) 9 1 = 0 → i ∈ (e.slice j).stopped) ∧ (e.slice j).bytes = (d.slice j).bytes ∧
      ∀ o, o ≠ R.wst_SPOS j i → e.reg o = d.reg o := by
  intro cur first fin e
  have hcur : cur < 2 ^ 17 := fld_lt _ _ _
  have hfirst : first < 2 ^ 17 := fld_lt _ _ _
  have hreg : ∀ (x : Device) (n o : Nat), o ≠ R.wst_SPOS j i → (x.setN (R.wst_SPOS j i) n).reg o = x.reg o := fun x n o ho => by
    rw [Device.setN_eq, Device.reg_setReg, if_neg ho]
  let d1 := d.wire (skey (d.streamInto j i).1 (d.streamInto j i).2 (c % 16)) ⟨0, BitVec.ofNat 12 (cur - first), data⟩ (c + 1)
  by_cases hnext : cur + 1 < fin
  · have he : e = d1.setN (R.wst_SPOS j i) (cur + 1) := if_pos hnext
    rw [he, if_pos hnext]
    exact ⟨rfl, d1.rn_setN _ (by omega), fun h => absurd hnext h, rfl, hreg d1 _⟩
  · by_cases hloop : d.rf (R.wst_SCFG j i) 9 1 = 1
    · have he : e = d1.setN (R.wst_SPOS j i) first := (if_neg hnext).trans (if_pos hloop)
      rw [he, if_neg hnext, if_pos hloop]
      exact ⟨rfl, d1.rn_setN _ (by omega), fun _ h => by omega, rfl, hreg d1 _⟩
    · have he : e = (d1.setN (R.wst_SPOS j i) (fin % 2 ^ 17)).setSlice j { d.slice j with stopped := i :: (d.slice j).stopped } :=
        (if_neg hnext).trans (if_neg hloop)
      rw [he, if_neg hnext, if_neg hloop, Device.slice_setSlice, if_pos rfl]
      exact ⟨rfl, d1.rn_setN _ (by omega), fun _ _ => List.mem_cons_self, rfl, hreg d1 _⟩

/-! ### Fills (R208) -/

theorem Device.hbmRead_clean {d : Device} (h : d.upsets = []) (a n : Nat) : d.hbmRead a n = (none, d) := by
  simp [Device.hbmRead, Device.marks, h]

theorem Device.areaRange_speaks (d : Device) (a : Nat) : d.Speaks (d.areaRange a) :=
  (d.err_speaks _ _ _ _).trans (Device.evtBit_speaks _ _ _)

/-- An address outside OPERATOR is an error of HBM page 0. -/
theorem Device.areaRange_reg (d : Device) (a o : Nat) (h : o ∉ faultRegs)
    (h2 : o ∉ [0xD0020, 0xD0030, 0xD0034, 0xD0038, 0xD003C]) : (d.areaRange a).reg o = d.reg o := by
  have hdrop : o ≠ R.hif_MSIX_DROPPED := by
    rintro rfl
    exact h (by decide)
  have hraw : o ≠ 0xD0020 := by
    rintro rfl
    exact h2 (by decide)
  rw [Device.areaRange, Device.evtBit_reg _ _ _ _ hdrop, if_neg hraw, Device.err_reg _ _ _ _ _ _ h h2]

/-- FILL_STATUS set, and an event bit of the slice's page raised: FILL_STATUS holds what was set. -/
theorem Device.fillStatus_rn (d : Device) (j i : Nat) {n : Nat} (h : n < 2 ^ 32) :
    ((d.setN (R.wst_FILL_STATUS j) n).evtBit (wstPage j) i).rn (R.wst_FILL_STATUS j) = n := by
  have hdrop : R.wst_FILL_STATUS j ≠ R.hif_MSIX_DROPPED := by unfold R.wst_FILL_STATUS R.hif_MSIX_DROPPED; omega
  have hraw : R.wst_FILL_STATUS j ≠ wstPage j + 0x20 := by unfold R.wst_FILL_STATUS wstPage; omega
  rw [Device.rn, Device.evtBit_reg _ _ _ _ hdrop, if_neg hraw]
  exact d.rn_setN _ h

section
variable {d : Device} {j : Nat} {p : Port} {v : Word} (hgo : fld v 0 1 = 1) (hidle : d.rf (R.wst_FILL_STATUS j) 0 1 = 0)
include hgo hidle

theorem wstFillGo_empty (hn : d.rf (R.wst_FILL_LEN j) 0 18 = 0) :
    wstFillGo j p v d = (d.setN (R.wst_FILL_STATUS j) 2).evtBit (wstPage j) 16 := by
  unfold wstFillGo
  simp only [hgo, hidle, hn, Nat.one_ne_zero, Nat.zero_ne_one, or_self, if_false, if_true]

variable (hn : d.rf (R.wst_FILL_LEN j) 0 18 ≠ 0) (hlines : d.rf (R.wst_FILL_ADDR j) 0 17 + d.rf (R.wst_FILL_LEN j) 0 18 ≤ 131072)
include hn hlines

theorem wstFillGo_starts (hop : d.inOperator (d.rn64 (R.wst_FILL_HBM_LO j)) (32 * d.rf (R.wst_FILL_LEN j) 0 18) = true) :
    wstFillGo j p v d = (d.setN (R.wst_FILL_STATUS j) 1).setSlice j { d.slice j with
      fill := some ⟨d.rf (R.wst_FILL_ADDR j) 0 17, d.rf (R.wst_FILL_LEN j) 0 18, d.rn64 (R.wst_FILL_HBM_LO j)⟩ } := by
  unfold wstFillGo
  simp only [hgo, hidle, hn, Nat.not_lt.2 hlines, hop, Nat.one_ne_zero, Nat.zero_ne_one, or_self, if_false, Bool.not_true,
    Bool.false_eq_true]

theorem wstFillGo_outside (hop : d.inOperator (d.rn64 (R.wst_FILL_HBM_LO j)) (32 * d.rf (R.wst_FILL_LEN j) 0 18) = false) :
    wstFillGo j p v d = (d.setN (R.wst_FILL_STATUS j) 4).areaRange (d.rn64 (R.wst_FILL_HBM_LO j)) := by
  unfold wstFillGo
  simp only [hgo, hidle, hn, Nat.not_lt.2 hlines, hop, Nat.one_ne_zero, Nat.zero_ne_one, or_self, if_false, Bool.not_false, if_true]

end

theorem Device.fillLines_clean {d : Device} (h : d.upsets = []) (j line n a : Nat) :
    d.fillLines j line n a =
      d.setSlice j { d.slice j with bytes := Memory.wrBytes (d.slice j).bytes (32 * line) (d.hbmBytesAt a (32 * n)) } := by
  rw [Device.fillLines, Device.mend_clean]
  exact h

/-- A fill that meets no upset HBM word copies every line and ends DONE. -/
theorem wstFillDone_copies {d : Device} {j cyc : Nat} {f : WFill} (hup : d.upsets = []) (hf : (d.slice j).fill = some f) :
    ∃ e : Device, wstFillDone j cyc d = (e.setN (R.wst_FILL_STATUS j) 2).evtBit (wstPage j) 16 ∧ e.hbm = d.hbm ∧
      ∀ i, e.slice i = if i = j then { d.slice j with
        bytes := Memory.wrBytes (d.slice j).bytes (32 * f.line) (d.hbmBytesAt f.addr (32 * f.left))
        fill := none } else d.slice i := by
  have hf' : ((d.atCyc cyc).slice j).fill = some f := hf
  let d1 := (d.atCyc cyc).setSlice j { d.slice j with fill := none }
  have hd1 : ∀ i, d1.slice i = if i = j then { d.slice j with fill := none } else d.slice i := fun i => (d.atCyc cyc).slice_setSlice j i _
  have hlines := Device.fillLines_clean (d := d1) hup j f.line f.left f.addr
  rw [hd1, if_pos rfl] at hlines
  refine ⟨d1.fillLines j f.line f.left f.addr, ?_, by rw [hlines]; rfl, fun i => ?_⟩
  · unfold wstFillDone
    simp only [hf', Device.hbmRead_clean (d := d.atCyc cyc) hup]
    rfl
  · rw [hlines, Device.slice_setSlice, hd1]
    split <;> rfl

theorem Memory.length_rdBytes (m : Memory) (a n : Nat) : (Memory.rdBytes m a n).length = n := by
  induction n generalizing a with
  | zero => rfl
  | succ n ih => rw [Memory.rdBytes, List.length_cons, ih]

theorem Memory.getElem_rdBytes (m : Memory) (a n i : Nat) (h : i < (Memory.rdBytes m a n).length) :
    (Memory.rdBytes m a n)[i] = Memory.rd8 m (a + i) := by
  induction n generalizing a i with
  | zero => exact absurd h (Nat.not_lt_zero i)
  | succ n ih =>
    cases i with
    | zero => rfl
    | succ i =>
      rw [Memory.length_rdBytes] at h
      simp only [Memory.rdBytes, List.getElem_cons_succ]
      rw [ih, Nat.add_right_comm, Nat.add_assoc]

/-- Bytes copied from one memory to another. -/
theorem Memory.rd8_copy (m h : Memory) (a b n x : Nat) :
    Memory.rd8 (Memory.wrBytes m a (Memory.rdBytes h b n)) x = if a ≤ x ∧ x < a + n then Memory.rd8 h (b + (x - a)) else Memory.rd8 m x := by
  rw [Memory.rd8_wrBytes]
  by_cases hx : a ≤ x ∧ x < a + n
  · rw [if_pos hx, dif_pos ⟨hx.1, by rw [Memory.length_rdBytes]; omega⟩, Memory.getElem_rdBytes]
  · rw [if_neg hx, dif_neg (by rw [Memory.length_rdBytes]; omega)]

/-! ### O19 -/

/-- Settles O19: a stream alone in its cycle sends its line; a fill starts, is refused, or copies its lines. -/
theorem weightStoreStreamsAndFills : Obligations.WeightStoreStreamsAndFills := by
  unfold Obligations.WeightStoreStreamsAndFills
  refine ⟨fun s j cyc i hs hready => ?_, fun s j q hw hgo hidle => ⟨fun hn => ⟨_, rfl, ?_⟩, fun hn hlines hop => ⟨_, rfl, ?_⟩,
    fun hn hlines hop => ⟨_, rfl, ?_⟩⟩, fun s j cyc f hs hf => ⟨_, rfl, ?_⟩⟩
  · obtain ⟨hruns, hup⟩ := hs
    intro cur first fin
    refine ⟨_, rfl, ?_⟩
    have hi : i < 8 := List.mem_range.1 (List.mem_filter.1 (hready ▸ List.mem_singleton_self i)).1
    have hrun : s.dev.inArray (streamRead j cyc) = _ := (if_pos hruns).trans (streamRead_alone hup hready)
    let d1 := (s.dev.atCyc cyc).count64 (R.wst_READS_LO j) 1
    have hstream : ∀ n < 0x10, d1.reg (0x90100 + n + 0x1000 * j + 0x10 * i) = s.dev.reg (0x90100 + n + 0x1000 * j + 0x10 * i) :=
      fun n hn => (s.dev.atCyc cyc).reg_count64_stream j 1 hi hn
    have hpair : ∀ o ∈ [R.wst_READS_LO j, R.wst_READS_LO j + 4], o ≠ R.wst_SPOS j i := by
      simp only [List.mem_cons, List.not_mem_nil, or_false, R.wst_READS_LO, R.wst_SPOS]
      omega
    obtain ⟨hwires, hspos, hstop, hbytes, hregs⟩ := d1.streamSend_spec j i cyc
      (BitVec.ofNat 256 (Memory.rd (s.dev.slice j).bytes (32 * cur) 32))
    simp only [Device.streamInto, Device.rf, hstream 0 (by omega), hstream 4 (by omega), hstream 8 (by omega),
      hstream 0xC (by omega)] at hwires hspos hstop
    dsimp only
    rw [hrun]
    refine ⟨?_, hwires, hspos, hstop, hbytes, fun o ho => ?_, rfl, rfl⟩
    · rw [Device.rn64, Device.rn, Device.rn, hregs _ (hpair _ (by simp)), hregs _ (hpair _ (by simp))]
      exact Device.rn64_setN64 _ _ (by omega)
    · simp only [List.mem_cons, List.not_mem_nil, or_false, not_or] at ho
      obtain ⟨hlo, hhi, hpos⟩ := ho
      exact (hregs o hpos).trans ((s.dev.atCyc cyc).reg_setN64 _ (by simp [hlo, hhi]))
  · have hrun : s.dev.writeAt q (R.wst_FILL_CTRL j) (wstFillGo j q.port q.data) = _ :=
      (Device.writeAt_of_writes hw).trans (wstFillGo_empty hgo hidle hn)
    dsimp only
    rw [hrun]
    exact ⟨Device.fillStatus_rn _ _ _ (by omega), (Device.evtBit_speaks _ _ _).slices_eq, rfl, rfl⟩
  · have hrun : s.dev.writeAt q (R.wst_FILL_CTRL j) (wstFillGo j q.port q.data) = _ :=
      (Device.writeAt_of_writes hw).trans (wstFillGo_starts hgo hidle hn hlines hop)
    dsimp only
    rw [hrun, Device.slice_setSlice, if_pos rfl]
    refine ⟨Device.rn_setN _ _ (by omega), rfl, rfl, fun o ho => ?_, rfl, rfl⟩
    exact (Device.reg_setReg _ _ _ _).trans (if_neg (List.mem_singleton.not.1 ho))
  · have hrun : s.dev.writeAt q (R.wst_FILL_CTRL j) (wstFillGo j q.port q.data) = _ :=
      (Device.writeAt_of_writes hw).trans (wstFillGo_outside hgo hidle hn hlines hop)
    have hfault : R.wst_FILL_STATUS j ∉ faultRegs := notMem_faultRegs_above (by unfold R.wst_FILL_STATUS; omega)
    have hpage : R.wst_FILL_STATUS j ∉ [0xD0020, 0xD0030, 0xD0034, 0xD0038, 0xD003C] := by
      simp only [List.mem_cons, List.not_mem_nil, or_false, R.wst_FILL_STATUS]
      omega
    dsimp only
    rw [hrun, Device.rn, Device.areaRange_reg _ _ _ hfault hpage]
    exact ⟨Device.rn_setN _ _ (by omega), (Device.areaRange_speaks _ _).slices_eq, rfl, rfl⟩
  · obtain ⟨hruns, hup⟩ := hs
    obtain ⟨e, he, hhbm, hslice⟩ := wstFillDone_copies (cyc := cyc) hup hf
    have hrun : s.dev.inArray (wstFillDone j cyc) = _ := (if_pos hruns).trans he
    have hspeaks := (e.setN (R.wst_FILL_STATUS j) 2).evtBit_speaks (wstPage j) 16
    have hfilled : ∀ i, ((e.setN (R.wst_FILL_STATUS j) 2).evtBit (wstPage j) 16).slice i = _ :=
      fun i => (hspeaks.slice_eq i).trans (hslice i)
    dsimp only
    rw [hrun]
    refine ⟨fun b => ?_, ?_, e.fillStatus_rn _ _ (by omega), hspeaks.hbm_eq.trans hhbm, fun i hi => ?_, rfl, rfl⟩
    · rw [hfilled, if_pos rfl, Nat.mul_add]
      exact Memory.rd8_copy _ _ _ _ _ b
    · rw [hfilled, if_pos rfl]
    · rw [hfilled, if_neg hi]

end Sys2Proof.Machine
end

section
/-! PROOFS. The control lane, stencil loads and readbacks; O20 (R210, R211, R216 to R218). -/
namespace Sys2Proof.Machine

/-! ### The control lane (R210, R211) -/

/-- An access of a requester with none outstanding to another row, to a powered bay, is carried and counted. -/
theorem tilePageAccess_carried {d : Device} {port : Port} {k : Nat} (cyc : Nat)
    (hlane : ∀ a ∈ d.scrim.lane, a.port = port → a.tile / 64 = k / 64) (hbay : d.bit64 R.pow_BAY_ON_LO (bayOf k) = true) :
    tilePageAccess port k [] cyc d =
      ((d.atCyc cyc).scr fun s => { s with lane := s.lane ++ [⟨port, k, cyc⟩] }).count R.scm_CTL_ACCESSES 1 := by
  have hany : ((d.atCyc cyc).scrim.lane.any fun a => a.port == port && a.tile / 64 != k / 64) = false := by
    rw [List.any_eq_false]
    intro a ha
    simpa using hlane a ha
  have hbay' : (d.atCyc cyc).bit64 R.pow_BAY_ON_LO (bayOf k) = true := hbay
  unfold tilePageAccess
  simp only [hany, hbay', Bool.not_true, Bool.false_eq_true, if_false, List.foldl_nil]

/-- The access that completes leaves the lane, and the longest latency is kept. -/
theorem tileAccessDone_leaves {d : Device} {k : Nat} {a : LaneAcc} (cyc : Nat) (ha : d.scrim.lane.find? (·.tile == k) = some a) :
    tileAccessDone k cyc d = ((d.atCyc cyc).scr fun s => { s with lane := s.lane.erase a }).setN R.scm_CTL_MAX_LAT
      (max (d.rn R.scm_CTL_MAX_LAT) (min 65535 (cyc - a.cyc))) := by
  unfold tileAccessDone
  simp only [Device.atCyc_scrim, ha]
  rfl

/-! ### A stencil load begins (R216) -/

/-- A refused load shows REFUSED with its reason. -/
theorem Device.stencilRefused_status (d : Device) (fail : Nat) {reason : Nat} (h : reason < 16) :
    (d.stencilRefused reason fail).rn R.scm_LOAD_STATUS = 4 + 16 * reason := by
  rw [Device.rn, Device.stencilRefused, Device.evtBit_reg _ _ _ _ (by decide), if_neg (by decide),
    Device.err_reg _ _ _ _ _ _ (notMem_faultRegs_above (by decide)) (by decide), Device.setN_eq, Device.reg_setReg, if_neg (by decide)]
  exact d.rn_setN _ (by omega)

theorem Device.stencilRefused_scrim (d : Device) (reason fail : Nat) : (d.stencilRefused reason fail).scrim = d.scrim :=
  (((Device.setN _ R.scm_LOAD_FAIL fail).err_speaks _ _ _ _).trans (Device.evtBit_speaks _ _ _)).scrim_eq

section
variable {v : Word} {d d0 : Device} (hd0 : d.setN R.scm_LOAD_CTRL (fld v 0 1 + 256 * fld v 8 6) = d0) (hgo : fld v 31 1 = 1)
  (hst1 : d0.rf R.scm_LOAD_STATUS 0 2 ≠ 1) (hst2 : d0.rf R.scm_LOAD_STATUS 0 2 ≠ 2)
include hd0 hgo hst1 hst2

/-- A base section outside OPERATOR is refused. -/
theorem stencilLoadGo_outside (hbase : fld v 0 1 = 0) (hop : d0.inOperator (d0.rn64 R.scm_LOAD_SRC_LO) (52 * 4096) = false) :
    stencilLoadGo v d = (d0.areaRange (d0.rn64 R.scm_LOAD_SRC_LO)).stencilRefused 1 0 := by
  unfold stencilLoadGo
  simp only [hd0]
  simp only [hgo, hst1, hst2, Nat.one_ne_zero, or_self, if_false, hbase, if_true, Option.isNone_none, hop, Bool.not_false]

/-- A base section in OPERATOR that every check passes, with Render HELD, is in load. -/
theorem stencilLoadGo_base (hup : d0.upsets = []) (hbase : fld v 0 1 = 0) {n : Nat} (hn : 52 * 4096 = n)
    (hop : d0.inOperator (d0.rn64 R.scm_LOAD_SRC_LO) n = true) (hheld : d0.rf R.skm_RENDER_STATE 0 2 = 2)
    (hchk : d0.stencilCheck none (baseEntries (d0.hbmBytesAt (d0.rn64 R.scm_LOAD_SRC_LO) n)).1 = none) :
    stencilLoadGo v d = (d0.scr fun s => { s with
      load := some ⟨none, (baseEntries (d0.hbmBytesAt (d0.rn64 R.scm_LOAD_SRC_LO) n)).1,
        (baseEntries (d0.hbmBytesAt (d0.rn64 R.scm_LOAD_SRC_LO) n)).2, d0.now.cyc⟩ }).setN R.scm_LOAD_STATUS 2 := by
  unfold stencilLoadGo
  rw [hn]
  simp only [hd0]
  simp only [hgo, hst1, hst2, Nat.one_ne_zero, or_self, if_false, hbase, if_true, Option.isNone_none, hop, Bool.not_true,
    Bool.false_eq_true, Device.hbmRead_clean hup, hheld, ne_eq, not_true_eq_false, and_false, hchk]

/-- A region section in OPERATOR that every check passes is in load. -/
theorem stencilLoadGo_region (hup : d0.upsets = []) (hregion : fld v 0 1 = 1) {tiles : List Nat} {n : Nat}
    (htiles : ((d0.regionTiles (fld v 8 6)).filter fun k => d0.nCtx k ≠ 0) = tiles) (hn : n = 144 * tiles.length)
    (hop : d0.inOperator (d0.rn64 R.scm_LOAD_SRC_LO) n = true)
    (hchk : d0.stencilCheck (some (fld v 8 6)) (regionEntries (d0.hbmBytesAt (d0.rn64 R.scm_LOAD_SRC_LO) n) tiles) = none) :
    stencilLoadGo v d = (d0.scr fun s => { s with
      load := some ⟨some (fld v 8 6), regionEntries (d0.hbmBytesAt (d0.rn64 R.scm_LOAD_SRC_LO) n) tiles, [], d0.now.cyc⟩ }).setN
        R.scm_LOAD_STATUS 2 := by
  subst hn
  unfold stencilLoadGo
  simp only [hd0]
  simp only [hgo, hst1, hst2, Nat.one_ne_zero, or_self, if_false, hregion, Option.isNone_some, hop, Bool.not_true,
    Bool.false_eq_true, Device.hbmRead_clean hup, false_and, htiles, hchk]

end

/-! ### A stencil load ends (R217) -/

/-- Entries set one after another leave a key that none of them names. -/
theorem Store.get_foldl_set_absent {l : List (Nat × Nat)} (f : Nat → Nat) {j : Nat} (h : ∀ e ∈ l, f e.1 ≠ j) (m : Store Nat) :
    Store.get zeroN (l.foldl (fun m e => Store.set zeroN m (f e.1) e.2) m) j = Store.get zeroN m j := by
  induction l generalizing m with
  | nil => rfl
  | cons e l ih =>
    rw [List.forall_mem_cons] at h
    rw [List.foldl_cons, ih h.2, Store.get_set, if_neg h.1.symm]

/-- Entries set one after another under distinct keys all stand. -/
theorem Store.get_foldl_set_mem {l : List (Nat × Nat)} {f : Nat → Nat} (h : l.Pairwise fun a b => f a.1 ≠ f b.1) {e : Nat × Nat} (he : e ∈ l)
    (m : Store Nat) : Store.get zeroN (l.foldl (fun m e => Store.set zeroN m (f e.1) e.2) m) (f e.1) = e.2 := by
  induction l generalizing m with
  | nil => exact absurd he List.not_mem_nil
  | cons x l ih =>
    rw [List.pairwise_cons] at h
    rw [List.foldl_cons]
    rcases List.mem_cons.1 he with rfl | he
    · rw [Store.get_foldl_set_absent f (fun y hy => (h.1 y hy).symm), Store.get_set, if_pos rfl]
    · exact ih h.2 he _

/-- Every entry of a section of distinct entries stands as given, and every other as before: `entryUnder` with no section over the tables
is what the tables hold. -/
theorem Device.entryUnder_writeEntries (d : Device) {es : List (Nat × Nat)} (pipes : List (Nat × Nat)) (h : (es.map Prod.fst).Nodup) :
    (∀ e ∈ es, entryUnder (d.writeEntries es pipes) [] e.1 = e.2) ∧
      ∀ key, key ∉ es.map Prod.fst → entryUnder (d.writeEntries es pipes) [] key = entryUnder d [] key := by
  have hdistinct : es.Pairwise fun a b => a.1 ≠ b.1 := List.pairwise_map.1 h
  have hdel : (es.filter fun e => decide (2 ^ 18 ≤ e.1)).Pairwise fun a b => a.1 - 2 ^ 18 ≠ b.1 - 2 ^ 18 :=
    List.pairwise_filter.2 (hdistinct.imp fun hab ha hb => by
      simp only [decide_eq_true_eq] at ha hb
      omega)
  refine ⟨fun e he => ?_, fun key hkey => ?_⟩
  · by_cases hout : e.1 < 2 ^ 18
    · exact (if_pos hout).trans
        (Store.get_foldl_set_mem (f := id) (hdistinct.filter _) (List.mem_filter.2 ⟨he, by simpa using hout⟩) d.scrim.outE)
    · exact (if_neg hout).trans
        (Store.get_foldl_set_mem (f := (· - 2 ^ 18)) hdel (List.mem_filter.2 ⟨he, by simpa using hout⟩) d.scrim.delE)
  · have hne : ∀ e ∈ es, e.1 ≠ key := fun e he heq => hkey (heq ▸ List.mem_map_of_mem he)
    by_cases hout : key < 2 ^ 18
    · refine (if_pos hout).trans (Eq.trans ?_ (if_pos hout).symm)
      exact Store.get_foldl_set_absent id (fun e he => hne e (List.mem_of_mem_filter he)) d.scrim.outE
    · refine (if_neg hout).trans (Eq.trans ?_ (if_neg hout).symm)
      refine Store.get_foldl_set_absent (· - 2 ^ 18) (fun e he => ?_) d.scrim.delE
      obtain ⟨hmem, hge⟩ := List.mem_filter.1 he
      have := hne e hmem
      simp only [decide_eq_true_eq] at hge
      omega

/-- The end of a load writes its entries and shows DONE. -/
theorem stencilLoadDone_writes {d : Device} {x : StnLoad} (cyc : Nat) (hx : d.scrim.load = some x) :
    stencilLoadDone cyc d = ((((d.atCyc cyc).writeEntries x.entries x.pipes).scr fun s => { s with load := none }).setN
      R.scm_LOAD_STATUS 3).evtBit 0x80000 16 := by
  unfold stencilLoadDone
  simp only [Device.atCyc_scrim, hx]

/-! ### Readbacks (R218) -/

theorem stencilRead_starts {v : Word} (d : Device) (h : fld v 31 1 = 1) :
    stencilRead v d = ((d.setReg R.scm_STN_SEL (v &&& 0x010F3FFF#32)).scr fun s => { s with readback := some d.now.cyc }).setN
      R.scm_STN_DATA (2 ^ 30) :=
  if_pos h

/-- The end of a readback gives the entry selected, with PIPE of that output and VALID. -/
theorem stencilReadDone_answers {d : Device} {c : Nat} (cyc : Nat) (h : d.scrim.readback = some c) :
    let k := d.rf R.scm_STN_SEL 0 12
    let dir := d.rf R.scm_STN_SEL 12 2
    let key := skey k dir (d.rf R.scm_STN_SEL 16 4)
    stencilReadDone cyc d = ((d.atCyc cyc).scr fun s => { s with readback := none }).setN R.scm_STN_DATA
      (2 ^ 31 + 65536 * d.pipeOf k dir +
        (if d.rf R.scm_STN_SEL 24 1 = 0 then Store.get zeroN d.scrim.outE key else Store.get zeroN d.scrim.delE key) % 65536) := by
  intro k dir key
  unfold stencilReadDone
  simp only [Device.atCyc_scrim, h, Option.isNone_some, Bool.false_eq_true, if_false]
  refine congrArg (Device.setN _ _) ?_
  rw [Nat.add_comm, Nat.add_comm (_ % 65536), ← Nat.add_assoc]
  rfl

/-! ### O20 -/

/-- Settles O20: lane accesses are carried and timed, stencil loads checked and written, entries read back. -/
theorem laneAccessesAndStencilLoads : Obligations.LaneAccessesAndStencilLoads := by
  unfold Obligations.LaneAccessesAndStencilLoads
  refine ⟨fun s port k cyc hruns hlane hbay => ⟨_, rfl, ?_⟩, fun s k cyc a hruns ha => ⟨_, rfl, ?_⟩,
    fun s q hw hgo => ?_, fun s cyc x hruns hx hnodup => ⟨_, rfl, ?_⟩, fun s q hw hread => ⟨_, rfl, ?_⟩, fun s cyc c hruns hback => ?_⟩
  · have hrun : s.dev.inArray (tilePageAccess port k [] cyc) = _ := (if_pos hruns).trans (tilePageAccess_carried cyc hlane hbay)
    dsimp only
    rw [hrun, Device.count_eq, Device.reg_setReg, if_pos rfl]
    refine ⟨rfl, rfl, fun o ho => ?_, rfl, rfl⟩
    exact (Device.reg_setReg _ _ _ _).trans (if_neg (List.mem_singleton.not.1 ho))
  · have hrun : s.dev.inArray (tileAccessDone k cyc) = _ := (if_pos hruns).trans (tileAccessDone_leaves cyc ha)
    have hold : s.dev.rn R.scm_CTL_MAX_LAT < 2 ^ 32 := (s.dev.reg R.scm_CTL_MAX_LAT).isLt
    dsimp only
    rw [hrun]
    refine ⟨rfl, Device.rn_setN _ _ (by omega), fun o ho => ?_, rfl, rfl⟩
    exact (Device.reg_setReg _ _ _ _).trans (if_neg (List.mem_singleton.not.1 ho))
  · intro d src hst1 hst2
    refine ⟨fun hbase hop => ⟨_, rfl, ?_⟩, fun hbase hop hup hheld hchk => ⟨_, rfl, ?_⟩,
      fun tiles n hregion htiles hn hop hup hchk => ⟨_, rfl, ?_⟩⟩
    · have hrun : s.dev.writeAt q R.scm_LOAD_CTRL (stencilLoadGo q.data) = _ :=
        (Device.writeAt_of_writes hw).trans (stencilLoadGo_outside (d0 := d) rfl hgo hst1 hst2 hbase hop)
      dsimp only
      rw [hrun]
      exact ⟨Device.stencilRefused_status _ _ (by omega),
        (Device.stencilRefused_scrim _ _ _).trans (Device.areaRange_speaks _ _).scrim_eq, rfl, rfl⟩
    · have hrun : s.dev.writeAt q R.scm_LOAD_CTRL (stencilLoadGo q.data) = _ :=
        (Device.writeAt_of_writes hw).trans (stencilLoadGo_base (d0 := d) rfl hgo hst1 hst2 hup hbase rfl hop hheld hchk)
      dsimp only
      rw [hrun]
      exact ⟨Device.rn_setN _ _ (by omega), ⟨rfl, rfl⟩, rfl⟩
    · have hrun : s.dev.writeAt q R.scm_LOAD_CTRL (stencilLoadGo q.data) = _ :=
        (Device.writeAt_of_writes hw).trans (stencilLoadGo_region (d0 := d) rfl hgo hst1 hst2 hup hregion htiles hn hop hchk)
      dsimp only
      rw [hrun]
      exact ⟨Device.rn_setN _ _ (by omega), ⟨rfl, rfl⟩, rfl⟩
  · have hrun : s.dev.inArray (stencilLoadDone cyc) = _ := (if_pos hruns).trans (stencilLoadDone_writes cyc hx)
    obtain ⟨hgiven, hkept⟩ := (s.dev.atCyc cyc).entryUnder_writeEntries x.pipes hnodup
    dsimp only
    rw [hrun, (Device.evtBit_speaks _ _ _).scrim_eq, Device.rn, Device.evtBit_reg _ _ _ _ (by decide), if_neg (by decide)]
    refine ⟨rfl, Device.rn_setN _ _ (by omega), fun e he => ?_, fun key hkey => ?_, rfl, rfl⟩
    · split
      · next hout => exact (if_pos hout).symm.trans (hgiven e he)
      · next hout => exact (if_neg hout).symm.trans (hgiven e he)
    · split
      · next hout => exact (if_pos hout).symm.trans ((hkept key hkey).trans (if_pos hout))
      · next hout => exact (if_neg hout).symm.trans ((hkept key hkey).trans (if_neg hout))
  · have hrun : s.dev.writeAt q R.scm_STN_SEL (stencilRead q.data) = _ :=
      (Device.writeAt_of_writes hw).trans (stencilRead_starts _ hread)
    dsimp only
    rw [hrun]
    refine ⟨?_, Device.rn_setN _ _ (by omega), rfl, fun o ho => ?_, rfl, rfl⟩
    · rw [Device.setN_eq, Device.reg_setReg, if_neg (by decide)]
      exact (Device.reg_setReg _ _ _ _).trans (if_pos rfl)
    · simp only [List.mem_cons, List.not_mem_nil, or_false, not_or] at ho
      obtain ⟨hsel, hdata⟩ := ho
      rw [Device.setN_eq, Device.reg_setReg, if_neg hdata]
      exact (Device.reg_setReg _ _ _ _).trans (if_neg hsel)
  · intro k dir key
    refine ⟨_, rfl, ?_⟩
    have hrun : s.dev.inArray (stencilReadDone cyc) = _ := (if_pos hruns).trans (stencilReadDone_answers cyc hback)
    dsimp only
    rw [hrun]
    refine ⟨rfl, fun o ho => ?_, ⟨rfl, rfl⟩, ?_⟩
    · exact (Device.reg_setReg _ _ _ _).trans (if_neg (List.mem_singleton.not.1 ho))
    · exact (Device.reg_setReg _ _ _ _).trans (if_pos rfl)

end Sys2Proof.Machine
end

section
/-! PROOFS. What transitions, job completions and the clearing of a region leave of the pipelines and of their registers (R230, R233,
R240, R353). -/
namespace Sys2Proof.Machine

/-! ### Pipelines and jobs read after a write -/

@[simp] theorem Device.pipe_setPipe (d : Device) (p k : Nat) (x : Pipe) : (d.setPipe p x).pipe k = if k = p then x else d.pipe k := by
  unfold Device.pipe Device.setPipe
  exact Store.get_set d.pipes p k x

theorem Device.pipe_setPipe_same (d : Device) (p : Nat) (x : Pipe) : (d.setPipe p x).pipe p = x :=
  (d.pipe_setPipe p p x).trans (if_pos rfl)

@[simp] theorem Device.reg_setPipe (d : Device) (p o : Nat) (x : Pipe) : (d.setPipe p x).reg o = d.reg o := rfl

@[simp] theorem Device.pipe_setReg (d : Device) (o k : Nat) (v : Word) : (d.setReg o v).pipe k = d.pipe k := rfl

@[simp] theorem Device.pipe_modJob (d : Device) (id k : Nat) (f : Job → Job) : (d.modJob id f).pipe k = d.pipe k := rfl
@[simp] theorem Device.reg_modJob (d : Device) (id o : Nat) (f : Job → Job) : (d.modJob id f).reg o = d.reg o := rfl

/-- A change of every job that keeps the jobs' numbers changes the job of a number. -/
theorem Device.job_mapJobs (d : Device) {f : Job → Job} (h : ∀ j, (f j).id = j.id) (id : Nat) :
    ({ d with jobs := d.jobs.map f } : Device).job id = (d.job id).map f := by
  have hsame : ((fun j : Job => decide (j.id = id)) ∘ f) = fun j => decide (j.id = id) := by
    funext j
    simp [h]
  show (d.jobs.map f).find? _ = _
  rw [List.find?_map, hsame]
  rfl

theorem Device.id_of_job {d : Device} {id : Nat} {j : Job} (h : d.job id = some j) : j.id = id := by
  simpa using List.find?_some h

/-- The job of a number after it has been changed. -/
theorem Device.job_modJob {d : Device} {id : Nat} {j : Job} {f : Job → Job} (hj : d.job id = some j) (h : ∀ x, (f x).id = x.id) :
    (d.modJob id f).job id = some (f j) := by
  refine (d.job_mapJobs (f := fun x => if x.id = id then f x else x) (fun x => ?_) id).trans ?_
  · split
    · exact h x
    · rfl
  · rw [hj, Option.map_some, if_pos (Device.id_of_job hj)]

/-! ### What leaves the pipelines alone -/

/-- A register of an SCH page or of a tape page, past the page's header. -/
def OfPipe (o : Nat) : Prop := 0x20000 ≤ o ∧ o < 0x80000 ∧ 0x100 ≤ o % 0x1000

theorem OfPipe.notMem_faultRegs {o : Nat} (h : OfPipe o) : o ∉ faultRegs :=
  notMem_faultRegs_above (by obtain ⟨h1, -, -⟩ := h; omega)

/-- The registers past the headers of the SCH pages are among them. -/
theorem ofPipe_sch {p n : Nat} (hp : p < 64) (h : 0x100 ≤ n) (hn : n < 0x1000) : OfPipe (0x20000 + n + 0x1000 * p) := by
  unfold OfPipe
  omega

theorem ofPipe_skimRecord {p : Nat} (hp : p < 64) : OfPipe (skimRecord p) := by
  unfold OfPipe skimRecord R.dad_SKIM_RECORD
  omega

/-- The pipelines, the jobs, the queues, the clocks, HBM and the registers of the pipelines are as they were. -/
structure Device.SparesPipes (d e : Device) : Prop where
  pipes : e.pipes = d.pipes
  jobs : e.jobs = d.jobs
  queues : e.queues = d.queues
  now : e.now = d.now
  hbm : e.hbm = d.hbm
  reg : ∀ o, OfPipe o → e.reg o = d.reg o

namespace Device.SparesPipes
variable {d e f : Device}

theorem refl (d : Device) : d.SparesPipes d := ⟨rfl, rfl, rfl, rfl, rfl, fun _ _ => rfl⟩

theorem trans (h : d.SparesPipes e) (g : e.SparesPipes f) : d.SparesPipes f :=
  ⟨g.pipes.trans h.pipes, g.jobs.trans h.jobs, g.queues.trans h.queues, g.now.trans h.now, g.hbm.trans h.hbm,
    fun o ho => (g.reg o ho).trans (h.reg o ho)⟩

theorem ite {b : Prop} [Decidable b] (h : d.SparesPipes e) (g : d.SparesPipes f) : d.SparesPipes (if b then e else f) := by
  split
  · exact h
  · exact g

/-- A register written on both sides leaves the rest as it was. -/
theorem setReg (h : d.SparesPipes e) (o : Nat) (v : Word) : (d.setReg o v).SparesPipes (e.setReg o v) :=
  ⟨h.pipes, h.jobs, h.queues, h.now, h.hbm, fun x hx => by rw [Device.reg_setReg, Device.reg_setReg, h.reg x hx]⟩

theorem pipe_eq (h : d.SparesPipes e) (p : Nat) : e.pipe p = d.pipe p := congrArg (Store.get pipe0 · p) h.pipes

theorem job_eq (h : d.SparesPipes e) (id : Nat) : e.job id = d.job id := congrArg (List.find? fun j : Job => decide (j.id = id)) h.jobs

theorem queue_eq (h : d.SparesPipes e) (g : Nat) : e.queue g = d.queue g := congrArg (Store.get queue0 · g) h.queues

/-- What holds of one step of a fold holds of the fold. -/
theorem foldl {α : Type} {k : Device → α → Device} (l : List α) (h : ∀ d : Device, ∀ a ∈ l, d.SparesPipes (k d a)) (d : Device) :
    d.SparesPipes (l.foldl k d) :=
  List.foldlRecOn _ _ (motive := fun e => d.SparesPipes e) (refl d) fun e he a ha => he.trans (h e a ha)

end Device.SparesPipes

theorem Device.Speaks.sparesPipes {d e : Device} (h : d.Speaks e) (hreg : ∀ o, OfPipe o → e.reg o = d.reg o) : d.SparesPipes e :=
  ⟨(congrArg Device.pipes h :), (congrArg Device.jobs h :), (congrArg Device.queues h :), (congrArg Device.now h :), h.hbm_eq, hreg⟩

theorem Device.setReg_sparesPipes (d : Device) {o : Nat} (v : Word) (h : ¬OfPipe o) : d.SparesPipes (d.setReg o v) :=
  (d.speaks_setReg o v).sparesPipes fun x hx => (d.reg_setReg o x v).trans (if_neg (ne_of_mem_of_not_mem (s := {y | OfPipe y}) hx h))

theorem Device.count64_sparesPipes (d : Device) {lo : Nat} (n : Nat) (h : ∀ o ∈ [lo, lo + 4], ¬OfPipe o) : d.SparesPipes (d.count64 lo n) :=
  ⟨rfl, rfl, rfl, rfl, rfl, fun o ho => d.reg_setN64 _ fun hm => h o hm ho⟩

/-- An event of a page changes none of these registers. -/
theorem Device.evt_sparesPipes (d : Device) {pg : Nat} (hpg : pg % 0x1000 = 0) (v : Word) : d.SparesPipes (d.evt pg v) :=
  (d.evt_speaks pg v).sparesPipes fun o ⟨h1, h2, h3⟩ => by
    have hmsix : o ≠ R.hif_MSIX_DROPPED := by unfold R.hif_MSIX_DROPPED; omega
    rw [d.evt_reg pg o v hmsix, if_neg (by omega)]

theorem Device.evtBit_sparesPipes (d : Device) {pg : Nat} (hpg : pg % 0x1000 = 0) (i : Nat) : d.SparesPipes (d.evtBit pg i) :=
  d.evt_sparesPipes hpg _

theorem Device.err_sparesPipes (d : Device) {pg : Nat} (hpg : pg % 0x1000 = 0) (code : Nat) (lo hi : Word) :
    d.SparesPipes (d.err pg code lo hi) :=
  (d.err_speaks pg code lo hi).sparesPipes fun o ho => by
    refine d.err_reg pg code lo hi o ho.notMem_faultRegs ?_
    obtain ⟨-, -, h⟩ := ho
    simp only [List.mem_cons, List.not_mem_nil, or_false]
    omega

theorem Device.setEntries_sparesPipes (d : Device) (l : List EvEntry) : d.SparesPipes (d.setEntries l) :=
  ⟨rfl, rfl, rfl, rfl, rfl, fun _ _ => rfl⟩

/-! ### Transitions (R230) -/

theorem Device.devSync_sparesPipes (d : Device) : d.SparesPipes d.devSync := by
  unfold Device.devSync
  refine .ite (.refl d) ((d.setReg_sparesPipes _ ?_).trans (Device.evtBit_sparesPipes _ rfl _))
  unfold OfPipe
  decide

theorem Device.traceRecord_sparesPipes (d : Device) (mk : Nat → List Byte) : d.SparesPipes (d.traceRecord mk) := by
  have hout : ¬OfPipe R.obs_TRACE_SEQ ∧ ¬OfPipe R.obs_TRACE_LOST := by
    unfold OfPipe
    decide
  have hseq := d.setReg_sparesPipes (wd ((d.rn R.obs_TRACE_SEQ + 1) % 2 ^ 32)) hout.1
  unfold Device.traceRecord
  refine .ite (hseq.trans ?_) (hseq.trans ⟨rfl, rfl, rfl, rfl, rfl, fun _ _ => rfl⟩)
  exact ((Device.setReg_sparesPipes _ _ hout.2).trans (Device.evtBit_sparesPipes _ rfl _)).trans (Device.err_sparesPipes _ rfl _ _ _)

theorem Device.closeInterval_sparesPipes (d : Device) (p : Nat) (partl : Bool) : d.SparesPipes (d.closeInterval p partl) := by
  unfold Device.closeInterval
  refine .ite (.refl d) (.trans (.foldl _ (fun d st _ => ?_) d) ⟨rfl, rfl, rfl, rfl, rfl, fun _ _ => rfl⟩)
  exact d.traceRecord_sparesPipes _

theorem Device.setSource_sparesPipes (d : Device) (p : Nat) (l : List Flit) : d.SparesPipes (d.setSource p l) := by
  unfold Device.setSource
  exact .ite ⟨rfl, rfl, rfl, rfl, rfl, fun _ _ => rfl⟩ ⟨rfl, rfl, rfl, rfl, rfl, fun _ _ => rfl⟩

theorem Device.modLw_sparesPipes (d : Device) (k : Nat) (f : LwPort → LwPort) : d.SparesPipes (d.modLw k f) :=
  ⟨rfl, rfl, rfl, rfl, rfl, fun _ _ => rfl⟩

theorem Device.lwTouch_sparesPipes (d : Device) (k : Nat) : d.SparesPipes (d.lwTouch k) := by
  unfold Device.lwTouch
  exact .ite ⟨rfl, rfl, rfl, rfl, rfl, fun _ _ => rfl⟩ (.refl d)

/-- A channel that closes loses flits of its source, not of the adapter (R551). -/
theorem Device.rxFlush_sparesPipes (d : Device) (p : Nat) : d.SparesPipes (d.rxFlush p) := by
  unfold Device.rxFlush
  extract_lets k l keep gone d1 edge d2
  have h1 : d.SparesPipes d1 := (d.setSource_sparesPipes p _).trans (Device.setReg_sparesPipes _ _ fun ⟨_, h, _⟩ => by
    unfold R.lwl_RX_FLUSHED at h
    omega)
  have h2 : d.SparesPipes d2 := h1.trans ⟨rfl, rfl, rfl, rfl, rfl, fun _ _ => rfl⟩
  exact .ite (.refl d) (.ite h2 ((h2.trans (d2.modLw_sparesPipes _ _)).trans (Device.lwTouch_sparesPipes _ _)))

/-- A transition writes STATE; beside it, nothing of the pipelines changes. -/
theorem Device.setPipeStateEv_sparesPipes (d : Device) {p : Nat} (hp : p < 64) (s bits : Nat) :
    (d.setF (R.sch_PIPE_STATE p) 0 3 s).SparesPipes (d.setPipeStateEv p s bits) := by
  unfold Device.setPipeStateEv
  extract_lets cur d0 d1a d1 trace d2
  have h0 : d.SparesPipes d0 := .ite (d.closeInterval_sparesPipes p true) (.refl d)
  have h1a : (d.setF (R.sch_PIPE_STATE p) 0 3 s).SparesPipes d1a := by
    have hwrite := h0.setReg (R.sch_PIPE_STATE p) (setFld (d0.reg (R.sch_PIPE_STATE p)) 0 3 s)
    rw [h0.reg _ (ofPipe_sch (n := 0x100) hp (by omega) (by omega))] at hwrite
    refine (hwrite.trans ?_).trans (Device.devSync_sparesPipes _)
    rw [← h0.reg _ (ofPipe_sch (n := 0x100) hp (by omega) (by omega))]
    exact Device.evt_sparesPipes _ (by unfold schPage; omega) _
  have h1 : (d.setF (R.sch_PIPE_STATE p) 0 3 s).SparesPipes d1 := .ite h1a (h1a.trans (d1a.rxFlush_sparesPipes p))
  have h2 : (d.setF (R.sch_PIPE_STATE p) 0 3 s).SparesPipes d2 := .ite (h1.trans ⟨rfl, rfl, rfl, rfl, rfl, fun _ _ => rfl⟩) h1
  exact .ite (h2.trans (d2.setEntries_sparesPipes _)) h2

end Sys2Proof.Machine
end

section
/-! PROOFS. Debits brought up to a cycle, a region cleared, and a job that completes with no FENCE waiting (R240, R258, R353). -/
namespace Sys2Proof.Machine

/-! ### Transitions read back (R229, R230) -/

section
variable (d : Device) {p : Nat} (hp : p < 64) (s bits : Nat)
include hp

theorem Device.setPipeStateEv_word :
    (d.setPipeStateEv p s bits).reg (R.sch_PIPE_STATE p) = setFld (d.reg (R.sch_PIPE_STATE p)) 0 3 s := by
  rw [(d.setPipeStateEv_sparesPipes hp s bits).reg _ (ofPipe_sch (n := 0x100) hp (by omega) (by omega)), Device.setF_eq,
    Device.reg_setReg, if_pos rfl]

theorem Device.setPipeStateEv_state : (d.setPipeStateEv p s bits).pipeState p = s % 8 := by
  rw [Device.pipeState, Device.rf, d.setPipeStateEv_word hp]
  exact fld_setFld _ _ (by omega)

theorem Device.setPipeStateEv_resetting : (d.setPipeStateEv p s bits).pipeResetting p = d.pipeResetting p := by
  rw [Device.pipeResetting, Device.rf, d.setPipeStateEv_word hp, fld_setFld_beside _ _ (by omega) (by omega)]
  rfl

theorem Device.setPipeStateEv_reg {o : Nat} (ho : OfPipe o) (hne : o ≠ R.sch_PIPE_STATE p) :
    (d.setPipeStateEv p s bits).reg o = d.reg o := by
  rw [(d.setPipeStateEv_sparesPipes hp s bits).reg o ho, Device.setF_eq, Device.reg_setReg, if_neg hne]

end

/-! ### Debits (R258, R262) -/

/-- The ledger debits of frames of pipeline p may have changed, and nothing else. -/
def Device.Debited (p : Nat) (d e : Device) : Prop :=
  ∃ f : Job → Job, (∀ j, f j = { j with debits := (f j).debits, clip := (f j).clip }) ∧
    (∀ j, (j.isFrame && j.pipe == p) = false → f j = j) ∧ e = { d with jobs := d.jobs.map f }

theorem Device.Debited.refl (p : Nat) (d : Device) : Device.Debited p d d := ⟨id, fun _ => rfl, fun _ _ => rfl, by rw [List.map_id]⟩

theorem Device.Debited.trans {p : Nat} {d e x : Device} (h : Device.Debited p d e) (g : Device.Debited p e x) : Device.Debited p d x := by
  obtain ⟨f1, hkeep1, hother1, rfl⟩ := h
  obtain ⟨f2, hkeep2, hother2, rfl⟩ := g
  refine ⟨f2 ∘ f1, fun j => ?_, fun j hj => ?_, by rw [← List.map_map]⟩
  · exact (hkeep2 (f1 j)).trans
      (congrArg (fun x : Job => { x with debits := (f2 (f1 j)).debits, clip := (f2 (f1 j)).clip }) (hkeep1 j))
  · rw [Function.comp_apply, hother1 j hj, hother2 j hj]

theorem Device.debit_debited (d : Device) (p k n : Nat) (f : Job → Bool) : Device.Debited p d (d.debit p k n f) := by
  refine ⟨_, fun j => ?_, fun j hj => ?_, rfl⟩
  · split <;> rfl
  · simp [hj]

theorem Device.debitClip_debited (d : Device) (p s n : Nat) : Device.Debited p d (d.debitClip p s n) := by
  unfold Device.debitClip
  split
  · exact .refl p d
  · refine ⟨_, fun j => ?_, fun j hj => ?_, rfl⟩
    · split <;> rfl
    · simp [hj]

/-- Settling pipeline p debits its frames, writes WINDOW_DEBIT, and notes how far it has come. -/
theorem Device.settle_eq (d : Device) (p : Nat) :
    ∃ e n x, Device.Debited p d e ∧ d.settle p = (e.setN (R.sch_WINDOW_DEBIT p) n).setPipe p x ∧
      x = { d.pipe p with since := x.since, win := x.win, winDebit := x.winDebit } := by
  unfold Device.settle
  extract_lets x n d1 d2 busy w deb
  have h1 : Device.Debited p d d1 := by
    dsimp only [d1]
    split
    · exact .refl p d
    · exact d.debit_debited p 0 n _
  have h2 : Device.Debited p d d2 := by
    refine Device.Debited.trans (List.foldlRecOn _ _ (motive := fun e => Device.Debited p d e) h1 fun e he k _ => ?_)
      (Device.debitClip_debited _ p _ _)
    split
    · exact he
    · exact he.trans (e.debit_debited p k n _)
  exact ⟨d2, _, _, h2, rfl, rfl⟩

theorem Device.settle_now (d : Device) (p : Nat) : (d.settle p).now = d.now := by
  obtain ⟨e, n, x, ⟨f, -, -, rfl⟩, h, -⟩ := d.settle_eq p
  rw [h]
  rfl

theorem Device.settle_plb (d : Device) (p : Nat) : (d.settle p).plb = d.plb := by
  obtain ⟨e, n, x, ⟨f, -, -, rfl⟩, h, -⟩ := d.settle_eq p
  rw [h]
  rfl

theorem Device.settle_reg (d : Device) (p : Nat) {o : Nat} (ho : o ≠ R.sch_WINDOW_DEBIT p) : (d.settle p).reg o = d.reg o := by
  obtain ⟨e, n, x, ⟨f, -, -, rfl⟩, h, -⟩ := d.settle_eq p
  rw [h, Device.reg_setPipe, Device.setN_eq, Device.reg_setReg, if_neg ho]
  rfl

theorem Device.settle_pipe (d : Device) (p : Nat) :
    ∃ a b c, (d.settle p).pipe p = { d.pipe p with since := a, win := b, winDebit := c } := by
  obtain ⟨e, n, x, -, h, hx⟩ := d.settle_eq p
  exact ⟨_, _, _, by rw [h, Device.pipe_setPipe_same, ← hx]⟩

theorem Device.settle_job {d : Device} (p : Nat) {id : Nat} {j : Job} (hj : d.job id = some j) :
    ∃ a b, (d.settle p).job id = some { j with debits := a, clip := b } := by
  obtain ⟨e, n, x, ⟨f, hkeep, -, rfl⟩, h, -⟩ := d.settle_eq p
  refine ⟨(f j).debits, (f j).clip, ?_⟩
  rw [h, ← hkeep j]
  refine (d.job_mapJobs (fun i => ?_) id).trans (by rw [hj, Option.map_some])
  rw [hkeep i]

/-- Where no job is a frame of pipeline p, settling it leaves the jobs. -/
theorem Device.settle_jobs {d : Device} {p : Nat} (hnone : ∀ j ∈ d.jobs, (j.isFrame && j.pipe == p) = false) :
    (d.settle p).jobs = d.jobs := by
  obtain ⟨e, n, x, ⟨f, -, hother, rfl⟩, h, -⟩ := d.settle_eq p
  rw [h]
  exact (List.map_congr_left fun j hj => hother j (hnone j hj)).trans (List.map_id _)

/-! ### The region of a pipeline is cleared (R240) -/

theorem Device.modTile_sparesPipes (d : Device) (k c : Nat) (f : Tile → Tile) : d.SparesPipes (d.modTile k c f) := by
  have h := d.modTile_frame k c f
  refine ⟨(congrArg Device.pipes h :), (congrArg Device.jobs h :), (congrArg Device.queues h :), (congrArg Device.now h :),
    (congrArg Device.hbm h :), fun o ⟨_, ho, _⟩ => d.account_reg k c fun hm => ?_⟩
  simp only [waitCounters, List.mem_cons, List.not_mem_nil, or_false, R.trw_GATED_CYCLES_LO, R.trw_WAIT_IN_LO, R.trw_WAIT_OUT_LO] at hm
  omega

theorem Device.setMemories_sparesPipes (d : Device) (k : Nat) (m : TileMem) (l : List Upset) :
    d.SparesPipes { d.setTmem k m with upsets := l } :=
  ⟨rfl, rfl, rfl, rfl, rfl, fun _ _ => rfl⟩

theorem Device.clearTile_sparesPipes (d : Device) (c k : Nat) : d.SparesPipes (d.clearTile c k) := by
  unfold Device.clearTile
  extract_lets d1 m d2 d3
  have h1 : d.SparesPipes d1 := d.modTile_sparesPipes k c _
  have h3 : d1.SparesPipes d3 := d1.setMemories_sparesPipes k _ _
  refine (h1.trans h3).trans (.foldl _ (fun e i _ => e.setReg_sparesPipes _ fun ⟨_, h, _⟩ => ?_) d3)
  unfold R.trw_FRAME_ORD at h
  omega

theorem Device.clearArrivals_sparesPipes (d : Device) (tiles : List Nat) : d.SparesPipes (d.clearArrivals tiles) :=
  ⟨rfl, rfl, rfl, rfl, rfl, fun _ _ => rfl⟩

theorem Device.clearRegion_sparesPipes (d : Device) (p : Nat) : d.SparesPipes (d.clearRegion p) :=
  .trans (.foldl _ (fun e k _ => e.clearTile_sparesPipes e.now.cyc k) d) (Device.clearArrivals_sparesPipes _ _)

/-! ### A job that completes (R353) -/

theorem Device.cancelJobEntries_sparesPipes (d : Device) (q : Nat → Bool) : d.SparesPipes (d.cancelJobEntries q) :=
  .foldl (k := fun (d : Device) (e : EvEntry) => d.cancelEntry e.num) _
    (fun _ _ _ => ⟨rfl, rfl, rfl, rfl, rfl, fun _ _ => rfl⟩) d

theorem Device.hostWrite_sparesPipes (d : Device) (f a : Nat) (b : List Byte) : d.SparesPipes (d.hostWrite f a b) := by
  unfold Device.hostWrite
  refine .ite (.refl d) (.ite ⟨rfl, rfl, rfl, rfl, rfl, fun _ _ => rfl⟩ (d.setReg_sparesPipes _ ?_))
  unfold OfPipe
  decide

theorem Device.countOut_sparesPipes (d : Device) (j : Job) (n : Nat) : d.SparesPipes (d.countOut j n) := by
  unfold Device.countOut
  refine .trans (.ite (d.count64_sparesPipes n fun o ho h => ?_) (.refl d)) ⟨rfl, rfl, rfl, rfl, rfl, fun _ _ => rfl⟩
  obtain ⟨-, h, -⟩ := h
  simp only [List.mem_cons, List.not_mem_nil, or_false, R.hod_BYTES_OUT_LO] at ho
  omega

theorem Device.writeHeader_sparesPipes (d : Device) (j : Job) (status plen : Nat) : d.SparesPipes (d.writeHeader j status plen) := by
  unfold Device.writeHeader
  split
  · exact (d.hostWrite_sparesPipes _ _ _).trans (Device.countOut_sparesPipes _ _ _)
  · exact .refl d

/-- A job that no reset has left behind completes, with no FENCE of its queue waiting: it is marked, its header may be written and its
entries are gone. -/
theorem Device.finish_unfenced {d : Device} {id status plen : Nat} {hdr : Bool} {j : Job} (hj : d.job id = some j)
    (hst : j.st ≠ .completed) (horphan : j.orphan = false) (hfence : (d.queue j.q).fence = none) :
    ∃ e, d.SparesPipes e ∧
      d.finish id status plen hdr = e.modJob id fun x => { x.free with st := .completed, status := status, written := hdr } := by
  have hraw : ∃ e, d.SparesPipes e ∧
      d.finishRaw id status plen hdr = e.modJob id fun x => { x.free with st := .completed, status := status, written := hdr } := by
    refine ⟨if hdr && !j.suppressed && !j.orphan then (d.cancelJobEntries (· == id)).writeHeader j status plen
      else d.cancelJobEntries (· == id), ?_, ?_⟩
    · exact .ite ((d.cancelJobEntries_sparesPipes _).trans (Device.writeHeader_sparesPipes _ _ _ _)) (d.cancelJobEntries_sparesPipes _)
    · simp only [Device.finishRaw, hj, hst, if_false, horphan, Bool.false_eq_true]
  obtain ⟨e, he, h⟩ := hraw
  refine ⟨e, he, ?_⟩
  have hnone : ((e.modJob id fun x => { x.free with st := .completed, status := status, written := hdr }).queue j.q).fence = none :=
    (congrArg Queue.fence (he.queue_eq j.q)).trans hfence
  unfold Device.queue at hnone
  simp only [Device.finish, hj, h, Device.fenceCheck, hnone]

end Sys2Proof.Machine
end

section
/-! PROOFS. The commands of a pipeline; O21 (R230 to R232, R240, R241). -/
namespace Sys2Proof.Machine

/-! ### Which way a command goes (R230, R241) -/

section
variable {s : State} {p : Fin 64} {q : Req} {cmd : Nat} {ok : Device → Bool} {act : Device → Device}
  (hw : Writes s q (R.sch_PIPE_CMD p) = true) (hcmd : fld q.data 0 3 = cmd)
include hw hcmd

theorem pipeCmd_acts (hreset : s.dev.pipeResetting p = false) (hok : ok (s.dev.at q.t) = true) :
    pipeCmd p q cmd ok act s.dev = act (s.dev.at q.t) := by
  have hidle : (s.dev.at q.t).pipeResetting p = false := hreset
  unfold pipeCmd
  rw [if_neg (not_not.2 hcmd), Device.writeAt_of_writes hw, hok, hidle]
  rfl

theorem pipeCmd_refused (hok : ok (s.dev.at q.t) = false) : pipeCmd p q cmd ok act s.dev = (s.dev.at q.t).cmdState p cmd := by
  unfold pipeCmd
  rw [if_neg (not_not.2 hcmd), Device.writeAt_of_writes hw, hok]
  rfl

end

/-- CMD_STATE leaves the pipelines and is counted in ERR_COUNT of the pipeline's page (R54, R241). -/
theorem Device.cmdState_counts (d : Device) {p : Nat} (hp : p < 64) (cmd : Nat) :
    d.SparesPipes (d.cmdState p cmd) ∧ (d.cmdState p cmd).reg (schPage p + 0x34) = satAdd (d.reg (schPage p + 0x34)) 1 := by
  have hpage : schPage p % 0x1000 = 0 := by unfold schPage; omega
  exact ⟨d.err_sparesPipes hpage _ _ _, d.err_count _ _ _ _ (notMem_faultRegs_above (by unfold schPage; omega))⟩

/-! ### RESUME and DRAIN (R231, R232, R257) -/

theorem Device.forJobs_none {d : Device} {q : Job → Bool} (h : ∀ j ∈ d.jobs, q j = false) (f : Device → Job → Device) :
    d.forJobs q f = d := by
  have hnone : d.jobs.filter q = [] := List.filter_eq_nil_iff.2 fun j hj => by simp [h j hj]
  rw [Device.forJobs, hnone, List.foldl_nil]

/-- RESUME: the pipeline runs, nothing holds it any more, and its jobs stay. -/
theorem Device.resumePipe_runs (d : Device) {p : Nat} (hp : p < 64) :
    (d.resumePipe p).pipeState p = 2 ∧ ((d.resumePipe p).pipe p).stallChans = [] ∧ (d.resumePipe p).rf (R.sch_SCHED_STATE p) 1 1 = 0 ∧
      (d.resumePipe p).jobs = d.jobs := by
  unfold Device.resumePipe Device.setPipeState
  extract_lets x d1
  have h := d1.setPipeStateEv_sparesPipes hp 2 0
  refine ⟨d1.setPipeStateEv_state hp 2 0, ?_, ?_, h.jobs⟩
  · exact congrArg Pipe.stallChans ((h.pipe_eq p).trans (d.pipe_setPipe_same p _))
  · rw [Device.rf, d1.setPipeStateEv_reg hp 2 0 (ofPipe_sch (n := 0x214) hp (by omega) (by omega))
      (by unfold R.sch_PIPE_STATE; omega)]
    dsimp only [d1]
    rw [Device.setF_eq, Device.reg_setReg, if_pos rfl]
    exact fld_setFld _ _ (by omega)

/-- DRAIN where every job of the pipeline has been admitted: the pipeline drains from now on, and its jobs stay. -/
theorem Device.drain_starts (d : Device) {p : Nat} (hp : p < 64) {e : Device} (he : e = d.setPipeState p 4)
    (hadmitted : ∀ j ∈ d.jobs, j.piped = true → j.pipe = p → j.st = .admitted ∨ j.st = .writing ∨ j.st = .completed) :
    (e.setPipe p { e.pipe p with drainTick := some e.now.tick, drainMissed := false }).cancelUnadmitted p =
      e.setPipe p { e.pipe p with drainTick := some d.now.tick, drainMissed := false } := by
  have h : (d.setF (R.sch_PIPE_STATE p) 0 3 4).SparesPipes e := he ▸ d.setPipeStateEv_sparesPipes hp 4 0
  have hnow : e.now = d.now := h.now
  rw [hnow]
  refine Device.forJobs_none (fun j hj => ?_) _
  have hjobs : j ∈ d.jobs := h.jobs ▸ hj
  by_cases hmine : j.piped = true ∧ j.pipe = p
  · obtain ⟨hpiped, hpipe⟩ := hmine
    rcases hadmitted j hjobs hpiped hpipe with hst | hst | hst <;> simp [hst]
  · by_cases hpiped : j.piped = true
    · have hpipe : j.pipe ≠ p := fun h => hmine ⟨hpiped, h⟩
      simp [hpipe]
    · simp [hpiped]

/-! ### RESET (R240) -/

/-- The skim record is no register of the pipeline's SCH page. -/
theorem skimRecord_ne {p n : Nat} (hp : p < 64) (hn : n < 0x1000) : skimRecord p ≠ 0x20000 + n + 0x1000 * p := by
  unfold skimRecord R.dad_SKIM_RECORD
  omega

theorem Device.egrWaitEnd_jobs (d : Device) (p : Nat) : (d.egrWaitEnd p).jobs = d.jobs := by
  unfold Device.egrWaitEnd
  split <;> rfl

/-- RESET of a pipeline without jobs: RESETTING is set, FAULT, FAULT_INFO and the skim record are cleared, the adapters are emptied. -/
theorem Device.resetPipe_empties {d : Device} {p : Nat} (hp : p < 64) (hnone : ∀ j ∈ d.jobs, j.piped = true → j.pipe ≠ p) :
    (d.resetPipe p).pipeResetting p = true ∧ (d.resetPipe p).pipeFault p = false ∧ (d.resetPipe p).reg (R.sch_FAULT_INFO p) = 0 ∧
      (∃ x : Pipe, ∃ c, (d.resetPipe p).pipe p = { x.emptied with resetCyc := c }) ∧ (d.resetPipe p).rf (skimRecord p) 31 1 = 0 ∧
      (d.resetPipe p).jobs = d.jobs := by
  unfold Device.resetPipe
  extract_lets d1 d2 d3 x d4
  have hjobs1 : d1.jobs = d.jobs := by
    refine (Device.setReg_jobs _ _ _).trans (((d.settle p).egrWaitEnd_jobs p).trans <| Device.settle_jobs fun j hj => ?_)
    by_cases hf : j.isFrame = true
    · simp [hf, hnone j hj (by simp [Job.piped, hf])]
    · simp [hf]
  have h2 : d2 = d1 := Device.forJobs_none (fun j hj => by
    by_cases hpiped : j.piped = true
    · simp [hpiped, hnone j (hjobs1 ▸ hj) hpiped]
    · simp [hpiped]) _
  have h3 : d1.SparesPipes d3 := h2 ▸ d2.clearRegion_sparesPipes p
  have hword : ((d4.clearFault p).noRecord p).reg (R.sch_PIPE_STATE p) =
      setFld (setFld (((d.settle p).egrWaitEnd p).reg (R.sch_PIPE_STATE p)) 9 1 1) 8 1 0 := by
    rw [Device.noRecord, Device.setN_eq, Device.reg_setReg, if_neg (skimRecord_ne (n := 0x100) hp (by omega)).symm,
      Device.clearFault, Device.setN_eq, Device.reg_setReg, if_neg (by unfold R.sch_PIPE_STATE R.sch_FAULT_INFO; omega),
      Device.setF_eq, Device.reg_setReg, if_pos rfl]
    refine congrArg (setFld · 8 1 0) ((h3.reg _ (ofPipe_sch (n := 0x100) hp (by omega) (by omega))).trans ?_)
    exact (Device.reg_setReg _ _ _ _).trans (if_pos rfl)
  refine ⟨?_, ?_, ?_, ⟨d3.pipe p, some d3.now.cyc, ?_⟩, ?_, h3.jobs.trans hjobs1⟩
  · rw [Device.pipeResetting, Device.rf, hword, fld_setFld_beside _ _ (by omega) (by omega), fld_setFld _ _ (by omega)]
    rfl
  · rw [Device.pipeFault, Device.rf, hword, fld_setFld _ _ (by omega)]
    rfl
  · rw [Device.noRecord, Device.setN_eq, Device.reg_setReg, if_neg (skimRecord_ne (n := 0x13C) hp (by omega)).symm,
      Device.clearFault, Device.setN_eq, Device.reg_setReg, if_pos rfl]
    rfl
  · exact d3.pipe_setPipe_same p _
  · rw [Device.rf, Device.noRecord, Device.setN_eq, Device.reg_setReg, if_pos rfl]
    rfl

/-! ### O21 -/

/-- Settles O21: a command acts where Table 8.3 allows, a reset's steps acting at the command (log entry 40), and is else counted as an
error of the pipeline's page. -/
theorem pipelineCommandsMoveTheState : Obligations.PipelineCommandsMoveTheState := by
  unfold Obligations.PipelineCommandsMoveTheState
  intro s p q hw hreset
  have hp : (p : Nat) < 64 := p.isLt
  refine ⟨fun hcmd hok => ⟨_, rfl, ?_⟩, fun hcmd hst => ⟨_, rfl, ?_⟩, fun hcmd hst hfault => ⟨_, rfl, ?_⟩,
    fun hcmd hst hadmitted => ⟨_, rfl, ?_⟩, fun hcmd hempty hrework hnone => ⟨_, rfl, ?_⟩, ?_⟩
  · have hrun : pipeStart p q s.dev = ((s.dev.at q.t).noRecord p).setPipeState p 2 := pipeCmd_acts hw hcmd hreset hok
    have h := ((s.dev.at q.t).noRecord p).setPipeStateEv_sparesPipes hp 2 0
    dsimp only
    rw [hrun]
    refine ⟨Device.setPipeStateEv_state _ hp 2 0, ?_, h.jobs, h.hbm, rfl, rfl⟩
    rw [Device.setPipeState, Device.rf, Device.setPipeStateEv_reg _ hp 2 0 (ofPipe_skimRecord hp)
      (skimRecord_ne (n := 0x100) hp (by omega)),
      Device.noRecord, Device.setN_eq, Device.reg_setReg, if_pos rfl]
    rfl
  · have hrun : pipeHold p q s.dev = (s.dev.at q.t).setPipeState p 3 := pipeCmd_acts hw hcmd hreset (beq_iff_eq.2 hst)
    have h := (s.dev.at q.t).setPipeStateEv_sparesPipes hp 3 0
    dsimp only
    rw [hrun]
    exact ⟨Device.setPipeStateEv_state _ hp 3 0, h.jobs, h.hbm, rfl, rfl⟩
  · have hok : ((s.dev.at q.t).pipeState p == 3 && !(s.dev.at q.t).pipeFault p) = true := by
      rw [show (s.dev.at q.t).pipeState p = 3 from hst, show (s.dev.at q.t).pipeFault p = false from hfault]
      rfl
    have hrun : pipeResume p q s.dev = (s.dev.at q.t).resumePipe p := pipeCmd_acts hw hcmd hreset hok
    obtain ⟨hstate, hstall, hhold, hjobs⟩ := (s.dev.at q.t).resumePipe_runs hp
    dsimp only
    rw [hrun]
    exact ⟨hstate, hstall, hhold, hjobs, rfl, rfl⟩
  · have hok : ((s.dev.at q.t).pipeState p == 2 || (s.dev.at q.t).pipeState p == 3) = true :=
      Bool.or_eq_true_iff.2 (hst.imp beq_iff_eq.2 beq_iff_eq.2)
    have hrun : pipeDrain p q s.dev = _ :=
      (pipeCmd_acts hw hcmd hreset hok).trans ((s.dev.at q.t).drain_starts hp rfl hadmitted)
    have h := (s.dev.at q.t).setPipeStateEv_sparesPipes hp 4 0
    dsimp only
    rw [hrun]
    refine ⟨Device.setPipeStateEv_state _ hp 4 0, h.jobs, ?_, rfl, rfl⟩
    rw [Device.pipe_setPipe_same]
  · have hok : ((s.dev.at q.t).pipeState p != 0 && (s.dev.at q.t).pipeState p != 6) = true :=
      Bool.and_eq_true_iff.2 ⟨bne_iff_ne.2 hempty, bne_iff_ne.2 hrework⟩
    have hrun : pipeReset p q s.dev = (s.dev.at q.t).resetPipe p := pipeCmd_acts hw hcmd hreset hok
    obtain ⟨hresetting, hfault, hinfo, ⟨x, c, hpipe⟩, hrecord, hjobs⟩ := Device.resetPipe_empties (d := s.dev.at q.t) hp hnone
    dsimp only
    rw [hrun, hpipe]
    exact ⟨hresetting, hfault, hinfo, rfl, rfl, rfl, rfl, rfl, rfl, hrecord, hjobs, rfl, rfl⟩
  · have hcount : ∀ (cmd : Nat) (d : Device), d = (s.dev.at q.t).cmdState p cmd →
        d.reg (R.sch_PIPE_STATE p) = s.dev.reg (R.sch_PIPE_STATE p) ∧ d.jobs = s.dev.jobs ∧
          d.reg (schPage p + 0x34) = satAdd (s.dev.reg (schPage p + 0x34)) 1 ∧ KeepsHarts s { s with dev := d } := by
      rintro cmd _ rfl
      obtain ⟨h, hc⟩ := (s.dev.at q.t).cmdState_counts hp cmd
      exact ⟨h.reg _ (ofPipe_sch (n := 0x100) hp (by omega) (by omega)), h.jobs, hc, rfl, rfl⟩
    intro c hc hcmd hfail
    simp only [List.mem_cons, List.not_mem_nil, or_false] at hc
    rcases hc with rfl | rfl | rfl | rfl | rfl
    · exact ⟨_, rfl, hcount _ _ (pipeCmd_refused hw hcmd (Bool.not_eq_true' _ ▸ hfail))⟩
    · exact ⟨_, rfl, hcount _ _ (pipeCmd_refused hw hcmd (Bool.not_eq_true' _ ▸ hfail))⟩
    · refine ⟨_, rfl, hcount _ _ (pipeCmd_refused hw hcmd ?_)⟩
      show (s.dev.pipeState p == 3 && !s.dev.pipeFault p) = false
      simpa [imp_iff_not_or] using hfail
    · refine ⟨_, rfl, hcount _ _ (pipeCmd_refused hw hcmd ?_)⟩
      show (s.dev.pipeState p == 2 || s.dev.pipeState p == 3) = false
      simpa using hfail
    · refine ⟨_, rfl, hcount _ _ (pipeCmd_refused hw hcmd ?_)⟩
      show (s.dev.pipeState p != 0 && s.dev.pipeState p != 6) = false
      simpa [imp_iff_not_or] using hfail

end Sys2Proof.Machine
end

section
/-! PROOFS. The ends of a pipeline reset and of a drain; O22 (R233, R234, R240). -/
namespace Sys2Proof.Machine

/-- The end of a reset: the pipeline is LOADED and no longer RESETTING, and its jobs stay. -/
theorem pipeResetDone_loads {d : Device} {p : Fin 64} (k c : Nat) (h : d.pipeResetting p = true) :
    (pipeResetDone p k c d).pipeResetting p = false ∧ (pipeResetDone p k c d).pipeState p = 1 ∧
      ((pipeResetDone p k c d).pipe p).resetCyc = none ∧ (pipeResetDone p k c d).jobs = d.jobs := by
  have hp : (p : Nat) < 64 := p.isLt
  unfold pipeResetDone Device.setPipeState
  extract_lets d0 d1 x
  rw [if_pos (show d0.pipeResetting p = true from h)]
  have hs := (d1.setPipe p { x with resetCyc := none }).setPipeStateEv_sparesPipes hp 1 0
  refine ⟨?_, Device.setPipeStateEv_state _ hp 1 0, ?_, hs.jobs⟩
  · have hword : d1.reg (R.sch_PIPE_STATE p) = setFld _ 9 1 0 := (Device.reg_setReg _ _ _ _).trans (if_pos rfl)
    rw [Device.setPipeStateEv_resetting _ hp, Device.pipeResetting, Device.rf, Device.reg_setPipe, hword, fld_setFld _ _ (by omega)]
    rfl
  · exact congrArg Pipe.resetCyc ((hs.pipe_eq p).trans (d1.pipe_setPipe_same p _))

/-- A draining pipeline that meets the drain condition is DRAINED. -/
theorem drained_ends {d : Device} {p : Fin 64} (k c : Nat) (hst : d.pipeState p = 4) (hreset : d.pipeResetting p = false)
    (hmet : d.drainMet p = true) :
    (drained p k c d).pipeState p = 5 ∧ ((drained p k c d).pipe p).drainTick = none ∧ (drained p k c d).jobs = d.jobs := by
  have hp : (p : Nat) < 64 := p.isLt
  unfold drained
  extract_lets d0 x
  have hidle : (!d0.pipeResetting p) = true := by
    rw [show d0.pipeResetting p = false from hreset]
    rfl
  rw [if_pos ⟨hst, hmet, hidle⟩]
  have hs := (d0.setPipe p { x with drainTick := none }).setPipeStateEv_sparesPipes hp 5 (2 ^ 25)
  exact ⟨Device.setPipeStateEv_state _ hp 5 (2 ^ 25), congrArg Pipe.drainTick ((hs.pipe_eq p).trans (d0.pipe_setPipe_same p _)), hs.jobs⟩

/-- A drain past its timeout that has not been reported is marked reported, and bit 27 of the pipeline's page rises. -/
theorem drainTimeout_reports {d : Device} {p : Fin 64} {k a : Nat} (hst : d.pipeState p = 4) (ha : (d.pipe p).drainTick = some a)
    (hmissed : (d.pipe p).drainMissed = false) (hn : d.rf (R.sch_DRAIN_TIMEOUT p) 0 24 ≠ 0)
    (hdue : a + 1000 * d.rf (R.sch_DRAIN_TIMEOUT p) 0 24 ≤ (d.at k).now.tick) :
    drainTimeout p k d = ((d.at k).setPipe p { d.pipe p with drainMissed := true }).evtBit (schPage p) 27 := by
  have hnew : (!((d.at k).pipe p).drainMissed) = true := by
    rw [show ((d.at k).pipe p).drainMissed = false from hmissed]
    rfl
  unfold drainTimeout
  extract_lets d0 n
  split
  · next b hb =>
    obtain rfl : b = a := Option.some.inj (hb.symm.trans ha)
    exact if_pos ⟨hst, hn, hnew, hdue⟩
  · next hb => exact absurd (hb.symm.trans ha) (by simp)

/-- An event bit that has been set reads 1. -/
theorem fld_or_bit (v : Word) {i : Nat} (hi : i < 32) : fld (v ||| wd (2 ^ i)) i 1 = 1 := by
  have hbit : fld (wd (2 ^ i)) i 1 = 1 := by
    rw [fld, wd, BitVec.toNat_ofNat, Nat.mod_eq_of_lt (Nat.pow_lt_pow_right (by omega) hi), Nat.div_self (Nat.two_pow_pos i)]
    rfl
  rw [fld_or, hbit]
  have := fld_lt v i 1
  interval_cases fld v i 1 <;> rfl

/-- Settles O22: the end of a reset loads the pipeline; the drain condition (read as log entries 45 and 156 do) ends a drain, and its
timeout reports it once. -/
theorem resetsAndDrainsEnd : Obligations.ResetsAndDrainsEnd := by
  unfold Obligations.ResetsAndDrainsEnd
  refine ⟨fun s p k c harray hreset => ⟨_, rfl, ?_⟩, fun s p k c harray hst hreset hmet => ⟨_, rfl, ?_⟩,
    fun s p k a hst ha hmissed hn hdue => ⟨_, rfl, ?_⟩⟩
  · have hrun : s.dev.inArray (pipeResetDone p k c) = pipeResetDone p k c s.dev := if_pos harray
    obtain ⟨hresetting, hstate, hcyc, hjobs⟩ := pipeResetDone_loads k c hreset
    dsimp only
    rw [hrun]
    exact ⟨hresetting, hstate, hcyc, hjobs, rfl, rfl⟩
  · have hrun : s.dev.inArray (drained p k c) = drained p k c s.dev := if_pos harray
    obtain ⟨hstate, htick, hjobs⟩ := drained_ends k c hst hreset hmet
    dsimp only
    rw [hrun]
    exact ⟨hstate, htick, hjobs, rfl, rfl⟩
  · have hp : (p : Nat) < 64 := p.isLt
    have hpage : schPage p % 0x1000 = 0 := by unfold schPage; omega
    have h := ((s.dev.at k).setPipe p { s.dev.pipe p with drainMissed := true }).evtBit_sparesPipes hpage 27
    dsimp only
    rw [drainTimeout_reports hst ha hmissed hn hdue]
    refine ⟨?_, ?_, ?_, fun o ho => ?_, rfl, rfl⟩
    · rw [h.pipe_eq, Device.pipe_setPipe_same]
    · rw [Device.rf, Device.evtBit_reg _ _ _ _ (ne_msixDropped (by omega)), if_pos rfl]
      exact fld_or_bit _ (by omega)
    · rw [Device.pipeState, Device.rf, h.reg _ (ofPipe_sch (n := 0x100) hp (by omega) (by omega))]
      exact hst
    · simp only [List.mem_cons, List.not_mem_nil, or_false, not_or] at ho
      obtain ⟨hraw, hdropped⟩ := ho
      rw [Device.evtBit_reg _ _ _ _ hdropped, if_neg hraw]
      rfl

end Sys2Proof.Machine
end

section
/-! PROOFS. Frames and tokens at the adapters of a pipeline; O23 (R225 to R227, R292, R293). -/
namespace Sys2Proof.Machine

/-! ### Ingress (R225, R292) -/

/-- A frame that enters: its job has the frame's number, has left the ingress queue for the egress one, and its flits wait. -/
theorem Device.frameEnters_spec {d : Device} {p : Nat} {j : Job} {r : List Nat} (hq : (d.pipe p).ingQ = j.id :: r)
    (hj : d.job j.id = some j) (fl : List Flit) (src : Nat) :
    (d.frameEnters p j fl src).pipe p = { d.pipe p with
      ingQ := r
      egrQ := (d.pipe p).egrQ ++ [j.id]
      lastFirst := some d.now.cyc
      frameNum := ((d.pipe p).frameNum + 1) % 2 ^ 32
      ingOut := (d.pipe p).ingOut ++ fl } ∧
    ((d.frameEnters p j fl src).job j.id).map (fun x => (x.entered, x.frame)) = some (true, some (d.pipe p).frameNum) ∧
    (d.frameEnters p j fl src).rn64 (R.sch_ING_FRAMES_LO p) = min (2 ^ 64 - 1) (d.rn64 (R.sch_ING_FRAMES_LO p) + 1) ∧
    ∀ o, o ∉ [R.sch_ING_FRAMES_LO p, R.sch_ING_FRAMES_LO p + 4] → (d.frameEnters p j fl src).reg o = d.reg o := by
  unfold Device.frameEnters
  extract_lets x open_ starved d1 d2
  have hpipe : d2.pipe p = _ := d1.pipe_setPipe_same p _
  have hjob : d2.job j.id = some _ := Device.job_modJob (d := d) hj fun _ => rfl
  refine ⟨?_, ?_, Device.rn64_setN64 _ _ (by omega), fun o ho => Device.reg_setN64 _ _ ho⟩
  · refine hpipe.trans ?_
    simp only [x, hq, List.drop_succ_cons, List.drop_zero]
  · exact congrArg (Option.map _) hjob

/-- INGRESS_FRAME of a HOD pipeline that may send its oldest job's frame. -/
theorem ingressFrame_enters {d : Device} {p : Fin 64} {cyc : Nat} {j : Job} {r : List Nat} (hkind : d.ingKind p = 1)
    (hq : (d.pipe p).ingQ = j.id :: r) (hj : d.job j.id = some j) (hframe : j.isFrame = true) (hopen : d.ingressOpen p = true)
    (htoken : d.needsToken p j.skim = false)
    (hspace : ∀ c, (d.pipe p).lastFirst = some c → c + d.rf (R.sch_MIN_INTERVAL p) 0 16 ≤ cyc) :
    ingressFrame p cyc d = (d.atCyc cyc).frameEnters p j
      (frameFlits 0 true (if (j.inLen + 31) / 32 = 0 then [[]] else chunk 32 ((j.inLen + 31) / 32) j.input)) 0 := by
  have hbind : ((d.atCyc cyc).pipe p).ingQ.head?.bind (d.atCyc cyc).job = some j := by
    rw [show ((d.atCyc cyc).pipe p).ingQ = j.id :: r from hq]
    exact hj
  have hspaced : (match ((d.atCyc cyc).pipe p).lastFirst with
      | some c => decide (c + (d.atCyc cyc).rf (R.sch_MIN_INTERVAL p) 0 16 ≤ cyc)
      | none => true) = true := by
    split
    · next c hc => exact decide_eq_true (hspace c hc)
    · rfl
  have hframeOf : (d.atCyc cyc).frameOf p j = some (frameFlits 0 true
      (if (j.inLen + 31) / 32 = 0 then [[]] else chunk 32 ((j.inLen + 31) / 32) j.input), 0, d.atCyc cyc) := if_pos hkind
  have hready : (j.isFrame && (d.atCyc cyc).ingressOpen p && !(d.atCyc cyc).needsToken p j.skim) = true := by
    rw [hframe, show (d.atCyc cyc).ingressOpen p = true from hopen, show (d.atCyc cyc).needsToken p j.skim = false from htoken]
    rfl
  unfold ingressFrame
  have hd0 : (if (d.pipe p).srcOpen.isNone && d.ingKind p != 1 then (d.atCyc cyc).dropStray p else d.atCyc cyc) = d.atCyc cyc :=
    if_neg (by simp [hkind])
  simp only [hd0, hbind, hready, hframeOf, Bool.true_and, Nat.not_lt_zero, if_false]
  exact if_pos hspaced

/-- A token sent in a region without hot slots: it waits at the adapter, is outstanding, stands in the skim record, and is counted. -/
theorem Device.sendToken_spec {d : Device} {p x : Nat} (hslots : d.pipeSlots p = 0) (swap : Option Nat) :
    (d.sendToken p x swap).pipe p = { d.pipe p with
      ingOut := (d.pipe p).ingOut ++ [tokenFlit x]
      tokens := (d.pipe p).tokens ++ [⟨x, swap, (d.pipe p).frameNum⟩] } ∧
    (d.sendToken p x swap).rn (skimRecord p) = x % 2 ^ 14 + 2 ^ 31 ∧
    (d.sendToken p x swap).reg (R.dad_TOKENS_SENT (p / 16) (p % 16)) = satAdd (d.reg (R.dad_TOKENS_SENT (p / 16) (p % 16))) 1 ∧
    ∀ o, o ∉ [skimRecord p, R.dad_TOKENS_SENT (p / 16) (p % 16)] → (d.sendToken p x swap).reg o = d.reg o := by
  have hne : R.dad_TOKENS_SENT (p / 16) (p % 16) ≠ skimRecord p := by
    unfold skimRecord R.dad_SKIM_RECORD R.dad_TOKENS_SENT
    omega
  have hname : d.nameSkim p x = d := if_pos hslots
  unfold Device.sendToken
  rw [hname]
  refine ⟨?_, ?_, ?_, fun o ho => ?_⟩
  · rw [Device.count_eq, Device.pipe_setReg, Device.setRecord, Device.setN_eq, Device.pipe_setReg, Device.pipe_setPipe_same]
  · rw [Device.count_eq, Device.rn, Device.reg_setReg, if_neg hne.symm]
    exact Device.rn_setN _ _ (by omega)
  · rw [Device.count_eq, Device.reg_setReg, if_pos rfl, Device.setRecord, Device.setN_eq, Device.reg_setReg, if_neg hne]
    rfl
  · simp only [List.mem_cons, List.not_mem_nil, or_false, not_or] at ho
    obtain ⟨hrecord, hsent⟩ := ho
    rw [Device.count_eq, Device.reg_setReg, if_neg hsent, Device.setRecord, Device.setN_eq, Device.reg_setReg, if_neg hrecord]
    rfl

/-- SWAP_TOKEN for a SWAP job in a region without hot slots, to which R299 is not applied (log entry 41). -/
theorem swapToken_sends {d : Device} {p : Fin 64} (cyc : Nat) {j : Job} {r : List Nat} (hq : (d.pipe p).ingQ = j.id :: r)
    (hj : d.job j.id = some j) (hswap : j.isSwap = true) (hopen : d.ingressOpen p = true) (hslots : d.pipeSlots p = 0) :
    swapToken p cyc d = (((d.atCyc cyc).setPipe p { d.pipe p with ingQ := r }).sendToken p j.skim (some j.id)).modJob j.id fun y =>
      { y with entered := true } := by
  have hq' : ((d.atCyc cyc).pipe p).ingQ = j.id :: r := hq
  have hbind : ((d.atCyc cyc).pipe p).ingQ.head?.bind (d.atCyc cyc).job = some j := by
    rw [hq']
    exact hj
  have hopen' : (d.atCyc cyc).ingressOpen p = true := hopen
  have hbar : (d.atCyc cyc).tokenBarred p j.skim = false := by
    rw [Device.tokenBarred, show (d.atCyc cyc).pipeSlots p = 0 from hslots]
    rfl
  unfold swapToken
  simp only [hbind, hopen', hswap, hbar, Bool.not_true, Bool.true_or, Bool.or_false, Bool.false_eq_true, if_false, if_true]
  rw [hq']
  rfl

/-! ### Egress (R226, R227, R249) -/

/-- A one-flit frame in its place at egress is taken whole. -/
theorem Device.takeResult_single {d : Device} {p : Nat} {f : Flit} (l : List Flit) (htag : f.tag = 3) (hseq : f.seq = 0)
    (hopen : (d.pipe p).openF = none) (hq : (d.pipe p).egrQ ≠ []) :
    d.takeResult p (f :: l) = (d.setPipe p { d.pipe p with egrIn := l }).resultDone p f.bytes := by
  have hfirst : f.first = true := by rw [Flit.first, htag]; rfl
  have hlast : f.last = true := by rw [Flit.last, htag]; rfl
  have hswap : f.swap = false := by rw [Flit.swap, htag]; rfl
  have hfold : f.fold = false := by rw [Flit.fold, htag]; rfl
  simp [Device.takeResult, hfirst, hlast, hswap, hfold, hopen, hseq, hq]

/-- The marks of a job whose result waits for its release: no reset has left it behind or suppressed it, and it is neither cancelled, nor
released for a stall, nor late. -/
structure JobMarks.Waits (m : JobMarks) : Prop where
  orphan : m.orphan = false
  suppressed : m.suppressed = false
  cancelled : m.cancelled = false
  stalledRef : m.stalledRef = false
  late : m.late = false

/-- A frame whose job waits and has no RELEASE entry completes at egress: its completion tick is noted. -/
theorem Device.frameDone_waits {d : Device} {id : Nat} {j : Job} (hj : d.job id = some j) (hm : j.toJobMarks.Waits)
    (hent : ∀ e ∈ d.plb.entries, e.job ≠ id) :
    ∃ g : Job → Job, (∀ x, g x = { x with done := some d.now.tick, uDone := (g x).uDone, debits := (g x).debits }) ∧
      d.frameDone id = (d.settle j.pipe).modJob id g := by
  have hnone : (d.settle j.pipe).plb.entries.find? (fun e => e.kind == .release && e.job == id) = none := by
    rw [d.settle_plb, List.find?_eq_none]
    intro e he
    simp [hent e he]
  refine ⟨fun x => { x with
    done := some (d.settle j.pipe).now.tick
    uDone := (d.settle j.pipe).chU j.pch
    debits := addDebit x.debits 2 ((x.clip + 15) / 16) }, fun x => by rw [d.settle_now], ?_⟩
  unfold Device.frameDone
  simp only [hj, hm.orphan, hm.suppressed, hm.cancelled, hm.stalledRef, hm.late, Bool.or_self, Bool.false_eq_true, if_false]
  split
  · rfl
  · next e he => exact absurd (he.symm.trans hnone) (by simp)

/-- EGR_CFG of a pipeline is no frame count, so counting a frame leaves what egress keeps of a job's payload. -/
theorem Device.keepBytes_count64 (d : Device) {p : Nat} {j : Job} (hp : j.pipe = p) (k : Nat) :
    (d.count64 (R.sch_EGR_FRAMES_LO p) k).keepBytes j = d.keepBytes j := by
  have hcfg : (d.count64 (R.sch_EGR_FRAMES_LO p) k).reg (R.sch_EGR_CFG p) = d.reg (R.sch_EGR_CFG p) := Device.reg_setN64 _ _ (by
    simp only [List.mem_cons, List.not_mem_nil, or_false, R.sch_EGR_CFG, R.sch_EGR_FRAMES_LO]
    omega)
  unfold Device.keepBytes Device.egrKind Device.rf
  rw [hp, hcfg]

theorem Device.rn64_congr {d e : Device} {lo : Nat} (h : ∀ o ∈ [lo, lo + 4], e.reg o = d.reg o) : e.rn64 lo = d.rn64 lo := by
  unfold Device.rn64 Device.rn
  rw [h lo (by simp), h (lo + 4) (by simp)]

/-- The LAST flit of a frame: the frame leaves the egress queue and is counted, its job keeps what egress keeps of the payload (R226), and
the frame is done. -/
theorem Device.resultDone_eq {d : Device} {p : Nat} (bytes : List Byte) {j : Job} {r : List Nat} (hq : (d.pipe p).egrQ = j.id :: r)
    (hj : d.job j.id = some j) (hp : j.pipe = p) :
    ∃ (e : Device) (g : Job → Job), d.resultDone p bytes = (e.modJob j.id g).frameDone j.id ∧
      (∀ y, g y = { y with payload := bytes.take (d.keepBytes j), trunc := (g y).trunc, flags := (g y).flags }) ∧
      e.pipe p = { d.pipe p with egrQ := r, openF := none } ∧ e.jobs = d.jobs ∧ e.now = d.now ∧ e.plb = d.plb ∧
      e.rn64 (R.sch_EGR_FRAMES_LO p) = min (2 ^ 64 - 1) (d.rn64 (R.sch_EGR_FRAMES_LO p) + 1) := by
  unfold Device.resultDone
  split
  · next h => exact absurd (h.symm.trans hq) (by simp)
  · next id l h =>
    obtain ⟨rfl, rfl⟩ := List.cons.inj (h.symm.trans hq)
    extract_lets x d1
    split
    · next h => exact absurd (h.symm.trans hj) (by simp)
    · next i hi =>
      obtain rfl : i = j := Option.some.inj (hi.symm.trans hj)
      extract_lets keep cut d2
      have hkeep : keep = d.keepBytes i := (Device.keepBytes_count64 _ hp 1).trans rfl
      have hpipe : d1.pipe p = { d.pipe p with egrQ := l, openF := none } := d.pipe_setPipe_same p _
      have hcount : d1.rn64 (R.sch_EGR_FRAMES_LO p) = min (2 ^ 64 - 1) (d.rn64 (R.sch_EGR_FRAMES_LO p) + 1) :=
        Device.rn64_setN64 _ _ (by omega)
      refine ⟨if cut = 0 then d1 else d1.count (R.sch_EGR_TRUNC_COUNT p) cut, _, rfl, fun y => by rw [← hkeep], ?_⟩
      split
      · exact ⟨hpipe, rfl, rfl, rfl, hcount⟩
      · refine ⟨hpipe, rfl, rfl, rfl, (Device.rn64_congr fun o ho => ?_).trans hcount⟩
        refine (Device.reg_setReg _ _ _ _).trans (if_neg ?_)
        simp only [List.mem_cons, List.not_mem_nil, or_false, R.sch_EGR_FRAMES_LO] at ho
        unfold R.sch_EGR_TRUNC_COUNT
        omega

/-- A frame whose job waits leaves the egress queue and is counted; its job has its completion tick and the payload that egress keeps. -/
theorem Device.resultDone_waits {d : Device} {p : Nat} (bytes : List Byte) {j : Job} {r : List Nat} (hq : (d.pipe p).egrQ = j.id :: r)
    (hj : d.job j.id = some j) (hp : j.pipe = p) (hm : j.toJobMarks.Waits) (hent : ∀ e ∈ d.plb.entries, e.job ≠ j.id) :
    (∃ a b c, (d.resultDone p bytes).pipe p = { d.pipe p with egrQ := r, openF := none, since := a, win := b, winDebit := c }) ∧
      (d.resultDone p bytes).rn64 (R.sch_EGR_FRAMES_LO p) = min (2 ^ 64 - 1) (d.rn64 (R.sch_EGR_FRAMES_LO p) + 1) ∧
      ((d.resultDone p bytes).job j.id).map (fun x => (x.done, x.payload)) = some (some d.now.tick, bytes.take (d.keepBytes j)) := by
  obtain ⟨e, g, hdone, hg, hpipe, hjobs, hnow, hplb, hframes⟩ := d.resultDone_eq bytes hq hj hp
  have hjob : (e.modJob j.id g).job j.id = some (g j) :=
    Device.job_modJob (by rw [Device.job, hjobs]; exact hj) fun y => by rw [hg]
  have hpipeG : (g j).pipe = p := by rw [hg]; exact hp
  obtain ⟨g2, hg2, hframe⟩ := Device.frameDone_waits hjob (by rw [hg]; exact hm)
    (by rw [show (e.modJob j.id g).plb = d.plb from hplb]; exact hent)
  obtain ⟨a, b, c, hsettle⟩ := (e.modJob j.id g).settle_pipe p
  obtain ⟨a', b', hjob2⟩ := Device.settle_job p hjob
  rw [hdone, hframe, hpipeG]
  refine ⟨⟨a, b, c, ?_⟩, ?_, ?_⟩
  · refine hsettle.trans ?_
    rw [show (e.modJob j.id g).pipe p = _ from hpipe]
  · refine (Device.rn64_congr fun o ho => Device.settle_reg _ p ?_).trans hframes
    simp only [List.mem_cons, List.not_mem_nil, or_false, R.sch_EGR_FRAMES_LO] at ho
    unfold R.sch_WINDOW_DEBIT
    omega
  · rw [Device.job_modJob hjob2 fun y => by rw [hg2], Option.map_some, hg2, hg, show (e.modJob j.id g).now = d.now from hnow]

/-- RESULT_FRAME_COMPLETE on a one-flit frame takes the flit and completes the frame. -/
theorem resultFrameComplete_single {d : Device} {p : Fin 64} (k cyc : Nat) {f : Flit} {l : List Flit} (hfault : d.pipeFault p = false)
    (hreset : d.pipeResetting p = false) (hin : (d.pipe p).egrIn = f :: l) (hq : (d.pipe p).egrQ ≠ []) (hopen : (d.pipe p).openF = none)
    (htag : f.tag = 3) (hseq : f.seq = 0) :
    resultFrameComplete p k cyc d = (((d.at k).atCyc cyc).setPipe p { d.pipe p with egrIn := l }).resultDone p f.bytes := by
  have hgo : ¬(d.pipeFault p || d.pipeResetting p) = true := by
    rw [hfault, hreset]
    exact Bool.false_ne_true
  refine (if_neg hgo).trans ?_
  rw [show (((d.at k).atCyc cyc).pipe p).egrIn = f :: l from hin]
  exact Device.takeResult_single l htag hseq hopen hq

/-! ### Tokens at egress (R227, R293) -/

/-- TOKEN_CONSUMED on the expected token takes it; a SWAP job that it belongs to completes with status 0. -/
theorem tokenConsumed_takes {d : Device} {p : Fin 64} (k cyc : Nat) {f : Flit} {l : List Flit} {x : Token} {ks : List Token}
    (hin : (d.pipe p).egrIn = f :: l) (htag : f.tag = 4) (htok : (d.pipe p).tokens = x :: ks) (hskim : x.skim = f.data.toNat % 2 ^ 14) :
    let e := ((d.at k).atCyc cyc).setPipe p { d.pipe p with egrIn := l, tokens := ks }
    (x.swap = none → tokenConsumed p k cyc d = e) ∧
      ∀ j, x.swap = some j.id → d.job j.id = some j → j.orphan = false → j.suppressed = false → j.cancelled = false →
        tokenConsumed p k cyc d = e.finish j.id 0 0 true := by
  intro e
  have hswapFlit : (!(f.swap && !f.first && !f.last && !f.fold)) = false := by
    rw [Flit.swap, Flit.first, Flit.last, Flit.fold, htag]
    rfl
  have hrun : tokenConsumed p k cyc d = (x.swap.bind e.job).elim e fun j =>
      if j.orphan || j.suppressed then e.finish j.id (if j.cancelled then 0x02 else 0x3F) 0 false
      else e.finishNow j.id (if j.cancelled then 0x02 else 0) := by
    unfold tokenConsumed
    extract_lets d0 y
    split
    · next h => exact absurd (h.symm.trans hin) (by simp)
    · next g m h =>
      obtain ⟨rfl, rfl⟩ := List.cons.inj (h.symm.trans hin)
      rw [hswapFlit, if_neg Bool.false_ne_true]
      extract_lets seen
      split
      · next h => exact absurd (h.symm.trans htok) (by simp)
      · next z zs h =>
        obtain ⟨rfl, rfl⟩ := List.cons.inj (h.symm.trans htok)
        rw [if_neg (not_not.2 hskim)]
        extract_lets d1
        split
        · next h => rw [show z.swap.bind e.job = none from h]; rfl
        · next j h => rw [show z.swap.bind e.job = some j from h]; rfl
  rw [hrun]
  refine ⟨fun hnone => by rw [hnone]; rfl, fun j hsome hj horphan hsuppressed hcancelled => ?_⟩
  rw [hsome, Option.bind_some, show e.job j.id = some j from hj]
  simp [horphan, hsuppressed, hcancelled, Device.finishNow]

/-! ### O23 -/

/-- Settles O23: a frame and a token enter by the ingress adapter (in a region without hot slots R299 is not applied, log entry 41), a
one-flit result frame completes at egress, and an expected token is consumed there. -/
theorem framesAndTokensPassTheAdapters : Obligations.FramesAndTokensPassTheAdapters := by
  unfold Obligations.FramesAndTokensPassTheAdapters
  refine ⟨fun s p cyc j r harray hkind hq hj hframe hopen htoken hspace => ⟨_, rfl, ?_⟩,
    fun s p cyc j r harray hq hj hswap hopen hslots => ⟨_, rfl, ?_⟩,
    fun s p k cyc j f l r harray hfault hreset hin hq hopen htag hseq hj hp horphan hsuppressed hcancelled hstalled hlate hent =>
      ⟨_, rfl, ?_⟩,
    fun s p k cyc f l x ks harray hin htag htok hskim =>
      ⟨fun hnone => ⟨_, rfl, ?_⟩, fun j hsome hfin hsuppressed hcancelled => ⟨_, rfl, ?_⟩⟩⟩
  · have hrun : s.dev.inArray (ingressFrame p cyc) = _ :=
      (if_pos harray).trans (ingressFrame_enters hkind hq hj hframe hopen htoken hspace)
    obtain ⟨hpipe, hjob, hcount, hregs⟩ := Device.frameEnters_spec (d := s.dev.atCyc cyc) hq hj
      (frameFlits 0 true (if (j.inLen + 31) / 32 = 0 then [[]] else chunk 32 ((j.inLen + 31) / 32) j.input)) 0
    dsimp only
    rw [hrun, hpipe]
    exact ⟨rfl, rfl, rfl, rfl, rfl, hjob, hcount, hregs, rfl, rfl⟩
  · have hrun : s.dev.inArray (swapToken p cyc) = _ := (if_pos harray).trans (swapToken_sends cyc hq hj hswap hopen hslots)
    have hskim : j.skim % 2 ^ 14 = j.skim := Nat.mod_eq_of_lt (fld_lt _ _ _)
    obtain ⟨hpipe, hrecord, hsent, hregs⟩ :=
      Device.sendToken_spec (d := (s.dev.atCyc cyc).setPipe p { s.dev.pipe p with ingQ := r }) (x := j.skim) hslots (some j.id)
    rw [Device.pipe_setPipe_same] at hpipe
    rw [hskim] at hrecord
    dsimp only
    rw [hrun, Device.pipe_modJob, hpipe]
    refine ⟨rfl, rfl, rfl, ?_, ?_, fun o ho => ?_, rfl, rfl⟩
    · rw [Device.rn, Device.reg_modJob]
      exact hrecord
    · rw [Device.reg_modJob]
      exact hsent
    · rw [Device.reg_modJob]
      exact hregs o ho
  · have hrun : s.dev.inArray (resultFrameComplete p k cyc) = _ :=
      (if_pos harray).trans (resultFrameComplete_single k cyc hfault hreset hin (by rw [hq]; simp) hopen htag hseq)
    obtain ⟨⟨a, b, c, hpipe⟩, hcount, hjob⟩ :=
      Device.resultDone_waits (d := ((s.dev.at k).atCyc cyc).setPipe p { s.dev.pipe p with egrIn := l }) f.bytes
        (by rw [Device.pipe_setPipe_same]; exact hq) hj hp ⟨horphan, hsuppressed, hcancelled, hstalled, hlate⟩ hent
    rw [Device.pipe_setPipe_same] at hpipe
    dsimp only
    rw [hrun, hpipe]
    exact ⟨rfl, rfl, rfl, hcount, hjob, rfl, rfl⟩
  · have hrun : s.dev.inArray (tokenConsumed p k cyc) = _ :=
      (if_pos harray).trans ((tokenConsumed_takes k cyc hin htag htok hskim).1 hnone)
    dsimp only
    rw [hrun, Device.pipe_setPipe_same]
    exact ⟨rfl, rfl, rfl, rfl, rfl, rfl⟩
  · obtain ⟨hj, hst, horphan, hfence⟩ := hfin
    have hrun : s.dev.inArray (tokenConsumed p k cyc) = _ :=
      (if_pos harray).trans ((tokenConsumed_takes k cyc hin htag htok hskim).2 j hsome hj horphan hsuppressed hcancelled)
    obtain ⟨e, he, hfinish⟩ := Device.finish_unfenced
      (d := ((s.dev.at k).atCyc cyc).setPipe p { s.dev.pipe p with egrIn := l, tokens := ks }) (status := 0) (plen := 0) (hdr := true)
      hj hst horphan hfence
    have hpipe : e.pipe p = _ := (he.pipe_eq p).trans (Device.pipe_setPipe_same _ p _)
    dsimp only
    rw [hrun, hfinish, Device.pipe_modJob, hpipe]
    exact ⟨rfl, rfl, ⟨_, Device.job_modJob ((he.job_eq j.id).trans hj) fun _ => rfl, rfl, rfl⟩, rfl, rfl⟩

end Sys2Proof.Machine
end

section
/-! PROOFS. ADMIT entries posted and posted again, and the decisions of SCH; O24 (R244 to R247, R293). -/
namespace Sys2Proof.Machine

/-! ### What the queue's operations leave of the pipelines (R84 to R91) -/

/-- A change of the Plumb unit alone leaves the pipelines. -/
theorem Device.plb_sparesPipes (d : Device) (x : Plb) : d.SparesPipes { d with plb := x } := ⟨rfl, rfl, rfl, rfl, rfl, fun _ _ => rfl⟩

/-- A register below the SCH pages is none of the pipelines'. -/
theorem not_ofPipe_below {o : Nat} (h : o < 0x20000) : ¬OfPipe o := fun hp => by
  obtain ⟨h1, -, -⟩ := hp
  omega

theorem Device.repredict_sparesPipes (d : Device) (e : EvEntry) : d.SparesPipes (d.repredict e) := by
  unfold Device.repredict
  dsimp only
  split
  · exact d.plb_sparesPipes _
  · exact d.plb_sparesPipes _

theorem Device.fallDue_sparesPipes (d : Device) (e : EvEntry) (due : Due) : d.SparesPipes (d.fallDue e due) := by
  unfold Device.fallDue
  extract_lets d1 d2 d3 d4
  have hcount : ∀ (x : Device) (o : Nat), o < 0x20000 → x.SparesPipes (x.count o 1) := fun x o ho =>
    x.setReg_sparesPipes _ (not_ofPipe_below ho)
  have h1 : d.SparesPipes d1 := d.plb_sparesPipes _
  have h2 : d.SparesPipes d2 :=
    .ite ((h1.trans (hcount d1 _ (by decide))).trans (Device.plb_sparesPipes _ _)) (.ite (h1.trans (d1.plb_sparesPipes _)) h1)
  have h3 : d.SparesPipes d3 := (h2.trans (hcount d2 _ (by decide))).trans (Device.plb_sparesPipes _ _)
  have h4 : d.SparesPipes d4 :=
    .ite (.ite ((h3.trans (hcount d3 _ (by decide))).trans (Device.evtBit_sparesPipes _ rfl _)) h3) h2
  exact h4.trans (d4.plb_sparesPipes _)

section
variable (d : Device) (n : Nat) (kind : EvKind) (c : Nat) (target : Int) (mask : BitVec 16) (job slot : Nat) (value : Word)

/-- A post leaves the pipelines, their jobs and their registers. -/
theorem Device.post_sparesPipes : d.SparesPipes (d.post n kind c target mask job slot value) := by
  unfold Device.post
  extract_lets e q d1 d2 used d3
  have h1 : d.SparesPipes d1 := d.plb_sparesPipes _
  have h2 : d.SparesPipes d2 := .ite (h1.trans (d1.fallDue_sparesPipes _ _)) (h1.trans (d1.repredict_sparesPipes _))
  have h3 : d.SparesPipes d3 := h2.trans (d2.setReg_sparesPipes _ (not_ofPipe_below (by decide)))
  exact .ite (h3.trans (d3.evtBit_sparesPipes rfl _)) h3

/-- A post adds an entry of the number, kind, channel, target and job posted. -/
theorem Device.post_mem_job : ∃ e ∈ (d.post n kind c target mask job slot value).plb.entries,
    e.num = n ∧ e.kind = kind ∧ e.ch = c ∧ e.target = target ∧ e.job = job := by
  unfold Device.post
  extract_lets e q d1 d2 used d3
  have hmem : e ∈ d1.plb.entries := List.mem_append_right _ (List.mem_singleton_self e)
  have h2 : ∃ x ∈ d2.plb.entries, x.num = n ∧ x.kind = kind ∧ x.ch = c ∧ x.target = target ∧ x.job = job := by
    dsimp only [d2]
    split
    · rw [Device.fallDue_entries]
      exact ⟨_, Device.mem_setEntry hmem rfl, rfl, rfl, rfl, rfl, rfl⟩
    · rw [Device.repredict_entries]
      exact ⟨_, Device.mem_setEntry hmem rfl, rfl, rfl, rfl, rfl, rfl⟩
  split
  · rwa [(Device.evtBit_speaks _ _ _).plb_eq]
  · exact h2

end

/-! ### A job posts its ADMIT entry (R244) -/

/-- The job at an index of a queue is in the tracker under its number. -/
theorem Device.job_of_jobAt {d : Device} {g i : Nat} {j : Job} (h : d.jobAt g i = some j) : ∃ x, d.job j.id = some x :=
  Option.isSome_iff_exists.1 (List.find?_isSome.2 ⟨j, List.mem_of_find?_eq_some h, decide_eq_true rfl⟩)

/-- A post with room: the job is posted, and the queue holds its ADMIT entry with its target. -/
theorem Device.postAdmit_posts {d : Device} {j x : Job} (num : Nat) (ua ud : Int) (hx : d.job j.id = some x) (hroom : d.evqFull = false) :
    ((d.postAdmit j num ua ud).job j.id).map (fun y => (y.st, y.entry)) = some (.posted, some (d.freeEntry num)) ∧
      ∃ e ∈ (d.postAdmit j num ua ud).plb.entries,
        e.num = d.freeEntry num ∧ e.kind = .admission ∧ e.ch = j.pch ∧ e.target = ua ∧ e.job = j.id := by
  rw [Device.postAdmit, if_neg (by rw [hroom]; exact Bool.false_ne_true)]
  refine ⟨?_, Device.post_mem_job _ _ _ _ _ _ _ _ _⟩
  rw [(Device.post_sparesPipes _ _ _ _ _ _ _ _ _).job_eq]
  have hjob : (d.modJob j.id fun y => { y with st := .posted, entry := some (d.freeEntry num), ua := ua, ud := ud }).job j.id = some _ :=
    Device.job_modJob hx fun _ => rfl
  rw [hjob, Option.map_some]

/-- A post, refused as FULL or not, leaves the registers of the pipelines. -/
theorem Device.postAdmit_reg (d : Device) (j : Job) (num : Nat) (ua ud : Int) {o : Nat} (ho : OfPipe o) :
    (d.postAdmit j num ua ud).reg o = d.reg o := by
  unfold Device.postAdmit
  split
  · rw [Device.reg_modJob, Device.evqRefuse, (Device.evtBit_sparesPipes _ rfl _).reg o ho]
    exact (d.setReg_sparesPipes _ (not_ofPipe_below (by decide))).reg o ho
  · rw [(Device.post_sparesPipes _ _ _ _ _ _ _ _ _).reg o ho, Device.reg_modJob]

/-- JOB_AT_SCH of a job that passes the checks of R232, R242 and R294 comes to its post. -/
theorem jobAtSch_posts {d : Device} {g : Fin 65536} {i : Word} (num : Fin 4096) {k : Nat} {j : Job} {ua : Int}
    (hat : (d.at k).jobAt g i.toNat = some j) (hst : j.st = .ready) (hpiped : j.piped = true)
    (htakes : refusesJobs ((d.at k).pipeState j.pipe) = false) (hen : (d.at k).chEnabled j.pch = true)
    (hsrc : (d.at k).srcKind j.pch ≠ 0) (hform : (d.at k).jobForm j = true)
    (htarget : (d.at k).targetOf j.pch j.head.admission.toNat 0 = some ua) (hskim : (d.at k).lookup j.pipe j.skim (tenantOf j.q) = true) :
    jobAtSch g i num k d = (d.at k).postAdmit j num ua (wrapS 64 (ua + (d.at k).deadlineDist j)) := by
  have hsrc' : ((d.at k).srcKind j.pch == 0) = false := beq_eq_false_iff_ne.2 hsrc
  simp only [jobAtSch, hat, hst, hpiped, true_and, if_true, Device.jobToSch, htakes, hen, hsrc', hform, htarget, hskim, Bool.not_true,
    Bool.or_self, Bool.false_eq_true, if_false]

/-- A retry that is due is counted and posts again with its first targets (log entry 43). -/
theorem evqPostRetry_repeats {d : Device} {g : Fin 65536} {i : Word} (num : Fin 4096) {k due : Nat} {j : Job}
    (hat : (d.at k).jobAt g i.toNat = some j) (hst : j.st = .retry due) (hdue : due ≤ (d.at k).now.tick) :
    evqPostRetry g i num k d = ((d.at k).count (R.sch_EVQ_RETRY_COUNT j.pipe) 1).postAdmit j num j.ua j.ud := by
  simp only [evqPostRetry, hat, hst]
  exact if_pos hdue

/-! ### Which entry SCH decides, and how (R245, R246) -/

theorem firstHand_mem {l : List EvEntry} {e : EvEntry} (h : firstHand l = some e) : e ∈ l := by
  induction l generalizing e with
  | nil => simp [firstHand] at h
  | cons x l ih =>
    unfold firstHand at h
    split at h
    · exact List.mem_cons.2 (.inl (Option.some.inj h).symm)
    · next f hf =>
      split at h
      · exact List.mem_cons.2 (.inl (Option.some.inj h).symm)
      · exact List.mem_cons_of_mem _ (Option.some.inj h ▸ ih hf)

/-- The entry decided next is pending, and its job goes through the pipeline. -/
theorem Device.nextAdmit_spec {d : Device} {p : Nat} {e : EvEntry} {j : Job} (h : d.nextAdmit p = some e) (hj : d.job e.job = some j) :
    e ∈ d.plb.entries ∧ j.pipe = p := by
  obtain ⟨hmem, hmine⟩ := List.mem_filter.1 (firstHand_mem h)
  rw [hj] at hmine
  simp only [Option.any_some, Bool.and_eq_true, beq_iff_eq] at hmine
  exact ⟨hmem, hmine.2⟩

/-- The decision on a job: the rule of R246 for a FRAME; a SWAP job is refused in a hold alone (R293). -/
def Device.jobVerdict (d : Device) (j : Job) : Verdict :=
  if j.isSwap then (if d.rf (R.sch_SCHED_STATE j.pipe) 0 1 = 1 then .refuse true else .admission false) else d.admitVerdict j

/-- What SCH does on a verdict, with the flag PAST of an entry due as PAST (R246, R247). -/
def Device.carryOut (d : Device) (j : Job) (e : EvEntry) (past : BitVec 8) : Verdict → Device
  | .refuse held => d.tooFast j (past ||| if held then 1 else 0)
  | .admission nopred => d.admitJob j e (past ||| if nopred then 2 else 0)

/-- ADMISSION_DECISION of a RUNNING pipeline carries out the verdict on the next entry's job. -/
theorem admissionDecision_carriesOut {d d0 : Device} {p : Fin 64} {k cyc : Nat} {e : EvEntry} {j : Job} (h0 : (d.at k).atCyc cyc = d0)
    (hreset : d0.pipeResetting p = false) (hnext : d0.nextAdmit p = some e) (hj : d0.job e.job = some j) (hfault : d0.pipeFault p = false)
    (hstate : d0.pipeState p = 2) : ∃ past, admissionDecision p k cyc d = d0.carryOut j e past (d0.jobVerdict j) := by
  obtain ⟨-, hpipe⟩ := Device.nextAdmit_spec hnext hj
  have hrun : admissionDecision p k cyc d = d0.decideEntry j e := by
    simp only [admissionDecision, h0, hreset, Bool.false_eq_true, if_false, hnext, hj]
  have htakes : refusesJobs 2 = false := rfl
  rw [hrun]
  simp only [Device.decideEntry, hpipe, hfault, hstate, htakes, Bool.false_eq_true, if_false, ne_eq, not_true, Device.jobVerdict]
  exact ⟨_, rfl⟩

/-! ### Admission and refusal (R246, R247) -/

/-- A pair of the pipelines' registers reads as it did. -/
theorem Device.SparesPipes.rn64_eq {d e : Device} (h : d.SparesPipes e) {lo : Nat} (hlo : OfPipe lo) (hhi : OfPipe (lo + 4)) :
    e.rn64 lo = d.rn64 lo :=
  Device.rn64_congr fun o ho => by
    simp only [List.mem_cons, List.not_mem_nil, or_false] at ho
    rcases ho with rfl | rfl
    · exact h.reg _ hlo
    · exact h.reg _ hhi

theorem ofPipe_admitted {p : Nat} (hp : p < 64) : OfPipe (R.sch_ADMITTED_LO p) ∧ OfPipe (R.sch_ADMITTED_LO p + 4) := by
  unfold OfPipe R.sch_ADMITTED_LO
  omega

/-- Settling a pipeline leaves every pair that WINDOW_DEBIT is no word of. -/
theorem Device.settle_rn64 (d : Device) (p : Nat) {lo : Nat} (h : R.sch_WINDOW_DEBIT p ∉ [lo, lo + 4]) :
    (d.settle p).rn64 lo = d.rn64 lo :=
  Device.rn64_congr fun _ ho => d.settle_reg p fun hw => h (hw ▸ ho)

/-- Job `j` has been admitted: it has joined the ingress queue of its pipeline and is counted. -/
structure Device.Admitted (d : Device) (j : Job) (e : Device) : Prop where
  st : (e.job j.id).map (·.st) = some .admitted
  ingQ : (e.pipe j.pipe).ingQ = (d.pipe j.pipe).ingQ ++ [j.id]
  count : e.rn64 (R.sch_ADMITTED_LO j.pipe) = min (2 ^ 64 - 1) (d.rn64 (R.sch_ADMITTED_LO j.pipe) + 1)

theorem Device.Admitted.sparesPipes {d e x : Device} {j : Job} (h : d.Admitted j e) (g : e.SparesPipes x) : d.Admitted j x where
  st := by rw [g.job_eq, h.st]
  ingQ := by rw [g.pipe_eq, h.ingQ]
  count := by
    have hp : j.pipe < 64 := fld_lt _ _ _
    rw [g.rn64_eq (ofPipe_admitted hp).1 (ofPipe_admitted hp).2, h.count]

/-- The RELEASE entry that an ADMIT entry becomes, at the deadline (R247). -/
def EvEntry.toRelease (e : EvEntry) (ud : Int) : EvEntry :=
  { e with kind := .release, target := ud, mask := 0, due := none, hand := none, wait := false, fired := 0, pred := none }

/-- Admission: the job is admitted with the position-event queue as it was, and then its entry becomes its RELEASE entry, or leaves. -/
theorem Device.admitJob_eq {d : Device} {j : Job} (e : EvEntry) (flags : BitVec 8) (hj : d.job j.id = some j) :
    ∃ x, d.Admitted j x ∧ x.plb = d.plb ∧ d.admitJob j e flags =
      if j.isSwap then x.cancelEntry e.num else (x.setEntry (e.toRelease j.ud)).repredict (e.toRelease j.ud) := by
  unfold Device.admitJob
  extract_lets p d1 d2 d3 x d4 r
  have hjob1 : d1.job j.id = some _ := Device.job_modJob hj fun _ => rfl
  obtain ⟨a, b, hjob⟩ := Device.settle_job p hjob1
  obtain ⟨c1, c2, c3, hpipe⟩ := d1.settle_pipe p
  have hcount2 : d2.rn64 (R.sch_ADMITTED_LO p) = min (2 ^ 64 - 1) (d.rn64 (R.sch_ADMITTED_LO p) + 1) := by
    refine (Device.rn64_setN64 _ _ (by omega)).trans ?_
    rw [d1.settle_rn64 p (by
      simp only [List.mem_cons, List.not_mem_nil, or_false, R.sch_ADMITTED_LO, R.sch_WINDOW_DEBIT]
      omega)]
    rfl
  have hjob2 : (d2.job j.id).map (·.st) = some .admitted := congrArg (Option.map Job.st) hjob
  have hpipe2 : (d2.pipe p).ingQ = (d.pipe p).ingQ := (congrArg Pipe.ingQ hpipe).trans rfl
  have hplb2 : d2.plb = d.plb := d1.settle_plb p
  clear_value d2
  have h3 : d3.jobs = d2.jobs ∧ d3.pipes = d2.pipes ∧ d3.plb = d2.plb ∧
      d3.rn64 (R.sch_ADMITTED_LO p) = d2.rn64 (R.sch_ADMITTED_LO p) := by
    dsimp only [d3]
    split
    · refine ⟨rfl, rfl, rfl, Device.rn64_congr fun o ho => (Device.reg_setReg _ _ _ _).trans (if_neg ?_)⟩
      simp only [List.mem_cons, List.not_mem_nil, or_false, R.sch_ADMITTED_LO] at ho
      unfold R.sch_NOPRED_COUNT
      omega
    · exact ⟨rfl, rfl, rfl, rfl⟩
  obtain ⟨hjobs3, hpipes3, hplb3, hcount3⟩ := h3
  clear_value d3
  refine ⟨d4, ⟨?_, ?_, hcount3.trans hcount2⟩, hplb3.trans hplb2, rfl⟩
  · rw [Device.job, show d4.jobs = d2.jobs from hjobs3]
    exact hjob2
  · rw [d3.pipe_setPipe_same p _, Device.pipe, hpipes3, ← Device.pipe, hpipe2]

/-- A FRAME that is admitted: its entry is its RELEASE entry at the deadline. -/
theorem Device.admitJob_frame {d : Device} {j : Job} {e : EvEntry} (flags : BitVec 8) (hj : d.job j.id = some j)
    (hframe : j.isSwap = false) (hmem : e ∈ d.plb.entries) :
    d.Admitted j (d.admitJob j e flags) ∧
      ∃ r ∈ (d.admitJob j e flags).plb.entries, r.num = e.num ∧ r.kind = .release ∧ r.target = j.ud ∧ r.job = e.job := by
  obtain ⟨x, hx, hplb, h⟩ := Device.admitJob_eq e flags hj
  rw [hframe, if_neg Bool.false_ne_true] at h
  rw [h]
  refine ⟨hx.sparesPipes ((x.plb_sparesPipes _).trans (Device.repredict_sparesPipes _ _)), ?_⟩
  rw [Device.repredict_entries]
  have hset : e.toRelease j.ud ∈ (x.setEntry (e.toRelease j.ud)).plb.entries :=
    Device.mem_setEntry (show e ∈ x.plb.entries by rw [hplb]; exact hmem) rfl
  exact ⟨_, Device.mem_setEntry hset rfl, rfl, rfl, rfl, rfl⟩

/-- A SWAP job that is admitted: its entry is gone (R293; log entry 44). -/
theorem Device.admitJob_swap {d : Device} {j : Job} (e : EvEntry) (flags : BitVec 8) (hj : d.job j.id = some j) (hswap : j.isSwap = true) :
    d.Admitted j (d.admitJob j e flags) ∧ ∀ r ∈ (d.admitJob j e flags).plb.entries, r.num ≠ e.num := by
  obtain ⟨x, hx, -, h⟩ := Device.admitJob_eq e flags hj
  rw [hswap, if_pos rfl] at h
  rw [h]
  refine ⟨hx.sparesPipes (x.plb_sparesPipes _), fun r hr => ?_⟩
  simpa using (List.mem_filter.1 hr).2

/-- A job that can finish and is refused completes TOO_FAST and is counted; the adapters of the pipelines stand. -/
theorem Device.tooFast_completes {d : Device} {j : Job} (flags : BitVec 8) (hj : d.job j.id = some j) (hst : j.st ≠ .completed)
    (horphan : j.orphan = false) (hfence : (d.queue j.q).fence = none) :
    (∃ x, (d.tooFast j flags).job j.id = some x ∧ x.st = .completed ∧ x.status = 0x14) ∧
      (d.tooFast j flags).reg (R.sch_TOO_FAST_COUNT j.pipe) = satAdd (d.reg (R.sch_TOO_FAST_COUNT j.pipe)) 1 ∧
      ∀ p, (d.tooFast j flags).pipe p = d.pipe p := by
  have hp : j.pipe < 64 := fld_lt _ _ _
  have hpage : schPage j.pipe % 0x1000 = 0 := by unfold schPage; omega
  have hreg : OfPipe (R.sch_TOO_FAST_COUNT j.pipe) := ofPipe_sch (n := 0x230) hp (by omega) (by omega)
  unfold Device.tooFast Device.finishNow
  have hjob : (d.modJob j.id fun x => { x with flags := x.flags ||| flags }).job j.id = some _ := Device.job_modJob hj fun _ => rfl
  obtain ⟨e, he, hfinish⟩ := Device.finish_unfenced (status := 0x14) (plen := 0) (hdr := true) hjob hst horphan hfence
  rw [hfinish]
  have hevt := ((e.modJob j.id fun x => { x.free with st := .completed, status := 0x14, written := true }).count
    (R.sch_TOO_FAST_COUNT j.pipe) 1).evtBit_sparesPipes hpage 16
  have hdone : (e.modJob j.id fun x => { x.free with st := .completed, status := 0x14, written := true }).job j.id = some _ :=
    Device.job_modJob ((he.job_eq j.id).trans hjob) fun _ => rfl
  refine ⟨⟨_, (hevt.job_eq j.id).trans hdone, rfl, rfl⟩, ?_, fun p => ?_⟩
  · rw [hevt.reg _ hreg, Device.count_eq, Device.reg_setReg, if_pos rfl, Device.reg_modJob, he.reg _ hreg]
    rfl
  · rw [hevt.pipe_eq]
    exact he.pipe_eq p

/-! ### O24 -/

/-- Settles O24: a job that passes its checks is posted under a number of the device's choice (log entry 11), a retry keeps its first target
(log entry 43), and SCH admits or refuses the job of an ADMIT entry, the entry of a SWAP job leaving (log entry 44). -/
theorem jobsArePostedAndDecided : Obligations.JobsArePostedAndDecided := by
  unfold Obligations.JobsArePostedAndDecided
  refine ⟨fun s g i num k j ua hat hst hpiped htakes hen hsrc hform htarget hskim hroom => ⟨_, rfl, ?_⟩,
    fun s g i num k due j hat hst hdue => ⟨_, rfl, ?_⟩, fun s p k cyc e j => ?_⟩
  · obtain ⟨x, hx⟩ := Device.job_of_jobAt hat
    obtain ⟨hjob, hmem⟩ := Device.postAdmit_posts num ua (wrapS 64 (ua + (s.dev.at k).deadlineDist j)) hx hroom
    dsimp only
    rw [jobAtSch_posts num hat hst hpiped htakes hen hsrc hform htarget hskim]
    exact ⟨hjob, hmem, rfl, rfl⟩
  · obtain ⟨x, hx⟩ := Device.job_of_jobAt hat
    have hp : j.pipe < 64 := fld_lt _ _ _
    dsimp only
    rw [evqPostRetry_repeats num hat hst hdue]
    refine ⟨?_, ⟨rfl, rfl⟩, fun hroom => ?_⟩
    · rw [Device.postAdmit_reg _ _ _ _ _ (ofPipe_sch (n := 0x244) hp (by omega) (by omega)), Device.count_eq, Device.reg_setReg,
        if_pos rfl]
      rfl
    · obtain ⟨hjob, e, he, hnum, hkind, -, htarget, hid⟩ :=
        Device.postAdmit_posts (d := (s.dev.at k).count (R.sch_EVQ_RETRY_COUNT j.pipe) 1) num j.ua j.ud hx hroom
      exact ⟨hjob, e, he, hnum, hkind, htarget, hid⟩
  · intro d hreset hnext hj hfault hstate
    obtain ⟨hmem, hpipe⟩ := Device.nextAdmit_spec hnext hj
    have hj' : d.job j.id = some j := by rw [Device.id_of_job hj]; exact hj
    obtain ⟨past, hrun⟩ := admissionDecision_carriesOut (d0 := d) rfl hreset hnext hj hfault hstate
    refine ⟨fun np hframe hv => ⟨_, rfl, ?_⟩, fun h hframe hv hfin => ⟨_, rfl, ?_⟩, fun hswap hhold => ⟨_, rfl, ?_⟩⟩
    · have hverdict : d.jobVerdict j = .admission np := by rw [Device.jobVerdict, hframe]; exact hv
      obtain ⟨⟨hst, hing, hcount⟩, hrelease⟩ := Device.admitJob_frame (past ||| if np then 2 else 0) hj' hframe hmem
      rw [hpipe] at hing hcount
      dsimp only
      rw [hrun, hverdict]
      exact ⟨hst, hing, hcount, hrelease, rfl, rfl⟩
    · have hverdict : d.jobVerdict j = .refuse h := by rw [Device.jobVerdict, hframe]; exact hv
      obtain ⟨-, hst, horphan, hfence⟩ := hfin
      obtain ⟨hdone, hcount, hstay⟩ := Device.tooFast_completes (past ||| if h then 1 else 0) hj' hst horphan hfence
      rw [hpipe] at hcount
      dsimp only
      rw [hrun, hverdict]
      exact ⟨hdone, hcount, congrArg Pipe.ingQ (hstay p), rfl, rfl⟩
    · have hverdict : d.jobVerdict j = .admission false := by rw [Device.jobVerdict, hswap, hpipe, hhold]; rfl
      obtain ⟨⟨hst, hing, -⟩, hgone⟩ := Device.admitJob_swap e (past ||| if false then 2 else 0) hj' hswap
      rw [hpipe] at hing
      dsimp only
      rw [hrun, hverdict]
      exact ⟨hst, hing, hgone, rfl, rfl⟩

end Sys2Proof.Machine
end

section
/-! PROOFS. What a release leaves of the jobs and of the position-event queue (R251 to R254, R262). -/
namespace Sys2Proof.Machine

/-! ### What leaves the jobs and the queue alone -/

/-- The jobs and the Plumb unit are as they were. -/
structure Device.SparesJobs (d e : Device) : Prop where
  jobs : e.jobs = d.jobs
  plb : e.plb = d.plb

namespace Device.SparesJobs
variable {d e f : Device}

theorem refl (d : Device) : d.SparesJobs d := ⟨rfl, rfl⟩

theorem trans (h : d.SparesJobs e) (g : e.SparesJobs f) : d.SparesJobs f := ⟨g.jobs.trans h.jobs, g.plb.trans h.plb⟩

theorem ite {b : Prop} [Decidable b] (h : d.SparesJobs e) (g : d.SparesJobs f) : d.SparesJobs (if b then e else f) := by
  split
  · exact h
  · exact g

theorem job_eq (h : d.SparesJobs e) (id : Nat) : e.job id = d.job id := congrArg (List.find? fun j : Job => decide (j.id = id)) h.jobs

end Device.SparesJobs

theorem Device.Speaks.sparesJobs {d e : Device} (h : d.Speaks e) : d.SparesJobs e := ⟨(congrArg Device.jobs h :), h.plb_eq⟩

theorem Device.setN_sparesJobs (d : Device) (o n : Nat) : d.SparesJobs (d.setN o n) := ⟨rfl, rfl⟩

theorem Device.count64_sparesJobs (d : Device) (lo n : Nat) : d.SparesJobs (d.count64 lo n) := ⟨rfl, rfl⟩

/-! ### The record of a release (R262) -/

theorem Device.ledgerAdd_sparesJobs (d : Device) (p k : Nat) (l : List Nat) : d.SparesJobs (d.ledgerAdd p k l) := by
  induction l generalizing d k with
  | nil => exact .refl d
  | cons n l ih =>
    exact ((d.count64_sparesJobs _ _).trans (Device.setN_sparesJobs _ _ _)).trans (ih _ _)

theorem Device.traceRecord_sparesJobs (d : Device) (mk : Nat → List Byte) : d.SparesJobs (d.traceRecord mk) := by
  unfold Device.traceRecord
  extract_lets s d1
  have h1 : d.SparesJobs d1 := d.setN_sparesJobs _ _
  clear_value d1
  refine .ite (h1.trans ?_) (h1.trans ⟨rfl, rfl⟩)
  exact (((d1.speaks_setReg _ _).trans (Device.evtBit_speaks _ _ _)).trans (Device.err_speaks _ _ _ _ _)).sparesJobs

/-- What SCH records at a release leaves the jobs and the queue. -/
theorem Device.recordRelease_sparesJobs (d : Device) (id status : Nat) : d.SparesJobs (d.recordRelease id status) := by
  unfold Device.recordRelease
  split
  · exact .refl d
  · next j hj =>
    extract_lets p d1 d2 d3 low d4
    have h1 : d.SparesJobs d1 := (d.ledgerAdd_sparesJobs p 0 j.debits).trans (Device.count64_sparesJobs _ _ _)
    have h2 : d.SparesJobs d2 :=
      (((h1.trans (d1.setN_sparesJobs _ _)).trans (Device.setN_sparesJobs _ _ _)).trans (Device.setN_sparesJobs _ _ _)).trans
        (Device.setN_sparesJobs _ _ _)
    clear_value d2
    have h3 : d.SparesJobs d3 := .ite ((h2.trans (d2.setN_sparesJobs _ _)).trans (Device.setN_sparesJobs _ _ _)) h2
    clear_value d3
    have h4 : d.SparesJobs d4 := .ite (h3.trans (d3.evtBit_speaks _ _).sparesJobs) h3
    clear_value d4
    exact .ite (h4.trans (d4.traceRecord_sparesJobs _)) h4

/-! ### The payload sent to its sink (R251, R491, R550) -/

theorem Device.hostWrite_sparesJobs (d : Device) (f a : Nat) (b : List Byte) : d.SparesJobs (d.hostWrite f a b) := by
  unfold Device.hostWrite
  exact .ite (.refl d) (.ite ⟨rfl, rfl⟩ ⟨rfl, rfl⟩)

theorem Device.writeSegs_sparesJobs (d : Device) (f : Nat) (pad : Bool) (segs : List (Nat × Nat)) (l : List Byte) :
    d.SparesJobs (d.writeSegs f pad segs l) := by
  induction segs generalizing d l with
  | nil => exact .refl d
  | cons seg segs ih =>
    obtain ⟨a, n⟩ := seg
    exact (Device.SparesJobs.ite (.refl d) (d.hostWrite_sparesJobs _ _ _)).trans (ih _ _)

theorem Device.countOut_sparesJobs (d : Device) (j : Job) (n : Nat) : d.SparesJobs (d.countOut j n) := by
  unfold Device.countOut
  extract_lets d1 k
  have h1 : d.SparesJobs d1 := .ite ⟨rfl, rfl⟩ (.refl d)
  exact h1.trans ⟨rfl, rfl⟩

theorem Device.countRxWait_sparesJobs (d : Device) (r : Nat) : d.SparesJobs (d.countRxWait r) := by
  unfold Device.countRxWait
  extract_lets n d1
  have h1 : d.SparesJobs d1 := .ite ⟨rfl, rfl⟩ (.refl d)
  exact h1.trans ⟨rfl, rfl⟩

theorem Device.lwSettle_sparesJobs (d : Device) (k : Nat) : d.SparesJobs (d.lwSettle k) := by
  unfold Device.lwSettle
  extract_lets x waits d1
  have h1 : d.SparesJobs d1 := .ite ⟨rfl, rfl⟩ (.refl d)
  exact h1.trans ⟨rfl, rfl⟩

theorem Device.lwTouch_sparesJobs (d : Device) (k : Nat) : d.SparesJobs (d.lwTouch k) := by
  unfold Device.lwTouch
  exact .ite ⟨rfl, rfl⟩ (.refl d)

/-- The Plumb unit stands, and so does job `j`, but for the peer frame that it awaits. -/
structure Device.SendsFor (d : Device) (j : Job) (e : Device) : Prop where
  plb : e.plb = d.plb
  job : ∃ x, e.job j.id = some { j with peer := x }

theorem Device.SparesJobs.sendsFor {d e : Device} {j : Job} (h : d.SparesJobs e) (hj : d.job j.id = some j) : d.SendsFor j e :=
  ⟨h.plb, j.peer, (h.job_eq j.id).trans hj⟩

/-- A payload sent to a peer channel: the job awaits the acknowledgement of the frame. -/
theorem Device.SparesJobs.sendsFor_peer {d e : Device} {j : Job} (h : d.SparesJobs e) (hj : d.job j.id = some j)
    (x : Option (Nat × Nat × Nat)) : d.SendsFor j (e.modJob j.id fun y => { y with peer := x }) :=
  ⟨h.plb, x, Device.job_modJob ((h.job_eq j.id).trans hj) fun _ => rfl⟩

theorem Device.SendsFor.sparesJobs {d e f : Device} {j : Job} (h : d.SendsFor j e) (g : e.SparesJobs f) : d.SendsFor j f := by
  obtain ⟨hplb, x, hjob⟩ := h
  exact ⟨g.plb.trans hplb, x, (g.job_eq j.id).trans hjob⟩

/-- The payload of a job goes to its sink, whatever the sink is. -/
theorem Device.sendPayload_sendsFor {d : Device} {j : Job} (status : Nat) (hj : d.job j.id = some j) :
    d.SendsFor j (d.sendPayload j status) := by
  unfold Device.sendPayload
  extract_lets p r fl d1 x1 k port c n d0 x0 d2
  split
  · exact (Device.SparesJobs.refl d).sendsFor hj
  · split
    · exact ((d.writeSegs_sparesJobs _ _ _ _).trans (Device.countOut_sparesJobs _ _ _)).sendsFor hj
    · refine Device.SparesJobs.sendsFor ((d.countRxWait_sparesJobs r).trans ?_) hj
      exact ⟨rfl, rfl⟩
    · split
      · have h2 : d.SparesJobs (d2.setN (R.lwl_CH_FRAMES port c) ((n + 1) % 2 ^ 32)) := (d.lwSettle_sparesJobs port).trans ⟨rfl, rfl⟩
        exact (h2.sendsFor_peer hj _).sparesJobs (Device.lwTouch_sparesJobs _ _)
      · exact (Device.SparesJobs.refl d).sendsFor_peer hj _
    · exact (Device.SparesJobs.refl d).sendsFor hj

/-! ### A result is released (R251 to R254) -/

theorem Device.job_setJob {d : Device} {j x : Job} (hx : d.job j.id = some x) : (d.setJob j).job j.id = some j := by
  refine (d.job_mapJobs (f := fun y => if y.id = j.id then j else y) (fun y => ?_) j.id).trans ?_
  · split
    · next h => exact h.symm
    · rfl
  · rw [hx, Option.map_some, if_pos (Device.id_of_job hx)]

/-- A release of a job with a due tick and a complete result begins, with MARGIN_CYC from both ticks; the queue stands. -/
theorem Device.release_begins {d : Device} {id u td : Nat} {j : Job} (hj : d.job id = some j) (hdue : j.due = some u)
    (hdone : j.done = some td) :
    ((d.release id).job id).map (fun y => (y.st, y.due, y.mc)) = some (.writing, some u, marginCyc d.mhz u td) ∧
      (d.release id).plb = d.plb := by
  obtain rfl := Device.id_of_job hj
  unfold Device.release
  split
  · next h => exact absurd (h.symm.trans hj) (by simp)
  · next i hi =>
    obtain rfl : i = j := Option.some.inj (hi.symm.trans hj)
    extract_lets due mc mp j1 status d1 d2
    have hmc : mc = marginCyc d.mhz u td := by simp only [mc, due, hdone, hdue, Option.getD_some]
    have hjob1 : d1.job j1.id = some j1 := Device.job_setJob hj
    have h2 : d1.SendsFor j1 d2 := by
      dsimp only [d2]
      split
      · exact (Device.SparesJobs.refl d1).sendsFor hjob1
      · exact Device.sendPayload_sendsFor status hjob1
    obtain ⟨hplb, x, hjob⟩ := h2.sparesJobs (d2.recordRelease_sparesJobs i.id status)
    refine ⟨?_, hplb⟩
    rw [show (d2.recordRelease i.id status).job i.id = _ from hjob, Option.map_some, ← hmc, ← hdue]

theorem Device.mem_cancelJobEntries {d : Device} {q : Nat → Bool} {x : EvEntry} (h : x ∈ (d.cancelJobEntries q).plb.entries) :
    x ∈ d.plb.entries := by
  revert h
  unfold Device.cancelJobEntries
  exact List.foldlRecOn _ _ (motive := fun e : Device => x ∈ e.plb.entries → x ∈ d.plb.entries) id
    fun _ he _ _ h => he (List.mem_filter.1 h).1

/-- A job found late is marked with its due tick and counted, and no entry enters the queue. -/
theorem Device.markLate_marks {d : Device} {id : Nat} {j : Job} (due : Nat) (hj : d.job id = some j) :
    ((d.markLate id due).job id).map (fun y => (y.late, y.due)) = some (true, some due) ∧
      (d.markLate id due).reg (R.sch_LATE_COUNT j.pipe) = satAdd (d.reg (R.sch_LATE_COUNT j.pipe)) 1 ∧
      ∀ y ∈ (d.markLate id due).plb.entries, y ∈ d.plb.entries := by
  have hp : j.pipe < 64 := fld_lt _ _ _
  have hpage : schPage j.pipe % 0x1000 = 0 := by unfold schPage; omega
  have hreg : OfPipe (R.sch_LATE_COUNT j.pipe) := ofPipe_sch (n := 0x234) hp (by omega) (by omega)
  unfold Device.markLate
  split
  · next h => exact absurd (h.symm.trans hj) (by simp)
  · next i hi =>
    obtain rfl : i = j := Option.some.inj (hi.symm.trans hj)
    extract_lets d1 d2 x
    obtain ⟨m, hd1, hjob, hplb, hregs⟩ : ∃ m : Device, d1 = m.cancelJobEntries (· == id) ∧
        m.job id = some { i with late := true, due := some due } ∧ m.plb = d.plb ∧ m.regs = d.regs :=
      ⟨_, rfl, Device.job_modJob hj fun _ => rfl, rfl, rfl⟩
    have h1 : m.SparesPipes d1 := hd1 ▸ m.cancelJobEntries_sparesPipes _
    have h2 := (d1.count (R.sch_LATE_COUNT i.pipe) 1).evtBit_sparesPipes hpage 17
    refine ⟨?_, ?_, fun y hy => ?_⟩
    · exact congrArg (Option.map fun y : Job => (y.late, y.due)) ((h2.job_eq id).trans ((h1.job_eq id).trans hjob))
    · rw [Device.reg_setPipe, h2.reg _ hreg, Device.count_eq, Device.reg_setReg, if_pos rfl, h1.reg _ hreg, Device.reg, hregs]
      rfl
    · rw [show (d2.setPipe i.pipe { x with lateWin := some d2.window }).plb = d1.plb from (Device.evtBit_speaks _ _ _).plb_eq] at hy
      rw [← hplb]
      exact Device.mem_cancelJobEntries (hd1 ▸ hy)

end Sys2Proof.Machine
end

section
/-! PROOFS. Due RELEASE entries, written releases and the admission hold; O25 (R251 to R256, R262). -/
namespace Sys2Proof.Machine

/-! ### RELEASE entries (R251, R254) -/

/-- The device with the entries of a number gone, their pulses kept. -/
def Device.dropEntry (d : Device) (n : Nat) : Device := d.setEntries (d.plb.entries.filter fun y => !(y.num == n))

theorem Device.num_ne_of_mem_dropEntry {d : Device} {n : Nat} {y : EvEntry} (h : y ∈ (d.dropEntry n).plb.entries) : y.num ≠ n := by
  simpa using (List.mem_filter.1 h).2

/-- A job whose RELEASE entry fell due: it has the due tick, and the flag JUMPED where a jump made it due (chapter 9, Edges). -/
def Job.dueAt (j : Job) (u : Due) : Job := { j with due := some u.tick, flags := if u.jumped then j.flags ||| 8 else j.flags }

section
variable {d : Device} {e : Fin 4096} (k : Nat) {x : EvEntry} {u : Due} {j : Job}
  (hx : (d.plb.entries.find? fun x => x.num = e.val ∧ x.kind = .release ∧ x.hand.isSome) = some x) (hu : x.due = some u)
  (hj : d.job x.job = some j)
include hx hu hj

/-- RESULT_RELEASE where the result is not complete: the entry is gone and the job is late. -/
theorem resultRelease_late (hdone : j.done = none) : resultRelease e k d = ((d.at k).dropEntry x.num).markLate j.id u.tick := by
  have hj' : ((d.at k).setEntries (d.plb.entries.filter fun y => !(y.num == x.num))).job x.job = some j := hj
  simp only [resultRelease, hx, hu, Option.getD_some, Device.at_plb, hj', hdone]
  rfl

/-- RESULT_RELEASE where the result was complete by the due tick: the entry is gone and the release begins. -/
theorem resultRelease_inTime {td : Nat} (hdone : j.done = some td) (hle : td ≤ u.tick) :
    resultRelease e k d = (((d.at k).dropEntry x.num).modJob j.id (·.dueAt u)).release j.id := by
  have hj' : ((d.at k).setEntries (d.plb.entries.filter fun y => !(y.num == x.num))).job x.job = some j := hj
  simp only [resultRelease, hx, hu, Option.getD_some, Device.at_plb, hj', hdone]
  exact if_pos hle

end

/-- RELEASE_WRITES_DONE of a release to no peer whose payload is written finishes the job with its release status (R256). -/
theorem releaseWritesDone_finishes {d : Device} {g : Fin 65536} {i : Word} {k : Nat} {j : Job}
    (hat : (d.at k).jobAt g i.toNat = some j) (hst : j.st = .writing) (hgone : (d.at k).payloadGone j = true) (hpeer : j.peer = none)
    (hj : d.job j.id = some j) :
    ∃ plen, releaseWritesDone g i k d = (d.at k).finish j.id j.releaseStatus plen true := by
  have hj' : (d.at k).job j.id = some j := hj
  simp only [releaseWritesDone, hat, hst, hgone, and_self, if_true, Device.releaseDone, hj', hpeer]
  exact ⟨_, rfl⟩

/-! ### The admission hold (R255, R262) -/

/-- HOLD is cleared: SCHED_STATE takes a word with HOLD 0, and nothing else of the pipelines changes. -/
theorem Device.clearHold_clears (d : Device) (p : Nat) :
    ∃ v, fld v 0 1 = 0 ∧ (d.setReg (R.sch_SCHED_STATE p) v).SparesPipes (d.clearHold p) := by
  have hpage : schPage p % 0x1000 = 0 := by unfold schPage; omega
  unfold Device.clearHold
  split
  · exact ⟨_, fld_setFld _ _ (by omega), Device.evtBit_sparesPipes _ hpage 20⟩
  · next h =>
    have hlt := fld_lt (d.reg (R.sch_SCHED_STATE p)) 0 1
    refine ⟨d.reg (R.sch_SCHED_STATE p), by rw [Device.rf] at h; omega, rfl, rfl, rfl, rfl, rfl, fun o _ => ?_⟩
    rw [Device.reg_setReg]
    split
    · next ho => rw [ho]
    · rfl

/-- HOLD_WINDOW_END of a later window, the one before it quiet: WINDOW_DEBIT is written, the window is noted, and the hold is cleared. -/
theorem holdWindowEnd_clears {d d0 : Device} {p : Fin 64} {k cyc h : Nat} (h0 : ((d.atCyc cyc).settle p).at k = d0)
    (hhold : (d0.pipe p).holdWin = some h) (hwin : h + 1 < d0.window)
    (hdebit : d0.windowDebit p ≤ d0.rf (R.sch_RECOVER_CYC p) 0 24) (hlate : (d0.pipe p).lateWin ≠ some (d0.window - 1)) :
    ∃ (e : Device) (x : Pipe), holdWindowEnd p k cyc d = (e.setPipe p x).clearHold p ∧ x.win = d0.window ∧
      e.rn (R.sch_WINDOW_DEBIT p) = d0.windowDebit p := by
  unfold holdWindowEnd
  extract_lets e d1 x d2
  obtain rfl : e = d0 := h0
  clear_value e
  have hx : x = e.pipe p := e.pipe_setReg _ _ _
  have hbound : e.rf (R.sch_RECOVER_CYC p) 0 24 < 2 ^ 24 := fld_lt _ _ _
  have hwritten : d1.rn (R.sch_WINDOW_DEBIT p) = e.windowDebit p := Device.rn_setN _ _ (hdebit.trans_lt (hbound.trans (by decide)))
  have hrecover : d1.rf (R.sch_RECOVER_CYC p) 0 24 = e.rf (R.sch_RECOVER_CYC p) 0 24 :=
    congrArg (fld · 0 24) ((Device.reg_setReg _ _ _ _).trans (if_neg (by unfold R.sch_RECOVER_CYC R.sch_WINDOW_DEBIT; omega)))
  have hquiet : h + 1 < d2.window ∧
      d2.rn (R.sch_WINDOW_DEBIT p) ≤ d2.rf (R.sch_RECOVER_CYC p) 0 24 ∧ x.lateWin ≠ some (d2.window - 1) :=
    ⟨hwin, (hwritten.trans_le hdebit).trans_eq hrecover.symm, hx ▸ hlate⟩
  rw [show x.holdWin = some h from hx ▸ hhold]
  exact ⟨d1, _, if_pos hquiet, rfl, hwritten⟩

/-- The counters that CLEAR_COUNTS clears: those of chapter 9 (log entry 42). -/
def schCounts (p : Nat) : List Nat :=
  [R.sch_ADMITTED_LO p, R.sch_ADMITTED_HI p, R.sch_RELEASED_LO p, R.sch_RELEASED_HI p, R.sch_TOO_FAST_COUNT p, R.sch_LATE_COUNT p,
    R.sch_DROPPED_COUNT p, R.sch_STALLED_REF_COUNT p, R.sch_NOPRED_COUNT p, R.sch_EVQ_RETRY_COUNT p, R.sch_LATE_TRIG_COUNT p,
    R.sch_WORST_MARGIN_CYC p] ++ ((List.range 8).map fun k => [R.sch_LEDGER_LO p k, R.sch_LEDGER_HI p k]).flatten

theorem Device.clearSchCounts_eq (d : Device) (p : Nat) : d.clearSchCounts p = d.zeroRegs (schCounts p) := rfl

/-- SCHED_STATE lies below every counter of its page. -/
theorem schedState_notMem_schCounts (p : Nat) : R.sch_SCHED_STATE p ∉ schCounts p := fun hm => by
  rcases List.mem_append.1 hm with h | h
  · simp only [List.mem_cons, List.not_mem_nil, or_false, R.sch_SCHED_STATE, R.sch_ADMITTED_LO, R.sch_ADMITTED_HI, R.sch_RELEASED_LO,
      R.sch_RELEASED_HI, R.sch_TOO_FAST_COUNT, R.sch_LATE_COUNT, R.sch_DROPPED_COUNT, R.sch_STALLED_REF_COUNT, R.sch_NOPRED_COUNT,
      R.sch_EVQ_RETRY_COUNT, R.sch_LATE_TRIG_COUNT, R.sch_WORST_MARGIN_CYC] at h
    omega
  · obtain ⟨l, hl, ho⟩ := List.mem_flatten.1 h
    obtain ⟨k, -, rfl⟩ := List.mem_map.1 hl
    simp only [List.mem_cons, List.not_mem_nil, or_false, R.sch_SCHED_STATE, R.sch_LEDGER_LO, R.sch_LEDGER_HI] at ho
    omega

theorem Device.zeroRegs_jobs (d : Device) (l : List Nat) : (d.zeroRegs l).jobs = d.jobs := (congrArg Device.jobs (d.zeroRegs_frame l) :)

/-- A write of SCHED_CMD that clears HOLD, and with CLEAR_COUNTS the counters. -/
theorem Device.schedCmd_clears {d : Device} {p : Nat} (hp : p < 64) {v : Word} (hv : fld v 0 1 = 1) :
    (d.schedCmd p v).rf (R.sch_SCHED_STATE p) 0 1 = 0 ∧ (d.schedCmd p v).jobs = d.jobs ∧ (fld v 1 1 = 1 →
      ∀ o ∈ [R.sch_ADMITTED_LO p, R.sch_RELEASED_LO p, R.sch_TOO_FAST_COUNT p, R.sch_LATE_COUNT p, R.sch_DROPPED_COUNT p,
        R.sch_WORST_MARGIN_CYC p], (d.schedCmd p v).reg o = resetOf o) := by
  obtain ⟨w, hw, h⟩ := d.clearHold_clears p
  have hhold : (d.clearHold p).rf (R.sch_SCHED_STATE p) 0 1 = 0 := by
    rw [Device.rf, h.reg _ (ofPipe_sch (n := 0x214) hp (by omega) (by omega)), Device.reg_setReg, if_pos rfl]
    exact hw
  unfold Device.schedCmd
  rw [if_pos hv]
  by_cases hclear : fld v 1 1 = 1
  · rw [if_pos hclear, Device.clearSchCounts_eq]
    refine ⟨?_, (Device.zeroRegs_jobs _ _).trans h.jobs, fun _ o ho => ?_⟩
    · rw [Device.rf, Device.zeroRegs_reg, if_neg (schedState_notMem_schCounts p)]
      exact hhold
    · simp only [List.mem_cons, List.not_mem_nil, or_false] at ho
      refine (Device.zeroRegs_reg _ _ _).trans (if_pos (List.mem_append_left _ ?_))
      rcases ho with rfl | rfl | rfl | rfl | rfl | rfl <;> simp only [List.mem_cons, true_or, or_true]
  · rw [if_neg hclear]
    exact ⟨hhold, h.jobs, fun h => absurd h hclear⟩

/-! ### O25 -/

/-- Settles O25: a RELEASE entry that is due releases its result or finds its job late (R251, R254), a release is done when its payload is
written, and a hold ends with a quiet window after the one in which it was set (log entry 25) or by SCHED_CMD, whose CLEAR_COUNTS clears the
counters of chapter 9 (log entry 42). -/
theorem resultsAreReleased : Obligations.ResultsAreReleased := by
  unfold Obligations.ResultsAreReleased
  refine ⟨fun s e k x u j hx hu hj => ⟨fun hdone => ⟨_, rfl, ?_⟩, fun td hdone hle => ⟨_, rfl, ?_⟩⟩,
    fun s g i k j hat hst hgone hpeer hfin => ⟨_, rfl, ?_⟩, fun s p k cyc h => ?_, fun s p q hw hv => ⟨_, rfl, ?_⟩⟩
  · have hj' : ((s.dev.at k).dropEntry x.num).job j.id = some j := by
      rw [Device.id_of_job hj]
      exact hj
    obtain ⟨hlate, hcount, hgone⟩ := Device.markLate_marks u.tick hj'
    dsimp only
    rw [resultRelease_late k hx hu hj hdone]
    exact ⟨hlate, hcount, fun y hy => Device.num_ne_of_mem_dropEntry (hgone y hy), rfl, rfl⟩
  · have hj' : s.dev.job j.id = some j := by
      rw [Device.id_of_job hj]
      exact hj
    have hjob : (((s.dev.at k).dropEntry x.num).modJob j.id (·.dueAt u)).job j.id = some (j.dueAt u) :=
      Device.job_modJob hj' fun _ => rfl
    obtain ⟨hbegun, hplb⟩ := Device.release_begins hjob rfl hdone
    dsimp only
    rw [resultRelease_inTime k hx hu hj hdone hle]
    exact ⟨hbegun, congrArg Plb.entries hplb, rfl, rfl⟩
  · obtain ⟨hj, hopen, horphan, hfence⟩ := hfin
    obtain ⟨plen, hrun⟩ := releaseWritesDone_finishes hat hst hgone hpeer hj
    obtain ⟨e, he, hfinish⟩ := Device.finish_unfenced (d := s.dev.at k) (status := j.releaseStatus) (plen := plen) (hdr := true)
      hj hopen horphan hfence
    rw [hrun, hfinish]
    exact ⟨⟨_, Device.job_modJob ((he.job_eq j.id).trans hj) fun _ => rfl, rfl, rfl⟩, rfl, rfl⟩
  · intro d hhold hwin hdebit hlate
    have hp : (p : Nat) < 64 := p.isLt
    obtain ⟨e, x, hrun, hx, hwritten⟩ := holdWindowEnd_clears (d0 := d) rfl hhold hwin hdebit hlate
    obtain ⟨v, hv, hclear⟩ := (e.setPipe p x).clearHold_clears p
    refine ⟨_, rfl, ?_⟩
    rw [hrun]
    refine ⟨?_, ?_, ?_, rfl, rfl⟩
    · rw [Device.rf, hclear.reg _ (ofPipe_sch (n := 0x214) hp (by omega) (by omega)), Device.reg_setReg, if_pos rfl]
      exact hv
    · rw [Device.rn, hclear.reg _ (ofPipe_sch (n := 0x24C) hp (by omega) (by omega)), Device.reg_setReg,
        if_neg (by unfold R.sch_SCHED_STATE; omega)]
      exact hwritten
    · rw [hclear.pipe_eq, Device.pipe_setReg, Device.pipe_setPipe_same]
      exact hx
  · have hrun : s.dev.writeAt q (R.sch_SCHED_CMD p) (fun d => d.schedCmd p q.data) = (s.dev.at q.t).schedCmd p q.data :=
      Device.writeAt_of_writes hw
    obtain ⟨hhold, hjobs, hcounts⟩ := (s.dev.at q.t).schedCmd_clears p.isLt hv
    dsimp only
    rw [hrun]
    exact ⟨hhold, hjobs, ⟨rfl, rfl⟩, hcounts⟩

end Sys2Proof.Machine
end

section
/-! PROOFS. GO, the copy of an image, loads that fail and loads refused (R275, R281). -/
namespace Sys2Proof.Machine

/-! ### What messages and errors leave of the loader -/

theorem Device.Speaks.golden_eq {d e : Device} (h : d.Speaks e) : e.golden = d.golden := (congrArg Device.golden h :)
theorem Device.Speaks.loader_eq {d e : Device} (h : d.Speaks e) : e.loader = d.loader := (congrArg Device.loader h :)
theorem Device.Speaks.lib_eq {d e : Device} (h : d.Speaks e) : e.lib = d.lib := (congrArg Device.lib h :)

/-- What no step of a fold changes, the fold does not change. -/
theorem foldl_keeps {α β : Type} (f : Device → β) {k : Device → α → Device} {l : List α} (h : ∀ d, ∀ a ∈ l, f (k d a) = f d)
    (d : Device) : f (l.foldl k d) = f d :=
  List.foldlRecOn _ _ (motive := fun e => f e = f d) rfl fun e he a ha => (h e a ha).trans he

/-- Steps that change registers alone, or speak up, fold to one. -/
theorem Device.speaks_foldl {α : Type} {k : Device → α → Device} {l : List α} (h : ∀ d : Device, ∀ a ∈ l, d.Speaks (k d a))
    (d : Device) : d.Speaks (l.foldl k d) :=
  List.foldlRecOn _ _ (motive := fun e => d.Speaks e) (.refl d) fun e he a ha => he.trans (h e a ha)

/-! ### The loader's state (R275) -/

/-- LOAD_STATUS holding a number below 8 shows it as STATE. -/
theorem Device.loadSt_of_reg {d : Device} {n : Nat} (h : d.reg R.skm_LOAD_STATUS = wd n) (hn : n < 8) : d.loadSt = n := by
  rw [Device.loadSt, Device.rf, h, fld, wd, BitVec.toNat_ofNat]
  omega

theorem Device.loadSt_setLoadSt (d : Device) {n : Nat} (hn : n < 8) : (d.setLoadSt n 0 0 0).loadSt = n :=
  Device.loadSt_of_reg ((d.reg_setReg _ _ _).trans (if_pos rfl)) hn

theorem Device.setLoadSt_reg (d : Device) (n refused reason check : Nat) {o : Nat} (ho : o ≠ R.skm_LOAD_STATUS) :
    (d.setLoadSt n refused reason check).reg o = d.reg o :=
  (d.reg_setReg _ _ _).trans (if_neg ho)

theorem Device.sklEnd_speaks (d : Device) (result reason check : Nat) : d.Speaks (d.sklEnd result reason check) := by
  unfold Device.sklEnd
  split
  · exact (d.speaks_setReg _ _).trans (Device.evtBit_speaks _ _ _)
  · exact .refl d

/-- A register past the header of a page below the tenants', which the fault log does not change. -/
def OfNoReport (o : Nat) : Prop := 0x100 ≤ o % 0x1000 ∧ o < 0x400000 ∧ o ∉ faultRegs

theorem OfNoReport.ne_msix {o : Nat} (h : OfNoReport o) : o ≠ R.hif_MSIX_DROPPED := by
  obtain ⟨-, -, hflt⟩ := h
  rintro rfl
  exact hflt (by decide)

theorem Device.sklEnd_reg (d : Device) (result reason check : Nat) {o : Nat} (ho : OfNoReport o) :
    (d.sklEnd result reason check).reg o = d.reg o := by
  have hmsix := ho.ne_msix
  obtain ⟨-, hlow, -⟩ := ho
  unfold Device.sklEnd
  split
  · rw [Device.evtBit_reg _ _ _ _ hmsix, if_neg (by omega), Device.setN_eq, Device.reg_setReg, if_neg (by unfold R.ten_SKL_STATUS; omega)]
  · rfl

/-- An error and an event of a page change none of these registers. -/
theorem Device.err_evtBit_reg (d : Device) {pg : Nat} (hpg : pg % 0x1000 = 0) (code bit : Nat) (lo hi : Word) {o : Nat}
    (ho : OfNoReport o) : ((d.err pg code lo hi).evtBit pg bit).reg o = d.reg o := by
  have hmsix := ho.ne_msix
  obtain ⟨hhdr, -, hflt⟩ := ho
  rw [Device.evtBit_reg _ _ _ _ hmsix, if_neg (by omega)]
  refine d.err_reg _ _ _ _ o hflt ?_
  simp only [List.mem_cons, List.not_mem_nil, or_false]
  omega

theorem Device.err_evtBit_speaks (d : Device) (pg code bit : Nat) (lo hi : Word) : d.Speaks ((d.err pg code lo hi).evtBit pg bit) :=
  (d.err_speaks _ _ _ _).trans (Device.evtBit_speaks _ _ _)

theorem ofNoReport_loadStatus : OfNoReport R.skm_LOAD_STATUS := by
  unfold OfNoReport
  decide

/-- A load that fails is FAILED. -/
theorem Device.loadFailed_st (d : Device) (tile sect : Nat) : (d.loadFailed tile sect).loadSt = 7 := by
  refine Device.loadSt_of_reg ?_ (by omega)
  rw [Device.loadFailed, Device.sklEnd_reg _ _ _ _ ofNoReport_loadStatus, Device.err_evtBit_reg _ rfl _ _ _ _ ofNoReport_loadStatus]
  exact ((Device.reg_setReg _ _ _ _).trans (if_neg (by decide))).trans ((d.reg_setReg _ _ _).trans (if_pos rfl))

theorem Device.loadFailed_reg (d : Device) (tile sect : Nat) {o : Nat} (ho : OfNoReport o) (h : o ∉ [R.skm_LOAD_STATUS, R.skm_LOAD_FAIL]) :
    (d.loadFailed tile sect).reg o = d.reg o := by
  simp only [List.mem_cons, List.not_mem_nil, or_false, not_or] at h
  obtain ⟨hstatus, hfail⟩ := h
  rw [Device.loadFailed, Device.sklEnd_reg _ _ _ _ ho, Device.err_evtBit_reg _ rfl _ _ _ _ ho, Device.setN_eq, Device.reg_setReg,
    if_neg hfail, Device.setLoadSt_reg _ _ _ _ _ hstatus]

theorem Device.loadFailed_speaks (d : Device) (tile sect : Nat) : d.Speaks (d.loadFailed tile sect) :=
  (((d.speaks_setReg _ _).trans (Device.speaks_setReg _ _ _)).trans (Device.err_evtBit_speaks _ _ _ _ _ _)).trans
    (Device.sklEnd_speaks _ _ _ _)

/-! ### GO (R275) -/

/-- LOAD_BUSY leaves the loader and the golden copy and is counted in the page's ERR_COUNT (R54). -/
theorem Device.loadBusy_counts (d : Device) :
    let e := d.err 0x60000 0x0103 0 0
    e.reg R.skm_LOAD_STATUS = d.reg R.skm_LOAD_STATUS ∧ e.loader = d.loader ∧ e.golden = d.golden ∧
      e.reg (0x60000 + 0x34) = satAdd (d.reg (0x60000 + 0x34)) 1 := by
  have hspeaks := d.err_speaks 0x60000 0x0103 0 0
  exact ⟨d.err_reg _ _ _ _ _ (by decide) (by decide), hspeaks.loader_eq, hspeaks.golden_eq, d.err_count _ _ _ _ (by decide)⟩

/-- A load that no tenant's SKL_CMD began is READING, and no register changes but LOAD_STATUS and LOAD_FAIL. -/
theorem Device.startLoad_reads (d : Device) {l : Loader} (h : l.skl = false) :
    (d.startLoad l).loadSt = 1 ∧ (d.startLoad l).loader = l ∧
      ∀ o, o ∉ [R.skm_LOAD_STATUS, R.skm_LOAD_FAIL] → (d.startLoad l).reg o = d.reg o := by
  have hrun : d.startLoad l = (({ d with loader := l } : Device).setLoadSt 1 0 0 0).setN R.skm_LOAD_FAIL 0 := by
    unfold Device.startLoad
    rw [h]
  rw [hrun]
  refine ⟨Device.loadSt_of_reg ?_ (by omega), rfl, fun o ho => ?_⟩
  · exact ((Device.reg_setReg _ _ _ _).trans (if_neg (by decide))).trans ((Device.reg_setReg _ _ _ _).trans (if_pos rfl))
  · simp only [List.mem_cons, List.not_mem_nil, or_false, not_or] at ho
    obtain ⟨hstatus, hfail⟩ := ho
    exact ((Device.reg_setReg _ _ _ _).trans (if_neg hfail)).trans (Device.setLoadSt_reg _ _ _ _ _ hstatus)

/-- The load that a GO of a kind starts from host memory. -/
def hostLoad (d : Device) (q : Req) (kind : Nat) : Loader :=
  { loader0 with
    kind := kind
    region := fld q.data 8 6
    skim := fld q.data 16 14
    fn := (portFn q.port).getD 0
    host := true
    src := d.rn64 R.skm_LOAD_SRC_LO }

section
variable {s : State} {q : Req} {kind : Nat} (hw : Writes s q R.skm_LOAD_CTRL = true) (hgo : fld q.data 31 1 = 1) (hkind : fld q.data 0 2 = kind)
include hw hgo hkind

/-- A GO while a load runs is LOAD_BUSY. -/
theorem loadGo_busy (hbusy : s.dev.loadFree = false) :
    loadGo q kind s.dev = ((s.dev.at q.t).setReg R.skm_LOAD_CTRL (q.data &&& 0x3FFF3F07#32)).err 0x60000 0x0103 0 0 := by
  have hstatus : ((s.dev.at q.t).setReg R.skm_LOAD_CTRL (q.data &&& 0x3FFF3F07#32)).loadSt = s.dev.loadSt :=
    congrArg (fld · 0 3) ((Device.reg_setReg _ _ _ _).trans (if_neg (by decide)))
  have hfree : ((s.dev.at q.t).setReg R.skm_LOAD_CTRL (q.data &&& 0x3FFF3F07#32)).loadFree = false := by
    rw [Device.loadFree, hstatus]
    exact hbusy
  unfold loadGo
  rw [if_neg (by omega), Device.writeAt_of_writes hw]
  dsimp only
  rw [hfree]
  rfl

/-- A GO from host memory with the loader free starts a load. -/
theorem loadGo_starts (hfree : s.dev.loadFree = true) (hhost : fld q.data 2 1 = 0) :
    loadGo q kind s.dev = ((s.dev.at q.t).setReg R.skm_LOAD_CTRL (q.data &&& 0x3FFF3F07#32)).startLoad (hostLoad s.dev q kind) := by
  have hother : ∀ o, o ≠ R.skm_LOAD_CTRL → ((s.dev.at q.t).setReg R.skm_LOAD_CTRL (q.data &&& 0x3FFF3F07#32)).reg o = s.dev.reg o :=
    fun o ho => (Device.reg_setReg _ _ _ _).trans (if_neg ho)
  have hfree0 : ((s.dev.at q.t).setReg R.skm_LOAD_CTRL (q.data &&& 0x3FFF3F07#32)).loadFree = true := by
    rw [Device.loadFree, Device.loadSt, Device.rf, hother _ (by decide)]
    exact hfree
  have hsrc : ((s.dev.at q.t).setReg R.skm_LOAD_CTRL (q.data &&& 0x3FFF3F07#32)).rn64 R.skm_LOAD_SRC_LO = s.dev.rn64 R.skm_LOAD_SRC_LO := by
    rw [Device.rn64, Device.rn, Device.rn, hother _ (by decide), hother _ (by decide)]
    rfl
  unfold loadGo
  rw [if_neg (by omega), Device.writeAt_of_writes hw]
  dsimp only
  rw [hfree0, hsrc, hhost]
  rfl

end

/-- The commands of a GO, by KIND. -/
theorem exec_loadGo (s : State) (q : Req) : ∀ c ∈ [(0, Instr.loadFull q), (1, .loadRegion q), (2, .loadLibrary q)],
    exec c.2 s = .next { s with dev := loadGo q c.1 s.dev } := by
  intro c hc
  simp only [List.mem_cons, List.not_mem_nil, or_false] at hc
  rcases hc with rfl | rfl | rfl <;> rfl

/-! ### The end of the copy (R275) -/

theorem loadReadDone_image {d : Device} (l : List Byte) (k : Nat) (hst : d.loadSt = 1) (hhost : d.loader.host = true)
    (hreq : d.mayRequest d.loader.fn = true) :
    loadReadDone (.data l) k d = (d.at k).imageRead (match d.loader.len with | some n => l.take n | none => l) := by
  have hst0 : (d.at k).loadSt = 1 := hst
  have hhost0 : (d.at k).loader.host = true := hhost
  have hreq0 : (d.at k).mayRequest (d.at k).loader.fn = true := hreq
  unfold loadReadDone
  dsimp only
  rw [if_neg (not_not.2 hst0), if_pos hhost0, if_pos hreq0]
  rfl

theorem loadReadDone_fails {d : Device} (c : Fin 4) (k : Nat) (hst : d.loadSt = 1) (hhost : d.loader.host = true) :
    loadReadDone (.fail c) k d = ((d.at k).cplFail d.loader.fn c d.loader.src).loadReadFailed := by
  have hst0 : (d.at k).loadSt = 1 := hst
  have hhost0 : (d.at k).loader.host = true := hhost
  unfold loadReadDone
  dsimp only
  rw [if_neg (not_not.2 hst0), if_pos hhost0]
  rfl

/-- A failed read ends the load FAILED and is counted; the loader holds what it held. -/
theorem Device.cplFail_loadReadFailed (d : Device) (f cause a : Nat) :
    let e := (d.cplFail f cause a).loadReadFailed
    e.loadSt = 7 ∧ e.loader = d.loader ∧ e.reg R.hif_CPL_FAIL_COUNT = satAdd (d.reg R.hif_CPL_FAIL_COUNT) 1 := by
  have hspeaks : d.Speaks (d.cplFail f cause a) := (d.speaks_setReg _ _).trans (Device.err_speaks _ _ _ _ _)
  refine ⟨Device.loadFailed_st _ _ _, (Device.loadFailed_speaks _ _ _).loader_eq.trans hspeaks.loader_eq, ?_⟩
  refine (Device.loadFailed_reg _ _ _ (by unfold OfNoReport; decide) (by decide)).trans ?_
  refine (Device.err_reg _ _ _ _ _ _ (by decide) (by decide)).trans ?_
  exact (d.reg_setReg _ _ _).trans (if_pos rfl)

/-! ### The checks (R281) -/

/-- A load refused is IDLE with REFUSED, the check and its reason; library and golden copy stay. -/
theorem Device.loadRefused_spec (d : Device) (check reason : Nat) (sec : Option Nat) :
    let e := d.loadRefused check reason sec
    e.reg R.skm_LOAD_STATUS = wd (256 + 4096 * reason + 65536 * check) ∧ e.lib = d.lib ∧ e.golden = d.golden := by
  have key : ∀ (d0 : Device) (n : Nat),
      let e := ((((d0.setLoadSt 0 1 reason check).setN R.skm_LOAD_FAIL n).err 0x60000 0x0100 (wd (check + 256 * reason)) (wd n)).evtBit
        0x60000 18).sklEnd 3 reason check
      e.reg R.skm_LOAD_STATUS = wd (256 + 4096 * reason + 65536 * check) ∧ e.lib = d0.lib ∧ e.golden = d0.golden := by
    intro d0 n
    have hspeaks := ((Device.speaks_setReg _ R.skm_LOAD_FAIL (wd n)).trans (Device.err_evtBit_speaks _ 0x60000 0x0100 18
      (wd (check + 256 * reason)) (wd n))).trans (Device.sklEnd_speaks _ 3 reason check) (d := d0.setLoadSt 0 1 reason check)
    refine ⟨?_, hspeaks.lib_eq, hspeaks.golden_eq⟩
    rw [Device.sklEnd_reg _ _ _ _ ofNoReport_loadStatus, Device.err_evtBit_reg _ rfl _ _ _ _ ofNoReport_loadStatus, Device.setN_eq,
      Device.reg_setReg, if_neg (by decide), Device.setLoadSt, Device.setN_eq, Device.reg_setReg, if_pos rfl, Nat.zero_add, Nat.mul_one]
  unfold Device.loadRefused
  cases sec with
  | some i => exact key d i
  | none => exact key _ _

end Sys2Proof.Machine
end

section
/-! PROOFS. The checks that pass, and the present Render withdrawn; O26 (R277, R279, R281, R455). -/
namespace Sys2Proof.Machine

/-! ### What leaves the golden copy -/

/-- The golden copy is as it was. -/
structure Device.KeepsGolden (d e : Device) : Prop where
  golden : e.golden = d.golden

namespace Device.KeepsGolden
variable {d e f : Device}

theorem refl (d : Device) : d.KeepsGolden d := ⟨rfl⟩

theorem trans (h : d.KeepsGolden e) (g : e.KeepsGolden f) : d.KeepsGolden f := ⟨g.golden.trans h.golden⟩

theorem ite {b : Prop} [Decidable b] (h : d.KeepsGolden e) (g : d.KeepsGolden f) : d.KeepsGolden (if b then e else f) := by
  split
  · exact h
  · exact g

theorem foldl {α : Type} {k : Device → α → Device} (l : List α) (h : ∀ (d : Device) (a : α), d.KeepsGolden (k d a)) (d : Device) :
    d.KeepsGolden (l.foldl k d) :=
  List.foldlRecOn _ _ (motive := fun e => d.KeepsGolden e) (refl d) fun e he a _ => he.trans (h e a)

end Device.KeepsGolden

theorem Device.Speaks.keepsGolden {d e : Device} (h : d.Speaks e) : d.KeepsGolden e := ⟨h.golden_eq⟩

theorem Device.setBlocks_speaks (d : Device) (bs : List Nat) (v : Nat) : d.Speaks (d.setBlocks bs v) :=
  Device.speaks_foldl (fun e _ _ => e.speaks_setReg _ _) d

theorem Device.devSync_keepsGolden (d : Device) : d.KeepsGolden d.devSync := by
  unfold Device.devSync
  exact .ite (.refl d) ((d.speaks_setReg _ _).trans (Device.evtBit_speaks _ _ _)).keepsGolden

theorem Device.wipeDomain_keepsGolden (d : Device) (k : Nat) : d.KeepsGolden (d.wipeDomain k) := by
  unfold Device.wipeDomain
  exact .ite ⟨rfl⟩ ⟨rfl⟩

theorem Device.gateDomain_keepsGolden (d : Device) (k : Nat) : d.KeepsGolden (d.gateDomain k) := by
  have hset : d.KeepsGolden (d.setDomain R.pow_BAY_ON_LO R.pow_SLICE_ON_LO k 0) := by
    unfold Device.setDomain
    exact .ite ⟨rfl⟩ ⟨rfl⟩
  exact (hset.trans (Device.wipeDomain_keepsGolden _ k)).trans ⟨rfl⟩

theorem Device.domainsChanged_keepsGolden (d : Device) : d.KeepsGolden d.domainsChanged :=
  .trans (.foldl _ (fun e k => .ite (e.gateDomain_keepsGolden k) (.refl e)) d) ⟨rfl⟩

theorem Device.powerBoth_keepsGolden (d : Device) (k : Nat) : d.KeepsGolden (d.powerBoth k) := ⟨rfl⟩

/-- The present Render withdrawn takes its golden copy with it. -/
theorem Device.withdraw_golden (d : Device) (ss : List Sect) : (d.withdraw ss).golden = [] := by
  unfold Device.withdraw
  extract_lets d1 x d2 d3 d4
  have h3 : d2.KeepsGolden d3 := ⟨rfl⟩
  have h4 : d2.KeepsGolden d4 := h3.trans ((Device.setBlocks_speaks _ _ _).trans (Device.setBlocks_speaks _ _ _)).keepsGolden
  have hpower : d4.KeepsGolden ((needDomains ss).foldl Device.powerBoth d4) := .foldl _ Device.powerBoth_keepsGolden d4
  exact (((h4.trans hpower).trans (Device.domainsChanged_keepsGolden _)).trans (Device.devSync_keepsGolden _)).golden

/-! ### The end of CHECKING (R277, R279, R281) -/

/-- The device with the sections and the BUILD_ID of the image read, as all three ends of CHECKING that pass leave it. -/
def Device.opened (d : Device) : Device :=
  { d with loader := { d.loader with sects := openSects d.loader.image, build := at_ d.loader.image 0x28 8 } }

/-- The library entry that the image read makes (R279). -/
def Loader.entry (x : Loader) : LibEntry :=
  ⟨2, at_ (sectD (openSects x.image) 0x20 0) 0 8, units (sectD (openSects x.image) 0x21 0).length, x.owner, sectD (openSects x.image) 0x21 0⟩

/-- The device with the skim read in its library. -/
def Device.skimAdded (d : Device) : Device := { d.opened with lib := Store.set lib0 d.lib d.loader.skim d.loader.entry }

theorem Device.skimAdded_libAt (d : Device) (x : Nat) :
    d.skimAdded.libAt x = if x = d.loader.skim then d.loader.entry else d.libAt x := by
  unfold Device.libAt Device.skimAdded
  exact Store.get_set (dflt := lib0) d.lib d.loader.skim x d.loader.entry

/-- The load of a skim ends DONE, with the skim in the library and the others as they were. -/
theorem Device.skimAdded_done (d : Device) :
    let e := ((d.skimAdded.setLoadSt 6 0 0 0).evtBit 0x60000 17).sklEnd 2 0 0
    e.loadSt = 6 ∧ ∀ x, e.libAt x = if x = d.loader.skim then d.loader.entry else d.libAt x := by
  have hspeaks := ((d.skimAdded.setLoadSt 6 0 0 0).evtBit_speaks 0x60000 17).trans (Device.sklEnd_speaks _ 2 0 0)
  refine ⟨Device.loadSt_of_reg ?_ (by omega), fun x => (congrArg (Store.get lib0 · x) hspeaks.lib_eq).trans (d.skimAdded_libAt x)⟩
  rw [Device.sklEnd_reg _ _ _ _ ofNoReport_loadStatus, Device.evtBit_reg _ _ _ _ (by decide), if_neg (by decide), Device.setLoadSt,
    Device.setN_eq, Device.reg_setReg, if_pos rfl]

section
variable {d : Device} (k : Nat) (hst : d.loadSt = 2)
include hst

theorem loadCheckDone_refuses {n r : Nat} {sec : Option Nat} (h : (d.at k).checkImage = some (n, r, sec)) :
    loadCheckDone k d = (d.at k).loadRefused n r sec := by
  have hst0 : (d.at k).loadSt = 2 := hst
  unfold loadCheckDone
  dsimp only
  rw [if_neg (not_not.2 hst0), h]

variable (hpass : (d.at k).checkImage = none)
include hpass

theorem loadCheckDone_skim (hkind : d.loader.kind = 2) :
    loadCheckDone k d = (((d.at k).skimAdded.setLoadSt 6 0 0 0).evtBit 0x60000 17).sklEnd 2 0 0 := by
  have hst0 : (d.at k).loadSt = 2 := hst
  unfold loadCheckDone
  dsimp only
  rw [if_neg (not_not.2 hst0), hpass]
  exact if_pos hkind

theorem loadCheckDone_region (hkind : d.loader.kind = 1) : loadCheckDone k d =
    ((d.at k).opened.setBlocks (lathBlocks (openSects d.loader.image) fun s => s.type == 0x14 && s.index == d.loader.region) 1).setLoadSt
      3 0 0 0 := by
  have hst0 : (d.at k).loadSt = 2 := hst
  have hskim : (d.at k).loader.kind ≠ 2 := by
    rw [Device.at_loader, hkind]
    decide
  unfold loadCheckDone
  dsimp only
  rw [if_neg (not_not.2 hst0), hpass]
  exact (if_neg hskim).trans (if_pos hkind)

theorem loadCheckDone_full (hkind : d.loader.kind = 0) (hpend : ∀ c ∈ d.pend, c.page ≠ 0xC000) :
    loadCheckDone k d = ((d.at k).opened.withdraw (openSects d.loader.image)).setLoadSt 3 0 0 0 := by
  have hst0 : (d.at k).loadSt = 2 := hst
  have hskim : (d.at k).loader.kind ≠ 2 := by
    rw [Device.at_loader, hkind]
    decide
  have hregion : (d.at k).loader.kind ≠ 1 := by
    rw [Device.at_loader, hkind]
    decide
  have hnone : ¬(d.at k).pend.any (fun c => c.page == 0xC000) = true := by simpa using hpend
  unfold loadCheckDone
  dsimp only
  rw [if_neg (not_not.2 hst0), hpass]
  exact (if_neg hskim).trans ((if_neg hregion).trans (if_neg hnone))

end

/-- Settles O26. A FULL load whose POW commit is pending waits in CHECKING (log entry 136); where none is, it begins WRITING. -/
theorem loadsStartReadAndAreChecked : Obligations.LoadsStartReadAndAreChecked := by
  unfold Obligations.LoadsStartReadAndAreChecked
  refine ⟨fun s q hw hgo c hc hkind => ?_, fun s l k hst hhost => ⟨fun hreq => ⟨_, rfl, ?_⟩, fun c => ⟨_, rfl, ?_⟩⟩,
    fun s k hst => ⟨fun n r sec h => ⟨_, rfl, ?_⟩, fun hpass hkind => ⟨_, rfl, ?_⟩, fun hpass hkind => ⟨_, rfl, ?_⟩,
      fun hpass hkind hpend => ⟨_, rfl, ?_⟩⟩⟩
  · refine ⟨fun hfree hhost => ⟨_, exec_loadGo s q c hc, ?_⟩, fun hbusy => ⟨_, exec_loadGo s q c hc, ?_⟩⟩
    · dsimp only
      rw [loadGo_starts hw hgo hkind hfree hhost]
      obtain ⟨hst, hloader, hregs⟩ := ((s.dev.at q.t).setReg R.skm_LOAD_CTRL (q.data &&& 0x3FFF3F07#32)).startLoad_reads
        (l := hostLoad s.dev q c.1) rfl
      refine ⟨hst, hloader, fun o ho => ?_, rfl, rfl⟩
      rw [List.mem_cons, not_or] at ho
      exact (hregs o ho.2).trans ((Device.reg_setReg _ _ _ _).trans (if_neg ho.1))
    · dsimp only
      rw [loadGo_busy hw hgo hkind hbusy]
      obtain ⟨hstatus, hloader, -, hcount⟩ := ((s.dev.at q.t).setReg R.skm_LOAD_CTRL (q.data &&& 0x3FFF3F07#32)).loadBusy_counts
      rw [hstatus, hloader, hcount, Device.reg_setReg, if_neg (by decide), Device.reg_setReg, if_neg (by decide)]
      exact ⟨rfl, rfl, rfl, rfl, rfl⟩
  · dsimp only
    rw [loadReadDone_image l k hst hhost hreq]
    refine ⟨Device.loadSt_setLoadSt _ (by omega), rfl, fun o ho => ?_, rfl, rfl⟩
    exact Device.setLoadSt_reg _ _ _ _ _ (by simpa using ho)
  · dsimp only
    rw [loadReadDone_fails c k hst hhost]
    obtain ⟨hend, hloader, hcount⟩ := (s.dev.at k).cplFail_loadReadFailed s.dev.loader.fn c s.dev.loader.src
    exact ⟨hend, hloader, hcount, rfl, rfl⟩
  · dsimp only
    rw [loadCheckDone_refuses k hst h]
    obtain ⟨hstatus, hlib, hgolden⟩ := (s.dev.at k).loadRefused_spec n r sec
    exact ⟨hstatus, hlib, hgolden, rfl, rfl⟩
  · dsimp only
    rw [loadCheckDone_skim k hst hpass hkind]
    obtain ⟨hdone, hlib⟩ := (s.dev.at k).skimAdded_done
    rw [hlib, if_pos (show s.dev.loader.skim = (s.dev.at k).loader.skim from rfl)]
    exact ⟨hdone, rfl, rfl, rfl, fun x hx => (hlib x).trans (if_neg hx), rfl, rfl⟩
  · dsimp only
    rw [loadCheckDone_region k hst hpass hkind]
    have hspeaks := (s.dev.at k).opened.setBlocks_speaks
      (lathBlocks (openSects s.dev.loader.image) fun x => x.type == 0x14 && x.index == s.dev.loader.region) 1
    exact ⟨Device.loadSt_setLoadSt _ (by omega), congrArg Loader.sects hspeaks.loader_eq, hspeaks.golden_eq, rfl, rfl⟩
  · dsimp only
    rw [loadCheckDone_full k hst hpass hkind hpend]
    exact ⟨Device.loadSt_setLoadSt _ (by omega), Device.withdraw_golden _ _, rfl, rfl⟩

end Sys2Proof.Machine
end

section
/-! PROOFS. What slots, transitions and a region that goes live change; O27 (R230, R277, R278, R284, R306). -/
namespace Sys2Proof.Machine

theorem Device.Speaks.setReg {d e : Device} (h : d.Speaks e) (o : Nat) (v : Word) : d.Speaks (e.setReg o v) := h.trans (e.speaks_setReg o v)

/-! ### Slots and blocks (R284, R473) -/

/-- A slot set changes its word in the slot table and its copies in the tiles. -/
theorem Device.setSlot_reg (d : Device) (p s skim st : Nat) {o : Nat} (ho : ∀ k, o ≠ R.trw_SLOT_SKIM k s) :
    (d.setSlot p s skim st).reg o = if o = slotReg p s then setFld (setFld (d.reg o) 0 14 skim) 16 2 st else d.reg o := by
  unfold Device.setSlot
  refine (foldl_keeps (Device.reg · o) (fun e k _ => (e.reg_setReg _ _ _).trans (if_neg (ho k))) _).trans ?_
  by_cases h : o = slotReg p s
  · simp [h]
  · simp [h]

theorem Device.setSlot_speaks (d : Device) (p s skim st : Nat) : d.Speaks (d.setSlot p s skim st) :=
  ((d.speaks_setReg _ _).trans (Device.speaks_setReg _ _ _)).trans (Device.speaks_foldl (fun e _ _ => e.speaks_setReg _ _) _)

theorem Device.setBlocks_reg (d : Device) (bs : List Nat) (v : Nat) {o : Nat} (ho : o < 0xF9100) : (d.setBlocks bs v).reg o = d.reg o := by
  unfold Device.setBlocks
  refine foldl_keeps (Device.reg · o) (fun e b _ => (e.reg_setReg _ _ _).trans (if_neg ?_)) d
  unfold R.lth_BLOCK_STATE
  omega

/-! ### Transitions leave the golden copy (R230) -/

theorem Device.traceRecord_keepsGolden (d : Device) (mk : Nat → List Byte) : d.KeepsGolden (d.traceRecord mk) := by
  unfold Device.traceRecord
  extract_lets s d1
  have h1 : d.Speaks d1 := d.speaks_setReg _ _
  clear_value d1
  exact .ite (((h1.setReg _ _).trans (Device.evtBit_speaks _ _ _)).trans (Device.err_speaks _ _ _ _ _)).keepsGolden
    (h1.keepsGolden.trans ⟨rfl⟩)

theorem Device.closeInterval_keepsGolden (d : Device) (p : Nat) (partl : Bool) : d.KeepsGolden (d.closeInterval p partl) := by
  unfold Device.closeInterval
  exact .ite (.refl d) (.trans (.foldl _ (fun e _ => e.traceRecord_keepsGolden _) d) ⟨rfl⟩)

theorem Device.setSource_keepsGolden (d : Device) (p : Nat) (l : List Flit) : d.KeepsGolden (d.setSource p l) := by
  unfold Device.setSource
  exact .ite ⟨rfl⟩ ⟨rfl⟩

theorem Device.lwTouch_keepsGolden (d : Device) (k : Nat) : d.KeepsGolden (d.lwTouch k) := by
  unfold Device.lwTouch
  exact .ite ⟨rfl⟩ (.refl d)

theorem Device.modLw_keepsGolden (d : Device) (k : Nat) (f : LwPort → LwPort) : d.KeepsGolden (d.modLw k f) := ⟨rfl⟩

theorem Device.rxFlush_keepsGolden (d : Device) (p : Nat) : d.KeepsGolden (d.rxFlush p) := by
  unfold Device.rxFlush
  extract_lets k l keep gone d1 edge d2
  have h2 : d.KeepsGolden d2 := (d.setSource_keepsGolden p _).trans ⟨rfl⟩
  exact .ite (.refl d) (.ite h2 ((h2.trans (d2.modLw_keepsGolden _ _)).trans (Device.lwTouch_keepsGolden _ _)))

theorem Device.setPipeStateEv_keepsGolden (d : Device) (p s bits : Nat) : d.KeepsGolden (d.setPipeStateEv p s bits) := by
  unfold Device.setPipeStateEv
  extract_lets cur d0 d1a d1 trace d2
  have h0 : d.KeepsGolden d0 := .ite (d.closeInterval_keepsGolden p true) (.refl d)
  have h1a : d.KeepsGolden d1a :=
    (h0.trans ((d0.speaks_setReg _ _).trans (Device.evt_speaks _ _ _)).keepsGolden).trans (Device.devSync_keepsGolden _)
  have h1 : d.KeepsGolden d1 := .ite h1a (h1a.trans (d1a.rxFlush_keepsGolden p))
  have h2 : d.KeepsGolden d2 := .ite (h1.trans ⟨rfl⟩) h1
  exact .ite (h2.trans ⟨rfl⟩) h2

/-! ### A region goes live (R284, R306) -/

theorem Device.setIntrusion_speaks (d : Device) (p : Nat) : d.Speaks (d.setIntrusion p) := by
  unfold Device.setIntrusion
  split
  · exact .refl d
  · exact d.speaks_setReg _ _

theorem Device.setIntrusion_reg (d : Device) (p : Nat) {o : Nat} (ho : o ≠ R.skm_INTRUSION_SUM p) : (d.setIntrusion p).reg o = d.reg o := by
  unfold Device.setIntrusion
  split
  · rfl
  · exact (d.reg_setReg _ _ _).trans (if_neg ho)

/-- The registers of pipeline r that its section's header gives (R284). -/
def Device.setHeader (d : Device) (r : Nat) (h : Hdr) : Device :=
  ((((d.setN (R.sch_LATENCY r) h.latency).setN (R.sch_MIN_INTERVAL r) h.interval).setN (R.skm_HASH_LO r) (h.hash % 2 ^ 32)).setN
    (R.skm_HASH_HI r) (h.hash / 2 ^ 32)).setN (R.skm_FILL_RATE r) h.rate

theorem Device.setHeader_speaks (d : Device) (r : Nat) (h : Hdr) : d.Speaks (d.setHeader r h) :=
  .setReg (.setReg (.setReg (.setReg (.setReg (.refl d) _ _) _ _) _ _) _ _) _ _

theorem Device.setHeader_regs (d : Device) {r : Nat} (hr : r < 64) (h : Hdr) :
    (d.setHeader r h).reg (R.sch_LATENCY r) = wd h.latency ∧ (d.setHeader r h).reg (R.sch_MIN_INTERVAL r) = wd h.interval := by
  simp only [Device.setHeader, Device.setN_eq, Device.reg_setReg, R.sch_LATENCY, R.sch_MIN_INTERVAL, R.skm_HASH_LO, R.skm_HASH_HI,
    R.skm_FILL_RATE]
  constructor
  · rw [if_neg (by omega), if_neg (by omega), if_neg (by omega), if_neg (by omega), if_true]
  · rw [if_neg (by omega), if_neg (by omega), if_neg (by omega), if_true]

/-- Every slot of pipeline r that holds anything becomes INVALID, with no skim (R284). -/
def Device.clearSlots (d : Device) (r : Nat) : Device :=
  (List.range 16).foldl (fun d s => if d.rn (slotReg r s) = 0 then d else d.setSlot r s 0 0) d

theorem Device.clearSlots_speaks (d : Device) (r : Nat) : d.Speaks (d.clearSlots r) := by
  unfold Device.clearSlots
  refine Device.speaks_foldl (fun e s _ => ?_) d
  split
  · exact .refl e
  · exact e.setSlot_speaks _ _ _ _

theorem Device.setSlot_reg_below (d : Device) (p s skim st : Nat) {o : Nat} (ho : o < 0x60000) : (d.setSlot p s skim st).reg o = d.reg o := by
  rw [d.setSlot_reg _ _ _ _ fun k => by unfold R.trw_SLOT_SKIM; omega, if_neg (by unfold slotReg R.skm_SLOT; omega)]

theorem Device.clearSlots_reg_below (d : Device) (r : Nat) {o : Nat} (ho : o < 0x60000) : (d.clearSlots r).reg o = d.reg o := by
  unfold Device.clearSlots
  refine foldl_keeps (Device.reg · o) (fun e s _ => ?_) d
  split
  · rfl
  · exact e.setSlot_reg_below _ _ _ _ ho

/-- A region that goes live takes LATENCY and MIN_INTERVAL from its header and sets other registers of the device; then its adapters are
emptied, and its pipeline becomes LOADED. -/
theorem Device.regionLive_eq (d : Device) (r : Nat) : ∃ (e : Device) (x : Pipe) (bs : List Nat), d.Speaks e ∧
    (r < 64 → e.reg (R.sch_LATENCY r) = wd (hdrOf (sectD d.golden 0x10 r)).latency ∧
      e.reg (R.sch_MIN_INTERVAL r) = wd (hdrOf (sectD d.golden 0x10 r)).interval) ∧
    d.regionLive r = ((((e.setPipe r x).clearFault r).noRecord r).setPipeState r 1).setBlocks bs 2 := by
  unfold Device.regionLive
  extract_lets h d1 bearing d2 d3 d4 d5
  have hheader : d1 = d.setHeader r h := rfl
  have hslots : d3 = d2.clearSlots r := rfl
  clear_value d3 d1
  have h2 : d.Speaks d2 := by
    have h1 : d.Speaks d1 := hheader ▸ d.setHeader_speaks r h
    exact ((h1.setReg _ _).setReg _ _).trans (Device.setIntrusion_speaks _ _)
  have h4 : d.Speaks d4 := by
    have h3 : d.Speaks d3 := h2.trans (hslots ▸ d2.clearSlots_speaks r)
    dsimp only [d4]
    split
    · exact h3.trans (d3.setSlot_speaks _ _ _ _)
    · exact h3
  refine ⟨d4, _, _, h4, fun hr => ?_, rfl⟩
  have hlow : ∀ o < 0x60000, d4.reg o = (d.setHeader r h).reg o := fun o ho => by
    have h2 : d2.reg o = d1.reg o := by
      dsimp only [d2]
      rw [Device.setIntrusion_reg _ _ (by unfold R.skm_INTRUSION_SUM; omega), Device.setN_eq, Device.reg_setReg,
        if_neg (by unfold R.obs_STAGES; omega), Device.setN_eq, Device.reg_setReg, if_neg (by unfold R.skm_MIN_SLOTS; omega)]
    rw [← hheader, ← h2, ← d2.clearSlots_reg_below r ho, ← hslots]
    dsimp only [d4]
    split
    · exact d3.setSlot_reg_below _ _ _ _ ho
    · rfl
  rw [hlow _ (by unfold R.sch_LATENCY; omega), hlow _ (by unfold R.sch_MIN_INTERVAL; omega)]
  exact d.setHeader_regs hr h

theorem Device.regionLive_golden (d : Device) (r : Nat) : (d.regionLive r).golden = d.golden := by
  obtain ⟨e, x, bs, hspeaks, -, hrun⟩ := d.regionLive_eq r
  rw [hrun, (Device.setBlocks_speaks _ _ _).golden_eq]
  exact (Device.setPipeStateEv_keepsGolden _ _ _ _).golden.trans hspeaks.golden_eq

/-- The pipeline of a region that goes live is LOADED, with its header's LATENCY and MIN_INTERVAL. -/
theorem Device.regionLive_loaded (d : Device) {r : Nat} (hr : r < 64) :
    (d.regionLive r).pipeState r = 1 ∧
      (d.regionLive r).rn (R.sch_LATENCY r) = (hdrOf (sectD d.golden 0x10 r)).latency % 2 ^ 32 ∧
      (d.regionLive r).rn (R.sch_MIN_INTERVAL r) = (hdrOf (sectD d.golden 0x10 r)).interval % 2 ^ 32 := by
  obtain ⟨e, x, bs, -, hheader, hrun⟩ := d.regionLive_eq r
  obtain ⟨hlat, hint⟩ := hheader hr
  have hkeep : ∀ n, 0x110 < n → n < 0x120 → (d.regionLive r).reg (0x20000 + n + 0x1000 * r) = e.reg (0x20000 + n + 0x1000 * r) :=
    fun n h1 h2 => by
      rw [hrun, Device.setBlocks_reg _ _ _ (by omega), Device.setPipeState,
        Device.setPipeStateEv_reg _ hr _ _ (ofPipe_sch hr (by omega) (by omega)) (by unfold R.sch_PIPE_STATE; omega),
        Device.noRecord, Device.setN_eq, Device.reg_setReg, if_neg (skimRecord_ne hr (by omega)).symm, Device.clearFault, Device.setN_eq,
        Device.reg_setReg, if_neg (by unfold R.sch_FAULT_INFO; omega), Device.setF_eq, Device.reg_setReg,
        if_neg (by unfold R.sch_PIPE_STATE; omega)]
      rfl
  refine ⟨?_, ?_, ?_⟩
  · rw [hrun, Device.pipeState, Device.rf, Device.setBlocks_reg _ _ _ (by unfold R.sch_PIPE_STATE; omega)]
    exact Device.setPipeStateEv_state _ hr 1 0
  · exact (congrArg BitVec.toNat ((hkeep 0x114 (by omega) (by omega)).trans hlat)).trans (BitVec.toNat_ofNat _ _)
  · exact (congrArg BitVec.toNat ((hkeep 0x118 (by omega) (by omega)).trans hint)).trans (BitVec.toNat_ofNat _ _)

end Sys2Proof.Machine
end

section
/-! PROOFS. WRITING, VERIFYING, ACTIVATE and DISCARD; O27 (R275 to R278). -/
namespace Sys2Proof.Machine

/-! ### WRITING and VERIFYING (R275, R276) -/

section
variable {d : Device} (k : Nat)

theorem loadWriteDone_fails (hst : d.loadSt = 3) (f : Option (Fin 4096) × Fin 512) :
    (loadWriteDone (some f) k d).loadSt = 7 := by
  have hst0 : (d.at k).loadSt = 3 := hst
  unfold loadWriteDone
  dsimp only
  rw [if_neg (not_not.2 hst0)]
  exact Device.loadFailed_st _ _ _

theorem loadWriteDone_region (hst : d.loadSt = 3) (hkind : d.loader.kind = 1) :
    loadWriteDone none k d = ((d.at k).writeRegion d.loader.sects d.loader.region).setLoadSt 4 0 0 0 := by
  have hst0 : (d.at k).loadSt = 3 := hst
  unfold loadWriteDone
  dsimp only
  rw [if_neg (not_not.2 hst0)]
  exact if_pos hkind

theorem loadWriteDone_full (hst : d.loadSt = 3) (hkind : d.loader.kind ≠ 1)
    (hon : ∀ x ∈ needDomains d.loader.sects, d.domainOn x = true) :
    loadWriteDone none k d = ((d.at k).writeRender d.loader.sects).setLoadSt 4 0 0 0 := by
  have hst0 : (d.at k).loadSt = 3 := hst
  have hall : ((needDomains (d.at k).loader.sects).all fun x => (d.at k).domainOn x) = true := List.all_eq_true.2 hon
  unfold loadWriteDone
  dsimp only
  rw [if_neg (not_not.2 hst0)]
  exact (if_neg hkind).trans (if_pos hall)

theorem loadVerifyDone_fails (hst : d.loadSt = 4) (f : Option (Fin 4096) × Fin 512) :
    (loadVerifyDone (some f) k d).loadSt = 7 := by
  have hst0 : (d.at k).loadSt = 4 := hst
  unfold loadVerifyDone
  dsimp only
  rw [if_neg (not_not.2 hst0)]
  exact Device.loadFailed_st _ _ _

theorem loadVerifyDone_stages (hst : d.loadSt = 4) :
    loadVerifyDone none k d = ((d.at k).setLoadSt 5 0 0 0).evtBit 0x60000 16 := by
  have hst0 : (d.at k).loadSt = 4 := hst
  unfold loadVerifyDone
  dsimp only
  exact if_neg (not_not.2 hst0)

end

/-- STAGED with LOAD_STAGED raised: no other register changes but MSIX_DROPPED. -/
theorem Device.staged_spec (d : Device) :
    let e := (d.setLoadSt 5 0 0 0).evtBit 0x60000 16
    e.loadSt = 5 ∧ e.rf (0x60000 + 0x20) 16 1 = 1 ∧ e.golden = d.golden ∧
      ∀ o, o ∉ [R.skm_LOAD_STATUS, 0x60000 + 0x20, R.hif_MSIX_DROPPED] → e.reg o = d.reg o := by
  refine ⟨Device.loadSt_of_reg ?_ (by omega), ?_, (Device.evtBit_speaks _ _ _).golden_eq, fun o ho => ?_⟩
  · rw [Device.evtBit_reg _ _ _ _ (by decide), if_neg (by decide), Device.setLoadSt, Device.setN_eq, Device.reg_setReg, if_pos rfl]
  · rw [Device.rf, Device.evtBit_reg _ _ _ _ (by decide), if_pos rfl]
    exact fld_or_bit _ (by omega)
  · simp only [List.mem_cons, List.not_mem_nil, or_false, not_or] at ho
    obtain ⟨hstatus, hraw, hdropped⟩ := ho
    rw [Device.evtBit_reg _ _ _ _ hdropped, if_neg hraw, Device.setLoadSt_reg _ _ _ _ _ hstatus]

/-! ### ACTIVATE (R277, R278) -/

theorem ofPipe_noReport {o : Nat} (h : OfPipe o) : OfNoReport o := by
  have hflt := h.notMem_faultRegs
  obtain ⟨-, hhigh, hhdr⟩ := h
  exact ⟨hhdr, by omega, hflt⟩

theorem Device.devSync_reg (d : Device) {o : Nat} (ho : OfNoReport o) (hdev : o ≠ R.sec_DEV_STATE) : d.devSync.reg o = d.reg o := by
  have hmsix := ho.ne_msix
  obtain ⟨hhdr, -, -⟩ := ho
  unfold Device.devSync
  split
  · rfl
  · rw [Device.evtBit_reg _ _ _ _ hmsix, if_neg (by omega), Device.setN_eq, Device.reg_setReg, if_neg hdev]

/-- The device with a load DONE, its event raised and DEV_STATE brought up to it. -/
def Device.loadDone (d : Device) : Device := ((d.setLoadSt 6 0 0 0).evtBit 0x60000 17).devSync

theorem Device.loadDone_reg (d : Device) {o : Nat} (ho : OfNoReport o) (hdev : o ≠ R.sec_DEV_STATE) :
    d.loadDone.reg o = if o = R.skm_LOAD_STATUS then wd 6 else d.reg o := by
  have hmsix := ho.ne_msix
  obtain ⟨hhdr, -, -⟩ := id ho
  rw [Device.loadDone, Device.devSync_reg _ ho hdev, Device.evtBit_reg _ _ _ _ hmsix, if_neg (by omega), Device.setLoadSt, Device.setN_eq,
    Device.reg_setReg]

theorem Device.loadDone_st (d : Device) : d.loadDone.loadSt = 6 :=
  Device.loadSt_of_reg ((d.loadDone_reg ofNoReport_loadStatus (by decide)).trans (if_pos rfl)) (by omega)

theorem Device.loadDone_golden (d : Device) : d.loadDone.golden = d.golden :=
  (Device.devSync_keepsGolden _).golden.trans (Device.evtBit_speaks _ _ _).golden_eq

/-- DONE leaves the registers of the pipelines. -/
theorem Device.loadDone_ofPipe (d : Device) {o : Nat} (ho : OfPipe o) (hne : o ≠ R.skm_LOAD_STATUS) : d.loadDone.reg o = d.reg o := by
  refine (d.loadDone_reg (ofPipe_noReport ho) ?_).trans (if_neg hne)
  rintro rfl
  obtain ⟨h, -, -⟩ := ho
  exact absurd h (by decide)

theorem Device.goldenMended_golden (d : Device) (r : Option Nat) : (d.goldenMended r).golden = d.golden := by
  cases r <;> rfl

/-- ACTIVATE of a REGION load: its sections are the region's part of the golden copy, and the pipeline is LOADED. -/
theorem Device.activate_region {d : Device} (hkind : d.loader.kind = 1) (hr : d.loader.region < 64) :
    let r := d.loader.region
    d.activate.loadSt = 6 ∧ d.activate.golden = goldenWith d.golden d.loader.sects r ∧ d.activate.pipeState r = 1 ∧
      d.activate.rn (R.sch_LATENCY r) = (hdrOf (sectD d.activate.golden 0x10 r)).latency % 2 ^ 32 ∧
      d.activate.rn (R.sch_MIN_INTERVAL r) = (hdrOf (sectD d.activate.golden 0x10 r)).interval % 2 ^ 32 := by
  intro r
  let e : Device := ({ d with golden := goldenWith d.golden d.loader.sects r } : Device).goldenMended (some r)
  have hrun : d.activate = ((e.regionLive r).count (R.dad_REWORK_COUNT (r / 16) (r % 16)) 1).loadDone := by
    unfold Device.activate
    extract_lets x d2 d3 d1
    dsimp only [d1]
    exact congrArg Device.loadDone (if_pos hkind)
  have hgolden : d.activate.golden = e.golden := by
    rw [hrun, Device.loadDone_golden]
    exact e.regionLive_golden r
  have hkeep : ∀ n, 0x100 ≤ n → n < 0x120 → d.activate.reg (0x20000 + n + 0x1000 * r) = (e.regionLive r).reg (0x20000 + n + 0x1000 * r) :=
    fun n h1 h2 => by
      rw [hrun, Device.loadDone_ofPipe _ (ofPipe_sch hr h1 (by omega)) (by unfold R.skm_LOAD_STATUS; omega), Device.count_eq,
        Device.reg_setReg, if_neg (by unfold R.dad_REWORK_COUNT; omega)]
  obtain ⟨hst, hlat, hint⟩ := e.regionLive_loaded hr
  refine ⟨hrun ▸ Device.loadDone_st _, hgolden, ?_, ?_, ?_⟩
  · exact (congrArg (fld · 0 3) (hkeep 0x100 (by omega) (by omega))).trans hst
  · rw [hgolden, ← hlat]
    exact congrArg BitVec.toNat (hkeep 0x114 (by omega) (by omega))
  · rw [hgolden, ← hint]
    exact congrArg BitVec.toNat (hkeep 0x118 (by omega) (by omega))

theorem Device.releaseTapes_keepsGolden (d : Device) : d.KeepsGolden d.releaseTapes := by
  have hstep : ∀ (e : Device) (r : Nat), e.KeepsGolden ((e.setTape r { e.tape r with on := false }).setTapeState r 0) := fun _ _ => ⟨rfl⟩
  exact .foldl _ hstep d

/-- A pair takes the low 64 bits of a number. -/
theorem Device.rn64_setN64_mod (d : Device) (lo n : Nat) : (d.setN64 lo n).rn64 lo = n % 2 ^ 64 := by
  have hmod : d.setN64 lo n = d.setN64 lo (n % 2 ^ 64) := by
    have hlow : n % 2 ^ 64 % 2 ^ 32 = n % 2 ^ 32 := by omega
    have hhigh : wd (n / 2 ^ 32) = wd (n % 2 ^ 64 / 2 ^ 32) := BitVec.eq_of_toNat_eq (by simp only [wd, BitVec.toNat_ofNat]; omega)
    rw [Device.setN64, Device.setN64, hlow, Device.setN_eq, Device.setN_eq, Device.setN_eq, hhigh]
  rw [hmod]
  exact d.rn64_setN64 lo (Nat.mod_lt _ (by decide))

/-- The registers that say which Render is live: LIVE, the remap in force, and the BUILD_ID. -/
def Device.setLive (d : Device) (build : Nat) : Device :=
  ((d.setN R.skm_RENDER_STATE 1).setN R.scm_REMAP_STATE 1).setN64 R.skm_BUILD_ID_LO build

theorem Device.setLive_regs (d : Device) (build : Nat) :
    (d.setLive build).reg R.skm_RENDER_STATE = wd 1 ∧ (d.setLive build).reg R.scm_REMAP_STATE = wd 1 ∧
      (d.setLive build).rn64 R.skm_BUILD_ID_LO = build % 2 ^ 64 := by
  refine ⟨?_, ?_, Device.rn64_setN64_mod _ _ _⟩
  · rw [Device.setLive, Device.reg_setN64 _ _ (by decide), Device.setN_eq, Device.reg_setReg, if_neg (by decide), Device.setN_eq,
      Device.reg_setReg, if_pos rfl]
  · rw [Device.setLive, Device.reg_setN64 _ _ (by decide), Device.setN_eq, Device.reg_setReg, if_pos rfl]

/-- ACTIVATE of a FULL load: its sections are the golden copy, and the Render is live. -/
theorem Device.activate_full {d : Device} (hkind : d.loader.kind = 0) :
    d.activate.loadSt = 6 ∧ d.activate.golden = d.loader.sects ∧ d.activate.rf R.skm_RENDER_STATE 0 2 = 1 ∧
      d.activate.rn R.scm_REMAP_STATE = 1 ∧ d.activate.rn64 R.skm_BUILD_ID_LO = d.loader.build % 2 ^ 64 := by
  have hrun : ∃ e : Device, e.golden = d.loader.sects ∧ d.activate = (e.setLive d.loader.build).loadDone := by
    unfold Device.activate
    extract_lets x d2 d3 d1
    have h2 : d2.golden = x.sects := Device.goldenMended_golden _ none
    have h3 : d2.KeepsGolden d3 :=
      (Device.setBlocks_speaks _ _ _).keepsGolden.trans (.foldl _ (fun e r => ⟨e.regionLive_golden r⟩) _)
    refine ⟨d3.releaseTapes, ((h3.trans d3.releaseTapes_keepsGolden).golden).trans h2, congrArg Device.loadDone (if_neg ?_)⟩
    rw [hkind]
    decide
  obtain ⟨e, hgolden, hrun⟩ := hrun
  obtain ⟨hlive, hremap, hbuild⟩ := e.setLive_regs d.loader.build
  have hkeep : ∀ o ∈ [R.skm_RENDER_STATE, R.scm_REMAP_STATE, R.skm_BUILD_ID_LO, R.skm_BUILD_ID_LO + 4],
      d.activate.reg o = (e.setLive d.loader.build).reg o := fun o ho => by
    have hother : o ≠ R.sec_DEV_STATE ∧ o ≠ R.skm_LOAD_STATUS := by
      revert o
      decide
    have hpage : OfNoReport o := by
      unfold OfNoReport
      revert o
      decide
    rw [hrun, Device.loadDone_reg _ hpage hother.1, if_neg hother.2]
  refine ⟨hrun ▸ Device.loadDone_st _, ?_, ?_, ?_, ?_⟩
  · rw [hrun, Device.loadDone_golden]
    exact hgolden
  · rw [Device.rf, hkeep _ (by decide), hlive]
    rfl
  · rw [Device.rn, hkeep _ (by decide), hremap]
    rfl
  · rw [Device.rn64, Device.rn, Device.rn, hkeep _ (by decide), hkeep _ (by decide)]
    exact hbuild

/-! ### The commands of a staged load (R277, R278) -/

section
variable {s : State} {q : Req} (hw : Writes s q R.skm_LOAD_CMD = true) {b : Nat} (act : Device → Device) (hbit : fld q.data b 1 = 1)
include hw hbit

theorem loadCmd_acts (hst : s.dev.loadSt = 5) : loadCmd q b act s.dev = act (s.dev.at q.t) := by
  have hst0 : (s.dev.at q.t).loadSt = 5 := hst
  unfold loadCmd
  rw [if_neg (by omega), Device.writeAt_of_writes hw, if_pos hst0]

theorem loadCmd_counts (hst : s.dev.loadSt ≠ 5) : loadCmd q b act s.dev = (s.dev.at q.t).err 0x60000 0x0103 0 0 := by
  have hst0 : (s.dev.at q.t).loadSt ≠ 5 := hst
  unfold loadCmd
  rw [if_neg (by omega), Device.writeAt_of_writes hw, if_neg hst0]

end

/-- Settles O27: the loader's states from WRITING on, and what ACTIVATE puts in force. -/
theorem loadsAreWrittenAndGoLive : Obligations.LoadsAreWrittenAndGoLive := by
  unfold Obligations.LoadsAreWrittenAndGoLive
  refine ⟨fun s k harray hst => ?_, fun s k harray hst => ?_, fun s q hw => ?_⟩
  · have hrun : ∀ fail, s.dev.inArray (loadWriteDone fail k) = loadWriteDone fail k s.dev := fun fail => if_pos harray
    refine ⟨fun hkind => ⟨_, rfl, ?_⟩, fun hkind hon => ⟨_, rfl, ?_⟩, fun f => ⟨_, rfl, ?_⟩⟩
    · dsimp only
      rw [hrun, loadWriteDone_region k hst hkind]
      exact ⟨Device.loadSt_setLoadSt _ (by omega), rfl, rfl⟩
    · dsimp only
      rw [hrun, loadWriteDone_full k hst hkind hon]
      exact ⟨Device.loadSt_setLoadSt _ (by omega), rfl, rfl⟩
    · dsimp only
      rw [hrun]
      exact ⟨loadWriteDone_fails k hst f, rfl, rfl⟩
  · have hrun : ∀ fail, s.dev.inArray (loadVerifyDone fail k) = loadVerifyDone fail k s.dev := fun fail => if_pos harray
    refine ⟨⟨_, rfl, ?_⟩, fun f => ⟨_, rfl, ?_⟩⟩
    · dsimp only
      rw [hrun, loadVerifyDone_stages k hst]
      obtain ⟨hstaged, hevent, hgolden, hregs⟩ := (s.dev.at k).staged_spec
      exact ⟨hstaged, hevent, hgolden, hregs, rfl, rfl⟩
    · dsimp only
      rw [hrun]
      exact ⟨loadVerifyDone_fails k hst f, rfl, rfl⟩
  · refine ⟨fun hact hst hkind hr => ⟨_, rfl, ?_⟩, fun hact hst hkind => ⟨_, rfl, ?_⟩, fun hact hdisc hst => ⟨_, rfl, ?_⟩,
      fun hst c hc hcmd => ?_⟩
    · dsimp only
      rw [loadCmd_acts hw _ hact hst]
      obtain ⟨hdone, hgolden, hpipe, hlat, hint⟩ := Device.activate_region (d := s.dev.at q.t) hkind hr
      exact ⟨hdone, hgolden, hpipe, hlat, hint, rfl, rfl⟩
    · dsimp only
      rw [loadCmd_acts hw _ hact hst]
      obtain ⟨hdone, hgolden, hlive, hremap, hbuild⟩ := Device.activate_full (d := s.dev.at q.t) hkind
      exact ⟨hdone, hgolden, hlive, hremap, hbuild, rfl, rfl⟩
    · have hrun : loadDiscard q s.dev = _ := (if_neg (by omega)).trans (loadCmd_acts hw _ hdisc hst)
      dsimp only
      rw [hrun]
      exact ⟨Device.loadSt_setLoadSt _ (by omega), rfl, rfl⟩
    · have hbusy : exec c s = .next { s with dev := (s.dev.at q.t).err 0x60000 0x0103 0 0 } := by
        simp only [List.mem_cons, List.not_mem_nil, or_false] at hc
        rcases hc with rfl | rfl
        · rw [if_pos rfl] at hcmd
          have hact : fld q.data 0 1 = 1 := by
            unfold fld at hcmd ⊢
            omega
          exact congrArg (fun d => Host.Outcome.next { s with dev := d }) (loadCmd_counts hw _ hact hst)
        · rw [if_neg (by simp)] at hcmd
          have hdisc : fld q.data 0 1 ≠ 1 ∧ fld q.data 1 1 = 1 := by
            unfold fld at hcmd ⊢
            omega
          exact congrArg (fun d => Host.Outcome.next { s with dev := d }) ((if_neg hdisc.1).trans (loadCmd_counts hw _ hdisc.2 hst))
      obtain ⟨hstatus, -, hgolden, hcount⟩ := (s.dev.at q.t).loadBusy_counts
      exact ⟨_, hbusy, hstatus, hgolden, hcount, rfl, rfl⟩

end Sys2Proof.Machine
end

section
/-! PROOFS. Slots set, filled and dropped (R284, R286, R287, R290). -/
namespace Sys2Proof.Machine

theorem Device.Speaks.fills_eq {d e : Device} (h : d.Speaks e) : e.fills = d.fills := (congrArg Device.fills h :)
theorem Device.Speaks.fillReqs_eq {d e : Device} (h : d.Speaks e) : e.fillReqs = d.fillReqs := (congrArg Device.fillReqs h :)
theorem Device.Speaks.tiles_eq {d e : Device} (h : d.Speaks e) : e.tiles = d.tiles := (congrArg Device.tiles h :)
theorem Device.Speaks.tmem_eq {d e : Device} (h : d.Speaks e) : e.tmem = d.tmem := (congrArg Device.tmem h :)
theorem Device.Speaks.pipes_eq {d e : Device} (h : d.Speaks e) : e.pipes = d.pipes := (congrArg Device.pipes h :)

/-! ### The slot table (R284) -/

theorem ofPipe_slotReg {p s : Nat} (hp : p < 64) (hs : s < 16) : OfPipe (slotReg p s) := by
  unfold OfPipe slotReg R.skm_SLOT
  omega

theorem slotReg_inj {p s p' s' : Nat} (hs : s < 16) (hs' : s' < 16) (h : slotReg p s = slotReg p' s') :
    p = p' ∧ s = s' := by
  unfold slotReg R.skm_SLOT at h
  omega

/-- A register of the device below its tile pages is no copy of a slot. -/
theorem ne_slotSkim {o : Nat} (ho : o < 0x1000000) (s k : Nat) : o ≠ R.trw_SLOT_SKIM k s := by
  unfold R.trw_SLOT_SKIM
  omega

theorem Device.slotState_congr {d e : Device} {p s : Nat} (h : e.reg (slotReg p s) = d.reg (slotReg p s)) :
    e.slotState p s = d.slotState p s := congrArg (fld · 16 2) h

theorem Device.slotSkim_congr {d e : Device} {p s : Nat} (h : e.reg (slotReg p s) = d.reg (slotReg p s)) :
    e.slotSkim p s = d.slotSkim p s := congrArg (fld · 0 14) h

section
variable (d : Device) {p s : Nat} (hp : p < 64) (hs : s < 16)
include hp hs

theorem Device.setSlot_word (skim st : Nat) :
    (d.setSlot p s skim st).reg (slotReg p s) = setFld (setFld (d.reg (slotReg p s)) 0 14 skim) 16 2 st := by
  obtain ⟨-, hlow, -⟩ := ofPipe_slotReg hp hs
  rw [d.setSlot_reg _ _ _ _ (ne_slotSkim (by omega) s), if_pos rfl]

theorem Device.setSlot_state (skim st : Nat) : (d.setSlot p s skim st).slotState p s = st % 4 := by
  rw [Device.slotState, Device.rf, d.setSlot_word hp hs]
  exact fld_setFld _ _ (by omega)

theorem Device.setSlot_skim (skim st : Nat) : (d.setSlot p s skim st).slotSkim p s = skim % 2 ^ 14 := by
  rw [Device.slotSkim, Device.rf, d.setSlot_word hp hs, fld_setFld_beside _ _ (by omega) (by omega)]
  exact fld_setFld _ _ (by omega)

end

/-- Fill counts and other registers of the library's pages are no slots. -/
theorem Device.setSlot_reg_library (d : Device) {p s : Nat} (skim st : Nat) {o : Nat} (h : 0x60000 ≤ o) (ho : o < 0x63100) :
    (d.setSlot p s skim st).reg o = d.reg o := by
  rw [d.setSlot_reg _ _ _ _ (ne_slotSkim (by omega) s), if_neg (by unfold slotReg R.skm_SLOT; omega)]

/-! ### The start and the end of a fill (R286, R287) -/

section
variable (d : Device) {p s : Nat} (hp : p < 64) (hs : s < 16)
include hp hs

/-- A fill or warm-up that begins: the slot is FILLING or WARMING with the skim, and the fill is the last of those in progress. -/
theorem Device.beginFill_spec (x sort c : Nat) :
    let e := d.beginFill p s x sort c
    e.slotState p s = (if sort = 0 then 1 else 3) ∧ e.slotSkim p s = x % 2 ^ 14 ∧ e.fills = d.fills ++ [⟨p, s, x, sort, c⟩] ∧
      e.fillReqs = d.fillReqs := by
  have hspeaks := d.setSlot_speaks p s x (if sort = 0 then 1 else 3)
  refine ⟨(d.setSlot_state hp hs _ _).trans ?_, d.setSlot_skim hp hs _ _, congrArg (· ++ _) hspeaks.fills_eq, hspeaks.fillReqs_eq⟩
  split <;> rfl

/-- A slot dropped is INVALID, and nothing fills it any more. -/
theorem Device.dropSlot_spec :
    (d.dropSlot p s).slotState p s = 0 ∧ ∀ x ∈ (d.dropSlot p s).fills, ¬(x.pipe = p ∧ x.slot = s) := by
  refine ⟨d.setSlot_state hp hs _ 0, fun x hx => ?_⟩
  simpa [imp_iff_not_or] using (List.mem_filter.1 hx).2

end

/-- The registers and the fills are as they were. -/
structure Device.KeepsFills (d e : Device) : Prop where
  regs : e.regs = d.regs
  fills : e.fills = d.fills

theorem Device.writeShare_keepsFills (d : Device) (k s : Nat) (x : Share) : d.KeepsFills (d.writeShare k s x) := ⟨rfl, rfl⟩

/-- The shares of a skim change no register and no fill. -/
theorem Device.writeShares_keepsFills (d : Device) (p s : Nat) (body : List Byte) : d.KeepsFills (d.writeShares p s body) := by
  unfold Device.writeShares
  refine List.foldlRecOn _ _ (motive := fun e => d.KeepsFills e) ⟨rfl, rfl⟩ fun e he x _ => ?_
  have hx := e.writeShare_keepsFills (e.relTile p x.rel) s x
  exact ⟨hx.regs.trans he.regs, hx.fills.trans he.fills⟩

/-- What the shares of a skim leave in the tiles does not depend on the cycle in which they are written. -/
theorem Device.writeShares_atCyc (d : Device) (c p s : Nat) (body : List Byte) :
    (d.atCyc c).writeShares p s body = (d.writeShares p s body).atCyc c := by
  unfold Device.writeShares
  exact List.foldl_hom (fun e : Device => e.atCyc c) fun _ _ => rfl

theorem Device.reg_count (d : Device) (n o : Nat) : (d.count n 1).reg o = if o = n then satAdd (d.reg o) 1 else d.reg o := by
  rw [Device.count_eq, Device.reg_setReg]
  by_cases h : o = n
  · rw [if_pos h, if_pos h, h]
  · rw [if_neg h, if_neg h]

theorem satAdd_zero (v : Word) : satAdd v 0 = v := by
  have := v.isLt
  rw [satAdd, wd, Nat.add_zero, Nat.min_eq_right (by unfold wordMax; omega)]
  exact BitVec.ofNat_toNat 32 v ▸ BitVec.setWidth_eq v

/-- The register that counts fills of a sort (R287, R289). -/
def fillCount (sort : Nat) : Nat := if sort = 0 then R.skm_FILLS else if sort = 1 then R.skm_WARMUPS else R.skm_RA_WARMUPS

theorem fillCount_range (sort : Nat) : 0x60000 ≤ fillCount sort ∧ fillCount sort < 0x63100 := by
  unfold fillCount
  split
  · decide
  · split <;> decide

/-- A fill done: its slot is VALID with the skim, the shares stand in the tiles, and it is counted by its sort. -/
theorem Device.fillDone_spec (d : Device) {f : Fill} (hp : f.pipe < 64) (hs : f.slot < 16) :
    let e := d.fillDone f
    e.slotState f.pipe f.slot = 2 ∧ e.slotSkim f.pipe f.slot = f.skim % 2 ^ 14 ∧ e.fills = d.fills.erase f ∧
      e.tmem = (d.writeShares f.pipe f.slot (d.libAt f.skim).body).tmem ∧
      ∀ o ∈ [R.skm_FILLS, R.skm_WARMUPS, R.skm_RA_WARMUPS], e.reg o = satAdd (d.reg o) (b2n (o == fillCount f.sort)) := by
  intro e
  let w := d.writeShares f.pipe f.slot (d.libAt f.skim).body
  have hw : d.KeepsFills w := d.writeShares_keepsFills _ _ _
  have hspeaks : w.Speaks (w.setSlot f.pipe f.slot f.skim 2) := w.setSlot_speaks _ _ _ _
  have hcount : ∀ o, e.reg o =
      if o = fillCount f.sort then satAdd ((w.setSlot f.pipe f.slot f.skim 2).reg o) 1 else (w.setSlot f.pipe f.slot f.skim 2).reg o :=
    fun o => Device.reg_count _ _ o
  have hslot : e.reg (slotReg f.pipe f.slot) = (w.setSlot f.pipe f.slot f.skim 2).reg (slotReg f.pipe f.slot) := by
    obtain ⟨-, hhigh⟩ := fillCount_range f.sort
    rw [hcount, if_neg (by unfold slotReg R.skm_SLOT; omega)]
  refine ⟨?_, ?_, ?_, hspeaks.tmem_eq, fun o ho => ?_⟩
  · exact (Device.slotState_congr hslot).trans (w.setSlot_state hp hs _ 2)
  · exact (Device.slotSkim_congr hslot).trans (w.setSlot_skim hp hs _ 2)
  · exact congrArg (List.erase · f) (hspeaks.fills_eq.trans hw.fills)
  · have hrange : 0x60000 ≤ o ∧ o < 0x63100 := by
      revert o
      decide
    have hkeep : (w.setSlot f.pipe f.slot f.skim 2).reg o = d.reg o :=
      (w.setSlot_reg_library _ _ hrange.1 hrange.2).trans (congrArg (Store.get resetOf · o) hw.regs)
    rw [hcount, hkeep]
    by_cases h : o = fillCount f.sort
    · rw [if_pos h, beq_iff_eq.2 h]
      rfl
    · rw [if_neg h, beq_eq_false_iff_ne.2 h]
      exact (satAdd_zero _).symm

end Sys2Proof.Machine
end

section
/-! PROOFS. The commands of the library, and the slots that EVICT takes (R283, R284, R286, R289). -/
namespace Sys2Proof.Machine

/-! ### LIB_CMD (R283, R289, R291) -/

section
variable {s : State} {q : Req} (hw : Writes s q R.skm_LIB_CMD = true) (hgo : fld q.data 31 1 = 1) {x : Nat} (hx : fld q.data 16 14 = x)
  (hne : x ≠ 0)
include hw hgo hx hne

theorem libCmd_acts {op : Nat} (hop : fld q.data 0 2 = op) (act : Nat → Device → Device) :
    libCmd q op act s.dev = act x (s.dev.at q.t) := by
  unfold libCmd
  rw [if_neg (by omega), Device.writeAt_of_writes hw, if_neg (by omega), hx]

section
variable (hop : fld q.data 0 2 = 1)
include hop

theorem libRemove_used (hused : s.dev.skimUsed x = true) : libRemove q s.dev = (s.dev.at q.t).libResult 2 3 :=
  (libCmd_acts hw hgo hx hne hop _).trans (if_pos hused)

theorem libRemove_unused (hunused : s.dev.skimUsed x = false) :
    libRemove q s.dev = ({ s.dev.at q.t with lib := Store.set lib0 s.dev.lib x (lib0 0) } : Device).libResult 1 0 :=
  (libCmd_acts hw hgo hx hne hop _).trans (if_neg (by exact Bool.not_eq_true _ ▸ hunused))

end

section
variable (hop : fld q.data 0 2 = 2) {p : Nat} (hp : fld q.data 2 6 = p)
  (hst : s.dev.pipeState p ≠ 0 ∧ s.dev.pipeState p ≠ 5 ∧ s.dev.pipeState p ≠ 6)
  (hmatch : s.dev.libMatches p x = true) (hslot : s.dev.slotOf p x = none)
include hop hp hst hmatch hslot

/-- What WARM does where nothing but a full pipeline can refuse it. -/
theorem libWarm_eq : libWarm q s.dev = match (s.dev.at q.t).freeSlot p with
    | some j => ((s.dev.at q.t).beginFill p j x 1 (s.dev.at q.t).now.cyc).libResult 1 0
    | none =>
      if fld q.data 8 1 = 0 then (s.dev.at q.t).libResult 2 4
      else match (s.dev.at q.t).oldSlot p with
        | some j => (((s.dev.at q.t).evict p j).beginFill p j x 1 (s.dev.at q.t).now.cyc).libResult 1 0
        | none => (s.dev.at q.t).libResult 2 4 := by
  obtain ⟨h0, h5, h6⟩ := hst
  have hvalid : (s.dev.libAt x).st = 2 := beq_iff_eq.1 (Bool.and_eq_true_iff.1 hmatch).1
  have hallowed : ¬((s.dev.at q.t).pipeState p = 0 ∨ (s.dev.at q.t).pipeState p = 5 ∨ (s.dev.at q.t).pipeState p = 6 ∨
      ((s.dev.at q.t).libAt x).st ≠ 2) := fun h =>
    h.elim h0 fun h => h.elim h5 fun h => h.elim h6 fun h => h hvalid
  have hmatch0 : (s.dev.at q.t).libMatches p x = true := hmatch
  have hslot0 : (s.dev.at q.t).slotOf p x = none := hslot
  refine (libCmd_acts hw hgo hx hne hop _).trans ?_
  dsimp only
  rw [hp, if_neg hallowed, hmatch0, hslot0]
  rfl

theorem libWarm_starts {j : Nat} (hj : s.dev.freeSlot p = some j) :
    libWarm q s.dev = ((s.dev.at q.t).beginFill p j x 1 s.dev.now.cyc).libResult 1 0 := by
  have hj0 : (s.dev.at q.t).freeSlot p = some j := hj
  rw [libWarm_eq hw hgo hx hne hop hp hst hmatch hslot, hj0]
  rfl

theorem libWarm_refused (hfull : s.dev.freeSlot p = none) (hevict : fld q.data 8 1 = 0) :
    libWarm q s.dev = (s.dev.at q.t).libResult 2 4 := by
  have hfull0 : (s.dev.at q.t).freeSlot p = none := hfull
  rw [libWarm_eq hw hgo hx hne hop hp hst hmatch hslot, hfull0]
  exact if_pos hevict

end

end

/-! ### EVICT (R283, R284) -/

/-- Whether a slot is active rests on the region, on the words that say how many slots and contexts its tiles have, and on the contexts. -/
theorem Device.slotActive_congr {d e : Device} {p : Nat} (ht : e.tiles = d.tiles) (hr : e.reg (R.sch_REGION p) = d.reg (R.sch_REGION p))
    (hk : ∀ k, e.reg (R.trw_HAWK_SLOTS k) = d.reg (R.trw_HAWK_SLOTS k) ∧ e.reg (R.trw_CTX_COUNT k) = d.reg (R.trw_CTX_COUNT k)) (s : Nat) :
    e.slotActive p s = d.slotActive p s := by
  have hregion : e.regionTiles p = d.regionTiles p := by
    unfold Device.regionTiles
    rw [hr]
  have hslots : ∀ k, e.numSlots k = d.numSlots k := fun k => congrArg (fld · 0 5) (hk k).1
  have hctx : ∀ k, e.nCtx k = d.nCtx k := fun k => congrArg (fld · 0 4) (hk k).2
  simp only [Device.slotActive, Device.slotTiles, hregion, hslots, hctx, Device.ctx, Device.tile, ht]

/-- Slots of some pipelines became INVALID, with the skims they held; no other slot changed, and none became active. -/
structure Device.Evicts (d e : Device) : Prop where
  pipes : e.pipes = d.pipes
  active : ∀ p < 64, ∀ s, e.slotActive p s = d.slotActive p s
  skim : ∀ p < 64, ∀ s < 16, e.slotSkim p s = d.slotSkim p s
  state : ∀ p < 64, ∀ s < 16, e.slotState p s = d.slotState p s ∨ e.slotState p s = 0

namespace Device.Evicts
variable {d e f : Device}

theorem refl (d : Device) : d.Evicts d := ⟨rfl, fun _ _ _ => rfl, fun _ _ _ _ => rfl, fun _ _ _ _ => .inl rfl⟩

theorem invalid (h : d.Evicts e) {p s : Nat} (hp : p < 64) (hs : s < 16) (h0 : d.slotState p s = 0) : e.slotState p s = 0 :=
  (h.state p hp s hs).elim (·.trans h0) id

theorem trans (h : d.Evicts e) (g : e.Evicts f) : d.Evicts f where
  pipes := g.pipes.trans h.pipes
  active p hp s := (g.active p hp s).trans (h.active p hp s)
  skim p hp s hs := (g.skim p hp s hs).trans (h.skim p hp s hs)
  state p hp s hs := by
    rcases h.state p hp s hs with h1 | h1
    · rw [← h1]
      exact g.state p hp s hs
    · exact .inr (g.invalid hp hs h1)

/-- A slot not pinned is not pinned afterwards. -/
theorem unpinned (h : d.Evicts e) {p s : Nat} (hp : p < 64) (hs : s < 16) (hpin : d.slotPinned p s = false) : e.slotPinned p s = false := by
  have hpipe : e.pipe p = d.pipe p := congrArg (Store.get pipe0 · p) h.pipes
  unfold Device.slotPinned at hpin ⊢
  rw [h.active p hp, h.skim p hp s hs, hpipe]
  rcases h.state p hp s hs with h1 | h1
  · rw [h1]
    exact hpin
  · rw [h1]
    simp only [Bool.or_eq_false_iff] at hpin ⊢
    exact ⟨hpin.1, rfl⟩

end Device.Evicts

theorem Device.evict_reg (d : Device) (p s : Nat) {o : Nat} (ho : o ≠ R.skm_EVICTIONS) :
    (d.evict p s).reg o = (d.setSlot p s (d.slotSkim p s) 0).reg o :=
  (Device.reg_count _ _ _).trans (if_neg ho)

/-- One slot evicted is INVALID and holds its skim. -/
theorem Device.evict_evicts (d : Device) {p s : Nat} (hp : p < 64) (hs : s < 16) :
    d.Evicts (d.evict p s) ∧ (d.evict p s).slotState p s = 0 := by
  have hspeaks := d.setSlot_speaks p s (d.slotSkim p s) 0
  have hslot : ∀ p' s', (d.evict p s).reg (slotReg p' s') = (d.setSlot p s (d.slotSkim p s) 0).reg (slotReg p' s') := fun p' s' =>
    d.evict_reg p s (by unfold slotReg R.skm_SLOT R.skm_EVICTIONS; omega)
  have hother : ∀ p' < 64, ∀ s' < 16, (p' ≠ p ∨ s' ≠ s) → (d.evict p s).reg (slotReg p' s') = d.reg (slotReg p' s') :=
    fun p' hp' s' hs' hne => by
      obtain ⟨-, hlow, -⟩ := ofPipe_slotReg hp' hs'
      rw [hslot, d.setSlot_reg _ _ _ _ (ne_slotSkim (by omega) s), if_neg]
      intro h
      obtain ⟨h1, h2⟩ := slotReg_inj hs' hs h
      exact hne.elim (· h1) (· h2)
  have hinvalid : (d.evict p s).slotState p s = 0 := (Device.slotState_congr (hslot p s)).trans (d.setSlot_state hp hs _ 0)
  have hkeep : ∀ o, (∀ k, o ≠ R.trw_SLOT_SKIM k s) → o ≠ slotReg p s → o ≠ R.skm_EVICTIONS → (d.evict p s).reg o = d.reg o :=
    fun o h1 h2 h3 => by rw [d.evict_reg p s h3, d.setSlot_reg _ _ _ _ h1, if_neg h2]
  refine ⟨⟨hspeaks.pipes_eq, fun p' hp' s' => ?_, fun p' hp' s' hs' => ?_, fun p' hp' s' hs' => ?_⟩, hinvalid⟩
  · have hreg := ofPipe_slotReg hp hs
    refine Device.slotActive_congr (d := d) (e := d.evict p s) hspeaks.tiles_eq (hkeep _ ?_ ?_ ?_)
      (fun k => ⟨hkeep _ ?_ ?_ ?_, hkeep _ ?_ ?_ ?_⟩) s'
    all_goals
      simp only [slotReg, R.sch_REGION, R.trw_SLOT_SKIM, R.skm_SLOT, R.skm_EVICTIONS, R.trw_HAWK_SLOTS, R.trw_CTX_COUNT]
      omega
  · by_cases h : p' = p ∧ s' = s
    · obtain ⟨rfl, rfl⟩ := h
      refine (Device.slotSkim_congr (hslot p' s')).trans ((d.setSlot_skim hp hs _ 0).trans ?_)
      exact Nat.mod_eq_of_lt (fld_lt _ _ _)
    · exact Device.slotSkim_congr (hother p' hp' s' hs' (by omega))
  · by_cases h : p' = p ∧ s' = s
    · obtain ⟨rfl, rfl⟩ := h
      exact .inr hinvalid
    · exact .inl (Device.slotState_congr (hother p' hp' s' hs' (by omega)))

/-- A fold of steps that evict: it evicts, and where the step at `a` leaves slot s of pipeline p INVALID, so does the fold. -/
theorem Device.foldl_evicts {k : Device → Nat → Device} {l : List Nat} (hk : ∀ d : Device, ∀ a ∈ l, d.Evicts (k d a)) (d : Device) :
    d.Evicts (l.foldl k d) ∧
      ∀ a ∈ l, ∀ p < 64, ∀ s < 16, (∀ e, d.Evicts e → (k e a).slotState p s = 0) → (l.foldl k d).slotState p s = 0 := by
  have hall : ∀ (m : List Nat) (e : Device), (∀ a ∈ m, a ∈ l) → e.Evicts (m.foldl k e) := fun m e hm =>
    List.foldlRecOn _ _ (motive := fun x => e.Evicts x) (.refl e) fun x hx a ha => hx.trans (hk x a (hm a ha))
  refine ⟨hall l d fun _ h => h, fun a ha p hp s hs h => ?_⟩
  obtain ⟨l1, l2, hl⟩ := List.append_of_mem ha
  rw [hl, List.foldl_append, List.foldl_cons]
  refine (hall l2 _ fun b hb => by simp [hl, hb]).invalid hp hs (h _ (hall l1 d fun b hb => by simp [hl, hb]))

/-- EVICT of skim x at one slot. -/
def Device.evictSlot (x p : Nat) (d : Device) (s : Nat) : Device :=
  if d.slotState p s ≠ 0 ∧ d.slotSkim p s = x ∧ !d.slotPinned p s then d.evict p s else d

/-- EVICT of skim x at every slot of a pipeline. -/
def Device.evictPipe (x : Nat) (d : Device) (p : Nat) : Device := (List.range 16).foldl (Device.evictSlot x p) d

/-- EVICT of skim x at every slot. -/
def Device.evictAll (d : Device) (x : Nat) : Device := (List.range 64).foldl (Device.evictPipe x) d

theorem Device.evictSlot_evicts (d : Device) (x : Nat) {p s : Nat} (hp : p < 64) (hs : s < 16) : d.Evicts (d.evictSlot x p s) := by
  unfold Device.evictSlot
  split
  · exact (d.evict_evicts hp hs).1
  · exact .refl d

/-- An unpinned slot that holds the skim is INVALID afterwards. -/
theorem Device.evictSlot_invalid {d : Device} {x p s : Nat} (hp : p < 64) (hs : s < 16) (hx : d.slotSkim p s = x)
    (hpin : d.slotPinned p s = false) : (d.evictSlot x p s).slotState p s = 0 := by
  unfold Device.evictSlot
  by_cases h0 : d.slotState p s = 0
  · rw [if_neg (fun h => h.1 h0)]
    exact h0
  · rw [if_pos ⟨h0, hx, by rw [hpin]; rfl⟩]
    exact (d.evict_evicts hp hs).2

theorem Device.evictPipe_evicts (d : Device) (x : Nat) {p : Nat} (hp : p < 64) : d.Evicts (d.evictPipe x p) :=
  (Device.foldl_evicts (fun e _ hs => e.evictSlot_evicts x hp (List.mem_range.1 hs)) d).1

theorem Device.evictPipe_invalid {d : Device} {x p s : Nat} (hp : p < 64) (hs : s < 16) (hx : d.slotSkim p s = x)
    (hpin : d.slotPinned p s = false) : (d.evictPipe x p).slotState p s = 0 :=
  (Device.foldl_evicts (fun e _ hs => e.evictSlot_evicts x hp (List.mem_range.1 hs)) d).2 s (List.mem_range.2 hs) p hp s hs
    fun _ he => Device.evictSlot_invalid hp hs ((he.skim p hp s hs).trans hx) (he.unpinned hp hs hpin)

/-- EVICT makes every unpinned slot that holds the skim INVALID. -/
theorem Device.evictAll_invalid {d : Device} {x p s : Nat} (hp : p < 64) (hs : s < 16) (hx : d.slotSkim p s = x)
    (hpin : d.slotPinned p s = false) : (d.evictAll x).slotState p s = 0 :=
  (Device.foldl_evicts (fun e _ hp => e.evictPipe_evicts x (List.mem_range.1 hp)) d).2 p (List.mem_range.2 hp) p hp s hs
    fun _ he => Device.evictPipe_invalid hp hs ((he.skim p hp s hs).trans hx) (he.unpinned hp hs hpin)

end Sys2Proof.Machine
end

section
/-! PROOFS. Fills that start, end and fault; O28 (R283, R285 to R290, R300). -/
namespace Sys2Proof.Machine

/-! ### LIB_RESULT (R283) -/

theorem Device.libResult_keepsRegs (d : Device) (result reason o : Nat) (ho : o ∉ [R.skm_LIB_RESULT]) :
    (d.libResult result reason).reg o = d.reg o :=
  (d.reg_setReg _ _ _).trans (if_neg (by simpa using ho))

theorem Device.libResult_slotReg (d : Device) (result reason p s : Nat) :
    (d.libResult result reason).reg (slotReg p s) = d.reg (slotReg p s) :=
  (d.reg_setReg _ _ _).trans (if_neg (by unfold slotReg R.skm_SLOT R.skm_LIB_RESULT; omega))

/-! ### The start and the end of a fill (R286, R287, R289) -/

/-- The oldest request of a pipeline in which no on-demand fill runs starts in the first free slot. -/
theorem fillStart_begins {d : Device} {p : Fin 64} (cyc : Nat) {j : Nat} {r : FillReq} (hidle : ∀ f ∈ d.fills, f.pipe = p.val → f.sort ≠ 0)
    (hr : (d.fillReqs.find? fun r => r.pipe = p.val) = some r) (hslot : d.slotOf p r.skim = none) (hmatch : d.libMatches p r.skim = true)
    (hrate : d.rn (R.skm_FILL_RATE p) ≠ 0) (hj : d.freeSlot p = some j) :
    fillStart p cyc d = ({ d.atCyc cyc with fillReqs := d.fillReqs.erase r } : Device).beginFill p j r.skim 0 cyc := by
  have hnone : ¬(d.atCyc cyc).fills.any (fun f => f.pipe == p && f.sort == 0) = true := by
    simpa using hidle
  have hr0 : ((d.atCyc cyc).fillReqs.find? fun r => r.pipe = p.val) = some r := hr
  have hslot0 : ({ d.atCyc cyc with fillReqs := d.fillReqs.erase r } : Device).slotOf p r.skim = none := hslot
  have hj0 : ({ d.atCyc cyc with fillReqs := d.fillReqs.erase r } : Device).freeSlot p = some j := hj
  have hallowed : ¬((!({ d.atCyc cyc with fillReqs := d.fillReqs.erase r } : Device).libMatches p r.skim) = true ∨
      ({ d.atCyc cyc with fillReqs := d.fillReqs.erase r } : Device).rn (R.skm_FILL_RATE p) = 0) := by
    rintro (h | h)
    · exact absurd (hmatch.symm.trans (Bool.not_eq_true' _ ▸ h)) (by decide)
    · exact hrate h
  unfold fillStart
  dsimp only
  rw [if_neg hnone, hr0]
  dsimp only
  rw [Device.atCyc_fillReqs, hslot0, if_neg (by simp), if_neg hallowed, hj0]

/-- A fill whose slot is not active and whose sort the command ends is done. -/
theorem endFill_ends {d : Device} {p : Fin 64} {s : Fin 16} (cyc : Nat) {ok : Nat → Bool} {f : Fill} (hf : d.fillAt p s = some f)
    (hactive : d.slotActive p s = false) (hok : ok f.sort = true) : endFill p s cyc ok d = (d.atCyc cyc).fillDone f := by
  have hf0 : (d.atCyc cyc).fillAt p s = some f := hf
  have hactive0 : (d.atCyc cyc).slotActive p s = false := hactive
  unfold endFill
  dsimp only
  rw [hf0]
  dsimp only
  rw [hok, hactive0]
  rfl

/-- The end of a fill by the command of its sort. -/
theorem exec_fillEnd {s : State} {p : Fin 64} {j : Fin 16} (cyc : Nat) {f : Fill} (harray : s.dev.arrayRuns = true)
    (hf : s.dev.fillAt p j = some f) (hactive : s.dev.slotActive p j = false) :
    exec (if f.sort = 0 then .slotFillDone p j cyc else .warmupDone p j cyc) s = .next { s with dev := (s.dev.atCyc cyc).fillDone f } := by
  have hrun : ∀ ok : Nat → Bool, ok f.sort = true → s.dev.inArray (endFill p j cyc ok) = (s.dev.atCyc cyc).fillDone f := fun ok hok =>
    (if_pos harray).trans (endFill_ends cyc hf hactive hok)
  split
  · next h => exact congrArg (fun d => Host.Outcome.next { s with dev := d }) (hrun (· == 0) (beq_iff_eq.2 h))
  · next h => exact congrArg (fun d => Host.Outcome.next { s with dev := d }) (hrun (· != 0) (bne_iff_ne.2 h))

/-! ### A fill that faults (R290, R300) -/

/-- The fills, the tiles and the registers of the slots and of the pipelines are as they were. -/
structure Device.KeepsSlots (d e : Device) : Prop where
  fills : e.fills = d.fills
  tiles : e.tiles = d.tiles
  reg : ∀ o, OfPipe o → e.reg o = d.reg o

theorem Device.KeepsSlots.trans {d e f : Device} (h : d.KeepsSlots e) (g : e.KeepsSlots f) : d.KeepsSlots f :=
  ⟨g.fills.trans h.fills, g.tiles.trans h.tiles, fun o ho => (g.reg o ho).trans (h.reg o ho)⟩

theorem Device.Speaks.keepsSlots {d e : Device} (h : d.Speaks e) (g : d.SparesPipes e) : d.KeepsSlots e := ⟨h.fills_eq, h.tiles_eq, g.reg⟩

theorem Device.err_keepsSlots (d : Device) {pg : Nat} (hpg : pg % 0x1000 = 0) (code : Nat) (lo hi : Word) : d.KeepsSlots (d.err pg code lo hi) :=
  (d.err_speaks _ _ _ _).keepsSlots (d.err_sparesPipes hpg _ _ _)

theorem Device.evtBit_keepsSlots (d : Device) {pg : Nat} (hpg : pg % 0x1000 = 0) (i : Nat) : d.KeepsSlots (d.evtBit pg i) :=
  (d.evtBit_speaks _ _).keepsSlots (d.evtBit_sparesPipes hpg _)

/-- An uncorrectable word of HBM is counted and reported, and its address kept, away from the slots. -/
theorem Device.hbmMark_keepsSlots (d : Device) (w : Nat) : d.KeepsSlots (d.hbmMark ⟨.hbm, 0, w, true⟩) := by
  unfold Device.hbmMark
  extract_lets a c d1 x d2
  have h1 : d.KeepsSlots d1 := by
    refine ⟨rfl, rfl, fun o ⟨_, h, _⟩ => ?_⟩
    dsimp only [d1]
    rw [Device.count_eq, Device.reg_setReg, if_neg (by unfold R.hbm_CH_UE; omega), Device.count_eq, Device.reg_setReg,
      if_neg (by unfold R.hbm_UE_COUNT; omega)]
  have h2 : d1.KeepsSlots d2 := by
    have hself : d1.KeepsSlots d1 := ⟨rfl, rfl, fun _ _ => rfl⟩
    have hmark : d1.KeepsSlots { d1.setN64 R.hbm_UE_ADDR_LO a with hbmUe := true } := by
      refine ⟨rfl, rfl, fun o ⟨_, h, _⟩ => d1.reg_setN64 _ ?_⟩
      simp only [List.mem_cons, List.not_mem_nil, or_false, R.hbm_UE_ADDR_LO]
      omega
    dsimp only [d2]
    split
    · exact hself
    · exact hmark
  rw [if_pos rfl]
  exact ((h1.trans h2).trans (d2.err_keepsSlots rfl _ _ _)).trans (Device.evtBit_keepsSlots _ rfl _)

/-- The fill of skim x in a slot stops at a word of HBM: reported and counted (R290). -/
def Device.faultFill (d : Device) (p s w x : Nat) : Device :=
  ((((d.hbmMark ⟨.hbm, 0, w, true⟩).dropSlot p s).err 0x61000 0x0102 (wd (x + 65536 * p)) 0).count R.skm_FILL_FAULTS 1).evtBit 0x61000 16

theorem Device.faultFill_tile (d : Device) (p s w x k : Nat) : (d.faultFill p s w x).tile k = d.tile k := by
  refine congrArg (Store.get tile0 · k) ?_
  have hslot := (d.hbmMark ⟨.hbm, 0, w, true⟩).setSlot_speaks p s ((d.hbmMark ⟨.hbm, 0, w, true⟩).slotSkim p s) 0
  have herr := Device.err_speaks ((d.hbmMark ⟨.hbm, 0, w, true⟩).dropSlot p s) 0x61000 0x0102 (wd (x + 65536 * p)) 0
  exact (Device.evtBit_speaks _ _ _).tiles_eq.trans (herr.tiles_eq.trans (hslot.tiles_eq.trans (d.hbmMark_keepsSlots w).tiles))

/-- The slot of a fill that faulted is INVALID, nothing fills it, and the fault is counted. -/
theorem Device.faultFill_spec (d : Device) {p s : Nat} (hp : p < 64) (hs : s < 16) (w x : Nat) :
    (d.faultFill p s w x).slotState p s = 0 ∧
      (d.faultFill p s w x).reg R.skm_FILL_FAULTS = satAdd (d.reg R.skm_FILL_FAULTS) 1 ∧
      ∀ f ∈ (d.faultFill p s w x).fills, ¬(f.pipe = p ∧ f.slot = s) := by
  let d0 := d.hbmMark ⟨.hbm, 0, w, true⟩
  let d1 := d0.dropSlot p s
  let d2 := d1.err 0x61000 0x0102 (wd (x + 65536 * p)) 0
  obtain ⟨hinvalid, hgone⟩ := d0.dropSlot_spec hp hs
  have hfaults : OfPipe R.skm_FILL_FAULTS := by
    unfold OfPipe
    decide
  have herr : d1.KeepsSlots d2 := d1.err_keepsSlots rfl _ _ _
  have hevt : (d2.count R.skm_FILL_FAULTS 1).KeepsSlots (d.faultFill p s w x) := Device.evtBit_keepsSlots _ rfl _
  refine ⟨?_, ?_, ?_⟩
  · refine (Device.slotState_congr ?_).trans hinvalid
    rw [hevt.reg _ (ofPipe_slotReg hp hs), Device.reg_count, if_neg (by unfold slotReg R.skm_SLOT R.skm_FILL_FAULTS; omega)]
    exact herr.reg _ (ofPipe_slotReg hp hs)
  · have hdrop : d1.reg R.skm_FILL_FAULTS = d0.reg R.skm_FILL_FAULTS := d0.setSlot_reg_library _ 0 (by decide) (by decide)
    rw [hevt.reg _ hfaults, Device.reg_count, if_pos rfl, herr.reg _ hfaults, hdrop, (d.hbmMark_keepsSlots w).reg _ hfaults]
  · rw [hevt.fills, show (d2.count R.skm_FILL_FAULTS 1).fills = d1.fills from herr.fills]
    exact hgone

/-- FILL_FAULT where no tile waits for a skim stops the fill, and no pipeline faults. -/
theorem fillFault_drops {d : Device} {p : Fin 64} {s : Fin 16} (a t cyc : Nat) {f : Fill} (hf : d.fillAt p s = some f)
    (hwait : ∀ x, (d.tile x).fillWait = none) : fillFault p s a t cyc d = ((d.at t).atCyc cyc).faultFill p s (a / 8) f.skim := by
  have hf0 : ((d.at t).atCyc cyc).fillAt p s = some f := hf
  have hnone : ((((d.at t).atCyc cyc).faultFill p s (a / 8) f.skim).regionTiles p).find?
      (fun k => ((((d.at t).atCyc cyc).faultFill p s (a / 8) f.skim).tile k).fillWait.any fun w => w.1 == f.skim) = none := by
    refine List.find?_eq_none.2 fun k _ => ?_
    rw [Device.faultFill_tile, show ((d.at t).atCyc cyc).tile k = d.tile k from rfl, hwait, Option.any_none]
    exact Bool.false_ne_true
  unfold fillFault
  dsimp only
  rw [hf0]
  dsimp only
  unfold Device.faultFill at hnone ⊢
  rw [hnone]

/-- Settles O28. EVICT takes FILLING and WARMING slots with the VALID ones (log entry 49). -/
theorem skimsAreWarmedFilledAndEvicted : Obligations.SkimsAreWarmedFilledAndEvicted := by
  unfold Obligations.SkimsAreWarmedFilledAndEvicted
  refine ⟨fun s q hw hgo x hx hne => ⟨fun hop hused => ⟨_, rfl, ?_⟩, fun hop hunused => ⟨_, rfl, ?_⟩,
      fun p hop hp h0 h5 h6 hmatch hslot => ⟨fun j hj hlt => ⟨_, rfl, ?_⟩, fun hfull hevict => ⟨_, rfl, ?_⟩⟩,
      fun hop => ⟨_, rfl, ?_⟩⟩,
    fun s p cyc j r harray hidle hr hslot hmatch hrate hj hlt => ⟨_, rfl, ?_⟩,
    fun s p j cyc f harray hf hactive => ⟨_, exec_fillEnd cyc harray hf hactive, ?_⟩,
    fun s p j a k cyc f hf hwait => ⟨_, rfl, ?_⟩⟩
  · dsimp only
    rw [libRemove_used hw hgo hx hne hop hused]
    exact ⟨Device.rn_setN _ _ (by decide), rfl, fun o ho => Device.libResult_keepsRegs _ _ _ o ho, rfl, rfl⟩
  · dsimp only
    rw [libRemove_unused hw hgo hx hne hop hunused]
    have hlib : ∀ y, Store.get lib0 (Store.set lib0 s.dev.lib x (lib0 0)) y = if y = x then lib0 0 else s.dev.libAt y := fun y =>
      Store.get_set _ _ _ _
    exact ⟨Device.rn_setN _ _ (by decide), (hlib x).trans (if_pos rfl), fun y hy => (hlib y).trans (if_neg hy),
      fun o ho => Device.libResult_keepsRegs _ _ _ o ho, rfl, rfl⟩
  · have hp64 : p < 64 := hp ▸ fld_lt q.data 2 6
    have hx14 : x % 2 ^ 14 = x := Nat.mod_eq_of_lt (hx ▸ fld_lt q.data 16 14)
    obtain ⟨hstate, hskim, hfills, -⟩ := (s.dev.at q.t).beginFill_spec hp64 hlt x 1 s.dev.now.cyc
    dsimp only
    rw [libWarm_starts hw hgo hx hne hop hp ⟨h0, h5, h6⟩ hmatch hslot hj]
    refine ⟨Device.rn_setN _ _ (by decide), ?_, ?_, hfills, rfl, rfl⟩
    · exact (Device.slotState_congr (Device.libResult_slotReg _ _ _ _ _)).trans hstate
    · exact (Device.slotSkim_congr (Device.libResult_slotReg _ _ _ _ _)).trans (hskim.trans hx14)
  · dsimp only
    rw [libWarm_refused hw hgo hx hne hop hp ⟨h0, h5, h6⟩ hmatch hslot hfull hevict]
    exact ⟨Device.rn_setN _ _ (by decide), rfl, fun o ho => Device.libResult_keepsRegs _ _ _ o ho, rfl, rfl⟩
  · have hrun : libEvict q s.dev = ((s.dev.at q.t).evictAll x).libResult 1 0 := libCmd_acts hw hgo hx hne hop _
    dsimp only
    rw [hrun]
    refine ⟨Device.rn_setN _ _ (by decide), ⟨rfl, rfl⟩, fun p hp j hj hskim hpin => ?_⟩
    exact (Device.slotState_congr (Device.libResult_slotReg _ _ _ _ _)).trans
      (Device.evictAll_invalid (d := s.dev.at q.t) hp hj hskim hpin)
  · have hrun : s.dev.inArray (fillStart p cyc) = _ :=
      (if_pos harray).trans (fillStart_begins cyc hidle hr hslot hmatch hrate hj)
    obtain ⟨hstate, hskim, hfills, hreqs⟩ :=
      ({ s.dev.atCyc cyc with fillReqs := s.dev.fillReqs.erase r } : Device).beginFill_spec p.isLt hlt r.skim 0 cyc
    dsimp only
    rw [hrun]
    exact ⟨hstate, hskim, hreqs, hfills, rfl, rfl⟩
  · obtain ⟨hpipe, hslot⟩ : f.pipe = p.val ∧ f.slot = j.val := by simpa using List.find?_some hf
    obtain ⟨hstate, hskim, hfills, htmem, hcount⟩ :=
      (s.dev.atCyc cyc).fillDone_spec (f := f) (hpipe ▸ p.isLt) (hslot ▸ j.isLt)
    rw [hpipe, hslot] at hstate hskim htmem
    rw [Device.writeShares_atCyc] at htmem
    exact ⟨hstate, hskim, hfills, htmem, hcount, rfl, rfl⟩
  · obtain ⟨hinvalid, hcount, hgone⟩ := ((s.dev.at k).atCyc cyc).faultFill_spec p.isLt j.isLt (a / 8) f.skim
    dsimp only
    rw [fillFault_drops a k cyc hf hwait]
    exact ⟨hinvalid, hcount, hgone, rfl, rfl⟩

end Sys2Proof.Machine
end

section
/-! PROOFS. Tape commands, the engagement and release points, and their ends; O29 (R301, R303, R492). -/
namespace Sys2Proof.Machine

theorem Device.Speaks.tapes_eq {d e : Device} (h : d.Speaks e) : e.tapes = d.tapes := (congrArg Device.tapes h :)

/-! ### STATE and the cells of a region's tapes (R301, R310) -/

/-- The registers of a region's block in its DAD page are past the page's header. -/
theorem ofPipe_dad {r n : Nat} (hr : r < 64) (h : 0x100 ≤ n) (hn : n < 0x140) :
    OfPipe (0x70000 + n + 0x1000 * (r / 16) + 0x40 * (r % 16)) := by
  unfold OfPipe
  omega

theorem ofPipe_tapeState {r : Nat} (hr : r < 64) : OfPipe (R.dad_TAPE_STATE (r / 16) (r % 16)) :=
  ofPipe_dad (n := 0x104) hr (by omega) (by omega)

theorem dadPage_mod (r : Nat) : dadPage r % 0x1000 = 0 := by
  unfold dadPage
  omega

theorem Device.tapeState_congr {d e : Device} {r : Nat}
    (h : e.reg (R.dad_TAPE_STATE (r / 16) (r % 16)) = d.reg (R.dad_TAPE_STATE (r / 16) (r % 16))) : e.tapeState r = d.tapeState r :=
  congrArg (fld · 0 2) h

theorem Device.tape_congr {d e : Device} (h : e.tapes = d.tapes) (r : Nat) : e.tape r = d.tape r := congrArg (Store.get tape0 · r) h

theorem Device.tape_setTape (d : Device) (r : Nat) (x : Tape) : (d.setTape r x).tape r = x :=
  (Store.get_set d.tapes r r x).trans (if_pos rfl)

theorem Device.setTapeState_reg (d : Device) (r st : Nat) {o : Nat} (ho : o ≠ R.dad_TAPE_STATE (r / 16) (r % 16)) :
    (d.setTapeState r st).reg o = d.reg o :=
  (d.reg_setReg _ _ _).trans (if_neg ho)

theorem Device.tapeState_setTapeState (d : Device) (r st : Nat) : (d.setTapeState r st).tapeState r = st % 4 := by
  rw [Device.tapeState, Device.rf, Device.setTapeState, Device.setF_eq, Device.reg_setReg, if_pos rfl]
  exact fld_setFld _ _ (by omega)

/-! ### TAPE_CMD (R303) -/

section
variable {s : State} {r : Fin 64} {q : Req} {cmd : Nat} {ok : Device → Bool}
  (hw : Writes s q (R.dad_TAPE_CMD (r / 16) (r % 16)) = true) (hcmd : fld q.data 0 2 = cmd)
include hw hcmd

theorem tapeCmd_accepted (act : Device → Device) (hok : ok (s.dev.at q.t) = true) :
    tapeCmd r q cmd ok act s.dev = act (s.dev.at q.t) := by
  rw [tapeCmd, if_neg (by omega), Device.writeAt_of_writes hw]
  exact if_pos hok

theorem tapeCmd_rejected (act : Device → Device) (hok : ok (s.dev.at q.t) = false) :
    tapeCmd r q cmd ok act s.dev =
      (s.dev.at q.t).err (dadPage r) 0x0100 (wd (cmd + 256 * (s.dev.at q.t).pipeState r + 65536 * r.val)) 0 := by
  rw [tapeCmd, if_neg (by omega), Device.writeAt_of_writes hw]
  exact if_neg (by rw [hok]; exact Bool.false_ne_true)

end

/-- A command accepted in cycle `cyc` starts: STATE is ENGAGING or RELEASING, and the cells stay as they are until the point. -/
def Device.startTape (d : Device) (r st cyc : Nat) : Device := (d.setTapeState r st).setTape r { d.tape r with cmd := cyc }

theorem Device.startTape_spec (d : Device) (r cyc : Nat) {st : Nat} (hst : st < 4) :
    let e := d.startTape r st cyc
    e.tapeState r = st ∧ (e.tape r).cmd = cyc ∧ (e.tape r).on = (d.tape r).on ∧
      ∀ o, o ∉ [R.dad_TAPE_STATE (r / 16) (r % 16)] → e.reg o = d.reg o := by
  have htape : (d.startTape r st cyc).tape r = { d.tape r with cmd := cyc } := Device.tape_setTape _ _ _
  refine ⟨?_, (congrArg Tape.cmd htape :), (congrArg Tape.on htape :), fun o ho => ?_⟩
  · exact (d.tapeState_setTapeState r st).trans (Nat.mod_eq_of_lt hst)
  · exact d.setTapeState_reg r st (List.mem_singleton.not.1 ho)

/-- TAPE_STATE leaves the tapes and is counted in the page's ERR_COUNT (R54). -/
theorem Device.tapeErr_counts (d : Device) {r : Nat} (hr : r < 64) (code : Nat) (lo hi : Word) :
    let e := d.err (dadPage r) code lo hi
    e.tapeState r = d.tapeState r ∧ e.tapes = d.tapes ∧ e.reg (dadPage r + 0x34) = satAdd (d.reg (dadPage r + 0x34)) 1 := by
  have hpage := dadPage_mod r
  refine ⟨Device.tapeState_congr ?_, (d.err_speaks _ _ _ _).tapes_eq, d.err_count _ _ _ _ (notMem_faultRegs (by omega) (by omega))⟩
  exact (d.err_sparesPipes hpage _ _ _).reg _ (ofPipe_tapeState hr)

/-! ### The points (R301, R303, R492) -/

theorem Device.flushPort_tapes (d : Device) (k : Nat) : (d.flushPort k).tapes = d.tapes := by
  unfold Device.flushPort Device.countRxWait
  extract_lets n d1
  have h1 : d1.tapes = d.tapes := by
    dsimp only [d1]
    split <;> rfl
  exact h1

/-- Emptying a Lath port changes two counts of the Lath, which lie above the tape pages. -/
theorem Device.flushPort_reg (d : Device) (k : Nat) {o : Nat} (ho : o < 0xFB300) : (d.flushPort k).reg o = d.reg o := by
  unfold Device.flushPort Device.countRxWait
  extract_lets n d1 x m
  have h1 : d1.reg o = d.reg o := by
    dsimp only [d1]
    split
    · exact (d.reg_setReg _ _ _).trans (if_neg (by unfold R.lth_LP_RX_WAIT; omega))
    · rfl
  exact ((Device.reg_setReg _ _ _ _).trans (if_neg (by unfold R.lth_LP_FLUSHED; omega))).trans h1

theorem Device.flushRegion_tapes (d : Device) (r : Nat) : (d.flushRegion r).tapes = d.tapes := by
  refine foldl_keeps Device.tapes (fun e k _ => ?_) d
  split
  · exact e.flushPort_tapes k
  · rfl

theorem Device.flushRegion_reg (d : Device) (r : Nat) {o : Nat} (ho : o < 0xFB300) : (d.flushRegion r).reg o = d.reg o := by
  refine foldl_keeps (Device.reg · o) (fun e k _ => ?_) d
  split
  · exact e.flushPort_reg k ho
  · rfl

/-- The cells of region r hold the border, or let go, from cycle `cyc` on. -/
def Device.pointTape (d : Device) (r cyc : Nat) (on : Bool) : Device := d.setTape r { d.tape r with on := on, point := cyc }

theorem Device.tape_pointTape (d : Device) (r cyc : Nat) (on : Bool) :
    (d.pointTape r cyc on).tape r = { d.tape r with on := on, point := cyc } := Device.tape_setTape _ _ _

section
variable {d : Device} {r : Fin 64} {cyc : Nat} (hslot : cyc % 16 = 0) (hcmd : (d.tape r).cmd < cyc)
include hslot hcmd

theorem tapePoint_engages (hst : d.tapeState r = 1) (hoff : (d.tape r).on = false) :
    tapePoint r cyc 1 true d = ((d.atCyc cyc).pointTape r cyc true).flushRegion r :=
  (if_pos ⟨hst, ne_of_eq_of_ne hoff Bool.false_ne_true, hslot, hcmd⟩).trans (if_pos rfl)

theorem tapePoint_releases (hst : d.tapeState r = 3) (hon : (d.tape r).on = true) :
    tapePoint r cyc 3 false d = (d.atCyc cyc).pointTape r cyc false :=
  (if_pos ⟨hst, ne_of_eq_of_ne hon Bool.false_ne_true.symm, hslot, hcmd⟩).trans (if_neg Bool.false_ne_true)

end

/-! ### ENGAGED and REWORK (R303) -/

/-- Fills that stop change the slots of their pipeline, in the slot table and in the tiles. -/
theorem Device.stopFills_reg (d : Device) (p : Nat) {o : Nat} (ho : o < 0x1000000) (hslot : ∀ s < 16, o ≠ slotReg p s) :
    (d.stopFills p).reg o = d.reg o := by
  refine foldl_keeps (Device.reg · o) (fun e s hs => ?_) d
  split
  · exact (e.setSlot_reg _ _ _ _ (ne_slotSkim ho s)).trans (if_neg (hslot s (List.mem_range.1 hs)))
  · rfl

/-- Region r enters REWORK: its fills stop. -/
def Device.toRework (d : Device) (r : Nat) : Device := (d.setPipeState r 6).stopFills r

theorem Device.toRework_pipeState (d : Device) {r : Nat} (hr : r < 64) : (d.toRework r).pipeState r = 6 := by
  have hfills : (d.toRework r).reg (R.sch_PIPE_STATE r) = (d.setPipeState r 6).reg (R.sch_PIPE_STATE r) :=
    Device.stopFills_reg _ _ (by unfold R.sch_PIPE_STATE; omega) fun s hs => by unfold slotReg R.skm_SLOT R.sch_PIPE_STATE; omega
  exact (congrArg (fld · 0 3) hfills).trans (d.setPipeStateEv_state hr 6 0)

/-- The registers of the tape pages stay when a region enters REWORK. -/
theorem Device.toRework_reg (d : Device) {r : Nat} (hr : r < 64) {o : Nat} (ho : OfPipe o) (hdad : 0x70000 ≤ o) :
    (d.toRework r).reg o = d.reg o := by
  obtain ⟨-, hlow, -⟩ := id ho
  have hfills : (d.toRework r).reg o = (d.setPipeState r 6).reg o :=
    Device.stopFills_reg _ _ (by omega) fun s hs => by unfold slotReg R.skm_SLOT; omega
  exact hfills.trans (d.setPipeStateEv_reg hr 6 0 ho (by unfold R.sch_PIPE_STATE; omega))

/-- The tapes of region r read ENGAGED, `n` stage cycles after the command. -/
def Device.engagedTape (d : Device) (r n : Nat) : Device := (d.setTapeState r 2).setN (R.dad_LAST_ENGAGE_CYC (r / 16) (r % 16)) n

theorem Device.engagedTape_tapeState (d : Device) (r n : Nat) : (d.engagedTape r n).tapeState r = 2 :=
  (Device.tapeState_congr ((Device.reg_setReg _ _ _ _).trans (if_neg (by unfold R.dad_TAPE_STATE R.dad_LAST_ENGAGE_CYC; omega)))).trans
    (d.tapeState_setTapeState r 2)

theorem Device.engagedTape_lastEngage (d : Device) (r : Nat) {n : Nat} (hn : n < 2 ^ 32) :
    (d.engagedTape r n).rn (R.dad_LAST_ENGAGE_CYC (r / 16) (r % 16)) = n :=
  Device.rn_setN _ _ hn

theorem Device.engagedTape_pipeWord (d : Device) (r n : Nat) :
    (d.engagedTape r n).reg (R.sch_PIPE_STATE r) = d.reg (R.sch_PIPE_STATE r) :=
  ((Device.reg_setReg _ _ _ _).trans (if_neg (by unfold R.sch_PIPE_STATE R.dad_LAST_ENGAGE_CYC; omega))).trans
    (d.setTapeState_reg r 2 (by unfold R.sch_PIPE_STATE R.dad_TAPE_STATE; omega))

/-- What LAST_ENGAGE_CYC holds of the stage cycles from the command to ENGAGED (R310). -/
def Tape.engageCycles (x : Tape) : Nat := (x.point + 16 - x.cmd) % 64

section
variable {d : Device} {r : Fin 64} {cyc : Nat} (hdue : (d.tape r).point + 16 ≤ cyc)
include hdue

/-- The end of an engagement of a DRAINED pipeline that is not in reset (R303). -/
theorem tapeEngaged_ends (k : Nat) (hst : d.tapeState r = 1) (hon : (d.tape r).on = true) (hdrained : d.pipeState r = 5)
    (hreset : d.pipeResetting r = false) :
    tapeEngaged r cyc k d =
      ((((d.at k).atCyc cyc).engagedTape r (d.tape r).engageCycles).toRework r).evtBit (dadPage r) (16 + r % 16) := by
  have hword := ((d.at k).atCyc cyc).engagedTape_pipeWord r (d.tape r).engageCycles
  have hdrained1 := (congrArg (fld · 0 3) hword).trans hdrained
  have hreset1 : (((d.at k).atCyc cyc).engagedTape r (d.tape r).engageCycles).pipeResetting r = false :=
    (congrArg (fun w => decide (fld w 9 1 = 1)) hword).trans hreset
  refine (if_pos ⟨hst, hon, hdue⟩).trans (congrArg (Device.evtBit · (dadPage r) (16 + r % 16)) ?_)
  exact if_pos ⟨hdrained1, Bool.not_eq_true' _ ▸ hreset1⟩

theorem tapeReleased_ends (k : Nat) (hst : d.tapeState r = 3) (hoff : (d.tape r).on = false) :
    tapeReleased r cyc k d = (((d.at k).atCyc cyc).setTapeState r 0).evtBit (dadPage r) (16 + r % 16) :=
  if_pos ⟨hst, Bool.not_eq_true' _ ▸ hoff, hdue⟩

end

/-- The end of an engagement: the tapes are ENGAGED after `n` cycles, and the pipeline is in REWORK. -/
theorem Device.engagement_spec (d : Device) {r n : Nat} (hr : r < 64) (hn : n < 2 ^ 32) (i : Nat) :
    let e := ((d.engagedTape r n).toRework r).evtBit (dadPage r) i
    e.tapeState r = 2 ∧ e.pipeState r = 6 ∧ e.rn (R.dad_LAST_ENGAGE_CYC (r / 16) (r % 16)) = n := by
  intro e
  have hevt : ((d.engagedTape r n).toRework r).SparesPipes e := Device.evtBit_sparesPipes _ (dadPage_mod r) i
  have hdad : ∀ {o}, OfPipe o → 0x70000 ≤ o → e.reg o = (d.engagedTape r n).reg o := fun ho hle =>
    (hevt.reg _ ho).trans ((d.engagedTape r n).toRework_reg hr ho hle)
  refine ⟨?_, ?_, ?_⟩
  · exact (Device.tapeState_congr (hdad (ofPipe_tapeState hr) (by unfold R.dad_TAPE_STATE; omega))).trans (d.engagedTape_tapeState r n)
  · exact (congrArg (fld · 0 3) (hevt.reg _ (ofPipe_sch (n := 0x100) hr (by omega) (by omega)))).trans
      ((d.engagedTape r n).toRework_pipeState hr)
  · exact (congrArg BitVec.toNat (hdad (ofPipe_dad (n := 0x11C) hr (by omega) (by omega))
      (by omega))).trans (d.engagedTape_lastEngage r hn)

/-- The end of a release: STATE is RELEASED, and the page has its event bit. -/
theorem Device.release_spec (d : Device) {r : Nat} (hr : r < 64) :
    let e := (d.setTapeState r 0).evtBit (dadPage r) (16 + r % 16)
    e.tapeState r = 0 ∧ e.rf (dadPage r + 0x20) (16 + r % 16) 1 = 1 ∧
      ∀ o, o ∉ [R.dad_TAPE_STATE (r / 16) (r % 16), dadPage r + 0x20, R.hif_MSIX_DROPPED] → e.reg o = d.reg o := by
  have hpage := dadPage_mod r
  refine ⟨?_, ?_, fun o ho => ?_⟩
  · exact (Device.tapeState_congr ((Device.evtBit_sparesPipes _ hpage _).reg _ (ofPipe_tapeState hr))).trans (d.tapeState_setTapeState r 0)
  · rw [Device.rf, Device.evtBit_reg _ _ _ _ (ne_msixDropped (by omega)), if_pos rfl]
    exact fld_or_bit _ (by omega)
  · simp only [List.mem_cons, List.not_mem_nil, or_false, not_or] at ho
    obtain ⟨hstate, hraw, hmsix⟩ := ho
    rw [Device.evtBit_reg _ _ _ _ hmsix, if_neg hraw, d.setTapeState_reg r 0 hstate]

/-! ### O29 -/

/-- Settles O29: the commands, the points and the ends of an engagement and of a release (R301, R303). -/
theorem tapesEngageAndRelease : Obligations.TapesEngageAndRelease := by
  unfold Obligations.TapesEngageAndRelease
  refine ⟨fun s r q cyc hw => ⟨fun hcmd hdrained hst => ⟨_, rfl, ?_⟩, fun hcmd hloaded hst => ⟨_, rfl, ?_⟩, fun hcmd hnot => ⟨_, rfl, ?_⟩⟩,
    fun s r cyc harray hslot hlater => ⟨fun hst hoff => ⟨_, rfl, ?_⟩, fun hst hon => ⟨_, rfl, ?_⟩⟩,
    fun s r cyc k harray hdue => ⟨fun hst hon hdrained hreset => ⟨_, rfl, ?_⟩, fun hst hoff => ⟨_, rfl, ?_⟩⟩⟩
  · have hrun : tapeEngage r q cyc s.dev = ((s.dev.atCyc cyc).at q.t).startTape r 1 cyc :=
      tapeCmd_accepted hw hcmd _ (Bool.and_eq_true_iff.2 ⟨beq_iff_eq.2 hdrained, beq_iff_eq.2 hst⟩)
    obtain ⟨hstate, hcyc, hon, hregs⟩ := ((s.dev.atCyc cyc).at q.t).startTape_spec r cyc (st := 1) (by omega)
    dsimp only
    rw [hrun]
    exact ⟨hstate, hcyc, hon, hregs, rfl, rfl⟩
  · have hrun : tapeRelease r q cyc s.dev = ((s.dev.atCyc cyc).at q.t).startTape r 3 cyc :=
      tapeCmd_accepted hw hcmd _ (Bool.and_eq_true_iff.2 ⟨beq_iff_eq.2 hloaded, beq_iff_eq.2 hst⟩)
    obtain ⟨hstate, hcyc, hon, hregs⟩ := ((s.dev.atCyc cyc).at q.t).startTape_spec r cyc (st := 3) (by omega)
    dsimp only
    rw [hrun]
    exact ⟨hstate, hcyc, hon, hregs, rfl, rfl⟩
  · have hrun : tapeEngage r q cyc s.dev = _ :=
      tapeCmd_rejected hw hcmd _ (Bool.and_eq_false_iff.2 (hnot.imp beq_eq_false_iff_ne.2 beq_eq_false_iff_ne.2))
    dsimp only
    rw [hrun]
    obtain ⟨hstate, htapes, hcount⟩ := ((s.dev.atCyc cyc).at q.t).tapeErr_counts r.isLt 0x0100 _ 0
    exact ⟨hstate, htapes, hcount, rfl, rfl⟩
  · have hrun : s.dev.inArray (tapePoint r cyc 1 true) = _ := (if_pos harray).trans (tapePoint_engages hslot hlater hst hoff)
    have htape := (Device.tape_congr (Device.flushRegion_tapes _ r) r).trans ((s.dev.atCyc cyc).tape_pointTape r cyc true)
    dsimp only
    rw [hrun]
    refine ⟨congrArg Tape.on htape, congrArg Tape.point htape, ?_, rfl, rfl⟩
    exact (Device.tapeState_congr (Device.flushRegion_reg _ r (by unfold R.dad_TAPE_STATE; omega))).trans hst
  · have hrun : s.dev.inArray (tapePoint r cyc 3 false) = _ := (if_pos harray).trans (tapePoint_releases hslot hlater hst hon)
    have htape := (s.dev.atCyc cyc).tape_pointTape r cyc false
    dsimp only
    rw [hrun]
    exact ⟨congrArg Tape.on htape, congrArg Tape.point htape, rfl, rfl, rfl⟩
  · have hrun : s.dev.inArray (tapeEngaged r cyc k) = _ := (if_pos harray).trans (tapeEngaged_ends hdue k hst hon hdrained hreset)
    have hcycles : (s.dev.tape r).engageCycles < 2 ^ 32 := by
      unfold Tape.engageCycles
      omega
    obtain ⟨hstate, hrework, hlast⟩ := ((s.dev.at k).atCyc cyc).engagement_spec r.isLt hcycles (16 + r % 16)
    dsimp only
    rw [hrun]
    exact ⟨hstate, hrework, hlast, rfl, rfl⟩
  · have hrun : s.dev.inArray (tapeReleased r cyc k) = _ := (if_pos harray).trans (tapeReleased_ends hdue k hst hoff)
    obtain ⟨hstate, hraw, hregs⟩ := ((s.dev.at k).atCyc cyc).release_spec r.isLt
    dsimp only
    rw [hrun]
    exact ⟨hstate, hraw, hregs, rfl, rfl⟩

end Sys2Proof.Machine
end

section
/-! PROOFS. Function level resets, power states, Bus Master Enable, translations and the link; O30 (R315, R324 to R328, R340). -/
namespace Sys2Proof.Machine

/-! ### Functions (R322 to R327) -/

@[simp] theorem Device.fn_setFn (d : Device) (f k : Nat) (x : Fn) : (d.setFn f x).fn k = if k = f then x else d.fn k := by
  unfold Device.fn Device.setFn
  exact Store.get_set d.hif.fns f k x

/-- A function set keeps the others. -/
theorem Device.fn_setFn_spec (d : Device) (f : Nat) (x : Fn) :
    (d.setFn f x).fn f = x ∧ ∀ k, k ≠ f → (d.setFn f x).fn k = d.fn k := by
  simp +contextual

/-- Beside the MSI-X entries, the functions, the SR-IOV settings and all else of the host interface stand. -/
def Device.KeepsFns (d e : Device) : Prop := { e.hif with vecs := d.hif.vecs } = d.hif

theorem Device.KeepsFns.of_eq {d e : Device} (h : e.hif = d.hif) : d.KeepsFns e := by
  unfold Device.KeepsFns
  rw [h]

theorem Device.KeepsFns.trans {d e f : Device} (h : d.KeepsFns e) (g : e.KeepsFns f) : d.KeepsFns f := by
  unfold Device.KeepsFns at *
  rw [← h, ← g]

theorem Device.Speaks.keepsFns {d e : Device} (h : d.Speaks e) : d.KeepsFns e := (congrArg Device.hif h :)

theorem Device.KeepsFns.fn_eq {d e : Device} (h : d.KeepsFns e) (f : Nat) : e.fn f = d.fn f :=
  (congrArg (fun x : Hif => Store.get fn0 x.fns f) (show { e.hif with vecs := d.hif.vecs } = d.hif from h) :)

/-! ### Jobs that a reset ends (R324, R353, R383) -/

/-- The host interface stands, and so does every queue with no FENCE waiting. -/
structure Device.EndsJobs (d e : Device) : Prop where
  hif : e.hif = d.hif
  queue : ∀ g, (d.queue g).fence = none → e.queue g = d.queue g

namespace Device.EndsJobs
variable {d e f : Device}

theorem of_queues (hif : e.hif = d.hif) (h : e.queues = d.queues) : d.EndsJobs e :=
  ⟨hif, fun g _ => congrArg (Store.get queue0 · g) h⟩

theorem refl (d : Device) : d.EndsJobs d := of_queues rfl rfl

theorem trans (h : d.EndsJobs e) (g : e.EndsJobs f) : d.EndsJobs f :=
  ⟨g.hif.trans h.hif, fun x hx => (g.queue x ((congrArg Queue.fence (h.queue x hx)).trans hx)).trans (h.queue x hx)⟩

theorem ite {b : Prop} [Decidable b] (h : d.EndsJobs e) (g : d.EndsJobs f) : d.EndsJobs (if b then e else f) := by
  split
  · exact h
  · exact g

/-- What holds of one step of a fold holds of the fold. -/
theorem foldl {α : Type} {k : Device → α → Device} (l : List α) (h : ∀ d : Device, ∀ a ∈ l, d.EndsJobs (k d a)) (d : Device) :
    d.EndsJobs (l.foldl k d) :=
  List.foldlRecOn _ _ (motive := fun e => d.EndsJobs e) (refl d) fun e he a ha => he.trans (h e a ha)

end Device.EndsJobs

theorem Device.cancelJobEntries_endsJobs (d : Device) (q : Nat → Bool) : d.EndsJobs (d.cancelJobEntries q) :=
  .foldl (k := fun (d : Device) (e : EvEntry) => d.cancelEntry e.num) _ (fun _ _ _ => .of_queues rfl rfl) d

theorem Device.hostWrite_endsJobs (d : Device) (f a : Nat) (b : List Byte) : d.EndsJobs (d.hostWrite f a b) := by
  unfold Device.hostWrite
  exact .ite (.refl d) (.ite (.of_queues rfl rfl) (.of_queues rfl rfl))

theorem Device.countOut_endsJobs (d : Device) (j : Job) (n : Nat) : d.EndsJobs (d.countOut j n) := by
  unfold Device.countOut
  extract_lets d1
  have h1 : d.EndsJobs d1 := .ite (.of_queues rfl rfl) (.refl d)
  exact h1.trans (.of_queues rfl rfl)

theorem Device.writeHeader_endsJobs (d : Device) (j : Job) (status plen : Nat) : d.EndsJobs (d.writeHeader j status plen) := by
  unfold Device.writeHeader
  split
  · exact (d.hostWrite_endsJobs _ _ _).trans (Device.countOut_endsJobs _ _ _)
  · exact .refl d

theorem Device.finishRaw_endsJobs (d : Device) (id status plen : Nat) (hdr : Bool) : d.EndsJobs (d.finishRaw id status plen hdr) := by
  unfold Device.finishRaw
  split
  · exact .refl d
  · next j _ =>
    extract_lets d1 d2
    have h1 : d.EndsJobs d1 := d.cancelJobEntries_endsJobs _
    have h2 : d.EndsJobs d2 := .ite (h1.trans (d1.writeHeader_endsJobs j status plen)) h1
    exact .ite (.refl d) (.ite (h2.trans (.of_queues rfl rfl)) (h2.trans (.of_queues rfl rfl)))

/-- A FENCE that completes leaves its own queue; the others stand (R349). -/
theorem Device.fenceCheck_endsJobs (d : Device) (g : Nat) : d.EndsJobs (d.fenceCheck g) := by
  unfold Device.fenceCheck
  extract_lets x
  split
  · exact .refl d
  · next id hid =>
    have hraw := d.finishRaw_endsJobs id 0 0 true
    refine .ite ⟨hraw.hif, fun k hk => ?_⟩ (.refl d)
    have hne : k ≠ g := by
      rintro rfl
      exact absurd (hk.symm.trans hid) (by simp)
    unfold Device.queue
    rw [Store.get_set, if_neg hne]
    exact hraw.queue k hk

theorem Device.finish_endsJobs (d : Device) (id status plen : Nat) (hdr : Bool) : d.EndsJobs (d.finish id status plen hdr) := by
  unfold Device.finish
  split
  · exact .refl d
  · exact (d.finishRaw_endsJobs _ _ _ _).trans (Device.fenceCheck_endsJobs _ _)

theorem Device.abandonJob_endsJobs (d : Device) (id status : Nat) (hdr : Bool) : d.EndsJobs (d.abandonJob id status hdr) := by
  unfold Device.abandonJob
  split
  · exact .refl d
  · next j _ =>
    have hgone : d.EndsJobs ((d.cancelJobEntries (· == id)).unplaceJob id) := (d.cancelJobEntries_endsJobs _).trans (.of_queues rfl rfl)
    refine .ite (.ite (.of_queues rfl rfl) (.refl d)) (.ite ?_ (d.finish_endsJobs _ _ _ _))
    exact (Device.EndsJobs.ite (hgone.trans (Device.writeHeader_endsJobs _ _ _ _)) hgone).trans (.of_queues rfl rfl)

/-! ### What an FLR clears of a tenant (R324, R576) -/

theorem Device.failReader_keepsFns (d : Device) (f : Nat) : d.KeepsFns (d.failReader f) := by
  unfold Device.failReader
  split
  · exact (Device.KeepsFns.of_eq (d := d) rfl).trans (Device.loadFailed_speaks d.fresh.2 _ _).keepsFns
  · exact .of_eq rfl

theorem Device.zeroRegs_units (d : Device) (l : List Nat) :
    (d.zeroRegs l).jobs = d.jobs ∧ (d.zeroRegs l).queues = d.queues ∧ (d.zeroRegs l).hif = d.hif :=
  ⟨(congrArg Device.jobs (d.zeroRegs_frame l) :), (congrArg Device.queues (d.zeroRegs_frame l) :),
    (congrArg Device.hif (d.zeroRegs_frame l) :)⟩

/-- Cleared registers of the queue state table read their reset values (R44, R335). -/
theorem Device.clearRegs_reg (d : Device) {p : Nat → Bool} {o : Nat} (ho : 0x800000 ≤ o) (ho' : o < 0xC00000) (hp : p o = true) :
    (d.clearRegs p).reg o = resetOf o := by
  unfold Device.clearRegs Device.reg
  rw [Store.get_wipe, if_pos]
  simp [hp, ho, ho']

/-- The queues of a tenant and its queue page are at reset, and of its jobs only those that a reset had left behind are in the tracker. -/
structure Device.QueuesCleared (d : Device) (t : Nat) : Prop where
  jobs : ∀ j ∈ d.jobs, tenantOf j.q = t → j.orphan = true
  queue : ∀ g, tenantOf g = t → d.queue g = queue0 g
  reg : ∀ o, 0x800000 + 0x1000 * t ≤ o → o < 0x801000 + 0x1000 * t → d.reg o = resetOf o

theorem Device.clearTenantQueues_hif (d : Device) (t : Nat) : (d.clearTenantQueues t).hif = d.hif := by
  unfold Device.clearTenantQueues
  extract_lets mine d2 d3 d4 d5 trace d6
  have h3 : d3.hif = d.hif := (Device.EndsJobs.foldl _ (fun d j _ => d.abandonJob_endsJobs j.id 0x3F false) d2).hif
  clear_value d3
  split <;> exact h3

theorem Device.clearTenantQueues_clears (d : Device) {t : Nat} (ht : t < 1024) : (d.clearTenantQueues t).QueuesCleared t := by
  unfold Device.clearTenantQueues
  extract_lets mine d2 d3 d4 d5 trace d6
  have hends : d2.EndsJobs d3 := .foldl _ (fun d j _ => d.abandonJob_endsJobs j.id 0x3F false) d2
  have hwiped : ∀ g, tenantOf g = t → d2.queue g = queue0 g := fun g hg => by
    unfold tenantOf at hg
    exact (Store.get_wipe (fun k => k / 64 == t) d.queues g).trans (if_pos (beq_iff_eq.2 hg))
  have h6 : d6.QueuesCleared t := by
    refine ⟨fun j hj htenant => ?_, fun g hg => (hends.queue g (by rw [hwiped g hg]; rfl)).trans (hwiped g hg), fun o hlo hhi => ?_⟩
    · have hkept := (List.mem_filter.1 hj).2
      simpa [mine, htenant] using hkept
    · have hpage : (o - 0x800000) / 0x1000 = t := by omega
      have hread : d5.reg o = resetOf o := d4.clearRegs_reg (by omega) (by omega)
        (Bool.or_eq_true_iff.2 (.inl (Bool.and_eq_true_iff.2 ⟨decide_eq_true ⟨by omega, by omega⟩, beq_iff_eq.2 hpage⟩)))
      exact hread
  clear_value d6
  split
  · exact h6
  · exact ⟨h6.jobs, h6.queue, fun o hlo hhi =>
      ((Device.reg_setReg _ _ _ _).trans (if_neg (by omega))).trans (h6.reg o hlo hhi)⟩

/-- What an FLR clears of a TEN page leaves jobs, queues and functions (R576). -/
theorem Device.clearTenantPage_units (d : Device) (t : Nat) :
    (d.clearTenantPage t).jobs = d.jobs ∧ (d.clearTenantPage t).queues = d.queues ∧ (d.clearTenantPage t).hif = d.hif := by
  unfold Device.clearTenantPage
  extract_lets pg d1 d2
  have h1 : d1.jobs = d.jobs ∧ d1.queues = d.queues ∧ d1.hif = d.hif := d.zeroRegs_units _
  clear_value d1
  split
  · exact h1
  · exact h1

/-- It leaves the queue state table. -/
theorem Device.clearTenantPage_reg (d : Device) {t : Nat} (ht : t < 1024) {o : Nat} (ho : 0x800000 ≤ o) :
    (d.clearTenantPage t).reg o = d.reg o := by
  unfold Device.clearTenantPage
  extract_lets pg d1 d2
  have h1 : d1.reg o = d.reg o := by
    refine (d.zeroRegs_reg _ o).trans (if_neg ?_)
    simp only [List.mem_cons, List.not_mem_nil, or_false, R.ten_SKL_SRC_LO, R.ten_SKL_SRC_HI, R.ten_SKL_STATUS, R.ten_SKL_LEN]
    omega
  clear_value d1
  split
  · exact ((Device.reg_setReg _ _ _ _).trans (if_neg (by omega))).trans h1
  · exact h1

/-- An FLR on a tenant leaves the functions (R324, R576). -/
theorem Device.resetTenant_keepsFns (d : Device) (t : Nat) : d.KeepsFns (d.resetTenant t) := by
  obtain ⟨-, -, hhif⟩ := ((d.failReader (2 + t)).clearTenantQueues t).clearTenantPage_units t
  exact (d.failReader_keepsFns _).trans (.of_eq (hhif.trans (Device.clearTenantQueues_hif _ _)))

theorem Device.resetTenant_clears (d : Device) {t : Nat} (ht : t < 1024) : (d.resetTenant t).QueuesCleared t := by
  have hcleared := (d.failReader (2 + t)).clearTenantQueues_clears ht
  obtain ⟨hjobs, hqueues, -⟩ := ((d.failReader (2 + t)).clearTenantQueues t).clearTenantPage_units t
  refine ⟨fun j hj => hcleared.jobs j (hjobs ▸ hj), fun g hg => ?_, fun o hlo hhi => ?_⟩
  · exact (congrArg (Store.get queue0 · g) hqueues).trans (hcleared.queue g hg)
  · exact (Device.clearTenantPage_reg _ ht (by omega)).trans (hcleared.reg o hlo hhi)

/-! ### FLRs of VFs (R315, R324) -/

theorem Device.fn_clearFn (d : Device) (f k : Nat) (busy : Bool) : (d.clearFn f busy).fn k =
    if k = f then { fn0 f with flr := busy, flrTick := if busy then d.now.tick else 0, d3 := (d.fn f).d3 && f < 2 } else d.fn k :=
  d.fn_setFn f k _

/-- An FLR puts its own function under FLR, and leaves the others. -/
theorem Device.startVfFlr_fn (d : Device) (t : Nat) :
    ((d.startVfFlr t).fn (2 + t)).flr = true ∧ ∀ f, f ≠ 2 + t → (d.startVfFlr t).fn f = d.fn f := by
  have hclear : ((d.clearFn (2 + t) true).fn (2 + t)).flr = true ∧ ∀ f, f ≠ 2 + t → (d.clearFn (2 + t) true).fn f = d.fn f :=
    ⟨by rw [Device.fn_clearFn, if_pos rfl], fun f hf => by rw [Device.fn_clearFn, if_neg hf]⟩
  unfold Device.startVfFlr
  split
  · next h => exact ⟨h, fun _ _ => rfl⟩
  · split
    · exact hclear
    · have hfn := fun f => ((d.clearFn (2 + t) true).resetTenant_keepsFns t).fn_eq f
      exact ⟨(congrArg Fn.flr (hfn _)).trans hclear.1, fun f hf => (hfn f).trans (hclear.2 f hf)⟩

/-- A function under FLR stays so while FLRs of VFs are started. -/
theorem Device.startVfFlr_flr {d : Device} {f : Nat} (t : Nat) (h : (d.fn f).flr = true) : ((d.startVfFlr t).fn f).flr = true := by
  obtain ⟨hself, hothers⟩ := d.startVfFlr_fn t
  by_cases hf : f = 2 + t
  · rw [hf]
    exact hself
  · rw [hothers f hf]
    exact h

theorem Device.foldl_startVfFlr_flr (l : List Nat) (d : Device) {n : Nat} (hn : n ∈ l) :
    ((l.foldl Device.startVfFlr d).fn (2 + n)).flr = true := by
  induction l generalizing d with
  | nil => exact absurd hn List.not_mem_nil
  | cons x l ih =>
    rw [List.foldl_cons]
    rcases List.mem_cons.1 hn with rfl | hn
    · exact List.foldlRecOn _ _ (motive := fun e : Device => (e.fn (2 + n)).flr = true) (d.startVfFlr_fn n).1
        fun e he t _ => Device.startVfFlr_flr t he
    · exact ih _ hn

/-- FLRs of VFs leave the physical functions. -/
theorem Device.foldl_startVfFlr_pf (l : List Nat) (d : Device) {f : Nat} (hf : f < 2) : (l.foldl Device.startVfFlr d).fn f = d.fn f :=
  foldl_keeps (fun e : Device => e.fn f) (fun (e : Device) t _ => (e.startVfFlr_fn t).2 f (by omega)) d

/-- Disabling the VFs starts an FLR of each and leaves the physical functions (R315, R325). -/
theorem Device.disableVfs_spec (d : Device) : d.disableVfs.hif.vfEnable = false ∧ (∀ f < 2, d.disableVfs.fn f = d.fn f) ∧
    (d.hif.vfEnable = true → ∀ n < d.hif.numVfs, (d.disableVfs.fn (2 + n)).flr = true) := by
  unfold Device.disableVfs
  split
  · exact ⟨rfl, fun f hf => Device.foldl_startVfFlr_pf _ d hf, fun _ n hn => Device.foldl_startVfFlr_flr _ d (List.mem_range.2 hn)⟩
  · next h => exact ⟨Bool.eq_false_iff.2 h, fun _ _ => rfl, fun hen => absurd hen h⟩

/-- VF_FLR of an enabled VF with no FLR in progress, outside a device reset: the FLR is in progress and the tenant is reset (R324). -/
theorem vfFlr_starts {d : Device} {n : Fin 1024} (k : Nat) (hport : d.portExists (.tenant n) = true) (hidle : (d.fn (2 + n)).flr = false)
    (hrun : d.boot.devReset = none) : ((vfFlr n k d).fn (2 + n)).flr = true ∧ (vfFlr n k d).QueuesCleared n := by
  have hstart : vfFlr n k d = (d.at k).startVfFlr n := if_pos hport
  have hreset : (d.at k).startVfFlr n = ((d.at k).clearFn (2 + n) true).resetTenant n := by
    have hidle' : ¬((d.at k).fn (2 + n)).flr = true := Bool.eq_false_iff.1 hidle
    have hrun' : ¬(d.at k).boot.devReset.isSome = true := by
      rw [show (d.at k).boot.devReset = none from hrun]
      exact Bool.false_ne_true
    rw [Device.startVfFlr, if_neg hidle', if_neg hrun']
  rw [hstart]
  exact ⟨((d.at k).startVfFlr_fn n).1, hreset ▸ Device.resetTenant_clears _ n.isLt⟩

/-! ### FLRs of PFs (R325) -/

/-- PF_FLR with none in progress: the FLR is in progress and MSI-X is disabled as at reset (log entry 59); of PF1, the VFs are disabled and
their settings at reset. -/
theorem pfFlr_starts {d : Device} {p : Fin 2} (k : Nat) (hidle : (d.fn p).flr = false) :
    ((pfFlr p k d).fn p).flr = true ∧ ((pfFlr p k d).fn p).msixEn = (fn0 p).msixEn ∧
      (p = 1 → (pfFlr p k d).hif.vfEnable = false ∧ (pfFlr p k d).hif.numVfs = 0 ∧ (pfFlr p k d).reg R.prt_TEN_WINDOW = 0) := by
  have hidle' : ¬((d.at k).fn p).flr = true := Bool.eq_false_iff.1 hidle
  have hfn := ((d.at k).clearFn p true).failReader_keepsFns p |>.fn_eq p
  rw [Device.fn_clearFn, if_pos rfl] at hfn
  have hflr : ((((d.at k).clearFn p true).failReader p).fn p).flr = true := by rw [hfn]
  have hmsix : ((((d.at k).clearFn p true).failReader p).fn p).msixEn = (fn0 p).msixEn := by rw [hfn]
  clear hfn
  unfold pfFlr
  dsimp only
  rw [if_neg hidle']
  generalize ((d.at k).clearFn p true).failReader p = e at hflr hmsix
  split
  · next hp => exact ⟨hflr, hmsix, fun h => absurd hp (by rw [h]; decide)⟩
  · obtain ⟨hen, hpf, -⟩ := e.disableVfs_spec
    have hsame := hpf p p.isLt
    exact ⟨(congrArg Fn.flr hsame).trans hflr, (congrArg Fn.msixEn hsame).trans hmsix,
      fun _ => ⟨hen, rfl, (Device.reg_setReg _ _ _ _).trans (if_pos rfl)⟩⟩

/-! ### The link (R340) -/

theorem pcieLinkDown_spec {d : Device} (k : Nat) (hup : d.hif.linkUp = true) :
    (pcieLinkDown k d).hif.linkUp = false ∧ (pcieLinkDown k d).reg R.hif_LINK_STATUS = 0 ∧
      (pcieLinkDown k d).reg R.hif_LINK_DOWN_COUNT = satAdd (d.reg R.hif_LINK_DOWN_COUNT) 1 := by
  have hup' : ¬(!(d.at k).hif.linkUp) = true := by
    rw [show (d.at k).hif.linkUp = true from hup]
    decide
  unfold pcieLinkDown
  dsimp only
  rw [if_neg hup']
  refine ⟨(congrArg (·.hif.linkUp) (Device.evtBit_speaks _ 0x4000 16) :), ?_, ?_⟩
  · rw [Device.evtBit_reg _ _ _ _ (by decide), if_neg (by decide)]
    exact ((Device.reg_setReg _ _ _ _).trans (if_neg (by decide))).trans ((Device.reg_setReg _ _ _ _).trans (if_pos rfl))
  · rw [Device.evtBit_reg _ _ _ _ (by decide), if_neg (by decide)]
    exact ((Device.reg_setReg _ _ _ _).trans (if_pos rfl)).trans
      (congrArg (satAdd · 1) ((Device.reg_setReg _ _ _ _).trans (if_neg (by decide))))

/-! ### O30 -/

/-- Settles O30. An FLR of a PF disables its MSI-X as at reset (log entry 59); one of a VF clears its function as well (log entry 64). -/
theorem functionResetsClearAndEnd : Obligations.FunctionResetsClearAndEnd := by
  unfold Obligations.FunctionResetsClearAndEnd
  refine ⟨fun s n k hport hidle hrun => ⟨_, rfl, ?_⟩, fun s n k hflr => ⟨_, rfl, ?_⟩, fun s k hen => ⟨_, rfl, ?_⟩,
    fun s p k hidle => ⟨_, rfl, ?_⟩, fun s p k hflr => ⟨_, rfl, ?_⟩, fun s p k b => ?_, fun s f k => ⟨_, rfl, ?_⟩,
    fun s f lo n k => ⟨_, rfl, ?_⟩, fun s k hup => ⟨_, rfl, ?_⟩⟩
  · obtain ⟨hflr, hcleared⟩ := vfFlr_starts k hport hidle hrun
    exact ⟨hflr, hcleared.jobs, hcleared.queue, hcleared.reg, rfl, rfl⟩
  · rw [show vfFlrDone n k s.dev = _ from if_pos hflr]
    obtain ⟨hself, hothers⟩ := (s.dev.at k).fn_setFn_spec (2 + n) { s.dev.fn (2 + n) with flr := false, flrTick := 0 }
    exact ⟨congrArg Fn.flr hself, hothers, rfl, rfl, rfl⟩
  · obtain ⟨hoff, -, hflr⟩ := (s.dev.at k).disableVfs_spec
    exact ⟨hoff, hflr hen, rfl, rfl⟩
  · obtain ⟨hflr, hmsix, hvfs⟩ := pfFlr_starts k hidle
    exact ⟨hflr, hmsix, ⟨rfl, rfl⟩, hvfs⟩
  · rw [show pfFlrDone p k s.dev = _ from if_pos hflr]
    obtain ⟨hself, hothers⟩ := (s.dev.at k).fn_setFn_spec p { s.dev.fn p with flr := false, flrTick := 0 }
    exact ⟨congrArg Fn.flr hself, hothers, rfl, rfl, rfl⟩
  · obtain ⟨hself, hothers⟩ := (s.dev.at k).fn_setFn_spec p { s.dev.fn p with d3 := b }
    cases b with
    | false => exact ⟨_, rfl, hself, hothers, rfl, rfl, rfl⟩
    | true => exact ⟨_, rfl, hself, hothers, rfl, rfl, rfl⟩
  · obtain ⟨hself, hothers⟩ := (s.dev.at k).fn_setFn_spec f { s.dev.fn f with bme := false }
    exact ⟨hself, hothers, rfl, rfl, rfl⟩
  · refine ⟨fun e => ?_, (Device.reg_setReg _ _ _ _).trans (if_pos rfl), keepsRegs_setReg s k _ _, rfl, rfl⟩
    refine List.mem_filter.trans (and_congr_right fun _ => ?_)
    simp only [Bool.not_eq_true', Bool.and_eq_false_iff, beq_eq_false_iff_ne, decide_eq_false_iff_not]
    tauto
  · obtain ⟨hdown, hstatus, hcount⟩ := pcieLinkDown_spec k hup
    exact ⟨hdown, hstatus, hcount, rfl, rfl⟩

end Sys2Proof.Machine
end

section
/-! PROOFS. MSI-X masks, the port switches and a class of pages narrowed; O31 (R49, R322, R336, R337). -/
namespace Sys2Proof.Machine

/-! ### Vectors (R322) -/

theorem Device.vec_setVec_same (d : Device) (f v : Nat) (x : Vec) : (d.setVec f v x).vec f v = x := by
  unfold Device.vec Device.setVec
  rw [Store.get_set, if_pos rfl]

/-- A write to the MSI-X table of a function that exists, in D0 and not in FLR, acts where the vector is one of the table's (R320). -/
theorem Device.msixAccess_acts {d : Device} {f : Fin 1026} {v : Nat} (w : Nat) {write : Bool} (act : Device → Device)
    (hport : d.portExists (fnPort f) = true) (hawake : d.portD3 (fnPort f) = false) (hv : v < msixSize f) (hflr : (d.fn f).flr = false) :
    d.msixAccess f v w write act = act d := by
  simp [Device.msixAccess, hport, hawake, hv, hflr]

/-- The Mask bit of a vector with no message pending is cleared, and nothing else happens. -/
theorem Device.msixRelease_idle {d : Device} {f v : Nat} (h : (d.vec f v).pend = false) : d.msixRelease f v = d := by
  simp [Device.msixRelease, h]

/-- A pending message that no mask holds leaves the PBA and is sent. -/
theorem Device.msixRelease_sends {d : Device} {f v : Nat} (hpend : (d.vec f v).pend = true) (hmask : (d.vec f v).mask = false)
    (hf : (d.fn f).fmask = false) (hen : (d.fn f).msixEn = true) (hreq : d.mayRequest f = true) :
    d.msixRelease f v = (d.setVec f v { d.vec f v with pend := false }).emit (.msix f v) := by
  unfold Device.msixRelease
  rw [if_pos (by simp [hpend, hmask, hf])]
  exact Device.msix_sends hen hreq hf (by rw [Device.vec_setVec_same]; exact hmask)

/-! ### PRT page 0 (R336, R337) -/

/-- A performed write of PRT page 0 that is not the supervisor's has its effect. -/
theorem Device.prtWrite_of_writes {s : State} {q : Req} {off : Nat} (hw : Writes s q off = true) (hport : portCode q.port ≠ 7)
    (act : Device → Device) : s.dev.prtWrite q off act = act (s.dev.at q.t) := by
  rw [Device.prtWrite, Device.writeAt_of_writes hw, if_neg hport]

/-! ### The pages of a class (Table 12.8) -/

theorem blockBase_mod (n : Nat) : blockBase n % 0x1000 = 0 := by
  unfold blockBase
  split
  · rfl
  · have htable : ∀ x ∈ dirTable, x.1 % 0x1000 = 0 := by decide
    cases h : dirTable[n]? with
    | none => rfl
    | some x => exact htable x (List.mem_of_getElem? h)

theorem entryPages_mod {n pg : Nat} (h : pg ∈ entryPages n) : pg % 0x1000 = 0 := by
  obtain ⟨i, -, rfl⟩ := List.mem_map.1 h
  have hbase := blockBase_mod n
  omega

theorem classPages_mod {c pg : Nat} (h : pg ∈ classPages c) : pg % 0x1000 = 0 := by
  rcases List.mem_append.1 h with hport | hentry
  · split at hport
    · rw [List.mem_singleton.1 hport]
    · split at hport
      · rw [List.mem_singleton.1 hport]
      · exact absurd hport List.not_mem_nil
  · obtain ⟨l, hl, hpg⟩ := List.mem_flatten.1 hentry
    obtain ⟨n, -, rfl⟩ := List.mem_map.1 hl
    exact entryPages_mod hpg

/-! ### The walk over a class (R49, R337) -/

/-- What a write of {LOCK, MASK} leaves of a PAGE_PORTS word (R49). -/
def narrowed (mask lock : Nat) (w : Word) : Word :=
  if fld w 31 1 = 1 then w else setFld (setFld w 0 7 (mask &&& fld w 0 7)) 31 1 lock

/-- A field written with what it holds. -/
theorem setFld_same {v : Word} {lo w x : Nat} (h : x % 2 ^ w = fld v lo w) : setFld v lo w x = v := by
  have hle : fld v lo w * 2 ^ lo ≤ v.toNat := (Nat.mul_le_mul_right _ (Nat.mod_le _ _)).trans (Nat.div_mul_le_self _ _)
  rw [setFld, h, Nat.sub_add_cancel hle]
  simp

theorem narrowed_fields {mask lock : Nat} (hlock : lock < 2) {w : Word} (h : fld w 31 1 = 0) :
    fld (narrowed mask lock w) 0 7 = mask &&& fld w 0 7 ∧ fld (narrowed mask lock w) 31 1 = lock := by
  have hand : (mask &&& fld w 0 7) < 2 ^ 7 := Nat.and_lt_two_pow mask (fld_lt w 0 7)
  rw [narrowed, if_neg (by omega)]
  refine ⟨?_, (fld_setFld _ _ (by omega)).trans (Nat.mod_eq_of_lt hlock)⟩
  rw [fld_setFld_beside _ _ (by omega) (by omega), fld_setFld _ _ (by omega)]
  exact Nat.mod_eq_of_lt hand

/-- A page narrowed twice by one write is narrowed once. -/
theorem narrowed_narrowed {mask lock : Nat} (hlock : lock < 2) (w : Word) :
    narrowed mask lock (narrowed mask lock w) = narrowed mask lock w := by
  by_cases hw : fld w 31 1 = 1
  · rw [narrowed, narrowed, if_pos hw, if_pos hw]
  · have hbit := fld_lt w 31 1
    obtain ⟨h0, h31⟩ := narrowed_fields hlock (w := w) (by omega)
    generalize narrowed mask lock w = n at h0 h31
    have hsame : mask &&& fld n 0 7 = fld n 0 7 := by rw [h0, ← Nat.and_assoc, Nat.and_self]
    rw [narrowed, hsame, setFld_same (Nat.mod_eq_of_lt (fld_lt n 0 7)), setFld_same (by rw [h31]; exact Nat.mod_eq_of_lt hlock), ite_self]

theorem errPage_mod (off : Nat) : errPage off % 0x1000 = 0 := by
  unfold errPage
  split
  · rfl
  · exact pageOf_mod off

/-- An error of a page leaves every PAGE_PORTS (R54). -/
theorem Device.err_ports (d : Device) {pg pg' : Nat} (hpg : pg % 0x1000 = 0) (hpg' : pg' % 0x1000 = 0) (code : Nat) (lo hi : Word) :
    (d.err pg' code lo hi).reg (pg + 0xC) = d.reg (pg + 0xC) := by
  refine d.err_reg _ _ _ _ _ (notMem_faultRegs (by omega) (by omega)) ?_
  simp only [List.mem_cons, List.not_mem_nil, or_false]
  omega

theorem Device.narrow_ports (d : Device) {pg pg' : Nat} (hpg : pg % 0x1000 = 0) (mask lock : Nat) (v : Word) :
    (d.narrow pg' mask lock v false).2.reg (pg + 0xC) =
      if pg = pg' then narrowed mask lock (d.reg (pg + 0xC)) else d.reg (pg + 0xC) := by
  unfold Device.narrow narrowed
  dsimp only
  by_cases hlock : d.rf (pg' + 0xC) 31 1 = 1
  · rw [if_pos hlock, Device.errValue, Device.err_ports _ hpg (errPage_mod _)]
    split
    · next h => rw [if_pos (by rw [h]; exact hlock)]
    · rfl
  · rw [if_neg hlock, Bool.and_false, if_neg Bool.false_ne_true]
    by_cases h : pg = pg'
    · subst h
      rw [if_pos rfl, if_neg (show ¬fld (d.reg (pg + 0xC)) 31 1 = 1 from hlock)]
      simp
    · simp [h]

theorem Device.narrow_speaks (d : Device) (pg mask lock : Nat) (v : Word) : d.Speaks (d.narrow pg mask lock v false).2 := by
  unfold Device.narrow
  dsimp only
  split
  · exact d.err_speaks _ _ _ _
  · rw [Bool.and_false, if_neg Bool.false_ne_true]
    exact (d.speaks_setReg _ _).trans (Device.speaks_setReg _ _ _)

/-- One page of the walk of R337. -/
def Device.walkPage (mask lock : Nat) (v : Word) (d : Device) (pg : Nat) : Device :=
  let x := d.narrow pg mask lock v false
  if x.1 then x.2.count R.prt_CLASS_WIDEN 1 else x.2

theorem Device.walkClass_eq (d : Device) (c mask lock : Nat) :
    d.walkClass c mask lock = (classPages c).foldl (Device.walkPage mask lock (wd (mask + 2 ^ 31 * lock))) d := rfl

theorem Device.walkPage_speaks (d : Device) (mask lock : Nat) (v : Word) (pg : Nat) : d.Speaks (d.walkPage mask lock v pg) := by
  unfold Device.walkPage
  dsimp only
  split
  · exact (d.narrow_speaks _ _ _ _).trans (Device.speaks_setReg _ _ _)
  · exact d.narrow_speaks _ _ _ _

theorem Device.walkPage_ports (d : Device) {pg pg' : Nat} (hpg : pg % 0x1000 = 0) (mask lock : Nat) (v : Word) :
    (d.walkPage mask lock v pg').reg (pg + 0xC) =
      if pg = pg' then narrowed mask lock (d.reg (pg + 0xC)) else d.reg (pg + 0xC) := by
  rw [← d.narrow_ports hpg mask lock v, Device.walkPage]
  split
  · rw [Device.count_eq, Device.reg_setReg, if_neg (by unfold R.prt_CLASS_WIDEN; omega)]
  · rfl

theorem Device.walkClass_speaks (d : Device) (c mask lock : Nat) : d.Speaks (d.walkClass c mask lock) :=
  Device.speaks_foldl (fun d pg _ => d.walkPage_speaks mask lock _ pg) d

/-- After a walk every page it came to is narrowed, once. -/
theorem Device.foldl_walkPage_ports {mask lock : Nat} (hlock : lock < 2) (v : Word) {pg : Nat}
    (hpg : pg % 0x1000 = 0) (l : List Nat) (d : Device) :
    (l.foldl (Device.walkPage mask lock v) d).reg (pg + 0xC) =
      if pg ∈ l then narrowed mask lock (d.reg (pg + 0xC)) else d.reg (pg + 0xC) := by
  induction l generalizing d with
  | nil => rfl
  | cons x l ih =>
    rw [List.foldl_cons, ih, d.walkPage_ports hpg]
    by_cases hx : pg = x <;> by_cases hl : pg ∈ l <;> simp [hx, hl, narrowed_narrowed hlock]

/-- Every page of the class is narrowed (R337). -/
theorem Device.walkClass_ports (d : Device) {c mask lock pg : Nat} (hlock : lock < 2) (h : pg ∈ classPages c) :
    (d.walkClass c mask lock).reg (pg + 0xC) = narrowed mask lock (d.reg (pg + 0xC)) := by
  rw [Device.walkClass_eq, Device.foldl_walkPage_ports hlock _ (classPages_mod h), if_pos h]

/-- The device in which a walk over class c has begun: its masks have acted, and CLASS_STATUS reads busy. -/
def Device.startWalk (d : Device) (c mask lock : Nat) : Device :=
  let d1 := d.walkClass c mask lock
  { d1 with hif := { d1.hif with classWalk := some d1.now.tick } }.setN R.prt_CLASS_STATUS 1

section
variable {s : State} {q : Req} (hw : Writes s q R.prt_CLASS_MASK = true) (hport : portCode q.port ≠ 7)
include hw hport

theorem classMask_walks (hidle : s.dev.hif.classWalk = none) (hclass : fld q.data 8 4 ≤ 10) (hgo : fld q.data 31 1 = 1) :
    classMask q s.dev = (s.dev.at q.t).startWalk (fld q.data 8 4) (fld q.data 0 7) (fld q.data 30 1) := by
  have hfree : ¬(((s.dev.at q.t).hif.classWalk.isSome || decide (10 < fld q.data 8 4)) = true) := by
    rw [show (s.dev.at q.t).hif.classWalk = none from hidle]
    simpa using hclass
  rw [classMask, Device.prtWrite_of_writes hw hport, if_neg hfree, if_neg (by omega)]
  rfl

theorem classMask_busy (hbusy : s.dev.hif.classWalk ≠ none) : classMask q s.dev = (s.dev.at q.t).err 0x2000 0x0100 q.data 0 := by
  have hfull : ((s.dev.at q.t).hif.classWalk.isSome || decide (10 < fld q.data 8 4)) = true := by
    rw [Bool.or_eq_true]
    exact .inl (Option.isSome_iff_ne_none.2 hbusy)
  rw [classMask, Device.prtWrite_of_writes hw hport, if_pos hfull]

end

theorem Device.startWalk_spec (d : Device) {c mask lock : Nat} (hlock : lock < 2) :
    (d.startWalk c mask lock).reg R.prt_CLASS_STATUS = 1 ∧ (d.startWalk c mask lock).hif.classWalk = some d.now.tick ∧
      ∀ pg ∈ classPages c, (d.startWalk c mask lock).reg (pg + 0xC) = narrowed mask lock (d.reg (pg + 0xC)) := by
  have hnow : (d.walkClass c mask lock).now = d.now := (congrArg Device.now (d.walkClass_speaks c mask lock) :)
  refine ⟨(Device.reg_setReg _ _ _ _).trans (if_pos rfl), congrArg (fun n : Clock => some n.tick) hnow, fun pg hpg => ?_⟩
  have hmod := classPages_mod hpg
  exact ((Device.reg_setReg _ _ _ _).trans (if_neg (by unfold R.prt_CLASS_STATUS; omega))).trans (d.walkClass_ports hlock hpg)

/-- The end of a walk: CLASS_STATUS reads 0, and the page's event rises. -/
theorem classMaskDone_spec {d : Device} (k : Nat) (h : d.hif.classWalk ≠ none) :
    (classMaskDone k d).hif.classWalk = none ∧ (classMaskDone k d).reg R.prt_CLASS_STATUS = 0 ∧
      (classMaskDone k d).rf (0x2000 + 0x20) 16 1 = 1 ∧
      ∀ o, o ∉ [R.prt_CLASS_STATUS, 0x2000 + 0x20, R.hif_MSIX_DROPPED] → (classMaskDone k d).reg o = d.reg o := by
  have hbusy : ¬((d.at k).hif.classWalk.isNone = true) := by
    rw [Option.isNone_iff_eq_none]
    exact h
  unfold classMaskDone
  dsimp only
  rw [if_neg hbusy]
  refine ⟨(congrArg (·.hif.classWalk) (Device.evtBit_speaks _ 0x2000 16) :), ?_, ?_, fun o ho => ?_⟩
  · rw [Device.evtBit_reg _ _ _ _ (by decide), if_neg (by decide)]
    exact (Device.reg_setReg _ _ _ _).trans (if_pos rfl)
  · rw [Device.rf, Device.evtBit_reg _ _ _ _ (by decide), if_pos rfl]
    exact fld_or_bit _ (by omega)
  · simp only [List.mem_cons, List.not_mem_nil, or_false, not_or] at ho
    obtain ⟨hstatus, hraw, hmsix⟩ := ho
    rw [Device.evtBit_reg _ _ _ _ hmsix, if_neg hraw]
    exact (Device.reg_setReg _ _ _ _).trans (if_neg hstatus)

/-! ### O31 -/

/-- Settles O31. The masks of the class act at the write of CLASS_MASK, before the walk is done (log entry 67). -/
theorem messagesAndPortSwitches : Obligations.MessagesAndPortSwitches := by
  unfold Obligations.MessagesAndPortSwitches
  refine ⟨fun s f v k hport hawake hv hflr => ?_, fun s q hw hport => ⟨_, rfl, ?_⟩, fun s q hw hport => ?_,
    fun s k hwalk => ⟨_, rfl, ?_⟩⟩
  · have hrun : msixUnmask f v k s.dev = ((s.dev.at k).setVec f v { s.dev.vec f v with mask := false }).msixRelease f v :=
      Device.msixAccess_acts 3 _ hport hawake hv hflr
    have hvec := (s.dev.at k).vec_setVec_same f v { s.dev.vec f v with mask := false }
    refine ⟨fun hpend => ⟨_, rfl, ?_⟩, fun hpend hf hen hbme hd3 => ⟨_, rfl, ?_⟩⟩
    · rw [hrun, Device.msixRelease_idle ((congrArg Vec.pend hvec).trans hpend)]
      exact ⟨hvec, rfl, rfl, rfl, rfl⟩
    · have hreq : s.dev.mayRequest f = true := by simp [Device.mayRequest, hbme, hd3, hflr]
      rw [hrun, Device.msixRelease_sends ((congrArg Vec.pend hvec).trans hpend) (congrArg Vec.mask hvec) hf hen hreq, hvec]
      exact ⟨Device.vec_setVec_same _ _ _ _, rfl, rfl, rfl, rfl⟩
  · rw [show portOff q s.dev = _ from Device.prtWrite_of_writes hw hport _]
    exact ⟨(Device.reg_setReg _ _ _ _).trans (if_pos rfl), keepsRegs_setReg s _ _ _, rfl, rfl, rfl⟩
  · refine ⟨fun hidle hclass hgo => ⟨_, rfl, ?_⟩, fun hbusy => ⟨_, rfl, ?_⟩⟩
    · have hlock : fld q.data 30 1 < 2 := fld_lt _ _ _
      obtain ⟨hstatus, hwalk, hports⟩ := (s.dev.at q.t).startWalk_spec (c := fld q.data 8 4) (mask := fld q.data 0 7) hlock
      rw [classMask_walks hw hport hidle hclass hgo]
      refine ⟨hstatus, hwalk, ⟨rfl, rfl⟩, fun pg hpg hfree => ?_⟩
      simp only [Device.rf_eq, hports pg hpg]
      exact narrowed_fields hlock hfree
    · rw [classMask_busy hw hport hbusy]
      refine ⟨(congrArg (·.hif.classWalk) ((s.dev.at q.t).err_speaks 0x2000 0x0100 q.data 0) :), Device.err_count _ _ _ _ _ (by decide),
        ⟨rfl, rfl⟩, fun pg hpg => Device.err_ports _ (classPages_mod hpg) rfl _ _ _⟩
  · obtain ⟨hnone, hstatus, hevent, hregs⟩ := classMaskDone_spec k hwalk
    exact ⟨hnone, hstatus, hevent, hregs, rfl, rfl⟩

end Sys2Proof.Machine
end

section
/-! PROOFS. Registers that headers, windows and failed reads leave alone, and input staged or failed (R329, R351, R353, R396, R409). -/
namespace Sys2Proof.Machine

/-! ### Registers that a header leaves alone (R327, R351, R353) -/

theorem Device.hostWrite_reg (d : Device) (f a : Nat) (b : List Byte) {o : Nat} (ho : o ≠ R.hif_BME_DROPPED) :
    (d.hostWrite f a b).reg o = d.reg o := by
  unfold Device.hostWrite
  split
  · rfl
  · split
    · rfl
    · exact (Device.reg_setReg _ _ _ _).trans (if_neg ho)

theorem Device.cancelJobEntries_reg (d : Device) (q : Nat → Bool) (o : Nat) : (d.cancelJobEntries q).reg o = d.reg o :=
  foldl_keeps (k := fun (d : Device) (e : EvEntry) => d.cancelEntry e.num) (fun e => e.reg o) (fun _ _ _ => rfl) d

/-- A register that is none of those that count what headers write to host memory. -/
def OfNoHeader (o : Nat) : Prop := o ≠ R.hif_BME_DROPPED ∧ ∀ p, o ∉ [R.hod_BYTES_OUT_LO p, R.hod_BYTES_OUT_LO p + 4]

section
variable {o : Nat} (ho : OfNoHeader o)
include ho

theorem Device.countOut_reg (d : Device) (j : Job) (n : Nat) : (d.countOut j n).reg o = d.reg o := by
  unfold Device.countOut
  extract_lets d1
  have h1 : d1.reg o = d.reg o := by
    dsimp only [d1]
    split
    · exact d.reg_setN64 _ (ho.2 _)
    · rfl
  exact h1

theorem Device.writeHeader_reg (d : Device) (j : Job) (status plen : Nat) : (d.writeHeader j status plen).reg o = d.reg o := by
  unfold Device.writeHeader
  split
  · rw [Device.countOut_reg ho, Device.hostWrite_reg _ _ _ _ ho.1]
  · rfl

theorem Device.finishRaw_reg (d : Device) (id status plen : Nat) (hdr : Bool) : (d.finishRaw id status plen hdr).reg o = d.reg o := by
  unfold Device.finishRaw
  split
  · rfl
  · next j _ =>
    extract_lets d1 d2
    have h1 : d1.reg o = d.reg o := d.cancelJobEntries_reg _ o
    have h2 : d2.reg o = d.reg o := by
      dsimp only [d2]
      split
      · rw [Device.writeHeader_reg ho, h1]
      · exact h1
    split
    · rfl
    · split
      · exact h2
      · exact h2

/-- A job that completes changes no register but the counts of what headers write. -/
theorem Device.finish_reg (d : Device) (id status plen : Nat) (hdr : Bool) : (d.finish id status plen hdr).reg o = d.reg o := by
  unfold Device.finish
  split
  · rfl
  · next j _ =>
    unfold Device.fenceCheck
    extract_lets x
    split
    · exact Device.finishRaw_reg ho _ _ _ _ _
    · split
      · exact (Device.finishRaw_reg ho _ _ _ _ _).trans (Device.finishRaw_reg ho _ _ _ _ _)
      · exact Device.finishRaw_reg ho _ _ _ _ _

end

/-! ### Failed reads (R329, R396) -/

/-- An error of a page changes none of the registers past the headers (R54). -/
theorem Device.err_noReport (d : Device) {pg : Nat} (hpg : pg % 0x1000 = 0) (code : Nat) (lo hi : Word) {o : Nat} (ho : OfNoReport o) :
    (d.err pg code lo hi).reg o = d.reg o := by
  obtain ⟨hhdr, -, hflt⟩ := ho
  refine d.err_reg _ _ _ _ o hflt ?_
  simp only [List.mem_cons, List.not_mem_nil, or_false]
  omega

theorem Device.cplFail_reg (d : Device) (f cause addr : Nat) {o : Nat} (ho : OfNoReport o) :
    (d.cplFail f cause addr).reg o = if o = R.hif_CPL_FAIL_COUNT then satAdd (d.reg o) 1 else d.reg o := by
  rw [Device.cplFail, Device.err_noReport _ rfl _ _ _ ho, Device.reg_count]

theorem Device.windowFault_reg (d : Device) (g index range place : Nat) {o : Nat} (ho : OfNoReport o) :
    (d.windowFault g index range place).reg o = d.reg o := by
  have hlow := ho.2.1
  rw [Device.windowFault, Device.err_evtBit_reg _ (by omega) _ _ _ _ ho, Device.count_eq, Device.reg_setReg,
    if_neg (by unfold R.ten_WINDOW_FAULTS; omega)]

theorem Device.cplFail_sparesPipes (d : Device) (f cause addr : Nat) : d.SparesPipes (d.cplFail f cause addr) :=
  (d.setReg_sparesPipes _ (not_ofPipe_below (by decide))).trans (Device.err_sparesPipes _ rfl _ _ _)

theorem Device.windowFault_sparesPipes (d : Device) (g index range place : Nat) : d.SparesPipes (d.windowFault g index range place) := by
  have hcount : ¬OfPipe (R.ten_WINDOW_FAULTS (tenantOf g)) := fun ⟨_, h, _⟩ => by
    unfold R.ten_WINDOW_FAULTS at h
    omega
  exact ((d.setReg_sparesPipes _ hcount).trans (Device.err_sparesPipes _ (by omega) _ _ _)).trans
    (Device.evtBit_sparesPipes _ (by omega) _)

/-- The device in which a failed read of a job's input has been counted and recorded. -/
def Device.recordFail (d : Device) (j : Job) (cause place addr : Nat) : Device :=
  ((d.cplFail (vfOf j.q) cause addr).count (R.hod_READ_FAILS (j.pipe % 16)) 1).windowFault j.q j.index 0 place

theorem Device.recordFail_sparesPipes (d : Device) (j : Job) (cause place addr : Nat) :
    d.SparesPipes (d.recordFail j cause place addr) := by
  have hcount : ¬OfPipe (R.hod_READ_FAILS (j.pipe % 16)) := fun ⟨_, h, _⟩ => by
    unfold R.hod_READ_FAILS at h
    omega
  exact ((d.cplFail_sparesPipes _ _ _).trans (Device.setReg_sparesPipes _ _ hcount)).trans (Device.windowFault_sparesPipes _ _ _ _ _)

/-- A failed read is counted by HIF and by the engine of the job's pipeline. -/
theorem Device.recordFail_counts (d : Device) (j : Job) (cause place addr : Nat) {o : Nat}
    (ho : o = R.hif_CPL_FAIL_COUNT ∨ o = R.hod_READ_FAILS (j.pipe % 16)) :
    OfNoHeader o ∧ (d.recordFail j cause place addr).reg o = satAdd (d.reg o) 1 := by
  have hhod : OfNoReport (R.hod_READ_FAILS (j.pipe % 16)) :=
    ⟨by unfold R.hod_READ_FAILS; omega, by unfold R.hod_READ_FAILS; omega, notMem_faultRegs_above (by unfold R.hod_READ_FAILS; omega)⟩
  have hhif : OfNoReport R.hif_CPL_FAIL_COUNT := by
    unfold OfNoReport
    decide
  have hne : R.hif_CPL_FAIL_COUNT ≠ R.hod_READ_FAILS (j.pipe % 16) := by
    unfold R.hif_CPL_FAIL_COUNT R.hod_READ_FAILS
    omega
  unfold Device.recordFail OfNoHeader
  rcases ho with rfl | rfl
  · refine ⟨⟨by decide, fun p => ?_⟩, ?_⟩
    · simp only [List.mem_cons, List.not_mem_nil, or_false, R.hif_CPL_FAIL_COUNT, R.hod_BYTES_OUT_LO]
      omega
    · rw [Device.windowFault_reg _ _ _ _ _ hhif, Device.reg_count, if_neg hne, Device.cplFail_reg _ _ _ _ hhif, if_pos rfl]
  · refine ⟨⟨by unfold R.hod_READ_FAILS R.hif_BME_DROPPED; omega, fun p => ?_⟩, ?_⟩
    · simp only [List.mem_cons, List.not_mem_nil, or_false, R.hod_READ_FAILS, R.hod_BYTES_OUT_LO]
      omega
    · rw [Device.windowFault_reg _ _ _ _ _ hhod, Device.reg_count, if_pos rfl, Device.cplFail_reg _ _ _ _ hhod, if_neg hne.symm]

/-- A failed read of a job's input that can complete: the job is WINDOW_FAULT (R396). -/
theorem Device.inputFails_finishes {d : Device} {j : Job} (cause place addr : Nat) (hj : d.job j.id = some j) (hst : j.st ≠ .completed)
    (horphan : j.orphan = false) (hfence : (d.queue j.q).fence = none) :
    ∃ x, (d.inputFails j cause place addr).job j.id = some x ∧ x.st = .completed ∧ x.status = 0x11 := by
  have hspares := d.recordFail_sparesPipes j cause place addr
  have hj' := (hspares.job_eq j.id).trans hj
  have hfence' := (congrArg Queue.fence (hspares.queue_eq j.q)).trans hfence
  obtain ⟨e, he, hfinish⟩ := Device.finish_unfenced (status := 0x11) (plen := 0) (hdr := true) hj' hst horphan hfence'
  have hjob := Device.job_modJob (f := fun x => { x.free with st := .completed, status := 0x11, written := true })
    ((he.job_eq j.id).trans hj') fun _ => rfl
  exact ⟨_, (congrArg (Device.job · j.id) hfinish).trans hjob, rfl, rfl⟩

/-- The counts of a failed read stand when its job has completed. -/
theorem Device.inputFails_counts (d : Device) (j : Job) (cause place addr : Nat) {o : Nat}
    (ho : o = R.hif_CPL_FAIL_COUNT ∨ o = R.hod_READ_FAILS (j.pipe % 16)) :
    (d.inputFails j cause place addr).reg o = satAdd (d.reg o) 1 := by
  obtain ⟨hheader, hcount⟩ := d.recordFail_counts j cause place addr ho
  exact (Device.finish_reg hheader _ _ _ _ _).trans hcount

/-! ### Input staged (R409) -/

/-- The last bytes of a staging job whose buffers hold them: the job is ready, and the engine counts bytes and job. -/
theorem hodReadDone_stages {d : Device} {g : Fin 65536} {i : Word} (k : Nat) {l : List Byte} {j : Job}
    (hat : d.jobAt g i.toNat = some j) (hst : j.st = .staging) (hreq : d.mayRequest (vfOf g) = true)
    (hall : j.input.length + l.length = j.inLen) (hroom : j.inLen ≤ 4096 * j.ing.total) :
    ∃ tr, hodReadDone g i l k d =
      ({ (d.at k).count64 (R.hod_BYTES_IN_LO (j.pipe % 16)) l.length with trace := tr }.modJob j.id fun x =>
        { x with input := j.input ++ l, st := .ready }).count (R.hod_JOBS_STAGED (j.pipe % 16)) 1 := by
  have hat' : (d.at k).jobAt g i.toNat = some j := hat
  have hreq' : (d.at k).mayRequest (vfOf g) = true := hreq
  have htake : l.take (min (4096 * j.ing.total) j.inLen - j.input.length) = l := List.take_of_length_le (by omega)
  have hlen : (j.input ++ l).length = j.inLen := by rw [List.length_append, hall]
  simp only [hodReadDone, hat', hst, hreq', htake, hlen, ne_eq, not_true_eq_false, Bool.not_true, Bool.false_eq_true, if_false, if_true]
  exact ⟨_, rfl⟩

theorem hodReadDone_spec {d : Device} {g : Fin 65536} {i : Word} (k : Nat) {l : List Byte} {j : Job}
    (hat : d.jobAt g i.toNat = some j) (hj : d.job j.id = some j) (hst : j.st = .staging) (hreq : d.mayRequest (vfOf g) = true)
    (hall : j.input.length + l.length = j.inLen) (hroom : j.inLen ≤ 4096 * j.ing.total) :
    let t := hodReadDone g i l k d
    let e := j.pipe % 16
    ((t.job j.id).map fun x => (x.st, x.input)) = some (.ready, j.input ++ l) ∧
      t.reg (R.hod_JOBS_STAGED e) = satAdd (d.reg (R.hod_JOBS_STAGED e)) 1 ∧
      t.rn64 (R.hod_BYTES_IN_LO e) = min (2 ^ 64 - 1) (d.rn64 (R.hod_BYTES_IN_LO e) + l.length) ∧
      ∀ o, o ∉ [R.hod_JOBS_STAGED e, R.hod_BYTES_IN_LO e, R.hod_BYTES_IN_LO e + 4] → t.reg o = d.reg o := by
  obtain ⟨tr, hrun⟩ := hodReadDone_stages k hat hst hreq hall hroom
  extract_lets t e
  have hbytes : R.hod_JOBS_STAGED e ∉ [R.hod_BYTES_IN_LO e, R.hod_BYTES_IN_LO e + 4] := by
    simp only [List.mem_cons, List.not_mem_nil, or_false, R.hod_JOBS_STAGED, R.hod_BYTES_IN_LO]
    omega
  have hreg : ∀ o, t.reg o =
      if o = R.hod_JOBS_STAGED e then satAdd (d.reg o) 1 else ((d.at k).count64 (R.hod_BYTES_IN_LO e) l.length).reg o := fun o => by
    dsimp only [t]
    rw [hrun, Device.reg_count, Device.reg_modJob]
    split
    · next ho => rw [ho]; exact congrArg (satAdd · 1) (Device.reg_setN64 _ _ hbytes)
    · rfl
  refine ⟨?_, (hreg _).trans (if_pos rfl), ?_, fun o ho => ?_⟩
  · have hjob := Device.job_modJob (d := { (d.at k).count64 (R.hod_BYTES_IN_LO e) l.length with trace := tr })
      (f := fun x => { x with input := j.input ++ l, st := .ready }) hj fun _ => rfl
    exact congrArg (Option.map fun x => (x.st, x.input)) ((congrArg (Device.job · j.id) hrun).trans hjob)
  · have hpair : t.rn64 (R.hod_BYTES_IN_LO e) = ((d.at k).count64 (R.hod_BYTES_IN_LO e) l.length).rn64 (R.hod_BYTES_IN_LO e) :=
      Device.rn64_congr fun o ho => (hreg o).trans (if_neg (ne_of_mem_of_not_mem ho hbytes))
    exact hpair.trans (Device.rn64_setN64 _ _ ((Nat.min_le_left _ _).trans_lt (by decide)))
  · obtain ⟨hstaged, hpair⟩ := not_or.1 (mt List.mem_cons.2 ho)
    exact ((hreg o).trans (if_neg hstaged)).trans (Device.reg_setN64 _ _ hpair)

end Sys2Proof.Machine
end

section
/-! PROOFS. Claims of staging buffers, HEAD published and completion messages; O34 (R375 to R377, R408 to R411). -/
namespace Sys2Proof.Machine

/-! ### Claims (R408 to R411) -/

/-- A job that claims at ingress is in the tracker under its number. -/
theorem Device.job_of_claimant {d : Device} {p : Nat} {j : Job} (h : d.claimant true p = some j) : ∃ x, d.job j.id = some x :=
  Option.isSome_iff_exists.1 (List.find?_isSome.2 ⟨j, List.mem_of_find?_eq_some h, decide_eq_true rfl⟩)

/-- A claim that is met adds one buffer. -/
theorem Device.claimOne_total {d : Device} {ing : Bool} {j : Job} {b : Bufs} (h : d.claimOne ing j = some b) :
    b.total = (j.bufs ing).total + 1 := by
  unfold Device.claimOne at h
  split_ifs at h <;> obtain rfl := Option.some.inj h <;> simp only [Bufs.total] <;> omega

/-- A claim that no reserve meets is met by the shared tier. -/
theorem Device.freeShared_pos {d : Device} {ing : Bool} {j : Job} {b : Bufs} (h : d.claimOne ing j = some b)
    (hreserve : d.fromReserve ing j = false) : 0 < d.freeShared ing := by
  simp only [Device.fromReserve, Bool.or_eq_false_iff, decide_eq_false_iff_not] at hreserve
  by_contra hnone
  simp [Device.claimOne, hreserve.1, hreserve.2, hnone] at h

/-- The buffer that a claim at ingress is granted goes to its job. -/
theorem Device.grant_ingress {d : Device} {p : Nat} {j : Job} {b : Bufs} (hj : d.claimant true p = some j)
    (hb : d.claimOne true j = some b) :
    d.grant true p = d.modJob j.id fun x => x.setBufs true b := by
  simp only [Device.grant, hj, hb, if_true]

/-- One pipeline that asks at ingress is granted its claim, from a reserve or from the shared tier. -/
theorem bufferClaim_grants {d : Device} (cyc : Nat) {p : Nat} {j : Job} {b : Bufs}
    (hwant : ((List.range 64).filter fun p => (d.claimant true p).isSome) = [p]) (hj : d.claimant true p = some j)
    (hb : d.claimOne true j = some b) : bufferClaim true cyc d = (d.atCyc cyc).modJob j.id fun x => x.setBufs true b := by
  have hwant' : ((List.range 64).filter fun p => ((d.atCyc cyc).claimant true p).isSome) = [p] := hwant
  have hj' : (d.atCyc cyc).claimant true p = some j := hj
  have hb' : (d.atCyc cyc).claimOne true j = some b := hb
  unfold bufferClaim
  dsimp only
  generalize d.atCyc cyc = e at hwant' hj' hb'
  rw [hwant', ← Device.grant_ingress hj' hb']
  by_cases hreserve : e.fromReserve true j = true
  · simp [hj', hreserve]
  · have hfree := Device.freeShared_pos hb' (Bool.eq_false_iff.2 hreserve)
    have hone : 1 ≤ e.freeShared true := hfree
    simp [hj', hreserve, hone]

/-! ### HEAD (R375, R376) -/

/-- The device in which HEAD of queue g has passed a job (R375). -/
def Device.passJob (d : Device) (g : Nat) (j : Job) : Device :=
  ((d.setN (R.qst_HEAD g) ((j.index + j.entries) % 2 ^ 32)).dropJob j.id).countJob g j.status

theorem Device.passJob_reg (d : Device) (g : Nat) (j : Job) (o : Nat) : (d.passJob g j).reg o =
    if o = R.qst_COMPLETED g then satAdd (d.reg o) 1 else if o = R.qst_HEAD g then wd ((j.index + j.entries) % 2 ^ 32) else d.reg o := by
  have hne : R.qst_COMPLETED g ≠ R.qst_HEAD g := by
    unfold R.qst_COMPLETED R.qst_HEAD
    omega
  refine (Device.reg_setReg _ _ _ _).trans ?_
  split
  · next h => rw [h]; exact congrArg (satAdd · 1) ((Device.reg_setReg _ _ _ _).trans (if_neg hne))
  · exact Device.reg_setReg _ _ _ _

theorem Device.passJob_head (d : Device) (g : Nat) (j : Job) : (d.passJob g j).head g = (j.index + j.entries) % 2 ^ 32 := by
  have hne : R.qst_HEAD g ≠ R.qst_COMPLETED g := by
    unfold R.qst_COMPLETED R.qst_HEAD
    omega
  rw [Device.head, Device.rn, Device.passJob_reg, if_neg hne, if_pos rfl, wd, BitVec.toNat_ofNat, Nat.mod_mod]

/-- HEAD passes one job where the next is not in the tracker. -/
theorem Device.advanceHead_one {d : Device} {g : Nat} {j : Job} (fuel : Nat) (hat : d.jobAt g (d.head g) = some j) (hdone : j.isDone = true)
    (hnext : (d.dropJob j.id).jobAt g ((j.index + j.entries) % 2 ^ 32) = none) :
    d.advanceHead g (fuel + 1) = (d.passJob g j, b2n j.irq) := by
  have hstop : (d.passJob g j).advanceHead g fuel = (d.passJob g j, 0) := by
    cases fuel with
    | zero => rfl
    | succ n =>
      have hnext' : (d.passJob g j).jobAt g ((d.passJob g j).head g) = none := by
        rw [Device.passJob_head]
        exact hnext
      simp only [Device.advanceHead, hnext']
  unfold Device.passJob at *
  simp only [Device.advanceHead, hat, hdone, if_true, hstop, Nat.zero_add]

theorem Device.completionMsg_reg (d : Device) (g : Nat) {o : Nat} (ho : o ≠ R.hif_MSIX_DROPPED) : (d.completionMsg g).reg o = d.reg o :=
  Device.msix_reg _ _ _ _ ho

theorem Device.completionMsg_jobs (d : Device) (g : Nat) : (d.completionMsg g).jobs = d.jobs :=
  (Device.msix_speaks _ _ _).sparesJobs.jobs

/-- What the queue engine holds of queue g is set, QSTATUS.STALLED is cleared and the mirror is written (R376). -/
def Device.publish (d : Device) (g : Nat) (x : Queue) : Device := ((d.setQueue g x).setF (R.qst_QSTATUS g) 5 1 0).writeMirror g

theorem Device.publish_frame (d : Device) (g : Nat) (x : Queue) : (d.publish g x).jobs = d.jobs ∧
    ∀ o, o ≠ R.qst_QSTATUS g → o ≠ R.hif_BME_DROPPED → (d.publish g x).reg o = d.reg o := by
  have hset : ∀ o, o ≠ R.qst_QSTATUS g → ((d.setQueue g x).setF (R.qst_QSTATUS g) 5 1 0).reg o = d.reg o :=
    fun o ho => (Device.reg_setReg _ _ _ _).trans (if_neg ho)
  unfold Device.publish Device.writeMirror
  split
  · exact ⟨(Device.hostWrite_sparesJobs _ _ _ _).jobs, fun o hq hb => (Device.hostWrite_reg _ _ _ _ hb).trans (hset o hq)⟩
  · exact ⟨rfl, fun o hq _ => hset o hq⟩

/-- HEAD_PUBLISH of a HEAD that moves publishes it, and a message may follow. -/
theorem headPublish_publishes {d e : Device} {g : Fin 65536} {k n : Nat}
    (hadvance : (d.at k).advanceHead g ((d.at k).jobs.length + 1) = (e, n)) (hmoved : e.head g ≠ (d.at k).head g) :
    ∃ x, headPublish g k d = (e.publish g x).completionMsg g ∨ headPublish g k d = e.publish g x := by
  unfold headPublish
  dsimp only
  rw [hadvance]
  dsimp only
  rw [if_neg hmoved]
  exact ⟨_, ite_eq_or_eq _ _ _⟩

/-- Beside what moves HEAD, it changes no job and few registers. -/
theorem headPublish_frame {d e : Device} {g : Fin 65536} {k n : Nat}
    (hadvance : (d.at k).advanceHead g ((d.at k).jobs.length + 1) = (e, n)) (hmoved : e.head g ≠ (d.at k).head g) :
    (headPublish g k d).jobs = e.jobs ∧
      ∀ o, o ∉ [R.qst_QSTATUS g, R.hif_BME_DROPPED, R.hif_MSIX_DROPPED] → (headPublish g k d).reg o = e.reg o := by
  obtain ⟨x, hpublish⟩ := headPublish_publishes hadvance hmoved
  obtain ⟨hjobs, hreg⟩ := e.publish_frame g x
  simp only [List.mem_cons, List.not_mem_nil, or_false, not_or]
  rcases hpublish with h | h <;> rw [h]
  · exact ⟨(Device.completionMsg_jobs _ _).trans hjobs,
      fun o ⟨hq, hb, hm⟩ => (Device.completionMsg_reg _ _ hm).trans (hreg o hq hb)⟩
  · exact ⟨hjobs, fun o ⟨hq, hb, _⟩ => hreg o hq hb⟩

/-- HEAD passes the one job that is done: it leaves the tracker and is counted. -/
theorem headPublish_spec {d : Device} {g : Fin 65536} (k : Nat) {j : Job} (hat : d.jobAt g (d.head g) = some j) (hdone : j.isDone = true)
    (hmoves : (j.index + j.entries) % 2 ^ 32 ≠ d.head g) (hnext : (d.dropJob j.id).jobAt g ((j.index + j.entries) % 2 ^ 32) = none) :
    let t := headPublish g k d
    t.head g = (j.index + j.entries) % 2 ^ 32 ∧ t.jobs = d.jobs.filter (fun x => !(x.id == j.id)) ∧
      t.reg (R.qst_COMPLETED g) = satAdd (d.reg (R.qst_COMPLETED g)) 1 ∧
      ∀ o, o ∉ [R.qst_HEAD g, R.qst_COMPLETED g, R.qst_QSTATUS g, R.hif_BME_DROPPED, R.hif_MSIX_DROPPED] → t.reg o = d.reg o := by
  have hadvance := Device.advanceHead_one (d := d.at k) (d.at k).jobs.length hat hdone hnext
  have hhead := (d.at k).passJob_head g j
  obtain ⟨hjobs, hreg⟩ := headPublish_frame hadvance (by rw [hhead]; exact hmoves)
  have hout : R.qst_HEAD g ∉ [R.qst_QSTATUS g, R.hif_BME_DROPPED, R.hif_MSIX_DROPPED] ∧
      R.qst_COMPLETED g ∉ [R.qst_QSTATUS g, R.hif_BME_DROPPED, R.hif_MSIX_DROPPED] := by
    simp only [List.mem_cons, List.not_mem_nil, or_false, R.qst_HEAD, R.qst_COMPLETED, R.qst_QSTATUS, R.hif_BME_DROPPED, R.hif_MSIX_DROPPED]
    omega
  refine ⟨?_, hjobs, (hreg _ hout.2).trans ((Device.passJob_reg _ _ _ _).trans (if_pos rfl)), fun o ho => ?_⟩
  · exact (congrArg BitVec.toNat (hreg _ hout.1)).trans hhead
  · simp only [List.mem_cons, List.not_mem_nil, or_false, not_or] at ho hreg
    obtain ⟨hh, hc, hrest⟩ := ho
    rw [hreg o hrest, Device.passJob_reg, if_neg hc, if_neg hh]
    rfl

/-! ### Completion messages (R377) -/

theorem Device.queue_setQueue (d : Device) (g : Nat) (x : Queue) : (d.setQueue g x).queue g = x := by
  unfold Device.queue Device.setQueue
  rw [Store.get_set, if_pos rfl]

/-- The message of a queue whose function may send it, not masked, is sent, and its count of jobs starts again. -/
theorem Device.completionMsg_sends {d : Device} {g : Nat} (hen : (d.fn (vfOf g)).msixEn = true) (hreq : d.mayRequest (vfOf g) = true)
    (hf : (d.fn (vfOf g)).fmask = false) (hv : (d.vec (vfOf g) (g % 64)).mask = false) :
    d.completionMsg g = (d.setQueue g { d.queue g with coalCount := 0 }).emit (.msix (vfOf g) (g % 64)) :=
  Device.msix_sends (d := d.setQueue g { d.queue g with coalCount := 0 }) hen hreq hf hv

/-! ### O34 -/

/-- Settles O34: each event is the effect of its row on the job, the claim or the queue that it names. -/
theorem jobsStageAndHeadsPublish : Obligations.JobsStageAndHeadsPublish := by
  unfold Obligations.JobsStageAndHeadsPublish
  refine ⟨fun s g i k l j hat hj hst hreq hall hroom => ⟨_, rfl, ?_⟩, fun s g i c a k j hat hst hfinish => ⟨_, rfl, ?_⟩,
    fun s cyc p j b harray hwant hj hb => ⟨_, rfl, ?_⟩, fun s g k j hat hdone hmoves hnext => ⟨_, rfl, ?_⟩,
    fun s g k hirq hus hcount hdue hen hreq hf hv => ⟨_, rfl, ?_⟩⟩
  · obtain ⟨hjob, hstaged, hbytes, hregs⟩ := hodReadDone_spec k hat hj hst hreq hall hroom
    exact ⟨hjob, hstaged, hbytes, hregs, rfl, rfl⟩
  · obtain ⟨hj, hopen, horphan, hfence⟩ := hfinish
    have hrun : readFailure g i c a k s.dev = (s.dev.at k).inputFails j c.val (placeOf j a) a := by
      have hat' : (s.dev.at k).jobAt g i.toNat = some j := hat
      simp only [readFailure, hat', hst, if_true]
    dsimp only
    rw [hrun]
    exact ⟨Device.inputFails_finishes _ _ _ hj hopen horphan hfence, Device.inputFails_counts _ _ _ _ _ (.inl rfl),
      Device.inputFails_counts _ _ _ _ _ (.inr rfl), rfl, rfl⟩
  · obtain ⟨x, hx⟩ := Device.job_of_claimant hj
    have hrun : s.dev.inArray (bufferClaim true cyc) = _ := (if_pos harray).trans (bufferClaim_grants cyc hwant hj hb)
    have hjob : ((s.dev.atCyc cyc).modJob j.id fun y => y.setBufs true b).job j.id = some (x.setBufs true b) :=
      Device.job_modJob (d := s.dev.atCyc cyc) hx fun _ => rfl
    dsimp only
    rw [hrun, hjob]
    exact ⟨rfl, Device.claimOne_total hb, rfl, rfl, rfl⟩
  · obtain ⟨hhead, hjobs, hcompleted, hregs⟩ := headPublish_spec k hat hdone hmoves hnext
    exact ⟨hhead, hjobs, hcompleted, hregs, rfl, rfl⟩
  · have hrun : coalesceTimeout g k s.dev = _ := (if_pos ⟨hirq, hus, hcount, hdue⟩).trans
      (Device.completionMsg_sends (d := s.dev.at k) hen hreq hf hv)
    dsimp only
    rw [hrun]
    exact ⟨congrArg Queue.coalCount (Device.queue_setQueue _ _ _), rfl, rfl, rfl, rfl⟩

end Sys2Proof.Machine
end

section
/-! PROOFS. TAIL, the push slots and CANCEL; O32 (R343, R359 to R361, R378, R379). -/
namespace Sys2Proof.Machine

/-! ### TAIL (R343, R360) -/

theorem Device.queue_setQueue_ne (d : Device) {g k : Nat} (x : Queue) (h : k ≠ g) : (d.setQueue g x).queue k = d.queue k := by
  unfold Device.queue Device.setQueue
  rw [Store.get_set, if_neg h]

/-- Beside queue g and its count of discarded push slots, the queues and the registers stand. -/
structure Device.ResolvesPush (g : Nat) (d e : Device) : Prop where
  reg : ∀ o, o ≠ R.pw_PUSH_DISCARD_COUNT g → e.reg o = d.reg o
  queue : ∀ k, k ≠ g → e.queue k = d.queue k

theorem Device.ResolvesPush.refl (g : Nat) (d : Device) : Device.ResolvesPush g d d := ⟨fun _ _ => rfl, fun _ _ => rfl⟩

theorem Device.ResolvesPush.trans {g : Nat} {d e f : Device} (h : Device.ResolvesPush g d e) (h' : Device.ResolvesPush g e f) :
    Device.ResolvesPush g d f :=
  ⟨fun o ho => (h'.reg o ho).trans (h.reg o ho), fun k hk => (h'.queue k hk).trans (h.queue k hk)⟩

theorem Device.setQueue_resolvesPush (d : Device) (g : Nat) (x : Queue) : Device.ResolvesPush g d (d.setQueue g x) :=
  ⟨fun _ _ => rfl, fun _ hk => d.queue_setQueue_ne x hk⟩

/-- A push slot at a TAIL write is left, resolved in the queue, or counted as discarded. -/
theorem Device.resolveSlot_resolvesPush (d : Device) (g old v j : Nat) : Device.ResolvesPush g d (d.resolveSlot g old v j) := by
  unfold Device.resolveSlot
  dsimp only
  split_ifs
  · exact .refl g d
  · exact d.setQueue_resolvesPush g _
  · exact d.setQueue_resolvesPush g _
  · exact ⟨fun _ ho => (Device.reg_setReg _ _ _ _).trans (if_neg ho), fun _ _ => rfl⟩

/-- An accepted TAIL that moves stands in the queue, and its push slots are disarmed. -/
theorem Device.acceptTail_spec {d : Device} {g v : Nat} (h : v ≠ (d.queue g).tail) :
    ((d.acceptTail g v).queue g).tail = v ∧ ((d.acceptTail g v).queue g).push = [] ∧ Device.ResolvesPush g d (d.acceptTail g v) := by
  unfold Device.acceptTail
  extract_lets old d1 x idle
  have hslots : Device.ResolvesPush g d d1 := List.foldlRecOn _ _ (motive := fun e => Device.ResolvesPush g d e) (.refl g d)
    fun e he j _ => he.trans (e.resolveSlot_resolvesPush g old v j)
  rw [if_neg h]
  refine ⟨?_, ?_, hslots.trans (d1.setQueue_resolvesPush g _)⟩ <;> rw [Device.queue_setQueue]

/-- A TAIL out of range is counted and shown in STATUS. -/
def Device.rejectTail (d : Device) (g : Nat) : Device := (d.count (R.pw_TAIL_REJECT_COUNT g) 1).setF (R.pw_STATUS g) 4 1 1

theorem Device.rejectTail_reg (d : Device) (g : Nat) :
    (d.rejectTail g).rf (R.pw_STATUS g) 4 1 = 1 ∧
      (d.rejectTail g).reg (R.pw_TAIL_REJECT_COUNT g) = satAdd (d.reg (R.pw_TAIL_REJECT_COUNT g)) 1 ∧
      ∀ o, o ∉ [R.pw_TAIL_REJECT_COUNT g, R.pw_STATUS g] → (d.rejectTail g).reg o = d.reg o := by
  have hne : R.pw_TAIL_REJECT_COUNT g ≠ R.pw_STATUS g := by
    unfold R.pw_TAIL_REJECT_COUNT R.pw_STATUS
    omega
  unfold Device.rejectTail
  refine ⟨?_, ?_, fun o ho => ?_⟩
  · rw [Device.rf, Device.setF_eq, Device.reg_setReg, if_pos rfl]
    exact fld_setFld _ _ (by omega)
  · rw [Device.setF_eq, Device.reg_setReg, if_neg hne, Device.reg_count, if_pos rfl]
  · simp only [List.mem_cons, List.not_mem_nil, or_false, not_or] at ho
    rw [Device.setF_eq, Device.reg_setReg, if_neg ho.2, Device.reg_count, if_neg ho.1]

section
variable {s : State} {g : Fin 65536} {q : Req} (hw : Writes s q (R.pw_TAIL g) = true)
include hw

theorem tailWrite_accepts (hhead : u32sub q.data.toNat (s.dev.head g) ≤ 2 ^ s.dev.qN g)
    (htail : u32sub q.data.toNat (s.dev.queue g).tail ≤ 2 ^ s.dev.qN g) :
    tailWrite g q s.dev = (s.dev.at q.t).acceptTail g q.data.toNat :=
  (Device.writeAt_of_writes hw).trans (if_pos ⟨hhead, htail⟩)

theorem tailWrite_rejects (h : ¬(u32sub q.data.toNat (s.dev.head g) ≤ 2 ^ s.dev.qN g ∧
    u32sub q.data.toNat (s.dev.queue g).tail ≤ 2 ^ s.dev.qN g)) : tailWrite g q s.dev = (s.dev.at q.t).rejectTail g :=
  (Device.writeAt_of_writes hw).trans (if_neg h)

end

/-! ### Push slots (R359, R361) -/

/-- Dword k of the push-slot space of queue g. -/
def Device.pushDword (d : Device) (g k : Nat) : Word :=
  Store.get word0 (Store.get pushSlot0 (d.queue g).push (k / 16)).words (k % 16)

/-- A dword written stands at its place; every other dword stands as it was. -/
theorem Device.pushWord_dword (d : Device) (g k m : Nat) (v : Word) :
    (d.pushWord g k v).pushDword g m = if m = k then v else d.pushDword g m := by
  unfold Device.pushWord Device.pushDword
  extract_lets x j s s1
  have hwords : s1.words = s.words := by
    dsimp only [s1]
    split
    · rfl
    · rfl
  rw [Device.queue_setQueue]
  dsimp only
  rw [Store.get_set]
  by_cases hslot : m / 16 = j
  · have hmark : m % 16 ≠ 16 + k % 16 := by omega
    have hplace : m % 16 = k % 16 ↔ m = k := by omega
    rw [if_pos hslot, PushSlot.put]
    dsimp only
    rw [Store.get_set, if_neg hmark, Store.get_set, hwords, hslot]
    simp only [hplace]
    rfl
  · have hne : m ≠ k := by
      rintro rfl
      exact hslot rfl
    rw [if_neg hslot, if_neg hne]

/-- Dwords written move no TAIL and no register. -/
theorem Device.pushWords_frame (d : Device) (g k : Nat) (l : List Word) :
    ((d.pushWords g k l).queue g).tail = (d.queue g).tail ∧ (d.pushWords g k l).regs = d.regs := by
  induction l generalizing d k with
  | nil => exact ⟨rfl, rfl⟩
  | cons v l ih =>
    obtain ⟨htail, hregs⟩ := ih (d.pushWord g k v) (k + 1)
    refine ⟨htail.trans ?_, hregs⟩
    rw [Device.pushWord, Device.queue_setQueue]

/-- Dwords written leave those before them. -/
theorem Device.pushWords_before (d : Device) (g : Nat) {k m : Nat} (h : m < k) (l : List Word) :
    (d.pushWords g k l).pushDword g m = d.pushDword g m := by
  induction l generalizing d k with
  | nil => rfl
  | cons v l ih =>
    rw [Device.pushWords, ih _ (by omega), Device.pushWord_dword, if_neg (by omega)]

/-- Each of the dwords written stands at its place. -/
theorem Device.pushWords_dword (d : Device) (g k : Nat) (l : List Word) {i : Nat} {v : Word} (h : l[i]? = some v) :
    (d.pushWords g k l).pushDword g (k + i) = v := by
  induction l generalizing d k i with
  | nil => simp at h
  | cons w l ih =>
    cases i with
    | zero =>
      obtain rfl : w = v := by simpa using h
      rw [Device.pushWords, Device.pushWords_before _ _ (by omega), Device.pushWord_dword, if_pos (Nat.add_zero k)]
    | succ i =>
      rw [Device.pushWords, show k + (i + 1) = k + 1 + i by omega]
      exact ih _ _ (by simpa using h)

/-- A performed write of whole dwords inside the push slots writes them in turn. -/
theorem pushWrite_of_writes {s : State} {g : Fin 65536} {p : Port} {off k : Nat} {l : List Word}
    (hw : Writes s ⟨p, 15, 0, k⟩ (0x4000000 + 0x1000 * g.val + off) = true) (hoff : off % 4 = 0) (hl : l ≠ [])
    (hend : off + 4 * l.length ≤ 256) :
    pushWrite g p off (4 * l.length) true l k s.dev = (s.dev.at k).pushWords g (off / 4) l := by
  have hpos : 0 < l.length := List.length_pos_iff.2 hl
  have hlegal : 4 ≤ 4 * l.length ∧ 4 * l.length ≤ 256 ∧ off % 4 = 0 ∧ 4 * l.length % 4 = 0 ∧ off + 4 * l.length ≤ 256 ∧
      l.length * 4 = 4 * l.length := by omega
  refine (Device.writeAt_of_writes hw).trans (if_pos ?_)
  rw [decide_eq_true hlegal]
  rfl

/-! ### CANCEL (R378, R379) -/

/-- The cancel of a job not admitted, with no FENCE of its queue waiting, completes it. -/
theorem Device.cancelJob_unadmitted {d : Device} {j : Job} (hj : d.job j.id = some j)
    (hst : j.st = .staging ∨ j.st = .ready ∨ j.st = .posted) (hfence : (d.queue j.q).fence = none) :
    d.cancelJob j.id = d.finishNow j.id 0x02 := by
  have hnone : ((d.finishNow j.id 0x02).queue j.q).fence = none :=
    (congrArg Queue.fence ((d.finish_endsJobs _ _ _ _).queue _ hfence)).trans hfence
  rcases hst with h | h | h <;> simp [Device.cancelJob, hj, h, hnone]

/-- A job that can complete does so with its status. -/
theorem Device.finishNow_completes {d : Device} {j : Job} (status : Nat) (hj : d.job j.id = some j) (hst : j.st ≠ .completed)
    (horphan : j.orphan = false) (hfence : (d.queue j.q).fence = none) :
    ∃ x, (d.finishNow j.id status).job j.id = some x ∧ x.st = .completed ∧ x.status = status := by
  obtain ⟨e, he, hfinish⟩ := Device.finish_unfenced (status := status) (plen := 0) (hdr := true) hj hst horphan hfence
  have hjob := Device.job_modJob (f := fun x => { x.free with st := .completed, status := status, written := true })
    ((he.job_eq j.id).trans hj) fun _ => rfl
  exact ⟨_, (congrArg (Device.job · j.id) hfinish).trans hjob, rfl, rfl⟩

section
variable {s : State} {g : Fin 65536} {q : Req} (hw : Writes s q (R.pw_CANCEL g) = true)
include hw

theorem cancel_beyondTail (h : u32sub (s.dev.queue g).tail (s.dev.head g) ≤ u32sub q.data.toNat (s.dev.head g)) :
    cancel g q s.dev = (s.dev.at q.t).count R.qen_CANCEL_REJECTS 1 :=
  (Device.writeAt_of_writes hw).trans (if_pos h)

variable (htail : u32sub q.data.toNat (s.dev.head g) < u32sub (s.dev.queue g).tail (s.dev.head g))
include htail

theorem cancel_notFetched (hfetch : u32sub (s.dev.fetchIdx g) (s.dev.head g) ≤ u32sub q.data.toNat (s.dev.head g))
    (hroom : (s.dev.queue g).cancels.length < 8) : cancel g q s.dev =
      (s.dev.at q.t).setQueue g { s.dev.queue g with cancels := (s.dev.queue g).cancels ++ [q.data.toNat] } :=
  (Device.writeAt_of_writes hw).trans (((if_neg (Nat.not_le.2 htail)).trans (if_pos hfetch)).trans (if_neg (Nat.not_le.2 hroom)))

theorem cancel_fetched (hfetch : u32sub q.data.toNat (s.dev.head g) < u32sub (s.dev.fetchIdx g) (s.dev.head g)) :
    cancel g q s.dev = (s.dev.at q.t).cancelAt g q.data.toNat :=
  (Device.writeAt_of_writes hw).trans ((if_neg (Nat.not_le.2 htail)).trans (if_neg (Nat.not_le.2 hfetch)))

end

/-- With no chain open or kept, the cancel of an index finds the job there. -/
theorem Device.cancelAt_job {d : Device} {g i : Nat} {j : Job} (hchain : (d.queue g).chain = none) (hheld : (d.queue g).held = [])
    (hat : d.jobAt g i = some j) (hmay : j.noCancel = false) : d.cancelAt g i = d.cancelJob j.id := by
  simp [Device.cancelAt, hchain, hheld, hat, hmay]

/-! ### O32 -/

/-- Settles O32, range by range of the written TAIL and CANCEL, and dword by dword of a push write. -/
theorem tailsPushesAndCancels : Obligations.TailsPushesAndCancels := by
  unfold Obligations.TailsPushesAndCancels
  refine ⟨fun s g q hw => ?_, fun s g p off k l hw hoff hl hend => ⟨_, rfl, ?_⟩, fun s g q hw => ?_⟩
  · extract_lets ok
    refine ⟨fun hok hmoves => ⟨_, rfl, ?_⟩, fun hout => ⟨_, rfl, ?_⟩⟩
    · obtain ⟨htail, hpush, hframe⟩ := Device.acceptTail_spec (d := s.dev.at q.t) hmoves
      rw [tailWrite_accepts hw hok.1 hok.2]
      exact ⟨htail, hpush, fun o ho => hframe.reg o fun h => ho (List.mem_singleton.2 h), hframe.queue, rfl, rfl⟩
    · obtain ⟨hstatus, hcount, hregs⟩ := (s.dev.at q.t).rejectTail_reg g
      rw [tailWrite_rejects hw hout]
      exact ⟨rfl, hstatus, hcount, hregs, rfl, rfl⟩
  · obtain ⟨htail, hregs⟩ := (s.dev.at k).pushWords_frame g (off / 4) l
    rw [pushWrite_of_writes hw hoff hl hend]
    exact ⟨fun i v hv => Device.pushWords_dword _ _ _ _ hv, htail, hregs, rfl, rfl⟩
  · extract_lets n
    refine ⟨fun hbeyond => ⟨_, rfl, ?_⟩, fun htail hfetch hroom => ⟨_, rfl, ?_⟩,
      fun j htail hfetch hchain hheld hat hmay hst hfinish => ⟨_, rfl, ?_⟩⟩
    · rw [cancel_beyondTail hw hbeyond]
      exact ⟨rfl, rfl, (Device.reg_setReg _ _ _ _).trans (if_pos rfl), keepsRegs_setReg s _ _ _, rfl, rfl⟩
    · rw [cancel_notFetched hw htail hfetch hroom]
      exact ⟨congrArg Queue.cancels (Device.queue_setQueue _ _ _), rfl, rfl, rfl, rfl⟩
    · obtain ⟨hj, hopen, horphan, hfence⟩ := hfinish
      rw [cancel_fetched hw htail hfetch, Device.cancelAt_job (d := s.dev.at q.t) hchain hheld hat hmay,
        Device.cancelJob_unadmitted (d := s.dev.at q.t) hj hst hfence]
      exact ⟨Device.finishNow_completes (d := s.dev.at q.t) _ hj hopen horphan hfence, rfl, rfl⟩

end Sys2Proof.Machine
end

section
/-! PROOFS. The timer of a chain left open, which starts at the turn and not at the end of its ring read; O33 refuted (R355, R356, R371). -/
namespace Sys2Proof.Machine

/-- A device whose queue 0 has one entry to fetch, its function and its tenant ready for it. -/
def oneEntryToFetch : Device :=
  let d := (Device.reset.setFn 2 { fn0 2 with bme := true }).setQueue 0 { queue0 0 with tail := 1 }
  (((d.setN (R.qst_QCTL 0) 1).setN (R.qst_SERVICE 0) (1 + 256 * 4)).setN (R.ten_TEN_CFG 0) 1).setN (R.ten_JOBS_QUOTA 0) 1

/-- The state in which the turn of queue 0 that began at tick 2000 waits for its ring read. -/
def ringReadPending : State := { State.reset with dev := serviceTurn 2000 oneEntryToFetch }

/-- A head entry that is not the last of its chain. -/
def headNotLast : Desc := ⟨1, 0, 0, 0, 0, 0, 0, 0, 0, 0, 0⟩

theorem ringReadPending_handsOver : HandsOver ringReadPending.dev 0 := by
  unfold HandsOver
  decide +kernel

/-- When that read ends at tick 5000 with a head entry that is not LAST, the timer of the chain it opens has run since tick 2000, where
the turn began (R356). -/
theorem openedChain_since : ((entryFetched 0 (.data headNotLast) 5000 ringReadPending.dev).queue 0).chain.bind Chain.since = some 2000 := by
  decide +kernel

/-- Refutes O33: the statement starts the timer of the opened chain at the tick of ENTRY_FETCHED, here 5000; the model starts it at the
turn's, here 2000, as R356 says. -/
theorem not_turnsFetchEntriesAndMakeJobs : ¬ Obligations.TurnsFetchEntriesAndMakeJobs := by
  unfold Obligations.TurnsFetchEntriesAndMakeJobs
  rintro ⟨-, hfetched, -⟩
  obtain ⟨-, hopen⟩ := hfetched ringReadPending 0 5000 ⟨1, 4, true, false, false⟩ headNotLast (by decide +kernel) rfl (by decide +kernel)
    (by decide +kernel) (by decide +kernel) (by decide +kernel) ringReadPending_handsOver (by decide +kernel) (by decide +kernel)
  obtain ⟨t, ht, -, -, hchain, -⟩ := hopen (by decide +kernel)
  obtain rfl : _ = t := Host.Outcome.next.inj ht
  have hsince : some 2000 = some (ringReadPending.dev.at 5000).now.tick :=
    openedChain_since.symm.trans (congrArg (Option.bind · Chain.since) hchain)
  exact absurd hsince (by decide +kernel)

end Sys2Proof.Machine
end

section
/-! PROOFS. The reset of a queue, its end and its watchdog; what a tenant's SKL_CMD loads and removes; O35 (R383, R384, R400, R401). -/
namespace Sys2Proof.Machine

/-! ### What leaves the jobs, the queues and the clock -/

/-- The jobs, the queues and the clock are as they were. -/
structure Device.SparesQueues (d e : Device) : Prop where
  jobs : e.jobs = d.jobs
  queues : e.queues = d.queues
  now : e.now = d.now

theorem Device.SparesQueues.refl (d : Device) : d.SparesQueues d := ⟨rfl, rfl, rfl⟩

theorem Device.SparesQueues.trans {d e f : Device} (h : d.SparesQueues e) (h' : e.SparesQueues f) : d.SparesQueues f :=
  ⟨h'.jobs.trans h.jobs, h'.queues.trans h.queues, h'.now.trans h.now⟩

theorem Device.SparesQueues.queue_eq {d e : Device} (h : d.SparesQueues e) (g : Nat) : e.queue g = d.queue g :=
  congrArg (Store.get queue0 · g) h.queues

theorem Device.Speaks.sparesQueues {d e : Device} (h : d.Speaks e) : d.SparesQueues e :=
  ⟨(congrArg Device.jobs h :), (congrArg Device.queues h :), (congrArg Device.now h :)⟩

theorem Device.setReg_sparesQueues (d : Device) (o : Nat) (v : Word) : d.SparesQueues (d.setReg o v) := ⟨rfl, rfl, rfl⟩

/-- HEAD is mirrored in host memory, or its write is dropped and counted (R376). -/
theorem Device.writeMirror_sparesQueues (d : Device) (g : Nat) : d.SparesQueues (d.writeMirror g) := by
  unfold Device.writeMirror
  split
  · have h := d.hostWrite_sparesPipes (vfOf g) (d.rn64 (R.qst_MIRROR_LO g)) (leBytes 4 (d.head g))
    exact ⟨h.jobs, h.queues, h.now⟩
  · exact .refl d

theorem Device.writeMirror_reg (d : Device) (g : Nat) {o : Nat} (ho : o ≠ R.hif_BME_DROPPED) : (d.writeMirror g).reg o = d.reg o := by
  unfold Device.writeMirror
  split
  · exact d.hostWrite_reg _ _ _ ho
  · rfl

theorem Device.clearPushCounts_sparesQueues (d : Device) (g : Nat) : d.SparesQueues (d.clearPushCounts g) := by
  have h : { d.clearPushCounts g with regs := d.regs } = d := d.zeroRegs_frame _
  exact ⟨(congrArg Device.jobs h :), (congrArg Device.queues h :), (congrArg Device.now h :)⟩

/-- The push-window counts stand in the push windows, above the other registers. -/
theorem Device.clearPushCounts_reg (d : Device) (g : Nat) {o : Nat} (ho : o < 0x4000000) : (d.clearPushCounts g).reg o = d.reg o := by
  refine (d.zeroRegs_reg _ o).trans (if_neg fun hm => ?_)
  simp only [List.mem_cons, List.not_mem_nil, or_false, R.pw_RUNAHEAD_DISCARD, R.pw_TAIL_REJECT_COUNT, R.pw_PUSH_DISCARD_COUNT,
    R.pw_RESTAMP_COUNT, R.pw_STATUS] at hm
  omega

/-! ### The jobs that a queue reset loses (R383) -/

theorem Device.finishRaw_now (d : Device) (id status plen : Nat) (hdr : Bool) : (d.finishRaw id status plen hdr).now = d.now := by
  unfold Device.finishRaw
  split
  · rfl
  · next j _ =>
    extract_lets d1 d2
    have h1 : d1.now = d.now := (d.cancelJobEntries_sparesPipes _).now
    have h2 : d2.now = d.now := by
      dsimp only [d2]
      split
      · exact (d1.writeHeader_sparesPipes j status plen).now.trans h1
      · exact h1
    clear_value d2
    split_ifs
    · rfl
    · exact h2
    · exact h2

theorem Device.finish_now (d : Device) (id status plen : Nat) (hdr : Bool) : (d.finish id status plen hdr).now = d.now := by
  have hraw := d.finishRaw_now id status plen hdr
  unfold Device.finish Device.fenceCheck
  split
  · rfl
  · extract_lets x
    split
    · exact hraw
    · split
      · exact (Device.finishRaw_now _ _ _ _ _).trans hraw
      · exact hraw

theorem Device.abandonJob_now (d : Device) (id status : Nat) (hdr : Bool) : (d.abandonJob id status hdr).now = d.now := by
  unfold Device.abandonJob
  split
  · rfl
  · next j _ =>
    have hgone : ((d.cancelJobEntries (· == id)).unplaceJob id).now = d.now := (d.cancelJobEntries_sparesPipes _).now
    split_ifs
    · rfl
    · rfl
    · exact ((Device.writeHeader_sparesPipes _ j status 0).now).trans hgone
    · exact hgone
    · exact d.finish_now _ _ _ _

/-- The queue whose jobs are lost stands with no FENCE waiting, the clock stands, and of its jobs only those that a reset had left behind
are in the tracker. -/
theorem Device.loseJobs_spec {d : Device} {g : Nat} (hfence : (d.queue g).fence = none) :
    (d.loseJobs g).queue g = d.queue g ∧ (d.loseJobs g).now = d.now ∧ ∀ j ∈ (d.loseJobs g).jobs, j.q = g → j.orphan = true := by
  unfold Device.loseJobs
  extract_lets mine l d1 d2
  have hq1 : d1.queue g = d.queue g := (Device.EndsJobs.foldl l (fun e j _ => e.abandonJob_endsJobs j.id 0x3F true) d).queue g hfence
  have hn1 : d1.now = d.now := foldl_keeps Device.now (fun e j _ => e.abandonJob_now j.id 0x3F true) d
  have hq2 : d2.queues = d1.queues := foldl_keeps Device.queues (fun e j _ => by split <;> rfl) d1
  have hn2 : d2.now = d1.now := foldl_keeps Device.now (fun e j _ => by split <;> rfl) d1
  refine ⟨(congrArg (Store.get queue0 · g) hq2).trans hq1, hn2.trans hn1, fun j hj hq => ?_⟩
  have hkept := (List.mem_filter.1 hj).2
  simpa [mine, hq] using hkept

/-! ### QUEUE_CMD RESET (R383) -/

/-- The device in which queue g holds nothing and its jobs are lost (R383, step 1 and the queue engine's part of step 3). -/
def Device.emptyQueue (d : Device) (g : Nat) : Device := (d.setQueue g (d.queue g).cleared).loseJobs g

theorem Device.emptyQueue_spec (d : Device) (g : Nat) : (d.emptyQueue g).queue g = (d.queue g).cleared ∧ (d.emptyQueue g).now = d.now ∧
    ∀ j ∈ (d.emptyQueue g).jobs, j.q = g → j.orphan = true := by
  have hcleared := d.queue_setQueue g (d.queue g).cleared
  obtain ⟨hqueue, hnow, hjobs⟩ := Device.loseJobs_spec ((congrArg Queue.fence hcleared).trans rfl)
  exact ⟨hqueue.trans hcleared, hnow, hjobs⟩

/-- HEAD and FETCH_IDX pass to TAIL, what the queue was is recorded, and its QSTATUS marks are cleared (R383, steps 2 and 3). -/
def Device.passTail (d : Device) (g tail fetch head : Nat) : Device :=
  (((((d.setN (R.qst_HEAD g) tail).setN (R.qst_FETCH_IDX g) tail).writeMirror g).setN R.qen_RESET_ABANDONED (u32sub tail fetch)).setN
    R.qen_RESET_OLD_HEAD head).setF (R.qst_QSTATUS g) 2 4 0

theorem Device.passTail_sparesQueues (d : Device) (g tail fetch head : Nat) : d.SparesQueues (d.passTail g tail fetch head) :=
  have hset : d.SparesQueues ((d.setN (R.qst_HEAD g) tail).setN (R.qst_FETCH_IDX g) tail) := ⟨rfl, rfl, rfl⟩
  (((hset.trans (Device.writeMirror_sparesQueues _ g)).trans (Device.setReg_sparesQueues _ _ _)).trans
    (Device.setReg_sparesQueues _ _ _)).trans (Device.setReg_sparesQueues _ _ _)

theorem Device.passTail_reg (d : Device) (g tail fetch head : Nat) :
    (d.passTail g tail fetch head).reg (R.qst_HEAD g) = wd tail ∧ (d.passTail g tail fetch head).reg (R.qst_FETCH_IDX g) = wd tail ∧
      (d.passTail g tail fetch head).reg R.qen_RESET_OLD_HEAD = wd head := by
  have hreg : ∀ o, o ≠ R.qst_QSTATUS g → o ≠ R.qen_RESET_ABANDONED → o ≠ R.hif_BME_DROPPED →
      (d.passTail g tail fetch head).reg o = if o = R.qen_RESET_OLD_HEAD then wd head else
        if o = R.qst_FETCH_IDX g then wd tail else if o = R.qst_HEAD g then wd tail else d.reg o := fun o hstatus hcount hbme => by
    rw [Device.passTail, Device.setF_eq, Device.reg_setReg, if_neg hstatus, Device.setN_eq, Device.reg_setReg, Device.setN_eq,
      Device.reg_setReg, if_neg hcount, Device.writeMirror_reg _ _ hbme, Device.setN_eq, Device.reg_setReg, Device.setN_eq,
      Device.reg_setReg]
  simp only [R.qst_FETCH_IDX, R.qst_HEAD, R.qst_QSTATUS, R.qen_RESET_OLD_HEAD, R.qen_RESET_ABANDONED, R.hif_BME_DROPPED] at hreg ⊢
  refine ⟨?_, ?_, ?_⟩
  · rw [hreg _ (by omega) (by omega) (by omega), if_neg (by omega), if_neg (by omega), if_pos rfl]
  · rw [hreg _ (by omega) (by omega) (by omega), if_neg (by omega), if_pos rfl]
  · rw [hreg _ (by omega) (by omega) (by omega), if_pos rfl]

/-- The counts of the queue start again (R383, step 3). -/
def Device.clearCounts (d : Device) (g : Nat) : Device := ((d.clearPushCounts g).setN (R.qst_COMPLETED g) 0).clearQueueCounts g

theorem Device.clearCounts_sparesQueues (d : Device) (g : Nat) : d.SparesQueues (d.clearCounts g) :=
  (d.clearPushCounts_sparesQueues g).trans ⟨rfl, rfl, rfl⟩

theorem Device.clearCounts_reg (d : Device) (g : Nat) {o : Nat} (hlow : o < 0x4000000) (ho : o ≠ R.qst_COMPLETED g) :
    (d.clearCounts g).reg o = d.reg o := by
  have htrace : ∀ e : Device, (e.clearQueueCounts g).reg o = e.reg o := fun _ => rfl
  rw [Device.clearCounts, htrace, Device.setN_eq, Device.reg_setReg, if_neg ho, Device.clearPushCounts_reg _ _ hlow]

/-- The reset is in progress from now on, and RESETTING and BUSY show it (R383). -/
def Device.showReset (d : Device) (g : Nat) : Device :=
  ((d.setQueue g { d.queue g with resetTick := some d.now.tick }).setF (R.qst_QSTATUS g) 6 1 1).setF R.qen_QUEUE_CMD_STATUS 0 1 1

theorem Device.showReset_units (d : Device) (g : Nat) :
    (d.showReset g).queue g = { d.queue g with resetTick := some d.now.tick } ∧ (d.showReset g).jobs = d.jobs :=
  ⟨d.queue_setQueue g _, rfl⟩

theorem Device.showReset_reg (d : Device) (g : Nat) {o : Nat} (hstatus : o ≠ R.qst_QSTATUS g) (hbusy : o ≠ R.qen_QUEUE_CMD_STATUS) :
    (d.showReset g).reg o = d.reg o :=
  ((Device.reg_setReg _ _ _ _).trans (if_neg hbusy)).trans ((Device.reg_setReg _ _ _ _).trans (if_neg hstatus))

theorem Device.showReset_status (d : Device) (g : Nat) : (d.showReset g).qStat g 6 = true := by
  refine decide_eq_true ?_
  rw [Device.rf, Device.showReset, Device.setF_eq, Device.reg_setReg, if_neg (by unfold R.qst_QSTATUS R.qen_QUEUE_CMD_STATUS; omega),
    Device.setF_eq, Device.reg_setReg, if_pos rfl]
  exact fld_setFld _ _ (by omega)

theorem Device.resetQueue_eq (d : Device) (g : Nat) : d.resetQueue g =
    (((d.emptyQueue g).passTail g (d.queue g).tail (d.fetchIdx g) (d.head g)).clearCounts g).showReset g := rfl

/-- The queue is cleared but for the tick of its reset, and only jobs that await their frame are left of it. -/
theorem Device.resetQueue_units (d : Device) (g : Nat) :
    (d.resetQueue g).queue g = { (d.queue g).cleared with resetTick := some d.now.tick } ∧
      ∀ j ∈ (d.resetQueue g).jobs, j.q = g → j.orphan = true := by
  obtain ⟨hqueue, hnow, hjobs⟩ := d.emptyQueue_spec g
  rw [Device.resetQueue_eq]
  have hspares := ((d.emptyQueue g).passTail_sparesQueues g (d.queue g).tail (d.fetchIdx g) (d.head g)).trans
    (Device.clearCounts_sparesQueues _ g)
  generalize ((d.emptyQueue g).passTail g (d.queue g).tail (d.fetchIdx g) (d.head g)).clearCounts g = e at hspares
  obtain ⟨hshown, hkept⟩ := e.showReset_units g
  rw [hshown, hkept, hspares.queue_eq, hqueue, hspares.now, hnow, hspares.jobs]
  exact ⟨rfl, hjobs⟩

/-- HEAD and FETCH_IDX are TAIL, RESET_OLD_HEAD holds HEAD as it was, and RESETTING reads 1. -/
theorem Device.resetQueue_regs (d : Device) {g : Nat} (hg : g < 65536) :
    (d.resetQueue g).reg (R.qst_HEAD g) = wd (d.queue g).tail ∧ (d.resetQueue g).reg (R.qst_FETCH_IDX g) = wd (d.queue g).tail ∧
      (d.resetQueue g).reg R.qen_RESET_OLD_HEAD = wd (d.head g) ∧ (d.resetQueue g).qStat g 6 = true := by
  obtain ⟨hhead, hfetch, hold⟩ := (d.emptyQueue g).passTail_reg g (d.queue g).tail (d.fetchIdx g) (d.head g)
  rw [Device.resetQueue_eq]
  refine ⟨?_, ?_, ?_, Device.showReset_status _ g⟩
  · rw [Device.showReset_reg, Device.clearCounts_reg, hhead] <;>
      simp only [R.qst_HEAD, R.qst_COMPLETED, R.qst_QSTATUS, R.qen_QUEUE_CMD_STATUS] <;> omega
  · rw [Device.showReset_reg, Device.clearCounts_reg, hfetch] <;>
      simp only [R.qst_FETCH_IDX, R.qst_COMPLETED, R.qst_QSTATUS, R.qen_QUEUE_CMD_STATUS] <;> omega
  · rw [Device.showReset_reg, Device.clearCounts_reg, hold] <;>
      simp only [R.qen_RESET_OLD_HEAD, R.qst_COMPLETED, R.qst_QSTATUS, R.qen_QUEUE_CMD_STATUS] <;> omega

section
variable {s : State} {q : Req} (hw : Writes s q R.qen_QUEUE_CMD = true) (hcmd : fld q.data 16 2 = 1)
include hw hcmd

theorem queueReset_acts : queueReset q s.dev = ((s.dev.at q.t).queueResetCmd (fld q.data 0 16)).2 :=
  (if_neg (not_not.2 hcmd)).trans (Device.writeAt_of_writes hw)

theorem queueReset_refuses (hen : s.dev.qEnabled (fld q.data 0 16) = true) : queueReset q s.dev =
    ((s.dev.at q.t).err 0x101000 0x0100 (wd (fld q.data 0 16)) 0).setF R.qen_QUEUE_CMD_STATUS 1 1 1 :=
  (queueReset_acts hw hcmd).trans (congrArg Prod.snd (if_pos hen))

theorem queueReset_resets (hdis : s.dev.qEnabled (fld q.data 0 16) = false) (hidle : (s.dev.queue (fld q.data 0 16)).resetTick = none) :
    queueReset q s.dev = ((s.dev.at q.t).setF R.qen_QUEUE_CMD_STATUS 1 1 0).resetQueue (fld q.data 0 16) :=
  (queueReset_acts hw hcmd).trans (congrArg Prod.snd ((if_neg (Bool.eq_false_iff.1 hdis)).trans
    (if_neg (Bool.eq_false_iff.1 (congrArg Option.isSome hidle)))))

end

/-- A refused RESET is shown in QUEUE_CMD_STATUS and counted in ERR_COUNT of the page (R54, R383). -/
theorem Device.refuseReset_spec (d : Device) (g : Nat) :
    let e := (d.err 0x101000 0x0100 (wd g) 0).setF R.qen_QUEUE_CMD_STATUS 1 1 1
    e.queues = d.queues ∧ e.jobs = d.jobs ∧ e.rf R.qen_QUEUE_CMD_STATUS 1 1 = 1 ∧
      e.reg (0x101000 + 0x34) = satAdd (d.reg (0x101000 + 0x34)) 1 := by
  have h := (d.err_speaks 0x101000 0x0100 (wd g) 0).sparesQueues
  refine ⟨h.queues, h.jobs, ?_, ?_⟩
  · rw [Device.rf, Device.setF_eq, Device.reg_setReg, if_pos rfl]
    exact fld_setFld _ _ (by omega)
  · exact ((Device.reg_setReg _ _ _ _).trans (if_neg (by decide))).trans (d.err_count _ _ _ _ (by decide))

/-! ### The end of a queue reset (R383) -/

/-- The reset of queue g is no longer in progress, and RESETTING reads 0. -/
def Device.endReset (d : Device) (g : Nat) : Device :=
  (d.setQueue g { d.queue g with resetTick := none }).setF (R.qst_QSTATUS g) 6 1 0

theorem Device.endReset_status (d : Device) (g : Nat) : fld ((d.endReset g).reg (R.qst_QSTATUS g)) 6 1 = 0 := by
  rw [Device.endReset, Device.setF_eq, Device.reg_setReg, if_pos rfl]
  exact fld_setFld _ _ (by omega)

/-- BUSY reads 0 once no queue's reset is in progress. -/
def Device.clearBusy (d : Device) : Device :=
  if d.queues.any fun e => e.2.resetTick.isSome then d else d.setF R.qen_QUEUE_CMD_STATUS 0 1 0

theorem Device.clearBusy_sparesQueues (d : Device) : d.SparesQueues d.clearBusy := by
  unfold Device.clearBusy
  split
  · exact .refl d
  · exact d.setReg_sparesQueues _ _

theorem Device.clearBusy_reg (d : Device) {o : Nat} (ho : o ≠ R.qen_QUEUE_CMD_STATUS) : d.clearBusy.reg o = d.reg o := by
  unfold Device.clearBusy
  split
  · rfl
  · exact (Device.reg_setReg _ _ _ _).trans (if_neg ho)

theorem queueResetDone_ends {d : Device} {g : Fin 65536} (k : Nat) (hbusy : (d.queue g).resetTick ≠ none) :
    queueResetDone g k d = ((d.at k).endReset g).clearBusy.evtBit 0x100000 19 :=
  if_neg (mt Option.isNone_iff_eq_none.1 hbusy)

theorem queueResetDone_spec {d : Device} {g : Fin 65536} (k : Nat) (hbusy : (d.queue g).resetTick ≠ none) :
    ((queueResetDone g k d).queue g).resetTick = none ∧ (queueResetDone g k d).qStat g 6 = false ∧ (queueResetDone g k d).jobs = d.jobs := by
  rw [queueResetDone_ends k hbusy]
  have hspares := ((d.at k).endReset g).clearBusy_sparesQueues.trans (Device.evtBit_speaks _ 0x100000 19).sparesQueues
  have hreg : (((d.at k).endReset g).clearBusy.evtBit 0x100000 19).reg (R.qst_QSTATUS g) = ((d.at k).endReset g).reg (R.qst_QSTATUS g) := by
    rw [Device.evtBit_reg, if_neg, Device.clearBusy_reg] <;>
      simp only [R.qst_QSTATUS, R.qen_QUEUE_CMD_STATUS, R.hif_MSIX_DROPPED] <;> omega
  refine ⟨?_, ?_, hspares.jobs⟩
  · rw [hspares.queue_eq]
    exact congrArg Queue.resetTick ((d.at k).queue_setQueue g _)
  · rw [Device.qStat, Device.rf, hreg, Device.endReset_status]
    rfl

/-! ### The watchdog (R384) -/

/-- The first error of a queue is recorded in QERR, QERR_IDX and QERR_ADDR (Table 14.2). -/
theorem Device.queueErr_sparesQueues (d : Device) (g cause idx addr : Nat) : d.SparesQueues (d.queueErr g cause idx addr) := by
  unfold Device.queueErr
  split
  · exact .refl d
  · exact ⟨rfl, rfl, rfl⟩

theorem Device.queueErr_status (d : Device) (g cause idx addr : Nat) :
    (d.queueErr g cause idx addr).reg (R.qst_QSTATUS g) = d.reg (R.qst_QSTATUS g) := by
  unfold Device.queueErr
  split
  · rfl
  · rw [Device.reg_setN64 _ _ (by simp only [List.mem_cons, List.not_mem_nil, or_false, R.qst_QSTATUS, R.qst_QERR_ADDR_LO]; omega),
      Device.setN_eq, Device.reg_setReg, if_neg (by unfold R.qst_QSTATUS R.qst_QERR_IDX; omega), Device.setN_eq, Device.reg_setReg,
      if_neg (by unfold R.qst_QSTATUS R.qst_QERR; omega)]

/-- A fault whose record the spec does not give takes it from free values; the fault log records it (R598). -/
theorem Device.faultOpen_sparesQueues (d : Device) (src cls : Nat) : d.SparesQueues (d.faultOpen src cls) :=
  .trans (e := d.fresh.2.fresh.2.fresh.2) ⟨rfl, rfl, rfl⟩ (Device.faultLog_speaks _ _ _ _ _ _).sparesQueues

theorem Device.faultOpen_reg (d : Device) (src cls : Nat) {o : Nat} (ho : o ∉ faultRegs) : (d.faultOpen src cls).reg o = d.reg o :=
  Device.faultLog_reg d.fresh.2.fresh.2.fresh.2 _ _ _ _ _ o ho

/-- The device in which the watchdog has found queue g stalled (R384). -/
def Device.stallQueue (d : Device) (g : Nat) : Device :=
  (((d.setF (R.qst_QSTATUS g) 5 1 1).queueErr g 3 (d.head g) 0).evtBit 0x100000 16).faultOpen 0x100000 1

theorem Device.stallQueue_sparesQueues (d : Device) (g : Nat) : d.SparesQueues (d.stallQueue g) :=
  (((d.setReg_sparesQueues _ _).trans (Device.queueErr_sparesQueues _ _ _ _ _)).trans (Device.evtBit_speaks _ _ _).sparesQueues).trans
    (Device.faultOpen_sparesQueues _ _ _)

theorem Device.stallQueue_status (d : Device) (g : Nat) : (d.stallQueue g).qStat g 5 = true := by
  have hreg : (d.stallQueue g).reg (R.qst_QSTATUS g) = setFld (d.reg (R.qst_QSTATUS g)) 5 1 1 := by
    rw [Device.stallQueue, Device.faultOpen_reg _ _ _ (notMem_faultRegs_above (by unfold R.qst_QSTATUS; omega)),
      Device.evtBit_reg _ _ _ _ (by unfold R.qst_QSTATUS R.hif_MSIX_DROPPED; omega), if_neg (by unfold R.qst_QSTATUS; omega),
      Device.queueErr_status, Device.setF_eq, Device.reg_setReg, if_pos rfl]
  exact decide_eq_true (by rw [Device.rf, hreg]; exact fld_setFld _ _ (by omega))

/-! ### SKL_CMD (R400, R401) -/

theorem Device.sklResult_keepsRegs (d : Device) (t result reason o : Nat) (ho : o ∉ [R.ten_SKL_STATUS t]) :
    (d.sklResult t result reason).reg o = d.reg o :=
  (d.reg_setReg _ _ _).trans (if_neg (by simpa using ho))

theorem Device.libAt_setLib (d : Device) (x : Nat) (e : LibEntry) (y : Nat) :
    ({ d with lib := Store.set lib0 d.lib x e } : Device).libAt y = if y = x then e else d.libAt y :=
  Store.get_set d.lib x y e

/-- The load that a tenant's SKL_CMD starts from the host address that its source maps to. -/
def sklLoader (d : Device) (n x a : Nat) : Loader :=
  ⟨2, 0, x, 2 + n, true, a, some (d.rn (R.ten_SKL_LEN n)), some n, true, [], [], 0⟩

theorem Device.startLoad_skl (d : Device) (n x a : Nat) :
    let e := d.startLoad (sklLoader d n x a)
    e.loadSt = 1 ∧ e.rn (R.ten_SKL_STATUS n) = 1 ∧ e.loader = sklLoader d n x a ∧
      ∀ o, o ∉ [R.skm_LOAD_STATUS, R.skm_LOAD_FAIL, R.ten_SKL_STATUS n] → e.reg o = d.reg o := by
  extract_lets e
  have hreg : ∀ o, e.reg o = if o = R.ten_SKL_STATUS n then wd 1 else if o = R.skm_LOAD_FAIL then wd 0 else
      if o = R.skm_LOAD_STATUS then wd 1 else d.reg o := fun o =>
    (Device.reg_setReg _ _ _ _).trans (by rw [Device.setN_eq, Device.reg_setReg]; exact congrArg _ (congrArg _ (Device.reg_setReg _ _ _ _)))
  have hstatus : R.skm_LOAD_STATUS ≠ R.ten_SKL_STATUS n := by
    unfold R.skm_LOAD_STATUS R.ten_SKL_STATUS
    omega
  refine ⟨Device.loadSt_of_reg ?_ (by omega), Device.rn_setN _ _ (by decide), rfl, fun o ho => ?_⟩
  · rw [hreg, if_neg hstatus, if_neg (by decide), if_pos rfl]
  · simp only [List.mem_cons, List.not_mem_nil, or_false, not_or] at ho
    obtain ⟨hload, hfail, hskl⟩ := ho
    rw [hreg, if_neg hskl, if_neg hfail, if_neg hload]

section
variable {s : State} {n : Fin 1024} {q : Req} (hw : Writes s q (R.ten_SKL_CMD n) = true) (hgo : fld q.data 31 1 = 1) {x : Nat}
  (hx : fld q.data 16 14 = x)
include hw hgo hx

theorem sklCmd_acts {op : Nat} (hop : fld q.data 0 2 = op) (act : Nat → Device → Device) :
    sklCmd n q op act s.dev = act x (s.dev.at q.t) := by
  unfold sklCmd
  rw [if_neg (by omega), Device.writeAt_of_writes hw, hx]

section
variable (hop : fld q.data 0 2 = 1)
include hop

theorem sklLoad_unmapped
    (hmap : (s.dev.at q.t).winMap n ((s.dev.at q.t).rn64 (R.ten_SKL_SRC_LO n)) ((s.dev.at q.t).rn (R.ten_SKL_LEN n)) 1 = none) :
    sklLoad n q s.dev = (s.dev.at q.t).sklResult n 3 1 := by
  unfold sklLoad
  rw [sklCmd_acts hw hgo hx hop]
  simp only [hmap]

theorem sklLoad_starts {a : Nat}
    (hmap : (s.dev.at q.t).winMap n ((s.dev.at q.t).rn64 (R.ten_SKL_SRC_LO n)) ((s.dev.at q.t).rn (R.ten_SKL_LEN n)) 1 = some a)
    (hlen : s.dev.rn (R.ten_SKL_LEN n) ≠ 0) (hne : x ≠ 0) (hfree : s.dev.loadFree = true) :
    sklLoad n q s.dev = (s.dev.at q.t).startLoad (sklLoader s.dev n x a) := by
  have hok : ¬((s.dev.at q.t).rn (R.ten_SKL_LEN n) = 0 ∨ x = 0) := not_or.2 ⟨hlen, hne⟩
  have hidle : (s.dev.at q.t).loadFree = true := hfree
  unfold sklLoad
  rw [sklCmd_acts hw hgo hx hop]
  simp only [hmap, hok, hidle, if_false, Bool.not_true, Bool.false_eq_true]
  rfl

end

section
variable (hop : fld q.data 0 2 = 2)
include hop

theorem sklRemove_notOwned (howner : (s.dev.libAt x).owner ≠ some n.val) : sklRemove n q s.dev = (s.dev.at q.t).sklResult n 3 2 :=
  (sklCmd_acts hw hgo hx hop _).trans (if_pos (.inr howner))

theorem sklRemove_unused (hst : (s.dev.libAt x).st = 2) (howner : (s.dev.libAt x).owner = some n.val) (hunused : s.dev.skimUsed x = false) :
    sklRemove n q s.dev = ({ s.dev.at q.t with lib := Store.set lib0 s.dev.lib x (lib0 0) } : Device).sklResult n 2 0 :=
  (sklCmd_acts hw hgo hx hop _).trans ((if_neg (not_or.2 ⟨not_not.2 hst, not_not.2 howner⟩)).trans (if_neg (Bool.eq_false_iff.1 hunused)))

end

end

/-! ### O35 -/

/-- Settles O35, command by command: the reset of a queue, its end, the watchdog, and what SKL_CMD loads and removes. -/
theorem queueResetsWatchdogAndTenantSkims : Obligations.QueueResetsWatchdogAndTenantSkims := by
  unfold Obligations.QueueResetsWatchdogAndTenantSkims
  refine ⟨fun s q g hw hcmd hg => ⟨fun hdis hidle => ⟨_, rfl, ?_⟩, fun hen => ⟨_, rfl, ?_⟩⟩, fun s g k hbusy => ⟨_, rfl, ?_⟩,
    fun s g k hen hweight hwdog hclear hmoving hdue => ⟨_, rfl, ?_⟩, fun s n q hw hgo x hx => ?_⟩
  · subst hg
    obtain ⟨hqueue, hlost⟩ := ((s.dev.at q.t).setF R.qen_QUEUE_CMD_STATUS 1 1 0).resetQueue_units (fld q.data 0 16)
    obtain ⟨hhead, hfetch, hold, hstatus⟩ := ((s.dev.at q.t).setF R.qen_QUEUE_CMD_STATUS 1 1 0).resetQueue_regs (fld_lt q.data 0 16)
    have hkept : ((s.dev.at q.t).setF R.qen_QUEUE_CMD_STATUS 1 1 0).head (fld q.data 0 16) = s.dev.head (fld q.data 0 16) :=
      congrArg BitVec.toNat ((Device.reg_setReg _ _ _ _).trans (if_neg (by unfold R.qst_HEAD R.qen_QUEUE_CMD_STATUS; omega)))
    dsimp only
    rw [queueReset_resets hw hcmd hdis hidle]
    refine ⟨hstatus, congrArg Queue.resetTick hqueue, congrArg Queue.chain hqueue, congrArg Queue.held hqueue, congrArg Queue.push hqueue,
      hhead, hfetch, ?_, hlost, rfl, rfl⟩
    rw [Device.rn, hold, hkept, Device.head, Device.rn, wd, BitVec.ofNat_toNat, BitVec.setWidth_eq]
  · subst hg
    obtain ⟨hqueues, hjobs, hstatus, hcount⟩ := (s.dev.at q.t).refuseReset_spec (fld q.data 0 16)
    dsimp only
    rw [queueReset_refuses hw hcmd hen]
    exact ⟨hqueues, hjobs, hstatus, hcount, rfl, rfl⟩
  · obtain ⟨hnone, hstatus, hjobs⟩ := queueResetDone_spec k hbusy
    exact ⟨hnone, hstatus, hjobs, rfl, rfl⟩
  · have hrun : queueWdog g k s.dev = (s.dev.at k).stallQueue g := if_pos ⟨hen, hweight, hwdog, hclear, .inl hmoving, hdue⟩
    have hspares := (s.dev.at k).stallQueue_sparesQueues g
    dsimp only
    rw [hrun]
    exact ⟨Device.stallQueue_status _ _, hspares.jobs, hspares.queues, rfl, rfl⟩
  · extract_lets m
    refine ⟨fun hop hmap => ⟨_, rfl, ?_⟩, fun a hop hmap hlen hne hfree => ⟨_, rfl, ?_⟩, fun hop howner => ⟨_, rfl, ?_⟩,
      fun hop hst howner hunused => ⟨_, rfl, ?_⟩⟩
    · dsimp only
      rw [sklLoad_unmapped hw hgo hx hop hmap]
      exact ⟨Device.rn_setN _ _ (by decide), rfl, Device.sklResult_keepsRegs _ _ _ _, rfl, rfl⟩
    · obtain ⟨hstate, hstatus, hloader, hregs⟩ := (s.dev.at q.t).startLoad_skl n x a
      dsimp only
      rw [sklLoad_starts hw hgo hx hop hmap hlen hne hfree]
      exact ⟨hstate, hstatus, hloader, hregs, rfl, rfl⟩
    · dsimp only
      rw [sklRemove_notOwned hw hgo hx hop howner]
      exact ⟨Device.rn_setN _ _ (by decide), rfl, Device.sklResult_keepsRegs _ _ _ _, rfl, rfl⟩
    · have hlib := (s.dev.at q.t).libAt_setLib x (lib0 0)
      dsimp only
      rw [sklRemove_unused hw hgo hx hop hst howner hunused]
      exact ⟨Device.rn_setN _ _ (by decide), (hlib x).trans (if_pos rfl), fun y hy => (hlib y).trans (if_neg hy),
        Device.sklResult_keepsRegs _ _ _ _, rfl, rfl⟩

end Sys2Proof.Machine
end

section
/-! PROOFS. What every command keeps: the queue of commands, and the soundness of the harts and their scratchpad; O1, O2, O3, O59, O60. -/
namespace Sys2Proof.Machine

/-! ### Sound harts -/

theorem HartOk.pc_word {x : Hart} (hx : HartOk x) : x.pc % 4 = 0 := hx.1

theorem HartOk.cur_word {x : Hart} (hx : HartOk x) : x.cur % 4 = 0 := by
  obtain ⟨_, hcur, _⟩ := hx
  exact hcur

theorem HartOk.zero_cell {x : Hart} (hx : HartOk x) : Store.get zeroW x.w 0 = 0 := by
  obtain ⟨_, _, _, _, _, _, _, _, _, _, hzero⟩ := hx
  exact hzero

theorem HartOk.faulted {x : Hart} (hx : HartOk x) : HartOk { x with st := .faulted, first := none } := by
  obtain ⟨hpc, hcur, hloops, hcalls, hloop, hcall, hdepth, _, harq, hplace, hzero⟩ := hx
  exact ⟨hpc, hcur, hloops, hcalls, hloop, hcall, hdepth, nofun, harq, hplace, hzero⟩

/-- A hart with both stacks empty is sound whatever its state, if its words are. -/
theorem HartOk.emptied {x : Hart} (hx : HartOk x) {st : HartSt} {w : Store Word} {pc slot free : Nat} {first : Option Nat}
    (hpc : pc % 4 = 0) (hw : Store.get zeroW w 0 = 0) :
    HartOk { x with st := st, w := w, pc := pc, slot := slot, free := free, first := first, loops := [], calls := [] } := by
  obtain ⟨_, hcur, _, _, _, _, _, _, harq, hplace, _⟩ := hx
  exact ⟨hpc, hcur, Nat.zero_le _, Nat.zero_le _, by simp, by simp, by simp, fun _ => ⟨rfl, rfl⟩, harq, hplace, hw⟩

theorem hartOk_hart0 (h : Nat) (st : HartSt) : HartOk { hart0 h with st := st } :=
  ⟨rfl, rfl, Nat.zero_le _, Nat.zero_le _, by simp [hart0], by simp [hart0], by simp [hart0], fun _ => ⟨rfl, rfl⟩, by simp [hart0],
    by simp [hart0], rfl⟩

theorem HartOk.buffered {x : Hart} (hx : HartOk x) (l : List PAcc) : HartOk { x with buf := l } := hx

theorem HartOk.jumped {x : Hart} (hx : HartOk x) {a : Nat} (ha : a % 4 = 0) : HartOk { x with pc := a } := by
  obtain ⟨_, hrest⟩ := hx
  exact ⟨ha, hrest⟩

theorem word_aligned {a : Nat} (h : a % 4 = 0) : a % 2 ^ 32 % 4 = 0 := by omega

theorem HartOk.issued {x : Hart} (hx : HartOk x) (c : Nat) (i : HWord) : HartOk (x.issued c i) := by
  obtain ⟨hpc, _, hrest⟩ := hx
  exact ⟨word_aligned (by omega), hpc, hrest⟩

theorem HartOk.setR {x : Hart} (hx : HartOk x) (i : Nat) (v : Word) : HartOk (x.setR i v) := by
  unfold Hart.setR
  split
  · exact hx
  · obtain ⟨hpc, hcur, hloops, hcalls, hloop, hcall, hdepth, hidle, harq, hplace, hzero⟩ := hx
    refine ⟨hpc, hcur, hloops, hcalls, hloop, hcall, hdepth, hidle, harq, hplace, ?_⟩
    rw [Store.get_set, if_neg (by omega)]
    exact hzero

/-- Requests that hold some of the places of sound ones leave the hart sound. -/
theorem HartOk.arqs_sublist {x : Hart} (hx : HartOk x) {l : List Arq} (h : (l.map (·.place)).Sublist (x.arqs.map (·.place))) :
    HartOk { x with arqs := l } := by
  obtain ⟨hpc, hcur, hloops, hcalls, hloop, hcall, hdepth, hidle, harq, hplace, hzero⟩ := hx
  refine ⟨hpc, hcur, hloops, hcalls, hloop, hcall, hdepth, hidle, harq.sublist h, fun a ha => ?_, hzero⟩
  obtain ⟨b, hb, hab⟩ := List.mem_map.1 (h.subset (List.mem_map_of_mem ha))
  rw [← hab]
  exact hplace b hb

/-- A request takes a place of the eight that no other holds (R426). -/
theorem HartOk.arq_added {x : Hart} (hx : HartOk x) {q : Arq} {n : Nat} (hq : q.place < 8) (hfree : ∀ a ∈ x.arqs, a.place ≠ q.place) :
    HartOk { x with arqs := x.arqs ++ [q], nextArq := n } := by
  obtain ⟨hpc, hcur, hloops, hcalls, hloop, hcall, hdepth, hidle, harq, hplace, hzero⟩ := hx
  refine ⟨hpc, hcur, hloops, hcalls, hloop, hcall, hdepth, hidle, ?_, fun a ha => ?_, hzero⟩
  · rw [List.map_append, List.map_singleton, List.nodup_append]
    refine ⟨harq, List.nodup_singleton _, fun p hp r hr => ?_⟩
    obtain ⟨a, ha, rfl⟩ := List.mem_map.1 hp
    rw [List.mem_singleton.1 hr]
    exact hfree a ha
  · rcases List.mem_append.1 ha with ha | ha
    · exact hplace a ha
    · rw [List.mem_singleton.1 ha]
      exact hq

/-- A loop opened within the limit of four (R431). -/
theorem HartOk.loop_opened {x : Hart} (hx : HartOk x) (hrun : x.st = .running) {l : HLoop} (hlen : x.loops.length ≠ 4)
    (hl : l.start % 4 = 0 ∧ l.fin % 4 = 0 ∧ 1 ≤ l.left ∧ l.left ≤ 65535) : HartOk { x with loops := l :: x.loops } := by
  obtain ⟨hpc, hcur, hloops, hcalls, hloop, hcall, hdepth, hidle, harq, hplace, hzero⟩ := hx
  refine ⟨hpc, hcur, Nat.lt_of_le_of_ne hloops hlen, hcalls, fun k hk => ?_, hcall, ?_, ?_, harq, hplace, hzero⟩
  · rcases List.mem_cons.1 hk with rfl | hk
    · exact hl
    · exact hloop k hk
  · obtain ⟨h1, h2⟩ := List.pairwise_cons.1 hdepth
    exact List.pairwise_cons.2 ⟨fun b hb => Nat.le_succ_of_le (h1 b hb), h2⟩
  · intro h
    exact absurd (hrun.symm.trans h) nofun

/-- ENDLOOP of a loop of the current frame: one pass less, or the loop closed (R431). -/
theorem HartOk.loop_passed {x : Hart} (hx : HartOk x) (hrun : x.st = .running) {l : HLoop} {r : List HLoop} (hl : x.loops = l :: r)
    (hframe : x.loops.length ≠ x.fb) :
    HartOk { x with loops := r } ∧ (1 < l.left → HartOk { x with loops := { l with left := l.left - 1 } :: r, pc := l.start }) := by
  obtain ⟨hpc, hcur, hloops, hcalls, hloop, hcall, hdepth, hidle, harq, hplace, hzero⟩ := hx
  have hnot : ∀ {p : Prop}, x.st = .idle → p := fun h => absurd (hrun.symm.trans h) nofun
  rw [hl] at hloops hloop hdepth hframe
  obtain ⟨hstart, hfin, hleft, hmax⟩ := hloop l (List.mem_cons_self ..)
  refine ⟨⟨hpc, hcur, Nat.le_of_succ_le hloops, hcalls, fun k hk => hloop k (List.mem_cons_of_mem _ hk), hcall, ?_, hnot, harq, hplace,
    hzero⟩, fun h1 => ⟨hstart, hcur, hloops, hcalls, fun k hk => ?_, hcall, hdepth, hnot, harq, hplace, hzero⟩⟩
  · obtain ⟨h1, h2⟩ := List.pairwise_cons.1 hdepth
    refine List.pairwise_cons.2 ⟨fun b hb => ?_, h2⟩
    unfold Hart.fb at hframe
    cases hc : x.calls with
    | nil => simp [hc] at hb
    | cons a rest =>
      rw [hc] at hframe hb h1 h2
      have ha : a.2 < r.length + 1 := Nat.lt_of_le_of_ne (h1 a.2 (by simp)) (Ne.symm hframe)
      rw [List.map_cons] at hb h2
      rcases List.mem_cons.1 hb with rfl | hb
      · exact Nat.le_of_lt_succ ha
      · exact Nat.le_of_lt_succ (Nat.lt_of_le_of_lt ((List.pairwise_cons.1 h2).1 b hb) ha)
  · rcases List.mem_cons.1 hk with rfl | hk
    · exact ⟨hstart, hfin, by dsimp only; omega, by dsimp only; omega⟩
    · exact hloop k (List.mem_cons_of_mem _ hk)

/-- A call within the limit of eight notes the loop depth, which no later one undercuts (R432). -/
theorem HartOk.called {x : Hart} (hx : HartOk x) (hrun : x.st = .running) (hlen : x.calls.length ≠ 8) {a : Nat} (ha : a % 4 = 0) :
    HartOk { x with calls := (x.pc, x.loops.length) :: x.calls, pc := a } := by
  obtain ⟨hpc, hcur, hloops, hcalls, hloop, hcall, hdepth, _, harq, hplace, hzero⟩ := hx
  refine ⟨ha, hcur, hloops, Nat.lt_of_le_of_ne hcalls hlen, hloop, fun b hb => ?_, ?_, fun h => absurd (hrun.symm.trans h) nofun, harq,
    hplace, hzero⟩
  · rcases List.mem_cons.1 hb with rfl | hb
    · exact hpc
    · exact hcall b hb
  · refine List.pairwise_cons.2 ⟨fun b hb => ?_, hdepth⟩
    rcases List.mem_cons.1 hb with rfl | hb
    · exact Nat.le_refl _
    · exact (List.pairwise_cons.1 hdepth).1 b hb

/-- RET drops the last call and goes to its address (R432). -/
theorem HartOk.returned {x : Hart} (hx : HartOk x) (hrun : x.st = .running) {a : Nat × Nat} {r : List (Nat × Nat)} (hc : x.calls = a :: r) :
    HartOk { x with calls := r, pc := a.1 } := by
  obtain ⟨_, hcur, hloops, hcalls, hloop, hcall, hdepth, _, harq, hplace, hzero⟩ := hx
  rw [hc] at hcalls hcall hdepth
  refine ⟨hcall a (List.mem_cons_self ..), hcur, hloops, Nat.le_of_succ_le hcalls, hloop, fun b hb => hcall b (List.mem_cons_of_mem _ hb),
    ?_, fun h => absurd (hrun.symm.trans h) nofun, harq, hplace, hzero⟩
  obtain ⟨h1, h2⟩ := List.pairwise_cons.1 hdepth
  exact List.pairwise_cons.2 ⟨fun b hb => h1 b (List.mem_cons_of_mem _ hb), (List.pairwise_cons.1 h2).2⟩

/-! ### Steps that keep the queue and sound harts sound -/

/-- The queue of commands stays, and harts that were sound are sound. -/
structure State.Keeps (s t : State) : Prop where
  pending : t.pending = s.pending
  sound : HartsInv s → HartsInv t

namespace State.Keeps

theorem refl (s : State) : s.Keeps s := ⟨rfl, id⟩

theorem trans {s t u : State} (h : s.Keeps t) (g : t.Keeps u) : s.Keeps u := ⟨g.pending.trans h.pending, g.sound ∘ h.sound⟩

theorem of_harts {s t : State} (hp : t.pending = s.pending) (hh : t.harts = s.harts) : s.Keeps t := by
  refine ⟨hp, fun h => ?_⟩
  unfold HartsInv State.hart at h ⊢
  rwa [hh]

theorem ite {s a b : State} {p : Prop} [Decidable p] (ha : p → s.Keeps a) (hb : ¬p → s.Keeps b) : s.Keeps (if p then a else b) := by
  split
  · exact ha ‹_›
  · exact hb ‹_›

theorem foldl {α : Type} {f : State → α → State} (h : ∀ (s : State) a, s.Keeps (f s a)) (l : List α) (s : State) : s.Keeps (l.foldl f s) := by
  induction l generalizing s with
  | nil => exact refl s
  | cons a l ih => exact (h s a).trans (ih _)

end State.Keeps

theorem State.onDevice_keeps (s : State) (f : Device → Device) : s.Keeps (s.onDevice f) := .of_harts rfl rfl

theorem State.withDev_keeps (s : State) (d : Device) : s.Keeps { s with dev := d } := .of_harts rfl rfl

theorem State.setHart_keeps {s : State} {h : Nat} {x : Hart} (hx : HartOk (s.hart h) → HartOk x) : s.Keeps (s.setHart h x) := by
  refine ⟨rfl, fun ⟨hs, hsp⟩ => ⟨fun k hk => ?_, hsp⟩⟩
  rw [State.hart_setHart]
  split
  · subst h
    exact hx (hs _ hk)
  · exact hs k hk

theorem State.hartFault_keeps (s : State) (h code pc : Nat) (addr : Option Nat) : s.Keeps (s.hartFault h code pc addr) := by
  unfold State.hartFault
  exact (State.setHart_keeps HartOk.faulted).trans (State.onDevice_keeps _ _)

theorem State.faultAt_keeps (s : State) (h code : Nat) (addr : Option Nat) : s.Keeps (s.faultAt h code addr) := by
  unfold State.faultAt
  exact (State.setHart_keeps fun hx => hx.jumped hx.cur_word).trans (State.hartFault_keeps ..)

theorem State.spWord_keeps (s : State) (a : Nat) : s.Keeps (s.spWord a).2 := .of_harts (s.spWord_pending a) (s.spWord_harts a)

theorem State.spWrite_keeps (s : State) (a n : Nat) (v : Word) : s.Keeps (s.spWrite a n v) := by
  have hw : s.Keeps { s with harts := { s.harts with sp := Memory.wr s.harts.sp a n v.toNat } } :=
    ⟨rfl, fun ⟨hs, hsp⟩ => ⟨hs, Memory.wf_wr _ _ _ hsp⟩⟩
  exact .ite (fun _ => hw.trans (State.onDevice_keeps _ _)) fun _ => hw

theorem State.put_keeps (s : State) (h rd : Nat) (v : Word) : s.Keeps (s.put h rd v) := State.setHart_keeps fun hx => hx.setR rd v

theorem State.performAcc_keeps (s : State) (h : Nat) (a : PAcc) : s.Keeps (s.performAcc h a) := by
  have hread := s.spWord_keeps a.addr
  unfold State.performAcc
  refine .ite (fun _ => State.hartFault_keeps ..) fun _ => ?_
  cases a.op with
  | store => exact State.spWrite_keeps ..
  | swap rd =>
    dsimp only
    split <;> rename_i hw <;> rw [hw] at hread
    · exact .ite (fun _ => hread.trans (State.hartFault_keeps ..)) fun _ => hread
    · exact hread.trans ((State.spWrite_keeps ..).trans (State.setHart_keeps fun hx => hx.setR _ _))
  | cas rd cmp =>
    dsimp only
    split <;> rename_i hw <;> rw [hw] at hread
    · exact .ite (fun _ => hread.trans (State.hartFault_keeps ..)) fun _ => hread
    · rename_i v s1
      have hwrite : s1.Keeps (if v = cmp then s1.spWrite a.addr 4 a.data else s1) := .ite (fun _ => State.spWrite_keeps ..) fun _ => .refl _
      exact hread.trans (hwrite.trans (State.put_keeps _ h rd v))

theorem State.drain_keeps (c fuel : Nat) (s : State) : s.Keeps (s.drain c fuel) := by
  induction fuel generalizing s with
  | zero => exact .refl s
  | succ n ih =>
    unfold State.drain
    split
    · exact .refl s
    · refine .ite (fun _ => ?_) fun _ => .refl s
      exact ((State.setHart_keeps fun hx => hx.buffered _).trans (State.performAcc_keeps ..)).trans (ih _)

theorem State.atHart_keeps (s : State) (c : Nat) : s.Keeps (s.atHart c) := by
  unfold State.atHart
  exact (State.onDevice_keeps _ _).trans (State.drain_keeps ..)

theorem State.fetch_keeps (s : State) (a : Nat) : s.Keeps (s.fetch a).2 := by
  unfold State.fetch
  split
  · exact .refl s
  · have hread := s.spWord_keeps a
    split <;> rename_i hw <;> rw [hw] at hread <;> exact hread

/-- An instruction keeps what its effect keeps on the hart that has issued it, which runs. -/
theorem State.issue_keeps {s : State} {h c : Nat} {want : Option Nat} {act : HWord → State → State}
    (hact : ∀ i (s : State), (s.hart h).st = .running → s.Keeps (act i s)) : s.Keeps (s.issue h c want act) := by
  refine (s.atHart_keeps c).trans ?_
  generalize hs0 : s.atHart c = s0
  have hread := s0.fetch_keeps (s0.hart h).pc
  have hsame := s0.fetch_harts (s0.hart h).pc
  unfold State.issue
  dsimp only
  rw [hs0]
  split
  · exact .refl s0
  · rename_i hrun
    refine .ite (fun _ => State.hartFault_keeps ..) fun _ => ?_
    split <;> rename_i hw <;> rw [hw] at hread hsame
    · exact hread.trans (State.hartFault_keeps ..)
    · split
      · exact .ite (fun _ => hread.trans (State.hartFault_keeps ..)) fun _ => .refl s0
      · refine .ite (fun _ => .refl s0) fun _ => hread.trans ?_
        refine State.Keeps.trans ?_ (hact _ _ ?_)
        · exact State.setHart_keeps fun hx => hx.issued c _
        · rw [State.hart_setHart, if_pos rfl]
          unfold State.hart at hrun ⊢
          rw [hsame]
          exact Classical.not_not.1 (not_or.1 hrun).1

/-! ### The instructions -/

theorem hartR_keeps (op h c : Nat) (f : Word → Word → Word) (s : State) : s.Keeps (hartR op h c f s) :=
  State.issue_keeps fun _ _ _ => State.put_keeps ..

theorem hartI_keeps (op h c : Nat) (f : Word → HWord → Word) (s : State) : s.Keeps (hartI op h c f s) :=
  State.issue_keeps fun _ _ _ => State.put_keeps ..

theorem State.goForward_keeps {s : State} {h a : Nat} (ha : HartOk (s.hart h) → a % 4 = 0) : s.Keeps (s.goForward h a) :=
  .ite (fun _ => State.faultAt_keeps ..) fun _ => State.setHart_keeps fun hx => hx.jumped (word_aligned (ha hx))

theorem HartOk.pc_add {x : Hart} (hx : HartOk x) (n : Nat) : (x.pc + 4 * n) % 4 = 0 := by
  have := hx.pc_word
  omega

theorem hartB_keeps (op h c : Nat) (f : Word → Word → Bool) (s : State) : s.Keeps (hartB op h c f s) :=
  State.issue_keeps fun _ _ _ => .ite (fun _ => State.goForward_keeps fun hx => hx.pc_add _) fun _ => .refl _

theorem State.loadWord_keeps (s : State) (h a : Nat) : s.Keeps (s.loadWord h a).2 := by
  unfold State.loadWord
  split
  · exact .refl s
  · have hread := s.spWord_keeps a
    split <;> rename_i hw <;> rw [hw] at hread <;> exact hread

theorem hartLoad_keeps (op n h c : Nat) (f : Word → Nat → Word) (s : State) : s.Keeps (hartLoad op n h c f s) := by
  refine State.issue_keeps fun i s _ => .ite (fun _ => State.faultAt_keeps ..) fun _ => ?_
  have hread := s.loadWord_keeps h ((s.hart h).addr i)
  split <;> rename_i hw <;> rw [hw] at hread
  · exact hread.trans (State.faultAt_keeps ..)
  · exact hread.trans (State.put_keeps ..)

theorem State.buffer_keeps (s : State) (h : Nat) (a : PAcc) : s.Keeps (s.buffer h a) := State.setHart_keeps fun hx => hx.buffered _

theorem hartStore_keeps (op n h c : Nat) (plain : Bool) (s : State) : s.Keeps (hartStore op n h c plain s) := by
  refine State.issue_keeps fun i s _ => ?_
  dsimp only
  split
  · exact State.faultAt_keeps ..
  · exact State.buffer_keeps ..

theorem hartAtomic_keeps (op h c : Nat) (f : HWord → Hart → AccOp) (s : State) : s.Keeps (hartAtomic op h c f s) := by
  refine State.issue_keeps fun i s _ => ?_
  dsimp only
  split
  · exact State.faultAt_keeps ..
  · exact State.buffer_keeps ..

theorem hartLoop_keeps (h c : Nat) (s : State) : s.Keeps (hartLoop h c s) := by
  refine State.issue_keeps fun i s hrun => .ite (fun _ => State.faultAt_keeps ..) fun _ => .ite (fun _ => State.faultAt_keeps ..) fun hn => ?_
  have hread := s.fetch_keeps (((s.hart h).cur + 4 * i.imm) % 2 ^ 32)
  have hsame := s.fetch_harts (((s.hart h).cur + 4 * i.imm) % 2 ^ 32)
  split <;> rename_i s1 hw <;> rw [hw] at hread hsame
  · exact hread.trans (State.faultAt_keeps ..)
  · have hhart : s1.hart h = s.hart h := congrArg (fun x : Harts => Store.get hart0 x.all h) hsame
    refine hread.trans (.ite (fun _ => State.faultAt_keeps ..) fun _ => .ite (fun _ => State.setHart_keeps fun hx => ?_) fun hn0 =>
      .ite (fun _ => State.faultAt_keeps ..) fun hlen => State.setHart_keeps fun hx => ?_) <;> rw [hhart] at hx ⊢
    · have := hx.cur_word
      exact hx.jumped (word_aligned (by omega))
    · have := hx.cur_word
      exact hx.loop_opened hrun hlen ⟨hx.pc_word, word_aligned (by omega), Nat.pos_of_ne_zero hn0, Nat.le_of_not_lt hn⟩

theorem hartEndloop_keeps (h c : Nat) (s : State) : s.Keeps (hartEndloop h c s) := by
  refine State.issue_keeps fun i s hrun => ?_
  dsimp only
  split
  · exact State.faultAt_keeps ..
  · rename_i l r hl
    refine .ite (fun _ => State.faultAt_keeps ..) fun hok => ?_
    obtain ⟨hframe, hfin⟩ := not_or.1 hok
    refine .ite (fun _ => State.setHart_keeps fun hx => ?_) fun hleft => State.setHart_keeps fun hx => ?_
    · exact (hx.loop_passed hrun hl hframe).1
    · exact (hx.loop_passed hrun hl hframe).2 (Nat.lt_of_not_le hleft)

theorem hartCall_keeps (h c : Nat) (s : State) : s.Keeps (hartCall h c s) :=
  State.issue_keeps fun _ _ hrun => .ite (fun _ => State.faultAt_keeps ..) fun hlen => .ite (fun _ => State.faultAt_keeps ..) fun _ =>
    State.setHart_keeps fun hx => hx.called hrun hlen (Nat.mul_mod_right 4 _)

theorem hartRet_keeps (h c : Nat) (s : State) : s.Keeps (hartRet h c s) := by
  refine State.issue_keeps fun i s hrun => ?_
  dsimp only
  split
  · exact State.faultAt_keeps ..
  · rename_i a n r hc
    exact .ite (fun _ => State.faultAt_keeps ..) fun _ => State.setHart_keeps fun hx => hx.returned hrun hc

theorem hartDispatch_keeps (h c : Nat) (s : State) : s.Keeps (hartDispatch h c s) := by
  refine State.issue_keeps fun i s _ => .ite (fun _ => State.faultAt_keeps ..) fun _ =>
    .ite (fun _ => State.goForward_keeps fun hx => hx.pc_add _) fun _ => ?_
  have hread := s.fetch_keeps ((s.hart h).pc + 4 * ((s.hart h).r i.rs).toNat)
  have hsame := s.fetch_harts ((s.hart h).pc + 4 * ((s.hart h).r i.rs).toNat)
  split <;> rename_i s1 hw <;> rw [hw] at hread hsame
  · exact hread.trans (State.faultAt_keeps ..)
  · have hhart : s1.hart h = s.hart h := congrArg (fun x : Harts => Store.get hart0 x.all h) hsame
    refine hread.trans (State.goForward_keeps fun hx => word_aligned ?_)
    rw [hhart] at hx
    have := hx.pc_word
    omega

theorem State.putPair_keeps (s : State) (h rd v : Nat) : s.Keeps (s.putPair h rd v) :=
  .ite (fun _ => State.faultAt_keeps ..) fun _ => (State.put_keeps ..).trans (State.put_keeps ..)

theorem hartRdpos_keeps (h c t : Nat) (s : State) : s.Keeps (hartRdpos h c t s) :=
  (State.onDevice_keeps _ _).trans (State.issue_keeps fun _ _ _ => State.putPair_keeps ..)

theorem hartRdcyc_keeps (h c t : Nat) (s : State) : s.Keeps (hartRdcyc h c t s) :=
  (State.onDevice_keeps _ _).trans (State.issue_keeps fun _ _ _ => State.putPair_keeps ..)

/-- A place that the search of ARQ finds is one of eight, and free (R426). -/
theorem arqPlace_free {l : List Arq} {k : Nat} (h : (List.range 8).find? (fun k => !(l.any fun q => q.place == k)) = some k) :
    k < 8 ∧ ∀ a ∈ l, a.place ≠ k := by
  have hfree := List.find?_some h
  refine ⟨List.mem_range.1 (List.mem_of_find?_eq_some h), fun a ha hak => ?_⟩
  simp only [Bool.not_eq_true', List.any_eq_false, beq_iff_eq] at hfree
  exact hfree a ha hak

theorem hartArq_keeps (h c : Nat) (s : State) : s.Keeps (hartArq h c s) := by
  refine State.issue_keeps fun i s _ => .ite (fun _ => State.faultAt_keeps ..) fun _ => ?_
  split
  · exact State.faultAt_keeps ..
  · rename_i k hk
    obtain ⟨hlt, hfree⟩ := arqPlace_free hk
    exact State.setHart_keeps fun hx => hx.arq_added hlt hfree

theorem hartDone_keeps (h c : Nat) (s : State) : s.Keeps (hartDone h c s) :=
  State.issue_keeps fun _ _ _ => .ite (fun _ => (State.setHart_keeps fun hx =>
    hx.emptied hx.pc_word hx.zero_cell).trans (State.onDevice_keeps _ _)) fun _ => .refl _

theorem handlerBudget_keeps (h : Fin 4) (c : Nat) (s : State) : s.Keeps (handlerBudget h c s) := by
  refine (s.atHart_keeps c).trans ?_
  unfold handlerBudget
  dsimp only
  generalize s.atHart c = s0
  refine .ite (fun _ => ?_) fun _ => .refl _
  exact State.Keeps.trans (State.setHart_keeps fun hx => hx.buffered _) (State.hartFault_keeps ..)

/-! ### Accesses and events -/

theorem State.restartHart_keeps (s : State) (h : Nat) : s.Keeps (s.restartHart h) :=
  .ite (fun _ => (State.setHart_keeps fun hx => hx.emptied hx.pc_word rfl).trans (State.onDevice_keeps _ _)) fun _ => .refl s

theorem State.writeAt_keeps {k : State → State} (hk : ∀ s : State, s.Keeps (k s)) (s : State) (q : Req) (off : Nat) : s.Keeps (s.writeAt q off k) := by
  have hdev : ∀ d, s.Keeps { s with dev := d } := fun _ => .of_harts rfl rfl
  unfold State.writeAt
  dsimp only
  split
  · exact hdev _
  · exact .ite (fun _ => (hdev _).trans (hk _)) fun _ => hdev _

theorem hartRestart_keeps (q : Req) (s : State) : s.Keeps (hartRestart q s) := by
  unfold hartRestart
  refine State.writeAt_keeps (fun s => .ite (fun _ => ?_) fun _ => State.onDevice_keeps _ _) s q R.sup_HART_CMD
  exact State.Keeps.foldl (fun s h => .ite (fun _ => s.restartHart_keeps h) fun _ => .refl s) _ _

theorem State.busWrite_keeps (s : State) (p : Port) (a : Nat) (be : BitVec 4) (len : Nat) (v : Word) : s.Keeps (s.busWrite p a be len v) :=
  .ite (fun _ => .ite (fun _ => hartRestart_keeps ..) fun _ => State.onDevice_keeps _ _) fun _ => State.onDevice_keeps _ _

theorem State.busRead_eq (s : State) (p : Port) (a : Nat) : ∃ d, (s.busRead p a).2 = { s with dev := d } := by
  unfold State.busRead
  split
  · exact ⟨_, rfl⟩
  · exact ⟨_, rfl⟩

theorem State.busRead_keeps (s : State) (p : Port) (a : Nat) : s.Keeps (s.busRead p a).2 := by
  obtain ⟨d, hd⟩ := s.busRead_eq p a
  rw [hd]
  exact .of_harts rfl rfl

theorem State.busAccess_keeps (s : State) (p : Port) (a : Nat) (write : Bool) (v : Word) : s.Keeps (s.busAccess p a write v).2.2 := by
  unfold State.busAccess
  cases write
  · exact s.busRead_keeps p a
  · exact s.busWrite_keeps ..

theorem registerWrite_keeps (a : Access) (s : State) : s.Keeps (registerWrite a s) := by
  refine (s.onDevice_keeps (·.at a.t)).trans ?_
  unfold registerWrite
  dsimp only
  split
  · exact State.busWrite_keeps ..
  · exact State.onDevice_keeps _ _
  · exact State.onDevice_keeps _ _

theorem pairHiWrite_keeps (a : Access) (s : State) : s.Keeps (pairHiWrite a s) :=
  .ite (fun _ => registerWrite_keeps a s) fun _ => State.onDevice_keeps _ _

theorem pageacc_keeps (addr : Nat) (write go : Bool) (data : Word) (t fin : Nat) (s : State) :
    s.Keeps (pageacc addr write go data t fin s) := by
  refine (s.onDevice_keeps (·.at t)).trans ?_
  unfold pageacc
  dsimp only
  exact .ite (fun _ => .refl _) fun _ => (State.busAccess_keeps ..).trans (State.onDevice_keeps _ _)

theorem hartLdd_keeps (h : Fin 4) (c t : Nat) (s : State) : s.Keeps (hartLdd h c t s) := by
  unfold hartLdd
  refine (State.onDevice_keeps _ _).trans (State.issue_keeps fun i s _ => ?_)
  generalize (s.hart h).addr i = a
  extract_lets a
  have hread := s.busRead_keeps (.supervisor h) (a - 0x10000000)
  generalize s.busRead (.supervisor h) (a - 0x10000000) = r at hread ⊢
  obtain ⟨v, s1⟩ := r
  generalize pageFault a = f
  cases f with
  | some k => exact State.faultAt_keeps ..
  | none => exact hread.trans (.ite (fun _ => .refl _) fun _ => State.put_keeps ..)

theorem hartStd_keeps (h : Fin 4) (c t : Nat) (s : State) : s.Keeps (hartStd h c t s) := by
  unfold hartStd
  refine (State.onDevice_keeps _ _).trans (State.issue_keeps fun i s _ => ?_)
  dsimp only
  split
  · exact State.faultAt_keeps ..
  · exact State.busWrite_keeps ..

theorem arqMark_place (l : List Arq) (p : Nat) :
    (l.map fun y => if y.place = p then { y with done := true } else y).map (·.place) = l.map (·.place) := by
  rw [List.map_map]
  refine List.map_congr_left fun y _ => ?_
  dsimp only [Function.comp]
  split <;> rfl

theorem arqComplete_keeps (h : Fin 4) (r : ReadEnd (BitVec 32)) (t : Nat) (s : State) : s.Keeps (arqComplete h r t s) := by
  refine (s.onDevice_keeps (·.at t)).trans ?_
  unfold arqComplete
  dsimp only
  split
  · exact .refl _
  · refine State.Keeps.trans ?_ ((State.setHart_keeps fun hx => hx.arqs_sublist (by rw [arqMark_place])).trans (State.onDevice_keeps _ _))
    split
    · have hacc := (s.onDevice (·.at t)).busAccess_keeps (.supervisor h) (‹Arq›.addr - 0x10000000) ‹Arq›.write ‹Arq›.data
      split
      · exact hacc
      · exact hacc
    · exact .of_harts rfl rfl

theorem sbRegAccess_keeps (m : SbReg) (t fin : Nat) (s : State) : s.Keeps (sbRegAccess m t fin s) := by
  refine (s.onDevice_keeps (·.at t)).trans ?_
  unfold sbRegAccess
  dsimp only
  refine .ite (fun _ => .refl _) fun _ => .ite (fun _ => State.onDevice_keeps _ _) fun _ => .ite (fun _ => .of_harts rfl rfl) fun _ => ?_
  refine State.Keeps.trans (State.Keeps.trans ?_ (State.busAccess_keeps ..)) (State.onDevice_keeps _ _)
  exact .of_harts rfl rfl

theorem lraAccess_keeps (addr : Nat) (write : Bool) (data : Word) (t : Nat) (s : State) : s.Keeps (lraAccess addr write data t s) := by
  refine (s.onDevice_keeps (·.at t)).trans ?_
  unfold lraAccess
  dsimp only
  refine .ite (fun _ => .refl _) fun _ => ?_
  refine State.Keeps.trans (State.Keeps.trans ?_ (State.busAccess_keeps ..)) (State.onDevice_keeps _ _)
  exact .of_harts rfl rfl

theorem State.peerAccess_keeps (s : State) (k : Fin 4) (q : Nat × Bool × Word) : s.Keeps (s.peerAccess k q) := by
  unfold State.peerAccess
  exact (s.busAccess_keeps ..).trans (State.onDevice_keeps _ _)

theorem lwFlitReceived_keeps (k : Fin 4) (f : LwFlit) (overlap : Bool) (t cyc : Nat) (s : State) :
    s.Keeps (lwFlitReceived k f overlap t cyc s) := by
  have hdev : ∀ d, s.Keeps { s with dev := d } := fun _ => .of_harts rfl rfl
  unfold lwFlitReceived
  dsimp only
  generalize Device.lwReceive _ _ _ _ _ = r
  refine .ite (fun _ => ?_) fun _ => hdev _
  exact (hdev r.1).trans (State.Keeps.foldl (fun s q => State.peerAccess_keeps s k q) _ _)

theorem eventPost_keeps (t : Nat) (s : State) : s.Keeps (eventPost t s) := by
  refine (s.onDevice_keeps (·.at t)).trans ?_
  unfold eventPost
  dsimp only
  split
  · split
    · exact .refl _
    · refine (State.onDevice_keeps _ _).trans (.ite (fun _ => State.onDevice_keeps _ _) fun _ => .ite (fun _ => ?_) fun _ => .refl _)
      exact State.setHart_keeps fun hx => hx.arqs_sublist (List.filter_sublist.map _)
  · split
    · exact .refl _
    · exact State.onDevice_keeps _ _

theorem setR_zeroCell (x : Hart) (i : Nat) (v : Word) (h : Store.get zeroW x.w 0 = 0) : Store.get zeroW (x.setR i v).w 0 = 0 := by
  unfold Hart.setR
  split
  · exact h
  · rw [Store.get_set, if_neg (by omega)]
    exact h

theorem State.startHandler_keeps (s : State) (h c : Nat) (e : SupEvent) : s.Keeps (s.startHandler h c e) := by
  refine State.setHart_keeps fun hx => ?_
  exact hx.emptied (st := .running) (Nat.mul_mod_left _ 4) (setR_zeroCell _ 3 _ (setR_zeroCell _ 2 _ (setR_zeroCell { s.hart h with w := [] } 1 _ rfl)))

/-- The queue without the events of disabled slots, which are counted (R437). -/
def State.dropDisabled (s : State) : State :=
  if (s.dev.sup.evq.filter s.dev.discards).isEmpty then s else s.onDevice fun d =>
    (d.setEvq (d.sup.evq.filter fun e => !d.discards e)).count R.sup_EVQ_DISCARD (s.dev.sup.evq.filter s.dev.discards).length

theorem eventDispatch_eq (c : Nat) (s : State) :
    eventDispatch c s = match (s.atHart c).dropDisabled.pickEvent c [] (s.atHart c).dropDisabled.dev.sup.evq with
      | none => (s.atHart c).dropDisabled
      | some (e, h) => ((s.atHart c).dropDisabled.onDevice fun d => d.setEvq (d.sup.evq.erase e)).startHandler h c e := rfl

theorem State.dropDisabled_keeps (s : State) : s.Keeps s.dropDisabled := .ite (fun _ => .refl s) fun _ => State.onDevice_keeps _ _

theorem eventDispatch_keeps (c : Nat) (s : State) : s.Keeps (eventDispatch c s) := by
  refine ((s.atHart_keeps c).trans (State.dropDisabled_keeps _)).trans ?_
  rw [eventDispatch_eq]
  generalize (s.atHart c).dropDisabled = s1
  split
  · exact .refl s1
  · exact (State.onDevice_keeps _ _).trans (State.startHandler_keeps ..)

/-- Every faulted hart is restarted. -/
def State.restartFaulted (s : State) : State :=
  (List.range 4).foldl (fun s h => if (Store.get hart0 s.harts.all h).st = .faulted then s.restartHart h else s) s

theorem State.restartFaulted_keeps (s : State) : s.Keeps s.restartFaulted :=
  State.Keeps.foldl (fun s h => .ite (fun _ => s.restartHart_keeps h) fun _ => .refl s) _ s

theorem swdExpiry_keeps (t : Nat) (s : State) : s.Keeps (swdExpiry t s) := by
  have hdev : ∀ d, s.Keeps { s with dev := d } := fun _ => .of_harts rfl rfl
  unfold swdExpiry
  dsimp only
  refine .ite (fun _ => hdev _) fun _ => ?_
  split
  · exact ((hdev _).trans (State.restartFaulted_keeps _)).trans (State.withDev_keeps _ _)
  · exact hdev _
  · exact hdev _

/-! ### Start and resets -/

theorem State.hartReady_keeps (s : State) (h : Nat) : s.Keeps (s.hartReady h) :=
  .ite (fun _ => State.setHart_keeps fun _ => hartOk_hart0 h .idle) fun _ => .refl s

theorem hartsInv_harts0 {s : State} (h : s.harts = harts0) : HartsInv s := by
  unfold HartsInv State.hart
  rw [h]
  exact ⟨fun k _ => hartOk_hart0 k .off, Store.wf_nil⟩

theorem State.powerOn_keeps (s : State) : s.Keeps s.powerOn := ⟨rfl, fun _ => hartsInv_harts0 rfl⟩

theorem State.coreReset_keeps (s : State) (cause : Nat) : s.Keeps (s.coreReset cause) := by
  refine ⟨rfl, fun ⟨hs, hsp⟩ => ⟨fun k hk => ?_, hsp⟩⟩
  unfold State.hart State.coreReset
  rw [Store.get_wipe]
  split
  · exact hartOk_hart0 k .off
  · exact hs k hk

theorem coreResetRelease_keeps (t : Nat) (s : State) : s.Keeps (coreResetRelease t s) := by
  refine (s.onDevice_keeps (·.at t)).trans ?_
  unfold coreResetRelease
  dsimp only
  refine .ite (fun _ => .refl _) fun _ => ?_
  exact (State.withDev_keeps _ _).trans (State.Keeps.foldl State.hartReady_keeps _ _)

theorem brownOut_keeps (t : Nat) (s : State) : s.Keeps (brownOut t s) := by
  refine (s.onDevice_keeps (·.at t)).trans ?_
  unfold brownOut
  dsimp only
  exact .ite (fun _ => .refl _) fun _ => (State.withDev_keeps _ _).trans (State.coreReset_keeps _ 6)

theorem sysResetN_keeps (t : Nat) (s : State) : s.Keeps (sysResetN t s) := by
  refine (s.onDevice_keeps (·.at t)).trans ?_
  unfold sysResetN
  dsimp only
  exact .ite (fun _ => .refl _) fun _ => (State.withDev_keeps _ _).trans (State.coreReset_keeps _ 1)

theorem powerOnReset_keeps (vaon vaux : Bool) (t : Nat) (s : State) : s.Keeps (powerOnReset vaon vaux t s) := by
  refine (s.onDevice_keeps (·.at t)).trans ?_
  unfold powerOnReset
  dsimp only
  exact .ite (fun _ => .refl _) fun _ => (State.withDev_keeps _ _).trans (State.powerOn_keeps _)

theorem refclkLoss_keeps (t : Nat) (s : State) : s.Keeps (refclkLoss t s) := by
  unfold refclkLoss
  exact (State.withDev_keeps _ _).trans (State.powerOn_keeps _)

theorem State.handOff_keeps (s : State) (src : Nat) (l : List Byte) : s.Keeps (s.handOff src l) := by
  refine State.Keeps.trans ?_ (State.hartReady_keeps _ 0)
  exact ⟨rfl, fun ⟨hs, _⟩ => ⟨hs, Memory.wf_wrBytes _ _ Store.wf_nil⟩⟩

theorem romImageRead_keeps (r : Option (List Byte)) (t : Nat) (s : State) : s.Keeps (romImageRead r t s) := by
  have hdev : ∀ d, s.Keeps { s with dev := d } := fun _ => .of_harts rfl rfl
  unfold romImageRead
  dsimp only
  split
  · exact .ite (fun _ => (hdev _).trans (State.handOff_keeps ..)) fun _ => hdev _
  · exact .ite (fun _ => (hdev _).trans (State.handOff_keeps ..)) fun _ => hdev _
  · exact .ite (fun _ => (hdev _).trans (State.handOff_keeps ..)) fun _ => hdev _
  · exact hdev _

/-! ### Every command -/

theorem commitSafePoint_eq (page t cyc : Nat) (s : State) : ∃ d, commitSafePoint page t cyc s = { s with dev := d } := by
  unfold commitSafePoint
  dsimp only
  split
  · exact ⟨_, rfl⟩
  · split
    · exact ⟨_, rfl⟩
    · exact ⟨_, rfl⟩

theorem pairLoRead_eq (a : Access) (s : State) : ∃ d, pairLoRead a s = { s with dev := d } := by
  unfold pairLoRead
  dsimp only
  split
  · split
    · split
      · obtain ⟨d, hd⟩ := (s.onDevice (·.at a.t)).busRead_eq a.port ‹_›
        rw [hd]
        exact ⟨_, rfl⟩
      · exact ⟨_, rfl⟩
    · exact ⟨_, rfl⟩
  · exact ⟨_, rfl⟩

/-- A command outside `reachesHarts` changes the device alone. -/
theorem exec_device (c : Instr) (s : State) (hc : reachesHarts c = false) : ∃ d, exec c s = .next { s with dev := d } := by
  cases c with
  | commitSafePoint page t cyc =>
    obtain ⟨d, hd⟩ := commitSafePoint_eq page t cyc s
    exact ⟨d, congrArg _ hd⟩
  | pairLoRead a =>
    obtain ⟨d, hd⟩ := pairLoRead_eq a s
    exact ⟨d, congrArg _ hd⟩
  | hartAdd | hartSub | hartAnd | hartOr | hartXor | hartSll | hartSrl | hartSra | hartSlt | hartSltu | hartMul | hartAddi | hartAndi
  | hartOri | hartXori | hartSlli | hartSrli | hartSrai | hartLui | hartLw | hartLbu | hartSw | hartSb | hartSwo | hartAmoswap | hartCas
  | hartFence | hartLdd | hartStd | hartArq | hartBeq | hartBne | hartBlt | hartBge | hartBltu | hartBgeu | hartJmp | hartLoop
  | hartEndloop | hartCall | hartRet | hartDispatch | hartRdpos | hartRdcyc | hartDone | hartRestart | registerWrite | pairHiWrite
  | pageacc | sbRegAccess | lraAccess | lwFlitReceived | romImageRead | sysResetN | coreResetRelease | swdExpiry | refclkLoss
  | powerOnReset | brownOut | eventPost | eventDispatch | handlerBudget | illegalInstruction | storePerformed | arqComplete =>
    exact absurd hc nofun
  | _ => exact ⟨_, rfl⟩

/-- A command of `reachesHarts` keeps the queue of commands and sound harts sound. -/
theorem exec_reaching (c : Instr) (s : State) (hc : reachesHarts c = true) : ∃ t, exec c s = .next t ∧ s.Keeps t := by
  cases c with
  | hartAdd | hartSub | hartAnd | hartOr | hartXor | hartSll | hartSrl | hartSra | hartSlt | hartSltu | hartMul =>
    exact ⟨_, rfl, hartR_keeps ..⟩
  | hartAddi | hartAndi | hartOri | hartXori | hartSlli | hartSrli | hartSrai | hartLui => exact ⟨_, rfl, hartI_keeps ..⟩
  | hartLw | hartLbu => exact ⟨_, rfl, hartLoad_keeps ..⟩
  | hartSw | hartSb | hartSwo => exact ⟨_, rfl, hartStore_keeps ..⟩
  | hartAmoswap | hartCas => exact ⟨_, rfl, hartAtomic_keeps ..⟩
  | hartFence | illegalInstruction => exact ⟨_, rfl, State.issue_keeps fun _ _ _ => .refl _⟩
  | hartLdd => exact ⟨_, rfl, hartLdd_keeps ..⟩
  | hartStd => exact ⟨_, rfl, hartStd_keeps ..⟩
  | hartArq => exact ⟨_, rfl, hartArq_keeps ..⟩
  | hartBeq | hartBne | hartBlt | hartBge | hartBltu | hartBgeu => exact ⟨_, rfl, hartB_keeps ..⟩
  | hartJmp => exact ⟨_, rfl, State.issue_keeps fun _ _ _ => State.goForward_keeps fun hx => hx.pc_add _⟩
  | hartLoop => exact ⟨_, rfl, hartLoop_keeps ..⟩
  | hartEndloop => exact ⟨_, rfl, hartEndloop_keeps ..⟩
  | hartCall => exact ⟨_, rfl, hartCall_keeps ..⟩
  | hartRet => exact ⟨_, rfl, hartRet_keeps ..⟩
  | hartDispatch => exact ⟨_, rfl, hartDispatch_keeps ..⟩
  | hartRdpos => exact ⟨_, rfl, hartRdpos_keeps ..⟩
  | hartRdcyc => exact ⟨_, rfl, hartRdcyc_keeps ..⟩
  | hartDone => exact ⟨_, rfl, hartDone_keeps ..⟩
  | hartRestart => exact ⟨_, rfl, hartRestart_keeps ..⟩
  | registerWrite => exact ⟨_, rfl, registerWrite_keeps ..⟩
  | pairHiWrite => exact ⟨_, rfl, pairHiWrite_keeps ..⟩
  | pageacc => exact ⟨_, rfl, pageacc_keeps ..⟩
  | sbRegAccess => exact ⟨_, rfl, sbRegAccess_keeps ..⟩
  | lraAccess => exact ⟨_, rfl, lraAccess_keeps ..⟩
  | lwFlitReceived => exact ⟨_, rfl, lwFlitReceived_keeps ..⟩
  | romImageRead => exact ⟨_, rfl, romImageRead_keeps ..⟩
  | sysResetN => exact ⟨_, rfl, sysResetN_keeps ..⟩
  | coreResetRelease => exact ⟨_, rfl, coreResetRelease_keeps ..⟩
  | swdExpiry => exact ⟨_, rfl, swdExpiry_keeps ..⟩
  | refclkLoss => exact ⟨_, rfl, refclkLoss_keeps ..⟩
  | powerOnReset => exact ⟨_, rfl, powerOnReset_keeps ..⟩
  | brownOut => exact ⟨_, rfl, brownOut_keeps ..⟩
  | eventPost => exact ⟨_, rfl, eventPost_keeps ..⟩
  | eventDispatch => exact ⟨_, rfl, eventDispatch_keeps ..⟩
  | handlerBudget => exact ⟨_, rfl, handlerBudget_keeps ..⟩
  | storePerformed => exact ⟨_, rfl, State.atHart_keeps ..⟩
  | arqComplete => exact ⟨_, rfl, arqComplete_keeps ..⟩
  | _ => exact absurd hc nofun

theorem exec_keeps (c : Instr) (s : State) : ∃ t, exec c s = .next t ∧ s.Keeps t := by
  cases hc : reachesHarts c with
  | true => exact exec_reaching c s hc
  | false =>
    obtain ⟨d, hd⟩ := exec_device c s hc
    exact ⟨_, hd, .of_harts rfl rfl⟩

/-! ### O59, O3, O2, O1, O60 -/

/-- Settles O59: a step is a command of the queue or none, and each keeps sound harts sound. -/
theorem everyStepKeepsTheHartsSound : Obligations.EveryStepKeepsTheHartsSound := by
  unfold Obligations.EveryStepKeepsTheHartsSound
  refine ⟨fun s t hs ht => ?_, hartsInv_harts0 rfl⟩
  unfold step at ht
  split at ht
  · cases ht
    exact hs
  · rename_i c r _
    obtain ⟨u, hu, hkeeps⟩ := exec_keeps c { s with pending := r }
    rw [hu] at ht
    cases ht
    exact hkeeps.sound hs

/-- Settles O3: a command outside the list changes the device alone. -/
theorem onlySupervisorCommandsReachTheHarts : Obligations.OnlySupervisorCommandsReachTheHarts := by
  unfold Obligations.OnlySupervisorCommandsReachTheHarts
  intro c s hc
  obtain ⟨d, hd⟩ := exec_device c s hc
  exact ⟨_, hd, rfl⟩

/-- Settles O2: every command answers a next state and keeps the queue. -/
theorem everyCommandCompletes : Obligations.EveryCommandCompletes := by
  unfold Obligations.EveryCommandCompletes
  intro c s
  obtain ⟨t, ht, hkeeps⟩ := exec_keeps c s
  exact ⟨t, ht, hkeeps.pending⟩

/-- Settles O1: the two cases of the queue; on an empty one the block idles (log entry 13). -/
theorem stepRunsTheFrontCommand : Obligations.StepRunsTheFrontCommand := by
  unfold Obligations.StepRunsTheFrontCommand
  refine ⟨fun s c r hs => ?_, fun s hs => ?_⟩
  · unfold step
    rw [hs]
  · unfold step
    rw [hs]

/-- Settles O60. The registers, the harts' registers, the memories and the pins that no table gives are those of log entries 5, 9, 28, 71
and 151. -/
theorem resetHoldsTheStatedValues : Obligations.ResetHoldsTheStatedValues := by
  unfold Obligations.ResetHoldsTheStatedValues
  refine ⟨by decide, fun _ => rfl, fun h => ⟨rfl, fun i => ?_⟩, rfl, rfl, rfl, rfl, rfl, rfl, rfl, rfl, rfl⟩
  unfold Hart.r
  split <;> rfl

end Sys2Proof.Machine
end

section
/-! PROOFS. What the issue of one instruction leaves behind: the hart past it, or its fault; O36, O38, O39. -/
namespace Sys2Proof.Machine

/-! ### The state in which an issued instruction acts -/

/-- Reading a scratchpad word changes no unit of the device but the marks of upset words and the correction's own record. -/
theorem State.spWord_rest (s : State) (a : Nat) :
    { (s.spWord a).2.dev with regs := s.dev.regs, upsets := s.dev.upsets, out := s.dev.out, scrub := s.dev.scrub } = s.dev := by
  have hce : ∀ d : Device, { d.countCe R.sup_SP_CE_COUNT with regs := d.regs, out := d.out, scrub := d.scrub } = d := fun d => by
    unfold Device.countCe Device.corrected
    dsimp only
    split <;> rfl
  unfold State.spWord
  dsimp only
  split
  · rfl
  · exact congrArg (fun d : Device => { d with upsets := s.dev.upsets }) (hce (s.dev.mend .spad 0 (· == a / 4)))
  · rfl

/-- A scratchpad word that reads counts at most a correction. -/
theorem State.spWord_reg {s s1 : State} {a : Nat} {v : Word} (h : s.spWord a = (some v, s1)) {o : Nat} (ho : o ≠ R.sup_SP_CE_COUNT) :
    s1.dev.reg o = s.dev.reg o := by
  unfold State.spWord at h
  dsimp only at h
  split at h
  · cases h
  · obtain ⟨_, rfl⟩ := Prod.mk.inj h
    show (Device.countCe _ _).reg o = _
    unfold Device.countCe Device.corrected
    dsimp only
    have hc : ∀ d : Device, (d.count R.sup_SP_CE_COUNT 1).reg o = d.reg o := fun d => by
      rw [Device.count_eq, Device.reg_setReg, if_neg ho]
    split
    · exact hc _
    · exact hc _
  · obtain ⟨_, rfl⟩ := Prod.mk.inj h
    rfl

/-- With no word upset a scratchpad read gives the word and changes nothing. -/
theorem State.spWord_clean {s : State} (h : s.dev.upsets = []) (a : Nat) :
    s.spWord a = (some (wd (Memory.rd s.harts.sp (a / 4 * 4) 4)), s) := by
  unfold State.spWord
  rw [Device.upset_clean h]

/-- A word of code that is fetched is a scratchpad word that was read. -/
theorem State.fetch_ok {s s1 : State} {a : Nat} {w : Word} (h : s.fetch a = (.ok w, s1)) : s.spWord a = (some w, s1) := by
  unfold State.fetch at h
  split at h
  · cases h
  · generalize s.spWord a = r at h ⊢
    obtain ⟨v, s2⟩ := r
    cases v with
    | none => cases h
    | some v => cases h; rfl

theorem State.hart_of_harts {s t : State} (h : t.harts = s.harts) (k : Nat) : t.hart k = s.hart k := by
  unfold State.hart
  rw [h]

/-- The state in which instruction i, issued by hart h in cycle c, acts: hart h is past it, and its fetch changed at most what a
corrected word changes. -/
structure IssuedAt (s : State) (h c : Nat) (i : HWord) (u : State) : Prop where
  becomes : HartBecomes s h c (((s.atHart c).hart h).issued c i) u
  rest : { u.dev with
      regs := (s.atHart c).dev.regs
      upsets := (s.atHart c).dev.upsets
      out := (s.atHart c).dev.out
      scrub := (s.atHart c).dev.scrub } = (s.atHart c).dev
  clean : (s.atHart c).dev.upsets = [] → u.dev = (s.atHart c).dev

theorem IssuedAt.hart {s u : State} {h c : Nat} {i : HWord} (hu : IssuedAt s h c i u) : u.hart h = ((s.atHart c).hart h).issued c i :=
  hu.becomes.1

/-- An instruction that is issued acts in such a state. -/
theorem issue_acts {s : State} {h c : Nat} {i : HWord} (hi : Issuing s h c i) :
    ∃ u, IssuedAt s h c i u ∧ ∀ act, s.issue h c (some i.op) act = act i u := by
  have hact := fun act => State.issue_of_issuing act hi
  obtain ⟨_, _, _, w, s1, hf, _⟩ := hi
  rw [hf] at hact
  have hs := State.fetch_ok hf
  have hh : s1.harts = (s.atHart c).harts := by have := (s.atHart c).spWord_harts ((s.atHart c).hart h).pc; rwa [hs] at this
  have hp : s1.pending = (s.atHart c).pending := by have := (s.atHart c).spWord_pending ((s.atHart c).hart h).pc; rwa [hs] at this
  have hr := (s.atHart c).spWord_rest ((s.atHart c).hart h).pc
  rw [hs] at hr
  refine ⟨s1.setHart h (((s.atHart c).hart h).issued c i), ⟨⟨?_, fun k hk => ?_, ?_, fun o ho => ?_, ?_⟩, hr, fun hup => ?_⟩, hact⟩
  · rw [State.hart_setHart, if_pos rfl]
  · rw [State.hart_setHart, if_neg hk]
    exact State.hart_of_harts hh k
  · show s1.harts.sp = _
    rw [hh]
  · exact State.spWord_reg hs (by simpa using ho)
  · exact hp.trans (s.atHart_keeps c).pending
  · rw [State.spWord_clean hup] at hs
    show s1.dev = _
    rw [(Prod.mk.inj hs).2]

/-- A command that issues an instruction has its effect in that state. -/
theorem completes_issue {cmd : Instr} {s s' : State} {h c op : Nat} {i : HWord} {act : HWord → State → State} {P : State → Prop}
    (hi : Issuing s' h c i) (hx : exec cmd s = .next (s'.issue h c (some op) act)) (hop : i.op = op)
    (hp : ∀ u, IssuedAt s' h c i u → P (act i u)) : Completes cmd s P := by
  subst hop
  obtain ⟨u, hu, hact⟩ := issue_acts hi
  exact ⟨_, hx.trans (congrArg _ (hact act)), hp u hu⟩

/-! ### What may become of the hart -/

/-- A further change of hart h replaces the former one. -/
theorem HartBecomes.setHart {s t : State} {h c : Nat} {x : Hart} (hb : HartBecomes s h c x t) (y : Hart) :
    HartBecomes s h c y (t.setHart h y) := by
  obtain ⟨_, hothers, hsp, hreg, hpend⟩ := hb
  refine ⟨by rw [State.hart_setHart, if_pos rfl], fun k hk => ?_, hsp, hreg, hpend⟩
  rw [State.hart_setHart, if_neg hk]
  exact hothers k hk

theorem HartBecomes.put {s t : State} {h c : Nat} {x : Hart} (hb : HartBecomes s h c x t) (rd : Nat) (v : Word) :
    HartBecomes s h c (x.setR rd v) (t.put h rd v) := by
  have hset := hb.setHart ((t.hart h).setR rd v)
  rwa [← hb.1]

theorem HartBecomes.jump {s t : State} {h c : Nat} {x : Hart} (hb : HartBecomes s h c x t) (a : Nat) :
    HartBecomes s h c { x with pc := a % 2 ^ 32 } (t.jump h a) := by
  have hset := hb.setHart { t.hart h with pc := a % 2 ^ 32 }
  rwa [← hb.1]

/-- A register of the supervisor's page past its header. -/
theorem ofNoReport_sup {n : Nat} (h : 0x100 ≤ n) (hn : n < 0x1000) : OfNoReport (0xA000 + n) := by
  refine ⟨by omega, by omega, fun hm => ?_⟩
  have hout : ∀ x ∈ faultRegs, x < 0xA000 ∨ 0xB000 ≤ x := by decide
  have := hout _ hm
  omega

/-- What a fault changes of the device (R438). -/
def Device.recordFault (d : Device) (h slot code pc : Nat) (addr : Option Nat) : Device :=
  let d1 := (d.setN (R.sup_HART_FCODE h) (2 ^ 31 + code)).setN (R.sup_HART_FPC h) pc
  let d2 := match addr with
    | some a => d1.setN (R.sup_HART_FADDR h) a
    | none => d1
  let d3 := (d2.err 0xA000 code (wd pc) (wd (h + 256 * slot))).evtBit 0xA000 16
  d3.supEventTag 5 (d3.rf R.sup_FAULT_SLOT 0 6) (wd (16 * h)) (wd code) h

theorem State.hartFault_eq (s : State) (h code pc : Nat) (addr : Option Nat) : s.hartFault h code pc addr =
    (s.setHart h { s.hart h with st := .faulted, first := none }).onDevice fun d => d.recordFault h (s.hart h).slot code pc addr := rfl

/-- A fault writes its three registers and leaves every other of the page's own ones. -/
theorem Device.recordFault_reg (d : Device) {h o : Nat} (slot code pc : Nat) (addr : Option Nat) (ho : OfNoReport o) :
    (d.recordFault h slot code pc addr).reg o =
      if o = R.sup_HART_FADDR h ∧ addr.isSome then wd (addr.getD 0) else if o = R.sup_HART_FPC h then wd pc
        else if o = R.sup_HART_FCODE h then wd (2 ^ 31 + code) else d.reg o := by
  unfold Device.recordFault
  cases addr with
  | none =>
    refine (Device.err_evtBit_reg _ (by decide) code 16 _ _ ho).trans ?_
    simp [Device.setN_eq]
  | some a =>
    refine (Device.err_evtBit_reg _ (by decide) code 16 _ _ ho).trans ?_
    simp [Device.setN_eq]

/-- The fault record names the code. -/
theorem Device.recordFault_code (d : Device) {h : Nat} (hh : h < 4) {code : Nat} (hcode : code < 2 ^ 31) (slot pc : Nat)
    (addr : Option Nat) : (d.recordFault h slot code pc addr).rn (R.sup_HART_FCODE h) = 2 ^ 31 + code := by
  have hreg := (d.recordFault_reg (h := h) slot code pc addr (ofNoReport_sup (n := 0x110 + 4 * h) (by omega) (by omega))).trans
    (by rw [if_neg (by unfold R.sup_HART_FADDR; omega), if_neg (by unfold R.sup_HART_FPC; omega),
      if_pos (by unfold R.sup_HART_FCODE; omega)])
  have hoff : R.sup_HART_FCODE h = 0xA000 + (0x110 + 4 * h) := by unfold R.sup_HART_FCODE; omega
  rw [hoff, Device.rn]
  exact (congrArg BitVec.toNat hreg).trans (by rw [wd, BitVec.toNat_ofNat]; omega)

/-- A fault posts its event. -/
theorem Device.recordFault_posts (d : Device) (h slot code pc : Nat) (addr : Option Nat) :
    ∃ e ∈ (d.recordFault h slot code pc addr).arriving, e.kind = 5 ∧ e.tag = h ∧ e.value = wd code :=
  ⟨_, List.mem_append_right _ (List.mem_singleton_self _), rfl, rfl, rfl⟩

/-- A fault of hart h in a state whose harts and scratchpad are those of the cycle, but for what the issue itself did to the hart. -/
theorem hartFaults_of {s t : State} {h c code : Nat} (hh : h < 4) (hcode : code < 2 ^ 31) (addr : Option Nat)
    (hothers : ∀ k, k ≠ h → t.hart k = (s.atHart c).hart k) (hsp : t.harts.sp = (s.atHart c).harts.sp) (hpend : t.pending = s.pending)
    (hw : (t.hart h).w = ((s.atHart c).hart h).w) (hpc : (t.hart h).pc = ((s.atHart c).hart h).pc)
    (hloops : (t.hart h).loops = ((s.atHart c).hart h).loops) (hcalls : (t.hart h).calls = ((s.atHart c).hart h).calls)
    (hbuf : (t.hart h).buf = ((s.atHart c).hart h).buf) :
    HartFaults s h c code (t.hartFault h code ((s.atHart c).hart h).pc addr) := by
  have hhart : (t.hartFault h code ((s.atHart c).hart h).pc addr).hart h = { t.hart h with st := .faulted, first := none } := by
    rw [State.hartFault_eq]
    exact (State.hart_setHart ..).trans (if_pos rfl)
  have hpcReg := (t.dev.recordFault_reg (h := h) (t.hart h).slot code ((s.atHart c).hart h).pc addr
    (ofNoReport_sup (n := 0x120 + 4 * h) (by omega) (by omega))).trans
      (by rw [if_neg (by unfold R.sup_HART_FADDR; omega), if_pos (by unfold R.sup_HART_FPC; omega)])
  refine ⟨?_, ?_, ?_, ?_, ?_, ?_, ?_, ?_, t.dev.recordFault_posts .., fun k hk => ?_, hsp, hpend⟩
  · rw [hhart]
  · rw [hhart]; exact hw
  · rw [hhart]; exact hpc
  · rw [hhart]; exact hloops
  · rw [hhart]; exact hcalls
  · rw [hhart]; exact hbuf
  · exact t.dev.recordFault_code hh hcode ..
  · have : R.sup_HART_FPC h = 0xA000 + (0x120 + 4 * h) := by unfold R.sup_HART_FPC; omega
    rw [this]
    exact hpcReg
  · rw [← hothers k hk]
    exact (State.hart_setHart ..).trans (if_neg hk)

@[simp] theorem Hart.r_issued (x : Hart) (c : Nat) (i : HWord) : (x.issued c i).r = x.r := rfl

/-- The instruction that is issued faults. -/
theorem IssuedAt.faults {s u : State} {h : Fin 4} {c : Nat} {i : HWord} (hu : IssuedAt s h c i u) {code : Nat} (hcode : code < 2 ^ 31)
    (addr : Option Nat) : HartFaults s h c code (u.faultAt h code addr) := by
  have hcur : (u.hart h).cur = ((s.atHart c).hart h).pc := by rw [hu.hart]; rfl
  obtain ⟨_, hothers, hsp, -, hpend⟩ := hu.becomes.setHart { u.hart h with pc := ((s.atHart c).hart h).pc }
  unfold State.faultAt
  rw [hcur]
  refine hartFaults_of h.isLt hcode addr hothers hsp hpend ?_ ?_ ?_ ?_ ?_
  all_goals
    rw [State.hart_setHart, if_pos rfl]
  all_goals
    rw [hu.hart]
    rfl

/-! ### O36 -/

theorem hartR_eq (op h c : Nat) {f : Word → Word → Word} {val : Hart → HWord → Word} (hf : ∀ x i, f (x.r i.rs) (x.r i.rt) = val x i)
    (s : State) : hartR op h c f s = s.issue h c (some op) fun i u => u.put h i.rd (val (u.hart h) i) := by
  unfold hartR
  simp only [hf]

theorem hartI_eq (op h c : Nat) {f : Word → HWord → Word} {val : Hart → HWord → Word} (hf : ∀ x i, f (x.r i.rs) i = val x i)
    (s : State) : hartI op h c f s = s.issue h c (some op) fun i u => u.put h i.rd (val (u.hart h) i) := by
  unfold hartI
  simp only [hf]

theorem word_sub (a b : Word) : a - b = BitVec.ofInt 32 (a.toInt - b.toInt) := by
  apply BitVec.eq_of_toInt_eq
  rw [BitVec.toInt_sub, BitVec.toInt_ofInt]

theorem word_addInt (a : Word) (n : Int) : a + BitVec.ofInt 32 n = BitVec.ofInt 32 (a.toInt + n) := by
  rw [BitVec.ofInt_add, BitVec.ofInt_toInt]

theorem word_add (a b : Word) : a + b = BitVec.ofNat 32 (a.toNat + b.toNat) := by
  rw [BitVec.ofNat_add, BitVec.ofNat_toNat, BitVec.setWidth_eq, BitVec.ofNat_toNat, BitVec.setWidth_eq]

theorem word_mul (a b : Word) : a * b = BitVec.ofNat 32 (a.toNat * b.toNat) := by
  rw [BitVec.ofNat_mul, BitVec.ofNat_toNat, BitVec.setWidth_eq, BitVec.ofNat_toNat, BitVec.setWidth_eq]

theorem word_sll (a : Word) (n : Nat) : a <<< n = BitVec.ofNat 32 (a.toNat * 2 ^ n) := by
  rw [← BitVec.toNat_inj, BitVec.toNat_shiftLeft, BitVec.toNat_ofNat, Nat.shiftLeft_eq]

theorem word_srl (a : Word) (n : Nat) : a >>> n = BitVec.ofNat 32 (a.toNat / 2 ^ n) := by
  rw [← BitVec.toNat_inj, BitVec.toNat_ushiftRight, BitVec.toNat_ofNat, Nat.shiftRight_eq_div_pow]
  exact (Nat.mod_eq_of_lt (Nat.lt_of_le_of_lt (Nat.div_le_self _ _) a.isLt)).symm

theorem word_sra (a : Word) (n : Nat) : a.sshiftRight n = BitVec.ofInt 32 (a.toInt / 2 ^ n) := by
  rw [BitVec.sshiftRight, Int.shiftRight_eq_div_pow]
  norm_cast

theorem word_slt (a b : Word) : wd (b2n (a.slt b)) = oneIf (a.toInt < b.toInt) := by
  unfold oneIf
  rw [BitVec.slt]
  by_cases h : a.toInt < b.toInt
  · rw [if_pos h, decide_eq_true h]
    rfl
  · rw [if_neg h, decide_eq_false h]
    rfl

theorem word_ult (a b : Word) : wd (b2n (a.ult b)) = oneIf (a.toNat < b.toNat) := by
  unfold oneIf
  rw [BitVec.ult]
  by_cases h : a.toNat < b.toNat
  · rw [if_pos h, decide_eq_true h]
    rfl
  · rw [if_neg h, decide_eq_false h]
    rfl

/-- Each arithmetic instruction writes w[RD] with the table's value. -/
theorem exec_regOp : ∀ x ∈ regOps, ∀ (h : Fin 4) (c : Nat) (s : State),
    exec (x.cmd h c) s = .next (s.issue h c (some x.opc) fun i u => u.put h i.rd (x.val (u.hart h) i)) := by
  intro x hx h c s
  simp only [regOps, List.mem_cons, List.not_mem_nil, or_false] at hx
  rcases hx with rfl | rfl | rfl | rfl | rfl | rfl | rfl | rfl | rfl | rfl | rfl | rfl | rfl | rfl | rfl | rfl | rfl | rfl | rfl
  · exact congrArg Host.Outcome.next (hartR_eq _ _ _ (fun _ _ => word_add _ _) s)
  · exact congrArg Host.Outcome.next (hartR_eq _ _ _ (fun _ _ => word_sub _ _) s)
  · exact congrArg Host.Outcome.next (hartR_eq _ _ _ (fun _ _ => rfl) s)
  · exact congrArg Host.Outcome.next (hartR_eq _ _ _ (fun _ _ => rfl) s)
  · exact congrArg Host.Outcome.next (hartR_eq _ _ _ (fun _ _ => rfl) s)
  · exact congrArg Host.Outcome.next (hartR_eq _ _ _ (fun _ _ => word_sll _ _) s)
  · exact congrArg Host.Outcome.next (hartR_eq _ _ _ (fun _ _ => word_srl _ _) s)
  · exact congrArg Host.Outcome.next (hartR_eq _ _ _ (fun _ _ => word_sra _ _) s)
  · exact congrArg Host.Outcome.next (hartR_eq _ _ _ (fun _ _ => word_slt _ _) s)
  · exact congrArg Host.Outcome.next (hartR_eq _ _ _ (fun _ _ => word_ult _ _) s)
  · exact congrArg Host.Outcome.next (hartR_eq _ _ _ (fun _ _ => word_mul _ _) s)
  · exact congrArg Host.Outcome.next (hartI_eq _ _ _ (fun _ _ => word_addInt _ _) s)
  · exact congrArg Host.Outcome.next (hartI_eq _ _ _ (fun _ _ => rfl) s)
  · exact congrArg Host.Outcome.next (hartI_eq _ _ _ (fun _ _ => rfl) s)
  · exact congrArg Host.Outcome.next (hartI_eq _ _ _ (fun _ _ => rfl) s)
  · exact congrArg Host.Outcome.next (hartI_eq _ _ _ (fun _ _ => word_sll _ _) s)
  · exact congrArg Host.Outcome.next (hartI_eq _ _ _ (fun _ _ => word_srl _ _) s)
  · exact congrArg Host.Outcome.next (hartI_eq _ _ _ (fun _ _ => word_sra _ _) s)
  · exact congrArg Host.Outcome.next (hartI_eq _ _ _ (fun _ _ => rfl) s)

/-- The values depend on the registers alone. -/
theorem regOp_val_issued : ∀ x ∈ regOps, ∀ (y : Hart) (c : Nat) (i : HWord), x.val (y.issued c i) i = x.val y i := by
  intro x hx y c i
  simp only [regOps, List.mem_cons, List.not_mem_nil, or_false] at hx
  rcases hx with rfl | rfl | rfl | rfl | rfl | rfl | rfl | rfl | rfl | rfl | rfl | rfl | rfl | rfl | rfl | rfl | rfl | rfl | rfl
  all_goals rfl

theorem bool_beq (a b : Word) : (a == b) = decide (a = b) := by
  by_cases h : a = b <;> simp [h]

theorem word_sge (a b : Word) : (!a.slt b) = decide (b.toInt ≤ a.toInt) := by
  rw [BitVec.slt, ← decide_not, Bool.decide_congr Int.not_lt]

theorem word_uge (a b : Word) : (!a.ult b) = decide (b.toNat ≤ a.toNat) := by
  rw [BitVec.ult, ← decide_not, Bool.decide_congr Nat.not_lt]

theorem hartB_eq (op h c : Nat) {f g : Word → Word → Bool} (hf : ∀ a b, f a b = g a b) (s : State) :
    hartB op h c f s = hartB op h c g s := by
  rw [show f = g from funext fun a => funext (hf a)]

/-- Each conditional branch is taken by the table's condition. -/
theorem exec_branchOp : ∀ x ∈ branchOps, ∀ (h : Fin 4) (c : Nat) (s : State),
    exec (x.1 h c) s = .next (hartB x.2.1 h c x.2.2 s) := by
  intro x hx h c s
  simp only [branchOps, List.mem_cons, List.not_mem_nil, or_false] at hx
  rcases hx with rfl | rfl | rfl | rfl | rfl | rfl
  · exact congrArg Host.Outcome.next (hartB_eq _ _ _ bool_beq s)
  · exact congrArg Host.Outcome.next (hartB_eq _ _ _ (fun a b => by rw [bne, bool_beq, ← decide_not]) s)
  · exact congrArg Host.Outcome.next (hartB_eq _ _ _ (fun _ _ => rfl) s)
  · exact congrArg Host.Outcome.next (hartB_eq _ _ _ word_sge s)
  · exact congrArg Host.Outcome.next (hartB_eq _ _ _ (fun _ _ => rfl) s)
  · exact congrArg Host.Outcome.next (hartB_eq _ _ _ word_uge s)

section
variable {s u : State} {h : Fin 4} {c : Nat} {i : HWord} {a : Nat}

/-- A target at or before the end of the innermost loop of the frame becomes the pc (R430). -/
theorem IssuedAt.goesForward (hu : IssuedAt s h c i u) (ha : ((s.atHart c).hart h).beyond a = false) :
    HartBecomes s h c { ((s.atHart c).hart h).issued c i with pc := a % 2 ^ 32 } (u.goForward h a) := by
  unfold State.goForward
  rw [hu.hart, show (((s.atHart c).hart h).issued c i).beyond a = ((s.atHart c).hart h).beyond a from rfl, ha, if_neg (by decide)]
  exact hu.becomes.jump a

/-- A target beyond it faults. -/
theorem IssuedAt.goesBeyond (hu : IssuedAt s h c i u) (ha : ((s.atHart c).hart h).beyond a = true) :
    HartFaults s h c 0x102 (u.goForward h a) := by
  unfold State.goForward
  rw [hu.hart, show (((s.atHart c).hart h).issued c i).beyond a = ((s.atHart c).hart h).beyond a from rfl, ha, if_pos rfl]
  exact hu.faults (by decide) none
end

/-- Settles O36: an arithmetic instruction writes w[RD] alone, and a taken branch or JMP goes forward within the innermost loop. -/
theorem hartArithmeticAndBranches : Obligations.HartArithmeticAndBranches := by
  refine ⟨fun x hx s h c i hi hop => ?_, fun x k v => ⟨rfl, fun hk => ?_, fun j hj => ?_⟩, fun x hx s h c i hi hop => ?_,
    fun s h c i hi hop => ?_⟩
  · refine completes_issue hi (exec_regOp x hx h c s) hop fun u hu => ?_
    rw [hu.hart, regOp_val_issued x hx]
    have hput := hu.becomes.put i.rd (x.val ((s.atHart c).hart h) i)
    refine ⟨hput, fun hrd => ?_⟩
    rw [hput.1, hrd, Hart.setR_zero]
    rfl
  · rw [Hart.r_setR _ _ _ _ hk, if_pos rfl]
  · by_cases hk : k = 0
    · rw [hk, Hart.setR_zero]
    · rw [Hart.r_setR _ _ _ _ hk, if_neg hj]
  · have hx := exec_branchOp x hx h c s
    refine ⟨fun hno => ?_, fun hyes ha => ?_, fun hyes ha => ?_⟩
    · refine completes_issue hi hx hop fun u hu => ?_
      rw [hu.hart, Hart.r_issued, if_neg (ne_true_of_eq_false hno)]
      exact hu.becomes
    · refine completes_issue hi hx hop fun u hu => ?_
      rw [hu.hart, Hart.r_issued, if_pos hyes]
      exact hu.goesForward ha
    · refine completes_issue hi hx hop fun u hu => ?_
      rw [hu.hart, Hart.r_issued, if_pos hyes]
      exact hu.goesBeyond ha
  · refine ⟨fun ha => ?_, fun ha => ?_⟩
    · refine completes_issue hi rfl hop fun u hu => ?_
      rw [hu.hart]
      exact hu.goesForward ha
    · refine completes_issue hi rfl hop fun u hu => ?_
      rw [hu.hart]
      exact hu.goesBeyond ha

/-! ### O38 -/

/-- A fetch sees the code, the scratchpad and the upset words alone. -/
theorem State.fetch_congr {s t : State} (hdev : t.dev = s.dev) (hsp : t.harts.sp = s.harts.sp) (hup : s.dev.upsets = []) (a : Nat) :
    t.fetch a = ((s.fetch a).1, t) ∧ (s.fetch a).2 = s := by
  have hlim : t.codeLimit = s.codeLimit := by
    unfold State.codeLimit
    rw [hdev]
  have hup' : t.dev.upsets = [] := by rw [hdev, hup]
  unfold State.fetch
  rw [hlim, State.spWord_clean hup, State.spWord_clean hup', hsp]
  split
  · exact ⟨rfl, rfl⟩
  · exact ⟨rfl, rfl⟩

/-- The issued instruction fetches a further word of code as the cycle's state would. -/
theorem IssuedAt.fetch {s u s2 : State} {h c : Nat} {i : HWord} (hu : IssuedAt s h c i u) (hup : (s.atHart c).dev.upsets = []) {a : Nat}
    {w : Word} (hf : (s.atHart c).fetch a = (.ok w, s2)) : u.fetch a = (.ok w, u) := by
  obtain ⟨_, _, hsp, _, _⟩ := hu.becomes
  rw [(State.fetch_congr (hu.clean hup) hsp hup a).1, hf]

/-- Hart h of an issued instruction with its stacks or pc changed. -/
theorem IssuedAt.setHart {s u : State} {h c : Nat} {i : HWord} (hu : IssuedAt s h c i u) (y : Hart) : HartBecomes s h c y (u.setHart h y) :=
  hu.becomes.setHart y

/-- What LOOP does once it is issued (R431). -/
def loopAct (h : Nat) (i : HWord) (s : State) : State :=
  let x := s.hart h
  let n := (x.r i.rs).toNat
  let e := (x.cur + 4 * i.imm) % 2 ^ 32
  if i.imm = 0 then s.faultAt h 0x100 none
  else if 65535 < n then s.faultAt h 0x104 none
  else match s.fetch e with
    | (.error k, s1) => s1.faultAt h k.1 k.2
    | (.ok w, s1) =>
      if fld w 26 6 ≠ 0x31 ∨ x.beyond e then s1.faultAt h 0x102 none
      else if n = 0 then s1.jump h (e + 4)
      else if x.loops.length = 4 then s1.faultAt h 0x103 none
      else s1.setHart h { s1.hart h with loops := ⟨x.pc, e, n⟩ :: x.loops }

theorem exec_hartLoop (h : Fin 4) (c : Nat) (s : State) :
    exec (.hartLoop h c) s = .next (s.issue h c (some 0x30) fun i u => loopAct h i u) := rfl

/-- What ENDLOOP does once it is issued (R431). -/
def endloopAct (h : Nat) (s : State) : State :=
  let x := s.hart h
  match x.loops with
  | [] => s.faultAt h 0x102 none
  | l :: r =>
    if x.loops.length = x.fb ∨ l.fin ≠ x.cur then s.faultAt h 0x102 none
    else if l.left ≤ 1 then s.setHart h { x with loops := r }
    else s.setHart h { x with loops := { l with left := l.left - 1 } :: r, pc := l.start }

theorem exec_hartEndloop (h : Fin 4) (c : Nat) (s : State) :
    exec (.hartEndloop h c) s = .next (s.issue h c (some 0x31) fun _ u => endloopAct h u) := rfl

/-- Settles O38: LOOP and ENDLOOP by R431, fault by fault. -/
theorem loopsCountFromARegister : Obligations.LoopsCountFromARegister := by
  intro s h c i hi y n e opc
  have hloop : ∀ {P : State → Prop}, i.op = 0x30 → (∀ u, IssuedAt s h c i u → P (loopAct h i u)) → Completes (.hartLoop h c) s P :=
    fun hop hp => completes_issue hi (exec_hartLoop h c s) hop hp
  have hend : ∀ {P : State → Prop}, i.op = 0x31 → (∀ u, IssuedAt s h c i u → P (endloopAct h u)) → Completes (.hartEndloop h c) s P :=
    fun hop hp => completes_issue hi (exec_hartEndloop h c s) hop hp
  refine ⟨fun hop => ⟨fun himm => ?_, fun himm hn => ?_, fun o himm hn ho hup => ?_⟩, fun hop => ⟨fun hbad => ?_, fun l r hl hfb hfin => ?_⟩⟩
  · refine hloop hop fun u hu => ?_
    unfold loopAct
    rw [if_pos himm]
    exact hu.faults (by decide) none
  · refine hloop hop fun u hu => ?_
    unfold loopAct
    rw [if_neg himm, hu.hart, Hart.r_issued, if_pos hn]
    exact hu.faults (by decide) none
  · obtain ⟨w, s2, hf, hw⟩ := ho
    have hread : ∀ u, IssuedAt s h c i u → loopAct h i u =
        if o ≠ 0x31 ∨ y.beyond e then u.faultAt h 0x102 none
        else if n = 0 then u.jump h (e + 4)
        else if y.loops.length = 4 then u.faultAt h 0x103 none
        else u.setHart h { y.issued c i with loops := ⟨(y.pc + 4) % 2 ^ 32, e, n⟩ :: y.loops } := fun u hu => by
      unfold loopAct
      rw [if_neg himm, hu.hart, Hart.r_issued, if_neg (Nat.not_lt.2 hn), show (y.issued c i).cur = y.pc from rfl, hu.fetch hup hf]
      dsimp only
      rw [hw, hu.hart]
      rfl
    refine ⟨fun ho => ?_, fun ho hb => ?_, fun ho hb hn => ?_, fun ho hb hn hlen => ?_, fun ho hb hn hlen => ?_⟩
    all_goals
      refine hloop hop fun u hu => ?_
      rw [hread u hu]
    · rw [if_pos (.inl ho)]
      exact hu.faults (by decide) none
    · rw [if_pos (.inr hb)]
      exact hu.faults (by decide) none
    all_goals rw [if_neg (by simp [ho, hb])]
    · rw [if_pos hn]
      exact hu.becomes.jump (e + 4)
    · rw [if_neg hn, if_pos hlen]
      exact hu.faults (by decide) none
    · rw [if_neg hn, if_neg hlen]
      exact hu.setHart _
  · refine hend hop fun u hu => ?_
    unfold endloopAct
    rw [hu.hart]
    show HartFaults s h c 0x102 (match y.loops with | [] => _ | l :: r => _)
    cases hl : y.loops with
    | nil => exact hu.faults (by decide) none
    | cons l r =>
      dsimp only
      rw [if_pos]
      · exact hu.faults (by decide) none
      · refine hbad.imp (fun h => ?_) fun h => ?_
        · exact h
        · exact h l (by simp [hl])
  · have hstep : ∀ u, IssuedAt s h c i u → endloopAct h u =
        if l.left ≤ 1 then u.setHart h { y.issued c i with loops := r }
        else u.setHart h { y.issued c i with loops := { l with left := l.left - 1 } :: r, pc := l.start } := fun u hu => by
      unfold endloopAct
      rw [hu.hart]
      show (match y.loops with | [] => _ | l :: r => _) = _
      rw [hl]
      dsimp only
      rw [if_neg]
      rintro (h | h)
      · exact hfb h
      · exact h hfin
    refine ⟨fun hleft => ?_, fun hleft => ?_⟩
    all_goals
      refine hend hop fun u hu => ?_
      rw [hstep u hu]
    · rw [if_neg (by omega)]
      exact hu.setHart _
    · rw [if_pos (by omega)]
      exact hu.setHart _

/-! ### O39 -/

/-- What CALL does once it is issued (R432). -/
def callAct (h : Nat) (i : HWord) (s : State) : State :=
  let x := s.hart h
  if x.calls.length = 8 then s.faultAt h 0x105 none
  else if s.codeLimit ≤ 4 * i.tgt then s.faultAt h 0x106 (some (4 * i.tgt))
  else s.setHart h { x with calls := (x.pc, x.loops.length) :: x.calls, pc := 4 * i.tgt }

theorem exec_hartCall (h : Fin 4) (c : Nat) (s : State) :
    exec (.hartCall h c) s = .next (s.issue h c (some 0x32) fun i u => callAct h i u) := rfl

/-- What RET does once it is issued (R432). -/
def retAct (h : Nat) (s : State) : State :=
  let x := s.hart h
  match x.calls with
  | [] => s.faultAt h 0x105 none
  | (a, _) :: r => if x.loops.length ≠ x.fb then s.faultAt h 0x102 none else s.setHart h { x with calls := r, pc := a }

theorem exec_hartRet (h : Fin 4) (c : Nat) (s : State) :
    exec (.hartRet h c) s = .next (s.issue h c (some 0x33) fun _ u => retAct h u) := rfl

/-- The issue leaves CODE_LIMIT. -/
theorem IssuedAt.codeLimit {s u : State} {h c : Nat} {i : HWord} (hu : IssuedAt s h c i u) : u.codeLimit = (s.atHart c).codeLimit := by
  obtain ⟨_, _, _, hreg, _⟩ := hu.becomes
  unfold State.codeLimit Device.rn
  rw [hreg _ (by decide)]

/-- Settles O39: CALL and RET by R432, fault by fault. -/
theorem callsStackReturnAddresses : Obligations.CallsStackReturnAddresses := by
  intro s h c i hi y
  have hcall : ∀ {P : State → Prop}, i.op = 0x32 → (∀ u, IssuedAt s h c i u → P (callAct h i u)) → Completes (.hartCall h c) s P :=
    fun hop hp => completes_issue hi (exec_hartCall h c s) hop hp
  have hret : ∀ {P : State → Prop}, i.op = 0x33 → (∀ u, IssuedAt s h c i u → P (retAct h u)) → Completes (.hartRet h c) s P :=
    fun hop hp => completes_issue hi (exec_hartRet h c s) hop hp
  have hcallAct : ∀ u, IssuedAt s h c i u → callAct h i u =
      if y.calls.length = 8 then u.faultAt h 0x105 none
      else if (s.atHart c).codeLimit ≤ 4 * i.tgt then u.faultAt h 0x106 (some (4 * i.tgt))
      else u.setHart h { y.issued c i with calls := ((y.pc + 4) % 2 ^ 32, y.loops.length) :: y.calls, pc := 4 * i.tgt } := fun u hu => by
    unfold callAct
    rw [hu.hart, hu.codeLimit]
    rfl
  have hretAct : ∀ u, IssuedAt s h c i u → retAct h u = match y.calls with
      | [] => u.faultAt h 0x105 none
      | (a, _) :: r => if y.loops.length ≠ y.fb then u.faultAt h 0x102 none else u.setHart h { y.issued c i with calls := r, pc := a } :=
    fun u hu => by
      unfold retAct
      rw [hu.hart]
      rfl
  refine ⟨fun hop => ⟨fun hlen => hcall hop fun u hu => ?_, fun hlen hlim => hcall hop fun u hu => ?_,
    fun hlen hlim => hcall hop fun u hu => ?_⟩, fun hop => ⟨fun hcalls => hret hop fun u hu => ?_,
    fun hcalls hfb => hret hop fun u hu => ?_, fun a n r hcalls hfb => hret hop fun u hu => ?_⟩⟩
  · rw [hcallAct u hu, if_pos hlen]
    exact hu.faults (by decide) none
  · rw [hcallAct u hu, if_neg hlen, if_pos hlim]
    exact hu.faults (by decide) _
  · rw [hcallAct u hu, if_neg hlen, if_neg (Nat.not_le.2 hlim)]
    have hb := hu.setHart { y.issued c i with calls := ((y.pc + 4) % 2 ^ 32, y.loops.length) :: y.calls, pc := 4 * i.tgt }
    refine ⟨hb, ?_⟩
    rw [hb.1]
    rfl
  · rw [hretAct u hu, hcalls]
    exact hu.faults (by decide) none
  · rw [hretAct u hu]
    cases hc : y.calls with
    | nil => exact absurd hc hcalls
    | cons a r =>
      dsimp only
      rw [if_pos hfb]
      exact hu.faults (by decide) none
  · rw [hretAct u hu, hcalls]
    dsimp only
    rw [if_neg (not_not.2 hfb)]
    have hb := hu.setHart { y.issued c i with calls := r, pc := a }
    refine ⟨hb, ?_⟩
    rw [hb.1]
    rfl

end Sys2Proof.Machine
end

section
/-! PROOFS. Position and cycle reads, requests and the ends of handlers (R426, R428, R434, R438, R439); O41. -/
namespace Sys2Proof.Machine

/-! ### What an issue leaves of the device -/

theorem IssuedAt.reg {s u : State} {h c : Nat} {i : HWord} (hu : IssuedAt s h c i u) {o : Nat} (ho : o ≠ R.sup_SP_CE_COUNT) :
    u.dev.reg o = (s.atHart c).dev.reg o := by
  obtain ⟨_, _, _, hreg, _⟩ := hu.becomes
  exact hreg o (by simpa using ho)

theorem IssuedAt.now {s u : State} {h c : Nat} {i : HWord} (hu : IssuedAt s h c i u) : u.dev.now = (s.atHart c).dev.now :=
  (congrArg Device.now hu.rest :)

theorem IssuedAt.plb {s u : State} {h c : Nat} {i : HWord} (hu : IssuedAt s h c i u) : u.dev.plb = (s.atHart c).dev.plb :=
  (congrArg Device.plb hu.rest :)

/-- The reported position reads the Plumb unit's and the PTP clocks' registers alone. -/
theorem Device.chP_congr {d e : Device} (hreg : ∀ o, 0x10000 ≤ o → e.reg o = d.reg o) (hnow : e.now = d.now) (hplb : e.plb = d.plb)
    (c : Nat) : e.chP c = d.chP c := by
  have hsrc : e.reg (R.plb_SRC c) = d.reg (R.plb_SRC c) := hreg _ (by unfold R.plb_SRC; omega)
  have hnum : e.reg (R.plb_NUM c) = d.reg (R.plb_NUM c) := hreg _ (by unfold R.plb_NUM; omega)
  have hden : e.reg (R.plb_DEN c) = d.reg (R.plb_DEN c) := hreg _ (by unfold R.plb_DEN; omega)
  have hlo : e.reg (R.plb_MOD_LO c) = d.reg (R.plb_MOD_LO c) := hreg _ (by unfold R.plb_MOD_LO; omega)
  have hhi : e.reg (R.plb_MOD_LO c + 4) = d.reg (R.plb_MOD_LO c + 4) := hreg _ (by unfold R.plb_MOD_LO; omega)
  have hctrl : e.reg R.plb_PTP_CTRL = d.reg R.plb_PTP_CTRL := hreg _ (by decide)
  have hadj : ∀ p, e.reg (R.eth_PTP_ADJ p) = d.reg (R.eth_PTP_ADJ p) := fun p => hreg _ (by unfold R.eth_PTP_ADJ; omega)
  unfold Device.chP Device.toP Device.chU Device.chMod Device.rn64 Device.chEnabled Device.freeRunning Device.freeCounts Device.chNum
    Device.chDen Device.ptpNs Device.ptpAt Device.ptpValid Device.srcPort Device.srcKind Device.ch Device.rf Device.rn
  simp only [hsrc, hnum, hden, hlo, hhi, hctrl, hadj, hnow, hplb]

/-! ### Pairs (R434) -/

/-- A pair written to an even register from 2 to 14. -/
theorem HartBecomes.putPair {s t : State} {h c : Nat} {x : Hart} (hb : HartBecomes s h c x t) {rd : Nat} (heven : rd % 2 = 0)
    (hrd : rd ≠ 0) (v : Nat) : HartBecomes s h c ((x.setR rd (wd v)).setR (rd + 1) (wd (v / 2 ^ 32))) (t.putPair h rd v) := by
  unfold State.putPair
  rw [if_neg (by omega)]
  exact (hb.put rd (wd v)).put (rd + 1) (wd (v / 2 ^ 32))

/-- An odd RD or 0 faults ILLEGAL. -/
theorem IssuedAt.putPair_faults {s u : State} {h : Fin 4} {c : Nat} {i : HWord} (hu : IssuedAt s h c i u) {rd : Nat}
    (hrd : rd % 2 = 1 ∨ rd = 0) (v : Nat) : HartFaults s h c 0x100 (u.putPair h rd v) := by
  unfold State.putPair
  rw [if_pos (by omega)]
  exact hu.faults (by decide) none

/-- A pair instruction by its RD, where the value it writes is that of the cycle. -/
theorem completes_pair {cmd : Instr} {s s' : State} {h : Fin 4} {c op : Nat} {i : HWord} {val : HWord → State → Nat} {v : Nat}
    (hi : Issuing s' h c i) (hx : exec cmd s = .next (s'.issue h c (some op) fun i u => u.putPair h i.rd (val i u))) (hop : i.op = op)
    (hv : ∀ u, IssuedAt s' h c i u → val i u = v) :
    (i.rd % 2 = 0 → i.rd ≠ 0 → Completes cmd s (HartBecomes s' h c
      (((((s'.atHart c).hart h).issued c i).setR i.rd (wd v)).setR (i.rd + 1) (wd (v / 2 ^ 32))))) ∧
    (i.rd % 2 = 1 ∨ i.rd = 0 → Completes cmd s (HartFaults s' h c 0x100)) := by
  refine ⟨fun heven hrd => ?_, fun hrd => ?_⟩
  · refine completes_issue hi hx hop fun u hu => ?_
    rw [hv u hu]
    exact hu.becomes.putPair heven hrd v
  · exact completes_issue hi hx hop fun u hu => hu.putPair_faults hrd _

/-! ### The lowest free place (R426) -/

/-- The place that ARQ takes. -/
def arqPlace (l : List Arq) : Option Nat := (List.range 8).find? fun k => !(l.any fun q => q.place == k)

theorem arqPlace_eq {l : List Arq} {p : Nat} (hp : p < 8) (hfree : ∀ q ∈ l, q.place ≠ p) (hbelow : ∀ r < p, ∃ q ∈ l, q.place = r) :
    arqPlace l = some p := by
  unfold arqPlace
  rw [List.find?_range_eq_some]
  simpa [hp] using ⟨hfree, hbelow⟩

theorem arqPlace_none {l : List Arq} (h : ∀ p < 8, ∃ q ∈ l, q.place = p) : arqPlace l = none := by
  unfold arqPlace
  rw [List.find?_eq_none]
  simpa using h

/-- What ARQ does once it is issued (R426). -/
def arqAct (h : Nat) (i : HWord) (s : State) : State :=
  let x := s.hart h
  let a := (x.r i.rs).toNat
  if !arqAddr a then s.faultAt h 0x106 (some a)
  else match arqPlace x.arqs with
    | none => s.faultAt h 0x10A none
    | some k => s.setHart h { x with
        arqs := x.arqs ++ [⟨k, a, i.imm / 2 ^ 13 % 2 == 1, x.r i.rt, i.imm % 64, x.nextArq, false⟩]
        nextArq := x.nextArq + 1 }

theorem exec_hartArq (h : Fin 4) (c : Nat) (s : State) :
    exec (.hartArq h c) s = .next (s.issue h c (some 0x22) fun i u => arqAct h i u) := rfl

/-- ARQ by R426: the lowest free place, or a fault. -/
theorem arqTakesAPlace {s : State} {h : Fin 4} {c : Nat} {i : HWord} (hi : Issuing s h c i) (hop : i.op = 0x22) :
    let y := (s.atHart c).hart h
    let a := (y.r i.rs).toNat
    (arqAddr a = false → Completes (.hartArq h c) s (HartFaults s h c 0x106)) ∧
    (arqAddr a = true → (∀ p < 8, ∃ q ∈ y.arqs, q.place = p) → Completes (.hartArq h c) s (HartFaults s h c 0x10A)) ∧
    (∀ p, arqAddr a = true → p < 8 → (∀ q ∈ y.arqs, q.place ≠ p) → (∀ r < p, ∃ q ∈ y.arqs, q.place = r) → Completes (.hartArq h c) s
      (HartBecomes s h c { y.issued c i with
        arqs := y.arqs ++ [⟨p, a, i.imm / 2 ^ 13 % 2 == 1, y.r i.rt, i.imm % 64, y.nextArq, false⟩]
        nextArq := y.nextArq + 1 })) := by
  intro y a
  have hact : ∀ u, IssuedAt s h c i u → arqAct h i u = if !arqAddr a then u.faultAt h 0x106 (some a)
      else match arqPlace y.arqs with
        | none => u.faultAt h 0x10A none
        | some k => u.setHart h { y.issued c i with
            arqs := y.arqs ++ [⟨k, a, i.imm / 2 ^ 13 % 2 == 1, y.r i.rt, i.imm % 64, y.nextArq, false⟩]
            nextArq := y.nextArq + 1 } := fun u hu => by
    unfold arqAct
    rw [hu.hart]
    rfl
  refine ⟨fun ha => ?_, fun ha hfull => ?_, fun p ha hp hfree hbelow => ?_⟩
  all_goals
    refine completes_issue hi (exec_hartArq h c s) hop fun u hu => ?_
    rw [hact u hu, ha]
  · rw [if_pos (by decide)]
    exact hu.faults (by decide) _
  · rw [if_neg (by decide), arqPlace_none hfull]
    exact hu.faults (by decide) none
  · rw [if_neg (by decide), arqPlace_eq hp hfree hbelow]
    exact hu.setHart _

/-! ### The end of a handler -/

/-- What DONE does once it is issued (R439). -/
def doneAct (h c : Nat) (s : State) : State :=
  let x := s.hart h
  let f := x.first.getD c
  if c + 2 ≤ f + s.budget h then
    let used := c + 2 - f
    (s.setHart h { x with st := .idle, first := none, loops := [], calls := [] }).onDevice fun d =>
      d.setN (R.sup_HS_MAXUSED x.slot) (max (d.rn (R.sup_HS_MAXUSED x.slot)) used)
  else s

theorem exec_hartDone (h : Fin 4) (c : Nat) (s : State) :
    exec (.hartDone h c) s = .next (s.issue h c (some 0x3A) fun _ u => doneAct h c u) := rfl

theorem State.budget_lt (s : State) (h : Nat) : s.budget h < 2 ^ 24 := fld_lt _ _ _

/-- The issue leaves the budget of the hart's slot. -/
theorem IssuedAt.budget {s u : State} {h c : Nat} {i : HWord} (hu : IssuedAt s h c i u) : u.budget h = (s.atHart c).budget h := by
  unfold State.budget Device.rf
  rw [hu.hart, hu.reg (by show 0xB104 + 0x10 * _ ≠ 0xA1A8; omega)]
  rfl

/-- A handler's first cycle stays that of its first instruction. -/
theorem Hart.issued_first (x : Hart) (c : Nat) (i : HWord) : (x.issued c i).first.getD c = x.first.getD c := by
  show (x.first.or (some c)).getD c = _
  cases x.first <;> rfl

/-- A word that none of the table decodes faults. -/
theorem issue_illegal {s s1 : State} {h c : Nat} {w : Word} {act : HWord → State → State} (hrun : ((s.atHart c).hart h).st = .running)
    (hfree : ((s.atHart c).hart h).free ≤ c) (hexp : (s.atHart c).expired h c = false)
    (hf : (s.atHart c).fetch ((s.atHart c).hart h).pc = (.ok w, s1)) (hd : hartDecode w = none) :
    s.issue h c none act = s1.hartFault h 0x100 ((s.atHart c).hart h).pc none := by
  unfold State.issue
  dsimp only
  rw [if_neg (by simp [hrun, hfree]), if_neg (by simp [hexp])]
  simp only [hf, hd, if_true]

theorem handlerBudget_expired {s : State} {h : Fin 4} {c : Nat} (hexp : (s.atHart c).expired h c = true) : handlerBudget h c s =
    ((s.atHart c).setHart h { (s.atHart c).hart h with buf := ((s.atHart c).hart h).buf.filter fun a => !a.inst }).hartFault h 0x101
      (((s.atHart c).hart h).faultPc c) none := if_pos hexp

@[simp] theorem State.hart_onDevice (s : State) (f : Device → Device) (h : Nat) : (s.onDevice f).hart h = s.hart h := rfl

/-- Settles O41. The moment of the position and cycle reads is the choice of log entry 76; the lowest free place of ARQ is the model's. -/
theorem positionReadsRequestsAndHandlerEnds : Obligations.PositionReadsRequestsAndHandlerEnds := by
  refine ⟨?_, fun s h c i hi hop => arqTakesAPlace hi hop, ?_, fun s h c w s1 hrun hfree hexp hf hd => ?_, fun s h c hexp => ?_⟩
  · intro s h c k i s' y hi x hx hop
    simp only [List.mem_cons, List.not_mem_nil, or_false] at hx
    rcases hx with rfl | rfl
    · exact completes_pair hi rfl hop fun u hu => Device.chP_congr (fun o ho => hu.reg (by show o ≠ 0xA1A8; omega)) hu.now hu.plb i.imm
    · exact completes_pair hi rfl hop fun u hu => by rw [hu.now]
  · intro s h c i hi hop y hslot hbudget
    refine completes_issue hi (exec_hartDone h c s) hop fun u hu => ?_
    have hfirst := ((s.atHart c).hart h).issued_first c i
    have hlt := (s.atHart c).budget_lt h
    have hmax : u.dev.rn (R.sup_HS_MAXUSED y.slot) = (s.atHart c).dev.rn (R.sup_HS_MAXUSED y.slot) :=
      congrArg BitVec.toNat (hu.reg (by show 0xB10C + 0x10 * _ ≠ 0xA1A8; omega))
    have hact : doneAct h c u = (u.setHart h { y.issued c i with st := .idle, first := none, loops := [], calls := [] }).onDevice fun d =>
        d.setN (R.sup_HS_MAXUSED y.slot) (max (d.rn (R.sup_HS_MAXUSED y.slot)) (c + 2 - y.first.getD c)) := by
      unfold doneAct
      rw [hu.hart]
      dsimp only
      rw [hfirst, hu.budget]
      exact if_pos hbudget
    obtain ⟨hhart, hothers, hsp, hreg, -⟩ := hu.setHart { y.issued c i with st := .idle, first := none, loops := [], calls := [] }
    rw [hact]
    refine ⟨hhart, ?_, hothers, hsp, fun o ho => ?_⟩
    · refine (Device.rn_setN _ _ ?_).trans ?_
      · have := (u.dev.reg (R.sup_HS_MAXUSED y.slot)).isLt
        show max (u.dev.reg (R.sup_HS_MAXUSED y.slot)).toNat _ < _
        omega
      · show max (u.dev.rn _) _ = _
        rw [hmax]
    · rw [List.mem_cons, not_or, List.mem_singleton] at ho
      refine Eq.trans ?_ (hreg o (by simpa using ho.1))
      exact (Device.reg_setReg ..).trans (if_neg ho.2)
  · refine ⟨_, congrArg Host.Outcome.next (issue_illegal hrun hfree hexp hf hd), ?_⟩
    have hs := State.fetch_ok hf
    have hh : s1.harts = (s.atHart c).harts := by have := (s.atHart c).spWord_harts ((s.atHart c).hart h).pc; rwa [hs] at this
    have hp : s1.pending = (s.atHart c).pending := by have := (s.atHart c).spWord_pending ((s.atHart c).hart h).pc; rwa [hs] at this
    have hk := State.hart_of_harts hh
    exact hartFaults_of h.isLt (by decide) none (fun k _ => hk k) (by rw [hh]) (hp.trans (s.atHart_keeps c).pending) (by rw [hk])
      (by rw [hk]) (by rw [hk]) (by rw [hk]) (by rw [hk])
  · refine ⟨_, congrArg Host.Outcome.next (handlerBudget_expired hexp), ?_⟩
    rw [State.hartFault_eq]
    refine ⟨?_, ?_, ?_, rfl, (s.atHart_keeps c).pending⟩
    · rw [State.hart_onDevice, State.hart_setHart, if_pos rfl]
    · rw [State.hart_onDevice, State.hart_setHart, if_pos rfl, State.hart_setHart, if_pos rfl]
    · show (Device.recordFault _ h _ 0x101 _ none).rn _ = _
      exact Device.recordFault_code _ h.isLt (by decide) _ _ none

end Sys2Proof.Machine
end

section
/-! PROOFS. The scratchpad as a hart reaches it (R418 to R423): loads, buffered stores, atomic accesses; O37. -/
namespace Sys2Proof.Machine

/-! ### Words and their bytes -/

/-- The word made of four bytes, the lowest first. -/
def bytesWord (f : Nat → Byte) : Word :=
  wd ((f 0).toNat * 2 ^ (8 * 0) + ((f 1).toNat * 2 ^ (8 * 1) + ((f 2).toNat * 2 ^ (8 * 2) + ((f 3).toNat * 2 ^ (8 * 3) + 0))))

theorem toNat_bytesWord (f : Nat → Byte) :
    (bytesWord f).toNat = (f 0).toNat + ((f 1).toNat * 256 + ((f 2).toNat * 65536 + (f 3).toNat * 16777216)) := by
  have h0 := (f 0).isLt
  have h1 := (f 1).isLt
  have h2 := (f 2).isLt
  have h3 := (f 3).isLt
  rw [bytesWord, wd, BitVec.toNat_ofNat]
  omega

/-- A word is made of its own bytes. -/
theorem bytesWord_eq {f : Nat → Byte} {v : Word} (h : ∀ k < 4, f k = BitVec.ofNat 8 (v.toNat / 2 ^ (8 * k))) : bytesWord f = v := by
  have hv := v.isLt
  apply BitVec.eq_of_toNat_eq
  rw [toNat_bytesWord, h 0 (by omega), h 1 (by omega), h 2 (by omega), h 3 (by omega)]
  simp only [BitVec.toNat_ofNat]
  omega

/-- Byte k of the word. -/
theorem fld_bytesWord (f : Nat → Byte) {k : Nat} (hk : k < 4) : fld (bytesWord f) (8 * k) 8 = (f k).toNat := by
  have h0 := (f 0).isLt
  have h1 := (f 1).isLt
  have h2 := (f 2).isLt
  have h3 := (f 3).isLt
  unfold fld
  rw [toNat_bytesWord]
  obtain rfl | rfl | rfl | rfl : k = 0 ∨ k = 1 ∨ k = 2 ∨ k = 3 := by omega
  all_goals omega

/-- A word of memory that is read has the bytes of memory. -/
theorem byte_of_rd (m : Memory) (a : Nat) {k : Nat} (hk : k < 4) :
    BitVec.ofNat 8 ((wd (Memory.rd m a 4)).toNat / 2 ^ (8 * k)) = Memory.rd8 m (a + k) := by
  have h0 := (Memory.rd8 m (a + 0)).isLt
  have h1 := (Memory.rd8 m (a + 1)).isLt
  have h2 := (Memory.rd8 m (a + 2)).isLt
  have h3 := (Memory.rd8 m (a + 3)).isLt
  have hrd : Memory.rd m a 4 = (Memory.rd8 m (a + 0)).toNat + 256 * ((Memory.rd8 m (a + 1)).toNat + 256 * ((Memory.rd8 m (a + 2)).toNat +
      256 * ((Memory.rd8 m (a + 3)).toNat + 256 * 0))) := rfl
  apply BitVec.eq_of_toNat_eq
  rw [hrd, wd]
  simp only [BitVec.toNat_ofNat]
  obtain rfl | rfl | rfl | rfl : k = 0 ∨ k = 1 ∨ k = 2 ∨ k = 3 := by omega
  all_goals omega

/-! ### Loads (R422) -/

/-- A buffered store covers a byte. -/
def PAcc.covers (p : PAcc) (a : Nat) : Prop := p.op = .store ∧ p.addr ≤ a ∧ a < p.addr + p.size

/-- A byte that no buffered store covers is that of memory. -/
theorem forward_uncovered {l : List PAcc} {a : Nat} (h : ∀ p ∈ l, ¬p.covers a) (b : Byte) : forward l a b = b := by
  unfold forward
  induction l generalizing b with
  | nil => rfl
  | cons p l ih =>
    rw [List.foldl_cons, if_neg (show ¬(p.op = .store ∧ p.addr ≤ a ∧ a < p.addr + p.size) from h p (by simp))]
    exact ih (fun q hq => h q (List.mem_cons_of_mem _ hq)) b

/-- The youngest store that covers a byte gives it. -/
theorem forward_youngest (l : List PAcc) {p : PAcc} {a : Nat} (h : p.covers a) (b : Byte) :
    forward (l ++ [p]) a b = BitVec.ofNat 8 (p.data.toNat / 2 ^ (8 * (a - p.addr))) := by
  unfold forward
  rw [List.foldl_append, List.foldl_cons, List.foldl_nil]
  exact if_pos h

theorem sum_bytes (f : Nat → Byte) :
    (((List.range 4).map f).zipIdx.map fun (x : Byte × Nat) => x.1.toNat * 2 ^ (8 * x.2)).sum =
      (f 0).toNat * 2 ^ (8 * 0) + ((f 1).toNat * 2 ^ (8 * 1) + ((f 2).toNat * 2 ^ (8 * 2) + ((f 3).toNat * 2 ^ (8 * 3) + 0))) := by
  have hl : ((List.range 4).map f).zipIdx = [(f 0, 0), (f 1, 1), (f 2, 2), (f 3, 3)] := by simp [List.range_succ]
  rw [hl, List.map_cons, List.map_cons, List.map_cons, List.map_cons, List.map_nil, List.sum_cons, List.sum_cons, List.sum_cons,
    List.sum_cons, List.sum_nil]

/-- The word that hart h loads from the scratchpad, no word upset: memory's bytes under its own buffered stores. -/
theorem State.loadWord_clean {s : State} (hup : s.dev.upsets = []) (h : Nat) {a : Nat} (ha : a < 0x80000) :
    s.loadWord h a = (some (bytesWord fun k => forward (s.hart h).buf (a / 4 * 4 + k) (Memory.rd8 s.harts.sp (a / 4 * 4 + k))), s) := by
  have hbyte := fun k hk => byte_of_rd s.harts.sp (a / 4 * 4) (k := k) hk
  unfold State.loadWord
  rw [if_neg (by omega), State.spWord_clean hup]
  dsimp only
  rw [sum_bytes, hbyte 0 (by omega), hbyte 1 (by omega), hbyte 2 (by omega), hbyte 3 (by omega)]
  rfl

/-! ### Accesses that are due (R420 to R423), no word upset -/

/-- From a state with no word upset: none is upset, and CODE_LIMIT stands. -/
structure State.CodeStands (s t : State) : Prop where
  upsets : t.dev.upsets = []
  limit : t.dev.reg R.sup_CODE_LIMIT = s.dev.reg R.sup_CODE_LIMIT

theorem State.CodeStands.trans {s t u : State} (h : s.CodeStands t) (g : t.CodeStands u) : s.CodeStands u :=
  ⟨g.upsets, g.limit.trans h.limit⟩

theorem State.CodeStands.codeLimit {s t : State} (h : s.CodeStands t) : t.codeLimit = s.codeLimit := by
  unfold State.codeLimit Device.rn
  rw [h.limit]

theorem State.setHart_codeStands {s : State} (hup : s.dev.upsets = []) (h : Nat) (x : Hart) : s.CodeStands (s.setHart h x) := ⟨hup, rfl⟩

/-- A store to the scratchpad changes its bytes and marks. -/
theorem State.spWrite_clean {s : State} (hup : s.dev.upsets = []) (a n : Nat) (v : Word) :
    s.spWrite a n v = { s with harts := { s.harts with sp := Memory.wr s.harts.sp a n v.toNat } } := by
  unfold State.spWrite
  dsimp only
  split
  · show { s with dev := s.dev.mend .spad 0 _, harts := _ } = _
    rw [Device.mend_clean hup]
  · rfl

theorem State.spWrite_codeStands {s : State} (hup : s.dev.upsets = []) (a n : Nat) (v : Word) : s.CodeStands (s.spWrite a n v) := by
  rw [State.spWrite_clean hup]
  exact ⟨hup, rfl⟩

theorem State.hartFault_codeStands {s : State} (hup : s.dev.upsets = []) {h : Nat} (hh : h < 4) (code pc : Nat) (addr : Option Nat) :
    s.CodeStands (s.hartFault h code pc addr) := by
  rw [State.hartFault_eq]
  refine ⟨?_, (Device.recordFault_reg _ _ _ _ _ (ofNoReport_sup (n := 0x194) (by decide) (by decide))).trans ?_⟩
  · have hs : ∀ d : Device, d.upsets = [] → (d.recordFault h (s.hart h).slot code pc addr).upsets = [] := fun d hd => by
      unfold Device.recordFault
      refine (congrArg Device.upsets (Device.err_evtBit_speaks _ _ _ _ _ _) :).trans ?_
      cases addr <;> exact hd
    exact hs _ hup
  · rw [if_neg (by unfold R.sup_HART_FADDR; omega), if_neg (by unfold R.sup_HART_FPC; omega), if_neg (by unfold R.sup_HART_FCODE; omega)]
    rfl

/-- What the read and the write of one access do, no word upset (R423). -/
def State.exchange (s : State) (h : Nat) (a : PAcc) : State :=
  match a.op with
  | .store => s.spWrite a.addr a.size a.data
  | .swap rd => (s.spWrite a.addr 4 a.data).put h rd (wd (Memory.rd s.harts.sp (a.addr / 4 * 4) 4))
  | .cas rd cmp =>
    (if wd (Memory.rd s.harts.sp (a.addr / 4 * 4) 4) = cmp then s.spWrite a.addr 4 a.data else s).put h rd
      (wd (Memory.rd s.harts.sp (a.addr / 4 * 4) 4))

theorem State.performAcc_clean {s : State} (hup : s.dev.upsets = []) (h : Nat) (a : PAcc) :
    s.performAcc h a = if a.inst && s.expired h a.due then s.hartFault h 0x101 (s.hart h).cur none else s.exchange h a := by
  unfold State.performAcc State.exchange
  cases a.op with
  | store => rfl
  | swap rd =>
    rw [State.spWord_clean hup]
    rfl
  | cas rd cmp =>
    rw [State.spWord_clean hup]
    rfl

theorem State.exchange_codeStands {s : State} (hup : s.dev.upsets = []) (h : Nat) (a : PAcc) : s.CodeStands (s.exchange h a) := by
  have hwrite := fun n => State.spWrite_codeStands hup a.addr n a.data
  unfold State.exchange
  cases a.op with
  | store => exact hwrite a.size
  | swap rd => exact ⟨(hwrite 4).upsets, (hwrite 4).limit⟩
  | cas rd cmp =>
    dsimp only
    split
    · exact ⟨(hwrite 4).upsets, (hwrite 4).limit⟩
    · exact ⟨hup, rfl⟩

theorem State.performAcc_codeStands {s : State} (hup : s.dev.upsets = []) {h : Nat} (hh : h < 4) (a : PAcc) :
    s.CodeStands (s.performAcc h a) := by
  rw [State.performAcc_clean hup]
  split
  · exact State.hartFault_codeStands hup hh ..
  · exact State.exchange_codeStands hup ..

/-- The next access is one of the four harts'. -/
theorem State.nextAcc_lt {s : State} {h : Nat} {a : PAcc} (hn : s.nextAcc = some (h, a)) : h < 4 := by
  unfold State.nextAcc at hn
  refine List.foldlRecOn (motive := fun m : Option (Nat × PAcc) => ∀ x, m = some x → x.1 < 4) (List.range 4) _ ?_ ?_ _ hn
  · nofun
  · intro m hm k hk x hx
    have hk4 : k < 4 := List.mem_range.1 hk
    split at hx
    · exact hm x hx
    · split at hx
      · cases hx
        exact hk4
      · split at hx
        · cases hx
          exact hk4
        · exact hm x (by simpa using hx)

theorem State.drain_codeStands (c fuel : Nat) {s : State} (hup : s.dev.upsets = []) : s.CodeStands (s.drain c fuel) := by
  induction fuel generalizing s with
  | zero => exact ⟨hup, rfl⟩
  | succ n ih =>
    unfold State.drain
    split
    · exact ⟨hup, rfl⟩
    · rename_i h a hn
      split
      · have hset := State.setHart_codeStands hup h { s.hart h with buf := (s.hart h).buf.tail }
        have hacc := State.performAcc_codeStands hset.upsets (State.nextAcc_lt hn) a
        exact (hset.trans hacc).trans (ih hacc.upsets)
      · exact ⟨hup, rfl⟩

theorem State.atHart_codeStands {s : State} (hup : s.dev.upsets = []) (c : Nat) : s.CodeStands (s.atHart c) :=
  have hd := State.drain_codeStands c 32 (s := s.onDevice fun d => { d with now := { d.now with hcyc := max d.now.hcyc c } }) hup
  ⟨hd.upsets, hd.limit⟩

/-! ### O37 -/

/-- What a load does once it is issued (R422). -/
def loadAct (n h : Nat) (f : Word → Nat → Word) (i : HWord) (s : State) : State :=
  let a := (s.hart h).addr i
  if a % n ≠ 0 ∨ !loadable a then s.faultAt h 0x106 (some a)
  else match s.loadWord h a with
    | (none, s1) => s1.faultAt h 0x108 none
    | (some w, s1) => s1.put h i.rd (f w a)

theorem exec_hartLw (h : Fin 4) (c : Nat) (s : State) :
    exec (.hartLw h c) s = .next (s.issue h c (some 0x18) fun i u => loadAct 4 h (fun w _ => w) i u) := rfl

theorem exec_hartLbu (h : Fin 4) (c : Nat) (s : State) :
    exec (.hartLbu h c) s = .next (s.issue h c (some 0x19) fun i u => loadAct 1 h (fun w a => wd (fld w (8 * (a % 4)) 8)) i u) := rfl

/-- What a store does once it is issued. -/
def storeAct (n h c : Nat) (plain : Bool) (i : HWord) (s : State) : State :=
  let a := (s.hart h).addr i
  match s.storeFault a n plain (!plain) with
  | some k => s.faultAt h k (some a)
  | none => s.buffer h ⟨c + 4, a, n, (s.hart h).r i.rd, .store⟩

/-- What an atomic access does once it is issued (R423). -/
def atomicAct (h c : Nat) (f : HWord → Hart → AccOp) (i : HWord) (s : State) : State :=
  let a := ((s.hart h).r i.rs).toNat
  match s.storeFault a 4 true true with
  | some k => s.faultAt h k (some a)
  | none => s.buffer h ⟨c + 4, a, 4, (s.hart h).r i.rt, f i (s.hart h)⟩

theorem exec_hartStore (op n h c : Nat) (plain : Bool) (s : State) :
    hartStore op n h c plain s = s.issue h c (some op) fun i u => storeAct n h c plain i u := rfl

theorem exec_hartAtomic (op h c : Nat) (f : HWord → Hart → AccOp) (s : State) :
    hartAtomic op h c f s = s.issue h c (some op) fun i u => atomicAct h c f i u := rfl

/-- A fault with an address records it. -/
theorem State.faultAt_addr (s : State) {h : Nat} (hh : h < 4) (code : Nat) {a : Nat} (ha : a < 2 ^ 32) :
    (s.faultAt h code (some a)).dev.rn (R.sup_HART_FADDR h) = a := by
  have hoff : R.sup_HART_FADDR h = 0xA000 + (0x130 + 4 * h) := by unfold R.sup_HART_FADDR; omega
  show (Device.recordFault _ h _ code _ (some a)).rn _ = _
  rw [hoff, Device.rn, Device.recordFault_reg _ _ _ _ _ (ofNoReport_sup (by omega) (by omega)), if_pos ⟨hoff.symm, rfl⟩, Option.getD_some, wd,
    BitVec.toNat_ofNat, Nat.mod_eq_of_lt ha]

section
variable {s u : State} {h : Fin 4} {c : Nat} {i : HWord}

theorem IssuedAt.addr (hu : IssuedAt s h c i u) : (u.hart h).addr i = (((s.atHart c).hart h).r i.rs + sxImm i).toNat := by
  rw [hu.hart]
  rfl

theorem IssuedAt.buf (hu : IssuedAt s h c i u) : (u.hart h).buf = ((s.atHart c).hart h).buf := by
  rw [hu.hart]
  rfl

/-- A load of the scratchpad gives memory's bytes under the hart's own buffered stores. -/
theorem IssuedAt.loads (hu : IssuedAt s h c i u) (hup : (s.atHart c).dev.upsets = []) {a n : Nat}
    (haddr : (((s.atHart c).hart h).r i.rs + sxImm i).toNat = a) (halign : a % n = 0) (ha : a < 0x80000) (f : Word → Nat → Word) :
    HartBecomes s h c ((((s.atHart c).hart h).issued c i).setR i.rd (f (bytesWord fun k =>
      forward ((s.atHart c).hart h).buf (a / 4 * 4 + k) (Memory.rd8 (s.atHart c).harts.sp (a / 4 * 4 + k))) a)) (loadAct n h f i u) := by
  obtain ⟨-, -, hsp, -, -⟩ := hu.becomes
  have hclean : u.dev.upsets = [] := by rw [hu.clean hup, hup]
  unfold loadAct
  rw [hu.addr, haddr]
  dsimp only
  rw [if_neg (by simp [halign, loadable, ha]), State.loadWord_clean hclean h ha, hu.buf, hsp]
  exact hu.becomes.put i.rd _

theorem IssuedAt.storeFault (hu : IssuedAt s h c i u) (a n : Nat) (plain ordered : Bool) :
    u.storeFault a n plain ordered = (s.atHart c).storeFault a n plain ordered := by
  unfold State.storeFault
  rw [hu.codeLimit]

/-- A store that may be made enters the store buffer. -/
theorem IssuedAt.stores (hu : IssuedAt s h c i u) {a n : Nat} {plain : Bool}
    (haddr : (((s.atHart c).hart h).r i.rs + sxImm i).toNat = a) (hf : (s.atHart c).storeFault a n plain (!plain) = none) :
    HartBecomes s h c { ((s.atHart c).hart h).issued c i with
      buf := ((s.atHart c).hart h).buf ++ [⟨c + 4, a, n, ((s.atHart c).hart h).r i.rd, .store⟩] } (storeAct n h c plain i u) := by
  unfold storeAct
  rw [hu.addr, haddr]
  dsimp only
  rw [hu.storeFault, hf]
  unfold State.buffer
  rw [hu.hart]
  exact hu.setHart _

/-- A store that may not be made faults. -/
theorem IssuedAt.store_faults (hu : IssuedAt s h c i u) {a n code : Nat} {plain : Bool} (hcode : code < 2 ^ 31)
    (haddr : (((s.atHart c).hart h).r i.rs + sxImm i).toNat = a) (hf : (s.atHart c).storeFault a n plain (!plain) = some code) :
    HartFaults s h c code (storeAct n h c plain i u) ∧ (storeAct n h c plain i u).dev.rn (R.sup_HART_FADDR h) = a := by
  have hact : storeAct n h c plain i u = u.faultAt h code (some a) := by
    unfold storeAct
    rw [hu.addr, haddr]
    dsimp only
    rw [hu.storeFault, hf]
  rw [hact]
  exact ⟨hu.faults hcode _, State.faultAt_addr _ h.isLt _ (haddr ▸ BitVec.isLt _)⟩

/-- An atomic access that may be made enters the store buffer. -/
theorem IssuedAt.exchanges (hu : IssuedAt s h c i u) {a : Nat} {f : HWord → Hart → AccOp} (haddr : (((s.atHart c).hart h).r i.rs).toNat = a)
    (hf : (s.atHart c).storeFault a 4 true true = none) :
    HartBecomes s h c { ((s.atHart c).hart h).issued c i with
      buf := ((s.atHart c).hart h).buf ++ [⟨c + 4, a, 4, ((s.atHart c).hart h).r i.rt, f i (((s.atHart c).hart h).issued c i)⟩] }
      (atomicAct h c f i u) := by
  unfold atomicAct
  rw [hu.hart, Hart.r_issued, haddr]
  dsimp only
  rw [hu.storeFault, hf]
  unfold State.buffer
  rw [hu.hart]
  exact hu.setHart _

end

/-! ### The one access due is performed -/

/-- One hart's only access is the next where no other hart has one. -/
theorem State.nextAcc_single {s : State} {h : Fin 4} {p : PAcc} {r : List PAcc} (hp : (s.hart h).buf = p :: r)
    (hothers : ∀ k < 4, k ≠ h.val → (s.hart k).buf = []) : s.nextAcc = some (h.val, p) := by
  unfold State.nextAcc
  rw [show List.range 4 = [0, 1, 2, 3] from rfl]
  simp only [List.foldl_cons, List.foldl_nil]
  fin_cases h
  · have hp : (s.hart 0).buf = p :: r := hp
    simp [hp, hothers 1 (by decide) (by decide), hothers 2 (by decide) (by decide), hothers 3 (by decide) (by decide)]
  · have hp : (s.hart 1).buf = p :: r := hp
    simp [hp, hothers 0 (by decide) (by decide), hothers 2 (by decide) (by decide), hothers 3 (by decide) (by decide)]
  · have hp : (s.hart 2).buf = p :: r := hp
    simp [hp, hothers 0 (by decide) (by decide), hothers 1 (by decide) (by decide), hothers 3 (by decide) (by decide)]
  · have hp : (s.hart 3).buf = p :: r := hp
    simp [hp, hothers 0 (by decide) (by decide), hothers 1 (by decide) (by decide), hothers 2 (by decide) (by decide)]

theorem State.nextAcc_none {s : State} (h : ∀ k < 4, (s.hart k).buf = []) : s.nextAcc = none := by
  unfold State.nextAcc
  rw [show List.range 4 = [0, 1, 2, 3] from rfl]
  simp [h 0 (by decide), h 1 (by decide), h 2 (by decide), h 3 (by decide)]

theorem Hart.setR_buf (x : Hart) (i : Nat) (v : Word) : (x.setR i v).buf = x.buf := by
  unfold Hart.setR
  split <;> rfl

theorem State.hart_spWrite {s : State} (hup : s.dev.upsets = []) (a n : Nat) (v : Word) (k : Nat) : (s.spWrite a n v).hart k = s.hart k := by
  rw [State.spWrite_clean hup]
  rfl

/-- An exchange leaves every store buffer. -/
theorem State.exchange_buf {s : State} (hup : s.dev.upsets = []) (h : Nat) (a : PAcc) (k : Nat) :
    ((s.exchange h a).hart k).buf = (s.hart k).buf := by
  have hput : ∀ (t : State) rd v, (∀ j, t.hart j = s.hart j) → ((t.put h rd v).hart k).buf = (s.hart k).buf := fun t rd v ht => by
    unfold State.put
    rw [State.hart_setHart]
    split
    · subst h
      rw [Hart.setR_buf, ht]
    · rw [ht]
  unfold State.exchange
  cases a.op with
  | store => exact congrArg Hart.buf (State.hart_spWrite hup ..)
  | swap rd => exact hput _ _ _ (State.hart_spWrite hup _ _ _)
  | cas rd cmp =>
    refine hput _ _ _ fun j => ?_
    split
    · exact State.hart_spWrite hup ..
    · rfl

theorem State.exchange_pending (s : State) (h : Nat) (a : PAcc) : (s.exchange h a).pending = s.pending := by
  unfold State.exchange
  cases a.op with
  | store => exact (s.spWrite_keeps ..).pending
  | swap rd => exact (s.spWrite_keeps ..).pending
  | cas rd cmp =>
    dsimp only
    split
    · exact (s.spWrite_keeps ..).pending
    · rfl

@[simp] theorem State.sp_put (s : State) (h rd : Nat) (v : Word) : (s.put h rd v).harts.sp = s.harts.sp := rfl

theorem State.r_put (s : State) (h : Nat) {rd : Nat} (hrd : rd ≠ 0) (v : Word) : ((s.put h rd v).hart h).r rd = v := by
  unfold State.put
  rw [State.hart_setHart, if_pos rfl, Hart.r_setR _ _ _ _ hrd, if_pos rfl]

/-- At the end of cycle c the one access that waits has been performed. -/
theorem State.atHart_single {s : State} {h : Fin 4} {c : Nat} {p : PAcc} (hup : s.dev.upsets = []) (hp : (s.hart h).buf = [p])
    (hothers : ∀ k < 4, k ≠ h.val → (s.hart k).buf = []) (hdue : p.due ≤ c) (hexp : (p.inst && s.expired h p.due) = false) :
    s.atHart c = ((s.onDevice fun d => { d with now := { d.now with hcyc := max d.now.hcyc c } }).setHart h
      { s.hart h with buf := [] }).exchange h p := by
  unfold State.atHart
  generalize hs0 : (s.onDevice fun d => { d with now := { d.now with hcyc := max d.now.hcyc c } }) = s0
  have hhart : ∀ k, s0.hart k = s.hart k := fun k => by rw [← hs0]; rfl
  have hup0 : s0.dev.upsets = [] := by rw [← hs0]; exact hup
  have hnext : s0.nextAcc = some (h.val, p) := State.nextAcc_single (r := []) (by rw [hhart, hp]) fun k hk hne => by rw [hhart, hothers k hk hne]
  have hset : (s0.setHart h { s.hart h with buf := [] }).dev.upsets = [] := hup0
  have hexp0 : (p.inst && (s0.setHart h { s.hart h with buf := [] }).expired h p.due) = false := by
    rw [← hexp, ← hs0]
    unfold State.expired State.budget
    rw [State.hart_setHart, if_pos rfl]
    rfl
  have hend : ((s0.setHart h { s.hart h with buf := [] }).exchange h p).nextAcc = none := State.nextAcc_none fun k hk => by
    rw [State.exchange_buf hset, State.hart_setHart]
    split
    · rfl
    · rw [hhart]
      exact hothers k hk ‹_›
  rw [show (32 : Nat) = 30 + 1 + 1 from rfl, State.drain, hnext]
  dsimp only
  rw [if_pos hdue, hhart, hp, List.tail_cons, State.performAcc_clean hset, if_neg (by rw [hexp0]; decide), State.drain, hend]

/-- A word that is written reads back. -/
theorem Memory.rd_wr (m : Memory) (a : Nat) (v : Word) : Memory.rd (Memory.wr m a 4 v.toNat) a 4 = v.toNat := by
  have hv := v.isLt
  have hbyte : ∀ k < 4, (Memory.rd8 (Memory.wr m a 4 v.toNat) (a + k)).toNat = v.toNat / 256 ^ k % 256 := fun k hk => by
    rw [Memory.rd8_wr, if_pos (by omega), BitVec.toNat_ofNat, Nat.add_sub_cancel_left]
  have hrd : ∀ n : Memory, Memory.rd n a 4 = (Memory.rd8 n (a + 0)).toNat + 256 * ((Memory.rd8 n (a + 1)).toNat +
      256 * ((Memory.rd8 n (a + 2)).toNat + 256 * ((Memory.rd8 n (a + 3)).toNat + 256 * 0))) := fun n => rfl
  rw [hrd, hbyte 0 (by omega), hbyte 1 (by omega), hbyte 2 (by omega), hbyte 3 (by omega)]
  omega

theorem completes_store {s : State} {h : Fin 4} {c : Nat} {i : HWord} {P : State → Prop} (hi : Issuing s h c i) :
    ∀ x ∈ [(0x1A, 4, Instr.hartSw h c), (0x1B, 1, .hartSb h c)], i.op = x.1 →
      (∀ u, IssuedAt s h c i u → P (storeAct x.2.1 h c true i u)) → Completes x.2.2 s P := by
  intro x hx hop hp
  simp only [List.mem_cons, List.not_mem_nil, or_false] at hx
  rcases hx with rfl | rfl
  · exact completes_issue hi (congrArg Host.Outcome.next (exec_hartStore 0x1A 4 h c true s)) hop hp
  · exact completes_issue hi (congrArg Host.Outcome.next (exec_hartStore 0x1B 1 h c true s)) hop hp

theorem State.storeFault_plain {s : State} {a n : Nat} (halign : a % n = 0) (hlo : s.codeLimit ≤ a) (hhi : a < 0x7F000) :
    s.storeFault a n true false = none := by
  unfold State.storeFault
  rw [if_neg (by omega), if_neg (by omega), if_neg (by decide), if_neg (by omega)]

theorem State.storeFault_code {s : State} {a n : Nat} (halign : a % n = 0) (hlo : a < s.codeLimit) (hhi : a < 0x7F000) :
    s.storeFault a n true false = some 0x107 := by
  unfold State.storeFault
  rw [if_neg (by omega), if_neg (by omega), if_neg (by decide), if_pos hlo]

/-- Settles O37. -/
theorem loadsStoresAndAtomicsReachTheScratchpad : Obligations.LoadsStoresAndAtomicsReachTheScratchpad := by
  refine ⟨?_, ?_⟩
  · intro s h c i hi hups y a b
    have hcode := State.atHart_codeStands hups c
    have hup := hcode.upsets
    have hlim := hcode.codeLimit
    refine ⟨fun hop halign ha hbuf => ?_, fun l e v hop halign ha hbuf => ?_, fun hop ha hbuf => ?_, fun x hx hop => ⟨fun halign hlo hhi => ?_,
      fun halign hlo hhi => ?_⟩, fun hop halign hlo hhi => ?_, fun hop ha => ?_, fun x hx hop halign hlo hhi => ?_, fun hop => ?_⟩
    · refine completes_issue hi (exec_hartLw h c s) hop fun u hu => ?_
      have hload := hu.loads (a := a) hup rfl halign ha fun w _ => w
      rwa [bytesWord_eq (v := BitVec.ofNat 32 (Memory.rd (s.atHart c).harts.sp a 4)) fun k hk => ?_] at hload
      have hbase : a / 4 * 4 = a := by omega
      rw [forward_uncovered fun p hp hc => ?_, hbase]
      · exact (byte_of_rd _ _ hk).symm
      · obtain ⟨hst, hle, hlt⟩ := hc
        have := hbuf p hp hst
        omega
    · refine completes_issue hi (exec_hartLw h c s) hop fun u hu => ?_
      have hload := hu.loads (a := a) hup rfl halign ha fun w _ => w
      rwa [bytesWord_eq (v := v) fun k hk => ?_] at hload
      have hbase : a / 4 * 4 = a := by omega
      rw [hbuf, hbase, forward_youngest l ⟨rfl, Nat.le_add_right a k, by show a + k < a + 4; omega⟩, Nat.add_sub_cancel_left]
    · refine completes_issue hi (exec_hartLbu h c s) hop fun u hu => ?_
      have hload := hu.loads (a := a) hup rfl (Nat.mod_one a) ha fun w a => wd (fld w (8 * (a % 4)) 8)
      have hat : a / 4 * 4 + a % 4 = a := by omega
      rw [fld_bytesWord _ (Nat.mod_lt _ (by decide)), hat, forward_uncovered fun p hp hc => ?_] at hload
      · rwa [wd, BitVec.ofNat_toNat] at hload
      · obtain ⟨hst, hle, hlt⟩ := hc
        have := hbuf p hp hst
        omega
    · rw [← hlim] at hlo
      refine completes_store hi x hx hop fun u hu => hu.stores (a := a) rfl ?_
      exact State.storeFault_plain halign hlo hhi
    · refine completes_store hi x hx hop fun u hu => hu.store_faults (a := a) (by decide) rfl ?_
      exact State.storeFault_code halign hlo hhi
    · refine completes_issue hi (congrArg Host.Outcome.next (exec_hartStore 0x1C 4 h c false s)) hop fun u hu => hu.stores (a := a) rfl ?_
      unfold State.storeFault
      rw [if_neg (by omega), if_pos hlo]
      rfl
    · refine completes_issue hi (congrArg Host.Outcome.next (exec_hartStore 0x1C 4 h c false s)) hop fun u hu => (hu.store_faults (a := a) (by decide) rfl ?_).1
      unfold State.storeFault
      split
      · rfl
      · rw [if_neg (by omega)]
        rfl
    · have hf : (s.atHart c).storeFault b 4 true true = none := by
        unfold State.storeFault
        rw [if_neg (by omega)]
        split
        · rfl
        · rw [if_neg (by decide), if_neg (by omega)]
      simp only [List.mem_cons, List.not_mem_nil, or_false] at hx
      rcases hx with rfl | rfl
      · exact completes_issue hi (congrArg Host.Outcome.next (exec_hartAtomic 0x1D h c (fun i _ => .swap i.rd) s)) hop fun u hu => hu.exchanges (a := b) rfl hf
      · exact completes_issue hi (congrArg Host.Outcome.next (exec_hartAtomic 0x1E h c (fun i x => .cas i.rd (x.r i.rd)) s)) hop fun u hu =>
          hu.exchanges (a := b) rfl hf
    · exact completes_issue (act := fun _ u => u) hi rfl hop fun u hu => hu.becomes
  · intro s h c p hups hbuf hothers hdue hexp
    refine ⟨_, congrArg Host.Outcome.next (State.atHart_single hups hbuf hothers hdue hexp), ?_⟩
    generalize hs0 : (s.onDevice fun d => { d with now := { d.now with hcyc := max d.now.hcyc c } }).setHart h { s.hart h with buf := [] } = s0
    have hup0 : s0.dev.upsets = [] := by rw [← hs0]; exact hups
    have hsp : s0.harts.sp = s.harts.sp := by rw [← hs0]; rfl
    have hhart : s0.hart h = { s.hart h with buf := [] } := by rw [← hs0, State.hart_setHart, if_pos rfl]
    have hpend : s0.pending = s.pending := by rw [← hs0]; rfl
    refine ⟨?_, ?_, fun hop => ?_, fun rd hop halign => ?_, fun rd v hop halign => ?_⟩
    · rw [State.exchange_buf hup0, hhart]
    · exact (s0.exchange_pending h p).trans hpend
    · unfold State.exchange
      rw [hop]
      dsimp only
      rw [State.spWrite_clean hup0, hsp]
      refine ⟨?_, fun b => Memory.rd8_wr ..⟩
      show (s0.hart h).w = _
      rw [hhart]
    · have hold : p.addr / 4 * 4 = p.addr := by omega
      unfold State.exchange
      rw [hop]
      dsimp only
      rw [hold, hsp]
      refine ⟨?_, fun hrd => ?_⟩
      · rw [State.sp_put, State.spWrite_clean hup0]
        exact Memory.rd_wr ..
      · rw [State.r_put _ _ hrd]
        rfl
    · have hold : p.addr / 4 * 4 = p.addr := by omega
      have hlt : Memory.rd s.harts.sp p.addr 4 < 2 ^ 32 := Memory.rd_lt s.harts.sp p.addr 4
      have hcmp : wd (Memory.rd s.harts.sp p.addr 4) = v ↔ Memory.rd s.harts.sp p.addr 4 = v.toNat := by
        rw [← BitVec.toNat_inj, wd, BitVec.toNat_ofNat, Nat.mod_eq_of_lt hlt]
      unfold State.exchange
      rw [hop]
      dsimp only
      rw [hold, hsp]
      refine ⟨?_, fun hrd => ?_⟩
      · rw [State.sp_put]
        by_cases heq : Memory.rd s.harts.sp p.addr 4 = v.toNat
        · rw [if_pos (hcmp.2 heq), if_pos heq, State.spWrite_clean hup0]
          exact Memory.rd_wr ..
        · rw [if_neg (mt hcmp.1 heq), if_neg heq, hsp]
      · rw [State.r_put _ _ hrd]
        rfl

end Sys2Proof.Machine
end

section
/-! PROOFS. The event queue, its dispatcher and the sources of events (R435 to R443); O43, O44. -/
namespace Sys2Proof.Machine

/-! ### Posts that wait -/

/-- The first post is one of those that wait. -/
theorem firstPost_mem {l : List SupEvent} {e : SupEvent} (h : firstPost l = some e) : e ∈ l := by
  induction l generalizing e with
  | nil => cases h
  | cons a r ih =>
    unfold firstPost at h
    split at h
    · cases h
      exact List.mem_cons_self
    · rename_i b hb
      split at h
      · cases h
        exact List.mem_cons_of_mem _ (ih hb)
      · cases h
        exact List.mem_cons_self

/-- The post that enters before every other is the first one. -/
theorem firstPost_eq {l : List SupEvent} {e : SupEvent} (h : EntersFirst l e) : firstPost l = some e := by
  induction l with
  | nil => exact absurd h.1 (List.not_mem_nil)
  | cons a r ih =>
    obtain ⟨hmem, hfirst⟩ := h
    unfold firstPost
    by_cases hr : e ∈ r
    · rw [ih ⟨hr, fun b hb => hfirst b (List.mem_cons_of_mem _ hb)⟩]
      dsimp only
      by_cases hae : a = e
      · subst hae
        split <;> rfl
      · rw [if_pos (hfirst a (by simp) hae).1]
    · obtain rfl : e = a := by simpa [hr] using hmem
      cases hfr : firstPost r with
      | none => rfl
      | some b =>
        have hb : b ∈ r := firstPost_mem hfr
        dsimp only
        rw [if_neg]
        have hne : b ≠ e := fun heq => hr (heq ▸ hb)
        rw [(hfirst b (List.mem_cons_of_mem _ hb) hne).2]
        decide

/-! ### The queue's registers -/

theorem Device.setEvq_reg (d : Device) (l : List SupEvent) {o : Nat} (ho : o ∉ [R.sup_EVQ_USED, R.sup_EVQ_HIGH]) :
    (d.setEvq l).reg o = d.reg o := by
  simp only [List.mem_cons, List.not_mem_nil, or_false, not_or] at ho
  unfold Device.setEvq
  simp only [Device.setN_eq, Device.reg_setReg, if_neg ho.1, if_neg ho.2]
  rfl

theorem Device.setEvq_used (d : Device) (l : List SupEvent) : (d.setEvq l).reg R.sup_EVQ_USED = wd l.length := by
  unfold Device.setEvq
  simp only [Device.setN_eq, Device.reg_setReg]
  rw [if_neg (by decide), if_pos trivial]

@[simp] theorem Device.setEvq_evq (d : Device) (l : List SupEvent) : (d.setEvq l).sup.evq = l := rfl
@[simp] theorem Device.setEvq_arriving (d : Device) (l : List SupEvent) : (d.setEvq l).arriving = d.arriving := rfl

/-! ### EVENT_POST (R436) -/

/-- A post that enters with room in the queue. -/
theorem eventPost_enters {s : State} {k : Nat} {e : SupEvent} (hroom : s.dev.sup.evq.length < 256) (he : EntersFirst s.dev.arriving e)
    (hheld : e.held = false) : eventPost k s =
      ((s.onDevice (·.at k)).onDevice fun d => ({ d with arriving := d.arriving.erase e }).setEvq (d.sup.evq ++ [e])).released e := by
  have hfirst : firstPost (s.onDevice (·.at k)).dev.arriving = some e := firstPost_eq he
  have hsame : ({ e with held := false, value := e.value, tick := e.tick } : SupEvent) = e := by
    rw [← hheld]
  unfold eventPost
  refine (if_pos hroom).trans ?_
  rw [hfirst]
  dsimp only
  rw [hheld]
  simp only [Bool.false_eq_true, false_and, if_false]
  rw [hsame]

/-- What a source keeps beside its event: a WAKE entry, or an ARQ's place. -/
theorem State.released_spec (s : State) (e : SupEvent) :
    (s.released e).dev.sup = s.dev.sup ∧ (s.released e).dev.arriving = s.dev.arriving ∧ (s.released e).dev.regs = s.dev.regs ∧
    (s.released e).harts.sp = s.harts.sp ∧ (e.kind ≠ 2 → KeepsHarts s (s.released e)) ∧
    (e.kind = 2 → (s.released e).hart (e.tag / 8) =
      { s.hart (e.tag / 8) with arqs := (s.hart (e.tag / 8)).arqs.filter fun a => !(a.place == e.tag % 8) }) := by
  unfold State.released
  split
  · rename_i h1
    exact ⟨rfl, rfl, rfl, rfl, fun _ => ⟨rfl, rfl⟩, fun h2 => absurd (h1.symm.trans h2) (by decide)⟩
  · split
    · rename_i h2
      exact ⟨rfl, rfl, rfl, rfl, fun h => absurd h2 h, fun _ => (State.hart_setHart ..).trans (if_pos rfl)⟩
    · rename_i h2
      exact ⟨rfl, rfl, rfl, rfl, fun _ => ⟨rfl, rfl⟩, fun h => absurd h h2⟩

/-- A post that waits is held, and counted (R436). -/
def Device.holdPost (d : Device) (e : SupEvent) : Device :=
  ({ d with arriving := d.arriving.map fun x => if x = e then { x with held := true } else x }).count R.sup_EVQ_HELD_COUNT 1

/-- The first post not yet held is held while the queue is full. -/
theorem eventPost_holds {s : State} {k : Nat} {e : SupEvent} (hfull : 256 ≤ s.dev.sup.evq.length)
    (he : EntersFirst (s.dev.arriving.filter fun x => !x.held) e) :
    eventPost k s = { s with dev := ((s.dev.at k).holdPost e).evtBit 0xA000 17 } := by
  have hfirst : firstPost ((s.onDevice (·.at k)).dev.arriving.filter fun e => !e.held) = some e := firstPost_eq he
  unfold eventPost
  refine (if_neg (Nat.not_lt.2 hfull)).trans ?_
  rw [hfirst]
  rfl

/-! ### What a page's events and errors add to the posts -/

/-- The posts of `e` are those of `d` and then pages'. -/
def Device.PostsPages (d e : Device) : Prop := ∃ l : List SupEvent, e.arriving = d.arriving ++ l ∧ ∀ x ∈ l, x.kind = 0

namespace Device.PostsPages

theorem of_eq {d e : Device} (h : e.arriving = d.arriving) : d.PostsPages e := ⟨[], by rw [h, List.append_nil], by simp⟩

theorem trans {d e f : Device} (h : d.PostsPages e) (g : e.PostsPages f) : d.PostsPages f := by
  obtain ⟨l, hl, hk⟩ := h
  obtain ⟨m, hm, hn⟩ := g
  refine ⟨l ++ m, by rw [hm, hl, List.append_assoc], fun x hx => ?_⟩
  rcases List.mem_append.1 hx with hx | hx
  · exact hk x hx
  · exact hn x hx

theorem ite {d e f : Device} {p : Prop} [Decidable p] (he : d.PostsPages e) (hf : d.PostsPages f) : d.PostsPages (if p then e else f) := by
  split
  · exact he
  · exact hf

/-- A post of another kind was there before. -/
theorem mem {d e : Device} (h : d.PostsPages e) {x : SupEvent} (hx : x ∈ e.arriving) (hk : x.kind ≠ 0) : x ∈ d.arriving := by
  obtain ⟨l, hl, hkind⟩ := h
  rw [hl] at hx
  exact (List.mem_append.1 hx).resolve_right fun hm => hk (hkind x hm)

/-- A post that waits goes on waiting. -/
theorem keeps {d e : Device} (h : d.PostsPages e) {x : SupEvent} (hx : x ∈ d.arriving) : x ∈ e.arriving := by
  obtain ⟨l, hl, -⟩ := h
  rw [hl]
  exact List.mem_append_left _ hx

end Device.PostsPages

theorem Device.msix_arriving (d : Device) (f v : Nat) : (d.msix f v).arriving = d.arriving := by
  unfold Device.msix
  dsimp only
  split
  · rfl
  · split <;> rfl

theorem Device.evtSend_postsPages (d : Device) (pg : Nat) : d.PostsPages (d.evtSend pg) := by
  have hmsg : d.PostsPages (if fld (d.reg (pg + 0x2C)) 30 1 = 1 then d.msix (d.routeFn pg) (fld (d.reg (pg + 0x2C)) 0 12) else d) :=
    .ite (.of_eq (d.msix_arriving _ _)) (.of_eq rfl)
  unfold Device.evtSend
  dsimp only
  exact .ite (hmsg.trans ⟨_, rfl, by simp⟩) hmsg

theorem Device.evt_postsPages (d : Device) (pg : Nat) (b : Word) : d.PostsPages (d.evt pg b) := by
  unfold Device.evt Device.evtRise
  exact .ite ((Device.PostsPages.of_eq rfl).trans (Device.evtSend_postsPages _ _)) (.of_eq rfl)

theorem Device.evtBit_postsPages (d : Device) (pg i : Nat) : d.PostsPages (d.evtBit pg i) := d.evt_postsPages pg _

theorem Device.faultLog_postsPages (d : Device) (src code cls : Nat) (lo hi : Word) : d.PostsPages (d.faultLog src code cls lo hi) := by
  unfold Device.faultLog
  dsimp only
  have hlog : ∀ e : Device, e.arriving = d.arriving → d.PostsPages (e.evtBit 0xF000 19) := fun e he =>
    (Device.PostsPages.of_eq he).trans (e.evtBit_postsPages _ _)
  have harm : ∀ e : Device, e.armLadder.arriving = e.arriving := fun e => by
    unfold Device.armLadder
    split <;> rfl
  split
  · refine Device.PostsPages.trans ?_ (.of_eq (harm _))
    exact hlog _ (by split <;> rfl)
  · exact hlog _ (by split <;> rfl)

/-- An error posts pages' events alone. -/
theorem Device.err_postsPages (d : Device) (pg code : Nat) (lo hi : Word) : d.PostsPages (d.err pg code lo hi) := by
  unfold Device.err Device.errAs
  dsimp only
  have hcount : ∀ e : Device, e.arriving = d.arriving → d.PostsPages ((e.count (pg + 0x34) 1).evtBit pg 2) := fun e he =>
    (Device.PostsPages.of_eq (e := e.count (pg + 0x34) 1) he).trans (Device.evtBit_postsPages _ _ _)
  refine .ite (Device.PostsPages.trans ?_ (Device.faultLog_postsPages _ _ _ _ _ _)) ?_
  · exact hcount _ (by split <;> rfl)
  · exact hcount _ (by split <;> rfl)

/-! ### EVENT_DISPATCH (R437, R439) -/

theorem Device.slotOn_of {d : Device} {n : Nat} (h : d.rf (R.sup_HS_CFG n) 0 1 = 1) : d.slotOn n = true := decide_eq_true h

theorem State.dropDisabled_none {s : State} (h : ∀ x ∈ s.dev.sup.evq, s.dev.rf (R.sup_HS_CFG x.slot) 0 1 = 1) : s.dropDisabled = s := by
  unfold State.dropDisabled
  rw [if_pos]
  rw [List.isEmpty_iff, List.filter_eq_nil_iff]
  intro x hx
  simp [Device.discards, Device.slotOn_of (h x hx)]

/-- The lowest hart that may run the oldest event takes it. -/
theorem State.hartFor_lowest {s : State} {h : Fin 4} {c : Nat} {e : SupEvent} (hon : s.dev.rf (R.sup_HS_CFG e.slot) 0 1 = 1)
    (htake : CanTake s h e.slot c) (hlow : ∀ j < h.val, ¬CanTake s j e.slot c)
    (halone : s.dev.rf (R.sup_HS_CFG e.slot) 8 1 = 1 ∨ ∀ j < 4, (s.hart j).st = .running → (s.hart j).slot ≠ e.slot)
    (hown : ¬(e.kind = 5 ∧ e.tag < 4)) : s.hartFor e [] c = some h.val := by
  have hh := h.isLt
  unfold State.hartFor
  dsimp only
  rw [if_neg (by simp [Device.slotOn_of hon]), if_pos, List.find?_range_eq_some]
  · obtain ⟨hbit, hidle, hfree⟩ := htake
    refine ⟨?_, List.mem_range.2 hh, fun j hj => ?_⟩
    · simp only [hbit, hidle, hfree, decide_eq_true_eq]
      simp only [true_and, Bool.not_eq_true', Bool.and_eq_false_iff, beq_eq_false_iff_ne, ne_eq]
      by_contra hc
      push Not at hc
      exact hown ⟨hc.1, hc.2 ▸ hh⟩
    · rw [Bool.not_eq_true', decide_eq_false_iff_not]
      rintro ⟨hb, hi, hf, -⟩
      exact hlow j hj ⟨hb, hi, hf⟩
  · refine halone.imp id fun hno => ?_
    simp only [List.any_nil, Bool.not_false, Bool.and_true, List.all_eq_true, List.mem_range, Bool.not_eq_true', Bool.and_eq_false_iff,
      beq_eq_false_iff_ne, ne_eq]
    intro j hj
    by_cases hr : (s.hart j).st = .running
    · exact .inr (hno j hj hr)
    · exact .inl hr

/-- The registers with which a handler starts (R439). -/
theorem handlerRegs (x : Hart) (v1 v2 v3 : Word) :
    let y := ((({ x with w := [] } : Hart).setR 1 v1).setR 2 v2).setR 3 v3
    y.r 1 = v1 ∧ y.r 2 = v2 ∧ y.r 3 = v3 ∧ ∀ j, 3 < j → y.r j = 0 := by
  intro y
  have hr : ∀ j, y.r j = if j = 3 then v3 else if j = 2 then v2 else if j = 1 then v1 else ({ x with w := [] } : Hart).r j := fun j => by
    show (Hart.setR _ 3 v3).r j = _
    rw [Hart.r_setR _ _ _ _ (by decide), Hart.r_setR _ _ _ _ (by decide), Hart.r_setR _ _ _ _ (by decide)]
  refine ⟨hr 1, hr 2, hr 3, fun j hj => ?_⟩
  rw [hr, if_neg (by omega), if_neg (by omega), if_neg (by omega)]
  unfold Hart.r
  split <;> rfl

/-- The hart that a started handler leaves. -/
theorem State.startHandler_hart (s : State) (h c : Nat) (e : SupEvent) :
    let x := (s.startHandler h c e).hart h
    x.st = .running ∧ x.slot = e.slot ∧ x.r 1 = e.value ∧ x.r 2 = e.src + wd e.kind ∧ x.r 3 = wd e.tick ∧ (∀ j, 3 < j → x.r j = 0) ∧
      x.pc = s.dev.rn (R.sup_HS_ENTRY e.slot) % 2 ^ 19 / 4 * 4 ∧ x.loops = [] ∧ x.calls = [] ∧ x.buf = (s.hart h).buf ∧
      x.arqs = (s.hart h).arqs := by
  have hx : (s.startHandler h c e).hart h = { (((({ s.hart h with w := [] } : Hart).setR 1 e.value).setR 2 (e.src + wd e.kind)).setR 3
      (wd e.tick)) with
        st := .running
        slot := e.slot
        pc := s.dev.rn (R.sup_HS_ENTRY e.slot) % 2 ^ 19 / 4 * 4
        loops := []
        calls := []
        first := none
        free := c } := (State.hart_setHart ..).trans (if_pos rfl)
  rw [hx]
  obtain ⟨h1, h2, h3, hrest⟩ := handlerRegs (s.hart h) e.value (e.src + wd e.kind) (wd e.tick)
  exact ⟨rfl, rfl, h1, h2, h3, hrest, rfl, rfl, rfl, rfl, rfl⟩

/-- The oldest event goes to the lowest hart that may run it. -/
theorem eventDispatch_starts {s : State} {h : Fin 4} {c : Nat} {e : SupEvent} {r : List SupEvent} (hq : (s.atHart c).dev.sup.evq = e :: r)
    (hon : ∀ x ∈ e :: r, (s.atHart c).dev.rf (R.sup_HS_CFG x.slot) 0 1 = 1) (hfor : (s.atHart c).hartFor e [] c = some h.val) :
    eventDispatch c s = ((s.atHart c).onDevice fun d => d.setEvq r).startHandler h c e := by
  have hpick : (s.atHart c).pickEvent c [] (e :: r) = some (e, h.val) := by
    unfold State.pickEvent
    rw [hfor]
  rw [eventDispatch_eq, State.dropDisabled_none (by rw [hq]; exact hon), hq, hpick]
  dsimp only
  have herase : (s.atHart c).dev.sup.evq.erase e = r := by rw [hq, List.erase_cons_head]
  unfold State.onDevice
  dsimp only
  rw [herase]

theorem State.dropDisabled_one {s : State} {e : SupEvent} (hq : s.dev.sup.evq = [e]) (hdis : s.dev.discards e = true) :
    s.dropDisabled = s.onDevice fun d => (d.setEvq []).count R.sup_EVQ_DISCARD 1 := by
  have hgone : s.dev.sup.evq.filter s.dev.discards = [e] := by rw [hq, List.filter_cons_of_pos hdis, List.filter_nil]
  have hkept : (s.dev.sup.evq.filter fun e => !s.dev.discards e) = [] := by
    rw [hq, List.filter_cons_of_neg (by simp [hdis]), List.filter_nil]
  unfold State.dropDisabled
  rw [hgone, if_neg (by simp), List.length_singleton]
  unfold State.onDevice
  dsimp only
  rw [hkept]

/-- The one event of a disabled slot is discarded. -/
theorem eventDispatch_discards {s : State} {c : Nat} {e : SupEvent} (hq : (s.atHart c).dev.sup.evq = [e])
    (hoff : (s.atHart c).dev.rf (R.sup_HS_CFG e.slot) 0 1 = 0) (h5 : e.kind ≠ 5) (h7 : e.kind ≠ 7) :
    eventDispatch c s = (s.atHart c).onDevice fun d => (d.setEvq []).count R.sup_EVQ_DISCARD 1 := by
  have hdis : (s.atHart c).dev.discards e = true := by
    have hslot : (s.atHart c).dev.slotOn e.slot = false := by
      unfold Device.slotOn
      rw [hoff]
      rfl
    simp [Device.discards, hslot, h5, h7]
  have hpick : ∀ t : State, t.dev.sup.evq = [] → t.pickEvent c [] t.dev.sup.evq = none := fun t ht => by rw [ht, State.pickEvent]
  rw [eventDispatch_eq, State.dropDisabled_one hq hdis, hpick _ rfl]

/-! ### RESTART (R438) -/

/-- RESTART of the harts whose bit of v is 1. -/
def State.restartBit (v : Word) (s : State) (h : Nat) : State := if fld v h 1 = 1 then s.restartHart h else s

theorem State.restartBit_other (v : Word) (s : State) {h k : Nat} (hk : k ≠ h) :
    (s.restartBit v h).hart k = s.hart k ∧ (s.restartBit v h).dev.reg (R.sup_HART_FCODE k) = s.dev.reg (R.sup_HART_FCODE k) := by
  unfold State.restartBit State.restartHart
  dsimp only
  split
  · split
    · refine ⟨?_, ?_⟩
      · rw [State.hart_onDevice, State.hart_setHart, if_neg hk]
      · show (Device.setF s.dev (R.sup_HART_FCODE h) 31 1 0).reg _ = _
        rw [Device.setF_eq, Device.reg_setReg, if_neg (by unfold R.sup_HART_FCODE; omega)]
    · exact ⟨rfl, rfl⟩
  · exact ⟨rfl, rfl⟩

theorem State.restartBit_sp (v : Word) (s : State) (h : Nat) : (s.restartBit v h).harts.sp = s.harts.sp := by
  unfold State.restartBit State.restartHart
  dsimp only
  split
  · split <;> rfl
  · rfl

/-- What RESTART does to a hart that it names. -/
theorem State.restartBit_same (v : Word) (s : State) (h : Nat) :
    ((fld v h 1 = 0 ∨ (s.hart h).st ≠ .faulted) → (s.restartBit v h).hart h = s.hart h) ∧
    (fld v h 1 = 1 → (s.hart h).st = .faulted → ((s.restartBit v h).hart h).st = .idle ∧ (∀ j, ((s.restartBit v h).hart h).r j = 0) ∧
      ((s.restartBit v h).hart h).loops = [] ∧ ((s.restartBit v h).hart h).calls = [] ∧
      (s.restartBit v h).dev.rf (R.sup_HART_FCODE h) 31 1 = 0) := by
  unfold State.restartBit State.restartHart
  dsimp only
  refine ⟨fun hno => ?_, fun hbit hst => ?_⟩
  · split
    · rename_i hbit
      rw [if_neg]
      rcases hno with hno | hno
      · rw [hno] at hbit
        cases hbit
      · exact hno
    · rfl
  · rw [if_pos hbit, if_pos hst]
    refine ⟨?_, fun j => ?_, ?_, ?_, ?_⟩
    · rw [State.hart_onDevice, State.hart_setHart, if_pos rfl]
    · rw [State.hart_onDevice, State.hart_setHart, if_pos rfl]
      unfold Hart.r
      split <;> rfl
    · rw [State.hart_onDevice, State.hart_setHart, if_pos rfl]
    · rw [State.hart_onDevice, State.hart_setHart, if_pos rfl]
    · show fld ((Device.setF _ (R.sup_HART_FCODE h) 31 1 0).reg (R.sup_HART_FCODE h)) 31 1 = 0
      rw [Device.setF_eq, Device.reg_setReg, if_pos rfl, fld_setFld _ _ (by decide), Nat.zero_mod]

/-- What it does to the hart is a matter of that hart alone. -/
theorem State.restartBit_congr (v : Word) {s t : State} {h : Nat} (hh : t.hart h = s.hart h)
    (hr : t.dev.reg (R.sup_HART_FCODE h) = s.dev.reg (R.sup_HART_FCODE h)) : (t.restartBit v h).hart h = (s.restartBit v h).hart h ∧
    (t.restartBit v h).dev.reg (R.sup_HART_FCODE h) = (s.restartBit v h).dev.reg (R.sup_HART_FCODE h) := by
  unfold State.restartBit State.restartHart
  rw [hh]
  dsimp only
  split
  · split
    · refine ⟨?_, ?_⟩
      · rw [State.hart_onDevice, State.hart_setHart, State.hart_onDevice, State.hart_setHart, if_pos rfl, if_pos rfl]
      · show (Device.setF t.dev (R.sup_HART_FCODE h) 31 1 0).reg _ = (Device.setF s.dev (R.sup_HART_FCODE h) 31 1 0).reg _
        rw [Device.setF_eq, Device.setF_eq, Device.reg_setReg, Device.reg_setReg, hr]
    · exact ⟨hh, hr⟩
  · exact ⟨hh, hr⟩

/-- Each hart is restarted by its own bit alone. -/
theorem State.restarts_spec (v : Word) {l : List Nat} (hl : l.Nodup) (s : State) (h : Nat) :
    (l.foldl (State.restartBit v) s).harts.sp = s.harts.sp ∧
    (h ∉ l → (l.foldl (State.restartBit v) s).hart h = s.hart h ∧
      (l.foldl (State.restartBit v) s).dev.reg (R.sup_HART_FCODE h) = s.dev.reg (R.sup_HART_FCODE h)) ∧
    (h ∈ l → (l.foldl (State.restartBit v) s).hart h = (s.restartBit v h).hart h ∧
      (l.foldl (State.restartBit v) s).dev.reg (R.sup_HART_FCODE h) = (s.restartBit v h).dev.reg (R.sup_HART_FCODE h)) := by
  induction l generalizing s with
  | nil => exact ⟨rfl, fun _ => ⟨rfl, rfl⟩, fun hm => absurd hm List.not_mem_nil⟩
  | cons a l ih =>
    obtain ⟨ha, hl⟩ := List.nodup_cons.1 hl
    obtain ⟨hsp, hout, hin⟩ := ih hl (s.restartBit v a)
    rw [List.foldl_cons]
    refine ⟨hsp.trans (s.restartBit_sp v a), fun hm => ?_, fun hm => ?_⟩
    · obtain ⟨hne, hm⟩ := not_or.1 (mt List.mem_cons.2 hm)
      have hother := s.restartBit_other v hne
      exact ⟨(hout hm).1.trans hother.1, (hout hm).2.trans hother.2⟩
    · by_cases hne : h = a
      · subst hne
        exact hout ha
      · have hother := s.restartBit_other v hne
        have hm := hin ((List.mem_cons.1 hm).resolve_left hne)
        have hsame := State.restartBit_congr v hother.1 hother.2
        exact ⟨hm.1.trans hsame.1, hm.2.trans hsame.2⟩

/-- A command that writes one register has its effect where the write is performed. -/
theorem State.writeAt_of_writes {s : State} {q : Req} {off : Nat} {k : State → State} (h : Writes s q off = true) :
    s.writeAt q off k = k { s with dev := s.dev.at q.t } := by
  unfold Writes at h
  unfold State.writeAt
  dsimp only
  cases ho : (s.dev.at q.t).ownOffset q.port off with
  | none => simp [ho] at h
  | some a =>
    simp only [ho] at h ⊢
    rw [if_pos h]

/-- Settles O43. -/
theorem eventsAreQueuedAndStartHandlers : Obligations.EventsAreQueuedAndStartHandlers := by
  refine ⟨fun s k e hroom he hheld => ?_, fun s k e hfull he => ?_, ?_, ?_, fun s q hw hport => ?_⟩
  · refine ⟨_, congrArg Host.Outcome.next (eventPost_enters hroom he hheld), ?_⟩
    generalize hs0 : ((s.onDevice (·.at k)).onDevice fun d => ({ d with arriving := d.arriving.erase e }).setEvq (d.sup.evq ++ [e])) = s0
    have hsup : s0.dev.sup.evq = s.dev.sup.evq ++ [e] := by rw [← hs0]; rfl
    have harr : s0.dev.arriving = s.dev.arriving.erase e := by rw [← hs0]; rfl
    have hkeep : KeepsHarts s s0 := by rw [← hs0]; exact ⟨rfl, rfl⟩
    have hreg : ∀ o, o ∉ [R.sup_EVQ_USED, R.sup_EVQ_HIGH] → s0.dev.reg o = s.dev.reg o := fun o ho => by
      rw [← hs0]
      exact Device.setEvq_reg _ _ ho
    have hused : s0.dev.reg R.sup_EVQ_USED = wd (s.dev.sup.evq ++ [e]).length := by
      rw [← hs0]
      exact Device.setEvq_used _ _
    obtain ⟨hs, ha, hr, hsp, hother, harq⟩ := s0.released_spec e
    have hreg' : ∀ o, (s0.released e).dev.reg o = s0.dev.reg o := fun o => congrArg (fun l => Store.get resetOf l o) hr
    refine ⟨by rw [hs, hsup], by rw [ha, harr], ?_, fun _ o ho => (hreg' o).trans (hreg o ho), fun h2 => ?_, fun h2 => ⟨fun a => ?_, ?_⟩⟩
    · rw [Device.rn, hreg', hused, List.length_append, List.length_singleton, wd, BitVec.toNat_ofNat, Nat.mod_eq_of_lt (by omega)]
    · exact ⟨(hother h2).1.trans hkeep.1, (hother h2).2.trans hkeep.2⟩
    · rw [harq h2, List.mem_filter, State.hart_of_harts hkeep.1]
      simp
    · rw [hsp, hkeep.1]
  · refine ⟨_, congrArg Host.Outcome.next (eventPost_holds hfull he), ?_⟩
    have hdrop : R.sup_EVQ_HELD_COUNT ≠ R.hif_MSIX_DROPPED := by decide
    refine ⟨(congrArg (fun x : Sup => x.evq) (congrArg Device.sup (Device.evtBit_speaks _ _ _)) :), (Device.evtBit_postsPages _ _ _).keeps ?_, ?_, ?_,
      rfl, rfl⟩
    · exact List.mem_map.2 ⟨e, (List.mem_filter.1 he.1).1, if_pos rfl⟩
    · refine (Device.evtBit_reg _ _ _ _ hdrop).trans ((if_neg (by decide)).trans ?_)
      rw [Device.holdPost, Device.count_eq, Device.reg_setReg, if_pos rfl]
      rfl
    · show fld (Device.reg _ _) 17 1 = 1
      rw [Device.evtBit_reg _ _ _ _ (by decide), if_pos rfl, fld_or_bit _ (by decide)]
  · intro s h c e r s0 hq hon htake hlow halone hown
    refine ⟨_, congrArg Host.Outcome.next (eventDispatch_starts hq hon (State.hartFor_lowest (hon e (by simp)) htake hlow halone hown)), ?_⟩
    have hx := ((s.atHart c).onDevice fun d => d.setEvq r).startHandler_hart h c e
    obtain ⟨h1, h2, h3, h4, h5, h6, h7, h8, h9, h10, h11⟩ := hx
    refine ⟨h1, h2, h3, h4, h5, h6, ?_, h8, h9, h10, h11, fun j hj => ?_, rfl, rfl, Device.setEvq_used _ _, fun o ho => Device.setEvq_reg _ _ ho⟩
    · rw [h7]
      congr 3
      exact congrArg BitVec.toNat (Device.setEvq_reg _ _ (by simp only [R.sup_HS_ENTRY, R.sup_EVQ_USED, R.sup_EVQ_HIGH, List.mem_cons, List.not_mem_nil, or_false]; omega))
    · exact (State.hart_setHart ..).trans (if_neg hj)
  · intro s c e s0 hq hoff h5 h7
    refine ⟨_, congrArg Host.Outcome.next (eventDispatch_discards hq hoff h5 h7), ?_, ?_, rfl⟩
    · show (Device.setReg _ _ _).sup.evq = []
      rw [Device.setReg_sup, Device.setEvq_evq]
    · show (Device.count _ _ 1).reg _ = _
      rw [Device.count_eq, Device.reg_setReg, if_pos rfl, Device.setEvq_reg _ _ (by decide)]
  · refine ⟨_, congrArg Host.Outcome.next ((State.writeAt_of_writes hw).trans (if_pos hport)), ?_⟩
    have hspec := State.restarts_spec q.data (l := List.range 4) List.nodup_range { s with dev := s.dev.at q.t }
    refine ⟨(hspec 0).1, fun h hh => ?_⟩
    obtain ⟨-, -, hin⟩ := hspec h
    obtain ⟨hhart, hcode⟩ := hin (List.mem_range.2 hh)
    obtain ⟨hkeep, hact⟩ := State.restartBit_same q.data { s with dev := s.dev.at q.t } h
    refine ⟨fun hno => hhart.trans (hkeep hno), fun hbit hst => ?_⟩
    obtain ⟨hidle, hregs, hloops, hcalls, hbit31⟩ := hact hbit hst
    refine ⟨(congrArg Hart.st hhart).trans hidle, fun j => (congrArg (Hart.r · j) hhart).trans (hregs j),
      (congrArg Hart.loops hhart).trans hloops, (congrArg Hart.calls hhart).trans hcalls, (congrArg (fld · 31 1) hcode).trans hbit31⟩

end Sys2Proof.Machine
end

section
/-! PROOFS. Software events, the heartbeat, timers and mailboxes (R440 to R443); O44. -/
namespace Sys2Proof.Machine

/-- A command of the device alone. -/
theorem completes_dev {cmd : Instr} {s : State} {f : Device → Device} {d : Device} {P : State → Prop} (hx : exec cmd s = onDev f s)
    (hd : f s.dev = d) (hp : P { s with dev := d }) : Completes cmd s P := ⟨_, hx, hd ▸ hp⟩

/-! ### Registers past a page's header -/

/-- An error changes none of them. -/
theorem Device.err_reg_noReport (d : Device) {pg : Nat} (hpg : pg % 0x1000 = 0) (code : Nat) (lo hi : Word) {o : Nat} (ho : OfNoReport o) :
    (d.err pg code lo hi).reg o = d.reg o := by
  obtain ⟨hhdr, -, hflt⟩ := ho
  refine d.err_reg _ _ _ _ o hflt ?_
  simp only [List.mem_cons, List.not_mem_nil, or_false]
  omega

/-- A register of the supervisor's second page past its header. -/
theorem ofNoReport_sup2 {n : Nat} (h : 0x100 ≤ n) (hn : n < 0x1000) : OfNoReport (0xB000 + n) := by
  refine ⟨by omega, by omega, fun hm => ?_⟩
  have hout : ∀ x ∈ faultRegs, x < 0xB000 ∨ 0xC000 ≤ x := by decide
  have := hout _ hm
  omega

theorem errPage_swEvent : errPage R.sup_SW_EVENT = 0xA000 := by decide

/-! ### Writes that only a hart may make (R441) -/

section
variable {s : State} {q : Req} {off : Nat} {k : Nat → Device → Device}

theorem Device.supWrite_hart (hw : Writes s q off = true) {h : Fin 4} (hp : q.port = .supervisor h) :
    s.dev.supWrite q off k = k h.val (s.dev.at q.t) := by
  unfold Device.supWrite
  rw [Device.writeAt_of_writes hw, hp]

theorem Device.supWrite_other (hw : Writes s q off = true) (hp : portCode q.port ≠ 7) :
    s.dev.supWrite q off k = (s.dev.at q.t).errAccess 0x0001 q.port off true := by
  unfold Device.supWrite
  rw [Device.writeAt_of_writes hw]
  cases hq : q.port with
  | supervisor h =>
    rw [hq] at hp
    exact absurd rfl hp
  | _ => rfl

end

/-- A post changes no register. -/
theorem Device.supEvent_reg (d : Device) (kind slot : Nat) (src value : Word) (o : Nat) : (d.supEvent kind slot src value).reg o = d.reg o := rfl

/-! ### Timers (R440) -/

/-- The timer's next period begins. -/
def Device.nextPeriod (d : Device) (k n : Nat) : Device :=
  { d with sup := { d.sup with tmr := Store.set zeroN d.sup.tmr k (Store.get zeroN d.sup.tmr k + 1000 * n) } }

/-- The event of timer k that waits takes one period more. -/
def Device.mergePeriod (d : Device) (k : Nat) : Device :=
  { d with
    arriving := d.arriving.map (mergeTimer k)
    sup := { d.sup with evq := d.sup.evq.map (mergeTimer k) } }.count R.sup_TMR_MERGED 1

/-- Whether an event of timer k waits or is queued. -/
def Device.hasTimer (d : Device) (k : Nat) : Bool :=
  (d.arriving.any fun e => e.kind == 6 && e.tag == k) || d.sup.evq.any fun e => e.kind == 6 && e.tag == k

theorem timerPeriod_eq (k : Fin 4) (t : Nat) (d : Device) : timerPeriod k t d =
    let n := d.rf (R.sup_TMR_PERIOD k) 0 24
    if n = 0 ∨ (d.at t).now.tick < Store.get zeroN d.sup.tmr k + 1000 * n then d.at t
    else if d.hasTimer k then ((d.at t).nextPeriod k n).mergePeriod k
    else ((d.at t).nextPeriod k n).supEventTag 6 (d.rf (R.sup_TMR_SLOT k) 0 6) (wd (16 * k.val)) 1 k := rfl

theorem Device.hasTimer_iff (d : Device) (k : Nat) :
    d.hasTimer k = true ↔ ∃ e ∈ d.arriving ++ d.sup.evq, e.kind = 6 ∧ e.tag = k := by
  unfold Device.hasTimer
  simp only [Bool.or_eq_true, List.any_eq_true, Bool.and_eq_true, beq_iff_eq, List.mem_append, or_and_right, exists_or]

theorem Device.mergePeriod_reg (d : Device) (k : Nat) (o : Nat) :
    (d.mergePeriod k).reg o = if o = R.sup_TMR_MERGED then satAdd (d.reg R.sup_TMR_MERGED) 1 else d.reg o := by
  unfold Device.mergePeriod
  rw [Device.count_eq, Device.reg_setReg]
  rfl

/-! ### O44 -/

theorem swEvent_posts {s : State} {q : Req} (hw : Writes s q R.sup_SW_EVENT = true) (hgo : fld q.data 31 1 = 1) {h : Fin 4}
    (hp : q.port = .supervisor h) : swEvent q s.dev =
      { s.dev.at q.t with arriving := s.dev.arriving.filter fun e => !(e.kind == 3 && e.held && e.tag == h.val) }.supEventTag 3
        (fld q.data 0 6) (wd (16 * h.val)) (Store.get zeroW s.dev.sup.swv h) h := by
  unfold swEvent
  rw [Device.supWrite_hart hw hp]
  exact if_neg fun h0 => absurd (hgo.symm.trans h0) (by decide)

theorem swEvent_refused {s : State} {q : Req} (hw : Writes s q R.sup_SW_EVENT = true) (hp : portCode q.port ≠ 7) :
    swEvent q s.dev = (s.dev.at q.t).err 0xA000 0x0001 (accessInfo q.port R.sup_SW_EVENT true) (wd (portTenant q.port)) := by
  unfold swEvent
  rw [Device.supWrite_other hw hp, Device.errAccess, errPage_swEvent]

/-- What a heartbeat changes (R441, R605). -/
def Device.beat (d : Device) : Device :=
  ({ d with sup := { d.sup with beat := some d.now.tick, swd := d.sup.swd.map fun _ => d.now.tick } }.count R.sup_HB_COUNT 1).setF
    R.flt_SWD_STATE 0 2 0

theorem heartbeat_beats {s : State} {q : Req} {h : Fin 4} (hw : Writes s q R.sup_HEARTBEAT = true) (hp : q.port = .supervisor h) :
    heartbeat q s.dev = (s.dev.at q.t).beat := Device.supWrite_hart hw hp

theorem Device.beat_reg (d : Device) (o : Nat) : d.beat.reg o =
    if o = R.flt_SWD_STATE then setFld (d.reg R.flt_SWD_STATE) 0 2 0 else if o = R.sup_HB_COUNT then satAdd (d.reg R.sup_HB_COUNT) 1
      else d.reg o := by
  unfold Device.beat
  simp only [Device.setF_eq, Device.count_eq, Device.reg_setReg, if_neg (show R.flt_SWD_STATE ≠ R.sup_HB_COUNT by decide)]
  rfl

section
variable {s : State} {m : Fin 3} {q : Req}

/-- RING of a free mailbox (R443). -/
theorem doorbell_rings (hw : Writes s q (R.sup_DOORBELL m) = true) (hring : fld q.data 0 1 = 1)
    (hfree : s.dev.rf (R.sup_MB_STATUS m) 0 1 = 0) : doorbell m q s.dev =
      ((s.dev.at q.t).setF (R.sup_MB_STATUS m) 0 1 1).supEvent 4 (s.dev.rf (R.sup_MB_SLOT m) 0 6) (wd (16 * m.val)) 0 := by
  unfold doorbell
  rw [Device.writeAt_of_writes hw, if_neg (fun h0 => absurd (hring.symm.trans h0) (by decide))]
  exact if_neg fun h1 => absurd (hfree.symm.trans h1) (by decide)

theorem doorbell_busy (hw : Writes s q (R.sup_DOORBELL m) = true) (hring : fld q.data 0 1 = 1)
    (hbusy : s.dev.rf (R.sup_MB_STATUS m) 0 1 = 1) : doorbell m q s.dev = (s.dev.at q.t).err 0xB000 0x010B (wd m.val) 0 := by
  unfold doorbell
  rw [Device.writeAt_of_writes hw, if_neg (fun h0 => absurd (hring.symm.trans h0) (by decide))]
  exact if_pos hbusy

theorem mbDone_ends (hw : Writes s q (R.sup_MB_DONE m) = true) (hdone : fld q.data 0 1 = 1) : mbDone m q s.dev =
    (((s.dev.at q.t).setF (R.sup_MB_STATUS m) 0 1 0).setF (R.sup_MB_STATUS m) 1 1 1).evtBit 0xB000 (16 + m) :=
  (Device.writeAt_of_writes hw).trans (if_neg fun h0 => absurd (hdone.symm.trans h0) (by decide))

end

/-- Two fields of one register. -/
theorem Device.two_setF_reg (d : Device) (o x y p : Nat) :
    ((d.setF o 0 1 x).setF o 1 1 y).reg p = if p = o then setFld (setFld (d.reg o) 0 1 x) 1 1 y else d.reg p := by
  rw [Device.setF_eq, Device.reg_setReg, Device.setF_eq, Device.reg_setReg, Device.reg_setReg, if_pos rfl]
  split <;> rfl

/-- The timer's clauses of R440. -/
theorem timerPeriod_spec (s : State) (n : Fin 4) (k : Nat) :
    let p := s.dev.rf (R.sup_TMR_PERIOD n) 0 24
    let mine := fun (e : SupEvent) => e.kind = 6 ∧ e.tag = n.val
    (p = 0 → timerPeriod n k s.dev = s.dev.at k) ∧
    (p ≠ 0 → Store.get zeroN s.dev.sup.tmr n + 1000 * p ≤ (s.dev.at k).now.tick →
      ((∀ e ∈ s.dev.arriving ++ s.dev.sup.evq, ¬mine e) → timerPeriod n k s.dev = ((s.dev.at k).nextPeriod n p).supEventTag 6
        (s.dev.rf (R.sup_TMR_SLOT n) 0 6) (wd (16 * n.val)) 1 n) ∧
      (∀ e, e ∈ s.dev.arriving ++ s.dev.sup.evq → mine e → timerPeriod n k s.dev = ((s.dev.at k).nextPeriod n p).mergePeriod n)) := by
  intro p mine
  rw [timerPeriod_eq]
  refine ⟨fun hp => if_pos (.inl hp), fun hp hdue => ?_⟩
  have hgo : ¬(p = 0 ∨ (s.dev.at k).now.tick < Store.get zeroN s.dev.sup.tmr n + 1000 * p) := not_or.2 ⟨hp, Nat.not_lt.2 hdue⟩
  refine ⟨fun hnone => (if_neg hgo).trans (if_neg fun hh => ?_), fun e he hmine => (if_neg hgo).trans (if_pos ?_)⟩
  · obtain ⟨e, he, hmine⟩ := (Device.hasTimer_iff ..).1 hh
    exact hnone e he hmine
  · exact (Device.hasTimer_iff ..).2 ⟨e, he, hmine⟩

/-- Settles O44. -/
theorem supervisorSourcesPostEvents : Obligations.SupervisorSourcesPostEvents := by
  refine ⟨fun s q hw hgo => ⟨fun h hp => ?_, fun hp => ?_⟩, fun s q h hw hp => ?_, fun s n k => ?_,
    fun s m q hw hring => ⟨fun hfree => ?_, fun hbusy => ?_⟩, fun s m q hw hdone => ?_⟩
  · refine completes_dev rfl (swEvent_posts hw hgo hp) ⟨?_, fun _ _ => rfl, rfl, rfl⟩
    exact List.mem_append_right _ (List.mem_singleton_self _)
  · refine completes_dev rfl (swEvent_refused hw hp) ⟨fun e he hk => ?_, ?_, rfl, rfl⟩
    · exact (Device.err_postsPages (s.dev.at q.t) 0xA000 _ _ _).mem he (by rw [hk]; decide)
    · exact (s.dev.at q.t).err_count 0xA000 _ _ _ (by decide)
  · refine completes_dev rfl (heartbeat_beats hw hp) ⟨?_, ?_, rfl, fun x hx => ?_, fun o ho => ?_, rfl, rfl⟩
    · exact ((s.dev.at q.t).beat_reg _).trans ((if_neg (by decide)).trans (if_pos rfl))
    · show fld ((s.dev.at q.t).beat.reg _) 0 2 = 0
      rw [Device.beat_reg, if_pos rfl, fld_setFld _ _ (by decide), Nat.zero_mod]
    · show s.dev.sup.swd.map _ = _
      rw [hx]
      rfl
    · simp only [List.mem_cons, List.not_mem_nil, or_false, not_or] at ho
      exact ((s.dev.at q.t).beat_reg o).trans ((if_neg ho.2).trans (if_neg ho.1))
  · obtain ⟨hzero, hdue⟩ := timerPeriod_spec s n k
    refine ⟨fun hp => completes_dev rfl (hzero hp) ⟨rfl, ⟨rfl, rfl, rfl⟩, fun _ _ => rfl⟩, fun hp hd => ⟨fun hnone => ?_, fun e he hmine => ?_⟩⟩
    · refine completes_dev rfl ((hdue hp hd).1 hnone) ⟨List.mem_append_right _ (List.mem_singleton_self _), ?_, fun _ _ => rfl, rfl, rfl⟩
      exact (Store.get_set ..).trans (if_pos rfl)
    · refine completes_dev rfl ((hdue hp hd).2 e he hmine) ⟨?_, ?_, List.length_map .., List.length_map .., fun o ho => ?_, rfl, rfl⟩
      · show _ ∈ s.dev.arriving.map (mergeTimer n) ++ s.dev.sup.evq.map (mergeTimer n)
        rw [← List.map_append]
        exact List.mem_map.2 ⟨e, he, if_pos hmine⟩
      · exact (Device.mergePeriod_reg ..).trans (if_pos rfl)
      · exact (Device.mergePeriod_reg ..).trans (if_neg (List.mem_singleton.not.1 ho))
  · refine completes_dev rfl (doorbell_rings hw hring hfree) ⟨?_, ⟨_, List.mem_append_right _ (List.mem_singleton_self _), rfl, rfl, rfl⟩,
      fun o ho => ?_, rfl, rfl⟩
    · rw [Device.rf, Device.supEvent_reg, Device.setF_eq, Device.reg_setReg, if_pos rfl, fld_setFld _ _ (by decide), Nat.one_mod_two_pow_eq_one.2 (by decide)]
    · refine (Device.supEvent_reg ..).trans ?_
      rw [Device.setF_eq, Device.reg_setReg, if_neg (List.mem_singleton.not.1 ho)]
      rfl
  · have hm := m.isLt
    have hoff : R.sup_MB_STATUS m = 0xB000 + (0x684 + 0x100 * m) := by unfold R.sup_MB_STATUS; omega
    refine completes_dev rfl (doorbell_busy hw hring hbusy) ⟨?_, ?_, fun e he hk => ?_, rfl, rfl⟩
    · rw [hoff]
      exact (s.dev.at q.t).err_reg_noReport (by decide) _ _ _ (ofNoReport_sup2 (by omega) (by omega))
    · exact (s.dev.at q.t).err_count 0xB000 _ _ _ (by decide)
    · exact (Device.err_postsPages (s.dev.at q.t) 0xB000 _ _ _).mem he (by rw [hk]; decide)
  · have hm := m.isLt
    have hst : R.sup_MB_STATUS m ≠ R.hif_MSIX_DROPPED := by unfold R.sup_MB_STATUS R.hif_MSIX_DROPPED; omega
    have hraw : R.sup_MB_STATUS m ≠ 0xB000 + 0x20 := by unfold R.sup_MB_STATUS; omega
    refine completes_dev rfl (mbDone_ends hw hdone) ⟨?_, ?_, ?_, fun o ho => ?_, rfl, rfl⟩
    · show fld ((Device.evtBit _ 0xB000 _).reg _) 0 1 = 0
      rw [Device.evtBit_reg _ _ _ _ hst, if_neg hraw, Device.two_setF_reg, if_pos rfl, fld_setFld_beside _ _ (by decide) (.inl (by decide)),
        fld_setFld _ _ (by decide), Nat.zero_mod]
    · show fld ((Device.evtBit _ 0xB000 _).reg _) 1 1 = 1
      rw [Device.evtBit_reg _ _ _ _ hst, if_neg hraw, Device.two_setF_reg, if_pos rfl, fld_setFld _ _ (by decide), Nat.one_mod_two_pow_eq_one.2 (by decide)]
    · show fld ((Device.evtBit _ 0xB000 _).reg _) (16 + m) 1 = 1
      rw [Device.evtBit_reg _ _ _ _ (by decide), if_pos rfl, fld_or_bit _ (by omega)]
    · simp only [List.mem_cons, List.not_mem_nil, or_false, not_or] at ho
      obtain ⟨h1, h2, h3⟩ := ho
      show (Device.evtBit _ 0xB000 _).reg _ = _
      rw [Device.evtBit_reg _ _ _ _ h3, if_neg h2, Device.two_setF_reg, if_neg h1]
      rfl

end Sys2Proof.Machine
end

section
/-! PROOFS. What each reset clears, keeps and records (R558, R566, R572 to R578); O52. -/
namespace Sys2Proof.Machine

/-! ### What a step leaves of the boot state, the jobs and HBM -/

/-- The boot state and HBM stand, and no job appears where none was. -/
structure Device.SparesBoot (d e : Device) : Prop where
  boot : e.boot = d.boot
  hbm : e.hbm = d.hbm
  jobs : d.jobs = [] → e.jobs = []

namespace Device.SparesBoot

variable {d e f : Device}

theorem refl (d : Device) : d.SparesBoot d := ⟨rfl, rfl, id⟩

theorem trans (h : d.SparesBoot e) (g : e.SparesBoot f) : d.SparesBoot f := ⟨g.boot.trans h.boot, g.hbm.trans h.hbm, g.jobs ∘ h.jobs⟩

theorem ite {p : Prop} [Decidable p] (he : d.SparesBoot e) (hf : d.SparesBoot f) : d.SparesBoot (if p then e else f) := by
  split
  · exact he
  · exact hf

theorem foldl {α : Type} {k : Device → α → Device} (h : ∀ (d : Device) a, d.SparesBoot (k d a)) (l : List α) (d : Device) :
    d.SparesBoot (l.foldl k d) := by
  induction l generalizing d with
  | nil => exact refl d
  | cons a l ih => exact (h d a).trans (ih _)

end Device.SparesBoot

theorem Device.Speaks.sparesBoot {d e : Device} (h : d.Speaks e) : d.SparesBoot e :=
  ⟨(congrArg Device.boot h :), (congrArg Device.hbm h :), fun hj => (congrArg Device.jobs h :).trans hj⟩

theorem Device.presenceSync_speaks (d : Device) : d.Speaks d.presenceSync := by
  unfold Device.presenceSync
  dsimp only
  split
  · exact Device.Speaks.trans (e := (d.setF R.iob_PRESENCE_STATUS 0 1 (b2n d.devOk)).setF R.iob_PRESENCE_STATUS 1 1 (b2n d.faultState)) rfl
      (Device.evtBit_speaks _ _ _)
  · rfl

theorem Device.devSync_speaks (d : Device) : d.Speaks d.devSync := by
  unfold Device.devSync
  split
  · rfl
  · exact (d.speaks_setReg _ _).trans (Device.evtBit_speaks _ _ _)

/-- The fault state and DEV_OK are registers of their own. -/
theorem Device.presenceSync_reg (d : Device) {o : Nat} (ho : o ∉ [R.iob_PRESENCE_STATUS, 0x2000000 + 0x20, R.hif_MSIX_DROPPED]) :
    d.presenceSync.reg o = d.reg o := by
  simp only [List.mem_cons, List.not_mem_nil, or_false, not_or] at ho
  obtain ⟨hst, hraw, hmsix⟩ := ho
  have hset : ((d.setF R.iob_PRESENCE_STATUS 0 1 (b2n d.devOk)).setF R.iob_PRESENCE_STATUS 1 1 (b2n d.faultState)).reg o = d.reg o := by
    rw [Device.setF_eq, Device.reg_setReg, if_neg hst, Device.setF_eq, Device.reg_setReg, if_neg hst]
  unfold Device.presenceSync
  dsimp only
  split
  · rw [Device.evtBit_reg _ _ _ _ hmsix, if_neg hraw, hset]
  · exact hset

theorem OfNoReport.notMem_presence {o : Nat} (h : OfNoReport o) : o ∉ [R.iob_PRESENCE_STATUS, 0x2000000 + 0x20, R.hif_MSIX_DROPPED] := by
  have hmsix := h.ne_msix
  obtain ⟨-, hlow, -⟩ := h
  simp only [List.mem_cons, List.not_mem_nil, or_false, not_or]
  exact ⟨by show o ≠ 0x2000814; omega, by omega, hmsix⟩

theorem Device.countStretch_sparesBoot (d : Device) : d.SparesBoot d.countStretch := by
  unfold Device.countStretch
  dsimp only
  split <;> exact ⟨rfl, rfl, id⟩

/-! ### Linwald ports that fall silent (R545) -/

theorem Device.settle_sparesBoot (d : Device) (p : Nat) : d.SparesBoot (d.settle p) := by
  obtain ⟨e, n, x, ⟨f, -, -, rfl⟩, h, -⟩ := d.settle_eq p
  rw [h]
  exact ⟨rfl, rfl, fun hj => by show d.jobs.map f = []; rw [hj]; rfl⟩

theorem Device.egrWaitEnd_sparesBoot (d : Device) (p : Nat) : d.SparesBoot (d.egrWaitEnd p) := by
  unfold Device.egrWaitEnd
  split
  · exact .refl d
  · exact ⟨rfl, rfl, id⟩

theorem Device.retryEnds_sparesBoot (d : Device) (k : Nat) : d.SparesBoot (d.retryEnds k) := by
  unfold Device.retryEnds
  split
  · exact .refl d
  · refine Device.SparesBoot.trans (.foldl (fun d p => ?_) _ d) ⟨rfl, rfl, id⟩
    exact (d.settle_sparesBoot p).trans ⟨rfl, rfl, id⟩

theorem Device.failPeers_none {d : Device} (h : d.jobs = []) (k : Nat) : d.failPeers k = d := by
  unfold Device.failPeers
  rw [h]
  rfl

theorem Device.lwSettle_sparesBoot (d : Device) (k : Nat) : d.SparesBoot (d.lwSettle k) := by
  unfold Device.lwSettle
  dsimp only
  split <;> exact ⟨rfl, rfl, id⟩

theorem Device.faultOpen_sparesBoot (d : Device) (src cls : Nat) : d.SparesBoot (d.faultOpen src cls) :=
  Device.SparesBoot.trans (e := d.fresh.2.fresh.2.fresh.2) ⟨rfl, rfl, id⟩ (Device.faultLog_speaks _ _ _ _ _ _).sparesBoot

/-- A fault of a pipeline with no job fails none. -/
theorem Device.pipeFaultLog_sparesBoot {d : Device} (h : d.jobs = []) (p cause tile : Nat) : d.SparesBoot (d.pipeFaultLog p cause tile) := by
  unfold Device.pipeFaultLog
  refine .ite (.refl d) ?_
  refine Device.SparesBoot.trans ?_ (Device.faultOpen_sparesBoot _ _ _)
  unfold Device.pipeFaultSet
  refine .ite (.refl d) ?_
  extract_lets d1 ids oldest d2
  have h1 : d.SparesBoot d1 :=
    ((d.settle_sparesBoot p).trans (Device.egrWaitEnd_sparesBoot _ p)).trans
      (Device.SparesBoot.trans (e := (((d.settle p).egrWaitEnd p).setF (R.sch_PIPE_STATE p) 8 1 1).setN (R.sch_FAULT_INFO p)
        (tile % 4096 + 65536 * cause)) ⟨rfl, rfl, id⟩ (Device.evtBit_speaks _ _ _).sparesBoot)
  have hids : ids = [] := by
    show (d1.jobs.filter _).map _ = []
    rw [h1.jobs h]
    rfl
  have h2 : d2 = d1 := by
    show ids.foldl _ d1 = d1
    rw [hids]
    rfl
  rw [h2]
  exact ⟨h1.boot, h1.hbm, h1.jobs⟩

theorem Device.copyError_sparesBoot (d : Device) (k reason : Nat) : d.SparesBoot (d.copyError k reason) :=
  Device.SparesBoot.trans (e := (d.modLw k fun x => { x with copy := none }).setN (R.lwl_COPY_STATUS k) (4 + 16 * reason)) ⟨rfl, rfl, id⟩
    (Device.err_speaks _ _ _ _ _).sparesBoot

/-- With no job left, a port that drops touches neither the boot state nor HBM. -/
theorem Device.lwDrop_sparesBoot {d : Device} (h : d.jobs = []) (k : Nat) : d.SparesBoot (d.lwDrop k) := by
  have h1 : d.SparesBoot ((d.lwSettle k).retryEnds k) := (d.lwSettle_sparesBoot k).trans (Device.retryEnds_sparesBoot _ k)
  unfold Device.lwDrop
  rw [Device.failPeers_none (h1.jobs h)]
  generalize (d.lwSettle k).retryEnds k = e at h1
  extract_lets d1 mine y d2 open_ x z d3 d4 d5 d6
  have h4 : d.SparesBoot d4 := h1.trans ⟨rfl, rfl, id⟩
  have h5 : d.SparesBoot d5 ∧ d5.jobs = [] := by
    refine List.foldlRecOn _ _ (motive := fun e => d.SparesBoot e ∧ e.jobs = []) ⟨h4, h4.jobs h⟩ ?_
    rintro e ⟨he, hej⟩ c -
    split
    · have hp := Device.pipeFaultLog_sparesBoot hej (e.rf (R.lwl_CH_CFG k c) 8 7) 6 0
      exact ⟨he.trans hp, hp.jobs hej⟩
    · exact ⟨he, hej⟩
  have h6 : d.SparesBoot d6 := .ite (h5.1.trans (d5.copyError_sparesBoot k 2)) h5.1
  exact .ite (h6.trans ⟨rfl, rfl, id⟩) h6

theorem Device.portsDown_sparesBoot {d : Device} (h : d.jobs = []) : d.SparesBoot d.portsDown := by
  refine (List.foldlRecOn _ _ (motive := fun e => d.SparesBoot e ∧ e.jobs = []) ⟨.refl d, h⟩ ?_).1
  rintro e ⟨he, hej⟩ k -
  have hd := Device.lwDrop_sparesBoot hej k
  exact ⟨he.trans hd, hd.jobs hej⟩

theorem Device.zeroRegs_sparesBoot (d : Device) (l : List Nat) : d.SparesBoot (d.zeroRegs l) :=
  ⟨(congrArg Device.boot (d.zeroRegs_frame l) :), (congrArg Device.hbm (d.zeroRegs_frame l) :), fun hj => (d.zeroRegs_units l).1.trans hj⟩

theorem Device.gateAll_sparesBoot (d : Device) : d.SparesBoot d.gateAll := by
  unfold Device.gateAll
  extract_lets offs d1 d2
  have h1 : d.SparesBoot d1 := .foldl (k := fun (d : Device) o => (d.setN o 0).setSh o 0) (fun d o => ⟨rfl, rfl, id⟩) _ d
  exact h1.trans ((d1.zeroRegs_sparesBoot _).trans ⟨rfl, rfl, id⟩)

/-- The array cleared: no pipeline and no tile keeps anything, and HBM stands. -/
theorem Device.clearArray_spec (d : Device) : d.SparesBoot d.clearArray ∧ d.clearArray.tiles = [] ∧ d.clearArray.pipes = [] := by
  refine ⟨?_, rfl, rfl⟩
  unfold Device.clearArray
  extract_lets d1 d2
  have h2 : d1.SparesBoot d2 :=
    Device.SparesBoot.trans (e := d1.count R.obs_TRACE_LOST d1.trace.held.length) ⟨rfl, rfl, id⟩
      ((Device.zeroRegs_sparesBoot _ _).trans (Device.zeroRegs_sparesBoot _ _))
  clear_value d2
  exact Device.SparesBoot.trans (e := d2) (Device.SparesBoot.trans (e := d1) ⟨rfl, rfl, id⟩ h2) ⟨rfl, rfl, id⟩

/-- A device reset begins: its cause stands in the boot state, HBM is kept, and no job, tile or pipeline is left (R574). -/
theorem Device.startDevReset_spec (d : Device) (c : Nat) :
    (d.startDevReset c).boot = { d.boot with devReset := some c } ∧ (d.startDevReset c).hbm = d.hbm ∧ (d.startDevReset c).jobs = [] ∧
      (d.startDevReset c).tiles = [] ∧ (d.startDevReset c).pipes = [] := by
  unfold Device.startDevReset
  extract_lets d1 d2 x d3
  have h1 : (d.countStretch.modBoot fun b => { b with devReset := some c }).SparesBoot d1 :=
    Device.SparesBoot.trans (e := (d.countStretch.modBoot fun b => { b with devReset := some c }).setN R.iob_OK_REQ 0) ⟨rfl, rfl, id⟩
      (Device.presenceSync_speaks _).sparesBoot
  have hb : d1.boot = { d.boot with devReset := some c } := by
    rw [h1.boot]
    show { d.countStretch.boot with devReset := some c } = _
    rw [d.countStretch_sparesBoot.boot]
  have hh : d1.hbm = d.hbm := h1.hbm.trans d.countStretch_sparesBoot.hbm
  have hj : d3.abandonAll.jobs = [] := rfl
  have h3 := Device.portsDown_sparesBoot hj
  have h4 := h3.trans (Device.gateAll_sparesBoot _)
  obtain ⟨h5, htiles, hpipes⟩ := d3.abandonAll.portsDown.gateAll.clearArray_spec
  have hs := Device.devSync_speaks d3.abandonAll.portsDown.gateAll.clearArray
  have h6 := (h4.trans h5).trans hs.sparesBoot
  exact ⟨h6.boot.trans hb, h6.hbm.trans hh, h6.jobs hj, hs.tiles_eq.trans htiles, hs.pipes_eq.trans hpipes⟩

/-! ### What a step leaves of the pages SEC and FLT -/

/-- A register of SEC or FLT that no report of an error or an event, no change of the device state and no armed ladder touches. -/
def OfIsland (o : Nat) : Prop := (o / 0x1000 = 8 ∨ o / 0x1000 = 9 ∨ o / 0x1000 = 15) ∧ OfNoReport o ∧ o ≠ R.sec_DEV_STATE

/-- A register outside SEC and FLT, or a header word of theirs other than EVT_RAW. -/
def OffIsland (o : Nat) : Prop := ¬ OfIsland o ∧ o ≠ 0x8000 + 0x20 ∧ o ≠ 0xF000 + 0x20 ∧ o ≠ R.flt_LADDER_STATE

/-- SEC and FLT keep their registers, the bits of EVT_RAW that are set, and the rung of the ladder, which at most is armed. -/
structure Device.KeepsIsland (d e : Device) : Prop where
  reg : ∀ o, OfIsland o → e.reg o = d.reg o
  raw : ∀ o, o = 0x8000 + 0x20 ∨ o = 0xF000 + 0x20 → ∀ i, d.rf o i 1 = 1 → e.rf o i 1 = 1
  rung : e.rung = d.rung ∨ d.rung = 0 ∧ e.rung = 1

namespace Device.KeepsIsland

variable {d e f : Device}

theorem refl (d : Device) : d.KeepsIsland d := ⟨fun _ _ => rfl, fun _ _ _ h => h, .inl rfl⟩

theorem trans (h : d.KeepsIsland e) (g : e.KeepsIsland f) : d.KeepsIsland f where
  reg o ho := (g.reg o ho).trans (h.reg o ho)
  raw o ho i hd := g.raw o ho i (h.raw o ho i hd)
  rung := by
    obtain h1 | ⟨h1, h2⟩ := h.rung
    · rw [← h1]
      exact g.rung
    · obtain g1 | ⟨g1, -⟩ := g.rung
      · exact .inr ⟨h1, g1.trans h2⟩
      · exact absurd (h2.symm.trans g1) (by decide)

theorem ite {p : Prop} [Decidable p] (he : d.KeepsIsland e) (hf : d.KeepsIsland f) : d.KeepsIsland (if p then e else f) := by
  split
  · exact he
  · exact hf

theorem foldl {α : Type} {k : Device → α → Device} {l : List α} (h : ∀ (d : Device), ∀ a ∈ l, d.KeepsIsland (k d a)) (d : Device) :
    d.KeepsIsland (l.foldl k d) :=
  List.foldlRecOn _ _ (motive := fun e => d.KeepsIsland e) (refl d) fun e he a ha => he.trans (h e a ha)

/-- A step that leaves every register of SEC and FLT. -/
theorem of_reg (h : ∀ o, o / 0x1000 = 8 ∨ o / 0x1000 = 9 ∨ o / 0x1000 = 15 → e.reg o = d.reg o) : d.KeepsIsland e where
  reg o ho := h o ho.1
  raw o ho i hd := by
    have ho' : e.reg o = d.reg o := h o (by omega)
    rw [Device.rf, ho']
    exact hd
  rung := .inl (congrArg (fld · 0 2) (h R.flt_LADDER_STATE (by decide)))

theorem of_regs (h : e.regs = d.regs) : d.KeepsIsland e := of_reg fun o _ => congrArg (Store.get resetOf · o) h

end Device.KeepsIsland

theorem OffIsland.of_page {o : Nat} (h : o / 0x1000 ≠ 8 ∧ o / 0x1000 ≠ 9 ∧ o / 0x1000 ≠ 15) : OffIsland o :=
  ⟨fun ho => by obtain ⟨hp, -⟩ := ho; omega, by omega, by omega, by unfold R.flt_LADDER_STATE; omega⟩

theorem OffIsland.of_header {o : Nat} (h : o % 0x1000 < 0x100) (h' : o % 0x1000 ≠ 0x20) : OffIsland o :=
  ⟨fun ho => by obtain ⟨-, ⟨hh, -⟩, -⟩ := ho; omega, by omega, by omega, by unfold R.flt_LADDER_STATE; omega⟩

theorem Device.setReg_keepsIsland (d : Device) {o : Nat} (h : OffIsland o) (v : Word) : d.KeepsIsland (d.setReg o v) := by
  obtain ⟨hof, hsec, hflt, hladder⟩ := h
  have hne : ∀ o', o' ≠ o → (d.setReg o v).reg o' = d.reg o' := fun o' ho' => by rw [Device.reg_setReg, if_neg ho']
  refine ⟨fun o' ho' => hne o' fun h => hof (h ▸ ho'), fun o' ho' i hd => ?_, .inl (congrArg (fld · 0 2) (hne _ hladder.symm))⟩
  have hne' : o' ≠ o := by
    obtain rfl | rfl := ho'
    · exact hsec.symm
    · exact hflt.symm
  rw [Device.rf, hne o' hne']
  exact hd

theorem Device.setN_keepsIsland (d : Device) {o : Nat} (h : OffIsland o) (n : Nat) : d.KeepsIsland (d.setN o n) := d.setReg_keepsIsland h _

theorem Device.setF_keepsIsland (d : Device) {o : Nat} (h : OffIsland o) (lo w x : Nat) : d.KeepsIsland (d.setF o lo w x) :=
  d.setReg_keepsIsland h _

theorem Device.count_keepsIsland (d : Device) {o : Nat} (h : OffIsland o) (k : Nat) : d.KeepsIsland (d.count o k) :=
  d.setReg_keepsIsland h _

theorem Device.evtBit_keepsIsland (d : Device) {pg : Nat} (hpg : pg % 0x1000 = 0) (i : Nat) : d.KeepsIsland (d.evtBit pg i) := by
  refine ⟨fun o ho => ?_, fun o ho j hd => ?_, .inl ?_⟩
  · obtain ⟨-, hrep, -⟩ := ho
    obtain ⟨hhdr, -, -⟩ := id hrep
    rw [Device.evtBit_reg _ _ _ _ hrep.ne_msix, if_neg (by omega)]
  · rw [Device.rf, Device.evtBit_reg _ _ _ _ (by unfold R.hif_MSIX_DROPPED; omega)]
    split
    · rw [fld_or]
      show (d.rf o j 1) ||| _ = 1
      rw [hd]
      have := fld_lt (wd (2 ^ i)) j 1
      interval_cases fld (wd (2 ^ i)) j 1 <;> rfl
    · exact hd
  · exact congrArg (fld · 0 2) ((Device.evtBit_reg _ _ _ _ (by decide)).trans (if_neg (by unfold R.flt_LADDER_STATE; omega)))

theorem fld_wd {lo w : Nat} (h : lo + w ≤ 32) (n : Nat) : fld (wd n) lo w = n / 2 ^ lo % 2 ^ w := by
  unfold fld wd
  refine Nat.eq_of_testBit_eq fun i => ?_
  simp only [BitVec.toNat_ofNat, Nat.testBit_mod_two_pow, Nat.testBit_div_two_pow]
  by_cases hi : i < w
  · have : i + lo < 32 := by omega
    simp [hi, this]
  · simp [hi]

theorem Device.armLadder_keepsIsland (d : Device) : d.KeepsIsland d.armLadder := by
  refine ⟨fun o ho => d.armLadder_reg o fun h => ?_, fun o ho i hd => ?_, ?_⟩
  · obtain ⟨-, ⟨-, -, hflt⟩, -⟩ := ho
    exact hflt (h ▸ by decide)
  · rw [Device.rf, d.armLadder_reg o (by unfold R.flt_LADDER_STATE; omega)]
    exact hd
  · unfold Device.armLadder
    split
    next h =>
      refine .inr ⟨h, ?_⟩
      show fld ((d.setN R.flt_LADDER_STATE (1 + 65536 * d.rn (R.flt_LIMIT 0))).reg R.flt_LADDER_STATE) 0 2 = 1
      rw [Device.setN_eq, Device.reg_setReg, if_pos rfl, fld_wd (by decide)]
      omega
    next => exact .inl rfl

theorem Device.faultLog_keepsIsland (d : Device) (src code cls : Nat) (lo hi : Word) : d.KeepsIsland (d.faultLog src code cls lo hi) := by
  have hhead : OffIsland R.flt_LOG_HEAD := ⟨fun h => h.2.1.2.2 (by decide), by decide, by decide, by decide⟩
  have hover : OffIsland R.flt_LOG_OVERRUN := ⟨fun h => h.2.1.2.2 (by decide), by decide, by decide, by decide⟩
  unfold Device.faultLog
  extract_lets h full d1 d2 d3 d4
  have h2 : d.KeepsIsland d2 := Device.KeepsIsland.trans (e := d1) (.of_regs rfl) (d1.setN_keepsIsland hhead _)
  have h3 : d.KeepsIsland d3 := .ite (h2.trans (d2.count_keepsIsland hover 1)) h2
  have h4 : d.KeepsIsland d4 := h3.trans (d3.evtBit_keepsIsland rfl _)
  exact .ite (h4.trans d4.armLadder_keepsIsland) h4

theorem Device.errAs_keepsIsland (d : Device) (cls : Nat) {pg : Nat} (hpg : pg % 0x1000 = 0) (code : Nat) (lo hi : Word) :
    d.KeepsIsland (d.errAs cls pg code lo hi) := by
  have hoff : ∀ n ∈ [0x30, 0x34, 0x38, 0x3C], OffIsland (pg + n) := fun n hn => by
    simp only [List.mem_cons, List.not_mem_nil, or_false] at hn
    exact .of_header (by omega) (by omega)
  unfold Device.errAs
  extract_lets valid d1 d2
  have h1 : d.KeepsIsland d1 := .ite (.refl d) <| ((d.setN_keepsIsland (hoff 0x30 (by decide)) _).trans
    (Device.setReg_keepsIsland _ (hoff 0x38 (by decide)) _)).trans (Device.setReg_keepsIsland _ (hoff 0x3C (by decide)) _)
  have h2 : d.KeepsIsland d2 := (h1.trans (d1.count_keepsIsland (hoff 0x34 (by decide)) 1)).trans (Device.evtBit_keepsIsland _ hpg _)
  exact .ite (h2.trans (d2.faultLog_keepsIsland _ _ _ _ _)) h2

theorem Device.err_keepsIsland (d : Device) {pg : Nat} (hpg : pg % 0x1000 = 0) (code : Nat) (lo hi : Word) :
    d.KeepsIsland (d.err pg code lo hi) :=
  d.errAs_keepsIsland _ hpg _ _ _

/-! ### SEC and FLT through a device reset -/

theorem Device.setN64_keepsIsland (d : Device) {o : Nat} (h : OffIsland o) (h' : OffIsland (o + 4)) (n : Nat) : d.KeepsIsland (d.setN64 o n) :=
  (d.setN_keepsIsland h _).trans (Device.setN_keepsIsland _ h' _)

theorem Device.countStretch_keepsIsland (d : Device) : d.KeepsIsland d.countStretch := by
  unfold Device.countStretch
  extract_lets n d1
  have hoff : ∀ o ∈ [R.pow_STRETCHED_LO, R.pow_STRETCHED_LO + 4, R.pow_STRETCH_SUM_LO, R.pow_STRETCH_SUM_LO + 4], OffIsland o :=
    fun o ho => .of_page (by revert ho; revert o; decide)
  have h1 : d.KeepsIsland d1 := .ite (.refl d) <| (d.setN64_keepsIsland (hoff _ (by decide)) (hoff _ (by decide)) _).trans
    (Device.setN64_keepsIsland _ (hoff _ (by decide)) (hoff _ (by decide)) _)
  exact h1.trans (.of_regs rfl)

theorem Device.presenceSync_keepsIsland (d : Device) : d.KeepsIsland d.presenceSync := by
  have hoff : OffIsland R.iob_PRESENCE_STATUS := .of_page (by decide)
  have hset := (d.setF_keepsIsland hoff 0 1 (b2n d.devOk)).trans (Device.setF_keepsIsland _ hoff 1 1 (b2n d.faultState))
  exact .ite (hset.trans (Device.evtBit_keepsIsland _ rfl 19)) hset

theorem Device.devSync_keepsIsland (d : Device) : d.KeepsIsland d.devSync :=
  have hoff : OffIsland R.sec_DEV_STATE := ⟨fun h => h.2.2 rfl, by decide, by decide, by decide⟩
  .ite (.refl d) ((d.setN_keepsIsland hoff _).trans (Device.evtBit_keepsIsland _ rfl 16))

theorem Device.settle_keepsIsland (d : Device) (p : Nat) : d.KeepsIsland (d.settle p) :=
  .of_reg fun _ ho => d.settle_reg p (by unfold R.sch_WINDOW_DEBIT; omega)

theorem Device.egrWaitEnd_keepsIsland (d : Device) (p : Nat) : d.KeepsIsland (d.egrWaitEnd p) := by
  unfold Device.egrWaitEnd
  split
  · exact .refl d
  · exact Device.KeepsIsland.trans (e := d.setPipe p { d.pipe p with egrWant := none }) (.of_regs rfl)
      (Device.count_keepsIsland _ (.of_page (by unfold R.hbm_EGR_WAIT; omega)) _)

theorem Device.retryEnds_keepsIsland (d : Device) (k : Nat) : d.KeepsIsland (d.retryEnds k) := by
  unfold Device.retryEnds
  split
  · exact .refl d
  · refine Device.KeepsIsland.trans (.foldl (fun d p _ => ?_) d) (.of_regs rfl)
    exact (d.settle_keepsIsland p).trans (.of_regs rfl)

theorem Device.lwSettle_keepsIsland (d : Device) (k : Nat) : d.KeepsIsland (d.lwSettle k) := by
  unfold Device.lwSettle
  extract_lets x waits d1
  have h1 : d.KeepsIsland d1 := .ite (d.count_keepsIsland (.of_page (by unfold R.lwl_PEER_TX_WAIT; omega)) _) (.refl d)
  exact h1.trans (.of_regs rfl)

theorem schPage_mod (p : Nat) : schPage p % 0x1000 = 0 := by
  unfold schPage
  omega

theorem lwPage_mod (k : Nat) : lwPage k % 0x1000 = 0 := by
  unfold lwPage
  omega

theorem Device.faultOpen_keepsIsland (d : Device) (src cls : Nat) : d.KeepsIsland (d.faultOpen src cls) :=
  Device.KeepsIsland.trans (e := d.fresh.2.fresh.2.fresh.2) (.of_regs rfl) (Device.faultLog_keepsIsland _ _ _ _ _ _)

theorem Device.pipeFaultLog_keepsIsland {d : Device} (h : d.jobs = []) (p cause tile : Nat) : d.KeepsIsland (d.pipeFaultLog p cause tile) := by
  unfold Device.pipeFaultLog
  refine .ite (.refl d) (Device.KeepsIsland.trans ?_ (Device.faultOpen_keepsIsland _ _ _))
  unfold Device.pipeFaultSet
  refine .ite (.refl d) ?_
  extract_lets d1 ids oldest d2
  have h1 : d.KeepsIsland d1 :=
    (((d.settle_keepsIsland p).trans (Device.egrWaitEnd_keepsIsland _ p)).trans
      ((Device.setF_keepsIsland _ (.of_page (by unfold R.sch_PIPE_STATE; omega)) _ _ _).trans
        (Device.setN_keepsIsland _ (.of_page (by unfold R.sch_FAULT_INFO; omega)) _))).trans (Device.evtBit_keepsIsland _ (schPage_mod p) _)
  have hids : ids = [] := by
    show (d1.jobs.filter _).map _ = []
    rw [show d1.jobs = [] from ((d.settle_sparesBoot p).trans (Device.egrWaitEnd_sparesBoot _ p)).trans
      (Device.SparesBoot.trans (e := (((d.settle p).egrWaitEnd p).setF (R.sch_PIPE_STATE p) 8 1 1).setN (R.sch_FAULT_INFO p)
        (tile % 4096 + 65536 * cause)) ⟨rfl, rfl, id⟩ (Device.evtBit_speaks _ _ _).sparesBoot) |>.jobs h]
    rfl
  have h2 : d2 = d1 := by
    show ids.foldl _ d1 = d1
    rw [hids]
    rfl
  rw [h2]
  exact h1.trans (.of_regs rfl)

theorem Device.copyError_keepsIsland (d : Device) (k reason : Nat) : d.KeepsIsland (d.copyError k reason) :=
  Device.KeepsIsland.trans (e := d.modLw k fun x => { x with copy := none }) (.of_regs rfl)
    ((Device.setN_keepsIsland _ (.of_page (by unfold R.lwl_COPY_STATUS; omega)) _).trans (Device.err_keepsIsland _ (lwPage_mod k) _ _ _))

theorem Device.lwDrop_keepsIsland {d : Device} (h : d.jobs = []) (k : Nat) : d.KeepsIsland (d.lwDrop k) := by
  have hj := ((d.lwSettle_sparesBoot k).trans (Device.retryEnds_sparesBoot _ k)).jobs h
  have h1 : d.KeepsIsland ((d.lwSettle k).retryEnds k) := (d.lwSettle_keepsIsland k).trans (Device.retryEnds_keepsIsland _ k)
  unfold Device.lwDrop
  rw [Device.failPeers_none hj]
  generalize (d.lwSettle k).retryEnds k = e at h1 hj
  extract_lets d1 mine y d2 open_ x z d3 d4 d5 d6
  have h3 : d.KeepsIsland d3 := h1.trans (.of_regs rfl)
  have h4 : d.KeepsIsland d4 := h3.trans (d3.setN_keepsIsland (o := R.lwl_PORT_STATUS k) (.of_page (by unfold R.lwl_PORT_STATUS; omega)) 0)
  have h5 : d.KeepsIsland d5 ∧ d5.jobs = [] := by
    refine List.foldlRecOn _ _ (motive := fun e => d.KeepsIsland e ∧ e.jobs = []) ⟨h4, hj⟩ ?_
    rintro e ⟨he, hej⟩ c -
    split
    · exact ⟨he.trans (Device.pipeFaultLog_keepsIsland hej _ 6 0), (Device.pipeFaultLog_sparesBoot hej _ 6 0).jobs hej⟩
    · exact ⟨he, hej⟩
  have h6 : d.KeepsIsland d6 := .ite (h5.1.trans (d5.copyError_keepsIsland k 2)) h5.1
  exact .ite (h6.trans (d6.setN_keepsIsland (.of_page (by unfold R.lwl_RREG_STATUS; omega)) _)) h6

theorem Device.portsDown_keepsIsland {d : Device} (h : d.jobs = []) : d.KeepsIsland d.portsDown := by
  refine (List.foldlRecOn _ _ (motive := fun e => d.KeepsIsland e ∧ e.jobs = []) ⟨.refl d, h⟩ ?_).1
  rintro e ⟨he, hej⟩ k -
  exact ⟨he.trans (Device.lwDrop_keepsIsland hej k), (Device.lwDrop_sparesBoot hej k).jobs hej⟩

theorem Device.zeroRegs_keepsIsland (d : Device) {l : List Nat} (h : ∀ o ∈ l, OffIsland o) : d.KeepsIsland (d.zeroRegs l) := by
  induction l generalizing d with
  | nil => exact .refl d
  | cons o l ih =>
    obtain ⟨ho, hl⟩ := List.forall_mem_cons.1 h
    exact (d.setReg_keepsIsland ho _).trans (ih _ hl)

theorem Device.gateAll_keepsIsland (d : Device) : d.KeepsIsland d.gateAll := by
  unfold Device.gateAll
  extract_lets offs d1 d2
  have hoff : ∀ o ∈ offs, OffIsland o := fun o ho => .of_page (by revert ho; revert o; decide)
  have h1 : d.KeepsIsland d1 := .foldl (k := fun (d : Device) o => (d.setN o 0).setSh o 0)
    (fun d o ho => (d.setN_keepsIsland (hoff o ho) 0).trans (.of_regs rfl)) d
  have h2 : d1.KeepsIsland d2 := d1.zeroRegs_keepsIsland fun o ho => .of_page (by revert ho; revert o; decide)
  exact (h1.trans h2).trans (.of_regs rfl)

/-- Clearing registers of which none is of SEC or FLT. -/
theorem Device.clearRegs_keepsIsland (d : Device) {p : Nat → Bool}
    (h : ∀ o, o / 0x1000 = 8 ∨ o / 0x1000 = 9 ∨ o / 0x1000 = 15 → p o = false) : d.KeepsIsland (d.clearRegs p) :=
  .of_reg fun o ho => by
    unfold Device.clearRegs Device.reg
    rw [Store.get_wipe, h o ho]
    rfl

/-- SEC and FLT are blocks 4 and 8 of the directory. -/
theorem blockAt_island {o : Nat} (h : o / 0x1000 = 8 ∨ o / 0x1000 = 9 ∨ o / 0x1000 = 15) :
    blockAt o = some (4, (o - 0x8000) / 0x1000) ∨ blockAt o = some (8, (o - 0xF000) / 0x1000) := by
  simp only [blockAt, dirTable, dirFind]
  rw [if_neg (by omega), if_neg (by omega), if_neg (by omega), if_neg (by omega), if_neg (by omega)]
  obtain h | h : o < 0xA000 ∨ 0xF000 ≤ o := by omega
  · exact .inl (if_pos (by omega))
  · rw [if_neg (by omega), if_neg (by omega), if_neg (by omega), if_neg (by omega)]
    exact .inr (if_pos (by omega))

theorem Device.clearArray_keepsIsland (d : Device) : d.KeepsIsland d.clearArray := by
  unfold Device.clearArray
  extract_lets d1 d2
  have h1 : d.KeepsIsland d1 := d.clearRegs_keepsIsland fun o ho => by
    obtain h | h := blockAt_island ho
    all_goals
      rw [h]
      rfl
  have h2 : d1.KeepsIsland d2 :=
    (d1.count_keepsIsland (.of_page (by decide)) _).trans <|
      (Device.zeroRegs_keepsIsland _ fun o ho => .of_page (by revert ho; revert o; decide)).trans <|
        Device.zeroRegs_keepsIsland _ fun o ho => .of_page (by
          obtain ⟨p, -, rfl⟩ := List.mem_map.1 ho
          unfold R.obs_STAGES
          omega)
  clear_value d2
  exact (h1.trans h2).trans (.of_regs rfl)

/-- A device reset keeps SEC and FLT (Table 21.4). -/
theorem Device.startDevReset_keepsIsland (d : Device) (c : Nat) : d.KeepsIsland (d.startDevReset c) := by
  unfold Device.startDevReset
  extract_lets d1 d2 x d3
  have hmod : d.countStretch.KeepsIsland (d.countStretch.modBoot fun b => { b with devReset := some c }) := .of_regs rfl
  have hok : OffIsland R.iob_OK_REQ := .of_page (by decide)
  have h1 : d.KeepsIsland d1 := (d.countStretch_keepsIsland.trans hmod).trans
    ((Device.setN_keepsIsland _ hok 0).trans (Device.presenceSync_keepsIsland _))
  have hpow : OffIsland R.pow_POW_STATUS := .of_page (by decide)
  have h3 : d1.KeepsIsland d3 :=
    ((d1.setF_keepsIsland hpow 10 4 0).trans (Device.setF_keepsIsland _ hpow 14 4 0)).trans (.of_regs rfl)
  have h4 : d3.KeepsIsland d3.abandonAll := .of_regs rfl
  have h5 := Device.portsDown_keepsIsland (d := d3.abandonAll) rfl
  exact ((h1.trans h3).trans (h4.trans h5)).trans
    (((Device.gateAll_keepsIsland _).trans (Device.clearArray_keepsIsland _)).trans (Device.devSync_keepsIsland _))

/-! ### The power-on reset (R558, R572) -/

/-- Keeping the registers of a set returns the others to their reset values. -/
theorem Store.get_filter {α : Type} {dflt : Nat → α} (q : Nat → Bool) (m : Store α) (o : Nat) :
    Store.get dflt (m.filter fun e => q e.1) o = if q o then Store.get dflt m o else dflt o := by
  have hwipe : (m.filter fun e => q e.1) = Store.wipe (fun o => !q o) m := by
    unfold Store.wipe
    simp
  rw [hwipe, Store.get_wipe]
  cases q o <;> rfl

theorem State.powerOn_cleared (s : State) : AllCleared s s.powerOn := by
  refine ⟨rfl, fun o => ?_, rfl, rfl, rfl, rfl, rfl, rfl, rfl⟩
  show Store.get resetOf (s.dev.regs.filter fun e => decide (0x1000 ≤ e.1 ∧ e.1 < 0x2000) && e.1 != 0x100C) o = _
  rw [Store.get_filter fun o => decide (0x1000 ≤ o ∧ o < 0x2000) && o != 0x100C]
  simp only [Bool.and_eq_true, decide_eq_true_eq, bne_iff_ne, and_assoc]
  rfl

/-- A change of the boot state or of the clock before it leaves nothing more behind. -/
theorem AllCleared.congr {s s' t : State} (h : AllCleared s' t) (hr : s'.dev.regs = s.dev.regs) (hp : s'.pending = s.pending) :
    AllCleared s t := by
  obtain ⟨hharts, hreg, hhbm, hjobs, htiles, hlib, hpor, hcore, hpend⟩ := h
  refine ⟨hharts, fun o => (hreg o).trans ?_, hhbm, hjobs, htiles, hlib, hpor, hcore, hpend.trans hp⟩
  rw [show s'.dev.reg o = s.dev.reg o from congrArg (Store.get resetOf · o) hr]

/-! ### The reset of the CORE domain (R573, R577) -/

theorem Device.resetCause_reg (d : Device) (c : Nat) :
    (d.resetCause c).reg R.sec_RESET_CAUSE = wd c ∧ (d.resetCause c).reg R.sec_RESETS = satAdd (d.reg R.sec_RESETS) 1 ∧
      ∀ o, o ≠ R.sec_RESET_CAUSE → o ≠ R.sec_RESETS → (d.resetCause c).reg o = d.reg o := by
  unfold Device.resetCause
  simp only [Device.count_eq, Device.setN_eq, Device.reg_setReg]
  refine ⟨rfl, rfl, fun o h1 h2 => ?_⟩
  rw [if_neg h2, if_neg h1]

theorem OfIsland.reports {d : Device} {o : Nat} (h : OfIsland o) : d.presenceSync.devSync.reg o = d.reg o := by
  obtain ⟨-, hrep, hdev⟩ := h
  rw [Device.devSync_reg _ hrep hdev, Device.presenceSync_reg _ hrep.notMem_presence]

theorem ofIsland_resets : OfIsland R.sec_RESET_CAUSE ∧ OfIsland R.sec_RESETS := by
  unfold OfIsland OfNoReport
  decide

/-- The CORE domain reset: what is left of the device, and its cause. -/
theorem Device.coreReset_spec (d : Device) (c : Nat) :
    (d.coreReset c).boot = { d.boot with core := false, devReset := none, mile := min d.boot.mile 2, trainStart := none } ∧
      ((d.coreReset c).jobs = [] ∧ (d.coreReset c).tiles = [] ∧ (d.coreReset c).hbm = [] ∧ (d.coreReset c).pipes = [] ∧
      (d.coreReset c).hif.linkUp = false) ∧
      (d.coreReset c).reg R.sec_RESET_CAUSE = wd c ∧ (d.coreReset c).reg R.sec_RESETS = satAdd (d.reg R.sec_RESETS) 1 := by
  unfold Device.coreReset
  extract_lets d0 reset now hif pow board d1 d2 d3
  obtain ⟨hcauseOf, hresetsOf⟩ := ofIsland_resets
  have hspeaks : (d.abandonAll.modBoot fun b =>
      { b with core := false, devReset := none, mile := min b.mile 2, trainStart := none }).Speaks d0 := Device.presenceSync_speaks _
  have hd0 : d0.reg R.sec_RESETS = d.reg R.sec_RESETS := Device.presenceSync_reg _ hresetsOf.2.1.notMem_presence
  have hd1 : d1.reg R.sec_RESETS = d0.reg R.sec_RESETS :=
    (Store.get_filter (fun o => sysKeeps o || (o == R.thm_TRIP_STATUS && d0.tripped)) d0.regs R.sec_RESETS).trans (if_pos (by rfl))
  let e := (d3.setF R.sec_BOOT_STATUS 2 1 0).setN R.iob_OK_REQ 0
  have he : e.reg R.sec_RESETS = d1.reg R.sec_RESETS := by
    simp only [e, d3, d2, Device.setF_eq, Device.setN_eq]
    iterate 6 rw [Device.reg_setReg, if_neg (by decide)]
  have hout : d1.Speaks (e.resetCause c).presenceSync.devSync :=
    (Device.Speaks.trans (e := e.resetCause c) rfl (Device.presenceSync_speaks _)).trans (Device.devSync_speaks _)
  obtain ⟨hcause, hresets, -⟩ := e.resetCause_reg c
  refine ⟨(congrArg Device.boot hout :).trans (congrArg Device.boot hspeaks :), ⟨(congrArg Device.jobs hout :), hout.tiles_eq, hout.hbm_eq,
    hout.pipes_eq, (congrArg (fun d : Device => d.hif.linkUp) hout :)⟩, ?_, ?_⟩
  · exact hcauseOf.reports.trans hcause
  · rw [hresetsOf.reports, hresets, he, hd1, hd0]

theorem State.coreReset_held {s : State} {x : Device} (hm : x.boot.mile = s.dev.boot.mile) (hr : x.regs = s.dev.regs) (c : Nat) :
    CoreHeld s c (({ s with dev := x } : State).coreReset c) := by
  obtain ⟨hboot, ⟨hjobs, htiles, hhbm, hpipes, hlink⟩, hcause, hresets⟩ := x.coreReset_spec c
  refine ⟨(congrArg Boot.core hboot :), ?_, rfl, ?_, fun h hh => ?_, hcause, ?_, hjobs, htiles, hhbm, hpipes, hlink, rfl⟩
  · exact (congrArg Boot.mile hboot :).trans (congrArg (min · 2) hm)
  · exact Store.get_wipe (fun h => decide (0 < h)) s.harts.all 0
  · exact (Store.get_wipe (fun h => decide (0 < h)) s.harts.all h).trans (if_pos (decide_eq_true hh))
  · rw [← show x.reg R.sec_RESETS = s.dev.reg R.sec_RESETS from congrArg (Store.get resetOf · R.sec_RESETS) hr]
    exact hresets

/-! ### Milestones (R560) -/

/-- The milestone once its conditions have been looked at. -/
def Device.milestone (d : Device) : Nat :=
  let linked := (d.hif.linkUp && d.cfgReady) || d.rf R.sec_READY 1 1 == 1
  let m := if d.boot.core ∧ d.boot.mile = 2 ∧ linked then 3 else d.boot.mile
  if d.boot.core ∧ m = 3 ∧ d.rf R.sec_HBM_TRAIN 0 2 = 3 then 4 else m

/-- The device at milestone m. -/
def Device.atMile (d : Device) (m : Nat) : Device := d.modBoot fun b => { b with mile := m }

theorem Device.advance_eq (d : Device) : d.advance = (d.atMile d.milestone).devSync := by
  unfold Device.advance
  extract_lets linked d1 d2
  have h1 : d1 = d.atMile (if d.boot.core ∧ d.boot.mile = 2 ∧ linked then 3 else d.boot.mile) :=
    (apply_ite d.atMile _ 3 d.boot.mile).symm
  have h2 : d2 = d.atMile d.milestone := by
    show (if _ then _ else _) = _
    rw [h1]
    exact (apply_ite d.atMile _ 4 _).symm
  rw [h2]

theorem Device.advance_boot (d : Device) : d.advance.boot = { d.boot with mile := d.milestone } := by
  rw [Device.advance_eq]
  exact (Device.devSync_speaks _).sparesBoot.boot

theorem Device.advance_hbm (d : Device) : d.advance.hbm = d.hbm := by
  rw [Device.advance_eq]
  exact (Device.devSync_speaks _).sparesBoot.hbm

theorem Device.advance_hif (d : Device) : d.advance.hif.linkUp = d.hif.linkUp := by
  rw [Device.advance_eq]
  exact (congrArg (fun d : Device => d.hif.linkUp) (Device.devSync_speaks _) :)

theorem Device.advance_now (d : Device) : d.advance.now = d.now := by
  rw [Device.advance_eq]
  exact (congrArg Device.now (Device.devSync_speaks _) :)

theorem Device.advance_reg (d : Device) {o : Nat} (ho : OfNoReport o) (hdev : o ≠ R.sec_DEV_STATE) :
    d.advance.reg o = d.reg o := by
  rw [Device.advance_eq]
  exact Device.devSync_reg _ ho hdev

theorem Device.advance_keepsIsland (d : Device) : d.KeepsIsland d.advance := by
  rw [Device.advance_eq]
  exact Device.KeepsIsland.trans (e := d.atMile d.milestone) (.of_regs rfl) (Device.devSync_keepsIsland _)

/-! ### The clauses of the resets -/

section
variable {s : State} {k : Nat}

theorem completes_powerOnReset (a b : Bool) : Completes (.powerOnReset a b k) s fun t =>
    if a && b then t.dev = s.dev.at k ∧ KeepsHarts s t else AllCleared s t ∧ t.dev.boot.vaon = a ∧ t.dev.boot.vaux = b := by
  cases hab : a && b with
  | true =>
    refine ⟨{ s with dev := s.dev.at k }, ?_, rfl, rfl, rfl⟩
    show Host.Outcome.next (powerOnReset a b k s) = _
    unfold powerOnReset
    rw [if_pos hab]
    rfl
  | false =>
    refine ⟨({ s with dev := (s.dev.at k).modBoot fun x => { x with vaon := a, vaux := b } } : State).powerOn, ?_,
      (State.powerOn_cleared _).congr rfl rfl, rfl, rfl⟩
    show Host.Outcome.next (powerOnReset a b k s) = _
    unfold powerOnReset
    rw [if_neg (by rw [hab]; decide)]
    rfl

theorem completes_refclkLoss : Completes (.refclkLoss k) s fun t => AllCleared s t ∧ t.dev.boot.refclk = false :=
  ⟨_, rfl, (State.powerOn_cleared _).congr rfl rfl, rfl⟩

/-- AON_START of a device in power-on reset. -/
theorem aonStart_starts {d : Device} (host i3c : Bool) (x : Fin 4) (h : d.boot.por = true) :
    (aonStart host i3c x k d).boot.por = false ∧ (aonStart host i3c x k d).boot.mile = 1 ∧
      (aonStart host i3c x k d).boot.rom = (if host then .waitLink else .slotA) ∧
      (aonStart host i3c x k d).rf R.sec_BOOT_STATUS 16 1 = (if host then 1 else 0) ∧
      (aonStart host i3c x k d).rf R.iob_SB_STATUS 0 1 = (if i3c then 1 else 0) ∧
      (aonStart host i3c x k d).rf R.iob_SB_STATUS 16 7 = 0x64 + x.val ∧
      ∀ o, o ∉ [R.sec_BOOT_STATUS, R.iob_SB_STATUS, R.iob_PRESENCE_STATUS, 0x2000000 + 0x20, R.hif_MSIX_DROPPED] →
        (aonStart host i3c x k d).reg o = d.reg o := by
  let e := (((d.at k).modBoot fun b => { b with por := false, vaon := true, vaux := true, refclk := true, mile := 1, rom := if host then .waitLink else .slotA })
    |>.setF R.sec_BOOT_STATUS 16 1 (b2n host)).setF R.iob_SB_STATUS 0 1 (b2n i3c)
  have heq : aonStart host i3c x k d = (e.setF R.iob_SB_STATUS 16 7 (0x64 + x.val)).presenceSync := by
    unfold aonStart
    dsimp only
    rw [if_neg (by rw [show (d.at k).boot.por = true from h]; decide)]
  have hspeaks := Device.presenceSync_speaks (e.setF R.iob_SB_STATUS 16 7 (0x64 + x.val))
  have hreg := fun o ho => Device.presenceSync_reg (e.setF R.iob_SB_STATUS 16 7 (0x64 + x.val)) (o := o) ho
  rw [heq]
  refine ⟨(congrArg (fun d : Device => d.boot.por) hspeaks :), (congrArg (fun d : Device => d.boot.mile) hspeaks :),
    (congrArg (fun d : Device => d.boot.rom) hspeaks :), ?_, ?_, ?_, ?_⟩
  · rw [Device.rf, hreg _ (by decide)]
    simp only [e, Device.setF_eq]
    rw [Device.reg_setReg, if_neg (by decide), Device.reg_setReg, if_neg (by decide), Device.reg_setReg, if_pos rfl, fld_setFld _ _ (by decide)]
    cases host <;> rfl
  · rw [Device.rf, hreg _ (by decide)]
    simp only [e, Device.setF_eq]
    rw [Device.reg_setReg, if_pos rfl, fld_setFld_beside _ _ (by decide) (by decide), Device.reg_setReg, if_pos rfl, fld_setFld _ _ (by decide)]
    cases i3c <;> rfl
  · rw [Device.rf, hreg _ (by decide)]
    simp only [Device.setF_eq]
    rw [Device.reg_setReg, if_pos rfl, fld_setFld _ _ (by decide)]
    omega
  · intro o ho
    simp only [List.mem_cons, List.not_mem_nil, or_false, not_or] at ho
    obtain ⟨hboot, hsb, hpres⟩ := ho
    rw [hreg o (by simpa only [List.mem_cons, List.not_mem_nil, or_false, not_or] using hpres)]
    simp only [e, Device.setF_eq]
    rw [Device.reg_setReg, if_neg hsb, Device.reg_setReg, if_neg hsb, Device.reg_setReg, if_neg hboot]
    rfl
theorem completes_aonStart (host i3c : Bool) (x : Fin 4) :
    (s.dev.boot.por = true → Completes (.aonStart host i3c x k) s fun t => t.dev.boot.por = false ∧ t.dev.boot.mile = 1 ∧
      t.dev.boot.rom = (if host then .waitLink else .slotA) ∧ t.dev.rf R.sec_BOOT_STATUS 16 1 = (if host then 1 else 0) ∧
      t.dev.rf R.iob_SB_STATUS 0 1 = (if i3c then 1 else 0) ∧ t.dev.rf R.iob_SB_STATUS 16 7 = 0x64 + x.val ∧
      KeepsRegs s t [R.sec_BOOT_STATUS, R.iob_SB_STATUS, R.iob_PRESENCE_STATUS, 0x2000000 + 0x20, R.hif_MSIX_DROPPED] ∧ KeepsHarts s t) ∧
    (s.dev.boot.por = false → Completes (.aonStart host i3c x k) s fun t => t.dev = s.dev.at k ∧ KeepsHarts s t) := by
  refine ⟨fun h => ?_, fun h => completes_dev rfl ?_ ⟨rfl, rfl, rfl⟩⟩
  · obtain ⟨hpor, hmile, hrom, hboot, hsb, haddr, hreg⟩ := aonStart_starts (k := k) host i3c x h
    exact completes_dev rfl rfl ⟨hpor, hmile, hrom, hboot, hsb, haddr, hreg, rfl, rfl⟩
  · unfold aonStart
    exact if_pos (by rw [show (s.dev.at k).boot.por = false from h]; rfl)

theorem State.hartReady_dev (s : State) (h : Nat) : (s.hartReady h).dev = s.dev ∧ (s.hartReady h).pending = s.pending ∧
    (s.hartReady h).harts.sp = s.harts.sp := by
  unfold State.hartReady
  split <;> exact ⟨rfl, rfl, rfl⟩

theorem State.hart_hartReady (s : State) (h j : Nat) :
    (s.hartReady h).hart j = if j = h ∧ (s.hart j).st = .off then { hart0 j with st := .idle } else s.hart j := by
  unfold State.hartReady
  by_cases hoff : (s.hart h).st = .off
  · rw [if_pos hoff, State.hart_setHart]
    by_cases hj : j = h
    · subst hj
      rw [if_pos rfl, if_pos ⟨rfl, hoff⟩]
    · rw [if_neg hj, if_neg fun hand => hj hand.1]
  · rw [if_neg hoff, if_neg]
    rintro ⟨rfl, h⟩
    exact hoff h

/-- The device as CORE leaves reset, before its milestones are looked at. -/
def Device.coreReleased (d : Device) : Device :=
  let d1 := d.modBoot fun b => { b with core := true, step3 := true, sysN := true, trainStart := some d.now.tick }
  { d1 with
    now := { d1.now with cyc := 0 }
    scrub := { d1.scrub with passTick := d1.now.tick } }

theorem completes_coreResetRelease (hpor : s.dev.boot.por = false) (hcore : s.dev.boot.core = false) :
    Completes (.coreResetRelease k) s fun t => t.dev.boot.core = true ∧ t.dev.boot.sysN = true ∧
      t.dev.boot.step3 = true ∧ t.dev.now.cyc = 0 ∧ t.dev.boot.trainStart = some (s.dev.at k).now.tick ∧ t.harts.sp = s.harts.sp ∧ t.hart 0 = s.hart 0 ∧
      (∀ h, 1 ≤ h → h ≤ 3 → t.hart h = if (s.hart h).st = .off then { hart0 h with st := .idle } else s.hart h) ∧ t.pending = s.pending := by
  let d := (s.dev.at k).coreReleased.presenceSync
  let s1 : State := { s with dev := d.advance }
  have hrun : exec (.coreResetRelease k) s = .next (((s1.hartReady 1).hartReady 2).hartReady 3) := by
    show Host.Outcome.next (coreResetRelease k s) = _
    unfold coreResetRelease
    dsimp only
    rw [if_neg (by rw [show (s.onDevice (·.at k)).dev.boot.por = false from hpor, show (s.onDevice (·.at k)).dev.boot.core = false from hcore]; decide)]
    rfl
  have hsync := Device.presenceSync_speaks (s.dev.at k).coreReleased
  have hboot : d.boot = (s.dev.at k).coreReleased.boot := hsync.sparesBoot.boot
  have hnow : d.now = (s.dev.at k).coreReleased.now := (congrArg Device.now hsync :)
  obtain ⟨hd1, hp1, hs1⟩ := s1.hartReady_dev 1
  obtain ⟨hd2, hp2, hs2⟩ := (s1.hartReady 1).hartReady_dev 2
  obtain ⟨hd3, hp3, hs3⟩ := ((s1.hartReady 1).hartReady 2).hartReady_dev 3
  have hdev := hd3.trans (hd2.trans hd1)
  have hhart : ∀ j, (((s1.hartReady 1).hartReady 2).hartReady 3).hart j =
      if (1 ≤ j ∧ j ≤ 3) ∧ (s.hart j).st = .off then { hart0 j with st := .idle } else s.hart j := fun j => by
    rw [State.hart_hartReady, State.hart_hartReady, State.hart_hartReady]
    rw [show s1.hart j = s.hart j from rfl]
    by_cases hoff : (s.hart j).st = .off
    · obtain rfl | rfl | rfl | hj : j = 1 ∨ j = 2 ∨ j = 3 ∨ ¬ (1 ≤ j ∧ j ≤ 3) := by omega
      · simp [hoff]
      · simp [hoff]
      · simp [hoff]
      · rw [if_neg (by omega), if_neg (by omega), if_neg (by omega), if_neg (by omega)]
    · simp [hoff]
  refine ⟨_, hrun, ?_, ?_, ?_, ?_, ?_, hs3.trans (hs2.trans hs1), ?_, fun h h1 h3 => ?_, hp3.trans (hp2.trans hp1)⟩
  · rw [hdev, d.advance_boot, hboot]
    rfl
  · rw [hdev, d.advance_boot, hboot]
    rfl
  · rw [hdev, d.advance_boot, hboot]
    rfl
  · rw [hdev, d.advance_now, hnow]
    rfl
  · rw [hdev, d.advance_boot, hboot]
    rfl
  · rw [hhart, if_neg (by omega)]
  · rw [hhart]
    exact if_congr (and_iff_right ⟨h1, h3⟩) rfl rfl

theorem coreResetRelease_idle (hcore : s.dev.boot.core = true) : Completes (.coreResetRelease k) s fun t => t.dev = s.dev.at k ∧ KeepsHarts s t := by
  refine ⟨s.onDevice (·.at k), ?_, rfl, rfl, rfl⟩
  show Host.Outcome.next (coreResetRelease k s) = _
  unfold coreResetRelease
  exact congrArg _ (if_pos (by rw [show (s.onDevice (·.at k)).dev.boot.core = true from hcore, Bool.or_true]))

theorem completes_brownOut (hpor : s.dev.boot.por = false) (h : s.dev.boot.step3 = true) :
    Completes (.brownOut k) s fun t => CoreHeld s 6 t ∧ t.dev.boot.step3 = false := by
  let x := (s.dev.at k).modBoot fun b => { b with step3 := false }
  have hheld : CoreHeld s 6 (({ s with dev := x } : State).coreReset 6) := State.coreReset_held (x := x) rfl rfl 6
  refine ⟨({ s with dev := x } : State).coreReset 6, ?_, hheld, (congrArg Boot.step3 (x.coreReset_spec 6).1 :)⟩
  show Host.Outcome.next (brownOut k s) = _
  unfold brownOut
  exact congrArg _ (if_neg (by
    rw [show (s.onDevice (·.at k)).dev.boot.por = false from hpor, show (s.onDevice (·.at k)).dev.boot.step3 = true from h]
    decide))

theorem completes_sysResetN (hpor : s.dev.boot.por = false) (h : s.dev.boot.sysN = true) :
    Completes (.sysResetN k) s fun t => CoreHeld s 1 t ∧ t.dev.boot.sysN = false := by
  let x := (s.dev.at k).modBoot fun b => { b with sysN := false }
  have hheld : CoreHeld s 1 (({ s with dev := x } : State).coreReset 1) := State.coreReset_held (x := x) rfl rfl 1
  refine ⟨({ s with dev := x } : State).coreReset 1, ?_, hheld, (congrArg Boot.sysN (x.coreReset_spec 1).1 :)⟩
  show Host.Outcome.next (sysResetN k s) = _
  unfold sysResetN
  exact congrArg _ (if_neg (by
    rw [show (s.onDevice (·.at k)).dev.boot.por = false from hpor, show (s.onDevice (·.at k)).dev.boot.sysN = true from h]
    decide))

theorem sysResetN_low (h : s.dev.boot.sysN = false) : Completes (.sysResetN k) s fun t => t.dev = s.dev.at k ∧ KeepsHarts s t := by
  refine ⟨s.onDevice (·.at k), ?_, rfl, rfl, rfl⟩
  show Host.Outcome.next (sysResetN k s) = _
  unfold sysResetN
  exact congrArg _ (if_pos (by rw [show (s.onDevice (·.at k)).dev.boot.sysN = false from h, Bool.not_false, Bool.or_true]))

end

section
variable {s : State} {q : Req}

theorem devReset_eq (h : Writes s q R.sec_DEV_RESET = true) : devReset q s.dev =
    if portCode q.port ≠ 0 ∧ portCode q.port ≠ 7 then (s.dev.at q.t).errAccess 0x0001 q.port R.sec_DEV_RESET true
    else if fld q.data 0 1 = 1 then (s.dev.at q.t).requestDevReset (if portCode q.port = 0 then 3 else 4) else s.dev.at q.t := by
  unfold devReset
  rw [Device.writeAt_of_writes h]

/-- A device reset that nothing absorbs. -/
theorem Device.requestDevReset_starts {d : Device} (hnone : d.boot.devReset = none) (hcore : d.boot.core = true) (c : Nat) :
    d.requestDevReset c = d.startDevReset c := by
  unfold Device.requestDevReset
  rw [if_neg (by rw [hnone, hcore]; decide)]

/-- A device reset that one in progress absorbs. -/
theorem Device.requestDevReset_absorbed {d : Device} (h : d.boot.devReset ≠ none) (c : Nat) : d.requestDevReset c = d := by
  unfold Device.requestDevReset
  rw [if_pos (by rw [Option.isSome_iff_ne_none.2 h]; rfl)]

theorem Device.startDevReset_stops (d : Device) (c : Nat) : (d.startDevReset c).arrayRuns = false := by
  unfold Device.arrayRuns
  rw [show (d.startDevReset c).boot.devReset = some c from congrArg Boot.devReset (d.startDevReset_spec c).1]
  simp

theorem devReset_starts {a c : Nat} (h : Writes s q R.sec_DEV_RESET = true) (hc : (a, c) ∈ [(0, 3), (7, 4)]) (hport : portCode q.port = a)
    (hgo : fld q.data 0 1 = 1) (hnone : s.dev.boot.devReset = none) (hcore : s.dev.boot.core = true) :
    devReset q s.dev = (s.dev.at q.t).startDevReset c := by
  have hstarts := fun c => Device.requestDevReset_starts (d := s.dev.at q.t) hnone hcore c
  rw [devReset_eq h, if_pos hgo, hstarts]
  simp only [List.mem_cons, Prod.mk.injEq, List.not_mem_nil, or_false] at hc
  obtain ⟨rfl, rfl⟩ | ⟨rfl, rfl⟩ := hc
  · rw [if_neg (by omega), if_pos hport]
  · rw [if_neg (by omega), if_neg (by omega)]

theorem completes_devReset {a c : Nat} (h : Writes s q R.sec_DEV_RESET = true) (hc : (a, c) ∈ [(0, 3), (7, 4)]) (hport : portCode q.port = a)
    (hgo : fld q.data 0 1 = 1) (hnone : s.dev.boot.devReset = none) (hcore : s.dev.boot.core = true) :
    Completes (.devReset q) s fun t => t.dev.boot.devReset = some c ∧ t.dev.jobs = [] ∧ t.dev.tiles = [] ∧ t.dev.pipes = [] ∧ t.dev.hbm = s.dev.hbm ∧
      t.dev.arrayRuns = false ∧ KeepsHarts s t := by
  obtain ⟨hboot, hhbm, hjobs, htiles, hpipes⟩ := (s.dev.at q.t).startDevReset_spec c
  have hreset : ((s.dev.at q.t).startDevReset c).boot.devReset = some c := (congrArg Boot.devReset hboot :)
  have hstops := (s.dev.at q.t).startDevReset_stops c
  have hstarts := devReset_starts h hc hport hgo hnone hcore
  generalize (s.dev.at q.t).startDevReset c = e at *
  exact completes_dev rfl hstarts ⟨hreset, hjobs, htiles, hpipes, hhbm, hstops, rfl, rfl⟩

theorem devReset_absorbed (h : Writes s q R.sec_DEV_RESET = true) (hport : portCode q.port = 0)
    (hno : s.dev.boot.devReset ≠ none ∨ fld q.data 0 1 = 0) : devReset q s.dev = s.dev.at q.t := by
  rw [devReset_eq h, if_neg (by omega)]
  split
  next hgo =>
    have hbusy : (s.dev.at q.t).boot.devReset ≠ none := hno.resolve_right (by omega)
    rw [Device.requestDevReset_absorbed hbusy]
  next => rfl

theorem devReset_refused (h : Writes s q R.sec_DEV_RESET = true) (h0 : portCode q.port ≠ 0) (h7 : portCode q.port ≠ 7) :
    devReset q s.dev = (s.dev.at q.t).err 0x8000 0x0001 (accessInfo q.port R.sec_DEV_RESET true) (wd (portTenant q.port)) := by
  rw [devReset_eq h, if_pos ⟨h0, h7⟩]
  unfold Device.errAccess
  rw [show errPage R.sec_DEV_RESET = 0x8000 from by decide]

end

/-- DEV_FAULT, RESET_CAUSE and RESETS stand in SEC and FLT. -/
theorem ofIsland_devFault : OfIsland R.flt_DEV_FAULT := by
  unfold OfIsland OfNoReport
  decide

theorem Device.lwTrain_spares (d : Device) (k : Nat) : d.SparesBoot (d.lwTrain k) ∧ d.KeepsIsland (d.lwTrain k) := by
  have hoff : OffIsland (R.lwl_PORT_STATUS k) := .of_page (by unfold R.lwl_PORT_STATUS; omega)
  unfold Device.lwTrain
  split
  · have hmod : d.KeepsIsland (d.modLw k fun x => { x with since := d.now.tick, half := false, ofs := none }) := .of_regs rfl
    exact ⟨⟨rfl, rfl, id⟩, hmod.trans (Device.setN_keepsIsland _ hoff 1)⟩
  · exact ⟨⟨rfl, rfl, id⟩, d.setN_keepsIsland hoff 0⟩

/-- The device at the end of a reset, before its ports train. -/
def Device.resetReleased (d : Device) (c : Nat) : Device :=
  let d1 := (((d.modBoot fun b => { b with devReset := none }).resetCause c).setF R.flt_DEV_FAULT 0 1 0).evtBit 0x8000 17
  { d1 with scrub := { d1.scrub with passTick := d1.now.tick } }

theorem Device.resetReleased_spec (d : Device) (c : Nat) : (d.resetReleased c).boot = { d.boot with devReset := none } ∧
    (d.resetReleased c).reg R.sec_RESET_CAUSE = wd c ∧ (d.resetReleased c).reg R.sec_RESETS = satAdd (d.reg R.sec_RESETS) 1 ∧
    (d.resetReleased c).rf R.flt_DEV_FAULT 0 1 = 0 ∧ (d.resetReleased c).rf (0x8000 + 0x20) 17 1 = 1 := by
  let e := (((d.modBoot fun b => { b with devReset := none }).resetCause c).setF R.flt_DEV_FAULT 0 1 0)
  have hreg : ∀ o, (d.resetReleased c).reg o = (e.evtBit 0x8000 17).reg o := fun o => rfl
  obtain ⟨hcause, hresets, hother⟩ := (d.modBoot fun b => { b with devReset := none }).resetCause_reg c
  refine ⟨(congrArg Device.boot (e.evtBit_speaks 0x8000 17) :), ?_, ?_, ?_, ?_⟩
  · rw [hreg, Device.evtBit_reg _ _ _ _ (by decide), if_neg (by decide)]
    exact (Device.reg_setReg _ _ _ _).trans ((if_neg (by decide)).trans hcause)
  · rw [hreg, Device.evtBit_reg _ _ _ _ (by decide), if_neg (by decide)]
    exact (Device.reg_setReg _ _ _ _).trans ((if_neg (by decide)).trans hresets)
  · rw [Device.rf, hreg, Device.evtBit_reg _ _ _ _ (by decide), if_neg (by decide)]
    rw [show e.reg R.flt_DEV_FAULT = _ from (Device.reg_setReg _ _ _ _).trans (if_pos rfl)]
    exact fld_setFld _ _ (by decide)
  · rw [Device.rf, hreg, Device.evtBit_reg _ _ _ _ (by decide), if_pos rfl]
    exact fld_or_bit _ (by decide)

theorem completes_deviceResetDone {s : State} {k c : Nat} (h : s.dev.boot.devReset = some c) :
    Completes (.deviceResetDone k) s fun t => t.dev.boot.devReset = none ∧
      t.dev.reg R.sec_RESET_CAUSE = wd c ∧ t.dev.reg R.sec_RESETS = satAdd (s.dev.reg R.sec_RESETS) 1 ∧ t.dev.rf R.flt_DEV_FAULT 0 1 = 0 ∧
      t.dev.rf (0x8000 + 0x20) 17 1 = 1 ∧ KeepsHarts s t := by
  let e := (s.dev.at k).resetReleased c
  let f := (List.range 4).foldl (fun d k => Device.lwTrain d k) e
  have heq : deviceResetDone k s.dev = f.presenceSync.advance := by
    unfold deviceResetDone
    dsimp only
    rw [show (s.dev.at k).boot.devReset = some c from h]
    rfl
  obtain ⟨hboot, hcause, hresets, hfault, hraw⟩ := (s.dev.at k).resetReleased_spec c
  have hspares : e.SparesBoot f.presenceSync :=
    (Device.SparesBoot.foldl (fun d k => (d.lwTrain_spares k).1) _ e).trans (Device.presenceSync_speaks f).sparesBoot
  have hkeeps : e.KeepsIsland f.presenceSync.advance :=
    ((Device.KeepsIsland.foldl (k := fun d k => Device.lwTrain d k) (l := List.range 4) (fun d k _ => (d.lwTrain_spares k).2) e).trans f.presenceSync_keepsIsland).trans
      (Device.advance_keepsIsland _)
  refine completes_dev rfl heq ⟨?_, (hkeeps.reg _ ofIsland_resets.1).trans hcause, (hkeeps.reg _ ofIsland_resets.2).trans hresets, ?_,
    hkeeps.raw _ (.inl rfl) 17 hraw, rfl, rfl⟩
  · show f.presenceSync.advance.boot.devReset = none
    rw [Device.advance_boot, hspares.boot, hboot]
  · show fld (f.presenceSync.advance.reg R.flt_DEV_FAULT) 0 1 = 0
    rw [hkeeps.reg _ ofIsland_devFault]
    exact hfault

/-- Settles O52: each reset's command on the parts it clears; the Linwald ports, the array and the presence signals touch neither the boot state
nor SEC and FLT (`SparesBoot`, `KeepsIsland`). It rests on log entries 120, 122 and 151. -/
theorem resetsClearWhatTheyReach : Obligations.ResetsClearWhatTheyReach := by
  unfold Obligations.ResetsClearWhatTheyReach
  refine ⟨fun s a b k => completes_powerOnReset a b, fun s k => completes_refclkLoss, fun s host i3c x k => completes_aonStart host i3c x,
    fun s k => ⟨completes_coreResetRelease, coreResetRelease_idle⟩, fun s k hpor => ⟨completes_brownOut hpor, completes_sysResetN hpor, sysResetN_low⟩,
    fun s q hw => ⟨fun c hc hport hgo hnone hcore => completes_devReset hw hc hport hgo hnone hcore, fun hport hno => ?_, fun h0 h7 => ?_⟩,
    fun s k c => completes_deviceResetDone⟩
  · exact completes_dev rfl (devReset_absorbed hw hport hno) ⟨rfl, rfl, ⟨rfl, rfl, rfl⟩, fun _ _ => rfl⟩
  · have hcount := (s.dev.at q.t).err_count 0x8000 0x0001 (accessInfo q.port R.sec_DEV_RESET true) (wd (portTenant q.port)) (by decide)
    exact completes_dev rfl (devReset_refused hw h0 h7) ⟨((s.dev.at q.t).err_speaks _ _ _ _).sparesBoot.boot, hcount, rfl, rfl⟩

end Sys2Proof.Machine
end

section
/-! PROOFS. PERST_N, the link, CFG_READY, NO_HOST and HBM training (R560, R569 to R571, R575); O53. -/
namespace Sys2Proof.Machine

/-! ### CFG_READY -/

/-- SEC BOOT_STATUS, READY and HBM_TRAIN are registers that no report touches. -/
theorem ofIsland_boot : OfIsland R.sec_BOOT_STATUS ∧ OfIsland R.sec_READY ∧ OfIsland R.sec_HBM_TRAIN := by
  unfold OfIsland OfNoReport
  decide

theorem OfIsland.advance_reg {d : Device} {o : Nat} (h : OfIsland o) : d.advance.reg o = d.reg o := d.advance_reg h.2.1 h.2.2

theorem Device.setCfgReady_reg (d : Device) (v : Nat) {o : Nat} (h : o ≠ R.sec_BOOT_STATUS) (h' : o ≠ R.sec_READY) :
    (d.setCfgReady v).reg o = d.reg o := by
  unfold Device.setCfgReady
  rw [Device.setF_eq, Device.reg_setReg, if_neg h', Device.setF_eq, Device.reg_setReg, if_neg h]

theorem Device.setCfgReady_fields (d : Device) (v : Nat) : (d.setCfgReady v).rf R.sec_BOOT_STATUS 2 1 = v % 2 ∧
    (d.setCfgReady v).rf R.sec_READY 0 1 = v % 2 ∧ (d.setCfgReady v).rf R.sec_READY 1 1 = d.rf R.sec_READY 1 1 := by
  have hboot : (d.setCfgReady v).reg R.sec_BOOT_STATUS = setFld (d.reg R.sec_BOOT_STATUS) 2 1 v := by
    unfold Device.setCfgReady
    rw [Device.setF_eq, Device.reg_setReg, if_neg (by decide), Device.setF_eq, Device.reg_setReg, if_pos rfl]
  have hready : (d.setCfgReady v).reg R.sec_READY = setFld (d.reg R.sec_READY) 0 1 v := by
    unfold Device.setCfgReady
    rw [Device.setF_eq, Device.reg_setReg, if_pos rfl, Device.setF_eq, Device.reg_setReg, if_neg (by decide)]
  refine ⟨?_, ?_, ?_⟩
  · rw [Device.rf, hboot, fld_setFld _ _ (by decide), pow_one]
  · rw [Device.rf, hready, fld_setFld _ _ (by decide), pow_one]
  · rw [Device.rf, hready, fld_setFld_beside _ _ (by decide) (by decide), Device.rf]

/-- With CFG_READY 1 and its milestones looked at. -/
theorem Device.cfgReady_advance (d : Device) : (d.setCfgReady 1).advance.rf R.sec_BOOT_STATUS 2 1 = 1 ∧
    (d.setCfgReady 1).advance.rf R.sec_READY 0 1 = 1 := by
  obtain ⟨hstatus, hready, -⟩ := ofIsland_boot
  obtain ⟨hboot, hcfg, -⟩ := d.setCfgReady_fields 1
  refine ⟨?_, ?_⟩
  · rw [Device.rf, hstatus.advance_reg]
    exact hboot
  · rw [Device.rf, hready.advance_reg]
    exact hcfg

/-- PRIMED with the link up and CFG_READY set, or with NO_HOST set, becomes LINKED. -/
theorem Device.linked_milestone {d : Device} (hcore : d.boot.core = true) (hmile : d.boot.mile = 2)
    (h : d.hif.linkUp = true ∧ d.rf R.sec_BOOT_STATUS 2 1 = 1 ∨ d.rf R.sec_READY 1 1 = 1) : 3 ≤ d.advance.boot.mile := by
  have hlinked : ((d.hif.linkUp && d.cfgReady) || d.rf R.sec_READY 1 1 == 1) = true := by
    obtain ⟨hl, hc⟩ | hn := h
    · rw [hl, show d.cfgReady = true from decide_eq_true hc]
      rfl
    · rw [hn, beq_self_eq_true, Bool.or_true]
  rw [d.advance_boot]
  show 3 ≤ d.milestone
  unfold Device.milestone
  dsimp only
  rw [if_pos (c := d.boot.core = true ∧ d.boot.mile = 2 ∧ _) ⟨hcore, hmile, hlinked⟩]
  split <;> omega

/-- LINKED with both stacks trained becomes TRAINED. -/
theorem Device.trained_milestone {d : Device} (hcore : d.boot.core = true) (hmile : d.boot.mile = 3) (h : d.rf R.sec_HBM_TRAIN 0 2 = 3) :
    d.advance.boot.mile = 4 := by
  rw [d.advance_boot]
  show d.milestone = 4
  unfold Device.milestone
  dsimp only
  rw [hmile, ite_self, if_pos ⟨hcore, rfl, h⟩]

/-- A change of the device state touches DEV_STATE, EVT_RAW of SEC and MSIX_DROPPED alone. -/
theorem Device.devSync_reg_ne (d : Device) {o : Nat} (h : o ∉ [R.sec_DEV_STATE, 0x8000 + 0x20, R.hif_MSIX_DROPPED]) :
    d.devSync.reg o = d.reg o := by
  simp only [List.mem_cons, List.not_mem_nil, or_false, not_or] at h
  obtain ⟨hdev, hraw, hmsix⟩ := h
  unfold Device.devSync
  split
  · rfl
  · rw [Device.evtBit_reg _ _ _ _ hmsix, if_neg hraw, Device.setN_eq, Device.reg_setReg, if_neg hdev]

/-! ### PERST_N (R569, R575) -/

section
variable {s : State} {k : Nat}

/-- PERST_N's reset: the link is down, the milestone at most PRIMED, the TEN pages at reset, CFG_READY 0. -/
theorem Device.perstReset_spec (d : Device) : d.perstReset.boot = { d.boot with devReset := some 2, mile := min d.boot.mile 2 } ∧
    d.perstReset.hif.linkUp = false ∧ d.perstReset.jobs = [] ∧
    (∀ o, 0x400000 ≤ o → o < 0x800000 → o % 0x1000 ≠ 0xC → d.perstReset.reg o = resetOf o) ∧
    d.perstReset.rf R.sec_BOOT_STATUS 2 1 = 0 ∧ d.perstReset.rf R.sec_READY 0 1 = 0 := by
  obtain ⟨hstatus, hready, -⟩ := ofIsland_boot
  obtain ⟨hboot, -, hjobs, -, -⟩ := d.startDevReset_spec 2
  unfold Device.perstReset
  generalize d.startDevReset 2 = r at *
  extract_lets d1 d2
  let d3 := d2.modBoot fun b => { b with mile := min b.mile 2 }
  have hspeaks := d3.devSync_speaks
  have hclear : d1.KeepsIsland d2 := d1.clearRegs_keepsIsland fun o ho => decide_eq_false (by omega)
  have hmod : d2.KeepsIsland d3 := .of_regs rfl
  have hkeeps : d1.KeepsIsland d3.devSync := (hclear.trans hmod).trans d3.devSync_keepsIsland
  obtain ⟨hcfg, hrdy, -⟩ := Device.setCfgReady_fields
    (let e := r.clearRegs fun o => decide (0x4000 ≤ o ∧ o < 0x8000)
     { e with hif := { Device.reset.hif with
        classWalk := e.hif.classWalk, jtagBusy := e.hif.jtagBusy, jtagDenied := e.hif.jtagDenied, jtagData := e.hif.jtagData } }) 0
  refine ⟨hspeaks.sparesBoot.boot.trans ?_, (congrArg (fun d : Device => d.hif.linkUp) hspeaks :), hspeaks.sparesBoot.jobs hjobs,
    fun o hlo hhi hmask => ?_, ?_, ?_⟩
  · show { r.boot with mile := min r.boot.mile 2 } = _
    rw [hboot]
  · have hne : o ∉ [R.sec_DEV_STATE, 0x8000 + 0x20, R.hif_MSIX_DROPPED] := by
      simp only [List.mem_cons, List.not_mem_nil, or_false, not_or]
      unfold R.sec_DEV_STATE R.hif_MSIX_DROPPED
      omega
    rw [d3.devSync_reg_ne hne]
    show (d1.clearRegs fun o => decide (0x400000 ≤ o ∧ o < 0x800000)).reg o = _
    unfold Device.clearRegs Device.reg
    rw [Store.get_wipe, if_pos]
    simp [hlo, hhi, hmask]
  · rw [Device.rf, hkeeps.reg _ hstatus]
    exact hcfg
  · rw [Device.rf, hkeeps.reg _ hready]
    exact hrdy

/-- The device in which PERST_N has just been asserted. -/
def Device.perstFallen (d : Device) : Device :=
  (d.modBoot fun b => { b with perstN := false, perstAt := some d.now.tick, perstTick := none }).setCfgReady 0

theorem perstNAssert_eq (hpor : s.dev.boot.por = false) (hhigh : s.dev.boot.perstN = true) : perstNAssert k s.dev =
    if s.dev.boot.core then (s.dev.at k).perstFallen.perstReset else (s.dev.at k).perstFallen := by
  unfold perstNAssert
  dsimp only
  rw [if_neg (by rw [show (s.dev.at k).boot.por = false from hpor, show (s.dev.at k).boot.perstN = true from hhigh]; decide)]
  rfl

theorem completes_perstNAssert (hpor : s.dev.boot.por = false) (hhigh : s.dev.boot.perstN = true) :
    Completes (.perstNAssert k) s fun t => t.dev.boot.perstN = false ∧ t.dev.boot.perstAt = some (s.dev.at k).now.tick ∧
      t.dev.boot.perstTick = none ∧ t.dev.rf R.sec_BOOT_STATUS 2 1 = 0 ∧ t.dev.rf R.sec_READY 0 1 = 0 ∧ KeepsHarts s t ∧
      (s.dev.boot.core = true → t.dev.boot.devReset = some 2 ∧ t.dev.hif.linkUp = false ∧ t.dev.boot.mile ≤ 2 ∧ t.dev.jobs = [] ∧
        ∀ o, 0x400000 ≤ o → o < 0x800000 → o % 0x1000 ≠ 0xC → t.dev.reg o = resetOf o) := by
  have heq := perstNAssert_eq (k := k) hpor hhigh
  cases hcore : s.dev.boot.core with
  | true =>
    rw [hcore, if_pos rfl] at heq
    obtain ⟨hboot, hlink, hjobs, hten, hcfg, hrdy⟩ := (s.dev.at k).perstFallen.perstReset_spec
    generalize (s.dev.at k).perstFallen.perstReset = e at *
    refine completes_dev rfl heq ⟨?_, ?_, ?_, hcfg, hrdy, ⟨rfl, rfl⟩, fun _ => ⟨?_, hlink, ?_, hjobs, hten⟩⟩
    · exact (congrArg Boot.perstN hboot :)
    · exact (congrArg Boot.perstAt hboot :)
    · exact (congrArg Boot.perstTick hboot :)
    · exact (congrArg Boot.devReset hboot :)
    · show e.boot.mile ≤ 2
      rw [hboot]
      exact Nat.min_le_right _ _
  | false =>
    rw [hcore, if_neg (by decide)] at heq
    obtain ⟨hcfg, hrdy, -⟩ := Device.setCfgReady_fields
      ((s.dev.at k).modBoot fun b => { b with perstN := false, perstAt := some (s.dev.at k).now.tick, perstTick := none }) 0
    exact completes_dev rfl heq ⟨rfl, rfl, rfl, hcfg, hrdy, ⟨rfl, rfl⟩, fun h => absurd h (by decide)⟩

theorem completes_perstNDeassert (hpor : s.dev.boot.por = false) (hlow : s.dev.boot.perstN = false) : Completes (.perstNDeassert k) s fun t =>
    t.dev.boot = { s.dev.boot with perstN := true, perstTick := some (s.dev.at k).now.tick } ∧ t.dev.regs = s.dev.regs ∧ KeepsHarts s t := by
  have heq : perstNDeassert k s.dev = (s.dev.at k).modBoot fun b => { b with perstN := true, perstTick := some (s.dev.at k).now.tick } := by
    unfold perstNDeassert
    dsimp only
    rw [if_neg (by rw [show (s.dev.at k).boot.por = false from hpor, show (s.dev.at k).boot.perstN = false from hlow]; decide)]
  exact completes_dev rfl heq ⟨rfl, rfl, rfl, rfl⟩

end

/-! ### The link (R560, R565) -/

section
variable {s : State} {k : Nat}

/-- The device in which the link has just come up. -/
def Device.linkRisen (d : Device) (v x : Nat) : Device :=
  { d with hif := { d.hif with linkUp := true } }.setN R.hif_LINK_STATUS (v + 16 * x + 4096)

theorem Device.romLinked_spec (d : Device) : d.romLinked.hif = d.hif ∧
    (∀ o, o ≠ R.sec_BOOT_STATUS → o ≠ R.sec_READY → d.romLinked.reg o = d.reg o) ∧
    (d.boot.rom = .waitLink → d.boot.core = true → d.hif.linkUp = true → d.romLinked.boot.rom = .waitGo ∧
      d.romLinked.rf R.sec_BOOT_STATUS 2 1 = 1 ∧ d.romLinked.rf R.sec_READY 0 1 = 1) := by
  obtain ⟨hcfg, hrdy, -⟩ := Device.setCfgReady_fields (d.modBoot fun b => { b with rom := .waitGo }) 1
  unfold Device.romLinked
  split
  next => exact ⟨rfl, fun o h h' => Device.setCfgReady_reg _ 1 h h', fun _ _ _ => ⟨rfl, hcfg, hrdy⟩⟩
  next hno => exact ⟨rfl, fun _ _ _ => rfl, fun hw hc hl => absurd ⟨hw, hc, hl⟩ hno⟩

theorem pcieLinkUp_eq {v : Fin 6} {x : Fin 17} (hdown : s.dev.hif.linkUp = false) (hcore : s.dev.boot.core = true) (hperst : s.dev.boot.perstN = true) :
    pcieLinkUp v x k s.dev = ((s.dev.at k).linkRisen v x).romLinked.advance := by
  unfold pcieLinkUp
  dsimp only
  rw [if_neg (by
    rw [show (s.dev.at k).hif.linkUp = false from hdown, show (s.dev.at k).boot.core = true from hcore, show (s.dev.at k).boot.perstN = true from hperst]
    decide)]
  rfl

theorem completes_pcieLinkUp {v : Fin 6} {x : Fin 17} (hdown : s.dev.hif.linkUp = false) (hcore : s.dev.boot.core = true)
    (hperst : s.dev.boot.perstN = true) : Completes (.pcieLinkUp v x k) s fun t => t.dev.hif.linkUp = true ∧
      t.dev.reg R.hif_LINK_STATUS = wd (v.val + 16 * x.val + 4096) ∧ KeepsHarts s t ∧
      (s.dev.boot.rom = .waitLink → t.dev.boot.rom = .waitGo ∧ t.dev.rf R.sec_BOOT_STATUS 2 1 = 1 ∧ t.dev.rf R.sec_READY 0 1 = 1) := by
  obtain ⟨hstatus, hready, -⟩ := ofIsland_boot
  have hlinkReg : OfNoReport R.hif_LINK_STATUS := by
    unfold OfNoReport
    decide
  let d := (s.dev.at k).linkRisen v x
  obtain ⟨hhif, hother, hwait⟩ := d.romLinked_spec
  refine completes_dev rfl (pcieLinkUp_eq hdown hcore hperst) ⟨?_, ?_, ⟨rfl, rfl⟩, fun hrom => ?_⟩
  · exact (Device.advance_hif _).trans (congrArg Hif.linkUp hhif)
  · exact (Device.advance_reg _ hlinkReg (by decide)).trans ((hother _ (by decide) (by decide)).trans (Device.reg_setReg _ _ _ _))
  · obtain ⟨hgo, hcfg, hrdy⟩ := hwait hrom hcore rfl
    refine ⟨?_, (congrArg (fld · 2 1) hstatus.advance_reg).trans hcfg, (congrArg (fld · 0 1) hready.advance_reg).trans hrdy⟩
    exact (congrArg Boot.rom (Device.advance_boot _) :).trans hgo

theorem pcieLinkUp_idle {v : Fin 6} {x : Fin 17} (h : s.dev.hif.linkUp = true ∨ s.dev.boot.core = false ∨ s.dev.boot.perstN = false) :
    pcieLinkUp v x k s.dev = s.dev.at k := by
  unfold pcieLinkUp
  dsimp only
  refine if_pos ?_
  show (s.dev.hif.linkUp || !s.dev.boot.core || !s.dev.boot.perstN) = true
  obtain h | h | h := h <;> simp [h]

end

/-! ### READY (R560, R570) -/

section
variable {s : State} {q : Req}

theorem completes_cfgReadyWrite (hw : Writes s q R.sec_READY = true) (hcfg : fld q.data 0 1 = 1) (hno : fld q.data 1 1 = 0)
    (hperst : s.dev.boot.perstAt ≠ some (s.dev.at q.t).now.tick) : Completes (.cfgReadyWrite q) s fun t =>
      t.dev.rf R.sec_BOOT_STATUS 2 1 = 1 ∧ t.dev.rf R.sec_READY 0 1 = 1 ∧ KeepsHarts s t ∧
      (s.dev.boot.core = true → s.dev.boot.mile = 2 → s.dev.hif.linkUp = true → 3 ≤ t.dev.boot.mile) := by
  have heq : cfgReadyWrite q s.dev = ((s.dev.at q.t).setCfgReady 1).advance := by
    unfold cfgReadyWrite
    rw [if_pos hcfg, Device.writeAt_of_writes hw]
    unfold Device.readyWrite
    dsimp only
    rw [if_pos hno, if_pos ⟨hcfg, hperst⟩]
  obtain ⟨hstatus, hready⟩ := (s.dev.at q.t).cfgReady_advance
  refine completes_dev rfl heq ⟨hstatus, hready, ⟨rfl, rfl⟩, fun hcore hmile hlink => ?_⟩
  exact Device.linked_milestone (d := (s.dev.at q.t).setCfgReady 1) hcore hmile
    (.inl ⟨hlink, ((s.dev.at q.t).setCfgReady_fields 1).1⟩)

theorem noHost_eq (hw : Writes s q R.sec_READY = true) (hcfg : fld q.data 0 1 = 0) (hno : fld q.data 1 1 = 1) :
    noHost q s.dev = (if portCode q.port = 7 then (s.dev.at q.t).setF R.sec_READY 1 1 1
      else (s.dev.at q.t).errAccess 0x0001 q.port R.sec_READY true).advance := by
  unfold noHost
  rw [if_pos hno, Device.writeAt_of_writes hw]
  unfold Device.readyWrite
  dsimp only
  have hcfg' : ¬ (fld q.data 0 1 = 1 ∧ (s.dev.at q.t).boot.perstAt ≠ some (s.dev.at q.t).now.tick) := fun h => by omega
  rw [if_neg (by omega : ¬ fld q.data 1 1 = 0), if_neg hcfg']

theorem completes_noHost (hw : Writes s q R.sec_READY = true) (hcfg : fld q.data 0 1 = 0) (hno : fld q.data 1 1 = 1) (hport : portCode q.port = 7) :
    Completes (.noHost q) s fun t => t.dev.rf R.sec_READY 1 1 = 1 ∧
      t.dev.rf R.sec_READY 0 1 = s.dev.rf R.sec_READY 0 1 ∧ KeepsHarts s t ∧ (s.dev.boot.core = true → s.dev.boot.mile = 2 → 3 ≤ t.dev.boot.mile) := by
  have heq := noHost_eq hw hcfg hno
  rw [if_pos hport] at heq
  have hword : ((s.dev.at q.t).setF R.sec_READY 1 1 1).reg R.sec_READY = setFld (s.dev.reg R.sec_READY) 1 1 1 :=
    (Device.reg_setReg _ _ _ _).trans (if_pos rfl)
  have hfield : ((s.dev.at q.t).setF R.sec_READY 1 1 1).rf R.sec_READY 1 1 = 1 := by
    rw [Device.rf, hword, fld_setFld _ _ (by decide), Nat.one_mod_two_pow_eq_one.2 (by decide)]
  have hready := ofIsland_boot.2.1.advance_reg (d := (s.dev.at q.t).setF R.sec_READY 1 1 1)
  refine completes_dev rfl heq ⟨(congrArg (fld · 1 1) hready).trans hfield, ?_, ⟨rfl, rfl⟩, fun hcore hmile => ?_⟩
  · refine (congrArg (fld · 0 1) (hready.trans hword)).trans ?_
    exact fld_setFld_beside _ _ (by decide) (by decide)
  · exact Device.linked_milestone (d := (s.dev.at q.t).setF R.sec_READY 1 1 1) hcore hmile (.inr hfield)

theorem Device.advance_reg_ne (d : Device) {o : Nat} (h : o ∉ [R.sec_DEV_STATE, 0x8000 + 0x20, R.hif_MSIX_DROPPED]) :
    d.advance.reg o = d.reg o := by
  rw [Device.advance_eq]
  exact Device.devSync_reg_ne _ h

theorem completes_noHost_refused (hw : Writes s q R.sec_READY = true) (hcfg : fld q.data 0 1 = 0) (hno : fld q.data 1 1 = 1)
    (hport : portCode q.port ≠ 7) : Completes (.noHost q) s fun t => t.dev.reg R.sec_READY = s.dev.reg R.sec_READY ∧
      t.dev.reg (0x8000 + 0x34) = satAdd (s.dev.reg (0x8000 + 0x34)) 1 ∧ KeepsHarts s t := by
  have heq := noHost_eq hw hcfg hno
  rw [if_neg hport, Device.errAccess, show errPage R.sec_READY = 0x8000 from by decide] at heq
  have hready := ofIsland_boot.2.1
  have hcount := (s.dev.at q.t).err_count 0x8000 0x0001 (accessInfo q.port R.sec_READY true) (wd (portTenant q.port)) (by decide)
  have hkept := (s.dev.at q.t).err_reg_noReport (pg := 0x8000) rfl 0x0001 (accessInfo q.port R.sec_READY true) (wd (portTenant q.port)) hready.2.1
  exact completes_dev rfl heq ⟨hready.advance_reg.trans hkept, (Device.advance_reg_ne _ (by decide)).trans hcount, rfl, rfl⟩

end

section
variable {s : State} {k : Nat}

theorem completes_cfgReadyForced {p : Nat} (h : s.dev.boot.perstTick = some p) :
    (p + 900000000 ≤ (s.dev.at k).now.tick → Completes (.cfgReadyForced k) s fun t => t.dev.rf R.sec_BOOT_STATUS 2 1 = 1 ∧
      t.dev.rf R.sec_READY 0 1 = 1 ∧ KeepsHarts s t) ∧
    ((s.dev.at k).now.tick < p + 900000000 → Completes (.cfgReadyForced k) s fun t => t.dev = s.dev.at k ∧ KeepsHarts s t) := by
  have heq : cfgReadyForced k s.dev = if p + 900000000 ≤ (s.dev.at k).now.tick then ((s.dev.at k).setCfgReady 1).advance else s.dev.at k := by
    unfold cfgReadyForced
    dsimp only
    rw [show (s.dev.at k).boot.perstTick = some p from h]
  obtain ⟨hstatus, hready⟩ := (s.dev.at k).cfgReady_advance
  refine ⟨fun hdue => completes_dev rfl (heq.trans (if_pos hdue)) ⟨hstatus, hready, rfl, rfl⟩, fun hsoon => ?_⟩
  exact completes_dev rfl (heq.trans (if_neg (by omega))) ⟨rfl, rfl, rfl⟩

end

/-! ### HBM training (R571) -/

section
variable {s : State} {k : Nat} {x : Fin 2}

theorem hbmTrained_eq (hcore : s.dev.boot.core = true) (htrained : s.dev.rf R.sec_HBM_TRAIN x 1 = 0) (hfailed : s.dev.rf R.sec_HBM_TRAIN (2 + x) 1 = 0) :
    hbmTrained x k s.dev = (((s.dev.at k).zeroStack x).setF R.sec_HBM_TRAIN x 1 1).advance := by
  unfold hbmTrained
  dsimp only
  rw [if_neg]
  show ¬ ((!s.dev.boot.core || decide (s.dev.rf R.sec_HBM_TRAIN x 1 = 1) || decide (s.dev.rf R.sec_HBM_TRAIN (2 + x) 1 = 1)) = true)
  rw [hcore, htrained, hfailed]
  decide

/-- The two bits of a field, one just set and the other set before. -/
theorem fld_two_bits (v : Word) (x : Fin 2) (h : fld v (1 - x) 1 = 1) : fld (setFld v x 1 1) 0 2 = 3 := by
  have htwo : ∀ w : Word, fld w 0 2 = fld w 0 1 + 2 * fld w 1 1 := fun w => by
    unfold fld
    omega
  rw [htwo]
  match x, h with
  | 0, h =>
    show fld (setFld v 0 1 1) 0 1 + 2 * fld (setFld v 0 1 1) 1 1 = 3
    rw [fld_setFld v 1 (by decide), fld_setFld_beside v 1 (by decide) (by decide), show fld v 1 1 = 1 from h]
    rfl
  | 1, h =>
    show fld (setFld v 1 1 1) 0 1 + 2 * fld (setFld v 1 1 1) 1 1 = 3
    rw [fld_setFld v 1 (by decide), fld_setFld_beside v 1 (by decide) (by decide), show fld v 0 1 = 1 from h]
    rfl

theorem completes_hbmTrained (hcore : s.dev.boot.core = true) (htrained : s.dev.rf R.sec_HBM_TRAIN x 1 = 0)
    (hfailed : s.dev.rf R.sec_HBM_TRAIN (2 + x) 1 = 0) : Completes (.hbmTrained x k) s fun t => t.dev.rf R.sec_HBM_TRAIN x 1 = 1 ∧ KeepsHarts s t ∧
      (∀ a, Memory.rd8 t.dev.hbm a = if a / 256 % 32 / 16 = x.val then 0 else Memory.rd8 s.dev.hbm a) ∧
      (s.dev.boot.mile = 3 → s.dev.rf R.sec_HBM_TRAIN (1 - x) 1 = 1 → t.dev.boot.mile = 4) := by
  let d := ((s.dev.at k).zeroStack x).setF R.sec_HBM_TRAIN x 1 1
  have hx := x.isLt
  have hword : d.reg R.sec_HBM_TRAIN = setFld (s.dev.reg R.sec_HBM_TRAIN) x 1 1 := (Device.reg_setReg _ _ _ _).trans (if_pos rfl)
  have htrain := ofIsland_boot.2.2.advance_reg (d := d)
  refine completes_dev rfl (hbmTrained_eq hcore htrained hfailed) ⟨?_, ⟨rfl, rfl⟩, fun a => ?_, fun hmile hother => ?_⟩
  · refine (congrArg (fld · x 1) (htrain.trans hword)).trans ?_
    exact fld_setFld _ _ (by omega)
  · refine (congrArg (Memory.rd8 · a) d.advance_hbm).trans ?_
    refine (Store.get_wipe (fun a => a / 256 % 32 / 16 == x.val) s.dev.hbm a).trans ?_
    exact if_congr beq_iff_eq rfl rfl
  · exact Device.trained_milestone (d := d) hcore hmile ((congrArg (fld · 0 2) hword).trans (fld_two_bits _ x hother))

theorem trainFail_eq {b : Nat} (hb : s.dev.boot.trainStart = some b) (hcore : s.dev.boot.core = true)
    (htrained : s.dev.rf R.sec_HBM_TRAIN x 1 = 0) (hfailed : s.dev.rf R.sec_HBM_TRAIN (2 + x) 1 = 0) : trainFail x k s.dev =
      if b + 60000000 ≤ (s.dev.at k).now.tick then
        (((s.dev.at k).setF R.sec_HBM_TRAIN (2 + x) 1 1).err 0x8000 0x0102 (wd x) 0).evtBit 0x8000 18
      else s.dev.at k := by
  unfold trainFail
  dsimp only
  rw [show (s.dev.at k).boot.trainStart = some b from hb]
  exact if_congr ⟨fun h => h.2.2.2, fun h => ⟨hcore, htrained, hfailed, h⟩⟩ rfl rfl

theorem completes_trainFail {b : Nat} (hb : s.dev.boot.trainStart = some b) (hcore : s.dev.boot.core = true)
    (htrained : s.dev.rf R.sec_HBM_TRAIN x 1 = 0) (hfailed : s.dev.rf R.sec_HBM_TRAIN (2 + x) 1 = 0) :
    (b + 60000000 ≤ (s.dev.at k).now.tick → Completes (.trainFail x k) s fun t => t.dev.rf R.sec_HBM_TRAIN (2 + x) 1 = 1 ∧
      t.dev.reg (0x8000 + 0x34) = satAdd (s.dev.reg (0x8000 + 0x34)) 1 ∧ t.dev.rf (0x8000 + 0x20) 18 1 = 1 ∧ KeepsHarts s t) ∧
    ((s.dev.at k).now.tick < b + 60000000 → Completes (.trainFail x k) s fun t => t.dev = s.dev.at k ∧ KeepsHarts s t) := by
  have heq := trainFail_eq (k := k) hb hcore htrained hfailed
  refine ⟨fun hdue => ?_, fun hsoon => completes_dev rfl (heq.trans (if_neg (by omega))) ⟨rfl, rfl, rfl⟩⟩
  let d := (s.dev.at k).setF R.sec_HBM_TRAIN (2 + x) 1 1
  have hx := x.isLt
  have hword : d.reg R.sec_HBM_TRAIN = setFld (s.dev.reg R.sec_HBM_TRAIN) (2 + x) 1 1 := (Device.reg_setReg _ _ _ _).trans (if_pos rfl)
  have hcount : d.reg (0x8000 + 0x34) = s.dev.reg (0x8000 + 0x34) := (Device.reg_setReg _ _ _ _).trans (if_neg (by decide))
  refine completes_dev rfl (heq.trans (if_pos hdue)) ⟨?_, ?_, ?_, rfl, rfl⟩
  · refine (congrArg (fld · (2 + x) 1) ((d.err_evtBit_reg (pg := 0x8000) rfl 0x0102 18 (wd x) 0 ofIsland_boot.2.2.2.1).trans hword)).trans ?_
    exact fld_setFld _ _ (by omega)
  · refine ((Device.evtBit_reg _ 0x8000 18 _ (by decide)).trans (if_neg (by decide))).trans ?_
    exact (d.err_count 0x8000 0x0102 (wd x) 0 (by decide)).trans (congrArg (satAdd · 1) hcount)
  · refine (congrArg (fld · 18 1) ((Device.evtBit_reg (d.err 0x8000 0x0102 (wd x) 0) 0x8000 18 (0x8000 + 0x20) (by decide)).trans (if_pos rfl))).trans ?_
    exact fld_or_bit _ (by decide)

end

section
variable {s : State} {q : Req}

theorem retrain_eq (hw : Writes s q R.sec_HBM_TRAIN = true) (hgo : fld q.data 8 1 = 1) : retrain q s.dev =
    if s.dev.rf R.skm_RENDER_STATE 0 2 ≠ 0 || !s.dev.loadFree then (s.dev.at q.t).err 0x8000 0x0100 0 0
    else if s.dev.rf R.sec_HBM_TRAIN 2 2 = 0 then s.dev.at q.t
    else ((s.dev.at q.t).setF R.sec_HBM_TRAIN 2 2 0).modBoot fun b => { b with trainStart := some (s.dev.at q.t).now.tick } := by
  unfold retrain
  rw [if_neg (by omega), Device.writeAt_of_writes hw]
  rfl

theorem completes_retrain (hw : Writes s q R.sec_HBM_TRAIN = true) (hgo : fld q.data 8 1 = 1) :
    (s.dev.rf R.skm_RENDER_STATE 0 2 = 0 → s.dev.loadFree = true → s.dev.rf R.sec_HBM_TRAIN 2 2 ≠ 0 → Completes (.retrain q) s fun t =>
      t.dev.rf R.sec_HBM_TRAIN 2 2 = 0 ∧ t.dev.rf R.sec_HBM_TRAIN 0 2 = s.dev.rf R.sec_HBM_TRAIN 0 2 ∧
      t.dev.boot.trainStart = some (s.dev.at q.t).now.tick ∧ KeepsRegs s t [R.sec_HBM_TRAIN] ∧ KeepsHarts s t) ∧
    (s.dev.rf R.skm_RENDER_STATE 0 2 ≠ 0 ∨ s.dev.loadFree = false → Completes (.retrain q) s fun t => t.dev.reg R.sec_HBM_TRAIN = s.dev.reg R.sec_HBM_TRAIN ∧
      t.dev.reg (0x8000 + 0x34) = satAdd (s.dev.reg (0x8000 + 0x34)) 1 ∧ KeepsHarts s t) := by
  have heq := retrain_eq hw hgo
  refine ⟨fun hrender hfree hfails => ?_, fun hbusy => ?_⟩
  · have hword : ((s.dev.at q.t).setF R.sec_HBM_TRAIN 2 2 0).reg R.sec_HBM_TRAIN = setFld (s.dev.reg R.sec_HBM_TRAIN) 2 2 0 :=
      (Device.reg_setReg _ _ _ _).trans (if_pos rfl)
    rw [if_neg (by rw [hrender, hfree]; decide), if_neg hfails] at heq
    refine completes_dev rfl heq ⟨?_, ?_, rfl, fun o ho => ?_, rfl, rfl⟩
    · exact (congrArg (fld · 2 2) hword).trans (fld_setFld _ _ (by decide))
    · exact (congrArg (fld · 0 2) hword).trans (fld_setFld_beside _ _ (by decide) (by decide))
    · exact (Device.reg_setReg _ _ _ _).trans (if_neg (mt List.mem_singleton.2 ho))
  · rw [if_pos (by obtain h | h := hbusy <;> simp only [h, ne_eq, not_false_eq_true, decide_true, Bool.true_or, Bool.not_false, Bool.or_true])] at heq
    have hcount := (s.dev.at q.t).err_count 0x8000 0x0100 0 0 (by decide)
    have hkept := (s.dev.at q.t).err_reg_noReport (pg := 0x8000) rfl 0x0100 0 0 ofIsland_boot.2.2.2.1
    exact completes_dev rfl heq ⟨hkept, hcount, rfl, rfl⟩

end

/-- Settles O53: each event's command, with the milestones it may reach (`advance_eq`); a reset by PERST_N keeps SEC and FLT and clears the PCIe
block and the TEN pages. It rests on log entries 124 and 126. -/
theorem linkReadinessAndTrainingMakeMilestones : Obligations.LinkReadinessAndTrainingMakeMilestones := by
  unfold Obligations.LinkReadinessAndTrainingMakeMilestones
  exact ⟨fun s k hpor => ⟨completes_perstNAssert hpor, completes_perstNDeassert hpor⟩,
    fun s v x k => ⟨completes_pcieLinkUp, fun h => completes_dev rfl (pcieLinkUp_idle h) ⟨rfl, rfl, rfl⟩⟩,
    fun s q hw => ⟨completes_cfgReadyWrite hw, completes_noHost hw, completes_noHost_refused hw⟩,
    fun s k p h => completes_cfgReadyForced h,
    fun s x k hcore htrained hfailed => ⟨completes_hbmTrained hcore htrained hfailed, fun b hb => completes_trainFail hb hcore htrained hfailed⟩,
    fun s q hw hgo => completes_retrain hw hgo⟩

end Sys2Proof.Machine
end

section
/-! PROOFS. A burn that ends in the registers beside the fuses (R579); O54. -/
namespace Sys2Proof.Machine

/-- A device that burns the digest of pin 684, which the fuses do not have: word 5 of it would stand at PIN_BURN_STATUS. -/
def burningPin684 : State := { State.reset with dev := { Device.reset with boot := { boot0 with burn := some (0, 684, 0) } } }

/-- Word 5 of the digest of pin 684 has the offset of PIN_BURN_STATUS. -/
theorem pinDigest_684 : R.idn_PIN_DIGEST 684 5 = R.sec_PIN_BURN_STATUS := by decide

/-- The digest 0 written for pin 684 leaves PIN_BURN_STATUS at 0. -/
theorem Device.writeDigest_684 (d : Device) : (d.writeDigest 684 0).reg R.sec_PIN_BURN_STATUS = 0 := by
  have hlater : ∀ e : Device, ([6, 7, 8, 9, 10, 11].foldl (fun (d : Device) w => d.setN (R.idn_PIN_DIGEST 684 w) (0 / 2 ^ (32 * w))) e).reg
      R.sec_PIN_BURN_STATUS = e.reg R.sec_PIN_BURN_STATUS := fun e => by
    refine foldl_keeps (·.reg R.sec_PIN_BURN_STATUS) (fun d w hw => ?_) e
    simp only [List.mem_cons, List.not_mem_nil, or_false] at hw
    rw [Device.setN_eq, Device.reg_setReg, if_neg (by unfold R.sec_PIN_BURN_STATUS R.idn_PIN_DIGEST; omega)]
  unfold Device.writeDigest
  rw [show List.range 12 = [0, 1, 2, 3, 4] ++ 5 :: [6, 7, 8, 9, 10, 11] from by decide, List.foldl_append, List.foldl_cons, hlater,
    Device.setN_eq, Device.reg_setReg, if_pos pinDigest_684.symm, Nat.zero_div]
  rfl

/-- The end of a burn of pin x, before the warning of R579 is brought up to it. -/
def Device.pinBurnt (d : Device) (x v : Nat) : Device :=
  (((d.modBoot fun b => { b with burn := none }).setN R.sec_PIN_BURN_STATUS 2).setF R.idn_FUSE_STATE x 1 1).writeDigest x v

theorem burnDone_pin {d : Device} {k x v : Nat} (h : d.boot.burn = some (0, x, v)) : burnDone k d =
    if ((d.at k).pinBurnt x v).rf R.idn_FUSE_STATE (4 + x) 1 = 0 then ((d.at k).pinBurnt x v).setF R.idn_FUSE_STATE 9 1 1
    else (d.at k).pinBurnt x v := by
  unfold burnDone
  dsimp only
  rw [show (d.at k).boot.burn = some (0, x, v) from h]
  rfl

theorem Device.ite_setF_status (d : Device) (p : Prop) [Decidable p] :
    (if p then d.setF R.idn_FUSE_STATE 9 1 1 else d).reg R.sec_PIN_BURN_STATUS = d.reg R.sec_PIN_BURN_STATUS := by
  split
  · rw [Device.setF_eq, Device.reg_setReg, if_neg (by decide)]
  · rfl

theorem burnDone_684 {s : State} (h : s.dev.boot.burn = some (0, 684, 0)) :
    ¬ Completes (.burnDone 0) s fun t => t.dev.reg R.sec_PIN_BURN_STATUS = 2 := by
  rintro ⟨t, hexec, hstatus⟩
  have hexec' : exec (.burnDone 0) s = .next { s with dev := burnDone 0 s.dev } := rfl
  obtain rfl : { s with dev := burnDone 0 s.dev } = t := Host.Outcome.next.inj (hexec'.symm.trans hexec)
  have hzero : (burnDone 0 s.dev).reg R.sec_PIN_BURN_STATUS = 0 := by
    rw [burnDone_pin h, Device.ite_setF_status]
    exact Device.writeDigest_684 _
  exact absurd (hzero.symm.trans hstatus) (by decide)

/-- Refutes O54: BURN_DONE of a burn of pin 684 writes a word of the digest over PIN_BURN_STATUS (`pinDigest_684`), which then reads 0 and not 2;
the clause of BURN_DONE does not bound the pin there. -/
theorem not_firmwareIsCheckedAndFusesBurn : ¬ Obligations.FirmwareIsCheckedAndFusesBurn := by
  unfold Obligations.FirmwareIsCheckedAndFusesBurn
  rintro ⟨-, -, -, -, hdone⟩
  obtain ⟨t, hexec, -, hstatus, -⟩ := hdone burningPin684 0 0 684 0 rfl
  exact burnDone_684 rfl ⟨t, hexec, hstatus⟩

end Sys2Proof.Machine
end

section
/-! PROOFS. What a reset of a queue, a tenant or a pipeline leaves of SEC, FLT and the pipelines (R240, R381, R383). -/
namespace Sys2Proof.Machine

/-! ### Jobs that end -/

/-- A register that the end of a job may change: HIF BME_DROPPED, or the byte counts of HOD. -/
def FinishReg (o : Nat) : Prop := o = R.hif_BME_DROPPED ∨ 0x110000 ≤ o ∧ o < 0x120000

/-- Beside what is no register, a step changes only what the end of a job may change. -/
def Device.KeepsUnfinished (d e : Device) : Prop := ∀ o, ¬ FinishReg o → e.reg o = d.reg o

namespace Device.KeepsUnfinished

variable {d e f : Device}

theorem of_regs (h : e.regs = d.regs) : d.KeepsUnfinished e := fun o _ => congrArg (Store.get resetOf · o) h

theorem refl (d : Device) : d.KeepsUnfinished d := fun _ _ => rfl

theorem trans (h : d.KeepsUnfinished e) (g : e.KeepsUnfinished f) : d.KeepsUnfinished f := fun o ho => (g o ho).trans (h o ho)

theorem ite {p : Prop} [Decidable p] (he : d.KeepsUnfinished e) (hf : d.KeepsUnfinished f) : d.KeepsUnfinished (if p then e else f) := by
  split
  · exact he
  · exact hf

theorem foldl {α : Type} {k : Device → α → Device} {l : List α} (h : ∀ (d : Device) a, d.KeepsUnfinished (k d a)) (d : Device) :
    d.KeepsUnfinished (l.foldl k d) :=
  List.foldlRecOn _ _ (motive := fun e => d.KeepsUnfinished e) (refl d) fun e he a _ => he.trans (h e a)

end Device.KeepsUnfinished

theorem Device.setReg_keepsUnfinished (d : Device) {o : Nat} (h : FinishReg o) (v : Word) : d.KeepsUnfinished (d.setReg o v) := fun x hx => by
  rw [Device.reg_setReg, if_neg]
  rintro rfl
  exact hx h

theorem Device.cancelJobEntries_keepsUnfinished (d : Device) (q : Nat → Bool) : d.KeepsUnfinished (d.cancelJobEntries q) :=
  .foldl (k := fun (d : Device) (e : EvEntry) => d.cancelEntry e.num) (fun _ _ => .of_regs rfl) d

theorem Device.hostWrite_keepsUnfinished (d : Device) (f a : Nat) (b : List Byte) : d.KeepsUnfinished (d.hostWrite f a b) :=
  .ite (.refl d) (.ite (.of_regs rfl) (d.setReg_keepsUnfinished (.inl rfl) _))

theorem Device.countOut_keepsUnfinished (d : Device) (j : Job) (n : Nat) : d.KeepsUnfinished (d.countOut j n) := by
  unfold Device.countOut
  extract_lets d1 k
  have hlo : FinishReg (R.hod_BYTES_OUT_LO (j.pipe % 16)) := .inr (by unfold R.hod_BYTES_OUT_LO; omega)
  have hhi : FinishReg (R.hod_BYTES_OUT_LO (j.pipe % 16) + 4) := .inr (by unfold R.hod_BYTES_OUT_LO; omega)
  have h1 : d.KeepsUnfinished d1 := .ite ((d.setReg_keepsUnfinished hlo _).trans (Device.setReg_keepsUnfinished _ hhi _)) (.refl d)
  exact h1.trans (.of_regs rfl)

theorem Device.writeHeader_keepsUnfinished (d : Device) (j : Job) (status plen : Nat) : d.KeepsUnfinished (d.writeHeader j status plen) := by
  unfold Device.writeHeader
  split
  · exact (d.hostWrite_keepsUnfinished _ _ _).trans (Device.countOut_keepsUnfinished _ _ _)
  · exact .refl d

theorem Device.finishRaw_keepsUnfinished (d : Device) (id status plen : Nat) (hdr : Bool) : d.KeepsUnfinished (d.finishRaw id status plen hdr) := by
  unfold Device.finishRaw
  split
  · exact .refl d
  next j _ =>
    refine .ite (.refl d) ?_
    extract_lets d1 d2
    have h1 : d.KeepsUnfinished d1 := d.cancelJobEntries_keepsUnfinished _
    have h2 : d.KeepsUnfinished d2 := .ite (h1.trans (d1.writeHeader_keepsUnfinished _ _ _)) h1
    exact .ite (h2.trans (.of_regs rfl)) (h2.trans (.of_regs rfl))

theorem Device.fenceCheck_keepsUnfinished (d : Device) (g : Nat) : d.KeepsUnfinished (d.fenceCheck g) := by
  unfold Device.fenceCheck
  extract_lets x
  split
  · exact .refl d
  · exact .ite ((d.finishRaw_keepsUnfinished _ _ _ _).trans (.of_regs rfl)) (.refl d)

theorem Device.finish_keepsUnfinished (d : Device) (id status plen : Nat) (hdr : Bool) : d.KeepsUnfinished (d.finish id status plen hdr) := by
  unfold Device.finish
  split
  · exact .refl d
  · exact (d.finishRaw_keepsUnfinished _ _ _ _).trans (Device.fenceCheck_keepsUnfinished _ _)

theorem Device.abandonJob_keepsUnfinished (d : Device) (id status : Nat) (hdr : Bool) : d.KeepsUnfinished (d.abandonJob id status hdr) := by
  unfold Device.abandonJob
  split
  · exact .refl d
  next j _ =>
    refine .ite (.ite (.of_regs rfl) (.refl d)) (.ite ?_ (d.finish_keepsUnfinished _ _ _ _))
    extract_lets d1 d2
    have h1 : d.KeepsUnfinished d1 := (d.cancelJobEntries_keepsUnfinished _).trans (.of_regs rfl)
    have h2 : d.KeepsUnfinished d2 := .ite (h1.trans (d1.writeHeader_keepsUnfinished _ _ _)) h1
    exact h2.trans (.of_regs rfl)

theorem Device.KeepsUnfinished.keepsIsland {d e : Device} (h : d.KeepsUnfinished e) : d.KeepsIsland e :=
  .of_reg fun o ho => h o fun hf => by
    unfold FinishReg R.hif_BME_DROPPED at hf
    omega

/-! ### A queue (R381, R383) -/

theorem Device.forgetJobs_keepsIsland (d : Device) (p : Job → Bool) : d.KeepsIsland (d.forgetJobs p) :=
  (d.cancelJobEntries_keepsUnfinished _).keepsIsland.trans (.of_regs rfl)

/-- The registers of the queue state table lie outside SEC and FLT. -/
theorem offIsland_above {o : Nat} (h : 0x10000 ≤ o) : OffIsland o := .of_page (by omega)

theorem Device.disableQueue_keepsIsland (d : Device) (g : Nat) : d.KeepsIsland (d.disableQueue g) := by
  unfold Device.disableQueue
  extract_lets x h mine n gone back fence d2 D
  have h2 : d.KeepsIsland d2 := (d.forgetJobs_keepsIsland gone).trans (.of_regs rfl)
  refine h2.trans ?_
  refine (((d2.count_keepsIsland (offIsland_above ?_) _).trans (Device.setN_keepsIsland _ (offIsland_above ?_) _)).trans
    (Device.setF_keepsIsland _ (offIsland_above ?_) _ _ _)).trans (Device.setF_keepsIsland _ (offIsland_above ?_) _ _ _)
  all_goals
    simp only [R.qen_DISCARDED, R.qst_FETCH_IDX, R.qst_QSTATUS]
    omega

theorem Device.loseJobs_keepsIsland (d : Device) (g : Nat) : d.KeepsIsland (d.loseJobs g) := by
  unfold Device.loseJobs
  extract_lets mine l d1 d2
  have hcount : ∀ (e : Device) st, e.KeepsIsland (e.countJob g st) := fun e st =>
    (e.count_keepsIsland (offIsland_above (by simp only [R.qst_COMPLETED]; omega)) 1).trans (.of_regs rfl)
  have h1 : d.KeepsIsland d1 := .foldl (fun d j _ => (d.abandonJob_keepsUnfinished _ _ _).keepsIsland) d
  have h2 : d1.KeepsIsland d2 := .foldl (fun d j _ => by
    split
    · exact hcount d _
    · exact hcount d _) d1
  exact (h1.trans h2).trans (.of_regs rfl)

theorem Device.passTail_keepsIsland (d : Device) (g tail fetch head : Nat) : d.KeepsIsland (d.passTail g tail fetch head) := by
  have hset : d.KeepsIsland ((d.setN (R.qst_HEAD g) tail).setN (R.qst_FETCH_IDX g) tail) :=
    (d.setN_keepsIsland (offIsland_above (by simp only [R.qst_HEAD]; omega)) _).trans
      (Device.setN_keepsIsland _ (offIsland_above (by simp only [R.qst_FETCH_IDX]; omega)) _)
  have hmirror : ∀ e : Device, e.KeepsIsland (e.writeMirror g) := fun e =>
    .ite (e.hostWrite_keepsUnfinished _ _ _).keepsIsland (.refl e)
  exact ((hset.trans (hmirror _)).trans ((Device.setN_keepsIsland _ (offIsland_above (by decide)) _).trans
    (Device.setN_keepsIsland _ (offIsland_above (by decide)) _))).trans
      (Device.setF_keepsIsland _ (offIsland_above (by simp only [R.qst_QSTATUS]; omega)) _ _ _)

theorem Device.clearCounts_keepsIsland (d : Device) (g : Nat) : d.KeepsIsland (d.clearCounts g) := by
  have hpush : d.KeepsIsland (d.clearPushCounts g) := d.zeroRegs_keepsIsland fun o ho => offIsland_above (by
    simp only [List.mem_cons, List.not_mem_nil, or_false, R.pw_RUNAHEAD_DISCARD, R.pw_TAIL_REJECT_COUNT, R.pw_PUSH_DISCARD_COUNT, R.pw_RESTAMP_COUNT,
      R.pw_STATUS] at ho
    omega)
  have hdone : (d.clearPushCounts g).KeepsIsland ((d.clearPushCounts g).setN (R.qst_COMPLETED g) 0) :=
    Device.setN_keepsIsland _ (offIsland_above (by simp only [R.qst_COMPLETED]; omega)) 0
  exact (hpush.trans hdone).trans (.of_regs rfl)

theorem Device.showReset_keepsIsland (d : Device) (g : Nat) : d.KeepsIsland (d.showReset g) := by
  have hqueue : d.KeepsIsland (d.setQueue g { d.queue g with resetTick := some d.now.tick }) := .of_regs rfl
  exact hqueue.trans ((Device.setF_keepsIsland _ (offIsland_above (by simp only [R.qst_QSTATUS]; omega)) _ _ _).trans
    (Device.setF_keepsIsland _ (offIsland_above (by decide)) _ _ _))

theorem Device.resetQueue_keepsIsland (d : Device) (g : Nat) : d.KeepsIsland (d.resetQueue g) := by
  have hqueue : d.KeepsIsland (d.setQueue g (d.queue g).cleared) := .of_regs rfl
  rw [Device.resetQueue_eq]
  exact ((hqueue.trans (Device.loseJobs_keepsIsland _ g)).trans (Device.passTail_keepsIsland _ _ _ _ _)).trans
    ((Device.clearCounts_keepsIsland _ g).trans (Device.showReset_keepsIsland _ g))

theorem Device.queueResetCmd_keepsIsland (d : Device) (g : Nat) : d.KeepsIsland (d.queueResetCmd g).2 := by
  have hoff : OffIsland R.qen_QUEUE_CMD_STATUS := offIsland_above (by decide)
  unfold Device.queueResetCmd
  split
  · exact (d.err_keepsIsland rfl _ _ _).trans (Device.setF_keepsIsland _ hoff _ _ _)
  · split
    · exact d.setF_keepsIsland hoff _ _ _
    · exact (d.setF_keepsIsland hoff _ _ _).trans (Device.resetQueue_keepsIsland _ g)

theorem Device.ladderQueue_keepsIsland (d : Device) (g : Nat) : d.KeepsIsland (d.ladderQueue g) := by
  unfold Device.ladderQueue
  extract_lets d1 d2
  have h1 : d.KeepsIsland d1 := .ite (d.disableQueue_keepsIsland g) (.refl d)
  have h2 : d1.KeepsIsland d2 := (d1.setF_keepsIsland (offIsland_above (by simp only [R.qst_QCTL]; omega)) _ _ _).trans (.of_regs rfl)
  exact (h1.trans h2).trans (d2.queueResetCmd_keepsIsland g)

/-! ### A tenant -/

theorem Device.sklEnd_keepsIsland (d : Device) (result reason check : Nat) : d.KeepsIsland (d.sklEnd result reason check) := by
  unfold Device.sklEnd
  split
  · exact (d.setN_keepsIsland (offIsland_above (by simp only [R.ten_SKL_STATUS]; omega)) _).trans (Device.evtBit_keepsIsland _ (by omega) _)
  · exact .refl d

theorem Device.failReader_keepsIsland (d : Device) (f : Nat) : d.KeepsIsland (d.failReader f) := by
  have hstatus : OffIsland R.skm_LOAD_STATUS := offIsland_above (by decide)
  have hfail : OffIsland R.skm_LOAD_FAIL := offIsland_above (by decide)
  have hload : ∀ (e : Device) tile sect, e.KeepsIsland (e.loadFailed tile sect) := fun e tile sect =>
    ((((e.setN_keepsIsland hstatus _).trans (Device.setN_keepsIsland _ hfail _)).trans (Device.err_keepsIsland _ rfl _ _ _)).trans
      (Device.evtBit_keepsIsland _ rfl _)).trans (Device.sklEnd_keepsIsland _ _ _ _)
  exact .ite (Device.KeepsIsland.trans (e := d.fresh.2) (.of_regs rfl) (hload _ _ _)) (.refl d)

theorem Device.clearTenantQueues_keepsIsland (d : Device) (t : Nat) : d.KeepsIsland (d.clearTenantQueues t) := by
  unfold Device.clearTenantQueues
  extract_lets mine d2 d3 d4 d5 trace d6
  have h3 : d.KeepsIsland d3 := Device.KeepsIsland.trans (e := d2) (.of_regs rfl)
    (.foldl (fun d j _ => (d.abandonJob_keepsUnfinished _ _ _).keepsIsland) d2)
  have h5 : d4.KeepsIsland d5 := d4.clearRegs_keepsIsland fun o ho => by
    rw [decide_eq_false (show ¬ (0x800000 ≤ o ∧ o < 0xC00000) by omega), decide_eq_false (show ¬ 0x4000000 ≤ o by omega)]
    rfl
  have h6 : d.KeepsIsland d6 := ((h3.trans (f := d4) (.of_regs rfl)).trans h5).trans (.of_regs rfl)
  exact .ite h6 (h6.trans (d6.setN_keepsIsland (offIsland_above (by decide)) 0))

theorem Device.clearTenantPage_keepsIsland (d : Device) (t : Nat) : d.KeepsIsland (d.clearTenantPage t) := by
  unfold Device.clearTenantPage
  extract_lets pg d1 d2
  have h1 : d.KeepsIsland d1 := d.zeroRegs_keepsIsland fun o ho => offIsland_above (by
    simp only [List.mem_cons, List.not_mem_nil, or_false, R.ten_SKL_SRC_LO, R.ten_SKL_SRC_HI, R.ten_SKL_STATUS, R.ten_SKL_LEN, pg] at ho
    omega)
  have h2 : d.KeepsIsland d2 := h1.trans (.of_regs rfl)
  refine .ite (h2.trans ?_) h2
  have hpend : d2.KeepsIsland { d2 with pend := d2.pend.filter fun c => !(c.page == pg) } := .of_regs rfl
  exact hpend.trans (Device.setN_keepsIsland _ (offIsland_above (by omega)) 0)

theorem Device.resetTenant_keepsIsland (d : Device) (t : Nat) : d.KeepsIsland (d.resetTenant t) :=
  ((d.failReader_keepsIsland _).trans (Device.clearTenantQueues_keepsIsland _ t)).trans (Device.clearTenantPage_keepsIsland _ t)

/-! ### A pipeline (R240) -/

theorem Device.modTile_keepsIsland (d : Device) (k c : Nat) (f : Tile → Tile) : d.KeepsIsland (d.modTile k c f) :=
  .of_reg fun o ho => d.account_reg k c fun hm => by
    simp only [waitCounters, List.mem_cons, List.not_mem_nil, or_false, R.trw_GATED_CYCLES_LO, R.trw_WAIT_IN_LO, R.trw_WAIT_OUT_LO] at hm
    omega

theorem Device.clearTile_keepsIsland (d : Device) (c k : Nat) : d.KeepsIsland (d.clearTile c k) := by
  unfold Device.clearTile
  extract_lets d1 m d2 d3
  have h1 : d.KeepsIsland d1 := d.modTile_keepsIsland k c _
  have h3 : d1.KeepsIsland d3 := .of_regs rfl
  exact (h1.trans h3).trans (.foldl (fun d i _ => d.setN_keepsIsland (offIsland_above (by simp only [R.trw_FRAME_ORD]; omega)) 0) d3)

theorem Device.clearRegion_keepsIsland (d : Device) (p : Nat) : d.KeepsIsland (d.clearRegion p) :=
  Device.KeepsIsland.trans (.foldl (fun e k _ => e.clearTile_keepsIsland e.now.cyc k) d) (.of_regs rfl)

theorem Device.resetPipe_keepsIsland (d : Device) (p : Nat) : d.KeepsIsland (d.resetPipe p) := by
  unfold Device.resetPipe
  extract_lets d1 d2 d3 x d4
  have habove : ∀ o ∈ [R.sch_PIPE_STATE p, R.sch_FAULT_INFO p, skimRecord p], OffIsland o := fun o ho => offIsland_above (by
    simp only [List.mem_cons, List.not_mem_nil, or_false, R.sch_PIPE_STATE, R.sch_FAULT_INFO, skimRecord, R.dad_SKIM_RECORD] at ho
    omega)
  have h1 : d.KeepsIsland d1 := ((d.settle_keepsIsland p).trans (Device.egrWaitEnd_keepsIsland _ p)).trans
    (Device.setF_keepsIsland _ (habove _ (by simp)) _ _ _)
  have h2 : d1.KeepsIsland d2 := .foldl (fun d j _ => (d.finish_keepsUnfinished _ _ _ _).keepsIsland) d1
  have h4 : d2.KeepsIsland d4 := (d2.clearRegion_keepsIsland p).trans (.of_regs rfl)
  exact ((h1.trans h2).trans h4).trans <| ((d4.setF_keepsIsland (habove _ (by simp)) _ _ _).trans
    (Device.setN_keepsIsland _ (habove _ (by simp)) _)).trans (Device.setN_keepsIsland _ (habove _ (by simp)) _)

/-- A reset pipeline shows RESETTING, whatever jobs it had. -/
theorem Device.resetPipe_resetting (d : Device) {p : Nat} (hp : p < 64) : (d.resetPipe p).pipeResetting p = true := by
  have hunf : ¬ FinishReg (R.sch_PIPE_STATE p) := by
    unfold FinishReg R.sch_PIPE_STATE R.hif_BME_DROPPED
    omega
  unfold Device.resetPipe
  extract_lets d1 d2 d3 x d4
  have h2 : d2.reg (R.sch_PIPE_STATE p) = d1.reg (R.sch_PIPE_STATE p) :=
    Device.KeepsUnfinished.foldl (k := fun (d : Device) (j : Job) => d.finishNow j.id 0x3F) (fun d j => d.finish_keepsUnfinished _ _ _ _) d1 _ hunf
  have h3 : d3.reg (R.sch_PIPE_STATE p) = d2.reg (R.sch_PIPE_STATE p) :=
    (d2.clearRegion_sparesPipes p).reg _ (ofPipe_sch (n := 0x100) hp (by omega) (by omega))
  have hword : ((d4.clearFault p).noRecord p).reg (R.sch_PIPE_STATE p) = setFld (d3.reg (R.sch_PIPE_STATE p)) 8 1 0 := by
    rw [Device.noRecord, Device.setN_eq, Device.reg_setReg, if_neg (skimRecord_ne (n := 0x100) hp (by omega)).symm,
      Device.clearFault, Device.setN_eq, Device.reg_setReg, if_neg (by unfold R.sch_PIPE_STATE R.sch_FAULT_INFO; omega),
      Device.setF_eq, Device.reg_setReg, if_pos rfl]
    rfl
  rw [Device.pipeResetting, Device.rf, hword, fld_setFld_beside _ _ (by omega) (by omega), h3, h2,
    show d1.reg (R.sch_PIPE_STATE p) = _ from (Device.reg_setReg _ _ _ _).trans (if_pos rfl), fld_setFld _ _ (by omega)]
  rfl

end Sys2Proof.Machine
end

section
/-! PROOFS. The recovery ladder, its timer and the supervisor watchdog (R597, R601 to R605, R608); O57. -/
namespace Sys2Proof.Machine

/-! ### Rungs -/

theorem Device.enterRung_reg (d : Device) (k : Nat) {o : Nat} (h : o ≠ R.flt_LADDER_STATE) : (d.enterRung k).reg o = d.reg o :=
  (Device.reg_setReg _ _ _ _).trans (if_neg h)

theorem Device.enterRung_state (d : Device) (k : Nat) : (d.enterRung k).reg R.flt_LADDER_STATE = wd (k + 65536 * d.rn (R.flt_LIMIT (k - 1))) :=
  (Device.reg_setReg _ _ _ _).trans (if_pos rfl)

theorem Device.enterRung_rung (d : Device) {k : Nat} (h : k < 4) : (d.enterRung k).rung = k := by
  rw [Device.rung, Device.rf, Device.enterRung_state, fld_wd (by decide)]
  omega

theorem OfIsland.ne_ladder {o : Nat} (h : OfIsland o) : o ≠ R.flt_LADDER_STATE := by
  rintro rfl
  obtain ⟨-, ⟨-, -, hflt⟩, -⟩ := h
  exact hflt (by decide)

theorem OfIsland.enterRung_reg {d : Device} {o : Nat} (h : OfIsland o) (k : Nat) : (d.enterRung k).reg o = d.reg o :=
  d.enterRung_reg k h.ne_ladder

theorem ofIsland_limit {k : Nat} (h : k < 3) : OfIsland (R.flt_LIMIT k) := by
  unfold OfIsland OfNoReport
  revert k
  decide

theorem ofIsland_ladder : OfIsland R.flt_LADDER_RESULT ∧ OfIsland R.flt_ESCALATIONS ∧ OfIsland R.flt_SWD_STATE ∧ OfIsland R.flt_SWD_EXPIRIES := by
  unfold OfIsland OfNoReport
  decide

theorem Device.requestDevReset_keepsIsland (d : Device) (c : Nat) : d.KeepsIsland (d.requestDevReset c) :=
  .ite (.refl d) (d.startDevReset_keepsIsland c)

theorem Device.requestDevReset_boot {d : Device} (hcore : d.boot.core = true) (hnone : d.boot.devReset = none) (c : Nat) :
    (d.requestDevReset c).boot.devReset = some c := by
  rw [Device.requestDevReset_starts hnone hcore]
  exact (congrArg Boot.devReset (d.startDevReset_spec c).1 :)

/-! ### LADDER_CMD (R601 to R603, R608) -/

section
variable {s : State} {q : Req} {a k : Nat} {act : Nat → Device → Device}

theorem ladderCmd_other (h : fld q.data 0 3 ≠ a) : ladderCmd q a k act s.dev = s.dev.at q.t := by
  unfold ladderCmd ladderWrite
  exact if_pos h

theorem ladderWrite_refused {f : Device → Device} (hw : Writes s q R.flt_LADDER_CMD = true) (ha : fld q.data 0 3 = a)
    (h0 : portCode q.port ≠ 0) (h7 : portCode q.port ≠ 7) :
    ladderWrite q a f s.dev = (s.dev.at q.t).err 0xF000 0x0001 (accessInfo q.port R.flt_LADDER_CMD true) (wd (portTenant q.port)) := by
  have hwho : whoOk .mgmtSup q.port R.flt_LADDER_CMD = false := by
    show (decide (portCode q.port = 0) || decide (portCode q.port = 7)) = false
    rw [decide_eq_false h0, decide_eq_false h7]
    rfl
  unfold ladderWrite
  rw [if_neg (not_not.2 ha), Device.writeAt_of_writes hw, if_neg (by rw [hwho]; decide), Device.errAccess,
    show errPage R.flt_LADDER_CMD = 0xF000 from by decide]

theorem ladderWrite_acts {f : Device → Device} (hw : Writes s q R.flt_LADDER_CMD = true) (ha : fld q.data 0 3 = a)
    (hport : portCode q.port = 0 ∨ portCode q.port = 7) : ladderWrite q a f s.dev = f (s.dev.at q.t) := by
  have hwho : whoOk .mgmtSup q.port R.flt_LADDER_CMD = true := by
    show (decide (portCode q.port = 0) || decide (portCode q.port = 7)) = true
    rw [Bool.or_eq_true, decide_eq_true_eq, decide_eq_true_eq]
    exact hport
  unfold ladderWrite
  rw [if_neg (not_not.2 ha), Device.writeAt_of_writes hw, if_pos hwho]

/-- An error of FLT by a port that may not write is LOCAL: it arms no ladder. -/
theorem Device.err_denied_ladder (d : Device) (lo hi : Word) : (d.err 0xF000 0x0001 lo hi).reg R.flt_LADDER_STATE = d.reg R.flt_LADDER_STATE := by
  have hclass : ∀ n, errClass ((blockAt 0xF000).getD (0, 0)).1 ((blockAt 0xF000).getD (0, 0)).2 0x0001 n = 0 := fun n => rfl
  have hlog : ∀ (e : Device) code, (e.faultLog 0xF000 code 0 lo hi).reg R.flt_LADDER_STATE = e.reg R.flt_LADDER_STATE := fun e code => by
    unfold Device.faultLog
    dsimp only
    rw [if_neg (by decide), Device.evtBit_reg _ _ _ _ (by decide), if_neg (by decide)]
    split
    · rw [Device.count_eq, Device.reg_setReg, if_neg (by decide), Device.setN_eq, Device.reg_setReg, if_neg (by decide)]
      rfl
    · rw [Device.setN_eq, Device.reg_setReg, if_neg (by decide)]
      rfl
  have hrec : ∀ (p : Prop) [Decidable p], ((((if p then d else (((d.setN (0xF000 + 0x30) (2 ^ 31 + 0x0001)).setReg (0xF000 + 0x38) lo).setReg
      (0xF000 + 0x3C) hi)).count (0xF000 + 0x34) 1).evtBit 0xF000 2).reg R.flt_LADDER_STATE) = d.reg R.flt_LADDER_STATE := fun p _ => by
    rw [Device.evtBit_reg _ _ _ _ (by decide), if_neg (by decide), Device.count_eq, Device.reg_setReg, if_neg (by decide)]
    split
    · rfl
    · rw [Device.reg_setReg, if_neg (by decide), Device.reg_setReg, if_neg (by decide), Device.setN_eq, Device.reg_setReg, if_neg (by decide)]
  unfold Device.err Device.errAs
  dsimp only
  rw [hclass]
  split
  · rw [hlog]
    exact hrec _
  · exact hrec _

/-- What a performed action shows: RESULT 1, its rung, and on a climb the rung's limit. -/
theorem ladderCmd_done (hw : Writes s q R.flt_LADDER_CMD = true) (ha : fld q.data 0 3 = a)
    (hport : portCode q.port = 0 ∨ portCode q.port = 7) (hk : 1 ≤ k ∧ k ≤ 3) (hrung : s.dev.rung ≤ k)
    (hkeep : (s.dev.at q.t).KeepsIsland (act (fld q.data 8 16) (s.dev.at q.t)))
    (hone : k = 1 → (act (fld q.data 8 16) (s.dev.at q.t)).rung = s.dev.rung) :
    let e := (act (fld q.data 8 16) (s.dev.at q.t)).setN R.flt_LADDER_RESULT 1
    let d := if e.rung < k then e.enterRung k else e
    ladderCmd q a k act s.dev = d ∧ d.reg R.flt_LADDER_RESULT = 1 ∧ d.rung = k ∧
      (s.dev.rung < k → d.reg R.flt_LADDER_STATE = wd (k + 65536 * s.dev.rn (R.flt_LIMIT (k - 1)))) := by
  intro e d
  obtain ⟨hk1, hk3⟩ := hk
  have heq : ladderCmd q a k act s.dev = d := by
    unfold ladderCmd
    rw [ladderWrite_acts hw ha hport, if_neg (show ¬ k < (s.dev.at q.t).rung from Nat.not_lt.2 hrung)]
  have hereg : ∀ o, o ≠ R.flt_LADDER_RESULT → e.reg o = (act (fld q.data 8 16) (s.dev.at q.t)).reg o := fun o ho =>
    (Device.reg_setReg _ _ _ _).trans (if_neg ho)
  have herung : e.rung = (act (fld q.data 8 16) (s.dev.at q.t)).rung := congrArg (fld · 0 2) (hereg _ (by decide))
  have hresult : e.reg R.flt_LADDER_RESULT = 1 := (Device.reg_setReg _ _ _ _).trans (if_pos rfl)
  have hlimit : e.rn (R.flt_LIMIT (k - 1)) = s.dev.rn (R.flt_LIMIT (k - 1)) := by
    have hof := ofIsland_limit (k := k - 1) (by omega)
    exact congrArg BitVec.toNat ((hereg _ (by unfold R.flt_LIMIT R.flt_LADDER_RESULT; omega)).trans (hkeep.reg _ hof))
  by_cases hlow : e.rung < k
  · have hd : d = e.enterRung k := if_pos hlow
    rw [hd]
    exact ⟨heq.trans hd, (e.enterRung_reg k (by decide)).trans hresult, e.enterRung_rung (by omega), fun _ => by rw [e.enterRung_state, hlimit]⟩
  · have hd : d = e := if_neg hlow
    have hstays : e.rung = s.dev.rung ∨ s.dev.rung = 0 ∧ e.rung = 1 := by
      rw [herung]
      exact hkeep.rung
    rw [hd]
    refine ⟨heq.trans hd, hresult, by omega, fun hclimb => ?_⟩
    exfalso
    have := hone
    omega

/-- After a performed action, what the rung does not show is as the action left it. -/
theorem ladderCmd_reg {e : Device} {o : Nat} (h : o ≠ R.flt_LADDER_RESULT) (h' : o ≠ R.flt_LADDER_STATE) (p : Prop) [Decidable p] (k : Nat) :
    (if p then (e.setN R.flt_LADDER_RESULT 1).enterRung k else e.setN R.flt_LADDER_RESULT 1).reg o = e.reg o := by
  split
  · rw [Device.enterRung_reg _ _ h', Device.setN_eq, Device.reg_setReg, if_neg h]
  · rw [Device.setN_eq, Device.reg_setReg, if_neg h]

theorem ladderCmd_units {e : Device} (p : Prop) [Decidable p] (k : Nat) :
    let d := if p then (e.setN R.flt_LADDER_RESULT 1).enterRung k else e.setN R.flt_LADDER_RESULT 1
    d.jobs = e.jobs ∧ d.queues = e.queues ∧ d.boot = e.boot := by
  dsimp only
  split <;> exact ⟨rfl, rfl, rfl⟩

end

/-! ### What the actions do (R602) -/

theorem Device.loseJobs_reg (d : Device) (g : Nat) {o : Nat} (h : ¬ FinishReg o) (h' : o ≠ R.qst_COMPLETED g) : (d.loseJobs g).reg o = d.reg o := by
  have hcount : ∀ (e : Device) st, (e.countJob g st).reg o = e.reg o := fun e st => (Device.reg_setReg _ _ _ _).trans (if_neg h')
  unfold Device.loseJobs
  extract_lets mine l d1 d2
  have h1 : d1.reg o = d.reg o := foldl_keeps (·.reg o) (fun d j _ => d.abandonJob_keepsUnfinished _ _ _ o h) d
  have h2 : d2.reg o = d1.reg o := foldl_keeps (·.reg o) (fun d j _ => by
    split
    · exact hcount d _
    · exact hcount d _) d1
  exact h2.trans h1

/-- A queue reset leaves its QCTL. -/
theorem Device.resetQueue_qctl (d : Device) {g : Nat} (hg : g < 65536) : (d.resetQueue g).reg (R.qst_QCTL g) = d.reg (R.qst_QCTL g) := by
  have hunf : ¬ FinishReg (R.qst_QCTL g) := by
    unfold FinishReg
    simp only [R.qst_QCTL, R.hif_BME_DROPPED]
    omega
  rw [Device.resetQueue_eq, Device.showReset_reg, Device.clearCounts_reg, Device.passTail, Device.setF_eq, Device.reg_setReg, if_neg, Device.setN_eq,
    Device.reg_setReg, if_neg, Device.setN_eq, Device.reg_setReg, if_neg, Device.writeMirror_reg, Device.setN_eq, Device.reg_setReg, if_neg,
    Device.setN_eq, Device.reg_setReg, if_neg]
  · exact Device.loseJobs_reg _ g hunf (by simp only [R.qst_QCTL, R.qst_COMPLETED]; omega)
  all_goals
    simp only [R.qst_HEAD, R.qst_FETCH_IDX, R.hif_BME_DROPPED, R.qen_RESET_OLD_HEAD, R.qen_RESET_ABANDONED, R.qst_QSTATUS, R.qst_QCTL, R.qst_COMPLETED,
      R.qen_QUEUE_CMD_STATUS]
    omega

/-- LADDER QUEUE_RESET: the queue is disabled and its reset is in progress. -/
theorem Device.ladderQueue_spec (d : Device) {g : Nat} (hg : g < 65536) :
    (d.ladderQueue g).qEnabled g = false ∧ ((d.ladderQueue g).queue g).resetTick.isSome = true := by
  unfold Device.ladderQueue
  extract_lets d1 d2
  have hword : d2.reg (R.qst_QCTL g) = setFld (d1.reg (R.qst_QCTL g)) 0 1 0 := (Device.reg_setReg _ _ _ _).trans (if_pos rfl)
  have hdis : ∀ e : Device, e.reg (R.qst_QCTL g) = d2.reg (R.qst_QCTL g) → e.qEnabled g = false := fun e he => by
    refine decide_eq_false ?_
    rw [Device.rf, he, hword, fld_setFld _ _ (by decide)]
    decide
  have hset : ∀ (e : Device) x, (e.setF R.qen_QUEUE_CMD_STATUS 1 1 x).reg (R.qst_QCTL g) = e.reg (R.qst_QCTL g) := fun e x =>
    (Device.reg_setReg _ _ _ _).trans (if_neg (by simp only [R.qst_QCTL, R.qen_QUEUE_CMD_STATUS]; omega))
  unfold Device.queueResetCmd
  rw [if_neg (by rw [hdis d2 rfl]; decide)]
  split
  next hbusy => exact ⟨hdis _ (hset d2 0), hbusy⟩
  next =>
    refine ⟨hdis _ ((Device.resetQueue_qctl _ hg).trans (hset d2 0)), ?_⟩
    rw [(Device.resetQueue_units _ g).1]
    rfl

section
variable {s : State} {q : Req}

/-- An action's command: the cases that do not perform it. -/
theorem ladder_declines {cmd : Instr} {a k : Nat} {act : Nat → Device → Device} (hx : ∀ s, exec cmd s = onDev (ladderCmd q a k act) s)
    (hw : Writes s q R.flt_LADDER_CMD = true) :
    (fld q.data 0 3 ≠ a → Completes cmd s fun t => t.dev = s.dev.at q.t ∧ KeepsHarts s t) ∧
    (fld q.data 0 3 = a → portCode q.port ≠ 0 → portCode q.port ≠ 7 → Completes cmd s fun t => t.dev.boot = s.dev.boot ∧
      t.dev.reg R.flt_LADDER_STATE = s.dev.reg R.flt_LADDER_STATE ∧ t.dev.reg (0xF000 + 0x34) = satAdd (s.dev.reg (0xF000 + 0x34)) 1 ∧ KeepsHarts s t) ∧
    (fld q.data 0 3 = a → portCode q.port = 0 ∨ portCode q.port = 7 → k < s.dev.rung → Completes cmd s fun t =>
      t.dev.reg R.flt_LADDER_RESULT = 2 ∧ KeepsRegs s t [R.flt_LADDER_RESULT] ∧ RegsOnly s t) := by
  refine ⟨fun ha => completes_dev (hx s) (ladderCmd_other ha) ⟨rfl, rfl, rfl⟩, fun ha h0 h7 => ?_, fun ha hport hlow => ?_⟩
  · have hcount := (s.dev.at q.t).err_count 0xF000 0x0001 (accessInfo q.port R.flt_LADDER_CMD true) (wd (portTenant q.port)) (by decide)
    have hladder := (s.dev.at q.t).err_denied_ladder (accessInfo q.port R.flt_LADDER_CMD true) (wd (portTenant q.port))
    exact completes_dev (hx s) (ladderWrite_refused hw ha h0 h7) ⟨((s.dev.at q.t).err_speaks _ _ _ _).sparesBoot.boot, hladder, hcount, rfl, rfl⟩
  · have heq : ladderCmd q a k act s.dev = (s.dev.at q.t).setN R.flt_LADDER_RESULT 2 := by
      unfold ladderCmd
      rw [ladderWrite_acts hw ha hport]
      exact if_pos hlow
    exact completes_dev (hx s) heq ⟨(Device.reg_setReg _ _ _ _).trans (if_pos rfl),
      fun o ho => (Device.reg_setReg _ _ _ _).trans (if_neg (mt List.mem_singleton.2 ho)), rfl, rfl, rfl⟩

/-- An action's command, performed: what every action shows, and what its own effect is. -/
theorem ladder_performs {cmd : Instr} {a k : Nat} {act : Nat → Device → Device} {P : Device → Prop} (hx : ∀ s, exec cmd s = onDev (ladderCmd q a k act) s)
    (hw : Writes s q R.flt_LADDER_CMD = true) (ha : fld q.data 0 3 = a) (hport : portCode q.port = 0 ∨ portCode q.port = 7)
    (hk : 1 ≤ k ∧ k ≤ 3) (hrung : s.dev.rung ≤ k) (hkeep : (s.dev.at q.t).KeepsIsland (act (fld q.data 8 16) (s.dev.at q.t)))
    (hone : k = 1 → (act (fld q.data 8 16) (s.dev.at q.t)).rung = s.dev.rung)
    (hown : ∀ d : Device, d.jobs = (act (fld q.data 8 16) (s.dev.at q.t)).jobs → d.queues = (act (fld q.data 8 16) (s.dev.at q.t)).queues →
      d.boot = (act (fld q.data 8 16) (s.dev.at q.t)).boot →
      (∀ o, o ≠ R.flt_LADDER_RESULT → o ≠ R.flt_LADDER_STATE → d.reg o = (act (fld q.data 8 16) (s.dev.at q.t)).reg o) → P d) :
    Completes cmd s fun t => (t.dev.reg R.flt_LADDER_RESULT = 1 ∧ t.dev.rung = k ∧
      (s.dev.rung < k → t.dev.reg R.flt_LADDER_STATE = wd (k + 65536 * s.dev.rn (R.flt_LIMIT (k - 1)))) ∧ KeepsHarts s t) ∧ P t.dev := by
  obtain ⟨heq, hresult, hlevel, hclimb⟩ := ladderCmd_done hw ha hport hk hrung hkeep hone
  have hregs := fun o h h' => ladderCmd_reg (e := act (fld q.data 8 16) (s.dev.at q.t)) (o := o) h h'
    (((act (fld q.data 8 16) (s.dev.at q.t)).setN R.flt_LADDER_RESULT 1).rung < k) k
  obtain ⟨hjobs, hqueues, hboot⟩ := ladderCmd_units (e := act (fld q.data 8 16) (s.dev.at q.t))
    (((act (fld q.data 8 16) (s.dev.at q.t)).setN R.flt_LADDER_RESULT 1).rung < k) k
  exact completes_dev (hx s) heq ⟨⟨hresult, hlevel, hclimb, rfl, rfl⟩, hown _ hjobs hqueues hboot hregs⟩

end

/-! ### The timer of the ladder (R604) -/

section
variable {s : State} {k : Nat}

/-- The timer of rungs 1 and 2 ends: the escalation counted and logged. -/
def Device.escalated (d : Device) (k : Nat) : Device := ((d.count R.flt_ESCALATIONS 1).evtBit 0xF000 17).err 0xF000 0x0100 (wd k) 0

theorem Device.escalated_spec (d : Device) (k : Nat) : (d.escalated k).boot = d.boot ∧
    (d.escalated k).reg R.flt_ESCALATIONS = satAdd (d.reg R.flt_ESCALATIONS) 1 ∧ (d.escalated k).rf (0xF000 + 0x20) 17 1 = 1 ∧
    (d.escalated k).reg (R.flt_LIMIT 2) = d.reg (R.flt_LIMIT 2) := by
  have hesc := ofIsland_ladder.2.1
  have hlimit := ofIsland_limit (k := 2) (by decide)
  let e := (d.count R.flt_ESCALATIONS 1).evtBit 0xF000 17
  have hevt : ∀ o, OfIsland o → e.reg o = (d.count R.flt_ESCALATIONS 1).reg o := fun o ho => (Device.evtBit_keepsIsland _ rfl 17).reg o ho
  have herr := e.err_keepsIsland (pg := 0xF000) rfl 0x0100 (wd k) 0
  refine ⟨?_, ?_, ?_, ?_⟩
  · exact ((Device.err_speaks _ _ _ _ _).sparesBoot.boot).trans (Device.evtBit_speaks (d.count R.flt_ESCALATIONS 1) _ _).sparesBoot.boot
  · exact (herr.reg _ hesc).trans ((hevt _ hesc).trans ((Device.reg_setReg _ _ _ _).trans (if_pos rfl)))
  · refine herr.raw _ (.inr rfl) 17 ?_
    rw [Device.rf, Device.evtBit_reg _ _ _ _ (by decide), if_pos rfl]
    exact fld_or_bit _ (by decide)
  · exact (herr.reg _ hlimit).trans ((hevt _ hlimit).trans ((Device.reg_setReg _ _ _ _).trans (if_neg (by decide))))

theorem ladderExpiry_eq (hdue : s.dev.ladderEnd ≤ (s.dev.at k).now.tick ∧ s.dev.rf R.flt_DEV_FAULT 1 1 = 0) (hrung : s.dev.rung ≠ 0) :
    ladderExpiry k s.dev = if s.dev.rung < 3 then (((s.dev.at k).escalated s.dev.rung).requestDevReset 5).enterRung 3
      else if s.dev.rf R.flt_LADDER_STATE 2 1 = 0 then (((s.dev.at k).requestDevReset 5).enterRung 3).setF R.flt_LADDER_STATE 2 1 1
      else ((s.dev.at k).countStretch.setF R.flt_DEV_FAULT 1 1 1).presenceSync := by
  obtain ⟨hend, hrest⟩ := hdue
  unfold ladderExpiry
  refine if_neg ?_
  rintro (h | h | h)
  · exact hrung h
  · exact absurd hend (Nat.not_le.2 h)
  · exact absurd (hrest.symm.trans h) (by decide)

theorem ladderExpiry_idle (h : s.dev.rung = 0 ∨ ¬ (s.dev.ladderEnd ≤ (s.dev.at k).now.tick ∧ s.dev.rf R.flt_DEV_FAULT 1 1 = 0)) :
    ladderExpiry k s.dev = s.dev.at k := by
  unfold ladderExpiry
  refine if_pos ?_
  have hbit := fld_lt (s.dev.reg R.flt_DEV_FAULT) 1 1
  obtain h | h := h
  · exact .inl h
  · by_cases hend : s.dev.ladderEnd ≤ (s.dev.at k).now.tick
    · refine .inr (.inr ?_)
      have hone : s.dev.rf R.flt_DEV_FAULT 1 1 ≠ 0 := fun h0 => h ⟨hend, h0⟩
      show s.dev.rf R.flt_DEV_FAULT 1 1 = 1
      unfold Device.rf at hone ⊢
      omega
    · exact .inr (.inl (Nat.lt_of_not_le hend))

theorem completes_ladderExpiry_escalates (hdue : s.dev.ladderEnd ≤ (s.dev.at k).now.tick ∧ s.dev.rf R.flt_DEV_FAULT 1 1 = 0)
    (hcore : s.dev.boot.core = true) (hnone : s.dev.boot.devReset = none) (hrung : s.dev.rung = 1 ∨ s.dev.rung = 2) :
    Completes (.ladderExpiry k) s fun t => t.dev.boot.devReset = some 5 ∧ t.dev.reg R.flt_LADDER_STATE = wd (3 + 65536 * s.dev.rn (R.flt_LIMIT 2)) ∧
      t.dev.reg R.flt_ESCALATIONS = satAdd (s.dev.reg R.flt_ESCALATIONS) 1 ∧ t.dev.rf (0xF000 + 0x20) 17 1 = 1 ∧ KeepsHarts s t := by
  have heq := ladderExpiry_eq hdue (by omega)
  rw [if_pos (by omega)] at heq
  obtain ⟨hboot, hcount, hraw, hlimit⟩ := (s.dev.at k).escalated_spec s.dev.rung
  have hreset := Device.requestDevReset_boot (d := (s.dev.at k).escalated s.dev.rung) (by rw [hboot]; exact hcore) (by rw [hboot]; exact hnone) 5
  have hkeeps := ((s.dev.at k).escalated s.dev.rung).requestDevReset_keepsIsland 5
  have hesc := ofIsland_ladder.2.1
  refine completes_dev rfl heq ⟨hreset, ?_, (hesc.enterRung_reg 3).trans ((hkeeps.reg _ hesc).trans hcount), ?_, rfl, rfl⟩
  · have hn : (((s.dev.at k).escalated s.dev.rung).requestDevReset 5).rn (R.flt_LIMIT 2) = s.dev.rn (R.flt_LIMIT 2) :=
      congrArg BitVec.toNat ((hkeeps.reg _ (ofIsland_limit (k := 2) (by decide))).trans hlimit)
    exact (Device.enterRung_state _ 3).trans (congrArg (fun n => wd (3 + 65536 * n)) hn)
  · exact (congrArg (fld · 17 1) (Device.enterRung_reg _ 3 (by decide))).trans (hkeeps.raw _ (.inr rfl) 17 hraw)

theorem completes_ladderExpiry_again (hdue : s.dev.ladderEnd ≤ (s.dev.at k).now.tick ∧ s.dev.rf R.flt_DEV_FAULT 1 1 = 0)
    (hcore : s.dev.boot.core = true) (hnone : s.dev.boot.devReset = none) (hrung : s.dev.rung = 3) (honce : s.dev.rf R.flt_LADDER_STATE 2 1 = 0) :
    Completes (.ladderExpiry k) s fun t => t.dev.boot.devReset = some 5 ∧ t.dev.rung = 3 ∧ t.dev.rf R.flt_LADDER_STATE 2 1 = 1 ∧
      t.dev.reg R.flt_ESCALATIONS = s.dev.reg R.flt_ESCALATIONS ∧ KeepsHarts s t := by
  have heq := ladderExpiry_eq hdue (by omega)
  rw [if_neg (by omega), if_pos honce] at heq
  have hreset := Device.requestDevReset_boot (d := s.dev.at k) hcore hnone 5
  have hkeeps := (s.dev.at k).requestDevReset_keepsIsland 5
  have hesc := ofIsland_ladder.2.1
  have hword : ((((s.dev.at k).requestDevReset 5).enterRung 3).setF R.flt_LADDER_STATE 2 1 1).reg R.flt_LADDER_STATE =
      setFld ((((s.dev.at k).requestDevReset 5).enterRung 3).reg R.flt_LADDER_STATE) 2 1 1 := (Device.reg_setReg _ _ _ _).trans (if_pos rfl)
  refine completes_dev rfl heq ⟨hreset, ?_, ?_, ?_, rfl, rfl⟩
  · refine (congrArg (fld · 0 2) hword).trans ((fld_setFld_beside _ _ (by decide) (by decide)).trans ?_)
    exact Device.enterRung_rung _ (by decide)
  · exact (congrArg (fld · 2 1) hword).trans (fld_setFld _ _ (by decide))
  · refine ((Device.reg_setReg _ _ _ _).trans (if_neg (by decide))).trans ?_
    exact (hesc.enterRung_reg 3).trans (hkeeps.reg _ hesc)

theorem completes_ladderExpiry_exhausted (hdue : s.dev.ladderEnd ≤ (s.dev.at k).now.tick ∧ s.dev.rf R.flt_DEV_FAULT 1 1 = 0)
    (hrung : s.dev.rung = 3) (hagain : s.dev.rf R.flt_LADDER_STATE 2 1 = 1) :
    Completes (.ladderExpiry k) s fun t => t.dev.rf R.flt_DEV_FAULT 1 1 = 1 ∧ t.dev.arrayRuns = false ∧ t.dev.boot = s.dev.boot ∧ KeepsHarts s t := by
  have heq := ladderExpiry_eq hdue (by omega)
  rw [if_neg (by omega), if_neg (by omega)] at heq
  let e := (s.dev.at k).countStretch.setF R.flt_DEV_FAULT 1 1 1
  have hfault : e.presenceSync.rf R.flt_DEV_FAULT 1 1 = 1 := by
    rw [Device.rf, Device.presenceSync_reg _ ofIsland_devFault.2.1.notMem_presence,
      show e.reg R.flt_DEV_FAULT = _ from (Device.reg_setReg _ _ _ _).trans (if_pos rfl), fld_setFld _ _ (by decide)]
    rfl
  have hstop : e.presenceSync.arrayRuns = false := by
    unfold Device.arrayRuns
    rw [hfault]
    exact Bool.and_false _
  have hboot : e.presenceSync.boot = s.dev.boot := (Device.presenceSync_speaks e).sparesBoot.boot.trans (s.dev.at k).countStretch_sparesBoot.boot
  exact completes_dev rfl heq ⟨hfault, hstop, hboot, rfl, rfl⟩

end

/-! ### The supervisor watchdog (R605) -/

/-- A DEVICE fault: DEV_FAULT shows it, the ladder stands at rung 3 and, unless one is in progress, a device reset with cause 5 starts (R597). -/
theorem Device.deviceFault_spec (d : Device) (code : Nat) : (d.deviceFault code).rung = 3 ∧ (d.deviceFault code).rf R.flt_DEV_FAULT 0 1 = 1 ∧
    (∀ o, OfIsland o → o ≠ R.flt_DEV_FAULT → (d.deviceFault code).reg o = d.reg o) ∧
    (d.boot.core = true → d.boot.devReset = none → (d.deviceFault code).boot.devReset = some 5) := by
  unfold Device.deviceFault
  extract_lets d1 d2
  let e := (d.setF R.flt_DEV_FAULT 0 1 1).setF R.flt_DEV_FAULT 16 16 code
  have he : ∀ o, o ≠ R.flt_DEV_FAULT → e.reg o = d.reg o := fun o ho => by
    simp only [e, Device.setF_eq]
    rw [Device.reg_setReg, if_neg ho, Device.reg_setReg, if_neg ho]
  have hef : e.rf R.flt_DEV_FAULT 0 1 = 1 := by
    simp only [e, Device.setF_eq, Device.rf_eq]
    rw [Device.reg_setReg, if_pos rfl, fld_setFld_beside _ _ (by decide) (by decide), Device.reg_setReg, if_pos rfl,
      fld_setFld _ _ (by decide), Nat.one_mod_two_pow_eq_one.2 (by decide)]
  have hemit : d1.KeepsIsland (if d.rf R.flt_DEV_FAULT 0 1 = 0 then d1.emit (.aer 0 false) else d1) := .ite (.of_regs rfl) (.refl _)
  have h1 : e.KeepsIsland d1 := e.evtBit_keepsIsland rfl 16
  have h2 : e.KeepsIsland (d2.requestDevReset 5) :=
    ((h1.trans hemit).trans (Device.presenceSync_keepsIsland _)).trans (d2.requestDevReset_keepsIsland 5)
  have hboot : d2.boot = d.boot := by
    refine (Device.presenceSync_speaks _).sparesBoot.boot.trans ?_
    have hd1 : d1.boot = d.boot := (Device.evtBit_speaks e 0xF000 16).sparesBoot.boot
    split
    · exact hd1
    · exact hd1
  refine ⟨Device.enterRung_rung _ (by decide), ?_, fun o ho hne => ?_, fun hcore hnone => ?_⟩
  · rw [Device.rf, ofIsland_devFault.enterRung_reg, h2.reg _ ofIsland_devFault]
    exact hef
  · rw [ho.enterRung_reg, h2.reg o ho, he o hne]
  · exact Device.requestDevReset_boot (d := d2) (by rw [hboot]; exact hcore) (by rw [hboot]; exact hnone) 5

section
variable {s : State} {k : Nat}

/-- A word with a bit for each of the four harts. -/
theorem fld_four {h : Nat} (hh : h < 4) : fld (0xF : Word) h 1 = 1 := by
  revert h
  decide

/-- Restarting a hart where it is FAULTED is restarting it. -/
theorem State.restartBit_faulted (t : State) {h : Nat} (hh : h < 4) :
    (if (Store.get hart0 t.harts.all h).st = .faulted then t.restartHart h else t) = t.restartBit 0xF h := by
  unfold State.restartBit
  rw [if_pos (fld_four hh)]
  split
  next => rfl
  next hno =>
    unfold State.restartHart
    exact (if_neg hno).symm

/-- Restarting every FAULTED hart is a RESTART of all four (R439). -/
theorem State.restartFaulted_eq (s : State) : s.restartFaulted = (List.range 4).foldl (State.restartBit 0xF) s := by
  have hlist : ∀ (l : List Nat), (∀ h ∈ l, h < 4) → ∀ t : State, l.foldl (fun s h =>
      if (Store.get hart0 s.harts.all h).st = .faulted then s.restartHart h else s) t = l.foldl (State.restartBit 0xF) t := fun l => by
    induction l with
    | nil => exact fun _ _ => rfl
    | cons a l ih =>
      intro hl t
      obtain ⟨ha, hl⟩ := List.forall_mem_cons.1 hl
      rw [List.foldl_cons, List.foldl_cons, t.restartBit_faulted ha, ih hl]
  unfold State.restartFaulted
  exact hlist _ (fun h hh => List.mem_range.1 hh) s

theorem Device.setF_boot (d : Device) (o lo w x : Nat) : (d.setF o lo w x).boot = d.boot := rfl

/-- Restarting harts touches nothing of the device but the harts' FCODE. -/
theorem State.restartBit_dev (v : Word) (s : State) {h : Nat} (hh : h < 4) :
    s.dev.KeepsIsland (s.restartBit v h).dev ∧ (s.restartBit v h).dev.boot = s.dev.boot := by
  unfold State.restartBit State.restartHart
  dsimp only
  split
  · split
    · have hoff : OffIsland (R.sup_HART_FCODE h) := .of_page (by unfold R.sup_HART_FCODE; omega)
      show s.dev.KeepsIsland (Device.setF s.dev (R.sup_HART_FCODE h) 31 1 0) ∧ (Device.setF s.dev (R.sup_HART_FCODE h) 31 1 0).boot = s.dev.boot
      exact ⟨s.dev.setF_keepsIsland hoff 31 1 0, s.dev.setF_boot _ 31 1 0⟩
    · exact ⟨.refl _, rfl⟩
  · exact ⟨.refl _, rfl⟩

theorem State.restartFaulted_spec (s : State) : s.dev.KeepsIsland s.restartFaulted.dev ∧ s.restartFaulted.dev.boot = s.dev.boot ∧
    s.restartFaulted.pending = s.pending ∧
    ∀ h < 4, ((s.hart h).st = .faulted → (s.restartFaulted.hart h).st = .idle ∧ (s.restartFaulted.hart h).loops = [] ∧ (s.restartFaulted.hart h).calls = []) ∧
      ((s.hart h).st ≠ .faulted → s.restartFaulted.hart h = s.hart h) := by
  have hdev : ∀ (l : List Nat), (∀ h ∈ l, h < 4) → ∀ (t : State),
      t.dev.KeepsIsland (l.foldl (State.restartBit 0xF) t).dev ∧ (l.foldl (State.restartBit 0xF) t).dev.boot = t.dev.boot := fun l => by
    induction l with
    | nil => exact fun _ t => ⟨.refl _, rfl⟩
    | cons a l ih =>
      intro hl t
      obtain ⟨ha, hl⟩ := List.forall_mem_cons.1 hl
      obtain ⟨hk, hb⟩ := t.restartBit_dev 0xF ha
      obtain ⟨hkl, hbl⟩ := ih hl (t.restartBit 0xF a)
      exact ⟨hk.trans hkl, hbl.trans hb⟩
  obtain ⟨hkeeps, hboot⟩ := hdev _ (fun h hh => List.mem_range.1 hh) s
  have hpending := s.restartFaulted_keeps.pending
  rw [State.restartFaulted_eq] at hpending ⊢
  refine ⟨hkeeps, hboot, hpending, fun h hh => ?_⟩
  obtain ⟨-, -, hin⟩ := State.restarts_spec 0xF (List.nodup_range (n := 4)) s h
  obtain ⟨hsame, hact⟩ := State.restartBit_same 0xF s h
  rw [(hin (List.mem_range.2 hh)).1]
  refine ⟨fun hf => ?_, fun hf => hsame (.inr hf)⟩
  obtain ⟨hst, -, hloops, hcalls, -⟩ := hact (fld_four hh) hf
  exact ⟨hst, hloops, hcalls⟩

end

section
variable {s : State} {k : Nat}

/-- The watchdog's count has ended: the tick from which it counts again. -/
def State.swdEnded (s : State) (k : Nat) : State := { s with dev := { s.dev.at k with sup := { s.dev.sup with swd := some (s.dev.at k).now.tick } } }

/-- An expiry of the watchdog is shown with the state n. -/
def Device.swdShown (d : Device) (n : Nat) : Device := ((d.setF R.flt_SWD_STATE 0 2 n).count R.flt_SWD_EXPIRIES 1).evtBit 0xF000 18

theorem Device.swdShown_spec (d : Device) {n : Nat} (hn : n < 4) : (d.swdShown n).rf R.flt_SWD_STATE 0 2 = n ∧
    (d.swdShown n).reg R.flt_SWD_EXPIRIES = satAdd (d.reg R.flt_SWD_EXPIRIES) 1 ∧ (d.swdShown n).boot = d.boot := by
  obtain ⟨-, -, hstate, hcount⟩ := ofIsland_ladder
  let e := (d.setF R.flt_SWD_STATE 0 2 n).count R.flt_SWD_EXPIRIES 1
  have hevt : ∀ o, OfIsland o → (d.swdShown n).reg o = e.reg o := fun o ho => (e.evtBit_keepsIsland rfl 18).reg o ho
  refine ⟨?_, ?_, (e.evtBit_speaks _ _).sparesBoot.boot⟩
  · rw [Device.rf, hevt _ hstate]
    simp only [e, Device.count_eq, Device.setF_eq]
    rw [Device.reg_setReg, if_neg (by decide), Device.reg_setReg, if_pos rfl, fld_setFld _ _ (by decide), Nat.mod_eq_of_lt (show n < 2 ^ 2 from hn)]
  · rw [hevt _ hcount]
    simp only [e, Device.count_eq, Device.setF_eq]
    rw [Device.reg_setReg, if_pos rfl, Device.reg_setReg, if_neg (by decide)]

theorem swdExpiry_idle (h : (s.dev.sup.swd = none ∨ ∃ x, s.dev.sup.swd = some x ∧ (s.dev.at k).now.tick < x + 1000000 * s.dev.rf R.flt_SWD_CFG 0 10) ∨
    2 ≤ s.dev.rf R.flt_SWD_STATE 0 2) : swdExpiry k s = s.onDevice (·.at k) := by
  unfold swdExpiry
  dsimp only
  split
  next => rfl
  next hdue =>
    obtain h | h := h
    · refine absurd ?_ hdue
      show (!(s.dev.sup.swd.any fun x => decide (x + 1000000 * s.dev.rf R.flt_SWD_CFG 0 10 ≤ (s.dev.at k).now.tick))) = true
      obtain h | ⟨x, hx, hlt⟩ := h
      · rw [h]
        rfl
      · rw [hx, Option.any_some, decide_eq_false (Nat.not_le.2 hlt)]
        rfl
    · split
      next h0 => exact absurd (h.trans_eq h0) (by decide)
      next h1 => exact absurd (h.trans_eq h1) (by decide)
      next => rfl

theorem swdExpiry_due {x : Nat} (hswd : s.dev.sup.swd = some x) (hdue : x + 1000000 * s.dev.rf R.flt_SWD_CFG 0 10 ≤ (s.dev.at k).now.tick) :
    (s.dev.rf R.flt_SWD_STATE 0 2 = 0 → swdExpiry k s =
      { (s.swdEnded k).restartFaulted with
        dev := (((s.swdEnded k).restartFaulted.dev.swdShown 1).err 0xF000 0x0101 1 0).deviceFault 0x0101 }) ∧
    (s.dev.rf R.flt_SWD_STATE 0 2 = 1 → swdExpiry k s =
      { s with dev := (((s.dev.at k).swdShown 2).setF R.iob_PRESENCE_STATUS 2 1 1).presenceSync }) := by
  have hany : ¬ ((!(s.dev.sup.swd.any fun x => decide (x + 1000000 * s.dev.rf R.flt_SWD_CFG 0 10 ≤ (s.dev.at k).now.tick))) = true) := by
    rw [hswd, Option.any_some, decide_eq_true hdue]
    decide
  refine ⟨fun hst => ?_, fun hst => ?_⟩
  all_goals
    unfold swdExpiry
    refine (if_neg hany).trans ?_
    rw [show (s.dev.at k).rf R.flt_SWD_STATE 0 2 = _ from hst]
    rfl

/-- CYCLE_REQ_N, once asserted, stays so while PRESENCE_STATUS follows its conditions. -/
theorem Device.presenceSync_request (d : Device) : d.presenceSync.rf R.iob_PRESENCE_STATUS 2 1 = d.rf R.iob_PRESENCE_STATUS 2 1 := by
  have hset : ((d.setF R.iob_PRESENCE_STATUS 0 1 (b2n d.devOk)).setF R.iob_PRESENCE_STATUS 1 1 (b2n d.faultState)).rf R.iob_PRESENCE_STATUS 2 1 =
      d.rf R.iob_PRESENCE_STATUS 2 1 := by
    simp only [Device.setF_eq, Device.rf_eq]
    rw [Device.reg_setReg, if_pos rfl, fld_setFld_beside _ _ (by decide) (by decide), Device.reg_setReg, if_pos rfl,
      fld_setFld_beside _ _ (by decide) (by decide)]
  unfold Device.presenceSync
  dsimp only
  split
  · rw [Device.rf, Device.evtBit_reg _ _ _ _ (by decide), if_neg (by decide)]
    exact hset
  · exact hset

theorem completes_swdExpiry_first {x : Nat} (hswd : s.dev.sup.swd = some x)
    (hdue : x + 1000000 * s.dev.rf R.flt_SWD_CFG 0 10 ≤ (s.dev.at k).now.tick) (hst : s.dev.rf R.flt_SWD_STATE 0 2 = 0) :
    Completes (.swdExpiry k) s fun t => t.dev.rf R.flt_SWD_STATE 0 2 = 1 ∧
      t.dev.reg R.flt_SWD_EXPIRIES = satAdd (s.dev.reg R.flt_SWD_EXPIRIES) 1 ∧ t.dev.rf R.flt_DEV_FAULT 0 1 = 1 ∧ t.dev.rung = 3 ∧
      (s.dev.boot.core = true → s.dev.boot.devReset = none → t.dev.boot.devReset = some 5) ∧ t.pending = s.pending ∧
      ∀ h < 4, ((s.hart h).st = .faulted → (t.hart h).st = .idle ∧ (t.hart h).loops = [] ∧ (t.hart h).calls = []) ∧
        ((s.hart h).st ≠ .faulted → t.hart h = s.hart h) := by
  obtain ⟨-, -, hstate, hcount⟩ := ofIsland_ladder
  obtain ⟨hkeeps, hboot, hpending, hharts⟩ := (s.swdEnded k).restartFaulted_spec
  have hrun := (swdExpiry_due hswd hdue).1 hst
  have hshown := (s.swdEnded k).restartFaulted.dev.swdShown_spec (n := 1) (by decide)
  generalize (s.swdEnded k).restartFaulted = r at hkeeps hboot hpending hharts hrun hshown
  obtain ⟨hone, hexp, hsame⟩ := hshown
  have herr := (r.dev.swdShown 1).err_keepsIsland (pg := 0xF000) rfl 0x0101 1 0
  have herrBoot : ((r.dev.swdShown 1).err 0xF000 0x0101 1 0).boot = s.dev.boot :=
    (Device.err_speaks _ _ _ _ _).sparesBoot.boot.trans (hsame.trans hboot)
  obtain ⟨hrung, hfault, hother, hreset⟩ := ((r.dev.swdShown 1).err 0xF000 0x0101 1 0).deviceFault_spec 0x0101
  refine ⟨_, congrArg Host.Outcome.next hrun, ?_, ?_, hfault, hrung, fun hc hn => hreset (by rw [herrBoot]; exact hc) (by rw [herrBoot]; exact hn),
    hpending, hharts⟩
  · exact (congrArg (fld · 0 2) ((hother _ hstate (by decide)).trans (herr.reg _ hstate))).trans hone
  · refine ((hother _ hcount (by decide)).trans (herr.reg _ hcount)).trans (hexp.trans ?_)
    exact congrArg (satAdd · 1) (hkeeps.reg _ hcount)

theorem completes_swdExpiry_second {x : Nat} (hswd : s.dev.sup.swd = some x)
    (hdue : x + 1000000 * s.dev.rf R.flt_SWD_CFG 0 10 ≤ (s.dev.at k).now.tick) (hst : s.dev.rf R.flt_SWD_STATE 0 2 = 1) :
    Completes (.swdExpiry k) s fun t => t.dev.rf R.flt_SWD_STATE 0 2 = 2 ∧
      t.dev.reg R.flt_SWD_EXPIRIES = satAdd (s.dev.reg R.flt_SWD_EXPIRIES) 1 ∧ t.dev.rf R.iob_PRESENCE_STATUS 2 1 = 1 ∧
      t.dev.boot = s.dev.boot ∧ KeepsHarts s t := by
  obtain ⟨-, -, hstate, hcount⟩ := ofIsland_ladder
  obtain ⟨htwo, hexp, hsame⟩ := (s.dev.at k).swdShown_spec (n := 2) (by decide)
  have hrun := (swdExpiry_due hswd hdue).2 hst
  generalize (s.dev.at k).swdShown 2 = e at hrun htwo hexp hsame
  have hreg : ∀ o, OfIsland o → (e.setF R.iob_PRESENCE_STATUS 2 1 1).presenceSync.reg o = e.reg o := fun o ho =>
    (Device.presenceSync_reg _ ho.2.1.notMem_presence).trans ((Device.reg_setReg _ _ _ _).trans
      (if_neg fun h => (h ▸ ho.2.1.notMem_presence) List.mem_cons_self))
  refine ⟨_, congrArg Host.Outcome.next hrun, ?_, (hreg _ hcount).trans hexp, ?_, ?_, rfl, rfl⟩
  · exact (congrArg (fld · 0 2) (hreg _ hstate)).trans htwo
  · refine (Device.presenceSync_request _).trans ?_
    rw [Device.rf, Device.setF_eq, Device.reg_setReg, if_pos rfl]
    exact fld_setFld _ _ (by decide)
  · exact (Device.presenceSync_speaks _).sparesBoot.boot.trans hsame

end

/-! ### O57 -/

section
variable {s : State} {q : Req} (hw : Writes s q R.flt_LADDER_CMD = true) (hport : portCode q.port = 0 ∨ portCode q.port = 7)
include hw hport

theorem completes_ladderRetry (ha : fld q.data 0 3 = 1) (hrung : s.dev.rung ≤ 1) :
    Completes (.ladderRetry q) s fun t => (t.dev.reg R.flt_LADDER_RESULT = 1 ∧ t.dev.rung = 1 ∧
      (s.dev.rung < 1 → t.dev.reg R.flt_LADDER_STATE = wd (1 + 65536 * s.dev.rn (R.flt_LIMIT (1 - 1)))) ∧ KeepsHarts s t) ∧
      ∀ o, o ∉ [R.flt_LADDER_RESULT, R.flt_LADDER_STATE] → t.dev.reg o = s.dev.reg o :=
  ladder_performs (P := fun d => ∀ o, o ∉ [R.flt_LADDER_RESULT, R.flt_LADDER_STATE] → d.reg o = s.dev.reg o) (fun _ => rfl) hw ha hport (by decide)
    hrung (.refl _) (fun _ => rfl) fun d _ _ _ hreg o ho => by
      simp only [List.mem_cons, List.not_mem_nil, or_false, not_or] at ho
      exact hreg o ho.1 ho.2

theorem completes_ladderQueueReset (ha : fld q.data 0 3 = 2) (hrung : s.dev.rung ≤ 2) :
    Completes (.ladderQueueReset q) s fun t => (t.dev.reg R.flt_LADDER_RESULT = 1 ∧ t.dev.rung = 2 ∧
      (s.dev.rung < 2 → t.dev.reg R.flt_LADDER_STATE = wd (2 + 65536 * s.dev.rn (R.flt_LIMIT (2 - 1)))) ∧ KeepsHarts s t) ∧
      t.dev.qEnabled (fld q.data 8 16) = false ∧ (t.dev.queue (fld q.data 8 16)).resetTick.isSome = true := by
  have hg := fld_lt q.data 8 16
  obtain ⟨hdis, htick⟩ := (s.dev.at q.t).ladderQueue_spec hg
  refine ladder_performs (P := fun d => d.qEnabled (fld q.data 8 16) = false ∧ (d.queue (fld q.data 8 16)).resetTick.isSome = true) (fun _ => rfl) hw ha
    hport (by decide) hrung (Device.ladderQueue_keepsIsland _ _) (fun h => absurd h (by decide)) fun d _ hqueues _ hreg => ⟨?_, ?_⟩
  · have hctl := hreg (R.qst_QCTL (fld q.data 8 16)) (by simp only [R.qst_QCTL, R.flt_LADDER_RESULT]; omega)
      (by simp only [R.qst_QCTL, R.flt_LADDER_STATE]; omega)
    unfold Device.qEnabled Device.rf at hdis ⊢
    rw [hctl]
    exact hdis
  · unfold Device.queue at htick ⊢
    rw [hqueues]
    exact htick

theorem completes_ladderTenantReset (ha : fld q.data 0 3 = 3) (hrung : s.dev.rung ≤ 2) :
    Completes (.ladderTenantReset q) s fun t => (t.dev.reg R.flt_LADDER_RESULT = 1 ∧ t.dev.rung = 2 ∧
      (s.dev.rung < 2 → t.dev.reg R.flt_LADDER_STATE = wd (2 + 65536 * s.dev.rn (R.flt_LIMIT (2 - 1)))) ∧ KeepsHarts s t) ∧
      (fld q.data 8 16 < 1024 → (∀ j ∈ t.dev.jobs, tenantOf j.q = fld q.data 8 16 → j.orphan = true) ∧
        ∀ g, g / 64 = fld q.data 8 16 → t.dev.reg (R.qst_QCTL g) = resetOf (R.qst_QCTL g)) := by
  have hkeeps := (s.dev.at q.t).resetTenant_keepsIsland (fld q.data 8 16)
  refine ladder_performs (P := fun d => fld q.data 8 16 < 1024 → (∀ j ∈ d.jobs, tenantOf j.q = fld q.data 8 16 → j.orphan = true) ∧
    ∀ g, g / 64 = fld q.data 8 16 → d.reg (R.qst_QCTL g) = resetOf (R.qst_QCTL g)) (fun _ => rfl) hw ha hport (by decide) hrung (.ite hkeeps (.refl _))
    (fun h => absurd h (by decide)) fun d hjobs _ _ hreg hn => ?_
  rw [if_pos hn] at hjobs hreg
  obtain ⟨horphan, -, hcleared⟩ := (s.dev.at q.t).resetTenant_clears hn
  refine ⟨fun j hj => horphan j (hjobs ▸ hj), fun g hg => ?_⟩
  rw [hreg _ (by simp only [R.qst_QCTL, R.flt_LADDER_RESULT]; omega) (by simp only [R.qst_QCTL, R.flt_LADDER_STATE]; omega)]
  exact hcleared _ (by simp only [R.qst_QCTL]; omega) (by simp only [R.qst_QCTL]; omega)

theorem completes_ladderPipelineReset (ha : fld q.data 0 3 = 4) (hrung : s.dev.rung ≤ 2) :
    Completes (.ladderPipelineReset q) s fun t => (t.dev.reg R.flt_LADDER_RESULT = 1 ∧ t.dev.rung = 2 ∧
      (s.dev.rung < 2 → t.dev.reg R.flt_LADDER_STATE = wd (2 + 65536 * s.dev.rn (R.flt_LIMIT (2 - 1)))) ∧ KeepsHarts s t) ∧
      (fld q.data 8 16 < 64 → s.dev.pipeState (fld q.data 8 16) ≠ 0 → s.dev.pipeState (fld q.data 8 16) ≠ 6 →
        t.dev.pipeResetting (fld q.data 8 16) = true) := by
  have hkeeps := (s.dev.at q.t).resetPipe_keepsIsland (fld q.data 8 16)
  refine ladder_performs (P := fun d => fld q.data 8 16 < 64 → s.dev.pipeState (fld q.data 8 16) ≠ 0 → s.dev.pipeState (fld q.data 8 16) ≠ 6 →
    d.pipeResetting (fld q.data 8 16) = true) (fun _ => rfl) hw ha hport (by decide) hrung (.ite hkeeps (.refl _))
    (fun h => absurd h (by decide)) fun d _ _ _ hreg hn h0 h6 => ?_
  rw [if_pos ⟨hn, h0, h6⟩] at hreg
  have hreset := (s.dev.at q.t).resetPipe_resetting hn
  unfold Device.pipeResetting Device.rf at hreset ⊢
  rw [hreg _ (by simp only [R.sch_PIPE_STATE, R.flt_LADDER_RESULT]; omega) (by simp only [R.sch_PIPE_STATE, R.flt_LADDER_STATE]; omega)]
  exact hreset

theorem completes_ladderDeviceReset (ha : fld q.data 0 3 = 5) (hrung : s.dev.rung ≤ 3) :
    Completes (.ladderDeviceReset q) s fun t => (t.dev.reg R.flt_LADDER_RESULT = 1 ∧ t.dev.rung = 3 ∧
      (s.dev.rung < 3 → t.dev.reg R.flt_LADDER_STATE = wd (3 + 65536 * s.dev.rn (R.flt_LIMIT (3 - 1)))) ∧ KeepsHarts s t) ∧
      (s.dev.boot.core = true → s.dev.boot.devReset = none → t.dev.boot.devReset = some (if portCode q.port = 0 then 3 else 4)) :=
  ladder_performs (P := fun d => s.dev.boot.core = true → s.dev.boot.devReset = none → d.boot.devReset = some (if portCode q.port = 0 then 3 else 4))
    (fun _ => rfl) hw ha hport (by decide) hrung (Device.requestDevReset_keepsIsland _ _) (fun h => absurd h (by decide))
    fun _ _ _ hboot _ hc hn => (congrArg Boot.devReset hboot).trans (Device.requestDevReset_boot (d := s.dev.at q.t) hc hn _)

theorem completes_ladderClear (ha : fld q.data 0 3 = 6) : Completes (.ladderClear q) s fun t => t.dev.reg R.flt_LADDER_STATE = 0 ∧
    t.dev.reg R.flt_LADDER_RESULT = 1 ∧ KeepsRegs s t [R.flt_LADDER_STATE, R.flt_LADDER_RESULT] ∧ RegsOnly s t := by
  have heq : ladderClear q s.dev = ((s.dev.at q.t).setN R.flt_LADDER_STATE 0).setN R.flt_LADDER_RESULT 1 := ladderWrite_acts hw ha hport
  refine completes_dev rfl heq ⟨?_, (Device.reg_setReg _ _ _ _).trans (if_pos rfl), fun o ho => ?_, rfl, rfl, rfl⟩
  · exact (Device.reg_setReg _ _ _ _).trans ((if_neg (by decide)).trans ((Device.reg_setReg _ _ _ _).trans (if_pos rfl)))
  · simp only [List.mem_cons, List.not_mem_nil, or_false, not_or] at ho
    exact (Device.reg_setReg _ _ _ _).trans ((if_neg ho.2).trans ((Device.reg_setReg _ _ _ _).trans (if_neg ho.1)))

end

/-- Settles O57: an action's command declines or performs (`ladder_declines`, `ladder_performs`), and what it performs leaves LIMIT and, but for
arming, the rung (`KeepsIsland`). It rests on log entries 139 and 158. -/
theorem ladderCommandsAndTimersRecover : Obligations.LadderCommandsAndTimersRecover := by
  unfold Obligations.LadderCommandsAndTimersRecover
  refine ⟨fun s q hw c hc => ?_, fun s q hw ha hport => completes_ladderClear hw hport ha, fun s k => ?_, fun s k => ?_⟩
  · simp only [List.mem_cons, List.not_mem_nil, or_false] at hc
    obtain rfl | rfl | rfl | rfl | rfl := hc
    · obtain ⟨hother, hdenied, hlow⟩ := ladder_declines (cmd := .ladderRetry q) (fun _ => rfl) hw
      refine ⟨hother, hdenied, fun ha hport => ⟨hlow ha hport, fun hrung => ?_⟩⟩
      obtain ⟨t, ht, hdone, hown⟩ := completes_ladderRetry hw hport ha hrung
      exact ⟨t, ht, hdone, fun _ => hown, fun h => absurd h (by decide), fun h => absurd h (by decide), fun h => absurd h (by decide),
        fun h => absurd h (by decide)⟩
    · obtain ⟨hother, hdenied, hlow⟩ := ladder_declines (cmd := .ladderQueueReset q) (fun _ => rfl) hw
      refine ⟨hother, hdenied, fun ha hport => ⟨hlow ha hport, fun hrung => ?_⟩⟩
      obtain ⟨t, ht, hdone, hown⟩ := completes_ladderQueueReset hw hport ha hrung
      exact ⟨t, ht, hdone, fun h => absurd h (by decide), fun _ => hown, fun h => absurd h (by decide), fun h => absurd h (by decide),
        fun h => absurd h (by decide)⟩
    · obtain ⟨hother, hdenied, hlow⟩ := ladder_declines (cmd := .ladderTenantReset q) (fun _ => rfl) hw
      refine ⟨hother, hdenied, fun ha hport => ⟨hlow ha hport, fun hrung => ?_⟩⟩
      obtain ⟨t, ht, hdone, hown⟩ := completes_ladderTenantReset hw hport ha hrung
      exact ⟨t, ht, hdone, fun h => absurd h (by decide), fun h => absurd h (by decide), fun _ => hown, fun h => absurd h (by decide),
        fun h => absurd h (by decide)⟩
    · obtain ⟨hother, hdenied, hlow⟩ := ladder_declines (cmd := .ladderPipelineReset q) (fun _ => rfl) hw
      refine ⟨hother, hdenied, fun ha hport => ⟨hlow ha hport, fun hrung => ?_⟩⟩
      obtain ⟨t, ht, hdone, hown⟩ := completes_ladderPipelineReset hw hport ha hrung
      exact ⟨t, ht, hdone, fun h => absurd h (by decide), fun h => absurd h (by decide), fun h => absurd h (by decide), fun _ => hown,
        fun h => absurd h (by decide)⟩
    · obtain ⟨hother, hdenied, hlow⟩ := ladder_declines (cmd := .ladderDeviceReset q) (fun _ => rfl) hw
      refine ⟨hother, hdenied, fun ha hport => ⟨hlow ha hport, fun hrung => ?_⟩⟩
      obtain ⟨t, ht, hdone, hown⟩ := completes_ladderDeviceReset hw hport ha hrung
      exact ⟨t, ht, hdone, fun h => absurd h (by decide), fun h => absurd h (by decide), fun h => absurd h (by decide), fun h => absurd h (by decide),
        fun _ => hown⟩
  · intro over_
    exact ⟨fun h => completes_dev rfl (ladderExpiry_idle h) ⟨rfl, rfl, rfl⟩, completes_ladderExpiry_escalates, completes_ladderExpiry_again,
      completes_ladderExpiry_exhausted⟩
  · intro now ms
    exact ⟨fun h => ⟨_, congrArg Host.Outcome.next (swdExpiry_idle h), rfl, rfl, rfl⟩,
      fun x hswd hdue => ⟨completes_swdExpiry_first hswd hdue, completes_swdExpiry_second hswd hdue⟩⟩

end Sys2Proof.Machine
end

section
/-! PROOFS. A scan that counts into the register it takes for a mark of the golden copy (R586, R590); O55. -/
namespace Sys2Proof.Machine

/-- The golden copy of a fill of line 0 of slice 0, under a section index at which GOLDEN_BAD would be UE of class 4. -/
def goldenSection : Sect := ⟨0x13, 32736, [0, 0, 0, 0, 0, 1, 0, 0, 0] ++ List.replicate 32 0⟩

/-- A device that runs, with an uncorrectable word in line 0 of slice 0. -/
def uncorrectableLine : State := { State.reset with dev := { Device.reset with
  boot := { boot0 with core := true }
  regs := Store.set zeroW [] R.pow_SLICE_ON_LO 1
  upsets := [⟨.wst, 0, 0, true⟩]
  golden := [goldenSection] } }

/-- Bit 0 of UE of class 4 is where the mark of section 32736 would stand. -/
theorem goldenBad_32736 : R.snd_GOLDEN_BAD_LO + 4 * (32736 / 32) = R.snd_UE 4 := by decide

theorem uncorrectableLine_scannable : ((uncorrectableLine.dev.at 0).atCyc 0).scannable (.wst 0 0) 0 = true := by decide

theorem goldenSection_line : (uncorrectableLine.dev.goldLine 0 0).map (·.1) = some (.region 32736) := by decide

/-- The section's mark stands in UE of class 4. -/
theorem Device.goldenBad_section (d : Device) : d.goldenBad (.region 32736) = decide (d.rf (R.snd_UE 4) 0 1 = 1) := rfl

/-- What a scan counts and reports of an uncorrectable line of a slice is said of its own registers. -/
theorem Device.scrubUe_wst (d : Device) (j : Fin 64) (l : Fin 131072) (src : Bool) :
    d.Speaks (d.scrubUe (.wst j l) src) ∧ (d.scrubUe (.wst j l) src).reg (R.snd_UE 4) = satAdd (d.reg (R.snd_UE 4)) 1 := by
  unfold Device.scrubUe
  refine ⟨(d.speaks_setReg _ _).trans (Device.err_speaks _ _ _ _ _), ?_⟩
  refine (Device.err_reg_noReport _ (by decide) _ _ _ (show OfNoReport (R.snd_UE 4) by unfold OfNoReport; decide)).trans ?_
  exact (Device.reg_setReg ..).trans (if_pos rfl)

/-- The scan of an uncorrectable line whose golden words are known bad once it is counted fetches nothing. -/
theorem scrubScan_bad {i : ScrubItem} {k cyc : Nat} {d e : Device} {u : Upset} (hs : ((d.at k).atCyc cyc).scannable i cyc = true)
    (hm : d.marks i.words.1 i.words.2.1 i.words.2.2.1 i.words.2.2.2 = [u]) (hu : u.ue = true)
    (he : ((((d.at k).atCyc cyc).progress i).scrubUe i ((((d.at k).atCyc cyc).progress i).hasSource i)) = e)
    (hbad : (e.golden? i).any (fun g => !e.goldenBad g.1) = false) : scrubScan i k cyc d = e := by
  have hm' : ((d.at k).atCyc cyc).marks i.words.1 i.words.2.1 i.words.2.2.1 i.words.2.2.2 = [u] := hm
  unfold scrubScan
  dsimp only
  simp only [hs, hm', hu, he, hbad, Bool.not_true, Bool.false_eq_true, if_false, List.filter_cons, List.filter_nil, List.foldl_nil, List.any_cons,
    Bool.true_or, Bool.false_and, Bool.and_false]

theorem Device.goldLine_congr {d e : Device} (h : e.golden = d.golden) (j l : Nat) : e.goldLine j l = d.goldLine j l := by
  unfold Device.goldLine
  rw [h]

theorem Device.golden?_wst {d : Device} {j : Fin 64} {l : Fin 131072} {g : GoldPart × List Byte} (h : d.goldLine j l = some g) :
    d.golden? (.wst j l) = some (g.1, fun d => d.writeFill ⟨j, l, 1, g.2⟩) := by
  unfold Device.golden?
  dsimp only
  rw [h]
  rfl

/-- Reading an item changes none of the counts. -/
theorem Device.progress_reg (d : Device) (i : ScrubItem) {o : Nat} (ho : o ∉ [R.snd_PROGRESS_SIG, R.snd_SND_STATUS]) : (d.progress i).reg o = d.reg o := by
  simp only [List.mem_cons, List.not_mem_nil, or_false, not_or] at ho
  unfold Device.progress
  dsimp only
  rw [Device.setF_eq, Device.reg_setReg, if_neg ho.2, Device.reg_setReg, if_neg ho.1]
  rfl

/-- UE of class 4 once the line has been read and counted. -/
theorem uncorrectableLine_counted (src : Bool) :
    let e := (((uncorrectableLine.dev.at 0).atCyc 0).progress (.wst 0 0)).scrubUe (.wst 0 0) src
    e.golden = [goldenSection] ∧ e.rf (R.snd_UE 4) 0 1 = 1 := by
  intro e
  obtain ⟨hspeaks, hcount⟩ := Device.scrubUe_wst (((uncorrectableLine.dev.at 0).atCyc 0).progress (.wst 0 0)) 0 0 src
  refine ⟨hspeaks.golden_eq, ?_⟩
  show fld (e.reg (R.snd_UE 4)) 0 1 = 1
  rw [hcount, Device.progress_reg _ _ (by decide)]
  decide

/-- The model's own run: the scan fetches nothing. -/
theorem uncorrectableLine_reads : (scrubScan (.wst 0 0) 0 0 uncorrectableLine.dev).scrub.reads = [] := by
  obtain ⟨hgolden, hcount⟩ := uncorrectableLine_counted true
  have hspeaks := (Device.scrubUe_wst (((uncorrectableLine.dev.at 0).atCyc 0).progress (.wst 0 0)) 0 0 true).1
  have hsrc : (((uncorrectableLine.dev.at 0).atCyc 0).progress (.wst 0 0)).hasSource (.wst 0 0) = true := by decide
  obtain ⟨g, hg, hpart⟩ := Option.map_eq_some_iff.1 goldenSection_line
  rw [scrubScan_bad (u := ⟨.wst, 0, 0, true⟩) uncorrectableLine_scannable (by decide) rfl (by rw [hsrc])]
  · exact (congrArg (fun d : Device => d.scrub.reads) hspeaks :)
  · generalize (((uncorrectableLine.dev.at 0).atCyc 0).progress (.wst 0 0)).scrubUe (.wst 0 0) true = e at *
    rw [Device.golden?_wst ((Device.goldLine_congr (d := uncorrectableLine.dev) hgolden 0 0).trans hg), Option.any_some]
    show (!e.goldenBad g.1) = false
    rw [hpart, Device.goldenBad_section, decide_eq_true hcount, Bool.not_true]

/-- Refutes O55: the scan of the line counts UE of class 4, which is where the mark of a section of index 32736 would stand (`goldenBad_32736`), and so
finds the golden copy bad that was good before; the clause does not bound the index of a section. -/
theorem not_scrubberScansCorrectsAndRewrites : ¬ Obligations.ScrubberScansCorrectsAndRewrites := by
  unfold Obligations.ScrubberScansCorrectsAndRewrites
  rintro ⟨hscan, -⟩
  obtain ⟨-, hread⟩ := hscan uncorrectableLine (.wst 0 0) 0 0
  obtain ⟨-, -, hue⟩ := hread uncorrectableLine_scannable
  obtain ⟨t, hexec, -, -, -, -, -, -, hfetch⟩ := hue ⟨.wst, 0, 0, true⟩ (by decide) rfl
  obtain ⟨g, hg, hpart⟩ := Option.map_eq_some_iff.1 goldenSection_line
  have hready : ∀ x ∈ uncorrectableLine.dev.scrub.ready, x.2 ≠ .wst 0 0 := List.forall_mem_nil _
  have hgood : uncorrectableLine.dev.goldenBad g.1 = false := by
    rw [hpart, Device.goldenBad_section]
    decide
  have hreads := hfetch _ (by decide) (Device.golden?_wst hg) hgood (by decide) hready
  have hexec' : exec (.scrubScan (.wst 0 0) 0 0) uncorrectableLine = .next { uncorrectableLine with dev := scrubScan (.wst 0 0) 0 0 uncorrectableLine.dev } := rfl
  obtain rfl := Host.Outcome.next.inj (hexec'.symm.trans hexec)
  exact absurd (uncorrectableLine_reads.symm.trans hreads) (by decide)

end Sys2Proof.Machine
end

section
/-! PROOFS. Rewrites, scrub pauses, passes and the settings of the scrubber (R584 to R592, R607); O56. -/
namespace Sys2Proof.Machine

/-! ### Rewrites (R586 to R590) -/

/-- The registers of a rewrite: its count and its event. -/
def rewriteRegs : List Nat := [R.snd_REWRITES, 0xF0000 + 0x20, R.hif_MSIX_DROPPED]

/-- The device e is d but for the memories that hold configuration, the events of rewrites, and their count. -/
structure Device.SparesScrub (d e : Device) : Prop where
  jobs : e.jobs = d.jobs
  pipes : e.pipes = d.pipes
  scrub : e.scrub = d.scrub
  now : e.now = d.now
  reg : ∀ o, o ∉ rewriteRegs → e.reg o = d.reg o

namespace Device.SparesScrub
variable {d e f : Device}

theorem refl (d : Device) : d.SparesScrub d := ⟨rfl, rfl, rfl, rfl, fun _ _ => rfl⟩

theorem trans (h : d.SparesScrub e) (g : e.SparesScrub f) : d.SparesScrub f :=
  ⟨g.jobs.trans h.jobs, g.pipes.trans h.pipes, g.scrub.trans h.scrub, g.now.trans h.now, fun o ho => (g.reg o ho).trans (h.reg o ho)⟩

theorem of_regs (hjobs : e.jobs = d.jobs) (hpipes : e.pipes = d.pipes) (hscrub : e.scrub = d.scrub) (hnow : e.now = d.now) (hregs : e.regs = d.regs) :
    d.SparesScrub e := ⟨hjobs, hpipes, hscrub, hnow, fun o _ => congrArg (Store.get resetOf · o) hregs⟩

theorem foldl {α : Type} {k : Device → α → Device} (h : ∀ (d : Device) a, d.SparesScrub (k d a)) (l : List α) (d : Device) : d.SparesScrub (l.foldl k d) :=
  List.foldlRecOn _ _ (motive := fun e => d.SparesScrub e) (refl d) fun e he a _ => he.trans (h e a)

end Device.SparesScrub

theorem Device.setLath_mend_spares (d : Device) (x : Lath) (m : MemKind) (u : Nat) (p : Nat → Bool) : d.SparesScrub ((d.setLath x).mend m u p) :=
  .of_regs rfl rfl rfl rfl rfl

theorem Device.writeEntries_spares (d : Device) (es pipes : List (Nat × Nat)) : d.SparesScrub (d.writeEntries es pipes) := by
  unfold Device.writeEntries
  exact .of_regs rfl rfl rfl rfl rfl

/-- Writing an item from its golden words touches neither registers nor jobs. -/
theorem Device.golden?_spares {d : Device} {i : ScrubItem} {g : GoldPart × (Device → Device)} (h : d.golden? i = some g) (e : Device) :
    e.SparesScrub (g.2 e) := by
  cases i with
  | lath b f =>
    unfold Device.golden? at h
    dsimp only at h
    obtain ⟨x, -, rfl⟩ := Option.map_eq_some_iff.1 h
    dsimp only
    exact Device.setLath_mend_spares ..
  | out k dir s =>
    obtain rfl := Option.some.inj (show some _ = some g from h)
    exact Device.writeEntries_spares ..
  | del k dir s =>
    obtain rfl := Option.some.inj (show some _ = some g from h)
    exact Device.writeEntries_spares ..
  | prog k w =>
    unfold Device.golden? at h
    dsimp only at h
    split at h
    · cases h
    · obtain ⟨x, -, rfl⟩ := Option.map_eq_some_iff.1 h
      exact .of_regs rfl rfl rfl rfl rfl
  | hawk k w =>
    unfold Device.golden? at h
    dsimp only at h
    split at h
    · cases h
    · obtain ⟨x, -, rfl⟩ := Option.map_eq_some_iff.1 h
      exact .of_regs rfl rfl rfl rfl rfl
  | act k w =>
    unfold Device.golden? at h
    dsimp only at h
    split at h
    · cases h
    · obtain ⟨x, -, rfl⟩ := Option.map_eq_some_iff.1 h
      exact .of_regs rfl rfl rfl rfl rfl
  | wst j l =>
    obtain ⟨x, -, rfl⟩ := Option.map_eq_some_iff.1 (show Option.map _ _ = some g from h)
    exact .of_regs rfl rfl rfl rfl rfl

theorem Device.rewrite_spares (d : Device) (i : ScrubItem) : d.SparesScrub (d.rewrite i) := by
  unfold Device.rewrite
  split
  next => exact .refl d
  next g hg =>
    refine (Device.golden?_spares hg d).trans ?_
    have h := ((g.2 d).speaks_setReg R.snd_REWRITES (satAdd ((g.2 d).reg R.snd_REWRITES) 1)).trans (Device.evtBit_speaks _ 0xF0000 17)
    refine ⟨(congrArg Device.jobs h :), h.pipes_eq, (congrArg Device.scrub h :), (congrArg Device.now h :), fun o ho => ?_⟩
    simp only [rewriteRegs, List.mem_cons, List.not_mem_nil, or_false, not_or] at ho
    obtain ⟨hcount, hevt, hmsix⟩ := ho
    rw [Device.evtBit_reg _ _ _ _ hmsix, if_neg hevt, Device.count_eq, Device.reg_setReg, if_neg hcount]

/-! ### A debit beside the others (R258) -/

theorem addDebit_length (l : List Nat) (k n : Nat) : (addDebit l k n).length = l.length := by
  fun_induction addDebit with
  | case1 => rfl
  | case2 => rfl
  | case3 x r k n ih => rw [List.length_cons, ih, List.length_cons]

theorem addDebit_same {l : List Nat} {k : Nat} (h : k < l.length) (n : Nat) : (addDebit l k n).getD k 0 = l.getD k 0 + n := by
  fun_induction addDebit with
  | case1 => cases h
  | case2 => rfl
  | case3 x r k n ih => exact ih (Nat.lt_of_succ_lt_succ h)

theorem addDebit_other (l : List Nat) {k i : Nat} (h : i ≠ k) (n : Nat) : (addDebit l k n).getD i 0 = l.getD i 0 := by
  induction l generalizing k i with
  | nil => rfl
  | cons x r ih =>
    cases k with
    | zero =>
      cases i with
      | zero => exact absurd rfl h
      | succ i => rfl
    | succ k =>
      cases i with
      | zero => rfl
      | succ i => exact ih (fun e => h (congrArg Nat.succ e))

/-- The jobs of e are those of d, each with its debits beside the one of sort k changed. -/
def Device.DebitsBeside (k : Nat) (d e : Device) : Prop :=
  ∃ f : Job → Job, e.jobs = d.jobs.map f ∧ ∀ j, f j = { j with debits := (f j).debits, clip := (f j).clip } ∧
    (f j).debits.length = j.debits.length ∧ (f j).debits.getD k 0 = j.debits.getD k 0

namespace Device.DebitsBeside
variable {k : Nat} {d e x : Device}

theorem of_jobs (h : e.jobs = d.jobs) : Device.DebitsBeside k d e := ⟨id, by rw [List.map_id, h], fun _ => ⟨rfl, rfl, rfl⟩⟩

theorem trans (h : Device.DebitsBeside k d e) (g : Device.DebitsBeside k e x) : Device.DebitsBeside k d x := by
  obtain ⟨f1, hjobs1, h1⟩ := h
  obtain ⟨f2, hjobs2, h2⟩ := g
  refine ⟨f2 ∘ f1, by rw [hjobs2, hjobs1, List.map_map], fun j => ?_⟩
  obtain ⟨hkeep1, hlen1, hget1⟩ := h1 j
  obtain ⟨hkeep2, hlen2, hget2⟩ := h2 (f1 j)
  exact ⟨hkeep2.trans (congrArg (fun x : Job => { x with debits := (f2 (f1 j)).debits, clip := (f2 (f1 j)).clip }) hkeep1),
    hlen2.trans hlen1, hget2.trans hget1⟩

theorem debit (d : Device) {i : Nat} (h : k ≠ i) (p n : Nat) (f : Job → Bool) : Device.DebitsBeside k d (d.debit p i n f) := by
  refine ⟨_, rfl, fun j => ?_⟩
  split
  · exact ⟨rfl, addDebit_length _ _ _, addDebit_other _ h _⟩
  · exact ⟨rfl, rfl, rfl⟩

theorem debitClip (d : Device) (p s n : Nat) : Device.DebitsBeside k d (d.debitClip p s n) := by
  unfold Device.debitClip
  split
  · exact of_jobs rfl
  · refine ⟨_, rfl, fun j => ?_⟩
    split
    · exact ⟨rfl, rfl, rfl⟩
    · exact ⟨rfl, rfl, rfl⟩

/-- Where the pipeline stands still for none of the sorts 1, 3, 4 and 5, settling it leaves the debits but those of its fills. -/
theorem settle {p : Nat} (hk : k ≠ 0) (hocc : (d.pipe p).occ.all (· == 0) = true) : Device.DebitsBeside k d (d.settle p) := by
  have hzero : ∀ i, (d.pipe p).occ.getD i 0 = 0 := fun i => by
    rw [List.getD_eq_getElem?_getD]
    cases h : (d.pipe p).occ[i]? with
    | none => rfl
    | some x => exact of_decide_eq_true (List.all_eq_true.1 hocc x (List.mem_of_getElem? h))
  unfold Device.settle
  extract_lets x n d1 d2 busy w deb
  have h1 : Device.DebitsBeside k d d1 := by
    dsimp only [d1]
    split
    · exact of_jobs rfl
    · exact debit d hk p n _
  have hfold : [1, 3, 4, 5].foldl (fun (d : Device) i => if x.occ.getD i 0 = 0 then d else d.debit p i n fun _ => true) d1 = d1 := by
    simp only [List.foldl_cons, List.foldl_nil, x, hzero, if_true]
  have h2 : Device.DebitsBeside k d d2 := by
    dsimp only [d2]
    rw [hfold]
    exact h1.trans (debitClip d1 _ _ _)
  exact h2.trans (of_jobs rfl)

end Device.DebitsBeside

/-- A pause debits every frame in flight its length. -/
theorem Device.debitPipe_debits {d : Device} {p k : Nat} (hk : k ≠ 0) (hocc : (d.pipe p).occ.all (· == 0) = true)
    (hlen : ∀ j ∈ d.jobs, k < j.debits.length) (n : Nat) : (d.debitPipe p k n).jobs.map (fun j => j.debits.getD k 0) =
      d.jobs.map fun j => j.debits.getD k 0 + if j.isFrame && j.pipe == p && j.inFlight then n else 0 := by
  obtain ⟨f, hjobs, hf⟩ := Device.DebitsBeside.settle (d := d) (p := p) hk hocc
  show ((d.settle p).debit p k n fun _ => true).jobs.map _ = _
  unfold Device.debit
  rw [hjobs, List.map_map, List.map_map]
  refine List.map_congr_left fun j hj => ?_
  obtain ⟨hkeep, hflen, hget⟩ := hf j
  have hsame : ((f j).isFrame && (f j).pipe == p && (f j).inFlight) = (j.isFrame && j.pipe == p && j.inFlight) := by
    rw [hkeep]
    rfl
  simp only [Function.comp_apply, hsame, Bool.and_true]
  split
  · exact (addDebit_same (hflen ▸ hlen j hj) n).trans (by rw [hget])
  · exact hget

/-! ### Scrub pauses (R587) -/

section
variable {d : Device} {p : Fin 64} {k cyc : Nat}

theorem scrubPause_idle (hrun : runState (d.pipeState p) = true) (h : (d.scrub.ready.filter fun x => x.1 == p.val) = [] ∨ cyc % 16 ≠ 0 ∨ p.val ∈ d.scrub.paused ∨
    (d.pipe p).scrubWin = some ((d.at k).atCyc cyc).window) : scrubPause p k cyc d = (d.at k).atCyc cyc := by
  have hrun' : (!runState (((d.at k).atCyc cyc).pipeState p)) = false := congrArg (!·) hrun
  unfold scrubPause
  dsimp only
  split
  next => rfl
  next hgo =>
    rw [if_neg (by rw [hrun']; decide)]
    split
    next => rfl
    next hwin =>
      refine absurd ?_ hgo
      obtain h | h | h | h := h
      · exact .inl (by rw [show (((d.at k).atCyc cyc).scrub.ready.filter fun x => x.1 == p.val) = [] from h]; rfl)
      · exact .inr (.inl h)
      · exact .inr (.inr (.inl h))
      · exact absurd h hwin

/-- The items that wait for a pause of region p. -/
def Device.waiting (d : Device) (p : Nat) : List (Nat × ScrubItem) := d.scrub.ready.filter fun x => x.1 == p

/-- A pause of region p of n cycles begins at cycle c, its first items on their way. -/
def Device.pauseBegun (d : Device) (p : Fin 64) (c n : Nat) : Device := { d with scrub := { d.scrub with
  ready := (d.scrub.ready.filter fun x => !(x.1 == p.val)) ++ (((d.waiting p).map (·.2)).drop 16).map fun i => (p.val, i)
  paused := p.val :: d.scrub.paused
  ends := Store.set zeroN d.scrub.ends p (c + n) } }

/-- The pause is counted and debited, and the window has had one. -/
def Device.pauseCounted (d : Device) (p : Fin 64) (n : Nat) : Device :=
  let d2 := ((d.count R.snd_PAUSE_CYCLES n).count (R.snd_REGION_PAUSES p) 1).debitPipe p 3 n
  d2.setPipe p { d2.pipe p with scrubWin := some d2.window }

/-- The cycles of the pause of region p: 32 for each of the items rewritten in it. -/
def Device.pauseLength (d : Device) (p : Nat) : Nat := 32 * (((d.waiting p).map (·.2)).take 16).length

/-- The pause of region p has begun at cycle c. -/
def Device.pauseStarted (d : Device) (p : Fin 64) (c : Nat) : Device :=
  ((((d.waiting p).map (·.2)).take 16).foldl Device.rewrite (d.pauseBegun p c (d.pauseLength p))).pauseCounted p (d.pauseLength p)

/-- The same, with the items that are left deferred to the next window. -/
def Device.pauseTaken (d : Device) (p : Fin 64) (c : Nat) : Device :=
  if (((d.waiting p).map (·.2)).drop 16).isEmpty then d.pauseStarted p c else (d.pauseStarted p c).count R.snd_DEFERRED 1

theorem scrubPause_begins {e : Device} (h0 : (d.at k).atCyc cyc = e) (hmine : e.waiting p ≠ []) (hslot : cyc % 16 = 0) (hpaused : p.val ∉ e.scrub.paused)
    (hrun : runState (e.pipeState p) = true) (hwin : (e.pipe p).scrubWin ≠ some e.window) : scrubPause p k cyc d = e.pauseTaken p cyc := by
  have hsix : e.pipeState p ≠ 6 := fun h6 => by
    rw [h6] at hrun
    exact absurd hrun (by decide)
  unfold scrubPause
  rw [h0]
  dsimp only
  rw [if_neg, if_neg (by rw [hrun]; decide), if_neg hwin]
  · rfl
  · rintro (h | h | h | h)
    · exact hmine (List.map_eq_nil_iff.1 (List.isEmpty_iff.1 h))
    · exact h hslot
    · exact hpaused h
    · exact hsix h

end

theorem Device.settle_scrub (d : Device) (p : Nat) : (d.settle p).scrub = d.scrub := by
  obtain ⟨e, n, x, ⟨f, -, -, rfl⟩, h, -⟩ := d.settle_eq p
  rw [h]
  rfl

/-- A register after a count. -/
theorem Device.reg_countBy (d : Device) (a n o : Nat) : (d.count a n).reg o = if o = a then satAdd (d.reg o) n else d.reg o := by
  rw [Device.count_eq, Device.reg_setReg]
  split
  next h => rw [h]
  next => rfl

section
variable (d : Device) (p : Fin 64) (c : Nat)

/-- What the rewrites of the pause leave. -/
theorem Device.pauseStarted_spares : ∃ e, (d.pauseBegun p c (d.pauseLength p)).SparesScrub e ∧ d.pauseStarted p c = e.pauseCounted p (d.pauseLength p) :=
  ⟨_, .foldl Device.rewrite_spares _ _, rfl⟩

theorem Device.pauseStarted_scrub : (d.pauseStarted p c).scrub = (d.pauseBegun p c (d.pauseLength p)).scrub := by
  obtain ⟨e, he, h⟩ := d.pauseStarted_spares p c
  rw [h, ← he.scrub]
  exact Device.settle_scrub ((e.count R.snd_PAUSE_CYCLES (d.pauseLength p)).count (R.snd_REGION_PAUSES p) 1) p

theorem Device.pauseStarted_win : ((d.pauseStarted p c).pipe p).scrubWin = some d.window := by
  obtain ⟨e, he, h⟩ := d.pauseStarted_spares p c
  have hnow := (Device.settle_now ((e.count R.snd_PAUSE_CYCLES (d.pauseLength p)).count (R.snd_REGION_PAUSES p) 1) p).trans he.now
  rw [h]
  unfold Device.pauseCounted
  rw [Device.pipe_setPipe_same]
  exact congrArg some (congrArg (·.tick / 1000000) hnow :)

theorem Device.pauseStarted_reg {o : Nat} (ho : o ≠ R.sch_WINDOW_DEBIT p) (hrewrite : o ∉ rewriteRegs) : (d.pauseStarted p c).reg o =
    if o = R.snd_REGION_PAUSES p then satAdd (d.reg o) 1 else if o = R.snd_PAUSE_CYCLES then satAdd (d.reg o) (d.pauseLength p) else d.reg o := by
  obtain ⟨e, he, h⟩ := d.pauseStarted_spares p c
  have hreg : e.reg o = d.reg o := he.reg o hrewrite
  rw [h]
  refine (Device.settle_reg ((e.count R.snd_PAUSE_CYCLES (d.pauseLength p)).count (R.snd_REGION_PAUSES p) 1) p ho).trans ?_
  rw [Device.reg_countBy, Device.reg_countBy, ← hreg]
  by_cases hp : o = R.snd_REGION_PAUSES p
  · rw [if_pos hp, if_pos hp, if_neg (by rw [hp]; unfold R.snd_REGION_PAUSES R.snd_PAUSE_CYCLES; omega)]
  · rw [if_neg hp, if_neg hp]

theorem Device.pauseStarted_debits (hlen : ∀ j ∈ d.jobs, 3 < j.debits.length) (hocc : (d.pipe p).occ.all (· == 0) = true) :
    (d.pauseStarted p c).jobs.map (fun j => j.debits.getD 3 0) =
      d.jobs.map fun j => j.debits.getD 3 0 + if j.isFrame && j.pipe == p.val && j.inFlight then d.pauseLength p else 0 := by
  obtain ⟨e, he, h⟩ := d.pauseStarted_spares p c
  have hjobs : e.jobs = d.jobs := he.jobs
  have hpipe : e.pipe p = d.pipe p := congrArg (Store.get pipe0 · p.val) he.pipes
  rw [h, ← hjobs]
  exact Device.debitPipe_debits (d := (e.count R.snd_PAUSE_CYCLES (d.pauseLength p)).count (R.snd_REGION_PAUSES p) 1) (by decide)
    (by show (e.pipe p).occ.all _ = true; rw [hpipe]; exact hocc) (fun j hj => hlen j (hjobs ▸ hj)) _

end

section
variable (d : Device) (p : Fin 64) (c : Nat)

theorem Device.pauseLength_eq : d.pauseLength p = 32 * min 16 (d.waiting p).length := by
  rw [Device.pauseLength, List.length_take, List.length_map]

/-- The items left are those after the first sixteen, still of region p. -/
theorem Device.waiting_left : (((d.waiting p).map (·.2)).drop 16).map (fun i => (p.val, i)) = (d.waiting p).drop 16 := by
  rw [← List.map_drop, List.map_map]
  refine (List.map_congr_left fun x hx => ?_).trans (List.map_id _)
  have hp : (x.1 == p.val) = true := (List.mem_filter.1 (List.mem_of_mem_drop hx : x ∈ d.waiting p)).2
  exact Prod.ext (beq_iff_eq.1 hp).symm rfl

/-- The deferral beside the pause is a count alone. -/
theorem Device.pauseTaken_eq : (d.pauseTaken p c).scrub = (d.pauseStarted p c).scrub ∧ (d.pauseTaken p c).jobs = (d.pauseStarted p c).jobs ∧
    (d.pauseTaken p c).pipes = (d.pauseStarted p c).pipes ∧ ∀ o, (d.pauseTaken p c).reg o =
    if o = R.snd_DEFERRED ∧ 16 < (d.waiting p).length then satAdd ((d.pauseStarted p c).reg o) 1 else (d.pauseStarted p c).reg o := by
  have hleft : (((d.waiting p).map (·.2)).drop 16).isEmpty = true ↔ (d.waiting p).length ≤ 16 := by
    rw [List.isEmpty_iff, List.drop_eq_nil_iff, List.length_map]
  unfold Device.pauseTaken
  by_cases hlen : (d.waiting p).length ≤ 16
  · rw [if_pos (hleft.2 hlen)]
    exact ⟨rfl, rfl, rfl, fun o => (if_neg fun h => absurd h.2 (by omega)).symm⟩
  · rw [if_neg fun h => hlen (hleft.1 h)]
    refine ⟨rfl, rfl, rfl, fun o => (Device.reg_countBy ..).trans ?_⟩
    by_cases ho : o = R.snd_DEFERRED
    · rw [if_pos ho, if_pos ⟨ho, by omega⟩]
    · rw [if_neg ho, if_neg fun h => ho h.1]

/-- What a pause that begins leaves in the device. -/
theorem Device.pauseTaken_spec (hdebits : ∀ j ∈ d.jobs, 4 < j.debits.length) (hocc : (d.pipe p).occ.all (· == 0) = true) :
    let e := d.pauseTaken p c
    let n := 32 * min 16 (d.waiting p).length
    e.scrub.paused = p.val :: d.scrub.paused ∧ Store.get zeroN e.scrub.ends p = c + n ∧ e.regionRuns p = false ∧
      e.scrub.ready = d.scrub.ready.filter (fun x => !(x.1 == p.val)) ++ (d.waiting p).drop 16 ∧ (e.pipe p).scrubWin = some d.window ∧
      e.reg R.snd_PAUSE_CYCLES = satAdd (d.reg R.snd_PAUSE_CYCLES) n ∧ e.reg (R.snd_REGION_PAUSES p) = satAdd (d.reg (R.snd_REGION_PAUSES p)) 1 ∧
      e.reg R.snd_DEFERRED = (if (d.waiting p).length ≤ 16 then d.reg R.snd_DEFERRED else satAdd (d.reg R.snd_DEFERRED) 1) ∧
      e.jobs.map (fun j => j.debits.getD 3 0) = d.jobs.map fun j => j.debits.getD 3 0 + if j.isFrame && j.pipe == p.val && j.inFlight then n else 0 := by
  intro e n
  obtain ⟨hscrub', hjobs, hpipes, hreg⟩ := d.pauseTaken_eq p c
  have hscrub : e.scrub = (d.pauseBegun p c (d.pauseLength p)).scrub := hscrub'.trans (d.pauseStarted_scrub p c)
  have hn : d.pauseLength p = n := d.pauseLength_eq p
  have hwin : e.pipe p = (d.pauseStarted p c).pipe p := congrArg (Store.get pipe0 · p.val) hpipes
  have hpages : ∀ o, 0xF0000 ≤ o → o ≠ R.sch_WINDOW_DEBIT p := fun o ho => by
    unfold R.sch_WINDOW_DEBIT
    omega
  refine ⟨congrArg Scrub.paused hscrub, ?_, ?_, ?_, ?_, ?_, ?_, ?_, ?_⟩
  · rw [hscrub, ← hn]
    exact (Store.get_set ..).trans (if_pos rfl)
  · unfold Device.regionRuns
    rw [show e.scrub.paused = p.val :: d.scrub.paused from congrArg Scrub.paused hscrub, decide_eq_true List.mem_cons_self, Bool.not_true, Bool.and_false]
  · rw [hscrub, ← d.waiting_left p]
    rfl
  · rw [hwin]
    exact d.pauseStarted_win p c
  · rw [hreg, if_neg fun h => absurd h.1 (by decide), d.pauseStarted_reg p c (hpages _ (by decide)) (by decide),
      if_neg (by unfold R.snd_REGION_PAUSES R.snd_PAUSE_CYCLES; omega), if_pos rfl, hn]
  · rw [hreg, if_neg fun h => absurd h.1 (by unfold R.snd_REGION_PAUSES R.snd_DEFERRED; omega), d.pauseStarted_reg p c (hpages _ (by unfold R.snd_REGION_PAUSES; omega)) ?_, if_pos rfl]
    simp only [rewriteRegs, R.snd_REGION_PAUSES, R.snd_REWRITES, R.hif_MSIX_DROPPED, List.mem_cons, List.not_mem_nil, or_false]
    omega
  · have hkeep : (d.pauseStarted p c).reg R.snd_DEFERRED = d.reg R.snd_DEFERRED := by
      rw [d.pauseStarted_reg p c (hpages _ (by decide)) (by decide), if_neg (by unfold R.snd_REGION_PAUSES R.snd_DEFERRED; omega), if_neg (by decide)]
    rw [hreg, hkeep]
    by_cases hlen : (d.waiting p).length ≤ 16
    · rw [if_pos hlen, if_neg fun h => absurd h.2 (by omega)]
    · rw [if_neg hlen, if_pos ⟨rfl, by omega⟩]
  · rw [show e.jobs = (d.pauseStarted p c).jobs from hjobs, ← hn]
    exact d.pauseStarted_debits p c (fun j hj => Nat.lt_of_succ_lt (hdebits j hj)) hocc

end

section
variable {s : State} {p : Fin 64} {k cyc : Nat}

theorem completes_scrubPause_idle (hruns : s.dev.arrayRuns = true) (hrun : runState (s.dev.pipeState p) = true)
    (h : s.dev.waiting p = [] ∨ cyc % 16 ≠ 0 ∨ p.val ∈ s.dev.scrub.paused ∨ (s.dev.pipe p).scrubWin = some ((s.dev.at k).atCyc cyc).window) :
    Completes (.scrubPause p k cyc) s fun t => t.dev = (s.dev.at k).atCyc cyc ∧ KeepsHarts s t :=
  completes_dev (f := fun d => d.inArray (scrubPause p k cyc)) rfl ((if_pos hruns).trans (scrubPause_idle hrun h)) ⟨rfl, rfl, rfl⟩

theorem completes_scrubPause_begins (hruns : s.dev.arrayRuns = true) (hmine : s.dev.waiting p ≠ []) (hslot : cyc % 16 = 0)
    (hpaused : p.val ∉ s.dev.scrub.paused) (hrun : runState (s.dev.pipeState p) = true) (hwin : (s.dev.pipe p).scrubWin ≠ some ((s.dev.at k).atCyc cyc).window)
    {P : Device → Prop} (hP : P (((s.dev.at k).atCyc cyc).pauseTaken p cyc)) : Completes (.scrubPause p k cyc) s fun t => P t.dev ∧ KeepsHarts s t := by
  have hbegins := scrubPause_begins (d := s.dev) (p := p) (k := k) (cyc := cyc) rfl hmine hslot hpaused hrun hwin
  exact completes_dev (f := fun d => d.inArray (scrubPause p k cyc)) rfl ((if_pos hruns).trans hbegins) ⟨hP, rfl, rfl⟩

theorem completes_scrubPauseEnd (hruns : s.dev.arrayRuns = true) (hpaused : p.val ∈ s.dev.scrub.paused) (hend : Store.get zeroN s.dev.scrub.ends p ≤ cyc) :
    Completes (.scrubPauseEnd p k cyc) s fun t => p.val ∉ t.dev.scrub.paused ∧
      (∀ r, r ≠ p.val → (r ∈ t.dev.scrub.paused ↔ r ∈ s.dev.scrub.paused)) ∧ KeepsRegs s t [] ∧ KeepsHarts s t := by
  refine completes_dev (f := fun d => d.inArray (scrubPauseEnd p k cyc)) rfl ((if_pos hruns).trans (if_pos ⟨hpaused, hend⟩)) ⟨?_, fun r hr => ?_, fun _ _ => rfl, rfl, rfl⟩
  · exact fun h => absurd (List.mem_filter.1 h).2 (by simp)
  · refine List.mem_filter.trans (and_iff_left ?_)
    simpa using hr

theorem completes_scrubPauseEnd_not (hruns : s.dev.arrayRuns = true) (h : p.val ∉ s.dev.scrub.paused ∨ cyc < Store.get zeroN s.dev.scrub.ends p) :
    Completes (.scrubPauseEnd p k cyc) s fun t => t.dev = (s.dev.at k).atCyc cyc ∧ KeepsHarts s t :=
  completes_dev (f := fun d => d.inArray (scrubPauseEnd p k cyc)) rfl ((if_pos hruns).trans (if_neg fun g => h.elim (fun h => h g.1) fun h => absurd g.2 (Nat.not_le.2 h)))
    ⟨rfl, rfl, rfl⟩

end

/-! ### Passes (R584) -/

/-- An event raised in a page shows in its EVT_RAW. -/
theorem Device.evtBit_shows (d : Device) {pg : Nat} (h : pg + 0x20 ≠ R.hif_MSIX_DROPPED) {i : Nat} (hi : i < 32) :
    (d.evtBit pg i).rf (pg + 0x20) i 1 = 1 := by
  rw [Device.rf, Device.evtBit_reg _ _ _ _ h, if_pos rfl]
  exact fld_or_bit _ hi

/-- A pass is counted, with its length. -/
def Device.passCounted (d : Device) (n : Nat) : Device := (d.count R.snd_PASS_COUNT 1).setN R.snd_LAST_PASS_US (n / 1000)

/-- A pass longer than 20 ms is SLOW. -/
def Device.passSlow (d : Device) (n : Nat) : Device := if n > 20000000 then (d.setF R.snd_SND_STATUS 2 1 1).evtBit 0xF0000 19 else d

theorem Device.passSlow_spec (d : Device) (n : Nat) : d.Speaks (d.passSlow n) ∧
    (∀ o, o ∉ [R.snd_SND_STATUS, 0xF0000 + 0x20, R.hif_MSIX_DROPPED] ∨ n ≤ 20000000 → (d.passSlow n).reg o = d.reg o) ∧
    (20000000 < n → (d.passSlow n).rf R.snd_SND_STATUS 2 1 = 1 ∧ (d.passSlow n).rf (0xF0000 + 0x20) 19 1 = 1) := by
  unfold Device.passSlow
  by_cases hn : n > 20000000
  · rw [if_pos hn]
    refine ⟨(d.speaks_setReg _ _).trans (Device.evtBit_speaks _ _ _), fun o ho => ?_, fun _ => ⟨?_, Device.evtBit_shows _ (by decide) (by decide)⟩⟩
    · have ho := ho.resolve_right (by omega)
      simp only [List.mem_cons, List.not_mem_nil, or_false, not_or] at ho
      rw [Device.evtBit_reg _ _ _ _ ho.2.2, if_neg ho.2.1, Device.setF_eq, Device.reg_setReg, if_neg ho.1]
    · rw [Device.rf, Device.evtBit_reg _ _ _ _ (by decide), if_neg (by decide), Device.setF_eq, Device.reg_setReg, if_pos rfl, fld_setFld _ _ (by decide)]
      exact Nat.one_mod_two_pow_eq_one.2 (by decide)
  · rw [if_neg hn]
    exact ⟨.refl d, fun _ _ => rfl, fun h => absurd h hn⟩

section
variable {s : State} {k : Nat}

theorem scrubPassDone_ends {d : Device} (h : d.scrubbing = true) {e : Device}
    (he : ((d.at k).passCounted ((d.at k).now.tick - d.scrub.passTick)).passSlow ((d.at k).now.tick - d.scrub.passTick) = e) :
    scrubPassDone k d = { e with scrub := { e.scrub with passTick := e.now.tick, sigs := [] } } := by
  subst he
  exact if_neg (by rw [show (d.at k).scrubbing = true from h]; decide)

theorem completes_scrubPassDone (h : s.dev.scrubbing = true) : let n := (s.dev.at k).now.tick - s.dev.scrub.passTick
    Completes (.scrubPassDone k) s fun t => t.dev.reg R.snd_PASS_COUNT = satAdd (s.dev.reg R.snd_PASS_COUNT) 1 ∧
      t.dev.reg R.snd_LAST_PASS_US = wd (n / 1000) ∧ t.dev.scrub.sigs = [] ∧ t.dev.scrub.passTick = (s.dev.at k).now.tick ∧
      (20000000 < n → t.dev.rf R.snd_SND_STATUS 2 1 = 1 ∧ t.dev.rf (0xF0000 + 0x20) 19 1 = 1) ∧
      (n ≤ 20000000 → KeepsRegs s t [R.snd_PASS_COUNT, R.snd_LAST_PASS_US]) ∧ KeepsHarts s t := by
  intro n
  obtain ⟨hspeaks, hsame, hslow⟩ := ((s.dev.at k).passCounted n).passSlow_spec n
  have hcounted : ∀ o, ((s.dev.at k).passCounted n).reg o =
      if o = R.snd_LAST_PASS_US then wd (n / 1000) else if o = R.snd_PASS_COUNT then satAdd (s.dev.reg o) 1 else s.dev.reg o := fun o => by
    unfold Device.passCounted
    rw [Device.setN_eq, Device.reg_setReg, Device.reg_countBy]
    rfl
  generalize he : ((s.dev.at k).passCounted n).passSlow n = e at hspeaks hsame hslow
  have hnow : e.now.tick = (s.dev.at k).now.tick := (congrArg (fun d : Device => d.now.tick) hspeaks :)
  refine completes_dev rfl (scrubPassDone_ends h he) ⟨?_, ?_, rfl, hnow, hslow, fun hn o ho => ?_, rfl, rfl⟩
  · refine (hsame _ (.inl (by decide))).trans ?_
    rw [hcounted, if_neg (by decide), if_pos rfl]
  · refine (hsame _ (.inl (by decide))).trans ?_
    rw [hcounted, if_pos rfl]
  · simp only [List.mem_cons, List.not_mem_nil, or_false, not_or] at ho
    refine (hsame o (.inr hn)).trans ?_
    rw [hcounted, if_neg ho.2, if_neg ho.1]

end

/-! ### The three copies of SND_CFG (R592, R607) -/

/-- The first error of a page is captured with its ERR_INFO. -/
theorem Device.err_captured (d : Device) {pg : Nat} (hpg : pg + 0x38 ∉ faultRegs) (hfirst : d.rf (pg + 0x30) 31 1 = 0) (code : Nat) (lo hi : Word) :
    (d.err pg code lo hi).reg (pg + 0x38) = lo := by
  have hmsix : pg + 0x38 ≠ R.hif_MSIX_DROPPED := fun h => hpg (by rw [h]; decide)
  unfold Device.err Device.errAs
  dsimp only
  rw [if_neg (show ¬ d.rf (pg + 0x30) 31 1 = 1 by omega)]
  have key : (((((d.setN (pg + 0x30) (2 ^ 31 + code)).setReg (pg + 0x38) lo).setReg (pg + 0x3C) hi).count (pg + 0x34) 1).evtBit pg 2).reg (pg + 0x38) = lo := by
    rw [Device.evtBit_reg _ _ _ _ hmsix, if_neg (by omega), Device.reg_countBy, if_neg (by omega), Device.reg_setReg, if_neg (by omega), Device.reg_setReg,
      if_pos rfl]
  split
  · rw [Device.faultLog_reg _ _ _ _ _ _ _ hpg]
    exact key
  · exact key

section
variable {s : State} {k : Nat} {f0 f1 f2 : BitVec 32}

/-- Copy j of SND_CFG, in which the bits f have changed. -/
def Device.sndCopy (d : Device) (j : Nat) (f : BitVec 32) : Word := d.reg R.snd_SND_CFG ^^^ Store.get zeroW d.scrub.copies j ^^^ (f &&& sndMask)

/-- The three copies hold x. -/
def Device.sndAgreed (d : Device) (x : Word) : Device := { d with scrub := { d.scrub with copies := [] } }.setReg R.snd_SND_CFG x

/-- Copy i, which disagreed, is rewritten with x. -/
def Device.sndFixed (d : Device) (x : Word) (i : Nat) : Device :=
  (((d.sndAgreed x).count R.snd_TMR_FIX_COUNT 1).err 0xF0000 0x0102 (wd i) 0).evtBit 0xF0000 20

/-- The copies differ, and hold the majority of each bit. -/
def Device.sndHalted (d : Device) (x : Word) (copies : Store Word) : Device :=
  (((({ d with scrub := { d.scrub with copies := copies } }.setReg R.snd_SND_CFG x).setF R.snd_SND_STATUS 1 1 1).evtBit 0xF0000 16).err 0xF0000 0x0100 0 0)

theorem sndVote_eq {d : Device} (hcore : d.boot.core = true) (hnone : d.boot.devReset = none) (hhalt : d.rf R.snd_SND_STATUS 1 1 = 0) :
    sndVote f0 f1 f2 k d =
      if d.sndCopy 0 f0 = d.sndCopy 1 f1 ∧ d.sndCopy 1 f1 = d.sndCopy 2 f2 then (d.at k).sndAgreed (d.sndCopy 0 f0)
      else if d.sndCopy 0 f0 = d.sndCopy 1 f1 then (d.at k).sndFixed (d.sndCopy 0 f0) 2
      else if d.sndCopy 0 f0 = d.sndCopy 2 f2 then (d.at k).sndFixed (d.sndCopy 0 f0) 1
      else if d.sndCopy 1 f1 = d.sndCopy 2 f2 then (d.at k).sndFixed (d.sndCopy 1 f1) 0
      else
        let x := (d.sndCopy 0 f0 &&& d.sndCopy 1 f1) ||| (d.sndCopy 0 f0 &&& d.sndCopy 2 f2) ||| (d.sndCopy 1 f1 &&& d.sndCopy 2 f2)
        ((d.at k).sndHalted x (Store.set zeroW (Store.set zeroW (Store.set zeroW [] 0 (d.sndCopy 0 f0 ^^^ x)) 1 (d.sndCopy 1 f1 ^^^ x)) 2
          (d.sndCopy 2 f2 ^^^ x))).deviceFault 0x0100 := by
  refine if_neg ?_
  rintro (h | h)
  · rw [show (d.at k).boot = d.boot from rfl, hcore, hnone] at h
    exact absurd h (by decide)
  · exact absurd ((show d.rf R.snd_SND_STATUS 1 1 = 1 from h).symm.trans hhalt) (by decide)

theorem Device.sndFixed_spec (d : Device) (x : Word) (i : Nat) : (d.sndFixed x i).reg R.snd_SND_CFG = x ∧ (d.sndFixed x i).scrub.copies = [] ∧
    (d.sndFixed x i).reg R.snd_TMR_FIX_COUNT = satAdd (d.reg R.snd_TMR_FIX_COUNT) 1 ∧ (d.sndFixed x i).rf (0xF0000 + 0x20) 20 1 = 1 ∧
    (d.sndFixed x i).reg (0xF0000 + 0x34) = satAdd (d.reg (0xF0000 + 0x34)) 1 ∧
    (d.rf (0xF0000 + 0x30) 31 1 = 0 → (d.sndFixed x i).reg (0xF0000 + 0x38) = wd i) := by
  have hcounted : ∀ o, ((d.sndAgreed x).count R.snd_TMR_FIX_COUNT 1).reg o =
      if o = R.snd_TMR_FIX_COUNT then satAdd (d.reg o) 1 else if o = R.snd_SND_CFG then x else d.reg o := fun o => by
    rw [Device.reg_countBy]
    unfold Device.sndAgreed
    rw [Device.reg_setReg]
    split
    next h => rw [if_neg (by rw [h]; decide)]; rfl
    next => rfl
  unfold Device.sndFixed
  refine ⟨?_, (congrArg (fun d : Device => d.scrub.copies) (Device.err_evtBit_speaks _ _ _ _ _ _) :), ?_, Device.evtBit_shows _ (by decide) (by decide), ?_, fun h => ?_⟩
  · rw [Device.err_evtBit_reg _ (by decide) _ _ _ _ (show OfNoReport R.snd_SND_CFG by unfold OfNoReport; decide), hcounted, if_neg (by decide), if_pos rfl]
  · rw [Device.err_evtBit_reg _ (by decide) _ _ _ _ (show OfNoReport R.snd_TMR_FIX_COUNT by unfold OfNoReport; decide), hcounted, if_pos rfl]
  · rw [Device.evtBit_reg _ _ _ _ (by decide), if_neg (by decide), Device.err_count _ _ _ _ _ (by decide), hcounted, if_neg (by decide), if_neg (by decide)]
  · rw [Device.evtBit_reg _ _ _ _ (by decide), if_neg (by decide)]
    refine Device.err_captured _ (by decide) ?_ _ _ _
    rw [Device.rf, hcounted, if_neg (by decide), if_neg (by decide)]
    exact h

theorem completes_sndVote_fixes {x : Word} {n : Nat} (hvote : sndVote f0 f1 f2 k s.dev = (s.dev.at k).sndFixed x n) :
    Completes (.sndVote f0 f1 f2 k) s fun t => t.dev.reg R.snd_SND_CFG = x ∧
      t.dev.scrub.copies = [] ∧ t.dev.reg R.snd_TMR_FIX_COUNT = satAdd (s.dev.reg R.snd_TMR_FIX_COUNT) 1 ∧ t.dev.rf (0xF0000 + 0x20) 20 1 = 1 ∧
      t.dev.reg (0xF0000 + 0x34) = satAdd (s.dev.reg (0xF0000 + 0x34)) 1 ∧
      (s.dev.rf (0xF0000 + 0x30) 31 1 = 0 → t.dev.reg (0xF0000 + 0x38) = wd n) ∧ KeepsHarts s t := by
  obtain ⟨hcfg, hcopies, hfix, hevt, herr, hlo⟩ := (s.dev.at k).sndFixed_spec x n
  exact completes_dev rfl hvote ⟨hcfg, hcopies, hfix, hevt, herr, hlo, rfl, rfl⟩

theorem completes_sndVote_agrees {x : Word} (hvote : sndVote f0 f1 f2 k s.dev = (s.dev.at k).sndAgreed x) :
    Completes (.sndVote f0 f1 f2 k) s fun t => t.dev.reg R.snd_SND_CFG = x ∧ t.dev.scrub.copies = [] ∧ KeepsRegs s t [R.snd_SND_CFG] ∧ KeepsHarts s t :=
  completes_dev rfl hvote ⟨(Device.reg_setReg ..).trans (if_pos rfl), rfl,
    fun _ ho => (Device.reg_setReg ..).trans (if_neg fun h => ho (List.mem_singleton.2 h)), rfl, rfl⟩

theorem completes_sndVote_halts (hcore : s.dev.boot.core = true) (hnone : s.dev.boot.devReset = none) {x : Word} {copies : Store Word}
    (hvote : sndVote f0 f1 f2 k s.dev = ((s.dev.at k).sndHalted x copies).deviceFault 0x0100) : Completes (.sndVote f0 f1 f2 k) s fun t =>
      t.dev.boot.devReset = some 5 ∧ t.dev.rf R.flt_DEV_FAULT 0 1 = 1 ∧ t.dev.rung = 3 ∧ KeepsHarts s t := by
  have hspeaks : ∀ d : Device, ((d.sndHalted x copies)).boot = d.boot := fun d =>
    ((Device.evtBit_speaks _ _ _).trans (Device.err_speaks _ _ _ _ _)).sparesBoot.boot
  obtain ⟨hrung, hfault, -, hreset⟩ := ((s.dev.at k).sndHalted x copies).deviceFault_spec 0x0100
  have hboot := hspeaks (s.dev.at k)
  exact completes_dev rfl hvote ⟨hreset ((congrArg Boot.core hboot).trans hcore) ((congrArg Boot.devReset hboot).trans hnone), hfault, hrung, rfl, rfl⟩

end

section
variable {s : State} {q : Req} (hw : Writes s q R.snd_SND_CFG = true)
include hw

theorem completes_sndCfgWrite (h : portCode q.port = 0 ∨ portCode q.port = 7) : Completes (.sndCfgWrite q) s fun t =>
    t.dev.reg R.snd_SND_CFG = q.data &&& 0x11F ∧ t.dev.scrub.copies = [] ∧ KeepsRegs s t [R.snd_SND_CFG] ∧ KeepsHarts s t := by
  have hwho : whoOk .mgmtSup q.port R.snd_SND_CFG = true := by
    show (decide (portCode q.port = 0) || decide (portCode q.port = 7)) = true
    rw [Bool.or_eq_true, decide_eq_true_eq, decide_eq_true_eq]
    exact h
  refine completes_dev rfl ((Device.writeAt_of_writes hw).trans (if_pos hwho)) ⟨(Device.reg_setReg ..).trans (if_pos rfl), rfl,
    fun _ ho => (Device.reg_setReg ..).trans (if_neg fun h => ho (List.mem_singleton.2 h)), rfl, rfl⟩

theorem completes_sndCfgWrite_refused (h0 : portCode q.port ≠ 0) (h7 : portCode q.port ≠ 7) : Completes (.sndCfgWrite q) s fun t =>
    t.dev.reg R.snd_SND_CFG = s.dev.reg R.snd_SND_CFG ∧ t.dev.scrub = s.dev.scrub ∧
      t.dev.reg (0xF0000 + 0x34) = satAdd (s.dev.reg (0xF0000 + 0x34)) 1 ∧ KeepsHarts s t := by
  have hwho : ¬ whoOk .mgmtSup q.port R.snd_SND_CFG = true := by
    show ¬ (decide (portCode q.port = 0) || decide (portCode q.port = 7)) = true
    rw [decide_eq_false h0, decide_eq_false h7]
    decide
  have herr : sndCfgWrite q s.dev = (s.dev.at q.t).err 0xF0000 0x0001 (accessInfo q.port R.snd_SND_CFG true) (wd (portTenant q.port)) := by
    unfold sndCfgWrite
    rw [Device.writeAt_of_writes hw, if_neg hwho, Device.errAccess, show errPage R.snd_SND_CFG = 0xF0000 from by decide]
  refine completes_dev rfl herr ⟨?_, ?_, ?_, rfl, rfl⟩
  · exact Device.err_reg_noReport _ (by decide) _ _ _ (show OfNoReport R.snd_SND_CFG by unfold OfNoReport; decide)
  · exact (congrArg Device.scrub (Device.err_speaks _ _ _ _ _) :)
  · exact Device.err_count _ _ _ _ _ (by decide)

end

/-- Settles O56: a pause that begins rewrites and debits (`Device.pauseTaken_spec`), a pass is counted (`completes_scrubPassDone`), the vote over the three
copies has five outcomes (`sndVote_eq`; three that differ are read bit by bit, log entry 138; DEFERRED as in log entry 137). -/
theorem scrubPausesPassesAndSettings : Obligations.ScrubPausesPassesAndSettings := by
  unfold Obligations.ScrubPausesPassesAndSettings
  refine ⟨?_, fun s k => ⟨fun h => completes_dev rfl (if_pos (by rw [show (s.dev.at k).scrubbing = false from h]; rfl)) ⟨rfl, rfl, rfl⟩, completes_scrubPassDone⟩, ?_,
    fun s q hw => ⟨completes_sndCfgWrite hw, completes_sndCfgWrite_refused hw⟩⟩
  · intro s p k cyc d mine n hruns
    refine ⟨completes_scrubPause_idle hruns, fun hmine hslot hpaused hrun hwin hdebits hocc => ?_, completes_scrubPauseEnd hruns, completes_scrubPauseEnd_not hruns⟩
    obtain ⟨h1, h2, h3, h4, h5, h6, h7, h8, h9⟩ := Device.pauseTaken_spec d p cyc hdebits hocc
    obtain ⟨t, hexec, ht, hkeeps⟩ := completes_scrubPause_begins (P := (· = d.pauseTaken p cyc)) hruns hmine hslot hpaused hrun hwin rfl
    rw [← ht] at h1 h2 h3 h4 h5 h6 h7 h8 h9
    exact ⟨t, hexec, h1, h2, h3, h4, h5, h6, h7, h8, h9, hkeeps⟩
  · intro s f0 f1 f2 k hcore hnone hhalt copy
    have hvote := sndVote_eq (f0 := f0) (f1 := f1) (f2 := f2) (k := k) hcore hnone hhalt
    refine ⟨fun h01 h12 => ?_, fun x n hx => ?_, fun h01 h02 h12 => ?_⟩
    · exact completes_sndVote_agrees (hvote.trans (if_pos ⟨h01, h12⟩))
    · obtain ⟨h0, h1, h2, rfl⟩ | ⟨h0, h2, h1, rfl⟩ | ⟨h1, h2, h0, rfl⟩ := hx
      · have hfix := hvote.trans ((if_neg fun h => h2 (h.2.symm.trans h1)).trans (if_pos (h0.trans h1.symm)))
        exact completes_sndVote_fixes (hfix.trans (congrArg ((s.dev.at k).sndFixed · 2) h0))
      · have h01 : ¬ copy 0 f0 = copy 1 f1 := fun h => h1 (h.symm.trans h0)
        have hfix := hvote.trans ((if_neg fun h => h01 h.1).trans ((if_neg h01).trans (if_pos (h0.trans h2.symm))))
        exact completes_sndVote_fixes (hfix.trans (congrArg ((s.dev.at k).sndFixed · 1) h0))
      · have h01 : ¬ copy 0 f0 = copy 1 f1 := fun h => h0 (h.trans h1)
        have h02 : ¬ copy 0 f0 = copy 2 f2 := fun h => h0 (h.trans h2)
        have hfix := hvote.trans ((if_neg fun h => h01 h.1).trans ((if_neg h01).trans ((if_neg h02).trans (if_pos (h1.trans h2.symm)))))
        exact completes_sndVote_fixes (hfix.trans (congrArg ((s.dev.at k).sndFixed · 0) h1))
    · exact completes_sndVote_halts hcore hnone (hvote.trans ((if_neg fun h => h01 h.1).trans ((if_neg h01).trans ((if_neg h02).trans (if_neg h12)))))

end Sys2Proof.Machine
end

section
/-! PROOFS. Sample points, the trace ring and its mirror, and captured counts (R609 to R619); O58. -/
namespace Sys2Proof.Machine

/-! ### Sampling (R609) -/

/-- One reading adds one to its bucket, at most up to the limit, and leaves the others. -/
theorem get_bump (m : Store Nat) (k n lim b : Nat) :
    Store.get zeroN (bump m k n lim) b = if b = k then min lim (Store.get zeroN m b + n) else Store.get zeroN m b := by
  unfold bump
  rw [Store.get_set]
  split
  next h => rw [h]
  next => rfl

/-- Readings add up in the buckets that do not reach the limit. -/
theorem get_bumps (l : List Nat) (m : Store Nat) (lim b : Nat) (h : Store.get zeroN m b + l.count b ≤ lim) :
    Store.get zeroN (l.foldl (fun m key => bump m key 1 lim) m) b = Store.get zeroN m b + l.count b := by
  induction l generalizing m with
  | nil => rfl
  | cons a l ih =>
    rw [List.count_cons] at h ⊢
    rw [List.foldl_cons]
    by_cases hab : a = b
    · subst hab
      rw [if_pos (beq_self_eq_true a)] at h ⊢
      have hstep : Store.get zeroN (bump m a 1 lim) a = Store.get zeroN m a + 1 := by
        rw [get_bump, if_pos rfl, Nat.min_eq_right (by omega)]
      rw [ih _ (by omega), hstep]
      omega
    · rw [if_neg (by simpa using hab)] at h ⊢
      have hstep : Store.get zeroN (bump m a 1 lim) b = Store.get zeroN m b := by
        rw [get_bump, if_neg (Ne.symm hab)]
      rw [ih _ (by omega), hstep]
      omega

/-- The histograms and the sampling of pipeline p as a sample point or the end of an interval leaves them. -/
def Device.sampled (d : Device) (p : Nat) (hist : Store Nat) (x : Samp) : Device :=
  { d with trace := { d.trace with hist := hist, samp := Store.set samp0 d.trace.samp p x } }

theorem Device.sampled_samp (d : Device) (p : Nat) (hist : Store Nat) (x : Samp) : (d.sampled p hist x).samp p = x :=
  (Store.get_set ..).trans (if_pos rfl)

section
variable {s : State} {p : Fin 64} {k cyc : Nat} (hruns : s.dev.arrayRuns = true)
include hruns

theorem completes_queueSample (hpoint : runState (s.dev.pipeState p) = true ∧ s.dev.pipeResetting p = false ∧ s.dev.sampleK p ≠ 0 ∧
    cyc % 2 ^ s.dev.sampleK p = 0 ∧ (s.dev.samp p).last ≤ cyc ∧ (s.dev.samp p).points < s.dev.samplePeriod p) :
    Completes (.queueSample p k cyc) s fun t => KeepsRegs s t [] ∧ (t.dev.samp p).points = (s.dev.samp p).points + 1 ∧
      (t.dev.samp p).tick = ((s.dev.at k).atCyc cyc).now.tick ∧
      (∀ b, Store.get zeroN s.dev.trace.hist b + (s.dev.readings p cyc).count b ≤ wordMax →
        Store.get zeroN t.dev.trace.hist b = Store.get zeroN s.dev.trace.hist b + (s.dev.readings p cyc).count b) ∧
      { t.dev.trace with hist := s.dev.trace.hist, samp := s.dev.trace.samp } = s.dev.trace ∧ KeepsHarts s t := by
  obtain ⟨hrun, hresetting, hk, hcyc, hlast, hpoints⟩ := hpoint
  have hnot : (!s.dev.pipeResetting p) = true := by rw [hresetting]; rfl
  have hsample : queueSample p k cyc s.dev = ((s.dev.at k).atCyc cyc).sampled p
      ((s.dev.readings p cyc).foldl (fun m key => bump m key 1 wordMax) s.dev.trace.hist)
      { s.dev.samp p with points := (s.dev.samp p).points + 1, tick := ((s.dev.at k).atCyc cyc).now.tick, last := cyc + 1 } :=
    if_pos ⟨hrun, hnot, hk, hcyc, hlast, hpoints⟩
  exact completes_dev (f := fun d => d.inArray (queueSample p k cyc)) rfl ((if_pos hruns).trans hsample)
    ⟨fun _ _ => rfl, congrArg Samp.points (Device.sampled_samp ..), congrArg Samp.tick (Device.sampled_samp ..), fun b hb => get_bumps _ _ _ _ hb, rfl, rfl, rfl⟩

theorem completes_queueSample_not (hpoint : ¬ (runState (s.dev.pipeState p) = true ∧ s.dev.pipeResetting p = false ∧ s.dev.sampleK p ≠ 0 ∧
    cyc % 2 ^ s.dev.sampleK p = 0 ∧ (s.dev.samp p).last ≤ cyc ∧ (s.dev.samp p).points < s.dev.samplePeriod p)) :
    Completes (.queueSample p k cyc) s fun t => t.dev = (s.dev.at k).atCyc cyc ∧ KeepsHarts s t := by
  refine completes_dev (f := fun d => d.inArray (queueSample p k cyc)) rfl ((if_pos hruns).trans (if_neg ?_)) ⟨rfl, rfl, rfl⟩
  rintro ⟨hrun, hnot, hrest⟩
  exact hpoint ⟨hrun, by simpa using (show (!s.dev.pipeResetting p) = true from hnot), hrest⟩

end

/-! ### The end of an interval (R610) -/

/-- A record that TRACE has room for is held, with the next SEQ. -/
theorem Device.traceRecord_room (d : Device) (mk : Nat → List Byte) (h : 64 * d.trace.held.length < d.rf R.hbm_TRACE_SIZE 0 16 * 2 ^ 20) :
    d.traceRecord mk = { d.setN R.obs_TRACE_SEQ ((d.rn R.obs_TRACE_SEQ + 1) % 2 ^ 32) with
      trace := { d.trace with held := d.trace.held ++ [mk (d.rn R.obs_TRACE_SEQ)] } } := by
  unfold Device.traceRecord
  exact if_neg (Nat.not_le.2 h)

/-- What a record leaves of TRACE, and the SEQ after it. -/
theorem Device.traceRecord_spec (d : Device) (mk : Nat → List Byte) :
    (∃ l, (d.traceRecord mk).trace = { d.trace with held := l }) ∧ (d.traceRecord mk).rn R.obs_TRACE_SEQ = (d.rn R.obs_TRACE_SEQ + 1) % 2 ^ 32 := by
  unfold Device.traceRecord
  extract_lets n d1
  have hseq : d1.rn R.obs_TRACE_SEQ = (n + 1) % 2 ^ 32 := d.rn_setN _ (Nat.mod_lt _ (by decide))
  split
  · refine ⟨⟨d.trace.held, ?_⟩, ?_⟩
    · exact (congrArg Device.trace (((d1.speaks_setReg _ _).trans (Device.evtBit_speaks _ _ _)).trans (Device.err_speaks _ _ _ _ _)) :)
    · have hreg : ((((d1.count R.obs_TRACE_LOST 1).evtBit 0xF2000 16).err 0xF2000 0x0100 (wd n) 0).reg R.obs_TRACE_SEQ) = d1.reg R.obs_TRACE_SEQ := by
        rw [Device.err_reg_noReport _ (by decide) _ _ _ (show OfNoReport R.obs_TRACE_SEQ by unfold OfNoReport; decide),
          Device.evtBit_reg _ _ _ _ (by decide), if_neg (by decide), Device.reg_countBy, if_neg (by decide)]
      exact (congrArg BitVec.toNat hreg).trans hseq
  · exact ⟨⟨_, rfl⟩, hseq⟩

/-- One record for each of a list of stages. -/
def Device.traceRecords (d : Device) (mk : Device → Nat → Nat → List Byte) (l : List Nat) : Device := l.foldl (fun d st => d.traceRecord (mk d st)) d

theorem Device.traceRecords_spec (mk : Device → Nat → Nat → List Byte) (l : List Nat) (d : Device) :
    (∃ x, (d.traceRecords mk l).trace = { d.trace with held := x }) ∧
    (d.traceRecords mk l).rn R.obs_TRACE_SEQ = (d.rn R.obs_TRACE_SEQ + l.length) % 2 ^ 32 ∧
    (64 * (d.trace.held.length + l.length) ≤ d.rf R.hbm_TRACE_SIZE 0 16 * 2 ^ 20 →
      (d.traceRecords mk l).trace.held.length = d.trace.held.length + l.length ∧
      ∀ o, o ≠ R.obs_TRACE_SEQ → (d.traceRecords mk l).reg o = d.reg o) := by
  induction l generalizing d with
  | nil => exact ⟨⟨_, rfl⟩, (Nat.mod_eq_of_lt (d.reg R.obs_TRACE_SEQ).isLt).symm, fun _ => ⟨rfl, fun _ _ => rfl⟩⟩
  | cons a l ih =>
    obtain ⟨⟨x, hx⟩, hseq⟩ := d.traceRecord_spec (mk d a)
    obtain ⟨⟨y, hy⟩, hseqs, hroom⟩ := ih (d.traceRecord (mk d a))
    refine ⟨⟨y, hy.trans (by rw [hx])⟩, ?_, fun hlen => ?_⟩
    · rw [hseq] at hseqs
      refine hseqs.trans ?_
      rw [List.length_cons, Nat.mod_add_mod, Nat.add_assoc, Nat.add_comm 1]
    · rw [List.length_cons] at hlen
      have hone := d.traceRecord_room (mk d a) (by omega)
      have hheld : (d.traceRecord (mk d a)).trace.held.length = d.trace.held.length + 1 := by
        rw [hone]
        exact List.length_append
      have hreg : ∀ o, o ≠ R.obs_TRACE_SEQ → (d.traceRecord (mk d a)).reg o = d.reg o := fun o ho => by
        rw [hone]
        exact (Device.reg_setReg ..).trans (if_neg ho)
      have hsize : (d.traceRecord (mk d a)).rf R.hbm_TRACE_SIZE 0 16 = d.rf R.hbm_TRACE_SIZE 0 16 := congrArg (fld · 0 16) (hreg _ (by decide))
      obtain ⟨hheld', hreg'⟩ := hroom (by rw [hheld, hsize]; omega)
      refine ⟨hheld'.trans (by rw [hheld, List.length_cons]; omega), fun o ho => (hreg' o ho).trans (hreg o ho)⟩

/-- What the records of an interval say of a stage. -/
def histRecordOf (p : Nat) (partl : Bool) (x : Samp) (d : Device) (st : Nat) : Nat → List Byte :=
  histRecord p st (b2n ((d.buckets p st).any (0xFFFFFF < ·)) + 2 * b2n partl + 4 * b2n x.first) x.tick (d.buckets p st)

theorem Device.closeInterval_eq (d : Device) (p : Nat) (partl : Bool) (h : (d.samp p).points ≠ 0) {e : Device}
    (he : d.traceRecords (histRecordOf p partl (d.samp p)) (d.histStages p) = e) :
    d.closeInterval p partl = e.sampled p (Store.wipe (fun k => k / 4096 == p) e.trace.hist) ⟨0, 0, false, (d.samp p).last⟩ := by
  subst he
  unfold Device.closeInterval
  exact if_neg h

section
variable {s : State} {p : Fin 64} {k : Nat} (hruns : s.dev.arrayRuns = true)
include hruns

theorem completes_sampleIntervalEnd_not (h : s.dev.samplePeriod p = 0 ∨ (s.dev.samp p).points < s.dev.samplePeriod p) :
    Completes (.sampleIntervalEnd p k) s fun t => t.dev = s.dev.at k ∧ KeepsHarts s t := by
  refine completes_dev (f := fun d => d.inArray (sampleIntervalEnd p k)) rfl ((if_pos hruns).trans (if_neg ?_)) ⟨rfl, rfl, rfl⟩
  rintro ⟨hpos, hle⟩
  exact h.elim (Nat.pos_iff_ne_zero.1 hpos) (Nat.not_lt.2 hle)

theorem completes_sampleIntervalEnd (hpos : 0 < s.dev.samplePeriod p) (hle : s.dev.samplePeriod p ≤ (s.dev.samp p).points) :
    Completes (.sampleIntervalEnd p k) s fun t => (t.dev.samp p).points = 0 ∧
      (∀ b, Store.get zeroN t.dev.trace.hist b = if b / 4096 = p then 0 else Store.get zeroN s.dev.trace.hist b) ∧
      t.dev.rn R.obs_TRACE_SEQ = (s.dev.rn R.obs_TRACE_SEQ + (s.dev.histStages p).length) % 2 ^ 32 ∧
      (64 * (s.dev.trace.held.length + (s.dev.histStages p).length) ≤ s.dev.rf R.hbm_TRACE_SIZE 0 16 * 2 ^ 20 →
        t.dev.trace.held.length = s.dev.trace.held.length + (s.dev.histStages p).length ∧ KeepsRegs s t [R.obs_TRACE_SEQ]) ∧ KeepsHarts s t := by
  have hspec := (s.dev.at k).traceRecords_spec (histRecordOf p false ((s.dev.at k).samp p)) ((s.dev.at k).histStages p)
  have hclose := (s.dev.at k).closeInterval_eq p false (fun h0 => absurd (hle.trans_eq h0) (Nat.not_le.2 hpos)) rfl
  generalize (s.dev.at k).traceRecords (histRecordOf p false ((s.dev.at k).samp p)) ((s.dev.at k).histStages p) = e at hspec hclose
  obtain ⟨⟨x, hx⟩, hseq, hroom⟩ := hspec
  refine completes_dev (f := fun d => d.inArray (sampleIntervalEnd p k)) rfl ((if_pos hruns).trans ((if_pos ⟨hpos, hle⟩).trans hclose))
    ⟨congrArg Samp.points (Device.sampled_samp ..), fun b => ?_, hseq, fun hlen => ?_, rfl, rfl⟩
  · refine (Store.get_wipe (fun k => k / 4096 == p.val) e.trace.hist b).trans ?_
    rw [hx]
    by_cases hb : b / 4096 = p.val
    · rw [if_pos (by simpa using hb), if_pos hb]
      rfl
    · rw [if_neg (by simpa using hb), if_neg hb]
      rfl
  · obtain ⟨hheld, hreg⟩ := hroom hlen
    exact ⟨hheld, fun o ho => hreg o fun h => ho (List.mem_singleton.2 h)⟩

end

/-! ### What an event sends (R52) -/

theorem Device.msix_out_mem (d : Device) (f v : Nat) {o : Output} (h : o ∈ d.out) : o ∈ (d.msix f v).out := by
  unfold Device.msix
  dsimp only
  split
  · exact h
  · split
    · exact h
    · exact List.mem_cons_of_mem _ h

theorem Device.evtSend_out_mem (d : Device) (pg : Nat) {o : Output} (h : o ∈ d.out) : o ∈ (d.evtSend pg).out := by
  have hroute : ∀ (p : Prop) [Decidable p] (f v : Nat), o ∈ (if p then d.msix f v else d).out := fun p _ f v => by
    split
    · exact d.msix_out_mem f v h
    · exact h
  have hpost : ∀ (p : Prop) [Decidable p] (e : Device) (kind slot : Nat) (src value : Word), o ∈ e.out →
      o ∈ (if p then e.supEvent kind slot src value else e).out := fun p _ e kind slot src value he => by
    split
    · exact he
    · exact he
  exact hpost _ _ _ _ _ _ (hroute _ _ _)

/-- What has been sent stays so when an event is raised. -/
theorem Device.evtBit_out_mem (d : Device) (pg i : Nat) {o : Output} (h : o ∈ d.out) : o ∈ (d.evtBit pg i).out := by
  unfold Device.evtBit Device.evt Device.evtRise
  split
  · exact Device.evtSend_out_mem _ pg h
  · exact h

/-- A bit that is not enabled makes no bit of EVT_PENDING rise. -/
theorem pending_masked (raw en : Word) {i : Nat} (h : fld en i 1 = 0) : (raw ||| wd (2 ^ i)) &&& en &&& ~~~(raw &&& en) = 0 := by
  have hbit : en.getLsbD i = false := by
    have h0 := testBit_fld en i 1 0
    rw [h, Nat.zero_testBit, Nat.zero_add] at h0
    exact (by simpa using h0.symm : en.toNat.testBit i = false)
  refine BitVec.eq_of_getLsbD_eq fun j hj => ?_
  simp only [BitVec.getLsbD_and, BitVec.getLsbD_or, BitVec.getLsbD_not, wd, BitVec.getLsbD_ofNat, Nat.testBit_two_pow]
  by_cases hij : i = j
  · subst hij
    simp [hbit]
  · simpa [hij] using fun hr he _ => ⟨hr, he⟩

/-- An event that is not enabled sends nothing. -/
theorem Device.evtBit_masked_out (d : Device) {pg i : Nat} (h : d.rf (pg + 0x24) i 1 = 0) : (d.evtBit pg i).out = d.out := by
  unfold Device.evtBit Device.evt Device.evtRise
  rw [if_neg]
  · rfl
  · rw [not_not]
    unfold Device.evtPending
    rw [Device.reg_setReg, if_pos rfl, Device.reg_setReg, if_neg (by omega)]
    exact pending_masked _ _ h

/-! ### The trace ring (R614, R615) -/

/-- A function that may make requests writes host memory. -/
theorem Device.hostWrite_sends {d : Device} {f : Nat} (h : d.mayRequest f = true) (a : Nat) (b : List Byte) :
    d.hostWrite f a b = d.emit (.hostWrite f a b) := by
  have hflr : (d.fn f).flr = false := by
    unfold Device.mayRequest at h
    simp only [Bool.and_eq_true, Bool.not_eq_true'] at h
    exact h.2
  unfold Device.hostWrite
  rw [if_neg (by rw [hflr]; decide), if_pos h]

section
variable {s : State} {k : Nat}

theorem completes_traceRecordWrite_not (h : s.dev.trace.held = [] ∨ ¬ (s.dev.rf R.obs_TRACE_CTRL 0 1 = 1 ∧
    u32sub (s.dev.rn R.obs_TRACE_WR) (s.dev.rn R.obs_TRACE_RD) < 2 ^ s.dev.rf R.obs_TRACE_CTRL 8 5)) :
    Completes (.traceRecordWrite k) s fun t => t.dev = s.dev.at k ∧ KeepsHarts s t := by
  have hidle : traceRecordWrite k s.dev = s.dev.at k := by
    unfold traceRecordWrite
    dsimp only
    split
    next => rfl
    next r rest hheld =>
      refine if_neg (h.resolve_left fun hnil => ?_)
      exact absurd (hheld.symm.trans hnil) (List.cons_ne_nil _ _)
  exact completes_dev rfl hidle ⟨rfl, rfl, rfl⟩

/-- The oldest record has gone to slot a of the ring. -/
def Device.traceWritten (d : Device) (a : Nat) (r : List Byte) (rest : List (List Byte)) (wr : Nat) : Device :=
  { (d.emit (.hostWrite 0 a r)).setN R.obs_TRACE_WR wr with trace := { d.trace with held := rest, mirrorDue := true } }

theorem completes_traceRecordWrite {r : List Byte} {rest : List (List Byte)} (hheld : s.dev.trace.held = r :: rest)
    (hroom : s.dev.rf R.obs_TRACE_CTRL 0 1 = 1 ∧ u32sub (s.dev.rn R.obs_TRACE_WR) (s.dev.rn R.obs_TRACE_RD) < 2 ^ s.dev.rf R.obs_TRACE_CTRL 8 5)
    (hmay : s.dev.mayRequest 0 = true) : Completes (.traceRecordWrite k) s fun t =>
      t.dev.out = .hostWrite 0 (s.dev.rn64 R.obs_TRACE_BASE_LO + s.dev.rn R.obs_TRACE_WR % 2 ^ s.dev.rf R.obs_TRACE_CTRL 8 5 * 64) r :: s.dev.out ∧
      t.dev.trace.held = rest ∧ t.dev.rn R.obs_TRACE_WR = (s.dev.rn R.obs_TRACE_WR + 1) % 2 ^ 32 ∧ t.dev.trace.mirrorDue = true ∧
      KeepsRegs s t [R.obs_TRACE_WR] ∧ KeepsHarts s t := by
  have hwrite : traceRecordWrite k s.dev = (s.dev.at k).traceWritten
      (s.dev.rn64 R.obs_TRACE_BASE_LO + s.dev.rn R.obs_TRACE_WR % 2 ^ s.dev.rf R.obs_TRACE_CTRL 8 5 * 64) r rest ((s.dev.rn R.obs_TRACE_WR + 1) % 2 ^ 32) := by
    unfold traceRecordWrite
    dsimp only
    rw [show (s.dev.at k).trace.held = r :: rest from hheld]
    dsimp only
    refine (if_pos hroom).trans ?_
    rw [Device.hostWrite_sends (show (s.dev.at k).mayRequest 0 = true from hmay)]
    rfl
  refine completes_dev rfl hwrite ⟨rfl, rfl, Device.rn_setN _ _ (Nat.mod_lt _ (by decide)), rfl, fun o ho => ?_, rfl, rfl⟩
  exact (Device.reg_setReg ..).trans (if_neg fun h => ho (List.mem_singleton.2 h))

theorem completes_traceMirrorWrite (hdue : s.dev.trace.mirrorDue = true) (hmay : s.dev.mayRequest 0 = true) :
    Completes (.traceMirrorWrite k) s fun t => t.dev.trace.mirrorDue = false ∧
      .hostWrite 0 (s.dev.rn64 R.obs_TRACE_MIRROR_LO) (leBytes 4 (s.dev.rn R.obs_TRACE_WR)) ∈ t.dev.out ∧ t.dev.rf (0xF2000 + 0x20) 17 1 = 1 ∧
      (s.dev.rf (0xF2000 + 0x24) 17 1 = 0 →
        t.dev.out = .hostWrite 0 (s.dev.rn64 R.obs_TRACE_MIRROR_LO) (leBytes 4 (s.dev.rn R.obs_TRACE_WR)) :: s.dev.out) ∧
      KeepsRegs s t [0xF2000 + 0x20, R.hif_MSIX_DROPPED] ∧ KeepsHarts s t := by
  let w : Output := .hostWrite 0 (s.dev.rn64 R.obs_TRACE_MIRROR_LO) (leBytes 4 (s.dev.rn R.obs_TRACE_WR))
  let d1 := (s.dev.at k).emit w
  have hwrite : traceMirrorWrite k s.dev = { d1.evtBit 0xF2000 17 with trace := { (d1.evtBit 0xF2000 17).trace with mirrorDue := false } } := by
    unfold traceMirrorWrite
    dsimp only
    rw [if_pos (show (s.dev.at k).trace.mirrorDue = true from hdue), Device.hostWrite_sends (show (s.dev.at k).mayRequest 0 = true from hmay)]
    rfl
  have hmem : w ∈ (d1.evtBit 0xF2000 17).out := d1.evtBit_out_mem 0xF2000 17 List.mem_cons_self
  have hraw : (d1.evtBit 0xF2000 17).rf (0xF2000 + 0x20) 17 1 = 1 := Device.evtBit_shows _ (by decide) (by decide)
  have hmasked : d1.rf (0xF2000 + 0x24) 17 1 = 0 → (d1.evtBit 0xF2000 17).out = d1.out := d1.evtBit_masked_out
  have hregs : ∀ o, o ∉ [0xF2000 + 0x20, R.hif_MSIX_DROPPED] → (d1.evtBit 0xF2000 17).reg o = d1.reg o := fun o ho => by
    simp only [List.mem_cons, List.not_mem_nil, or_false, not_or] at ho
    rw [Device.evtBit_reg _ _ _ _ ho.2, if_neg ho.1]
  generalize d1.evtBit 0xF2000 17 = e at *
  exact completes_dev rfl hwrite ⟨rfl, hmem, hraw, hmasked, hregs, rfl, rfl⟩

end

/-! ### TRACE_RD and the captured counts (R615, R618, R619) -/

/-- The counts captured from key a at key b. -/
theorem get_capture (m into : Store Nat) (a b n j : Nat) :
    Store.get zeroN (capture m into a b n) j = if b ≤ j ∧ j < b + n then Store.get zeroN m (a + (j - b)) else Store.get zeroN into j := by
  unfold capture
  induction n with
  | zero => rw [if_neg (by omega)]; rfl
  | succ n ih =>
    rw [List.range_succ, List.foldl_append, List.foldl_cons, List.foldl_nil, Store.get_set, ih]
    by_cases hj : j = b + n
    · subst hj
      rw [if_pos rfl, if_pos (by omega), Nat.add_sub_cancel_left]
    · rw [if_neg hj]
      exact if_congr (by omega) rfl rfl

section
variable {s : State} {q : Req}

/-- A value out of range is an error of the register's page and changes nothing there. -/
theorem completes_refusedValue {c : Instr} {f : Device → Device} {off : Nat} (hx : ∀ s, exec c s = onDev f s)
    (hpage : errPage off = pageOf off ∧ pageOf off + 0x34 ∉ faultRegs)
    (hf : f s.dev = (s.dev.at q.t).errValue 0x0003 q.port off q.data) : Completes c s fun t => t.dev.trace = s.dev.trace ∧
      t.dev.reg R.obs_TRACE_RD = s.dev.reg R.obs_TRACE_RD ∧ t.dev.reg (pageOf off + 0x34) = satAdd (s.dev.reg (pageOf off + 0x34)) 1 ∧ KeepsHarts s t := by
  rw [Device.errValue, hpage.1] at hf
  refine completes_dev (hx s) hf ⟨?_, ?_, ?_, rfl, rfl⟩
  · exact (congrArg Device.trace (Device.err_speaks _ _ _ _ _) :)
  · exact Device.err_reg_noReport _ (by unfold pageOf; omega) _ _ _ (show OfNoReport R.obs_TRACE_RD by unfold OfNoReport; decide)
  · exact Device.err_count _ _ _ _ _ hpage.2

theorem completes_qselWrite (hw : Writes s q R.obs_QSEL = true) (hn : q.data.toNat < 65536) : Completes (.qselWrite q) s fun t =>
    Store.get zeroN t.dev.trace.qsel (reqKey q.port) = q.data.toNat ∧
      (∀ j, Store.get zeroN t.dev.trace.qcap j =
        if j / 4 = reqKey q.port then Store.get zeroN s.dev.trace.qcnt (4 * q.data.toNat + j % 4) else Store.get zeroN s.dev.trace.qcap j) ∧
      { t.dev.trace with qsel := s.dev.trace.qsel, qcap := s.dev.trace.qcap } = s.dev.trace ∧ KeepsRegs s t [] ∧ KeepsHarts s t := by
  refine completes_dev rfl ((Device.writeAt_of_writes hw).trans (if_neg (by omega))) ⟨(Store.get_set ..).trans (if_pos rfl), fun j => ?_, rfl,
    fun _ _ => rfl, rfl, rfl⟩
  refine (get_capture _ _ _ _ _ j).trans ?_
  by_cases hj : j / 4 = reqKey q.port
  · rw [if_pos (by omega), if_pos hj, show j - 4 * reqKey q.port = j % 4 by omega]
    rfl
  · rw [if_neg (by omega), if_neg hj]
    rfl

theorem completes_tselWrite (hw : Writes s q R.obs_TSEL = true) (hn : q.data.toNat < 1024) : Completes (.tselWrite q) s fun t =>
    Store.get zeroN t.dev.trace.tsel (reqKey q.port) = q.data.toNat ∧
      (∀ j, Store.get zeroN t.dev.trace.tcap j =
        if j / 32 = reqKey q.port ∧ j % 32 < 19 then Store.get zeroN s.dev.trace.tcnt (32 * q.data.toNat + j % 32) else Store.get zeroN s.dev.trace.tcap j) ∧
      { t.dev.trace with tsel := s.dev.trace.tsel, tcap := s.dev.trace.tcap } = s.dev.trace ∧ KeepsRegs s t [] ∧ KeepsHarts s t := by
  refine completes_dev rfl ((Device.writeAt_of_writes hw).trans (if_neg (by omega))) ⟨(Store.get_set ..).trans (if_pos rfl), fun j => ?_, rfl,
    fun _ _ => rfl, rfl, rfl⟩
  refine (get_capture _ _ _ _ _ j).trans ?_
  by_cases hj : j / 32 = reqKey q.port ∧ j % 32 < 19
  · rw [if_pos (by omega), if_pos hj, show j - 32 * reqKey q.port = j % 32 by omega]
    rfl
  · rw [if_neg (by omega), if_neg hj]
    rfl

theorem completes_tctlClear (hw : Writes s q R.obs_TCTL = true) : Completes (.tctlClear q) s fun t => KeepsRegs s t [] ∧ KeepsHarts s t ∧
    { t.dev.trace with tcnt := s.dev.trace.tcnt } = s.dev.trace ∧ ∀ j, Store.get zeroN t.dev.trace.tcnt j =
      if fld q.data 0 1 = 1 ∧ j / 32 = Store.get zeroN s.dev.trace.tsel (reqKey q.port) then 0 else Store.get zeroN s.dev.trace.tcnt j := by
  have hbit := fld_lt q.data 0 1
  by_cases h0 : fld q.data 0 1 = 0
  · exact completes_dev rfl ((Device.writeAt_of_writes hw).trans (if_pos h0)) ⟨fun _ _ => rfl, ⟨rfl, rfl⟩, rfl, fun j => (if_neg (by omega)).symm⟩
  · refine completes_dev rfl ((Device.writeAt_of_writes hw).trans (if_neg h0)) ⟨fun _ _ => rfl, ⟨rfl, rfl⟩, rfl, fun j => ?_⟩
    refine (Store.get_wipe (fun k => k / 32 == Store.get zeroN s.dev.trace.tsel (reqKey q.port)) s.dev.trace.tcnt j).trans ?_
    by_cases hj : j / 32 = Store.get zeroN s.dev.trace.tsel (reqKey q.port)
    · rw [if_pos (beq_iff_eq.2 hj), if_pos ⟨by omega, hj⟩]
      rfl
    · rw [if_neg fun h => hj (beq_iff_eq.1 h), if_neg fun h => hj h.2]

end

/-- Settles O58: sample points add to buckets (`get_bumps`), an interval's records take their SEQ (`Device.traceRecords_spec`), the mirror's event sends what it
may (`Device.evtBit_out_mem`), and captured counts are copies (`get_capture`); each hart is a requester of its own and CLEAR leaves the captured words by
log entry 142, the points after the PERIOD wait by log entry 141. -/
theorem samplingTraceAndCountsAreKept : Obligations.SamplingTraceAndCountsAreKept := by
  unfold Obligations.SamplingTraceAndCountsAreKept
  refine ⟨?_, ?_, ?_⟩
  · intro s p k cyc d x point hruns
    exact ⟨completes_queueSample hruns, completes_queueSample_not hruns, completes_sampleIntervalEnd_not hruns, completes_sampleIntervalEnd hruns⟩
  · intro s k n wr room
    refine ⟨completes_traceRecordWrite_not, fun r rest => completes_traceRecordWrite, fun h => ?_, completes_traceMirrorWrite⟩
    exact completes_dev rfl (if_neg (by rw [show (s.dev.at k).trace.mirrorDue = false from h]; decide)) ⟨rfl, rfl, rfl⟩
  · intro s q rd key n refused
    refine ⟨fun hw hle => ?_, fun hw hlt => ?_, completes_qselWrite, fun hw hn => ?_, completes_tselWrite, fun hw hn => ?_, completes_tctlClear⟩
    · exact completes_dev rfl ((Device.writeAt_of_writes hw).trans (if_pos hle)) ⟨(Device.reg_setReg ..).trans (if_pos rfl),
        fun _ ho => (Device.reg_setReg ..).trans (if_neg fun h => ho (List.mem_singleton.2 h)), rfl, rfl, rfl⟩
    · exact completes_refusedValue (fun _ => rfl) (by decide) ((Device.writeAt_of_writes hw).trans (if_neg (Nat.not_le.2 hlt)))
    · exact completes_refusedValue (off := R.obs_QSEL) (fun _ => rfl) (by decide) ((Device.writeAt_of_writes hw).trans (if_pos (by omega)))
    · exact completes_refusedValue (off := R.obs_TSEL) (fun _ => rfl) (by decide) ((Device.writeAt_of_writes hw).trans (if_pos (by omega)))

end Sys2Proof.Machine
end

section
/-! PROOFS. A Linwald port trains, comes UP and goes down (R535, R543, R545, R548); O50. -/
namespace Sys2Proof.Machine

/-! ### What a port's fall leaves of the link pages (R545) -/

/-- PORT_CFG, RETRY_LIMIT and LINK_DOWNS of a port: the registers of a link page that the failure of what waits there does not touch. -/
def OfLinkCount (o : Nat) : Prop :=
  0x2038000 ≤ o ∧ o < 0x203C000 ∧ (o % 0x1000 = 0x100 ∨ o % 0x1000 = 0x114 ∨ o % 0x1000 = 0x118)

theorem OfLinkCount.ne_msix {o : Nat} (h : OfLinkCount o) : o ≠ R.hif_MSIX_DROPPED := by
  obtain ⟨hlo, -, -⟩ := h
  unfold R.hif_MSIX_DROPPED
  omega

theorem OfLinkCount.notMem_faultRegs {o : Nat} (h : OfLinkCount o) : o ∉ faultRegs :=
  notMem_faultRegs_above (by obtain ⟨h1, -, -⟩ := h; omega)

theorem ofLinkCount {k : Fin 4} : OfLinkCount (R.lwl_PORT_CFG k) ∧ OfLinkCount (R.lwl_RETRY_LIMIT k) ∧ OfLinkCount (R.lwl_LINK_DOWNS k) := by
  unfold OfLinkCount R.lwl_PORT_CFG R.lwl_RETRY_LIMIT R.lwl_LINK_DOWNS
  omega

/-- The Linwald ports and the three registers stand. -/
structure Device.SparesLinks (d e : Device) : Prop where
  lwl : e.lwl = d.lwl
  reg : ∀ o, OfLinkCount o → e.reg o = d.reg o

namespace Device.SparesLinks

variable {d e f : Device}

theorem refl (d : Device) : d.SparesLinks d := ⟨rfl, fun _ _ => rfl⟩

theorem trans (h : d.SparesLinks e) (g : e.SparesLinks f) : d.SparesLinks f :=
  ⟨g.lwl.trans h.lwl, fun o ho => (g.reg o ho).trans (h.reg o ho)⟩

theorem ite {p : Prop} [Decidable p] (he : d.SparesLinks e) (hf : d.SparesLinks f) : d.SparesLinks (if p then e else f) := by
  split
  · exact he
  · exact hf

theorem foldl {α : Type} {k : Device → α → Device} {l : List α} (h : ∀ (d : Device), ∀ a ∈ l, d.SparesLinks (k d a)) (d : Device) :
    d.SparesLinks (l.foldl k d) :=
  List.foldlRecOn _ _ (motive := fun e => d.SparesLinks e) (refl d) fun e he a ha => he.trans (h e a ha)

/-- What changes neither a register nor a port spares the links. -/
theorem of_regs (hl : e.lwl = d.lwl) (hr : e.regs = d.regs) : d.SparesLinks e :=
  ⟨hl, fun o _ => congrArg (Store.get resetOf · o) hr⟩

theorem lw_eq (h : d.SparesLinks e) (k : Nat) : e.lw k = d.lw k := congrArg (Store.get lwPort0 · k) h.lwl

end Device.SparesLinks

theorem Device.Speaks.sparesLinks {d e : Device} (h : d.Speaks e) (hreg : ∀ o, OfLinkCount o → e.reg o = d.reg o) : d.SparesLinks e :=
  ⟨(congrArg Device.lwl h :), hreg⟩

theorem Device.setReg_sparesLinks (d : Device) {o : Nat} (h : ¬ OfLinkCount o) (v : Word) : d.SparesLinks (d.setReg o v) :=
  ⟨rfl, fun x hx => (d.reg_setReg o x v).trans (if_neg fun he : x = o => h (he ▸ hx))⟩

theorem Device.setN_sparesLinks (d : Device) {o : Nat} (h : ¬ OfLinkCount o) (n : Nat) : d.SparesLinks (d.setN o n) := d.setReg_sparesLinks h _

theorem Device.setF_sparesLinks (d : Device) {o : Nat} (h : ¬ OfLinkCount o) (lo w x : Nat) : d.SparesLinks (d.setF o lo w x) :=
  d.setReg_sparesLinks h _

theorem Device.count_sparesLinks (d : Device) {o : Nat} (h : ¬ OfLinkCount o) (k : Nat) : d.SparesLinks (d.count o k) := d.setReg_sparesLinks h _

theorem Device.evtBit_sparesLinks (d : Device) {pg : Nat} (hpg : pg % 0x1000 = 0) (i : Nat) : d.SparesLinks (d.evtBit pg i) :=
  (d.evtBit_speaks pg i).sparesLinks fun o ho =>
    (d.evtBit_reg _ _ _ ho.ne_msix).trans (if_neg (by obtain ⟨-, -, ho⟩ := ho; omega))

theorem Device.faultOpen_sparesLinks (d : Device) (src cls : Nat) : d.SparesLinks (d.faultOpen src cls) :=
  Device.SparesLinks.trans (e := d.fresh.2.fresh.2.fresh.2) (.of_regs rfl rfl) <|
    (Device.faultLog_speaks _ _ _ _ _ _).sparesLinks fun o ho => Device.faultLog_reg _ _ _ _ _ _ o ho.notMem_faultRegs

theorem Device.err_sparesLinks (d : Device) {pg : Nat} (hpg : pg % 0x1000 = 0) (code : Nat) (lo hi : Word) :
    d.SparesLinks (d.err pg code lo hi) :=
  (d.err_speaks pg code lo hi).sparesLinks fun o ho => d.err_reg pg code lo hi o ho.notMem_faultRegs (by
    obtain ⟨-, -, ho⟩ := ho
    simp only [List.mem_cons, List.not_mem_nil, or_false]
    omega)

theorem Device.settle_sparesLinks (d : Device) (p : Nat) : d.SparesLinks (d.settle p) := by
  obtain ⟨e, n, x, ⟨f, -, -, rfl⟩, h, -⟩ := d.settle_eq p
  rw [h]
  have hoff : ¬ OfLinkCount (R.sch_WINDOW_DEBIT p) := by
    unfold OfLinkCount R.sch_WINDOW_DEBIT
    omega
  exact ⟨rfl, (Device.setN_sparesLinks { d with jobs := d.jobs.map f } hoff n).reg⟩

theorem Device.hostWrite_sparesLinks (d : Device) (f a : Nat) (b : List Byte) : d.SparesLinks (d.hostWrite f a b) := by
  unfold Device.hostWrite
  exact .ite (.refl d) (.ite (.of_regs rfl rfl) (d.count_sparesLinks (by unfold OfLinkCount R.hif_BME_DROPPED; omega) 1))

theorem Device.countOut_sparesLinks (d : Device) (j : Job) (n : Nat) : d.SparesLinks (d.countOut j n) := by
  unfold Device.countOut
  extract_lets d1 k
  have h1 : d.SparesLinks d1 :=
    .ite ⟨rfl, fun o ho => d.reg_setN64 _ (by
      obtain ⟨hlo, -, -⟩ := ho
      simp only [List.mem_cons, List.not_mem_nil, or_false, R.hod_BYTES_OUT_LO]
      omega)⟩ (.refl d)
  exact h1.trans (.of_regs rfl rfl)

theorem Device.writeHeader_sparesLinks (d : Device) (j : Job) (status plen : Nat) : d.SparesLinks (d.writeHeader j status plen) := by
  unfold Device.writeHeader
  split
  · exact (d.hostWrite_sparesLinks _ _ _).trans (Device.countOut_sparesLinks _ _ _)
  · exact .refl d

theorem Device.finishRaw_sparesLinks (d : Device) (id status plen : Nat) (hdr : Bool) : d.SparesLinks (d.finishRaw id status plen hdr) := by
  unfold Device.finishRaw
  split
  · exact .refl d
  · extract_lets d1 d2
    have h1 : d.SparesLinks d1 := Device.SparesLinks.foldl (k := fun (d : Device) (e : EvEntry) => d.cancelEntry e.num)
      (fun _ _ _ => .of_regs rfl rfl) d
    have h2 : d.SparesLinks d2 := .ite (h1.trans (d1.writeHeader_sparesLinks _ _ _)) h1
    exact .ite (.refl d) (.ite (h2.trans (.of_regs rfl rfl)) (h2.trans (.of_regs rfl rfl)))

theorem Device.fenceCheck_sparesLinks (d : Device) (g : Nat) : d.SparesLinks (d.fenceCheck g) := by
  unfold Device.fenceCheck
  extract_lets x
  split
  · exact .refl d
  · exact .ite ((d.finishRaw_sparesLinks _ _ _ _).trans (.of_regs rfl rfl)) (.refl d)

theorem Device.finish_sparesLinks (d : Device) (id status plen : Nat) (hdr : Bool) : d.SparesLinks (d.finish id status plen hdr) := by
  unfold Device.finish
  split
  · exact .refl d
  · exact (d.finishRaw_sparesLinks _ _ _ _).trans (Device.fenceCheck_sparesLinks _ _)

theorem Device.egrWaitEnd_sparesLinks (d : Device) {p : Nat} (hp : p < 64) : d.SparesLinks (d.egrWaitEnd p) := by
  unfold Device.egrWaitEnd
  split
  · exact .refl d
  · exact Device.SparesLinks.trans (e := d.setPipe p { d.pipe p with egrWant := none }) (.of_regs rfl rfl)
      (Device.count_sparesLinks _ (by unfold OfLinkCount R.hbm_EGR_WAIT; omega) _)

theorem Device.pipeFaultLog_sparesLinks (d : Device) {p : Nat} (hp : p < 64) (cause tile : Nat) : d.SparesLinks (d.pipeFaultLog p cause tile) := by
  unfold Device.pipeFaultLog
  refine .ite (.refl d) (Device.SparesLinks.trans ?_ (Device.faultOpen_sparesLinks _ _ _))
  unfold Device.pipeFaultSet
  refine .ite (.refl d) ?_
  extract_lets d1 ids oldest d2
  have h1 : d.SparesLinks d1 :=
    ((((d.settle_sparesLinks p).trans (Device.egrWaitEnd_sparesLinks _ hp)).trans
      (Device.setF_sparesLinks _ (by unfold OfLinkCount R.sch_PIPE_STATE; omega) 8 1 1)).trans
      (Device.setN_sparesLinks _ (by unfold OfLinkCount R.sch_FAULT_INFO; omega) _)).trans
      (Device.evtBit_sparesLinks _ (by unfold schPage; omega) 26)
  have h2 : d1.SparesLinks d2 := Device.SparesLinks.foldl (fun e id _ => by
    dsimp only [Device.finishNow]
    exact Device.SparesLinks.trans (e := e.modJob id fun x => { x with faulted := true, misaligned := cause == 2 && oldest == some id })
      (.of_regs rfl rfl) (Device.finish_sparesLinks _ _ _ _ _)) d1
  exact (h1.trans h2).trans (.of_regs rfl rfl)

/-- A NACK counts at its port and shows in the job's queue. -/
theorem Device.peerNack_sparesLinks (d : Device) (id port chan fr reason : Nat) : d.SparesLinks (d.peerNack id port chan fr reason) := by
  unfold Device.peerNack
  split
  · exact .refl d
  · next j _ =>
    extract_lets g d1 again d2 d3 d4 d5
    have h1 : d.SparesLinks d1 :=
      (((d.count_sparesLinks (by unfold OfLinkCount R.lwl_FRAME_NACKS; omega) 1).trans
        (Device.setN_sparesLinks _ (by unfold OfLinkCount R.lwl_LAST_NACK; omega) _)).trans
        (Device.setN_sparesLinks _ (by unfold OfLinkCount R.lwl_LAST_NACK_FRAME; omega) _)).trans
        (Device.err_sparesLinks _ (by omega) _ _ _)
    have h3 : d.SparesLinks d3 :=
      (h1.trans (.ite (d1.writeHeader_sparesLinks _ _ _) (.refl d1)) : d.SparesLinks d2).trans (.of_regs rfl rfl)
    have h4 : d.SparesLinks d4 := (h3.trans (d3.setF_sparesLinks (by unfold OfLinkCount R.qst_QSTATUS; omega) 4 1 1)).trans
      (Device.evtBit_sparesLinks _ rfl 18)
    have h5 : d.SparesLinks d5 := .ite h4 <|
      (((h4.trans (d4.setN_sparesLinks (by unfold OfLinkCount R.qst_QERR; omega) _)).trans
        (Device.setN_sparesLinks _ (by unfold OfLinkCount R.qst_QERR_IDX; omega) _)).trans
        (Device.setN_sparesLinks _ (by unfold OfLinkCount R.qst_QERR_ADDR_LO; omega) _)).trans
        (Device.setN_sparesLinks _ (by unfold OfLinkCount R.qst_QERR_ADDR_HI; omega) _)
    exact .ite (h3.trans (d3.fenceCheck_sparesLinks g)) ((h5.trans (d5.faultOpen_sparesLinks _ _)).trans (Device.fenceCheck_sparesLinks _ _))

/-! ### A port loses its partner -/

/-- The registers of a port that count and configure stand; its own state may change. -/
abbrev Device.KeepsLinkCounts (d e : Device) : Prop := ∀ o, OfLinkCount o → e.reg o = d.reg o

/-- The answer to a frame ends its wait and changes nothing else of the ports. -/
theorem Device.peerAnswer_sparesLinks (d : Device) (k c n reason : Nat) :
    (d.modLw k fun x => { x with awaits := x.awaits.filter fun q => !(q.1 == c && q.2.1 == n) }).SparesLinks (d.peerAnswer k c n reason) := by
  unfold Device.peerAnswer
  extract_lets d1
  split
  · exact .refl _
  · next j _ =>
    split
    · exact Device.SparesLinks.trans (e := d1.modJob j.id fun y => { y with peer := none }) (.of_regs rfl rfl)
        (Device.fenceCheck_sparesLinks _ _)
    · exact .ite (Device.peerNack_sparesLinks _ _ _ _ _ _) (.of_regs rfl rfl)

theorem Device.failPeers_keeps (d : Device) (k : Nat) : d.KeepsLinkCounts (d.failPeers k) := fun o ho => by
  unfold Device.failPeers
  exact foldl_keeps (fun e => e.reg o) (fun (e : Device) q _ => (e.peerAnswer_sparesLinks k q.1 q.2 3).reg o ho) d

theorem Device.lwSettle_keeps (d : Device) (k : Nat) : d.KeepsLinkCounts (d.lwSettle k) := fun o ho => by
  unfold Device.lwSettle
  extract_lets x waits d1
  have h1 : d.SparesLinks d1 := .ite (d.count_sparesLinks (by unfold OfLinkCount R.lwl_PEER_TX_WAIT; omega) _) (.refl d)
  exact h1.reg o ho

theorem Device.retryEnds_keeps (d : Device) (k : Nat) : d.KeepsLinkCounts (d.retryEnds k) := fun o ho => by
  unfold Device.retryEnds
  split
  · rfl
  · exact (Device.SparesLinks.foldl (k := fun (d : Device) p => d.occEnd p 1)
      (fun d p _ => (d.settle_sparesLinks p).trans (.of_regs rfl rfl)) d).reg o ho

/-- A port with nothing that waits. -/
def LwPort.Emptied (x : LwPort) : Prop :=
  x.opened = none ∧ x.replay = [] ∧ x.ctl = [] ∧ x.mr = [] ∧ x.mw = [] ∧ x.circ = [] ∧ x.copy = none

@[simp] theorem Device.lw_setLw (d : Device) (k : Nat) (x : LwPort) : (d.setLw k x).lw k = x :=
  (Store.get_set ..).trans (if_pos rfl)

theorem Device.Speaks.lw_eq {d e : Device} (h : d.Speaks e) (k : Nat) : e.lw k = d.lw k :=
  congrArg (Store.get lwPort0 · k) (congrArg Device.lwl h :)

theorem Device.copyError_lw (d : Device) (k reason : Nat) : (d.copyError k reason).lw k = { d.lw k with copy := none } :=
  ((Device.err_speaks _ _ _ _ _).lw_eq k).trans (d.lw_setLw k _)

theorem Device.copyError_keeps (d : Device) (k reason : Nat) : d.KeepsLinkCounts (d.copyError k reason) := fun o ho => by
  unfold Device.copyError
  rw [(Device.err_sparesLinks _ (by unfold lwPage; omega) _ _ _).reg o ho,
    (Device.setN_sparesLinks _ (by unfold OfLinkCount R.lwl_COPY_STATUS; omega) _).reg o ho]
  rfl

/-- A port that loses its partner is emptied; its counts stand. -/
theorem Device.lwDrop_spec (d : Device) (k : Nat) : d.KeepsLinkCounts (d.lwDrop k) ∧ ((d.lwDrop k).lw k).Emptied := by
  have h1 : d.KeepsLinkCounts (((d.lwSettle k).retryEnds k).failPeers k) := fun o ho =>
    (Device.failPeers_keeps _ k o ho).trans ((Device.retryEnds_keeps _ k o ho).trans (d.lwSettle_keeps k o ho))
  unfold Device.lwDrop
  generalize ((d.lwSettle k).retryEnds k).failPeers k = e at h1
  extract_lets d1 mine y d2 open_ x z d3 d4 d5 d6
  have h34 : d3.SparesLinks d4 := d3.setN_sparesLinks (by unfold OfLinkCount R.lwl_PORT_STATUS; omega) 0
  have h45 : d4.SparesLinks d5 := Device.SparesLinks.foldl (fun (e : Device) c _ => by
    split
    · next h => exact e.pipeFaultLog_sparesLinks h 6 0
    · exact .refl e) d4
  have h5 : d.KeepsLinkCounts d5 := fun o ho => ((h34.trans h45).reg o ho).trans (h1 o ho)
  have hlw5 : d5.lw k = { lwPort0 k with copy := x.copy, since := d2.now.tick, waitMark := d2.now.tick } :=
    ((h34.trans h45).lw_eq k).trans (d2.lw_setLw k _)
  have h6 : d.KeepsLinkCounts d6 ∧ (d6.lw k).Emptied := by
    dsimp only [d6]
    split
    · exact ⟨fun o ho => (d5.copyError_keeps k 2 o ho).trans (h5 o ho), by
        rw [Device.copyError_lw, hlw5]
        exact ⟨rfl, rfl, rfl, rfl, rfl, rfl, rfl⟩⟩
    · next hnone =>
      refine ⟨h5, ?_⟩
      rw [hlw5]
      exact ⟨rfl, rfl, rfl, rfl, rfl, rfl, Option.not_isSome_iff_eq_none.1 hnone⟩
  obtain ⟨hreg6, hlw6⟩ := h6
  split
  · exact ⟨fun o ho => ((d6.setN_sparesLinks (by unfold OfLinkCount R.lwl_RREG_STATUS; omega) _).reg o ho).trans (hreg6 o ho), hlw6⟩
  · exact ⟨hreg6, hlw6⟩

/-! ### Link-down (R543) and training (R535) -/

theorem Device.lwState_setN (d : Device) (k n : Nat) : (d.setN (R.lwl_PORT_STATUS k) n).lwState k = n % 4 :=
  (congrArg (fld · 0 2) ((Device.reg_setReg _ _ _ _).trans (if_pos rfl))).trans ((fld_wd (by decide) n).trans (by norm_num))

/-- A port that may train is TRAINING, another one DOWN; nothing else of the link changes. -/
theorem Device.lwTrain_spec (d : Device) (k : Nat) : (∀ o, o ≠ R.lwl_PORT_STATUS k → (d.lwTrain k).reg o = d.reg o) ∧ (d.lwTrain k).lwState k ≤ 1 ∧
    (d.rf (R.lwl_PORT_CFG k) 0 1 = 0 → (d.lwTrain k).lwState k = 0) ∧ ((d.lw k).Emptied → ((d.lwTrain k).lw k).Emptied) := by
  unfold Device.lwTrain
  split
  · next h =>
    obtain ⟨hcfg, -⟩ := h
    refine ⟨fun o ho => (Device.reg_setReg _ _ _ _).trans (if_neg ho), (Device.lwState_setN _ k 1).le,
      fun h0 => absurd (h0.symm.trans hcfg) (by decide), fun he => ?_⟩
    obtain ⟨h1, h2, h3, h4, h5, h6, h7⟩ := he
    have hlw : (((d.modLw k fun x => { x with since := d.now.tick, half := false, ofs := none }).setN (R.lwl_PORT_STATUS k) 1).lw k) =
      { d.lw k with since := d.now.tick, half := false, ofs := none } := d.lw_setLw k _
    rw [hlw]
    exact ⟨h1, h2, h3, h4, h5, h6, h7⟩
  · exact ⟨fun o ho => (Device.reg_setReg _ _ _ _).trans (if_neg ho), ((d.lwState_setN k 0).trans rfl).le.trans (by decide),
      fun _ => d.lwState_setN k 0, id⟩

/-- What a port is after its link-down. -/
structure Device.WentDown (d : Device) (k : Fin 4) (e : Device) : Prop where
  downs : e.reg (R.lwl_LINK_DOWNS k) = satAdd (d.reg (R.lwl_LINK_DOWNS k)) 1
  limit : e.reg (R.lwl_RETRY_LIMIT k) = d.reg (R.lwl_RETRY_LIMIT k)
  state : e.lwState k ≤ 1
  disabled : d.rf (R.lwl_PORT_CFG k) 0 1 = 0 → e.lwState k = 0
  empty : (e.lw k).Emptied
  event : e.rf (lwPage k + 0x20) 17 1 = 1

theorem Device.linkDown_spec (d : Device) (k : Fin 4) (cause : Nat) : d.WentDown k (d.linkDown k cause) := by
  have hpage : lwPage k % 0x1000 = 0 := by
    unfold lwPage
    omega
  obtain ⟨hcfg, hlimit, hdowns⟩ := ofLinkCount (k := k)
  obtain ⟨hkeeps, hempty⟩ := d.lwDrop_spec k
  unfold Device.linkDown
  extract_lets d1
  have hlinks : ((d.lwDrop k).count (R.lwl_LINK_DOWNS k) 1).SparesLinks (d1.evtBit (lwPage k) 17) :=
    (Device.err_sparesLinks _ hpage _ _ _).trans (Device.evtBit_sparesLinks _ hpage 17)
  obtain ⟨hreg, hstate, hdis, hlw⟩ := (d1.evtBit (lwPage k) 17).lwTrain_spec k
  have hcount : ∀ o, OfLinkCount o → (((d1.evtBit (lwPage k) 17).lwTrain k).reg o =
      if o = R.lwl_LINK_DOWNS k then satAdd (d.reg o) 1 else d.reg o) := fun o ho => by
    rw [hreg o fun he => by
      subst he
      revert ho
      unfold OfLinkCount R.lwl_PORT_STATUS
      omega, hlinks.reg o ho, Device.reg_count, hkeeps o ho]
  refine ⟨(hcount _ hdowns).trans (if_pos rfl), (hcount _ hlimit).trans (if_neg ?_), hstate, fun h0 => hdis ?_, hlw ?_, ?_⟩
  · unfold R.lwl_RETRY_LIMIT R.lwl_LINK_DOWNS
    omega
  · refine (congrArg (fld · 0 1) ((hlinks.reg _ hcfg).trans ((Device.reg_count _ _ _).trans (if_neg ?_)))).trans
      ((congrArg (fld · 0 1) (hkeeps _ hcfg)).trans h0)
    unfold R.lwl_PORT_CFG R.lwl_LINK_DOWNS
    omega
  · rw [hlinks.lw_eq]
    exact hempty
  · refine (congrArg (fld · 17 1) (hreg (lwPage k + 0x20) ?_)).trans (d1.evtBit_shows ?_ (by decide))
    · unfold lwPage R.lwl_PORT_STATUS
      omega
    · unfold lwPage R.hif_MSIX_DROPPED
      omega

/-! ### Flits that a port sends (R537, R541) -/

/-- A flit whose CRC was computed is CRC-good. -/
theorem LwFlit.sealed_good (f : Sys2Proof.LwFlit) : f.sealed.bad false = false := bne_self_eq_false (crc32 f.body)

/-! ### INIT flits (R535) -/

theorem lwLanesLocked_inits {s : State} {k : Fin 4} (t c : Nat) (hst : s.dev.lwState k = 1) :
    Completes (.lwLanesLocked k t c) s fun u =>
      u.dev.lwState k = 2 ∧ u.dev.rf (R.lwl_PORT_STATUS k) 2 1 = (match s.dev.rf (R.lwl_PORT_CFG k) 1 2 with
        | 0 => if (s.dev.lw k).half then 1 else 0
        | 2 => 1
        | _ => 0) ∧ (u.dev.lw k).txSeq = 1 ∧ KeepsRegs s u [R.lwl_PORT_STATUS k] ∧ KeepsHarts s u ∧
      ∃ f, u.dev.out = .lw k f :: s.dev.out ∧ f.kind = 3 ∧ f.fseq = 0 ∧ f.scyc = BitVec.ofNat 32 (s.dev.atBoth t c).now.cyc ∧
        f.segs = [] ∧ f.bad false = false := by
  let half := if s.dev.rf (R.lwl_PORT_CFG k) 1 2 = 0 then (s.dev.lw k).half else s.dev.rf (R.lwl_PORT_CFG k) 1 2 == 2
  have hreg : ∀ o, ((s.dev.atBoth t c).setN (R.lwl_PORT_STATUS k) (2 + 4 * b2n half)).reg o =
      if o = R.lwl_PORT_STATUS k then wd (2 + 4 * b2n half) else s.dev.reg o := fun o => Device.reg_setReg _ _ _ _
  have hhalf : b2n half < 2 := by
    cases half <;> decide
  refine completes_dev rfl (if_pos (show (s.dev.atBoth t c).lwState k = 1 from hst)) ⟨?_, ?_, ?_, fun o ho => ?_, ⟨rfl, rfl⟩, ?_⟩
  · refine (congrArg (fld · 0 2) ((hreg _).trans (if_pos rfl))).trans ((fld_wd (by decide) _).trans ?_)
    omega
  · refine (congrArg (fld · 2 1) ((hreg _).trans (if_pos rfl))).trans ((fld_wd (by decide) _).trans (Eq.trans (b := b2n half) ?_ ?_))
    · omega
    · dsimp only [half]
      generalize s.dev.rf (R.lwl_PORT_CFG k) 1 2 = rate
      match rate with
      | 0 => cases (s.dev.lw k).half <;> rfl
      | 1 => rfl
      | 2 => rfl
      | _ + 3 => rfl
  · exact congrArg LwPort.txSeq (Device.lw_setLw _ k _) |>.trans (congrArg LwPort.txSeq (Device.lw_setLw _ k _))
  · exact (hreg o).trans (if_neg (by simpa using ho))
  · exact ⟨_, rfl, rfl, rfl, rfl, rfl, LwFlit.sealed_good _⟩

theorem Device.zeroFrames_reg (d : Device) (k o : Nat) (l : List Nat) :
    (l.foldl (fun d c => d.setN (R.lwl_CH_FRAMES k c) 0) d).reg o = if ∃ c ∈ l, o = R.lwl_CH_FRAMES k c then 0 else d.reg o := by
  induction l generalizing d with
  | nil => simp
  | cons a l ih =>
    rw [List.foldl_cons, ih, Device.setN_eq, Device.reg_setReg]
    by_cases hl : ∃ c ∈ l, o = R.lwl_CH_FRAMES k c
    · rw [if_pos hl, if_pos (hl.imp fun c hc => ⟨List.mem_cons_of_mem _ hc.1, hc.2⟩)]
    · rw [if_neg hl]
      by_cases ha : o = R.lwl_CH_FRAMES k a
      · rw [if_pos ha, if_pos ⟨a, List.mem_cons_self, ha⟩]
        rfl
      · rw [if_neg ha, if_neg]
        rintro ⟨c, hc, ho⟩
        rcases List.mem_cons.1 hc with rfl | hc
        · exact ha ho
        · exact hl ⟨c, hc, ho⟩

/-- A port that comes UP shows what the partner's flit says, expects its next flit, and counts its frames and its latency afresh. -/
theorem Device.lwUp_spec (d : Device) (k : Fin 4) (f : Sys2Proof.LwFlit) : let u := d.lwUp k f
    u.lwState k = 3 ∧ u.rf (R.lwl_PORT_STATUS k) 2 1 = d.rf (R.lwl_PORT_STATUS k) 2 1 ∧ u.rf (R.lwl_PORT_STATUS k) 3 1 = 1 ∧
      u.rf (R.lwl_PORT_STATUS k) 4 1 = f.state.toNat % 2 ∧ (u.lw k).rxSeq = (f.fseq.toNat + 1) % 256 ∧ (u.lw k).lastGood = d.now.tick ∧
      u.reg (R.lwl_LAT_MEAS k) = 0 ∧ (∀ x < 64, u.reg (R.lwl_CH_FRAMES k x) = 0) ∧ u.rf (lwPage k + 0x20) 16 1 = 1 := by
  unfold Device.lwUp
  extract_lets x half cap d1 d2 d3 u
  have hhalf : half < 2 := fld_lt _ 2 1
  have hcap : cap < 2 := by
    dsimp only [cap]
    cases (half == 1 && decide (900 < d.rn (R.lwl_RESV k))) <;> decide
  have hreg : ∀ o, o % 0x1000 ≠ 0x20 → R.hif_MSIX_DROPPED < o → u.reg o =
      if ∃ c ∈ List.range 64, o = R.lwl_CH_FRAMES k c then 0 else if o = R.lwl_LAT_MEAS k then 0 else d1.reg o := fun o h20 hlo => by
    rw [show u.reg o = d3.reg o from (Device.evtBit_reg _ _ _ _ (ne_of_gt hlo)).trans (if_neg (by unfold lwPage; omega)),
      show d3.reg o = _ from Device.zeroFrames_reg _ k o _]
    exact if_congr Iff.rfl rfl (Device.reg_setReg _ _ _ _)
  have hstatus : u.reg (R.lwl_PORT_STATUS k) =
      wd (3 + 4 * half + 8 + 16 * (f.state.toNat % 2) + 32 * (f.state.toNat / 2 % 2) + 128 * cap) := by
    rw [hreg _ (by unfold R.lwl_PORT_STATUS; omega) (by unfold R.lwl_PORT_STATUS R.hif_MSIX_DROPPED; omega), if_neg, if_neg]
    · exact (Device.reg_setReg _ _ _ _).trans (if_pos rfl)
    · unfold R.lwl_PORT_STATUS R.lwl_LAT_MEAS
      omega
    · rintro ⟨c, -, hc⟩
      revert hc
      unfold R.lwl_PORT_STATUS R.lwl_CH_FRAMES
      omega
  have hlw : u.lw k = { x with rxSeq := (f.fseq.toNat + 1) % 256, lastGood := d.now.tick, waitMark := d.now.tick } := by
    have hd3 : d3.lw k = d2.lw k := congrArg (Store.get lwPort0 · k)
      (foldl_keeps (k := fun (d : Device) c => d.setN (R.lwl_CH_FRAMES k c) 0) Device.lwl (fun _ _ _ => rfl) _)
    have hu : u.lw k = d3.lw k := (d3.evtBit_speaks (lwPage k) 16).lw_eq k
    exact hu.trans (hd3.trans (d1.lw_setLw k _))
  have hfield : ∀ lo w, lo + w ≤ 32 → u.rf (R.lwl_PORT_STATUS k) lo w =
      (3 + 4 * half + 8 + 16 * (f.state.toNat % 2) + 32 * (f.state.toNat / 2 % 2) + 128 * cap) / 2 ^ lo % 2 ^ w := fun lo w h => by
    rw [Device.rf, hstatus, fld_wd h]
  refine ⟨(hfield 0 2 (by decide)).trans ?_, (hfield 2 1 (by decide)).trans ?_, (hfield 3 1 (by decide)).trans ?_,
    (hfield 4 1 (by decide)).trans ?_, congrArg LwPort.rxSeq hlw, congrArg LwPort.lastGood hlw, ?_, fun c hc => ?_,
    d3.evtBit_shows (by unfold lwPage R.hif_MSIX_DROPPED; omega) (by decide)⟩
  · omega
  · show _ = half
    omega
  · omega
  · omega
  · rw [hreg _ (by unfold R.lwl_LAT_MEAS; omega) (by unfold R.lwl_LAT_MEAS R.hif_MSIX_DROPPED; omega), if_pos rfl, ite_self]
  · rw [hreg _ (by unfold R.lwl_CH_FRAMES; omega) (by unfold R.lwl_CH_FRAMES R.hif_MSIX_DROPPED; omega),
      if_pos ⟨c, List.mem_range.2 hc, rfl⟩]

theorem lwInitReceived_spec (s : State) (k : Fin 4) (f : Sys2Proof.LwFlit) (o : Bool) (v code t c : Nat) (hkind : f.kind = 3) (hst : s.dev.lwState k = 2)
    (hgood : f.bad o = false) :
    (v ≠ 1 ∨ code ≠ s.dev.rn R.idn_DEVICE_CODE → ∀ b, Completes (.lwInitReceived k f o v code b t c) s fun u => u.dev.lwState k = 2 ∧
      u.dev.rf (R.lwl_PORT_STATUS k) 6 1 = 1 ∧ KeepsRegs s u [R.lwl_PORT_STATUS k] ∧ RegsOnly s u) ∧
    (v = 1 → code = s.dev.rn R.idn_DEVICE_CODE → Completes (.lwInitReceived k f o v code false t c) s fun u => u.dev.lwState k = 2 ∧
      u.dev.regs = s.dev.regs ∧ (u.dev.lw k).ofs = some ((s.dev.lw k).ofs.getD (((s.dev.atBoth t c).now.cyc : Int) - f.scyc.toNat)) ∧ KeepsHarts s u) ∧
    (v = 1 → code = s.dev.rn R.idn_DEVICE_CODE → Completes (.lwInitReceived k f o v code true t c) s fun u => u.dev.lwState k = 3 ∧
      u.dev.rf (R.lwl_PORT_STATUS k) 2 1 = s.dev.rf (R.lwl_PORT_STATUS k) 2 1 ∧ u.dev.rf (R.lwl_PORT_STATUS k) 3 1 = 1 ∧
      u.dev.rf (R.lwl_PORT_STATUS k) 4 1 = f.state.toNat % 2 ∧ (u.dev.lw k).rxSeq = (f.fseq.toNat + 1) % 256 ∧
      (u.dev.lw k).lastGood = (s.dev.at t).now.tick ∧ u.dev.reg (R.lwl_LAT_MEAS k) = 0 ∧ (∀ x < 64, u.dev.reg (R.lwl_CH_FRAMES k x) = 0) ∧
      u.dev.rf (lwPage k + 0x20) 16 1 = 1 ∧ KeepsHarts s u) := by
  have htaken : ¬(f.kind ≠ 3 ∨ (s.dev.atBoth t c).lwState k ≠ 2 ∨ f.bad o = true) := by
    rintro (h | h | h)
    · exact h hkind
    · exact h hst
    · rw [hgood] at h
      exact absurd h (by decide)
  have hmatch : v = 1 → code = s.dev.rn R.idn_DEVICE_CODE → ¬(v ≠ lwVersion ∨ code ≠ (s.dev.atBoth t c).rn R.idn_DEVICE_CODE) :=
    fun hv hcode h => h.elim (fun h => h hv) fun h => h hcode
  refine ⟨fun h b => ?_, fun hv hcode => ?_, fun hv hcode => ?_⟩
  · have hset : ((s.dev.atBoth t c).setF (R.lwl_PORT_STATUS k) 6 1 1).reg (R.lwl_PORT_STATUS k) = setFld (s.dev.reg (R.lwl_PORT_STATUS k)) 6 1 1 :=
      (Device.reg_setReg _ _ _ _).trans (if_pos rfl)
    refine completes_dev rfl ((if_neg htaken).trans (if_pos h)) ⟨(congrArg (fld · 0 2) hset).trans ?_,
      (congrArg (fld · 6 1) hset).trans ((fld_setFld _ _ (by decide)).trans rfl), fun o ho => (Device.reg_setReg _ _ _ _).trans (if_neg (by simpa using ho)),
      rfl, rfl, rfl⟩
    exact (fld_setFld_beside _ _ (by decide) (by decide)).trans hst
  · refine completes_dev rfl ((if_neg htaken).trans ((if_neg (hmatch hv hcode)).trans (if_neg (by decide)))) ⟨hst, rfl, ?_, rfl, rfl⟩
    exact congrArg LwPort.ofs (Device.lw_setLw _ k _)
  · refine completes_dev rfl ((if_neg htaken).trans ((if_neg (hmatch hv hcode)).trans (if_pos rfl))) ?_
    obtain ⟨h1, h2, h3, h4, h5, h6, h7, h8, h9⟩ := Device.lwUp_spec ((s.dev.atBoth t c).modLw k fun x =>
      { x with ofs := some (x.ofs.getD (((s.dev.atBoth t c).now.cyc : Int) - f.scyc.toNat)) }) k f
    exact ⟨h1, h2, h3, h4, h5, h6, h7, h8, h9, rfl, rfl⟩

/-! ### Silence, lanes and the reference (R543, R548) -/

theorem Device.WentDown.harts {s : State} {k : Fin 4} {t : Nat} {d : Device} (h : (s.dev.at t).WentDown k d) :
    d.reg (R.lwl_LINK_DOWNS k) = satAdd (s.dev.reg (R.lwl_LINK_DOWNS k)) 1 ∧ d.lwState k ≤ 1 ∧
      (s.dev.rf (R.lwl_PORT_CFG k) 0 1 = 0 → d.lwState k = 0) ∧ (d.lw k).opened = none ∧ (d.lw k).replay = [] ∧
      (d.lw k).ctl = [] ∧ (d.lw k).mr = [] ∧ (d.lw k).mw = [] ∧ (d.lw k).circ = [] ∧ (d.lw k).copy = none ∧
      d.rf (lwPage k + 0x20) 17 1 = 1 ∧ KeepsHarts s { s with dev := d } := by
  obtain ⟨h1, h2, h3, h4, h5, h6, h7⟩ := h.empty
  exact ⟨h.downs, h.state, h.disabled, h1, h2, h3, h4, h5, h6, h7, h.event, rfl, rfl⟩

theorem lwLaneLoss_spec (s : State) (k : Fin 4) (t : Nat) :
    (s.dev.lwState k = 3 → lwLaneLoss k t s.dev = (s.dev.at t).linkDown k 2) ∧
    (s.dev.lwState k = 2 → lwLaneLoss k t s.dev = (s.dev.at t).lwTrain k) ∧
    (s.dev.lwState k < 2 → lwLaneLoss k t s.dev = s.dev.at t) := by
  have hst : (s.dev.at t).lwState k = s.dev.lwState k := rfl
  unfold lwLaneLoss
  extract_lets d0
  refine ⟨fun h => ?_, fun h => ?_, fun h => ?_⟩
  · rw [show d0.lwState k = 3 from hst.trans h]
    rfl
  · rw [show d0.lwState k = 2 from hst.trans h]
    rfl
  · obtain h | h : d0.lwState k = 0 ∨ d0.lwState k = 1 := by
      have : d0.lwState k < 2 := hst.trans_lt h
      omega
    · rw [h]
      rfl
    · rw [h]
      rfl

/-- Settles O50: a link-down empties the port and leaves its counts (`Device.linkDown_spec`) whatever the jobs do that waited at it. It rests on
log entries 112, 116 and 118. -/
theorem linksTrainRunAndGoDown : Obligations.LinksTrainRunAndGoDown := by
  unfold Obligations.LinksTrainRunAndGoDown
  refine ⟨fun s k t c => ⟨lwLanesLocked_inits t c, fun h => ?_⟩, fun s k t hst hauto hfull => ⟨fun h => ?_, fun h => ?_⟩,
    fun s k f o v code t c => lwInitReceived_spec s k f o v code t c, ?_, fun s k t hst href => ⟨?_, ?_⟩⟩
  · exact completes_dev rfl (if_neg (show ¬(s.dev.atBoth t c).lwState k = 1 from h)) ⟨rfl, rfl, rfl⟩
  · exact completes_dev rfl (if_pos ⟨hst, hauto, hfull, h⟩) ⟨Device.lw_setLw _ k _, rfl, rfl, rfl⟩
  · exact completes_dev rfl (if_neg fun ⟨_, _, _, h'⟩ => absurd h (Nat.not_lt.2 h')) ⟨rfl, rfl, rfl⟩
  · intro s k t downs
    obtain ⟨hup, hinit, hdown⟩ := lwLaneLoss_spec s k t
    refine ⟨fun hst hold => ?_, fun hst hold => ?_, fun hst => ?_, fun hst hen hres => ?_, fun hst => ?_⟩
    · exact completes_dev rfl (if_pos ⟨hst, hold⟩) (Device.WentDown.harts ((s.dev.at t).linkDown_spec k 0))
    · exact completes_dev rfl (if_neg fun h => absurd hold (Nat.not_lt.2 h.2)) ⟨rfl, rfl, rfl⟩
    · exact completes_dev rfl (hup hst) (Device.WentDown.harts ((s.dev.at t).linkDown_spec k 2))
    · have htrain : (s.dev.at t).lwTrain k = ((s.dev.at t).modLw k fun x =>
          { x with since := (s.dev.at t).now.tick, half := false, ofs := none }).setN (R.lwl_PORT_STATUS k) 1 :=
        if_pos ⟨hen, by
          show s.dev.boot.devReset.isNone = true
          rw [hres]
          rfl⟩
      have hlw := (s.dev.at t).lw_setLw k { s.dev.lw k with since := (s.dev.at t).now.tick, half := false, ofs := none }
      exact completes_dev rfl ((hinit hst).trans htrain) ⟨Device.lwState_setN _ k 1, congrArg LwPort.since hlw, congrArg LwPort.half hlw,
        fun o ho => (Device.reg_setReg _ _ _ _).trans (if_neg (by simpa using ho)), rfl, rfl⟩
    · exact completes_dev rfl (hdown hst) ⟨rfl, rfl, rfl⟩
  · let d := (s.dev.at t).setF (R.lwl_PORT_STATUS k) 3 1 0
    have hreg : ∀ o, o ∉ [R.lwl_PORT_STATUS k, lwPage k + 0x20, R.hif_MSIX_DROPPED] → (d.evtBit (lwPage k) 22).reg o = s.dev.reg o := fun o ho => by
      simp only [List.mem_cons, List.not_mem_nil, or_false, not_or] at ho
      obtain ⟨hst', h20, hmsix⟩ := ho
      rw [d.evtBit_reg _ _ _ hmsix, if_neg h20]
      exact (Device.reg_setReg _ _ _ _).trans (if_neg hst')
    have hset : (d.evtBit (lwPage k) 22).reg (R.lwl_PORT_STATUS k) = setFld (s.dev.reg (R.lwl_PORT_STATUS k)) 3 1 0 := by
      rw [d.evtBit_reg _ _ _ (by unfold R.lwl_PORT_STATUS R.hif_MSIX_DROPPED; omega), if_neg (by unfold R.lwl_PORT_STATUS lwPage; omega)]
      exact (Device.reg_setReg _ _ _ _).trans (if_pos rfl)
    have hclear : (d.evtBit (lwPage k) 22).rf (R.lwl_PORT_STATUS k) 3 1 = 0 := (congrArg (fld · 3 1) hset).trans ((fld_setFld _ _ (by decide)).trans rfl)
    refine completes_dev rfl (if_pos ⟨hst, rfl, href⟩) ⟨hclear,
      (congrArg (fld · 0 2) hset).trans ((fld_setFld_beside _ _ (by decide) (by decide)).trans hst), fun c => ?_,
      d.evtBit_shows (by unfold lwPage R.hif_MSIX_DROPPED; omega) (by decide), hreg, rfl, rfl⟩
    show (d.evtBit (lwPage k) 22).circuitOpen k c = false
    unfold Device.circuitOpen
    rw [hclear]
    simp
  · exact completes_dev rfl (if_neg fun h => absurd h.2.1 (by decide)) ⟨rfl, rfl, rfl⟩

end Sys2Proof.Machine
end

section
/-! PROOFS. Flits taken, replayed, closed and acknowledged; frames, copies and register requests (R537 to R554); O51. -/
namespace Sys2Proof.Machine

/-! ### Operations of a port and the rest of the device -/

@[simp] theorem Device.lw_modLw (d : Device) (k : Nat) (f : LwPort → LwPort) : (d.modLw k f).lw k = f (d.lw k) := d.lw_setLw k _

theorem Device.retryEnds_none {d : Device} {k : Nat} (h : (d.lw k).retrying = none) : d.retryEnds k = d := by
  unfold Device.retryEnds
  rw [h]

/-- A flit may open; nothing else changes. -/
theorem Device.lwTouch_eq (d : Device) (k : Nat) : ∃ o, d.lwTouch k = d.setLw k { d.lw k with opened := o } ∨ d.lwTouch k = d := by
  unfold Device.lwTouch
  extract_lets x
  split
  · exact ⟨_, .inl rfl⟩
  · exact ⟨none, .inr rfl⟩

theorem Device.lwTouch_spec (d : Device) (k : Nat) : (d.lwTouch k).regs = d.regs ∧ (d.lwTouch k).edge = d.edge ∧ (d.lwTouch k).out = d.out ∧
    ∃ o, (d.lwTouch k).lw k = { d.lw k with opened := o } := by
  obtain ⟨o, h | h⟩ := d.lwTouch_eq k
  · rw [h]
    exact ⟨rfl, rfl, rfl, o, d.lw_setLw k _⟩
  · rw [h]
    exact ⟨rfl, rfl, rfl, (d.lw k).opened, rfl⟩

/-- PEER_TX_WAIT is brought up to the tick; nothing else of the port changes. -/
theorem Device.lwSettle_spec (d : Device) (k : Nat) : (∀ o, o ≠ R.lwl_PEER_TX_WAIT k → (d.lwSettle k).reg o = d.reg o) ∧
    (d.lwSettle k).lw k = { d.lw k with waitMark := d.now.tick } ∧ (d.lwSettle k).edge = d.edge ∧ (d.lwSettle k).out = d.out ∧
    (d.lwSettle k).now = d.now := by
  unfold Device.lwSettle
  extract_lets x waits d1
  have hd1 : (∀ o, o ≠ R.lwl_PEER_TX_WAIT k → d1.reg o = d.reg o) ∧ d1.edge = d.edge ∧ d1.out = d.out ∧ d1.now = d.now := by
    dsimp only [d1]
    split
    · exact ⟨fun o ho => (d.reg_countBy _ _ o).trans (if_neg ho), rfl, rfl, rfl⟩
    · exact ⟨fun _ _ => rfl, rfl, rfl, rfl⟩
  obtain ⟨hreg, hedge, hout, hnow⟩ := hd1
  exact ⟨hreg, d1.lw_setLw k _, hedge, hout, hnow⟩

/-- The registers that a flit's control fields may change. -/
def controlRegs (k : Nat) : List Nat := [R.lwl_PEER_TX_WAIT k, R.lwl_PORT_STATUS k, lwPage k + 0x20, R.hif_MSIX_DROPPED]

theorem R.lwl_PORT_STATUS_facts (k : Fin 4) : R.lwl_PORT_STATUS k ≠ R.hif_MSIX_DROPPED ∧ R.lwl_PORT_STATUS k ≠ lwPage k + 0x20 ∧
    R.lwl_PORT_STATUS k ≠ R.lwl_PEER_TX_WAIT k := by
  unfold R.lwl_PORT_STATUS R.hif_MSIX_DROPPED lwPage R.lwl_PEER_TX_WAIT
  omega

/-- ACK, credits and STATE of a flit: the acknowledged flits leave, and the partner's state shows. -/
theorem Device.lwControl_spec (d : Device) (k : Fin 4) (f : Sys2Proof.LwFlit) :
    (∃ w sp, (d.lwControl k f).lw k = { d.lw k with
        waitMark := w, spent := sp, replay := ackReplay (if f.kind = 2 then (f.ack.toNat + 255) % 256 else f.ack.toNat) (d.lw k).replay }) ∧
      (∀ o, o ∉ controlRegs k → (d.lwControl k f).reg o = d.reg o) ∧
      (d.lwControl k f).rf (R.lwl_PORT_STATUS k) 4 1 = f.state.toNat % 2 ∧ (d.lwControl k f).rf (R.lwl_PORT_STATUS k) 5 1 = f.state.toNat / 2 % 2 ∧
      (d.lwControl k f).edge = d.edge ∧ (f.state.toNat % 2 = 1 → (d.lwControl k f).out = d.out) := by
  obtain ⟨hsreg, hslw, hsedge, hsout, -⟩ := d.lwSettle_spec k
  obtain ⟨hmsix, hraw, hwait⟩ := R.lwl_PORT_STATUS_facts k
  unfold Device.lwControl
  extract_lets x ack give s1 s2 y d1 ok d2
  have hreg2 : ∀ o, d2.reg o = if o = R.lwl_PORT_STATUS k then setFld (setFld (d.reg (R.lwl_PORT_STATUS k)) 4 1 ok) 5 1 (f.state.toNat / 2)
      else (d.lwSettle k).reg o := fun o => by
    have h1 : (d1.setF (R.lwl_PORT_STATUS k) 4 1 ok).reg (R.lwl_PORT_STATUS k) = setFld (d.reg (R.lwl_PORT_STATUS k)) 4 1 ok :=
      (Device.reg_setReg _ _ _ _).trans ((if_pos rfl).trans (congrArg (setFld · 4 1 ok) (hsreg _ hwait)))
    refine (Device.reg_setReg _ _ _ _).trans ?_
    rw [h1]
    by_cases ho : o = R.lwl_PORT_STATUS k
    · rw [if_pos ho, if_pos ho]
    · rw [if_neg ho, if_neg ho]
      exact (Device.reg_setReg _ _ _ _).trans (if_neg ho)
  have hlw2 : d2.lw k = { d.lw k with waitMark := d.now.tick, spent := s2, replay := ackReplay ack (d.lw k).replay } := by
    have h1 : d2.lw k = _ := (d.lwSettle k).lw_setLw k { (d.lwSettle k).lw k with replay := ackReplay ack x.replay, spent := s2 }
    rw [h1, hslw]
  have hev : ∀ e : Device, e = (if ok = 0 then d2.evtBit (lwPage k) 19 else d2) → e.lw k = d2.lw k ∧
      (∀ o, o ≠ lwPage k + 0x20 → o ≠ R.hif_MSIX_DROPPED → e.reg o = d2.reg o) ∧ e.edge = d2.edge ∧ (f.state.toNat % 2 = 1 → e.out = d2.out) := by
    rintro e rfl
    split
    · next h0 =>
      refine ⟨(d2.evtBit_speaks _ _).lw_eq k, fun o h20 hm => (d2.evtBit_reg _ _ _ hm).trans (if_neg h20),
        (congrArg Device.edge (d2.evtBit_speaks (lwPage k) 19) :), fun h => absurd (h0.symm.trans h) (by decide)⟩
    · exact ⟨rfl, fun _ _ _ => rfl, rfl, fun _ => rfl⟩
  obtain ⟨helw, hereg, heedge, heout⟩ := hev _ rfl
  have hst := (hereg _ hraw hmsix).trans ((hreg2 _).trans (if_pos rfl))
  refine ⟨⟨_, _, helw.trans hlw2⟩, fun o ho => ?_, (congrArg (fld · 4 1) hst).trans ?_, (congrArg (fld · 5 1) hst).trans ?_,
    heedge.trans hsedge, fun h => (heout h).trans hsout⟩
  · simp only [controlRegs, List.mem_cons, List.not_mem_nil, or_false, not_or] at ho
    obtain ⟨h1, h2, h3, h4⟩ := ho
    rw [hereg o h3 h4, hreg2 o, if_neg h2, hsreg o h1]
  · refine (fld_setFld_beside _ _ (by decide) (by decide)).trans ((fld_setFld _ _ (by decide)).trans ?_)
    dsimp only [ok]
    omega
  · exact fld_setFld _ _ (by decide)

/-! ### Asking again (R538, R539) -/

/-- A flit that takes no FSEQ leaves; the segments that wait and the flits kept stay. -/
theorem Device.lwPlain_spec (d : Device) (k type : Nat) : (d.lwPlain k type).regs = d.regs ∧
    (∃ l, (d.lwPlain k type).lw k = { d.lw k with freed := l }) ∧
    ∃ f, (d.lwPlain k type).out = .lw k f :: d.out ∧ f.kind = type % 256 % 4 ∧ f.segs = [] ∧ f.bad false = false ∧
      (type = 2 → f.ack = BitVec.ofNat 8 (d.lw k).rxSeq) := by
  refine ⟨rfl, ⟨_, d.lw_setLw k _⟩, _, rfl, ?_, rfl, LwFlit.sealed_good _, fun h => ?_⟩
  · show (BitVec.ofNat 8 type).toNat % 4 = _
    rw [BitVec.toNat_ofNat]
  · subst h
    rfl

/-- A port that asks again loses no flit and takes no FSEQ. -/
theorem Device.lwRetry_asks {d : Device} {k : Nat} (hret : (d.lw k).retrying = none) (hwin : (d.lw k).retryWin = d.window → (d.lw k).retries < 8) :
    (∃ f, .lw k f ∈ (d.lwRetry k).out ∧ f.kind = 2 ∧ f.ack.toNat = (d.lw k).rxSeq % 256 ∧ f.bad false = false) ∧
      ((d.lwRetry k).lw k).rxSeq = (d.lw k).rxSeq ∧ ∀ o, o % 0x1000 ≠ 0x24C → (d.lwRetry k).reg o = d.reg o := by
  unfold Device.lwRetry
  extract_lets x n d1
  have hn : ¬8 ≤ n := by
    dsimp only [n]
    split
    · next h => exact Nat.not_le.2 (hwin h)
    · decide
  rw [if_neg hn]
  let e := (d.portPipes k).foldl (fun (d : Device) p => d.occStart p 1) d
  have hd1 : d1 = e.modLw k fun y => { y with retrying := some (d.portPipes k) } := by
    dsimp only [d1]
    rw [show x.retrying = none from hret]
  have he : e.lwl = d.lwl ∧ ∀ o, o % 0x1000 ≠ 0x24C → e.reg o = d.reg o :=
    List.foldlRecOn _ _ (motive := fun e : Device => e.lwl = d.lwl ∧ ∀ o, o % 0x1000 ≠ 0x24C → e.reg o = d.reg o) ⟨rfl, fun _ _ => rfl⟩
      fun e he p _ => ⟨(e.settle_sparesLinks p).lwl.trans he.1, fun o ho =>
        (e.settle_reg p (by unfold R.sch_WINDOW_DEBIT; omega)).trans (he.2 o ho)⟩
  obtain ⟨hlwl, hreg⟩ := he
  have hlw : (d1.modLw k fun y => { y with retryWin := d.window, retries := n + 1 }).lw k =
      { d.lw k with retrying := some (d.portPipes k), retryWin := d.window, retries := n + 1 } := by
    rw [Device.lw_modLw, hd1, Device.lw_modLw, show e.lw k = d.lw k from congrArg (Store.get lwPort0 · k) hlwl]
  obtain ⟨hpregs, ⟨l, hplw⟩, f, hpout, hpkind, -, hpgood, hpack⟩ :=
    (d1.modLw k fun y => { y with retryWin := d.window, retries := n + 1 }).lwPlain_spec k 2
  refine ⟨⟨f, ?_, hpkind, ?_, hpgood⟩, ?_, fun o ho => ?_⟩
  · rw [hpout]
    exact List.mem_cons_self
  · rw [hpack rfl, hlw, BitVec.toNat_ofNat]
  · rw [hplw, hlw]
  · exact (congrArg (Store.get resetOf · o) hpregs).trans ((congrArg (Device.reg · o) hd1).trans (hreg o ho))

/-- The ninth request of a window brings the port down instead. -/
theorem Device.lwRetry_limit {d : Device} {k : Fin 4} (hwin : (d.lw k).retryWin = d.window) (hn : 8 ≤ (d.lw k).retries) :
    (d.lwRetry k).reg (R.lwl_RETRY_LIMIT k) = satAdd (d.reg (R.lwl_RETRY_LIMIT k)) 1 ∧ (d.lwRetry k).lwState k ≤ 1 := by
  have hdown : d.lwRetry k = ((d.count (R.lwl_RETRY_LIMIT k) 1).evtBit (lwPage k) 18).linkDown k 1 := by
    unfold Device.lwRetry
    extract_lets x n
    exact if_pos (by rw [show n = _ from if_pos hwin]; exact hn)
  have hspec := ((d.count (R.lwl_RETRY_LIMIT k) 1).evtBit (lwPage k) 18).linkDown_spec k 1
  rw [hdown]
  exact ⟨hspec.limit.trans (((Device.evtBit_sparesLinks _ (by unfold lwPage; omega) 18).reg _ ofLinkCount.2.1).trans
    ((d.reg_count _ _).trans (if_pos rfl))), hspec.state⟩

/-! ### Flits received (R537 to R542) -/

/-- A flit that carries no register request is what the port makes of it. -/
theorem completes_lwFlitReceived {s : State} {k : Fin 4} {f : Sys2Proof.LwFlit} {o : Bool} {t c : Nat} {d : Device} {b : Bool} {P : State → Prop}
    (h : (s.dev.atBoth t c).lwReceive k f o (s.dev.atBoth t c).now.cyc = (d, b)) (hreq : b = true → regReqs f = []) (hP : P { s with dev := d }) :
    Completes (.lwFlitReceived k f o t c) s P := by
  have hrun : lwFlitReceived k f o t c s = { s with dev := d } := by
    show (let (d1, taken) := (s.dev.atBoth t c).lwReceive k f o (s.dev.atBoth t c).now.cyc
      if taken then (regReqs f).foldl (fun (s : State) q => s.peerAccess k q) { s with dev := d1 } else { s with dev := d1 }) = _
    rw [h]
    cases b
    · rfl
    · show (regReqs f).foldl _ _ = _
      rw [hreq rfl]
      rfl
  exact ⟨_, congrArg Host.Outcome.next hrun, hP⟩

section
variable {d : Device} {k : Fin 4} {f : Sys2Proof.LwFlit} {o : Bool}

theorem Device.lwReceive_bad (last : Nat) (hup : d.lwState k = 3) (hbad : f.bad o = true) :
    d.lwReceive k f o last = ((if o then (d.count (R.lwl_CRC_ERR k) 1).count (R.lwl_FEC_UNCORR k) 1 else d.count (R.lwl_CRC_ERR k) 1).lwRetry k, false) :=
  (if_neg (not_not.2 hup)).trans (if_pos hbad)

theorem Device.lwReceive_good (last : Nat) (hup : d.lwState k = 3) (hgood : f.bad o = false) :
    d.lwReceive k f o last = (let d1 := d.modLw k fun x => { x with lastGood := d.now.tick }
      match f.kind with
      | 1 => ((d1.lwControl k f).lwTouch k, false)
      | 2 => (((d1.lwControl k f).lwReplay k last).lwTouch k, false)
      | _ =>
        if f.fseq.toNat ≠ (d1.lw k).rxSeq then (if (d1.lw k).retrying.isSome then d1 else d1.lwRetry k, false)
        else
          let d2 := ((d1.retryEnds k).lwControl k f).modLw k fun x => { x with rxSeq := (x.rxSeq + 1) % 256 }
          if f.kind = 3 then (d2.lwTouch k, false)
          else ((f.segs.take 6).foldl (fun d s => d.lwSeg k f.scyc.toNat s) d2 |>.lwTouch k, true)) := by
  refine (if_neg (not_not.2 hup)).trans ((if_neg (by rw [hgood]; decide)).trans ?_)
  rfl

/-- A port at which a CRC-good flit has arrived. -/
def Device.lwHeard (d : Device) (k : Nat) : Device := d.modLw k fun x => { x with lastGood := d.now.tick }

theorem Device.lwHeard_lw (d : Device) (k : Nat) : (d.lwHeard k).lw k = { d.lw k with lastGood := d.now.tick } := d.lw_modLw k _

theorem Device.lwReceive_idle (last : Nat) (hup : d.lwState k = 3) (hgood : f.bad o = false) (hkind : f.kind = 1) :
    d.lwReceive k f o last = (((d.lwHeard k).lwControl k f).lwTouch k, false) := by
  rw [Device.lwReceive_good last hup hgood, hkind]
  rfl

theorem Device.lwReceive_retryReq (last : Nat) (hup : d.lwState k = 3) (hgood : f.bad o = false) (hkind : f.kind = 2) :
    d.lwReceive k f o last = ((((d.lwHeard k).lwControl k f).lwReplay k last).lwTouch k, false) := by
  rw [Device.lwReceive_good last hup hgood, hkind]
  rfl

theorem Device.lwReceive_gap (last : Nat) (hup : d.lwState k = 3) (hgood : f.bad o = false) (hkind : f.kind = 0)
    (hseq : f.fseq.toNat ≠ (d.lw k).rxSeq) (hret : (d.lw k).retrying = none) :
    d.lwReceive k f o last = ((d.lwHeard k).lwRetry k, false) := by
  have hret' : ((d.lwHeard k).lw k).retrying = none := (congrArg LwPort.retrying (d.lwHeard_lw k)).trans hret
  have hrx : ((d.lwHeard k).lw k).rxSeq = (d.lw k).rxSeq := by rw [Device.lwHeard_lw]
  have hseq' : f.fseq.toNat ≠ ((d.lwHeard k).lw k).rxSeq := fun h => hseq (h.trans hrx)
  rw [Device.lwReceive_good last hup hgood, hkind]
  refine (if_pos hseq').trans (congrArg (·, false) (if_neg ?_))
  show ¬((d.lwHeard k).lw k).retrying.isSome = true
  rw [hret']
  decide

/-- A port that has taken the control fields of a DATA flit in order, and expects the next. -/
def Device.lwTaken (d : Device) (k : Nat) (f : Sys2Proof.LwFlit) : Device :=
  ((d.lwHeard k).lwControl k f).modLw k fun x => { x with rxSeq := (x.rxSeq + 1) % 256 }

theorem Device.lwReceive_data (last : Nat) (hup : d.lwState k = 3) (hgood : f.bad o = false) (hkind : f.kind = 0)
    (hseq : f.fseq.toNat = (d.lw k).rxSeq) (hret : (d.lw k).retrying = none) :
    d.lwReceive k f o last = (((f.segs.take 6).foldl (fun d s => d.lwSeg k f.scyc.toNat s) (d.lwTaken k f)).lwTouch k, true) := by
  have hret' : ((d.lwHeard k).lw k).retrying = none := (congrArg LwPort.retrying (d.lwHeard_lw k)).trans hret
  have hseq' : f.fseq.toNat = ((d.lwHeard k).lw k).rxSeq := hseq.trans (congrArg LwPort.rxSeq (d.lwHeard_lw k)).symm
  rw [Device.lwReceive_good last hup hgood, hkind]
  refine (if_neg (not_not.2 hseq')).trans ((if_neg (by decide)).trans ?_)
  show (((f.segs.take 6).foldl (fun d s => d.lwSeg k f.scyc.toNat s)
    ((((d.lwHeard k).retryEnds k).lwControl k f).modLw k fun x => { x with rxSeq := (x.rxSeq + 1) % 256 })).lwTouch k, true) = _
  rw [Device.retryEnds_none hret']
  rfl

/-- What stands of a port when a DATA flit has been taken in order. -/
theorem Device.lwTaken_spec (d : Device) (k : Fin 4) {f : Sys2Proof.LwFlit} (hkind : f.kind = 0) : (∃ w sp, (d.lwTaken k f).lw k = { d.lw k with
      lastGood := d.now.tick, waitMark := w, spent := sp, replay := ackReplay f.ack.toNat (d.lw k).replay, rxSeq := ((d.lw k).rxSeq + 1) % 256 }) ∧
    (∀ o, o ∉ controlRegs k → (d.lwTaken k f).reg o = d.reg o) ∧ (d.lwTaken k f).edge = d.edge := by
  obtain ⟨⟨w, sp, hlw⟩, hreg, -, -, hedge, -⟩ := (d.lwHeard k).lwControl_spec k f
  refine ⟨⟨w, sp, ?_⟩, hreg, hedge⟩
  unfold Device.lwTaken
  rw [Device.lw_modLw, hlw, Device.lwHeard_lw, if_neg (by rw [hkind]; decide)]

end

/-! ### Frames of a channel (R546, R551) -/

/-- Whether a channel may be received on is a matter of the SCH and DAD pages. -/
theorem Device.rxOpen_congr {d e : Device} (h : ∀ o, 0x20000 ≤ o → o < 0x80000 → e.reg o = d.reg o) (k c : Nat) : e.rxOpen k c = d.rxOpen k c := by
  unfold Device.rxOpen
  refine Bool.eq_iff_iff.2 ?_
  simp only [List.any_eq_true]
  refine exists_congr fun p => and_congr_right fun hp => ?_
  have hp' := List.mem_range.1 hp
  have hcfg : e.reg (R.sch_ING_CFG p) = d.reg (R.sch_ING_CFG p) := h _ (by unfold R.sch_ING_CFG; omega) (by unfold R.sch_ING_CFG; omega)
  have hstate : e.reg (R.sch_PIPE_STATE p) = d.reg (R.sch_PIPE_STATE p) :=
    h _ (by unfold R.sch_PIPE_STATE; omega) (by unfold R.sch_PIPE_STATE; omega)
  have htape : e.reg (R.dad_TAPE_STATE (p / 16) (p % 16)) = d.reg (R.dad_TAPE_STATE (p / 16) (p % 16)) :=
    h _ (by unfold R.dad_TAPE_STATE; omega) (by unfold R.dad_TAPE_STATE; omega)
  have hkind : e.ingKind p = d.ingKind p := congrArg (fld · 0 2) hcfg
  have hchan : e.ingChan p = d.ingChan p := congrArg (fun w => 64 * fld w 16 2 + fld w 18 6) hcfg
  have hst : e.pipeState p = d.pipeState p := congrArg (fld · 0 3) hstate
  have htp : e.rf (R.dad_TAPE_STATE (p / 16) (p % 16)) 0 2 = d.rf (R.dad_TAPE_STATE (p / 16) (p % 16)) 0 2 := congrArg (fld · 0 2) htape
  rw [hkind, hchan, hst, htp]

/-- A flit that arrives at a source is noted there, and ends a wait for it. -/
theorem Device.sourceArrives_keeps (d : Device) (key : Nat) (f : Flit) : (d.sourceArrives key f).regs = d.regs ∧
    (d.sourceArrives key f).lwl = d.lwl ∧ (d.sourceArrives key f).edge.chRx = d.edge.chRx ∧ (d.sourceArrives key f).out = d.out := by
  unfold Device.sourceArrives
  extract_lets y d1
  have h1 : d1.regs = d.regs ∧ d1.lwl = d.lwl ∧ d1.edge.chRx = d.edge.chRx ∧ d1.out = d.out := by
    dsimp only [d1]
    split
    · exact ⟨rfl, rfl, rfl, rfl⟩
    · exact ⟨rfl, rfl, rfl, rfl⟩
  split
  · exact h1
  · dsimp only
    split
    · exact h1
    · exact h1

/-- Flit g is kept in the receive buffer of channel c of port k. -/
def Device.chKeep (d : Device) (k c : Nat) (g : Flit) : Device :=
  { d with edge := { d.edge with
    chRx := Store.set noFlits d.edge.chRx (64 * k + c) (Store.get noFlits d.edge.chRx (64 * k + c) ++ [g]) } }.sourceArrives (64 + 64 * k + c) g

theorem Device.chKeep_spec (d : Device) (k c : Nat) (g : Flit) : (d.chKeep k c g).regs = d.regs ∧ (d.chKeep k c g).lwl = d.lwl ∧
    Store.get noFlits (d.chKeep k c g).edge.chRx (64 * k + c) = Store.get noFlits d.edge.chRx (64 * k + c) ++ [g] := by
  obtain ⟨hregs, hlwl, hrx, -⟩ := Device.sourceArrives_keeps { d with edge := { d.edge with
    chRx := Store.set noFlits d.edge.chRx (64 * k + c) (Store.get noFlits d.edge.chRx (64 * k + c) ++ [g]) } } (64 + 64 * k + c) g
  refine ⟨hregs, hlwl, ?_⟩
  rw [Device.chKeep, hrx]
  exact (Store.get_set ..).trans (if_pos rfl)

/-- Channel c of port k once a frame of one flit has been taken: its parts are empty, and its number counts on. -/
def Device.frameCounted (d : Device) (k c : Nat) (g : Flit) : Device :=
  (((d.modLw k fun y => { y with refuse := Store.set zeroN y.refuse c 0, part := Store.set noFlits y.part c [g] }).lwFree k c
    ((Store.get noFlits (d.lw k).part c).length + 0)).modLw k fun y =>
      { y with part := Store.set noFlits y.part c [], refuse := Store.set zeroN y.refuse c 0 }).setN
    (R.lwl_CH_FRAMES k c) ((d.rn (R.lwl_CH_FRAMES k c) + 1) % 2 ^ 32)

theorem Device.frameSeg_single {d : Device} {k c : Nat} {g : Flit} (hkind : d.chKind k c = 3) (hopen : d.rxOpen k c = true)
    (hfirst : g.first = true) (hlast : g.last = true) :
    d.frameSeg k c g = ((d.frameCounted k c g).chKeep k c g).frameAck k c (d.rn (R.lwl_CH_FRAMES k c)) 0 := by
  unfold Device.frameSeg
  simp only [hkind, hopen, hfirst, hlast, beq_self_eq_true, Bool.and_self, if_true, ne_eq, not_true_eq_false, Bool.not_true,
    Bool.false_eq_true, if_false, OfNat.ofNat_ne_zero, List.nil_append, List.foldl_cons, List.foldl_nil]
  rfl

theorem Device.frameCounted_lw (d : Device) (k c : Nat) (g : Flit) :
    ∃ fr rf pt, (d.frameCounted k c g).lw k = { d.lw k with freed := fr, refuse := rf, part := pt } := by
  have hset : ∀ (e : Device) (o n : Nat), (e.setN o n).lw k = e.lw k := fun _ _ _ => rfl
  rw [Device.frameCounted, hset, Device.lw_modLw, Device.lwFree, Device.lw_modLw, Device.lw_modLw]
  exact ⟨_, _, _, rfl⟩

/-- A frame of one flit on an open FRAME_RX channel is buffered, numbered, and acknowledged. -/
theorem Device.frameSeg_takes {d : Device} {k c : Nat} {g : Flit} (hc : c < 64) (hkind : d.chKind k c = 3) (hopen : d.rxOpen k c = true)
    (hfirst : g.first = true) (hlast : g.last = true) :
    Store.get noFlits (d.frameSeg k c g).edge.chRx (64 * k + c) = Store.get noFlits d.edge.chRx (64 * k + c) ++ [g] ∧
      (d.frameSeg k c g).rn (R.lwl_CH_FRAMES k c) = (d.rn (R.lwl_CH_FRAMES k c) + 1) % 2 ^ 32 ∧
      ∃ fr rf pt, (d.frameSeg k c g).lw k = { d.lw k with
        freed := fr, refuse := rf, part := pt, ctl := (d.lw k).ctl ++ [vcSeg 3 1 c (d.rn (R.lwl_CH_FRAMES k c))] } := by
  have hn : d.rn (R.lwl_CH_FRAMES k c) < 2 ^ 32 := BitVec.isLt _
  obtain ⟨hregs, hlwl, hrx⟩ := (d.frameCounted k c g).chKeep_spec k c g
  obtain ⟨fr, rf, pt, hlw⟩ := d.frameCounted_lw k c g
  rw [Device.frameSeg_single hkind hopen hfirst hlast]
  refine ⟨hrx, ?_, fr, rf, pt, ?_⟩
  · refine (congrArg (fun r => (Store.get resetOf r (R.lwl_CH_FRAMES k c)).toNat) hregs).trans ?_
    exact Device.rn_setN _ _ (Nat.mod_lt _ (by decide))
  · rw [Device.frameAck, Device.lwCtl, Device.lw_modLw, show ((d.frameCounted k c g).chKeep k c g).lw k = (d.frameCounted k c g).lw k from
      congrArg (Store.get lwPort0 · k) hlwl, hlw, Nat.mod_eq_of_lt hc, Nat.mul_zero, Nat.add_zero, Nat.mod_eq_of_lt hn]

theorem Device.lwStream_frame {d : Device} {k scyc : Nat} {s : Sys2Proof.LwSeg} (hkind : d.chKind k s.ch = 3) :
    ∃ v, d.lwStream k scyc s = (d.setReg (R.lwl_LAT_MEAS k) v).frameSeg k s.ch s.flit := by
  unfold Device.lwStream
  extract_lets c lat d1
  have hk1 : d1.chKind k c = 3 := by
    refine (congrArg (fld · 0 2) ((Device.reg_setReg _ _ _ _).trans (if_neg ?_))).trans hkind
    unfold R.lwl_LAT_MEAS R.lwl_CH_CFG
    omega
  exact ⟨_, if_neg (by rw [hk1]; decide)⟩

/-! ### Flits sent again (R538) -/

theorem Device.emits_spec (l : List Sys2Proof.LwFlit) (k : Nat) (d : Device) :
    (l.foldl (fun d f => d.emit (.lw k f)) d) = { d with out := (l.map (Output.lw k)).reverse ++ d.out } := by
  induction l generalizing d with
  | nil => rfl
  | cons f l ih =>
    rw [List.foldl_cons, ih, List.map_cons, List.reverse_cons, List.append_assoc]
    rfl

theorem Device.debitPipe_spares (d : Device) (p n m : Nat) : (d.debitPipe p n m).lwl = d.lwl ∧ (d.debitPipe p n m).out = d.out ∧
    ∀ o, o % 0x1000 ≠ 0x24C → (d.debitPipe p n m).reg o = d.reg o := by
  obtain ⟨e, i, x, ⟨f, -, -, rfl⟩, h, -⟩ := d.settle_eq p
  unfold Device.debitPipe
  rw [h]
  exact ⟨rfl, rfl, fun o ho => (Device.reg_setReg _ _ _ _).trans (if_neg (by unfold R.sch_WINDOW_DEBIT; omega))⟩

/-- Every flit kept is sent again, in order, and counted once. -/
theorem Device.lwReplay_spec (d : Device) (k last : Nat) : (d.lwReplay k last).lwl = d.lwl ∧
    (d.lwReplay k last).out = ((d.lw k).replay.map (Output.lw k)).reverse ++ d.out ∧
    ∀ o, o % 0x1000 ≠ 0x24C → (d.lwReplay k last).reg o = if o = R.lwl_REPLAYS k then satAdd (d.reg o) 1 else d.reg o := by
  unfold Device.lwReplay
  rw [Device.emits_spec]
  extract_lets d1
  have h : ∀ l : List Nat, ∀ e : Device, (l.foldl (fun d p => d.debitPipe p 1 (last - d1.now.cyc)) e).lwl = e.lwl ∧
      (l.foldl (fun d p => d.debitPipe p 1 (last - d1.now.cyc)) e).out = e.out ∧
      ∀ o, o % 0x1000 ≠ 0x24C → (l.foldl (fun d p => d.debitPipe p 1 (last - d1.now.cyc)) e).reg o = e.reg o := fun l e => by
    refine List.foldlRecOn _ _ (motive := fun x : Device => x.lwl = e.lwl ∧ x.out = e.out ∧ ∀ o, o % 0x1000 ≠ 0x24C → x.reg o = e.reg o)
      ⟨rfl, rfl, fun _ _ => rfl⟩ ?_
    rintro x ⟨h1, h2, h3⟩ p -
    obtain ⟨g1, g2, g3⟩ := x.debitPipe_spares p 1 (last - d1.now.cyc)
    exact ⟨g1.trans h1, g2.trans h2, fun o ho => (g3 o ho).trans (h3 o ho)⟩
  obtain ⟨hlwl, hout, hreg⟩ := h (d.portPipes k) d1
  exact ⟨hlwl, hout, fun o ho => (hreg o ho).trans (d.reg_count _ o)⟩

/-! ### A flit closes (R538, R541) -/

/-- What a port keeps while segments are taken for its flit. -/
def Device.SameFlits (d : Device) (k : Nat) (e : Device) : Prop :=
  e.out = d.out ∧ (e.lw k).replay = (d.lw k).replay ∧ (e.lw k).txSeq = (d.lw k).txSeq

theorem Device.SameFlits.trans {d e f : Device} {k : Nat} (h : d.SameFlits k e) (g : e.SameFlits k f) : d.SameFlits k f :=
  ⟨g.1.trans h.1, g.2.1.trans h.2.1, g.2.2.trans h.2.2⟩

theorem Device.setLw_sameFlits {d e : Device} (k : Nat) {x : LwPort} (ho : e.out = d.out) (hr : x.replay = (d.lw k).replay) (ht : x.txSeq = (d.lw k).txSeq) :
    d.SameFlits k (e.setLw k x) :=
  ⟨ho, (congrArg LwPort.replay (e.lw_setLw k x)).trans hr, (congrArg LwPort.txSeq (e.lw_setLw k x)).trans ht⟩

theorem Device.lwTake_sameFlits {d e : Device} {k v opened : Nat} {s : Sys2Proof.LwSeg} (h : d.lwTake k v opened = some (s, e)) : d.SameFlits k e := by
  unfold Device.lwTake at h
  extract_lets x spend at h
  have hspend : ∀ {y : LwPort}, some (s, e) = some (s, d.setLw k y) → y.replay = x.replay → y.txSeq = x.txSeq → d.SameFlits k e := by
    intro y he hr ht
    obtain rfl : e = d.setLw k y := (Prod.mk.inj (Option.some.inj he)).2
    exact d.setLw_sameFlits k rfl hr ht
  split at h
  · split at h
    · obtain ⟨rfl, rfl⟩ := Prod.mk.inj (Option.some.inj h)
      exact hspend rfl rfl rfl
    · exact absurd h (by simp)
  · split at h
    · obtain ⟨rfl, rfl⟩ := Prod.mk.inj (Option.some.inj h)
      exact hspend rfl rfl rfl
    · exact absurd h (by simp)
  · split at h
    · obtain ⟨rfl, rfl⟩ := Prod.mk.inj (Option.some.inj h)
      exact hspend rfl rfl rfl
    · exact absurd h (by simp)
  · split at h
    · exact absurd h (by simp)
    · next c _ =>
      split at h
      · exact absurd h (by simp)
      · next f r _ =>
        obtain ⟨-, rfl⟩ := Prod.mk.inj (Option.some.inj h)
        refine Device.setLw_sameFlits k rfl ?_ ?_
        · split <;> rfl
        · split <;> rfl
  · exact absurd h (by simp)

theorem Device.lwRound_spec (d : Device) (k opened n : Nat) : (d.lwRound k opened n).1.length ≤ n ∧ d.SameFlits k (d.lwRound k opened n).2 := by
  induction n generalizing d with
  | zero => exact ⟨Nat.le_refl 0, rfl, rfl, rfl⟩
  | succ n ih =>
    unfold Device.lwRound
    split
    · exact ⟨Nat.zero_le _, rfl, rfl, rfl⟩
    · next v s e h =>
      obtain ⟨v', -, hv⟩ := List.exists_of_findSome?_eq_some h
      obtain ⟨⟨s', e'⟩, htake, heq⟩ := Option.map_eq_some_iff.1 hv
      obtain ⟨-, hse⟩ := Prod.mk.inj heq
      obtain ⟨-, rfl⟩ := Prod.mk.inj hse
      obtain ⟨hlen, hsame⟩ := ih (e'.modLw k fun x => { x with vcNext := (v + 1) % 4 })
      have hmod : e'.SameFlits k (e'.modLw k fun x => { x with vcNext := (v + 1) % 4 }) := Device.setLw_sameFlits k rfl rfl rfl
      exact ⟨Nat.succ_le_succ hlen, (Device.lwTake_sameFlits htake).trans (hmod.trans hsame)⟩

theorem Device.lwFill_spec (d : Device) (k opened : Nat) : (d.lwFill k opened).1.length ≤ 6 ∧ d.SameFlits k (d.lwFill k opened).2 := by
  unfold Device.lwFill
  extract_lets x circ d1
  have hcirc : circ.length ≤ 6 := (List.length_map _).trans_le (List.length_take_le _ _)
  have h1 : d.SameFlits k d1 := Device.setLw_sameFlits k rfl rfl rfl
  have h2 : ∀ q : List Sys2Proof.LwSeg × Device, q = (if circ.length < 6 then match d1.lwTake k 3 opened with
      | some (s, d2) => ([s], d2)
      | none => ([], d1)
    else ([], d1)) → circ.length + q.1.length ≤ 6 ∧ d.SameFlits k q.2 := by
    rintro q rfl
    split
    · next hlt =>
      split
      · next s e htake => exact ⟨hlt, h1.trans (Device.lwTake_sameFlits htake)⟩
      · exact ⟨hcirc, h1⟩
    · exact ⟨hcirc, h1⟩
  generalize hq : (if circ.length < 6 then match d1.lwTake k 3 opened with
      | some (s, d2) => ([s], d2)
      | none => ([], d1)
    else ([], d1)) = q
  obtain ⟨hlen, hsame⟩ := h2 q hq.symm
  obtain ⟨c, d2⟩ := q
  obtain ⟨hrlen, hrsame⟩ := d2.lwRound_spec k opened (6 - circ.length - c.length)
  refine ⟨?_, hsame.trans hrsame⟩
  show (circ ++ c ++ (d2.lwRound k opened (6 - circ.length - c.length)).1).length ≤ 6
  rw [List.length_append, List.length_append]
  have hlen' : circ.length + c.length ≤ 6 := hlen
  omega

theorem Device.lwHead_lw (d : Device) (k type fseq ack scyc st : Nat) :
    (d.lwHead k type fseq ack scyc st).2.out = d.out ∧
      ∃ l, (d.lwHead k type fseq ack scyc st).2.lw k = { d.lw k with freed := l } := ⟨rfl, _, d.lw_setLw k _⟩

theorem Device.emit_out (d : Device) (o : Output) : (d.emit o).out = o :: d.out := rfl

theorem Device.emit_lw (d : Device) (o : Output) (k : Nat) : (d.emit o).lw k = d.lw k := rfl

theorem Device.modLw_out (d : Device) (k : Nat) (f : LwPort → LwPort) : (d.modLw k f).out = d.out := rfl

/-- The flit that closes, and the port without it. -/
def Device.lwNextFlit (d : Device) (k o b : Nat) : Sys2Proof.LwFlit :=
  { ((d.lwFill k o).2.lwHead k 0 (d.lw k).txSeq (d.lw k).acked o b).1 with segs := (d.lwFill k o).1 }.sealed

/-- The port whose open flit has closed. -/
def Device.lwClosed (d : Device) (k o b : Nat) : Device :=
  ((d.lwFill k o).2.lwHead k 0 (d.lw k).txSeq (d.lw k).acked o b).2.modLw k fun y =>
    { y with opened := none, txSeq := (y.txSeq + 1) % 256, replay := y.replay ++ [d.lwNextFlit k o b] }

theorem Device.lwClose_eq {d : Device} {k o b : Nat} (hopen : (d.lw k).opened = some (o, b)) :
    d.lwClose k = ((d.lwClosed k o b).emit (.lw k (d.lwNextFlit k o b))).lwTouch k := by
  unfold Device.lwClose Device.lwClosed Device.lwNextFlit
  rw [hopen]

theorem Device.lwNextFlit_spec (d : Device) (k o b : Nat) : let f := d.lwNextFlit k o b
    f.kind = 0 ∧ f.fseq = BitVec.ofNat 8 (d.lw k).txSeq ∧ f.ack = BitVec.ofNat 8 (d.lw k).acked ∧ f.scyc = BitVec.ofNat 32 o ∧
      f.segs.length ≤ 6 ∧ f.bad false = false :=
  ⟨rfl, rfl, rfl, rfl, (d.lwFill_spec k o).1, LwFlit.sealed_good _⟩

theorem Device.lwClosed_spec (d : Device) (k o b : Nat) : (d.lwClosed k o b).out = d.out ∧
    ((d.lwClosed k o b).lw k).replay = (d.lw k).replay ++ [d.lwNextFlit k o b] ∧
    ((d.lwClosed k o b).lw k).txSeq = ((d.lw k).txSeq + 1) % 256 := by
  obtain ⟨-, hout, hreplay, htx⟩ := d.lwFill_spec k o
  obtain ⟨hhout, l, hhead⟩ := (d.lwFill k o).2.lwHead_lw k 0 (d.lw k).txSeq (d.lw k).acked o b
  rw [Device.lwClosed, Device.lw_modLw, hhead, Device.modLw_out, hhout]
  exact ⟨hout, congrArg (· ++ [d.lwNextFlit k o b]) hreplay, congrArg (fun n => (n + 1) % 256) htx⟩

theorem Device.lwClose_keeps {d : Device} {k o b : Nat} (hopen : (d.lw k).opened = some (o, b)) :
    (d.lwClose k).out = .lw k (d.lwNextFlit k o b) :: d.out ∧ ((d.lwClose k).lw k).replay = (d.lw k).replay ++ [d.lwNextFlit k o b] ∧
      ((d.lwClose k).lw k).txSeq = ((d.lw k).txSeq + 1) % 256 := by
  obtain ⟨hout, hreplay, htx⟩ := d.lwClosed_spec k o b
  obtain ⟨-, -, htout, p, htlw⟩ := ((d.lwClosed k o b).emit (.lw k (d.lwNextFlit k o b))).lwTouch_spec k
  rw [Device.emit_out, hout] at htout
  rw [Device.emit_lw] at htlw
  rw [Device.lwClose_eq hopen, htlw]
  generalize (d.lwClosed k o b).lw k = x at hreplay htx
  exact ⟨htout, hreplay, htx⟩

/-- The open flit closes: it is sent with the next FSEQ, and kept. -/
theorem Device.lwClose_spec {d : Device} {k o b : Nat} (hopen : (d.lw k).opened = some (o, b)) :
    ∃ f, (d.lwClose k).out = .lw k f :: d.out ∧ f.kind = 0 ∧ f.fseq = BitVec.ofNat 8 (d.lw k).txSeq ∧
      f.ack = BitVec.ofNat 8 (d.lw k).acked ∧ f.scyc = BitVec.ofNat 32 o ∧ f.segs.length ≤ 6 ∧ f.bad false = false ∧
      ((d.lwClose k).lw k).replay = (d.lw k).replay ++ [f] ∧ ((d.lwClose k).lw k).txSeq = ((d.lw k).txSeq + 1) % 256 := by
  obtain ⟨hkind, hseq, hack, hscyc, hlen, hgood⟩ := d.lwNextFlit_spec k o b
  obtain ⟨hout, hreplay, htx⟩ := Device.lwClose_keeps hopen
  exact ⟨d.lwNextFlit k o b, hout, hkind, hseq, hack, hscyc, hlen, hgood, hreplay, htx⟩

/-! ### Copies (R553) -/

theorem Device.Speaks.lwl_eq {d e : Device} (h : d.Speaks e) : e.lwl = d.lwl := (congrArg Device.lwl h :)

/-- The ports and the board's registers stand. -/
def Device.SparesBoard (d e : Device) : Prop := e.lwl = d.lwl ∧ ∀ o, 0x2000000 ≤ o → e.reg o = d.reg o

theorem Device.SparesBoard.trans {d e f : Device} (h : d.SparesBoard e) (g : e.SparesBoard f) : d.SparesBoard f :=
  ⟨g.1.trans h.1, fun o ho => (g.2 o ho).trans (h.2 o ho)⟩

theorem Device.setReg_sparesBoard (d : Device) {o : Nat} (h : o < 0x2000000) (v : Word) : d.SparesBoard (d.setReg o v) :=
  ⟨rfl, fun x hx => (d.reg_setReg o x v).trans (if_neg (by omega))⟩

theorem Device.hbmUeMark_sparesBoard (d : Device) (a : Nat) : d.SparesBoard ({ d.setN64 R.hbm_UE_ADDR_LO a with hbmUe := true }) := by
  refine ⟨rfl, fun o ho => d.reg_setN64 a ?_⟩
  simp only [List.mem_cons, List.not_mem_nil, or_false, R.hbm_UE_ADDR_LO]
  omega

/-- An upset that a read meets is counted on the HBM pages. -/
theorem Device.hbmMark_sparesBoard (d : Device) (u : Upset) : d.SparesBoard (d.hbmMark u) := by
  unfold Device.hbmMark
  extract_lets a c d1 y d2
  split
  · have hch : R.hbm_CH_UE (c / 2) (c % 2) < 0x2000000 := by
      dsimp only [c]
      unfold R.hbm_CH_UE
      omega
    have h1 : d.SparesBoard d1 := (d.setReg_sparesBoard (o := R.hbm_UE_COUNT) (by decide) _).trans (Device.setReg_sparesBoard _ hch _)
    have h2 : d1.SparesBoard d2 := by
      dsimp only [d2]
      split
      · exact ⟨rfl, fun _ _ => rfl⟩
      · exact d1.hbmUeMark_sparesBoard a
    have h := h1.trans h2
    clear_value d2
    refine h.trans ⟨(Device.err_evtBit_speaks d2 0xD0000 0x0100 16 _ _).lwl_eq, fun o ho => ?_⟩
    rw [Device.evtBit_reg _ _ _ _ (by unfold R.hif_MSIX_DROPPED; omega), if_neg (by omega)]
    refine d2.err_reg _ _ _ _ o (notMem_faultRegs_above (by omega)) ?_
    simp only [List.mem_cons, List.not_mem_nil, or_false]
    omega
  · have hch : R.hbm_CH_CE (c / 2) (c % 2) < 0x2000000 := by
      dsimp only [c]
      unfold R.hbm_CH_CE
      omega
    have h1 : d.SparesBoard (d.count64 R.hbm_CE_LO 1) := ⟨rfl, fun o ho => d.reg_setN64 _ (by
      simp only [List.mem_cons, List.not_mem_nil, or_false, R.hbm_CE_LO]
      omega)⟩
    have h3 : ∀ e : Device, e.SparesBoard e.corrected := fun e => by
      unfold Device.corrected
      dsimp only
      split
      · exact ⟨rfl, fun _ _ => rfl⟩
      · exact ⟨rfl, fun _ _ => rfl⟩
    exact ((h1.trans (Device.setReg_sparesBoard _ hch _)).trans (h3 _)).trans ⟨rfl, fun _ _ => rfl⟩

theorem Device.hbmRead_sparesBoard (d : Device) (a n : Nat) : d.SparesBoard (d.hbmRead a n).2 :=
  List.foldlRecOn _ _ (motive := fun e => d.SparesBoard e) ⟨rfl, fun _ _ => rfl⟩ fun e he u _ => he.trans (e.hbmMark_sparesBoard u)

/-- Two copies of one range, whatever their progress. -/
def LwCopy.Alike (x y : LwCopy) : Prop := y.lcl = x.lcl ∧ y.remote = x.remote ∧ y.len = x.len ∧ y.pull = x.pull

/-- The pieces that a copy issues leave its range and the board's registers as they were. -/
theorem Device.copyIssue_spec {k : Nat} {c : LwCopy} (fuel : Nat) {d : Device} (hc : ∃ x, (d.lw k).copy = some x ∧ c.Alike x) :
    (∃ x, ((d.copyIssue k fuel).lw k).copy = some x ∧ c.Alike x) ∧ ∀ o, 0x2000000 ≤ o → (d.copyIssue k fuel).reg o = d.reg o := by
  induction fuel generalizing d with
  | zero => exact ⟨hc, fun _ _ => rfl⟩
  | succ fuel ih =>
    obtain ⟨x, hx, halike⟩ := hc
    have hput : ∀ (e : Device) (f : LwPort → LwPort), (∀ y, ∃ z, (f y).copy = some z ∧ c.Alike z) →
        ∃ z, ((e.modLw k f).lw k).copy = some z ∧ c.Alike z := fun e f hf => by
      rw [e.lw_modLw]
      exact hf _
    have hnext : ∀ (e : Device) (f : LwPort → LwPort), (∀ y, ∃ z, (f y).copy = some z ∧ c.Alike z) → (∀ o, 0x2000000 ≤ o → e.reg o = d.reg o) →
        (∃ z, (((e.modLw k f).copyIssue k fuel).lw k).copy = some z ∧ c.Alike z) ∧
          ∀ o, 0x2000000 ≤ o → ((e.modLw k f).copyIssue k fuel).reg o = d.reg o := fun e f hf hreg => by
      obtain ⟨hcopy, hregs⟩ := ih (hput e f hf)
      exact ⟨hcopy, fun o ho => (hregs o ho).trans (hreg o ho)⟩
    unfold Device.copyIssue
    simp only [hx]
    split
    · exact ⟨⟨x, hx, halike⟩, fun _ _ => rfl⟩
    · split
      · exact ⟨hput d _ fun y => ⟨_, rfl, halike⟩, fun _ _ => rfl⟩
      · split
        · exact hnext d _ (fun y => ⟨_, rfl, halike⟩) fun _ _ => rfl
        · have hread := d.hbmRead_sparesBoard (x.lcl + x.issued) (min 256 (x.len - x.issued))
          split
          · next u e he =>
            rw [he] at hread
            exact ⟨hput e _ fun y => ⟨_, rfl, halike⟩, hread.2⟩
          · next e he =>
            rw [he] at hread
            exact hnext e _ (fun y => ⟨_, rfl, halike⟩) hread.2

/-! ### The clauses -/

theorem Device.lwTouch_reg (d : Device) (k o : Nat) : (d.lwTouch k).reg o = d.reg o :=
  congrArg (Store.get resetOf · o) (d.lwTouch_spec k).1

/-- A register of a link page past its headers that no control field of a flit touches. -/
theorem notMem_controlRegs {k : Fin 4} {o : Nat} (hlo : 0x2038000 ≤ o) (h20 : o ≠ lwPage k + 0x20) (hst : o ≠ R.lwl_PORT_STATUS k)
    (hwait : o ≠ R.lwl_PEER_TX_WAIT k) : o ∉ controlRegs k := by
  simp only [controlRegs, List.mem_cons, List.not_mem_nil, or_false, not_or]
  exact ⟨hwait, hst, h20, by unfold R.hif_MSIX_DROPPED; omega⟩

section
variable {s : State} {k : Fin 4} {f : Sys2Proof.LwFlit} {o : Bool} {t c : Nat}

theorem completes_lwFlit_bad (hup : s.dev.lwState k = 3) (hbad : f.bad o = true)
    (hagain : (s.dev.lw k).retrying = none ∧ ((s.dev.lw k).retryWin = (s.dev.atBoth t c).window → (s.dev.lw k).retries < 8)) :
    Completes (.lwFlitReceived k f o t c) s fun u => AsksAgain s k u ∧
      u.dev.reg (R.lwl_CRC_ERR k) = satAdd (s.dev.reg (R.lwl_CRC_ERR k)) 1 ∧ (u.dev.lw k).rxSeq = (s.dev.lw k).rxSeq ∧ KeepsHarts s u := by
  obtain ⟨hret, hwin⟩ := hagain
  let d := (s.dev.atBoth t c).count (R.lwl_CRC_ERR k) 1
  let e := if o then d.count (R.lwl_FEC_UNCORR k) 1 else d
  have he : (e.lw k = s.dev.lw k ∧ e.window = (s.dev.atBoth t c).window) ∧ e.reg (R.lwl_CRC_ERR k) = satAdd (s.dev.reg (R.lwl_CRC_ERR k)) 1 := by
    have hd : d.reg (R.lwl_CRC_ERR k) = satAdd (s.dev.reg (R.lwl_CRC_ERR k)) 1 := (Device.reg_count _ _ _).trans (if_pos rfl)
    dsimp only [e]
    split
    · exact ⟨⟨rfl, rfl⟩, ((Device.reg_count _ _ _).trans (if_neg (by unfold R.lwl_CRC_ERR R.lwl_FEC_UNCORR; omega))).trans hd⟩
    · exact ⟨⟨rfl, rfl⟩, hd⟩
  obtain ⟨⟨hlw, hwindow⟩, hcrc⟩ := he
  obtain ⟨hask, hrx, hreg⟩ := Device.lwRetry_asks (d := e) (k := k) (by rw [hlw]; exact hret) (by rw [hlw, hwindow]; exact hwin)
  rw [hlw] at hask hrx
  exact completes_lwFlitReceived (Device.lwReceive_bad _ hup hbad) (fun h => absurd h Bool.false_ne_true)
    ⟨hask, (hreg _ (by unfold R.lwl_CRC_ERR; omega)).trans hcrc, hrx, rfl, rfl⟩

theorem completes_lwFlit_limit (hup : s.dev.lwState k = 3) (hbad : f.bad o = true) (hwin : (s.dev.lw k).retryWin = (s.dev.atBoth t c).window)
    (hn : 8 ≤ (s.dev.lw k).retries) : Completes (.lwFlitReceived k f o t c) s fun u =>
      u.dev.reg (R.lwl_RETRY_LIMIT k) = satAdd (s.dev.reg (R.lwl_RETRY_LIMIT k)) 1 ∧ u.dev.lwState k ≤ 1 ∧ KeepsHarts s u := by
  let d := (s.dev.atBoth t c).count (R.lwl_CRC_ERR k) 1
  let e := if o then d.count (R.lwl_FEC_UNCORR k) 1 else d
  have he : (e.lw k = s.dev.lw k ∧ e.window = (s.dev.atBoth t c).window) ∧ e.reg (R.lwl_RETRY_LIMIT k) = s.dev.reg (R.lwl_RETRY_LIMIT k) := by
    have hd : d.reg (R.lwl_RETRY_LIMIT k) = s.dev.reg (R.lwl_RETRY_LIMIT k) :=
      (Device.reg_count _ _ _).trans (if_neg (by unfold R.lwl_CRC_ERR R.lwl_RETRY_LIMIT; omega))
    dsimp only [e]
    split
    · exact ⟨⟨rfl, rfl⟩, ((Device.reg_count _ _ _).trans (if_neg (by unfold R.lwl_RETRY_LIMIT R.lwl_FEC_UNCORR; omega))).trans hd⟩
    · exact ⟨⟨rfl, rfl⟩, hd⟩
  obtain ⟨⟨hlw, hwindow⟩, hlimit⟩ := he
  obtain ⟨hcount, hstate⟩ := Device.lwRetry_limit (d := e) (k := k) (by rw [hlw, hwindow]; exact hwin) (by rw [hlw]; exact hn)
  rw [hlimit] at hcount
  exact completes_lwFlitReceived (Device.lwReceive_bad _ hup hbad) (fun h => absurd h Bool.false_ne_true) ⟨hcount, hstate, rfl, rfl⟩

theorem completes_lwFlit_gap (hup : s.dev.lwState k = 3) (hgood : f.bad o = false) (hkind : f.kind = 0) (hseq : f.fseq.toNat ≠ (s.dev.lw k).rxSeq)
    (hagain : (s.dev.lw k).retrying = none ∧ ((s.dev.lw k).retryWin = (s.dev.atBoth t c).window → (s.dev.lw k).retries < 8)) :
    Completes (.lwFlitReceived k f o t c) s fun u => AsksAgain s k u ∧ (u.dev.lw k).rxSeq = (s.dev.lw k).rxSeq ∧ KeepsHarts s u := by
  obtain ⟨hret, hwin⟩ := hagain
  have hlw : ((s.dev.atBoth t c).lwHeard k).lw k = { s.dev.lw k with lastGood := (s.dev.atBoth t c).now.tick } := Device.lwHeard_lw _ k
  obtain ⟨hask, hrx, -⟩ := Device.lwRetry_asks (d := (s.dev.atBoth t c).lwHeard k) (k := k) (by rw [hlw]; exact hret) (by rw [hlw]; exact hwin)
  rw [hlw] at hask hrx
  exact completes_lwFlitReceived (Device.lwReceive_gap _ hup hgood hkind hseq hret) (fun h => absurd h Bool.false_ne_true) ⟨hask, hrx, rfl, rfl⟩

theorem completes_lwFlit_idle (hup : s.dev.lwState k = 3) (hgood : f.bad o = false) (hkind : f.kind = 1) :
    Completes (.lwFlitReceived k f o t c) s fun u =>
      (u.dev.lw k).lastGood = (s.dev.atBoth t c).now.tick ∧ (u.dev.lw k).replay = ackReplay f.ack.toNat (s.dev.lw k).replay ∧
      (u.dev.lw k).rxSeq = (s.dev.lw k).rxSeq ∧ u.dev.rf (R.lwl_PORT_STATUS k) 4 1 = f.state.toNat % 2 ∧
      u.dev.rf (R.lwl_PORT_STATUS k) 5 1 = f.state.toNat / 2 % 2 ∧ KeepsHarts s u := by
  obtain ⟨⟨w, sp, hlw⟩, -, hok, hfault, -⟩ := ((s.dev.atBoth t c).lwHeard k).lwControl_spec k f
  rw [if_neg (by rw [hkind]; decide), Device.lwHeard_lw] at hlw
  let e := ((s.dev.atBoth t c).lwHeard k).lwControl k f
  obtain ⟨-, -, -, p, htouch⟩ := e.lwTouch_spec k
  rw [show e.lw k = _ from hlw] at htouch
  exact completes_lwFlitReceived (Device.lwReceive_idle _ hup hgood hkind) (fun h => absurd h Bool.false_ne_true) ⟨congrArg LwPort.lastGood htouch, congrArg LwPort.replay htouch,
    (congrArg LwPort.rxSeq htouch :), (congrArg (fld · 4 1) (e.lwTouch_reg k _)).trans hok, (congrArg (fld · 5 1) (e.lwTouch_reg k _)).trans hfault, rfl, rfl⟩

theorem completes_lwFlit_empty (hup : s.dev.lwState k = 3) (hgood : f.bad o = false) (hkind : f.kind = 0) (hseq : f.fseq.toNat = (s.dev.lw k).rxSeq)
    (hret : (s.dev.lw k).retrying = none) (hsegs : f.segs = []) : Completes (.lwFlitReceived k f o t c) s fun u =>
      (u.dev.lw k).rxSeq = ((s.dev.lw k).rxSeq + 1) % 256 ∧ (u.dev.lw k).replay = ackReplay f.ack.toNat (s.dev.lw k).replay ∧ KeepsHarts s u := by
  obtain ⟨⟨w, sp, hlw⟩, -, -⟩ := (s.dev.atBoth t c).lwTaken_spec k hkind
  obtain ⟨-, -, -, p, htouch⟩ := ((s.dev.atBoth t c).lwTaken k f).lwTouch_spec k
  rw [hlw] at htouch
  have hrun := Device.lwReceive_data (d := s.dev.atBoth t c) (k := k) (o := o) (s.dev.atBoth t c).now.cyc hup hgood hkind hseq hret
  rw [hsegs] at hrun
  exact completes_lwFlitReceived hrun (fun _ => by rw [regReqs, hsegs]; rfl) ⟨congrArg LwPort.rxSeq htouch, congrArg LwPort.replay htouch, rfl, rfl⟩

theorem completes_lwFlit_frame {g : Sys2Proof.LwSeg} (hup : s.dev.lwState k = 3) (hgood : f.bad o = false) (hkind : f.kind = 0)
    (hseq : f.fseq.toNat = (s.dev.lw k).rxSeq) (hret : (s.dev.lw k).retrying = none) (hsegs : f.segs = [g]) (hvalid : g.valid = true) (hvc : g.vc = 0)
    (hchan : s.dev.chKind k g.ch = 3) (hopen : s.dev.rxOpen k g.ch = true) (hfirst : g.flit.first = true) (hlast : g.flit.last = true) :
    Completes (.lwFlitReceived k f o t c) s fun u =>
      Store.get noFlits u.dev.edge.chRx (64 * k + g.ch) = Store.get noFlits s.dev.edge.chRx (64 * k + g.ch) ++ [g.flit] ∧
      u.dev.rn (R.lwl_CH_FRAMES k g.ch) = (s.dev.rn (R.lwl_CH_FRAMES k g.ch) + 1) % 2 ^ 32 ∧
      (u.dev.lw k).ctl = (s.dev.lw k).ctl ++ [vcSeg 3 1 g.ch (s.dev.rn (R.lwl_CH_FRAMES k g.ch))] ∧
      (u.dev.lw k).rxSeq = ((s.dev.lw k).rxSeq + 1) % 256 ∧ KeepsHarts s u := by
  have hch : g.ch < 64 := Nat.mod_lt _ (by decide)
  obtain ⟨⟨w, sp, hlw⟩, hreg, hedge⟩ := (s.dev.atBoth t c).lwTaken_spec k hkind
  let d := (s.dev.atBoth t c).lwTaken k f
  have hkeep : ∀ o, o ∉ controlRegs k → d.reg o = s.dev.reg o := hreg
  have hchan' : d.chKind k g.ch = 3 := by
    refine (congrArg (fld · 0 2) (hkeep _ (notMem_controlRegs ?_ ?_ ?_ ?_))).trans hchan
    · unfold R.lwl_CH_CFG
      omega
    · unfold R.lwl_CH_CFG lwPage
      omega
    · unfold R.lwl_CH_CFG R.lwl_PORT_STATUS
      omega
    · unfold R.lwl_CH_CFG R.lwl_PEER_TX_WAIT
      omega
  obtain ⟨v, hstream⟩ := Device.lwStream_frame (d := d) (k := k) (scyc := f.scyc.toNat) (s := g) hchan'
  let e := d.setReg (R.lwl_LAT_MEAS k) v
  have he : ∀ o, o ≠ R.lwl_LAT_MEAS k → e.reg o = d.reg o := fun o ho => (Device.reg_setReg _ _ _ _).trans (if_neg ho)
  have hekind : e.chKind k g.ch = 3 := by
    refine (congrArg (fld · 0 2) (he _ ?_)).trans hchan'
    unfold R.lwl_LAT_MEAS R.lwl_CH_CFG
    omega
  have heopen : e.rxOpen k g.ch = true := by
    refine (Device.rxOpen_congr (fun o hlo hhi => ?_) _ _).trans hopen
    rw [he o (by unfold R.lwl_LAT_MEAS; omega), hkeep o]
    simp only [controlRegs, List.mem_cons, List.not_mem_nil, or_false, not_or]
    unfold R.lwl_PEER_TX_WAIT R.lwl_PORT_STATUS lwPage R.hif_MSIX_DROPPED
    omega
  have hframes : e.rn (R.lwl_CH_FRAMES k g.ch) = s.dev.rn (R.lwl_CH_FRAMES k g.ch) := by
    refine congrArg BitVec.toNat ((he _ ?_).trans (hkeep _ (notMem_controlRegs ?_ ?_ ?_ ?_)))
    · unfold R.lwl_CH_FRAMES R.lwl_LAT_MEAS
      omega
    · unfold R.lwl_CH_FRAMES
      omega
    · unfold R.lwl_CH_FRAMES lwPage
      omega
    · unfold R.lwl_CH_FRAMES R.lwl_PORT_STATUS
      omega
    · unfold R.lwl_CH_FRAMES R.lwl_PEER_TX_WAIT
      omega
  obtain ⟨hrx, hcount, fr, rf, pt, hflw⟩ := Device.frameSeg_takes (d := e) hch hekind heopen hfirst hlast
  rw [hframes] at hcount hflw
  rw [show e.lw k = _ from hlw] at hflw
  have hseg : d.lwSeg k f.scyc.toNat g = e.frameSeg k g.ch g.flit := by
    unfold Device.lwSeg
    rw [hvalid, hvc]
    exact hstream
  have hrun := Device.lwReceive_data (d := s.dev.atBoth t c) (k := k) (o := o) (s.dev.atBoth t c).now.cyc hup hgood hkind hseq hret
  rw [hsegs, show ([g].take 6).foldl (fun d s => d.lwSeg k f.scyc.toNat s) ((s.dev.atBoth t c).lwTaken k f) = e.frameSeg k g.ch g.flit from hseg] at hrun
  obtain ⟨htregs, htedge, -, p, htouch⟩ := (e.frameSeg k g.ch g.flit).lwTouch_spec k
  rw [hflw] at htouch
  refine completes_lwFlitReceived hrun (fun _ => ?_) ⟨?_, ?_, congrArg LwPort.ctl htouch, congrArg LwPort.rxSeq htouch, rfl, rfl⟩
  · rw [regReqs, hsegs]
    simp [hvalid, hvc]
  · refine (congrArg (fun x : Edge => Store.get noFlits x.chRx (64 * k + g.ch)) htedge).trans (hrx.trans ?_)
    exact congrArg (fun x : Edge => Store.get noFlits x.chRx (64 * k + g.ch) ++ [g.flit]) hedge
  · exact (congrArg (fun r => (Store.get resetOf r (R.lwl_CH_FRAMES k g.ch)).toNat) htregs).trans hcount

end

theorem completes_lwRetryReq {s : State} {k : Fin 4} {f : Sys2Proof.LwFlit} {o : Bool} {t c : Nat} (l : Nat) (hup : s.dev.lwState k = 3) (hkind : f.kind = 2)
    (hgood : f.bad o = false) (hok : f.state.toNat % 2 = 1) : Completes (.lwRetryReq k f o l t c) s fun u =>
      u.dev.out = ((ackReplay ((f.ack.toNat + 255) % 256) (s.dev.lw k).replay).map (Output.lw k)).reverse ++ s.dev.out ∧
      (u.dev.lw k).replay = ackReplay ((f.ack.toNat + 255) % 256) (s.dev.lw k).replay ∧
      u.dev.reg (R.lwl_REPLAYS k) = satAdd (s.dev.reg (R.lwl_REPLAYS k)) 1 ∧ KeepsHarts s u := by
  obtain ⟨⟨w, sp, hlw⟩, hreg, -, -, -, hout⟩ := ((s.dev.atBoth t c).lwHeard k).lwControl_spec k f
  rw [if_pos hkind, Device.lwHeard_lw] at hlw
  let d := ((s.dev.atBoth t c).lwHeard k).lwControl k f
  have hreplay : (d.lw k).replay = ackReplay ((f.ack.toNat + 255) % 256) (s.dev.lw k).replay := (congrArg LwPort.replay hlw :)
  have hdout : d.out = s.dev.out := hout hok
  obtain ⟨hrlw, hrout, hrreg⟩ := d.lwReplay_spec k l
  obtain ⟨-, -, htout, p, htlw⟩ := (d.lwReplay k l).lwTouch_spec k
  have hrun : lwRetryReq k f o l t c s.dev = (d.lwReplay k l).lwTouch k :=
    (if_pos hkind).trans (congrArg Prod.fst (Device.lwReceive_retryReq (d := s.dev.atBoth t c) l hup hgood hkind))
  refine completes_dev rfl hrun ⟨?_, ?_, ?_, rfl, rfl⟩
  · rw [htout, hrout, hreplay, hdout]
  · rw [htlw]
    exact (congrArg (fun m => (Store.get lwPort0 m k).replay) hrlw).trans hreplay
  · rw [Device.lwTouch_reg, hrreg _ (by unfold R.lwl_REPLAYS; omega), if_pos rfl]
    refine congrArg (satAdd · 1) (hreg _ (notMem_controlRegs ?_ ?_ ?_ ?_))
    · unfold R.lwl_REPLAYS
      omega
    · unfold R.lwl_REPLAYS lwPage
      omega
    · unfold R.lwl_REPLAYS R.lwl_PORT_STATUS
      omega
    · unfold R.lwl_REPLAYS R.lwl_PEER_TX_WAIT
      omega

theorem completes_lwFlitClose {s : State} {k : Fin 4} {t c o b : Nat} (hup : s.dev.lwState k = 3) (hopen : (s.dev.lw k).opened = some (o, b))
    (hold : o + 4 ≤ (s.dev.atBoth t c).now.cyc) : Completes (.lwFlitClose k t c) s fun u =>
      ∃ f, u.dev.out = .lw k f :: s.dev.out ∧ f.kind = 0 ∧ f.fseq = BitVec.ofNat 8 (s.dev.lw k).txSeq ∧
        f.ack = BitVec.ofNat 8 (s.dev.lw k).acked ∧ f.scyc = BitVec.ofNat 32 o ∧ f.segs.length ≤ 6 ∧ f.bad false = false ∧
        (u.dev.lw k).replay = (s.dev.lw k).replay ++ [f] ∧ (u.dev.lw k).txSeq = ((s.dev.lw k).txSeq + 1) % 256 ∧ KeepsHarts s u := by
  obtain ⟨hreg, hlw, -, hout, hnow⟩ := (s.dev.atBoth t c).lwSettle_spec k
  let d := (s.dev.atBoth t c).lwSettle k
  have hdopen : (d.lw k).opened = some (o, b) := (congrArg LwPort.opened hlw).trans hopen
  have hdup : d.lwState k = 3 := by
    refine (congrArg (fld · 0 2) (hreg _ ?_)).trans hup
    unfold R.lwl_PORT_STATUS R.lwl_PEER_TX_WAIT
    omega
  have hrun : lwFlitClose k t c s.dev = d.lwClose k := by
    show (match (d.lw k).opened with
      | none => d
      | some (o, _) => if d.lwState k = 3 ∧ (o + 4 ≤ d.now.cyc ∨ (d.lwFill k o).1.length = 6) then d.lwClose k else d) = _
    rw [hdopen]
    exact if_pos ⟨hdup, .inl (by rw [hnow]; exact hold)⟩
  obtain ⟨f, hfout, hkind, hseq, hack, hscyc, hlen, hgood, hreplay, htx⟩ := Device.lwClose_spec hdopen
  have htxs : (d.lw k).txSeq = (s.dev.lw k).txSeq := (congrArg LwPort.txSeq hlw :)
  have hacks : (d.lw k).acked = (s.dev.lw k).acked := (congrArg LwPort.acked hlw :)
  have hreps : (d.lw k).replay = (s.dev.lw k).replay := (congrArg LwPort.replay hlw :)
  rw [htxs] at hseq htx
  rw [hacks] at hack
  rw [hreps] at hreplay
  rw [show d.out = s.dev.out from hout] at hfout
  exact completes_dev rfl hrun ⟨f, hfout, hkind, hseq, hack, hscyc, hlen, hgood, hreplay, htx, rfl, rfl⟩

theorem completes_lwIdleFlit {s : State} {k : Fin 4} {t c : Nat} (hup : s.dev.lwState k = 3) :
    ((s.dev.lw k).opened = none → Completes (.lwIdleFlit k t c) s fun u => ∃ f, u.dev.out = .lw k f :: s.dev.out ∧ f.kind = 1 ∧ f.segs = [] ∧
      f.bad false = false ∧ (u.dev.lw k).replay = (s.dev.lw k).replay ∧ (u.dev.lw k).txSeq = (s.dev.lw k).txSeq ∧ u.dev.regs = s.dev.regs ∧ KeepsHarts s u) ∧
    ((s.dev.lw k).opened ≠ none → Completes (.lwIdleFlit k t c) s fun u => u.dev = s.dev.atBoth t c ∧ KeepsHarts s u) := by
  refine ⟨fun hnone => ?_, fun hopen => ?_⟩
  · obtain ⟨hregs, ⟨l, hlw⟩, f, hout, hkind, hsegs, hgood, -⟩ := (s.dev.atBoth t c).lwPlain_spec k 1
    exact completes_dev rfl (if_pos ⟨hup, hnone⟩) ⟨f, hout, hkind, hsegs, hgood, (congrArg LwPort.replay hlw :), (congrArg LwPort.txSeq hlw :), hregs, rfl, rfl⟩
  · exact completes_dev rfl (if_neg fun h => hopen h.2) ⟨rfl, rfl, rfl⟩

theorem completes_lwAckTimeout {s : State} {k : Fin 4} {c : Fin 64} {t n a : Nat}
    (hfind : (s.dev.lw k).awaits.find? (fun q => q.1 == c.val) = some (c.val, n, a)) : let us := s.dev.rf (R.lwl_PORT_CFG k) 16 16
    (us ≠ 0 → a + 1000 * us ≤ (s.dev.at t).now.tick → Completes (.lwAckTimeout k c t) s fun u =>
      (∀ q ∈ (u.dev.lw k).awaits, ¬(q.1 = c.val ∧ q.2.1 = n)) ∧ KeepsHarts s u) ∧
    (us = 0 ∨ (s.dev.at t).now.tick < a + 1000 * us → Completes (.lwAckTimeout k c t) s fun u => u.dev = s.dev.at t ∧ KeepsHarts s u) := by
  intro us
  have hrun : lwAckTimeout k c t s.dev =
      if us ≠ 0 ∧ a + 1000 * us ≤ (s.dev.at t).now.tick then (s.dev.at t).peerAnswer k c n 4 else s.dev.at t := by
    show (match (s.dev.lw k).awaits.find? (fun q => q.1 == c.val) with
      | some (_, n, at_) => if us ≠ 0 ∧ at_ + 1000 * us ≤ (s.dev.at t).now.tick then (s.dev.at t).peerAnswer k c n 4 else s.dev.at t
      | none => s.dev.at t) = _
    rw [hfind]
  refine ⟨fun hus hold => ?_, fun h => ?_⟩
  · refine completes_dev rfl (hrun.trans (if_pos ⟨hus, hold⟩)) ⟨fun q hq hmine => ?_, rfl, rfl⟩
    have hlw := ((s.dev.at t).peerAnswer_sparesLinks k c n 4).lw_eq k
    rw [Device.lw_modLw] at hlw
    have hawaits : (((s.dev.at t).peerAnswer k c n 4).lw k).awaits = (s.dev.lw k).awaits.filter fun q => !(q.1 == c.val && q.2.1 == n) :=
      (congrArg LwPort.awaits hlw :)
    have hleft : q ∈ (((s.dev.at t).peerAnswer k c n 4).lw k).awaits := hq
    rw [hawaits] at hleft
    obtain ⟨-, hkeep⟩ := List.mem_filter.1 hleft
    simp [hmine] at hkeep
  · exact completes_dev rfl (hrun.trans (if_neg fun h' => h.elim h'.1 fun h => absurd h (Nat.not_lt.2 h'.2))) ⟨rfl, rfl, rfl⟩

/-- Where an operator range may lie is a matter of the HBM page. -/
theorem Device.inOperator_congr {d e : Device} (h : ∀ o, o < 0x2000000 → e.reg o = d.reg o) (a n : Nat) : e.inOperator a n = d.inOperator a n := by
  have hbase : e.areaBase 4 = d.areaBase 4 := by
    unfold Device.areaBase Device.rf
    rw [h R.hbm_IMAGE_SIZE (by decide), h R.hbm_LIBRARY_SIZE (by decide), h R.hbm_TRACE_SIZE (by decide)]
  unfold Device.inOperator
  rw [hbase]

/-- A register past the header of a page of the board. -/
def OfBoard (o : Nat) : Prop := 0x2000000 ≤ o ∧ 0x100 ≤ o % 0x1000

theorem Device.err_reg_board (d : Device) {pg : Nat} (hpg : pg % 0x1000 = 0) (code : Nat) (lo hi : Word) {o : Nat} (ho : OfBoard o) :
    (d.err pg code lo hi).reg o = d.reg o := by
  obtain ⟨hlo, hpast⟩ := ho
  refine d.err_reg _ _ _ _ o (notMem_faultRegs_above (by omega)) ?_
  simp only [List.mem_cons, List.not_mem_nil, or_false]
  omega

theorem Device.copyError_status (d : Device) (k : Fin 4) (r : Nat) : (d.copyError k r).reg (R.lwl_COPY_STATUS k) = wd (4 + 16 * r) :=
  (Device.err_reg_board _ (by unfold lwPage; omega) _ _ _ (by unfold OfBoard R.lwl_COPY_STATUS; omega)).trans
    ((Device.reg_setReg _ _ _ _).trans (if_pos rfl))

section
variable {s : State} {k : Fin 4} {q : Req}

theorem R.lwl_COPY_CTRL_page : ∀ k : Fin 4, errPage (R.lwl_COPY_CTRL k) = lwPage k := by decide

/-- The device in which COPY_CTRL has been written. -/
def Device.copyCtrl (d : Device) (k : Fin 4) (q : Req) : Device := d.setF (R.lwl_COPY_CTRL k) 0 1 (fld q.data 0 1)

theorem Device.copyCtrl_reg (d : Device) {o : Nat} (h : o ≠ R.lwl_COPY_CTRL k) : (d.copyCtrl k q).reg o = d.reg o :=
  (Device.reg_setReg _ _ _ _).trans (if_neg h)

/-- A GO of COPY_CTRL, by what stood before it. -/
theorem copyGo_goes (hw : Writes s q (R.lwl_COPY_CTRL k) = true) (hgo : fld q.data 31 1 = 1) : copyGo k q s.dev =
    let d0 := (s.dev.at q.t).copyCtrl k q
    let n := s.dev.rn (R.lwl_COPY_LEN k)
    let a := s.dev.rn64 (R.lwl_COPY_LOCAL_LO k)
    if s.dev.rf (R.lwl_COPY_STATUS k) 0 1 = 1 then d0
    else if n = 0 ∨ n % 32 ≠ 0 ∨ !s.dev.inOperator a n then d0.errValue 0x0003 q.port (R.lwl_COPY_CTRL k) q.data
    else if s.dev.lwState k ≠ 3 then d0.copyError k 2
    else (((d0.setN (R.lwl_COPY_STATUS k) 1).modLw k fun x => { x with
      copy := some ⟨a, s.dev.rn64 (R.lwl_COPY_REMOTE_LO k), n, decide (fld q.data 0 1 = 1), 0, [], none⟩ }).copyIssue k 16).lwTouch k := by
  extract_lets d0 n a
  have hreg : ∀ o, o ≠ R.lwl_COPY_CTRL k → d0.reg o = s.dev.reg o := fun o ho => Device.copyCtrl_reg _ ho
  have hstatus : d0.rf (R.lwl_COPY_STATUS k) 0 1 = s.dev.rf (R.lwl_COPY_STATUS k) 0 1 :=
    congrArg (fld · 0 1) (hreg _ (by unfold R.lwl_COPY_STATUS R.lwl_COPY_CTRL; omega))
  have hlen : d0.rn (R.lwl_COPY_LEN k) = n := congrArg BitVec.toNat (hreg _ (by unfold R.lwl_COPY_LEN R.lwl_COPY_CTRL; omega))
  have hlocal : d0.rn64 (R.lwl_COPY_LOCAL_LO k) = a := Device.rn64_congr fun o ho => hreg o (by
    simp only [List.mem_cons, List.not_mem_nil, or_false, R.lwl_COPY_LOCAL_LO] at ho
    unfold R.lwl_COPY_CTRL
    omega)
  have hremote : d0.rn64 (R.lwl_COPY_REMOTE_LO k) = s.dev.rn64 (R.lwl_COPY_REMOTE_LO k) := Device.rn64_congr fun o ho => hreg o (by
    simp only [List.mem_cons, List.not_mem_nil, or_false, R.lwl_COPY_REMOTE_LO] at ho
    unfold R.lwl_COPY_CTRL
    omega)
  have hop : d0.inOperator a n = s.dev.inOperator a n := Device.inOperator_congr (fun o ho => hreg o (by unfold R.lwl_COPY_CTRL; omega)) a n
  have hstate : d0.lwState k = s.dev.lwState k := congrArg (fld · 0 2) (hreg _ (by unfold R.lwl_PORT_STATUS R.lwl_COPY_CTRL; omega))
  refine (if_neg (by rw [hgo]; decide)).trans ((Device.writeAt_of_writes hw).trans ?_)
  show (if d0.rf (R.lwl_COPY_STATUS k) 0 1 = 1 then d0
    else if d0.rn (R.lwl_COPY_LEN k) = 0 ∨ d0.rn (R.lwl_COPY_LEN k) % 32 ≠ 0 ∨
        !d0.inOperator (d0.rn64 (R.lwl_COPY_LOCAL_LO k)) (d0.rn (R.lwl_COPY_LEN k)) then d0.errValue 0x0003 q.port (R.lwl_COPY_CTRL k) q.data
    else if d0.lwState k ≠ 3 then d0.copyError k 2
    else (((d0.setN (R.lwl_COPY_STATUS k) 1).modLw k fun x => { x with copy := some ⟨d0.rn64 (R.lwl_COPY_LOCAL_LO k),
      d0.rn64 (R.lwl_COPY_REMOTE_LO k), d0.rn (R.lwl_COPY_LEN k), decide (fld q.data 0 1 = 1), 0, [], none⟩ }).copyIssue k 16).lwTouch k) = _
  rw [hstatus, hlen, hlocal, hremote, hop, hstate]

theorem completes_copyGo (hw : Writes s q (R.lwl_COPY_CTRL k) = true) (hgo : fld q.data 31 1 = 1) : let n := s.dev.rn (R.lwl_COPY_LEN k)
    let a := s.dev.rn64 (R.lwl_COPY_LOCAL_LO k)
    (s.dev.rf (R.lwl_COPY_STATUS k) 0 1 = 1 → Completes (.copyGo k q) s fun u => KeepsRegs s u [R.lwl_COPY_CTRL k] ∧ RegsOnly s u) ∧
    (s.dev.rf (R.lwl_COPY_STATUS k) 0 1 = 0 → n = 0 ∨ n % 32 ≠ 0 ∨ s.dev.inOperator a n = false → Completes (.copyGo k q) s fun u =>
      u.dev.reg (R.lwl_COPY_STATUS k) = s.dev.reg (R.lwl_COPY_STATUS k) ∧ (u.dev.lw k).copy = (s.dev.lw k).copy ∧
      u.dev.reg (lwPage k + 0x34) = satAdd (s.dev.reg (lwPage k + 0x34)) 1 ∧ KeepsHarts s u) ∧
    (s.dev.rf (R.lwl_COPY_STATUS k) 0 1 = 0 → n ≠ 0 → n % 32 = 0 → s.dev.inOperator a n = true → s.dev.lwState k ≠ 3 → Completes (.copyGo k q) s fun u =>
      u.dev.reg (R.lwl_COPY_STATUS k) = wd (4 + 16 * 2) ∧ (u.dev.lw k).copy = none ∧ KeepsHarts s u) ∧
    (s.dev.rf (R.lwl_COPY_STATUS k) 0 1 = 0 → n ≠ 0 → n % 32 = 0 → s.dev.inOperator a n = true → s.dev.lwState k = 3 → Completes (.copyGo k q) s fun u =>
      u.dev.reg (R.lwl_COPY_STATUS k) = 1 ∧ (∃ x, (u.dev.lw k).copy = some x ∧ x.lcl = a ∧ x.remote = s.dev.rn64 (R.lwl_COPY_REMOTE_LO k) ∧ x.len = n ∧
        x.pull = (fld q.data 0 1 == 1)) ∧ KeepsHarts s u) := by
  intro n a
  have hrun := copyGo_goes hw hgo
  have hpage : lwPage k % 0x1000 = 0 := by
    unfold lwPage
    omega
  have hstatus : OfBoard (R.lwl_COPY_STATUS k) := by
    unfold OfBoard R.lwl_COPY_STATUS
    omega
  have hgood : n ≠ 0 → n % 32 = 0 → s.dev.inOperator a n = true → ¬(n = 0 ∨ n % 32 ≠ 0 ∨ (!s.dev.inOperator a n) = true) := by
    rintro h1 h2 h3 (h | h | h)
    · exact h1 h
    · exact h h2
    · rw [h3] at h
      exact absurd h (by decide)
  refine ⟨fun hbusy => ?_, fun hidle hbad => ?_, fun hidle h1 h2 h3 hdown => ?_, fun hidle h1 h2 h3 hup => ?_⟩
  · exact completes_dev rfl (hrun.trans (if_pos hbusy)) ⟨fun o ho => Device.copyCtrl_reg _ (by simpa using ho), rfl, rfl, rfl⟩
  · have hbad' : n = 0 ∨ n % 32 ≠ 0 ∨ (!s.dev.inOperator a n) = true := hbad.imp id fun h => h.imp id fun h => by rw [h]; rfl
    have herr := hrun.trans ((if_neg (by rw [hidle]; decide)).trans (if_pos hbad'))
    rw [Device.errValue, R.lwl_COPY_CTRL_page k] at herr
    refine completes_dev rfl herr ⟨?_, ?_, ?_, rfl, rfl⟩
    · rw [Device.err_reg_board _ hpage _ _ _ hstatus]
      exact Device.copyCtrl_reg _ (by unfold R.lwl_COPY_STATUS R.lwl_COPY_CTRL; omega)
    · exact congrArg LwPort.copy ((Device.err_speaks _ _ _ _ _).lw_eq k)
    · refine (Device.err_count _ _ _ _ _ (notMem_faultRegs_above (by unfold lwPage; omega))).trans (congrArg (satAdd · 1) ?_)
      exact Device.copyCtrl_reg _ (by unfold lwPage R.lwl_COPY_CTRL; omega)
  · refine completes_dev rfl (hrun.trans ((if_neg (by rw [hidle]; decide)).trans ((if_neg (hgood h1 h2 h3)).trans (if_pos hdown)))) ⟨?_, ?_, rfl, rfl⟩
    · exact Device.copyError_status _ k 2
    · exact congrArg LwPort.copy (Device.copyError_lw _ k 2)
  · let e := (((s.dev.at q.t).copyCtrl k q).setN (R.lwl_COPY_STATUS k) 1).modLw k fun x => { x with
      copy := some ⟨a, s.dev.rn64 (R.lwl_COPY_REMOTE_LO k), n, decide (fld q.data 0 1 = 1), 0, [], none⟩ }
    obtain ⟨⟨x, hx, hlcl, hremote, hlen, hpull⟩, hreg⟩ := Device.copyIssue_spec (k := k)
      (c := ⟨a, s.dev.rn64 (R.lwl_COPY_REMOTE_LO k), n, decide (fld q.data 0 1 = 1), 0, [], none⟩) 16 (d := e)
      ⟨_, congrArg LwPort.copy (Device.lw_modLw _ k _), rfl, rfl, rfl, rfl⟩
    obtain ⟨-, -, -, p, htlw⟩ := (e.copyIssue k 16).lwTouch_spec k
    refine completes_dev rfl (hrun.trans ((if_neg (by rw [hidle]; decide)).trans ((if_neg (hgood h1 h2 h3)).trans (if_neg (not_not.2 hup)))))
      ⟨?_, ⟨x, (congrArg LwPort.copy htlw).trans hx, hlcl, hremote, hlen, hpull⟩, rfl, rfl⟩
    refine ((e.copyIssue k 16).lwTouch_reg k _).trans ((hreg _ ?_).trans ?_)
    · unfold R.lwl_COPY_STATUS
      omega
    · exact (Device.reg_setReg _ _ _ _).trans (if_pos rfl)

theorem completes_copyDone {t : Nat} {x : LwCopy} (hcopy : (s.dev.lw k).copy = some x) :
    (∀ r, x.reason = some r → Completes (.copyDone k t) s fun u => u.dev.reg (R.lwl_COPY_STATUS k) = wd (4 + 16 * r) ∧ (u.dev.lw k).copy = none ∧
      u.dev.reg (lwPage k + 0x34) = satAdd (s.dev.reg (lwPage k + 0x34)) 1 ∧ KeepsHarts s u) ∧
    (x.reason = none → x.issued = x.len → x.pieces = [] → Completes (.copyDone k t) s fun u => u.dev.reg (R.lwl_COPY_STATUS k) = 2 ∧
      (u.dev.lw k).copy = none ∧ u.dev.rf (lwPage k + 0x20) 21 1 = 1 ∧ KeepsHarts s u) ∧
    (x.reason = none → x.issued ≠ x.len ∨ x.pieces ≠ [] → Completes (.copyDone k t) s fun u => u.dev = s.dev.at t ∧ KeepsHarts s u) := by
  have hrun : copyDone k t s.dev = match x.reason with
      | some r => (s.dev.at t).copyError k r
      | none => if x.issued = x.len ∧ x.pieces = [] then
          (((s.dev.at t).modLw k fun y => { y with copy := none }).setN (R.lwl_COPY_STATUS k) 2).evtBit (lwPage k) 21
        else s.dev.at t := by
    show (match ((s.dev.at t).lw k).copy with
      | none => s.dev.at t
      | some c => match c.reason with
        | some r => (s.dev.at t).copyError k r
        | none => if c.issued = c.len ∧ c.pieces = [] then
            (((s.dev.at t).modLw k fun y => { y with copy := none }).setN (R.lwl_COPY_STATUS k) 2).evtBit (lwPage k) 21
          else s.dev.at t) = _
    rw [show ((s.dev.at t).lw k).copy = some x from hcopy]
  refine ⟨fun r hr => ?_, fun hnone hlen hp => ?_, fun hnone hmore => ?_⟩
  · rw [hr] at hrun
    refine completes_dev rfl hrun ⟨Device.copyError_status _ k r, congrArg LwPort.copy (Device.copyError_lw _ k r), ?_, rfl, rfl⟩
    refine (Device.err_count _ _ _ _ _ (notMem_faultRegs_above (by unfold lwPage; omega))).trans (congrArg (satAdd · 1) ?_)
    exact (Device.reg_setReg _ _ _ _).trans (if_neg (by unfold lwPage R.lwl_COPY_STATUS; omega))
  · rw [hnone] at hrun
    let e := ((s.dev.at t).modLw k fun y => { y with copy := none }).setN (R.lwl_COPY_STATUS k) 2
    have hstatus : (e.evtBit (lwPage k) 21).reg (R.lwl_COPY_STATUS k) = 2 := by
      rw [e.evtBit_reg _ _ _ (by unfold R.lwl_COPY_STATUS R.hif_MSIX_DROPPED; omega), if_neg (by unfold R.lwl_COPY_STATUS lwPage; omega)]
      exact (Device.reg_setReg _ _ _ _).trans (if_pos rfl)
    have hlw : (e.evtBit (lwPage k) 21).lw k = { s.dev.lw k with copy := none } := 
      ((e.evtBit_speaks _ _).lw_eq k).trans (Device.lw_modLw (s.dev.at t) k fun y => { y with copy := none })
    exact completes_dev rfl (hrun.trans (if_pos ⟨hlen, hp⟩)) ⟨hstatus, congrArg LwPort.copy hlw,
      e.evtBit_shows (by unfold lwPage R.hif_MSIX_DROPPED; omega) (by decide), rfl, rfl⟩
  · rw [hnone] at hrun
    exact completes_dev rfl (hrun.trans (if_neg fun h => hmore.elim (· h.1) (· h.2))) ⟨rfl, rfl, rfl⟩

/-! ### Register requests (R554) -/

theorem completes_rregGo (hw : Writes s q (R.lwl_RREG_CTRL k) = true) (hgo : fld q.data 31 1 = 1) :
    (s.dev.rf (R.lwl_RREG_STATUS k) 0 1 = 1 → Completes (.rregGo k q) s fun u => KeepsRegs s u [R.lwl_RREG_CTRL k] ∧ RegsOnly s u) ∧
    (s.dev.rf (R.lwl_RREG_STATUS k) 0 1 = 0 → s.dev.lwState k ≠ 3 → Completes (.rregGo k q) s fun u => u.dev.reg (R.lwl_RREG_STATUS k) = 14 ∧
      KeepsRegs s u [R.lwl_RREG_CTRL k, R.lwl_RREG_STATUS k] ∧ RegsOnly s u) ∧
    (s.dev.rf (R.lwl_RREG_STATUS k) 0 1 = 0 → s.dev.lwState k = 3 → Completes (.rregGo k q) s fun u => u.dev.reg (R.lwl_RREG_STATUS k) = 1 ∧
      (u.dev.lw k).ctl = (s.dev.lw k).ctl ++ [vcSeg 3 3 0 (s.dev.rn (R.lwl_RREG_ADDR k) / 4 * 4 + 2 ^ 32 * fld q.data 0 1 +
        2 ^ 64 * s.dev.rn (R.lwl_RREG_DATA k))] ∧ KeepsHarts s u) := by
  let d0 := (s.dev.at q.t).setF (R.lwl_RREG_CTRL k) 0 1 (fld q.data 0 1)
  have hreg : ∀ o, o ≠ R.lwl_RREG_CTRL k → d0.reg o = s.dev.reg o := fun o ho => (Device.reg_setReg _ _ _ _).trans (if_neg ho)
  have hstatus : d0.rf (R.lwl_RREG_STATUS k) 0 1 = s.dev.rf (R.lwl_RREG_STATUS k) 0 1 :=
    congrArg (fld · 0 1) (hreg _ (by unfold R.lwl_RREG_STATUS R.lwl_RREG_CTRL; omega))
  have hstate : d0.lwState k = s.dev.lwState k := congrArg (fld · 0 2) (hreg _ (by unfold R.lwl_PORT_STATUS R.lwl_RREG_CTRL; omega))
  have haddr : d0.rn (R.lwl_RREG_ADDR k) = s.dev.rn (R.lwl_RREG_ADDR k) :=
    congrArg BitVec.toNat (hreg _ (by unfold R.lwl_RREG_ADDR R.lwl_RREG_CTRL; omega))
  have hdata : d0.rn (R.lwl_RREG_DATA k) = s.dev.rn (R.lwl_RREG_DATA k) :=
    congrArg BitVec.toNat (hreg _ (by unfold R.lwl_RREG_DATA R.lwl_RREG_CTRL; omega))
  let v := s.dev.rn (R.lwl_RREG_ADDR k) / 4 * 4 + 2 ^ 32 * fld q.data 0 1 + 2 ^ 64 * s.dev.rn (R.lwl_RREG_DATA k)
  have hrun : rregGo k q s.dev = if s.dev.rf (R.lwl_RREG_STATUS k) 0 1 = 1 then d0
      else if s.dev.lwState k ≠ 3 then d0.setN (R.lwl_RREG_STATUS k) (2 + 4 * 3)
      else ((d0.setN (R.lwl_RREG_STATUS k) 1).lwCtl k (vcSeg 3 3 0 v)).lwTouch k := by
    refine (if_neg (by rw [hgo]; decide)).trans ((Device.writeAt_of_writes hw).trans ?_)
    show (if d0.rf (R.lwl_RREG_STATUS k) 0 1 = 1 then d0
      else if d0.lwState k ≠ 3 then d0.setN (R.lwl_RREG_STATUS k) (2 + 4 * 3)
      else ((d0.setN (R.lwl_RREG_STATUS k) 1).lwCtl k (vcSeg 3 3 0
        (d0.rn (R.lwl_RREG_ADDR k) / 4 * 4 + 2 ^ 32 * fld q.data 0 1 + 2 ^ 64 * d0.rn (R.lwl_RREG_DATA k)))).lwTouch k) = _
    rw [hstatus, hstate, haddr, hdata]
  refine ⟨fun hbusy => ?_, fun hidle hdown => ?_, fun hidle hup => ?_⟩
  · exact completes_dev rfl (hrun.trans (if_pos hbusy)) ⟨fun o ho => hreg o (by simpa using ho), rfl, rfl, rfl⟩
  · refine completes_dev rfl (hrun.trans ((if_neg (by rw [hidle]; decide)).trans (if_pos hdown)))
      ⟨(Device.reg_setReg _ _ _ _).trans (if_pos rfl), fun o ho => ?_, rfl, rfl, rfl⟩
    simp only [List.mem_cons, List.not_mem_nil, or_false, not_or] at ho
    exact (Device.reg_setReg _ _ _ _).trans ((if_neg ho.2).trans (hreg o ho.1))
  · let e := (d0.setN (R.lwl_RREG_STATUS k) 1).lwCtl k (vcSeg 3 3 0 v)
    obtain ⟨-, -, -, p, htlw⟩ := e.lwTouch_spec k
    rw [show e.lw k = _ from Device.lw_modLw _ k _] at htlw
    exact completes_dev rfl (hrun.trans ((if_neg (by rw [hidle]; decide)).trans (if_neg (not_not.2 hup))))
      ⟨(e.lwTouch_reg k _).trans ((Device.reg_setReg _ _ _ _).trans (if_pos rfl)), congrArg LwPort.ctl htlw, rfl, rfl⟩

theorem completes_rregResp {t e : Nat} {v : Word} (hresp : (s.dev.lw k).resp = some (e, v)) (hbusy : s.dev.rf (R.lwl_RREG_STATUS k) 0 1 = 1) :
    Completes (.rregResp k t) s fun u => u.dev.reg (R.lwl_RREG_STATUS k) = wd (2 + 4 * e) ∧ (u.dev.lw k).resp = none ∧
      u.dev.reg (R.lwl_RREG_DATA k) = (if s.dev.rf (R.lwl_RREG_CTRL k) 0 1 = 0 ∧ e = 0 then v else s.dev.reg (R.lwl_RREG_DATA k)) ∧
      KeepsRegs s u [R.lwl_RREG_STATUS k, R.lwl_RREG_DATA k] ∧ KeepsHarts s u := by
  let d2 := ((s.dev.at t).modLw k fun x => { x with resp := none }).setN (R.lwl_RREG_STATUS k) (2 + 4 * e)
  have hreg : ∀ o, d2.reg o = if o = R.lwl_RREG_STATUS k then wd (2 + 4 * e) else s.dev.reg o := fun o => Device.reg_setReg _ _ _ _
  have hctrl : d2.rf (R.lwl_RREG_CTRL k) 0 1 = s.dev.rf (R.lwl_RREG_CTRL k) 0 1 :=
    congrArg (fld · 0 1) ((hreg _).trans (if_neg (by unfold R.lwl_RREG_CTRL R.lwl_RREG_STATUS; omega)))
  have hrun : rregResp k t s.dev = if s.dev.rf (R.lwl_RREG_CTRL k) 0 1 = 0 ∧ e = 0 then d2.setReg (R.lwl_RREG_DATA k) v else d2 := by
    show (match ((s.dev.at t).lw k).resp with
      | some (code, v) =>
        let d1 := (s.dev.at t).modLw k fun x => { x with resp := none }
        if d1.rf (R.lwl_RREG_STATUS k) 0 1 = 1 then
          let d2 := d1.setN (R.lwl_RREG_STATUS k) (2 + 4 * code)
          if d2.rf (R.lwl_RREG_CTRL k) 0 1 = 0 ∧ code = 0 then d2.setReg (R.lwl_RREG_DATA k) v else d2
        else d1
      | none => s.dev.at t) = _
    rw [show ((s.dev.at t).lw k).resp = some (e, v) from hresp]
    refine (if_pos hbusy).trans ?_
    show (if d2.rf (R.lwl_RREG_CTRL k) 0 1 = 0 ∧ e = 0 then d2.setReg (R.lwl_RREG_DATA k) v else d2) = _
    rw [hctrl]
  have hcleared : (d2.lw k).resp = none := congrArg LwPort.resp (Device.lw_modLw (s.dev.at t) k fun x => { x with resp := none })
  have hne : R.lwl_RREG_DATA k ≠ R.lwl_RREG_STATUS k := by
    unfold R.lwl_RREG_DATA R.lwl_RREG_STATUS
    omega
  by_cases hread : s.dev.rf (R.lwl_RREG_CTRL k) 0 1 = 0 ∧ e = 0
  · have hset : ∀ o, (d2.setReg (R.lwl_RREG_DATA k) v).reg o = if o = R.lwl_RREG_DATA k then v else d2.reg o := fun o => Device.reg_setReg _ _ _ _
    refine completes_dev rfl (hrun.trans (if_pos hread)) ⟨(hset _).trans ((if_neg hne.symm).trans ((hreg _).trans (if_pos rfl))),
      hcleared, ((hset _).trans (if_pos rfl)).trans (if_pos hread).symm, fun o ho => ?_, rfl, rfl⟩
    simp only [List.mem_cons, List.not_mem_nil, or_false, not_or] at ho
    exact (hset o).trans ((if_neg ho.2).trans ((hreg o).trans (if_neg ho.1)))
  · refine completes_dev rfl (hrun.trans (if_neg hread)) ⟨(hreg _).trans (if_pos rfl), hcleared,
      ((hreg _).trans (if_neg hne)).trans (if_neg hread).symm, fun o ho => ?_, rfl, rfl⟩
    simp only [List.mem_cons, List.not_mem_nil, or_false, not_or] at ho
    exact (hreg o).trans (if_neg ho.1)

end

/-- Settles O51, clause by clause: what a port does with a flit (`Device.lwReceive_data` and its companions), what it sends
(`Device.lwClose_spec`), and its copies and register requests. It rests on log entries 108, 109, 113 and 114. -/
theorem flitsCarryFramesCopiesAndRequests : Obligations.FlitsCarryFramesCopiesAndRequests := by
  unfold Obligations.FlitsCarryFramesCopiesAndRequests
  refine ⟨?_, fun s k f o l t c hup hkind hgood hok => completes_lwRetryReq l hup hkind hgood hok, fun s k t c o b hup hopen hold => ?_,
    fun s k t c hup => completes_lwIdleFlit hup, fun s k c t n a hfind => completes_lwAckTimeout hfind,
    fun s k q hw hgo => completes_copyGo hw hgo, fun s k t x hcopy => completes_copyDone hcopy, fun s k q hw hgo => completes_rregGo hw hgo,
    fun s k t e v hresp hbusy => completes_rregResp hresp hbusy⟩
  · intro s k f o t c x d again
    refine ⟨fun hdown => completes_lwFlitReceived (if_pos hdown) (fun h => absurd h Bool.false_ne_true) ⟨rfl, rfl, rfl⟩,
      fun hup hbad hagain => completes_lwFlit_bad hup hbad hagain, fun hup hbad hwin hn => completes_lwFlit_limit hup hbad hwin hn,
      fun hup hgood hkind hseq hagain => completes_lwFlit_gap hup hgood hkind hseq hagain,
      fun hup hgood hkind => completes_lwFlit_idle hup hgood hkind,
      fun hup hgood hkind hseq hret hsegs => completes_lwFlit_empty hup hgood hkind hseq hret hsegs,
      fun g hup hgood hkind hseq hret hsegs hvalid hvc hchan hopen hfirst hlast _ =>
        completes_lwFlit_frame hup hgood hkind hseq hret hsegs hvalid hvc hchan hopen hfirst hlast⟩
  · exact completes_lwFlitClose hup hopen hold

end Sys2Proof.Machine
end

section
/-! PROOFS. Clip samples, stretch steps, sensors, throttle points and the trip (R459 to R467); O46. -/
namespace Sys2Proof.Machine

/-! ### Event bits that stand -/

/-- A raised event stays raised while others are. -/
theorem Device.evtBit_stands {d : Device} {o b : Nat} (ho : o ≠ R.hif_MSIX_DROPPED) (h : d.rf o b 1 = 1) (pg i : Nat) :
    (d.evtBit pg i).rf o b 1 = 1 := by
  rw [Device.rf, Device.evtBit_reg _ _ _ _ ho]
  split
  · rw [fld_or, show fld (d.reg o) b 1 = 1 from h]
    have := fld_lt (wd (2 ^ i)) b 1
    interval_cases fld (wd (2 ^ i)) b 1 <;> rfl
  · exact h

/-- A block error leaves the events of its page raised. -/
theorem Device.err_stands {d : Device} {pg b : Nat} (hflt : pg + 0x20 ∉ faultRegs) (h : d.rf (pg + 0x20) b 1 = 1) (code : Nat) (lo hi : Word) :
    (d.err pg code lo hi).rf (pg + 0x20) b 1 = 1 := by
  have hmsix : pg + 0x20 ≠ R.hif_MSIX_DROPPED := fun he => hflt (by simp [faultRegs, he])
  unfold Device.err
  extract_lets bp
  unfold Device.errAs
  extract_lets valid d1 d2
  have h1 : d1.reg (pg + 0x20) = d.reg (pg + 0x20) := by
    dsimp only [d1]
    split
    · rfl
    · refine (Device.reg_setReg _ _ _ _).trans ((if_neg (by omega)).trans ?_)
      refine (Device.reg_setReg _ _ _ _).trans ((if_neg (by omega)).trans ?_)
      exact (Device.reg_setReg _ _ _ _).trans (if_neg (by omega))
  have h2 : d2.rf (pg + 0x20) b 1 = 1 := by
    refine Device.evtBit_stands hmsix ?_ pg 2
    rw [Device.rf, Device.reg_count, if_neg (by omega), h1]
    exact h
  split
  · rw [Device.rf, Device.faultLog_reg _ _ _ _ _ _ _ hflt]
    exact h2
  · exact h2

/-! ### The stretch step (R460) -/

/-- What bringing debits and counts up to date leaves of a device. -/
theorem Device.settleAll_spares (d : Device) : d.settleAll.pow = d.pow ∧ d.settleAll.boot = d.boot ∧ d.settleAll.now = d.now ∧
    ∀ o, o % 0x1000 ≠ 0x24C → d.settleAll.reg o = d.reg o := by
  refine List.foldlRecOn _ _ (motive := fun e : Device => e.pow = d.pow ∧ e.boot = d.boot ∧ e.now = d.now ∧
    ∀ o, o % 0x1000 ≠ 0x24C → e.reg o = d.reg o) ⟨rfl, rfl, rfl, fun _ _ => rfl⟩ ?_
  rintro e ⟨hpow, hboot, hnow, hreg⟩ p -
  have hepow : (e.settle p).pow = e.pow := by
    obtain ⟨x, n, y, ⟨f, -, -, rfl⟩, h, -⟩ := e.settle_eq p
    rw [h]
    rfl
  exact ⟨hepow.trans hpow, (e.settle_sparesBoot p).boot.trans hboot, (e.settle_now p).trans hnow,
    fun o ho => (e.settle_reg p (by unfold R.sch_WINDOW_DEBIT; omega)).trans (hreg o ho)⟩

/-- The counts of stretched cycles. -/
def stretchCounts : List Nat := [R.pow_STRETCHED_LO, R.pow_STRETCHED_LO + 4, R.pow_STRETCH_SUM_LO, R.pow_STRETCH_SUM_LO + 4]

theorem Device.countStretch_spares (d : Device) : d.countStretch.pow = { d.pow with mark := d.now.cyc } ∧ d.countStretch.boot = d.boot ∧
    d.countStretch.now = d.now ∧ d.countStretch.pend = d.pend ∧ ∀ o, o ∉ stretchCounts → d.countStretch.reg o = d.reg o := by
  unfold Device.countStretch
  extract_lets n d1
  have h1 : d1.pow = d.pow ∧ d1.boot = d.boot ∧ d1.now = d.now ∧ d1.pend = d.pend ∧ ∀ o, o ∉ stretchCounts → d1.reg o = d.reg o := by
    dsimp only [d1]
    split
    · exact ⟨rfl, rfl, rfl, rfl, fun _ _ => rfl⟩
    · refine ⟨rfl, rfl, rfl, rfl, fun o ho => ?_⟩
      simp only [stretchCounts, List.mem_cons, List.not_mem_nil, or_false, not_or] at ho
      obtain ⟨h1, h2, h3, h4⟩ := ho
      exact (Device.reg_setN64 _ _ (by simp [h3, h4])).trans (d.reg_setN64 _ (by simp [h1, h2]))
  obtain ⟨hpow, hboot, hnow, hpend, hreg⟩ := h1
  exact ⟨congrArg (fun x : Pow => { x with mark := d.now.cyc }) hpow, hboot, hnow, hpend, hreg⟩

/-- The step is set, after the cycles so far have been debited and counted. -/
theorem Device.setS_spec (d : Device) (n : Nat) : (d.setS n).pow = { d.pow with mark := d.now.cyc, stepTick := d.now.tick } ∧
    (∀ o, o % 0x1000 ≠ 0x24C → o ∉ stretchCounts → (d.setS n).reg o =
      if o = R.pow_POW_STATUS then setFld (d.reg R.pow_POW_STATUS) 10 4 n else d.reg o) := by
  obtain ⟨hspow, -, hsnow, hsreg⟩ := d.settleAll_spares
  obtain ⟨hcpow, -, -, -, hcreg⟩ := d.settleAll.countStretch_spares
  refine ⟨?_, fun o ho hcount => ?_⟩
  · rw [hspow, hsnow] at hcpow
    exact congrArg (fun x : Pow => { x with stepTick := d.now.tick }) hcpow
  · have hreg : ∀ o, o % 0x1000 ≠ 0x24C → o ∉ stretchCounts → d.settleAll.countStretch.reg o = d.reg o := fun o ho hc => (hcreg o hc).trans (hsreg o ho)
    refine (Device.reg_setReg _ _ _ _).trans ?_
    rw [hreg o ho hcount, hreg R.pow_POW_STATUS (by decide) (by decide)]

theorem Device.setS_sNow (d : Device) {n : Nat} (hn : n < 16) : (d.setS n).sNow = n := by
  rw [Device.sNow, Device.rf, (d.setS_spec n).2 _ (by decide) (by decide), if_pos rfl, fld_setFld _ _ (by decide)]
  exact Nat.mod_eq_of_lt hn

/-! ### Clip samples (R459) -/

/-- The reading of group g is shown, and counted when it is above the group's limit. -/
def Device.sampleGroup (cur : Nat → Nat) (d : Device) (g : Nat) : Device :=
  if (d.setN (R.pow_GROUP_I g) (cur g)).clipLimit g < cur g then (d.setN (R.pow_GROUP_I g) (cur g)).count (R.pow_GROUP_OVER g) 1
  else d.setN (R.pow_GROUP_I g) (cur g)

theorem Device.sampleGroup_reg (cur : Nat → Nat) (d : Device) {g : Nat} (hg : g < 16) (o : Nat) : (d.sampleGroup cur g).reg o =
    if o = R.pow_GROUP_I g then wd (cur g) else if o = R.pow_GROUP_OVER g ∧ d.clipLimit g < cur g then satAdd (d.reg o) 1 else d.reg o := by
  have hset : ∀ o, (d.setN (R.pow_GROUP_I g) (cur g)).reg o = if o = R.pow_GROUP_I g then wd (cur g) else d.reg o := fun o => Device.reg_setReg _ _ _ _
  have hlimit : (d.setN (R.pow_GROUP_I g) (cur g)).clipLimit g = d.clipLimit g := by
    unfold Device.clipLimit Device.capSteps Device.rf
    rw [hset, hset, if_neg (by unfold R.pow_CLIP_LIMIT R.pow_GROUP_I; omega), if_neg (by unfold R.pow_POW_STATUS R.pow_GROUP_I; omega)]
  have hne : R.pow_GROUP_OVER g ≠ R.pow_GROUP_I g := by
    unfold R.pow_GROUP_OVER R.pow_GROUP_I
    omega
  unfold Device.sampleGroup
  rw [hlimit]
  split
  · next hover =>
    rw [Device.reg_count, hset]
    by_cases ho : o = R.pow_GROUP_OVER g
    · rw [if_pos ho, if_neg (by rw [ho]; exact hne), if_neg (by rw [ho]; exact hne), if_pos ⟨ho, hover⟩]
    · rw [if_neg ho, if_neg fun h : o = R.pow_GROUP_OVER g ∧ _ => ho h.1]
  · next hover => rw [hset, if_neg fun h : o = R.pow_GROUP_OVER g ∧ _ => hover h.2]

/-- The first n groups have been sampled. -/
theorem Device.sampleGroups_spec (cur : Nat → Nat) (d : Device) {n : Nat} (hn : n ≤ 16) : let e := (List.range n).foldl (Device.sampleGroup cur) d
    (∀ g < n, e.reg (R.pow_GROUP_I g) = wd (cur g) ∧
      e.reg (R.pow_GROUP_OVER g) = if d.clipLimit g < cur g then satAdd (d.reg (R.pow_GROUP_OVER g)) 1 else d.reg (R.pow_GROUP_OVER g)) ∧
    (∀ o, (∀ g < n, o ≠ R.pow_GROUP_I g ∧ o ≠ R.pow_GROUP_OVER g) → e.reg o = d.reg o) ∧ { e with regs := d.regs } = d := by
  induction n with
  | zero => exact ⟨fun g hg => absurd hg (Nat.not_lt_zero g), fun _ _ => rfl, rfl⟩
  | succ n ih =>
    obtain ⟨hgroups, hrest, hsame⟩ := ih (Nat.le_of_succ_le hn)
    rw [List.range_succ, List.foldl_append, List.foldl_cons, List.foldl_nil]
    generalize (List.range n).foldl (Device.sampleGroup cur) d = e at hgroups hrest hsame
    have hfar : ∀ o, (∀ g < n, o ≠ R.pow_GROUP_I g ∧ o ≠ R.pow_GROUP_OVER g) → e.reg o = d.reg o := hrest
    have hlimit : e.clipLimit n = d.clipLimit n := by
      unfold Device.clipLimit Device.capSteps Device.rf
      rw [hfar _ fun g hg => ⟨by unfold R.pow_CLIP_LIMIT R.pow_GROUP_I; omega, by unfold R.pow_CLIP_LIMIT R.pow_GROUP_OVER; omega⟩,
        hfar _ fun g hg => ⟨by unfold R.pow_POW_STATUS R.pow_GROUP_I; omega, by unfold R.pow_POW_STATUS R.pow_GROUP_OVER; omega⟩]
    have hreg := fun o => e.sampleGroup_reg cur (g := n) (Nat.lt_of_succ_le hn) o
    refine ⟨fun g hg => ?_, fun o ho => ?_, ?_⟩
    · rw [hreg, hreg, hlimit]
      rcases Nat.lt_succ_iff_lt_or_eq.1 hg with hg | rfl
      · obtain ⟨h1, h2⟩ := hgroups g hg
        rw [h1, h2, if_neg (by unfold R.pow_GROUP_I; omega), if_neg (by unfold R.pow_GROUP_I R.pow_GROUP_OVER; omega),
          if_neg (by unfold R.pow_GROUP_I R.pow_GROUP_OVER; omega), if_neg (by unfold R.pow_GROUP_OVER; omega)]
        exact ⟨rfl, rfl⟩
      · rw [if_pos rfl, if_neg (by unfold R.pow_GROUP_I R.pow_GROUP_OVER; omega),
          hfar _ fun i hi => ⟨by unfold R.pow_GROUP_I R.pow_GROUP_OVER; omega, by unfold R.pow_GROUP_OVER; omega⟩]
        exact ⟨rfl, if_congr (and_iff_right rfl) rfl rfl⟩
    · obtain ⟨h1, h2⟩ := ho n (Nat.lt_succ_self n)
      rw [hreg, if_neg h1, if_neg fun h => h2 h.1]
      exact hrest o fun g hg => ho g (Nat.lt_succ_of_lt hg)
    · unfold Device.sampleGroup
      split <;> exact hsame

/-- What follows a sample: a raise starts, or the limit that stops it is counted. -/
def Device.clipActs (d : Device) (high : Bool) : Device :=
  if high ∧ d.pow.raise.isNone ∧ (d.sNow = 0 ∨ d.pow.stepTick + 20 ≤ d.now.tick) then
    if d.sNow < d.sLimit then d.setPow { d.pow with raise := some (d.now.tick + 60) } else (d.count R.pow_CLIP_AT_LIMIT 1).evtBit 0xC000 17
  else d

theorem Device.clipActs_spec (d : Device) (high : Bool) :
    let ready := d.pow.raise = none ∧ (d.sNow = 0 ∨ d.pow.stepTick + 20 ≤ d.now.tick)
    (high = false ∨ ¬ready → (d.clipActs high).pow.raise = d.pow.raise ∧ (d.clipActs high).reg R.pow_CLIP_AT_LIMIT = d.reg R.pow_CLIP_AT_LIMIT) ∧
      (high = true → ready → (d.sNow < d.sLimit → (d.clipActs high).pow.raise = some (d.now.tick + 60)) ∧
        (d.sLimit ≤ d.sNow → (d.clipActs high).pow.raise = none ∧
          (d.clipActs high).reg R.pow_CLIP_AT_LIMIT = satAdd (d.reg R.pow_CLIP_AT_LIMIT) 1)) ∧
      ∀ o, o ∉ [R.pow_CLIP_AT_LIMIT, 0xC000 + 0x20, R.hif_MSIX_DROPPED] → (d.clipActs high).reg o = d.reg o := by
  intro ready
  have hcond : (high = true ∧ d.pow.raise.isNone = true ∧ (d.sNow = 0 ∨ d.pow.stepTick + 20 ≤ d.now.tick)) ↔ high = true ∧ ready :=
    and_congr_right fun _ => and_congr_left fun _ => Option.isNone_iff_eq_none
  have hcount : ∀ o, o ≠ 0xC000 + 0x20 → o ≠ R.hif_MSIX_DROPPED → ((d.count R.pow_CLIP_AT_LIMIT 1).evtBit 0xC000 17).reg o =
      if o = R.pow_CLIP_AT_LIMIT then satAdd (d.reg o) 1 else d.reg o := fun o h20 hm => by
    rw [Device.evtBit_reg _ _ _ _ hm, if_neg h20, Device.reg_count]
  unfold Device.clipActs
  refine ⟨fun hno => ?_, fun hhigh hready => ⟨fun hlt => ?_, fun hle => ?_⟩, fun o ho => ?_⟩
  · rw [if_neg fun h => hno.elim (fun hf => Bool.false_ne_true (hf.symm.trans h.1)) fun hr => hr (hcond.1 h).2]
    exact ⟨rfl, rfl⟩
  · rw [if_pos (hcond.2 ⟨hhigh, hready⟩), if_pos hlt]
    rfl
  · rw [if_pos (hcond.2 ⟨hhigh, hready⟩), if_neg (Nat.not_lt.2 hle)]
    refine ⟨?_, (hcount _ (by decide) (by decide)).trans (if_pos rfl)⟩
    exact (congrArg (fun p : Pow => p.raise) (congrArg Device.pow ((d.count R.pow_CLIP_AT_LIMIT 1).evtBit_speaks 0xC000 17) :)).trans hready.1
  · simp only [List.mem_cons, List.not_mem_nil, or_false, not_or] at ho
    obtain ⟨hat, h20, hm⟩ := ho
    split
    · split
      · rfl
      · exact (hcount o h20 hm).trans (if_neg hat)
    · rfl

theorem completes_clipSample {s : State} {l : List (BitVec 16)} {k : Nat} (hk : k % 20 = 0) (hnow : s.dev.now.tick ≤ k) (hcore : s.dev.boot.core = true)
    (hres : s.dev.boot.devReset = none) : Completes (.clipSample l k) s fun t =>
      let cur := fun g : Nat => (l.getD g 0).toNat
      let lim := fun g : Nat => s.dev.rf (R.pow_CLIP_LIMIT g) 0 16 * (16 - s.dev.rf R.pow_POW_STATUS 14 4) / 16
      let ready := s.dev.pow.raise = none ∧ (s.dev.sNow = 0 ∨ s.dev.pow.stepTick + 20 ≤ k)
      (∀ g < 16, t.dev.rn (R.pow_GROUP_I g) = cur g ∧
        t.dev.reg (R.pow_GROUP_OVER g) = if lim g < cur g then satAdd (s.dev.reg (R.pow_GROUP_OVER g)) 1 else s.dev.reg (R.pow_GROUP_OVER g)) ∧
      (((∀ g < 16, cur g ≤ lim g) ∨ ¬ready) → t.dev.pow.raise = s.dev.pow.raise ∧ t.dev.reg R.pow_CLIP_AT_LIMIT = s.dev.reg R.pow_CLIP_AT_LIMIT) ∧
      (∀ g < 16, lim g < cur g → ready → (s.dev.sNow < s.dev.sLimit → t.dev.pow.raise = some (k + 60)) ∧
        (s.dev.sLimit ≤ s.dev.sNow → t.dev.pow.raise = none ∧ t.dev.reg R.pow_CLIP_AT_LIMIT = satAdd (s.dev.reg R.pow_CLIP_AT_LIMIT) 1)) ∧
      KeepsRegs s t ([R.pow_CLIP_AT_LIMIT, 0xC000 + 0x20, R.hif_MSIX_DROPPED] ++ (List.range 16).map R.pow_GROUP_I ++ (List.range 16).map R.pow_GROUP_OVER) ∧
      KeepsHarts s t := by
  let cur := fun g : Nat => (l.getD g 0).toNat
  have htick : (s.dev.at k).now.tick = k := Nat.max_eq_right hnow
  obtain ⟨hgroups, hrest, hsame⟩ := (s.dev.at k).sampleGroups_spec cur (Nat.le_refl 16)
  let d1 := (List.range 16).foldl (Device.sampleGroup cur) (s.dev.at k)
  have hpow : d1.pow = s.dev.pow := (congrArg Device.pow hsame :)
  have htick1 : d1.now.tick = k := (congrArg (fun d : Device => d.now.tick) hsame :).trans htick
  have hfar : ∀ o, o < 0xD100 ∨ 0xD1C0 ≤ o ∨ (0xD100 ≤ o ∧ o < 0xD140) → d1.reg o = s.dev.reg o := fun o ho => hrest o fun g hg =>
    ⟨by unfold R.pow_GROUP_I; omega, by unfold R.pow_GROUP_OVER; omega⟩
  have hlimit : ∀ g < 16, d1.clipLimit g = s.dev.clipLimit g := fun g hg => by
    unfold Device.clipLimit Device.capSteps Device.rf
    rw [hfar _ (by unfold R.pow_CLIP_LIMIT; omega), hfar _ (by decide)]
  have hsnow : d1.sNow = s.dev.sNow := congrArg (fld · 10 4) (hfar R.pow_POW_STATUS (by decide))
  have hslimit : d1.sLimit = s.dev.sLimit := congrArg (fld · 0 4) (hfar R.pow_CLIP_CFG (by decide))
  let low := (List.range 16).all fun g => decide (16 * cur g ≤ 15 * d1.clipLimit g)
  let high := (List.range 16).any fun g => decide (d1.clipLimit g < cur g)
  let d2 := d1.setPow { d1.pow with relaxFrom := if low then some (d1.pow.relaxFrom.getD d1.now.tick) else none }
  have hrun : clipSample l k s.dev = d2.clipActs high := by
    refine if_neg ?_
    rintro (h | h | h)
    · exact h (by rw [htick]; exact hk)
    · rw [show (s.dev.at k).boot.core = true from hcore] at h
      exact Bool.false_ne_true h
    · rw [show (s.dev.at k).boot.devReset = none from hres] at h
      exact Bool.false_ne_true h
  obtain ⟨hquiet, hacts, hregs⟩ := d2.clipActs_spec high
  have hready : (d2.pow.raise = none ∧ (d2.sNow = 0 ∨ d2.pow.stepTick + 20 ≤ d2.now.tick)) ↔
      (s.dev.pow.raise = none ∧ (s.dev.sNow = 0 ∨ s.dev.pow.stepTick + 20 ≤ k)) := by
    rw [show d2.sNow = s.dev.sNow from hsnow, show d2.now.tick = k from htick1, show d2.pow.raise = d1.pow.raise from rfl,
      show d2.pow.stepTick = d1.pow.stepTick from rfl, hpow]
  have hgroup : ∀ g < 16, ∀ o, o = R.pow_GROUP_I g ∨ o = R.pow_GROUP_OVER g → (d2.clipActs high).reg o = d1.reg o := fun g hg o ho => by
    refine hregs o ?_
    simp only [List.mem_cons, List.not_mem_nil, or_false, not_or]
    rcases ho with rfl | rfl
    · unfold R.pow_GROUP_I R.pow_CLIP_AT_LIMIT R.hif_MSIX_DROPPED
      omega
    · unfold R.pow_GROUP_OVER R.pow_CLIP_AT_LIMIT R.hif_MSIX_DROPPED
      omega
  have hlow : (∀ g < 16, cur g ≤ s.dev.clipLimit g) → high = false := fun h => List.any_eq_false.2 fun g hg => by
    have hg' := List.mem_range.1 hg
    rw [decide_eq_true_eq, hlimit g hg']
    exact Nat.not_lt.2 (h g hg')
  have hat : d2.reg R.pow_CLIP_AT_LIMIT = s.dev.reg R.pow_CLIP_AT_LIMIT := hfar _ (by decide)
  have hraise : d2.pow.raise = s.dev.pow.raise := (congrArg (fun p : Pow => p.raise) hpow :)
  refine completes_dev rfl hrun ⟨fun g hg => ⟨?_, ?_⟩, fun hno => ?_, fun g hg hover hrdy => ⟨fun hlt => ?_, fun hle => ?_⟩, fun o ho => ?_, rfl, rfl⟩
  · refine (congrArg BitVec.toNat ((hgroup g hg _ (.inl rfl)).trans (hgroups g hg).1)).trans ?_
    rw [wd, BitVec.toNat_ofNat]
    exact Nat.mod_eq_of_lt ((l.getD g 0).isLt.trans (by decide))
  · exact (hgroup g hg _ (.inr rfl)).trans (hgroups g hg).2
  · obtain ⟨h1, h2⟩ := hquiet (hno.imp hlow fun h hr => h (hready.1 hr))
    exact ⟨h1.trans hraise, h2.trans hat⟩
  · have hhigh : high = true := List.any_eq_true.2 ⟨g, List.mem_range.2 hg, decide_eq_true (by rw [hlimit g hg]; exact hover)⟩
    refine ((hacts hhigh (hready.2 hrdy)).1 ?_).trans (congrArg (fun n => some (n + 60)) htick1)
    exact (hsnow.trans_lt hlt).trans_eq hslimit.symm
  · have hhigh : high = true := List.any_eq_true.2 ⟨g, List.mem_range.2 hg, decide_eq_true (by rw [hlimit g hg]; exact hover)⟩
    obtain ⟨h1, h2⟩ := (hacts hhigh (hready.2 hrdy)).2 (hslimit.trans_le (hle.trans_eq hsnow.symm))
    exact ⟨h1, h2.trans (congrArg (satAdd · 1) hat)⟩
  · simp only [List.mem_append, not_or] at ho
    obtain ⟨⟨hlist, hi⟩, hover⟩ := ho
    refine (hregs o hlist).trans (hrest o fun g hg => ⟨fun h => hi ?_, fun h => hover ?_⟩)
    · exact List.mem_map.2 ⟨g, List.mem_range.2 hg, h.symm⟩
    · exact List.mem_map.2 ⟨g, List.mem_range.2 hg, h.symm⟩

/-! ### Raises and falls (R460) -/

/-- The pending raise has taken effect. -/
def Device.stepUp (d : Device) : Device := (d.setS (d.sNow + 1)).setPow { (d.setS (d.sNow + 1)).pow with raise := none }

theorem Device.stepUp_spec {d : Device} (h : d.sNow < 15) : d.stepUp.sNow = d.sNow + 1 ∧ d.stepUp.pow.raise = none ∧ d.stepUp.pow.stepTick = d.now.tick ∧
    d.stepUp.reg R.pow_CLIP_EVENTS = d.reg R.pow_CLIP_EVENTS := by
  obtain ⟨hpow, hreg⟩ := d.setS_spec (d.sNow + 1)
  exact ⟨d.setS_sNow (Nat.succ_lt_succ h), rfl, (congrArg (fun p : Pow => p.stepTick) hpow :),
    (hreg _ (by decide) (by decide)).trans (if_neg (by decide))⟩

theorem stretchRaise_due {d : Device} {k cyc w : Nat} (h : d.pow.raise = some w) : stretchRaise k cyc d =
    if !((d.at k).atCyc cyc).arrayRuns ∨ ((d.at k).atCyc cyc).now.tick < w then (d.at k).atCyc cyc
    else if ((d.at k).atCyc cyc).sNow = 0 then (((d.at k).atCyc cyc).stepUp.count R.pow_CLIP_EVENTS 1).evtBit 0xC000 16
    else ((d.at k).atCyc cyc).stepUp := by
  unfold stretchRaise Device.stepUp
  extract_lets d0
  rw [show d0.pow.raise = some w from h]

theorem completes_stretchRaise {s : State} {k cyc wh : Nat} (hruns : s.dev.arrayRuns = true) (hraise : s.dev.pow.raise = some wh) :
    (wh ≤ (s.dev.at k).now.tick → s.dev.sNow < 15 → Completes (.stretchRaise k cyc) s fun t => t.dev.sNow = s.dev.sNow + 1 ∧ t.dev.pow.raise = none ∧
      t.dev.pow.stepTick = (s.dev.at k).now.tick ∧
      t.dev.reg R.pow_CLIP_EVENTS = (if s.dev.sNow = 0 then satAdd (s.dev.reg R.pow_CLIP_EVENTS) 1 else s.dev.reg R.pow_CLIP_EVENTS) ∧ KeepsHarts s t) ∧
    ((s.dev.at k).now.tick < wh → Completes (.stretchRaise k cyc) s fun t => t.dev = (s.dev.at k).atCyc cyc ∧ KeepsHarts s t) := by
  have hrun := stretchRaise_due (k := k) (cyc := cyc) hraise
  refine ⟨fun hdue hlt => ?_, fun hearly => completes_dev rfl (hrun.trans (if_pos (.inr hearly))) ⟨rfl, rfl, rfl⟩⟩
  have hgo : ¬((!((s.dev.at k).atCyc cyc).arrayRuns) = true ∨ ((s.dev.at k).atCyc cyc).now.tick < wh) := by
    rintro (h | h)
    · rw [show ((s.dev.at k).atCyc cyc).arrayRuns = true from hruns] at h
      exact Bool.false_ne_true h
    · exact absurd h (Nat.not_lt.2 hdue)
  obtain ⟨hsnow, hnone, hstep, hevents⟩ := Device.stepUp_spec (d := (s.dev.at k).atCyc cyc) hlt
  generalize ((s.dev.at k).atCyc cyc).stepUp = e at hrun hsnow hnone hstep hevents
  by_cases h0 : s.dev.sNow = 0
  · rw [if_pos h0]
    have hspeaks := (e.count R.pow_CLIP_EVENTS 1).evtBit_speaks 0xC000 16
    have hreg : ∀ o, o ≠ 0xC000 + 0x20 → o ≠ R.hif_MSIX_DROPPED → ((e.count R.pow_CLIP_EVENTS 1).evtBit 0xC000 16).reg o =
        if o = R.pow_CLIP_EVENTS then satAdd (e.reg o) 1 else e.reg o := fun o h20 hm => by
      rw [Device.evtBit_reg _ _ _ _ hm, if_neg h20, Device.reg_count]
    refine completes_dev rfl (hrun.trans ((if_neg hgo).trans (if_pos h0))) ⟨?_, ?_, ?_, ?_, rfl, rfl⟩
    · exact (congrArg (fld · 10 4) ((hreg R.pow_POW_STATUS (by decide) (by decide)).trans (if_neg (by decide)))).trans hsnow
    · exact (congrArg (fun p : Pow => p.raise) (congrArg Device.pow hspeaks :)).trans hnone
    · exact (congrArg (fun p : Pow => p.stepTick) (congrArg Device.pow hspeaks :)).trans hstep
    · exact (hreg _ (by decide) (by decide)).trans ((if_pos rfl).trans (congrArg (satAdd · 1) hevents))
  · rw [if_neg h0]
    exact completes_dev rfl (hrun.trans ((if_neg hgo).trans (if_neg h0))) ⟨hsnow, hnone, hstep, hevents, rfl, rfl⟩

theorem completes_stretchRelax {s : State} {k cyc : Nat} (hruns : s.dev.arrayRuns = true) :
    let due := (s.dev.sLimit < s.dev.sNow ∧ s.dev.pow.stepTick + s.dev.relaxNs ≤ (s.dev.at k).now.tick) ∨
      (s.dev.sNow ≤ s.dev.sLimit ∧ ∃ x, s.dev.pow.relaxFrom = some x ∧ max x s.dev.pow.stepTick + s.dev.relaxNs ≤ (s.dev.at k).now.tick)
    (due → s.dev.sFloor < s.dev.sNow → Completes (.stretchRelax k cyc) s fun t => t.dev.sNow = s.dev.sNow - 1 ∧ KeepsHarts s t) ∧
    (¬due ∨ s.dev.sNow ≤ s.dev.sFloor → Completes (.stretchRelax k cyc) s fun t => t.dev = (s.dev.at k).atCyc cyc ∧ KeepsHarts s t) := by
  intro due
  let d0 := (s.dev.at k).atCyc cyc
  have hdue : due ↔ ∃ w, s.dev.relaxDue = some w ∧ w ≤ d0.now.tick := by
    show ((s.dev.sLimit < s.dev.sNow ∧ _) ∨ _) ↔ _
    unfold Device.relaxDue
    by_cases h : s.dev.sLimit < s.dev.sNow
    · rw [if_pos h]
      exact ⟨fun hd => ⟨_, rfl, hd.elim (·.2) fun hle => absurd h (Nat.not_lt.2 hle.1)⟩, fun ⟨w, hw, hle⟩ => .inl ⟨h, by cases hw; exact hle⟩⟩
    · rw [if_neg h]
      constructor
      · rintro (hd | ⟨-, x, hx, hle⟩)
        · exact absurd hd.1 h
        · exact ⟨_, by rw [hx]; rfl, hle⟩
      · rintro ⟨w, hw, hle⟩
        obtain ⟨x, hx, rfl⟩ := Option.map_eq_some_iff.1 hw
        exact .inr ⟨Nat.not_lt.1 h, x, hx, hle⟩
  have hrun : stretchRelax k cyc s.dev = match s.dev.relaxDue with
      | none => d0
      | some w => if d0.arrayRuns && decide (w ≤ d0.now.tick) && decide (0 < s.dev.sNow) && decide (s.dev.sFloor < s.dev.sNow) then d0.setS (s.dev.sNow - 1)
        else d0 := rfl
  refine ⟨fun hd hfloor => ?_, fun hno => ?_⟩
  · obtain ⟨w, hw, hle⟩ := hdue.1 hd
    rw [hw] at hrun
    have hlt : s.dev.sNow - 1 < 16 := lt_of_le_of_lt (Nat.sub_le _ _) (fld_lt _ 10 4)
    refine completes_dev rfl (hrun.trans (if_pos ?_)) ⟨d0.setS_sNow hlt, rfl, rfl⟩
    simp only [Bool.and_eq_true, decide_eq_true_eq]
    exact ⟨⟨⟨hruns, hle⟩, lt_of_le_of_lt (Nat.zero_le _) hfloor⟩, hfloor⟩
  · cases hw : s.dev.relaxDue with
    | none =>
      rw [hw] at hrun
      exact completes_dev rfl hrun ⟨rfl, rfl, rfl⟩
    | some w =>
      rw [hw] at hrun
      refine completes_dev rfl (hrun.trans (if_neg ?_)) ⟨rfl, rfl, rfl⟩
      simp only [Bool.and_eq_true, decide_eq_true_eq]
      rintro ⟨⟨⟨-, hle⟩, -⟩, hfloor⟩
      exact hno.elim (fun h => h (hdue.2 ⟨w, hw, hle⟩)) fun h => absurd hfloor (Nat.not_lt.2 h)

/-! ### Sensors and TMAX (R464) -/

theorem fld_bit_zero {v : Word} {i : Nat} (h : fld v i 1 ≠ 1) : fld v i 1 = 0 := by
  have := fld_lt v i 1
  omega

theorem toBits_sext {n : Nat} (h : n < 2 ^ 16) : toBits 16 (sext 16 n) = n := by
  unfold toBits sext
  rw [Nat.mod_eq_of_lt h]
  split <;> omega

theorem Device.mem_sensors {d : Device} {x : Nat × Int} :
    x ∈ d.sensors ↔ x.1 < 64 ∧ d.rf (R.thm_SENSOR x.1) 16 1 = 0 ∧ x.2 = tempOf (d.reg (R.thm_SENSOR x.1)) := by
  obtain ⟨j, v⟩ := x
  unfold Device.sensors
  simp only [List.mem_filterMap, List.mem_range]
  constructor
  · rintro ⟨i, hi, he⟩
    split at he
    · exact absurd he (by simp)
    · next h =>
      obtain ⟨rfl, rfl⟩ := Prod.mk.inj (Option.some.inj he)
      exact ⟨hi, fld_bit_zero h, rfl⟩
  · rintro ⟨hj, hok, hv⟩
    exact ⟨j, hj, by rw [if_neg (by rw [hok]; decide), hv]⟩

theorem Device.sensors_ordered (d : Device) : d.sensors.Pairwise fun x y => x.1 < y.1 := by
  unfold Device.sensors
  refine List.Pairwise.filterMap _ (fun i j hij x hx y hy => ?_) List.pairwise_lt_range
  split at hx
  · exact absurd hx (by simp)
  · split at hy
    · exact absurd hy (by simp)
    · rw [← Option.some.inj hx, ← Option.some.inj hy]
      exact hij

/-- The fold of TMAX finds the largest, and of equals the first. -/
theorem firstMax_spec (r : List (Nat × Int)) (x : Nat × Int) (h : (x :: r).Pairwise fun a b => a.1 < b.1) :
    let m := r.foldl (fun (m : Nat × Int) y => if m.2 < y.2 then y else m) x
    m ∈ x :: r ∧ (∀ y ∈ x :: r, y.2 ≤ m.2) ∧ ∀ y ∈ x :: r, y.1 < m.1 → y.2 < m.2 := by
  induction r generalizing x with
  | nil => simp
  | cons y r ih =>
    obtain ⟨hx, hyr⟩ := List.pairwise_cons.1 h
    obtain ⟨hy, hr⟩ := List.pairwise_cons.1 hyr
    rw [List.foldl_cons]
    by_cases hlt : x.2 < y.2
    · rw [if_pos hlt]
      obtain ⟨hmem, hle, hfirst⟩ := ih y hyr
      have hxm := lt_of_lt_of_le hlt (hle y List.mem_cons_self)
      refine ⟨List.mem_cons_of_mem _ hmem, fun z hz => ?_, fun z hz hzm => ?_⟩
      · rcases List.mem_cons.1 hz with rfl | hz
        · exact hxm.le
        · exact hle z hz
      · rcases List.mem_cons.1 hz with rfl | hz
        · exact hxm
        · exact hfirst z hz hzm
    · rw [if_neg hlt]
      obtain ⟨hmem, hle, hfirst⟩ := ih x (List.pairwise_cons.2 ⟨fun z hz => hx z (List.mem_cons_of_mem _ hz), hr⟩)
      have hyx := not_lt.1 hlt
      have hxm := hle x List.mem_cons_self
      refine ⟨?_, fun z hz => ?_, fun z hz hzm => ?_⟩
      · rcases List.mem_cons.1 hmem with hm | hm
        · rw [hm]
          exact List.mem_cons_self
        · exact List.mem_cons_of_mem _ (List.mem_cons_of_mem _ hm)
      · rcases List.mem_cons.1 hz with rfl | hz
        · exact hxm
        · rcases List.mem_cons.1 hz with rfl | hz
          · exact hyx.trans hxm
          · exact hle z (List.mem_cons_of_mem _ hz)
      · rcases List.mem_cons.1 hz with rfl | hz
        · exact hfirst z List.mem_cons_self hzm
        · rcases List.mem_cons.1 hz with rfl | hz
          · have hxz := hx z List.mem_cons_self
            exact hyx.trans_lt (hfirst x List.mem_cons_self (hxz.trans hzm))
          · exact hfirst z (List.mem_cons_of_mem _ hz) hzm

/-! ### Throttle points (R465) -/

/-- Whether throttle point i is active at a temperature of m: with its hysteresis once it is. -/
def Device.throttled (d : Device) (m : Int) (i : Nat) : Prop :=
  d.rf (R.thm_THR i) 31 1 = 1 ∧
    tempOf (d.reg (R.thm_THR i)) - (if d.rf R.thm_THR_ACTIVE i 1 = 1 then (d.rf (R.thm_THR i) 16 8 : Int) else 0) ≤ m

/-- The registers that bringing the throttle points up to TMAX may change. -/
def throttleRegs : List Nat := R.thm_THR_ACTIVE :: (0xE000 + 0x20) :: R.hif_MSIX_DROPPED :: (List.range 4).map R.thm_THR_COUNT

theorem ne_of_notMem_throttleRegs {o : Nat} (h : o ∉ throttleRegs) : o ≠ R.thm_THR_ACTIVE ∧ o ≠ 0xE000 + 0x20 ∧ o ≠ R.hif_MSIX_DROPPED ∧
    ∀ i < 4, o ≠ R.thm_THR_COUNT i := by
  refine ⟨fun he => h (by rw [he]; decide), fun he => h (by rw [he]; decide), fun he => h (by rw [he]; decide), fun i hi he => h ?_⟩
  rw [he, throttleRegs]
  exact List.mem_cons_of_mem _ (List.mem_cons_of_mem _ (List.mem_cons_of_mem _ (List.mem_map.2 ⟨i, List.mem_range.2 hi, rfl⟩)))

/-- Throttle point i has become active. -/
def Device.throttleOn (d : Device) (i : Nat) : Device := ((d.setF R.thm_THR_ACTIVE i 1 1).count (R.thm_THR_COUNT i) 1).evtBit 0xE000 (16 + i)

theorem Device.throttleOn_spec (d : Device) {i : Nat} (hi : i < 4) :
    (d.throttleOn i).reg R.thm_THR_ACTIVE = setFld (d.reg R.thm_THR_ACTIVE) i 1 1 ∧ (∀ o, o ∉ throttleRegs → (d.throttleOn i).reg o = d.reg o) ∧
      (d.throttleOn i).pow = d.pow ∧ ∀ b, d.rf (0xE000 + 0x20) b 1 = 1 → (d.throttleOn i).rf (0xE000 + 0x20) b 1 = 1 := by
  have hset : ∀ o, (d.setF R.thm_THR_ACTIVE i 1 1).reg o = if o = R.thm_THR_ACTIVE then setFld (d.reg R.thm_THR_ACTIVE) i 1 1 else d.reg o :=
    fun o => Device.reg_setReg _ _ _ _
  refine ⟨?_, fun o ho => ?_, (congrArg Device.pow (Device.evtBit_speaks _ 0xE000 (16 + i)) :), fun b hb => ?_⟩
  · rw [Device.throttleOn, Device.evtBit_reg _ _ _ _ (by decide), if_neg (by decide), Device.reg_count,
      if_neg (by unfold R.thm_THR_ACTIVE R.thm_THR_COUNT; omega), hset, if_pos rfl]
  · obtain ⟨h1, h2, h3, h4⟩ := ne_of_notMem_throttleRegs ho
    rw [Device.throttleOn, Device.evtBit_reg _ _ _ _ h3, if_neg h2, Device.reg_count, if_neg (h4 i hi), hset, if_neg h1]
  · refine Device.evtBit_stands (by decide) ?_ _ _
    rw [Device.rf, Device.reg_count, if_neg (by unfold R.thm_THR_COUNT; omega), hset, if_neg (by decide)]
    exact hb

theorem Device.throttle_spec (d : Device) {i : Nat} (hi : i < 4) :
    ((d.throttle i).rf R.thm_THR_ACTIVE i 1 = 1 ↔ d.throttled (tempOf (d.reg R.thm_TMAX)) i) ∧
      (∀ j, j ≠ i → j < 32 → (d.throttle i).rf R.thm_THR_ACTIVE j 1 = d.rf R.thm_THR_ACTIVE j 1) ∧
      (∀ o, o ∉ throttleRegs → (d.throttle i).reg o = d.reg o) ∧ (d.throttle i).pow = d.pow ∧
      ∀ b, d.rf (0xE000 + 0x20) b 1 = 1 → (d.throttle i).rf (0xE000 + 0x20) b 1 = 1 := by
  obtain ⟨hactive, hrest, hpow, hraw⟩ := d.throttleOn_spec hi
  have hset : ∀ o, (d.setF R.thm_THR_ACTIVE i 1 0).reg o = if o = R.thm_THR_ACTIVE then setFld (d.reg R.thm_THR_ACTIVE) i 1 0 else d.reg o :=
    fun o => Device.reg_setReg _ _ _ _
  have hbeside : ∀ n j, j ≠ i → j < 32 → fld (setFld (d.reg R.thm_THR_ACTIVE) i 1 n) j 1 = fld (d.reg R.thm_THR_ACTIVE) j 1 := fun n j hj _ =>
    fld_setFld_beside _ _ (by omega) (by omega)
  have hon : ∀ was : Prop, [Decidable was] → (was ↔ d.rf R.thm_THR_ACTIVE i 1 = 1) → ((fld (d.reg (R.thm_THR i)) 31 1 = 1 ∧
      (if was then tempOf (d.reg (R.thm_THR i)) - fld (d.reg (R.thm_THR i)) 16 8 ≤ tempOf (d.reg R.thm_TMAX)
        else tempOf (d.reg (R.thm_THR i)) ≤ tempOf (d.reg R.thm_TMAX))) ↔ d.throttled (tempOf (d.reg R.thm_TMAX)) i) := fun was _ hwas => by
    unfold Device.throttled
    refine and_congr Iff.rfl ?_
    by_cases h : was
    · rw [if_pos h, if_pos (hwas.1 h)]
      rfl
    · rw [if_neg h, if_neg fun h' => h (hwas.2 h'), sub_zero]
  have hthr : d.throttle i = (let was := d.rf R.thm_THR_ACTIVE i 1 = 1
      let on := fld (d.reg (R.thm_THR i)) 31 1 = 1 ∧
        (if was then tempOf (d.reg (R.thm_THR i)) - fld (d.reg (R.thm_THR i)) 16 8 ≤ tempOf (d.reg R.thm_TMAX)
          else tempOf (d.reg (R.thm_THR i)) ≤ tempOf (d.reg R.thm_TMAX))
      if on ∧ !was then d.throttleOn i else if !on ∧ was then d.setF R.thm_THR_ACTIVE i 1 0 else d) := rfl
  rw [hthr]
  extract_lets was on
  have hon' : on ↔ d.throttled (tempOf (d.reg R.thm_TMAX)) i := hon was Iff.rfl
  split
  · next h =>
    obtain ⟨h1, -⟩ := h
    refine ⟨iff_of_true ?_ (hon'.1 h1), fun j hj hj' => ?_, hrest, hpow, hraw⟩
    · exact (congrArg (fld · i 1) hactive).trans ((fld_setFld _ _ (by omega)).trans rfl)
    · exact (congrArg (fld · j 1) hactive).trans (hbeside 1 j hj hj')
  · next h =>
    split
    · next h' =>
      obtain ⟨hoff, -⟩ := h'
      have hoff' : ¬on := by simpa using hoff
      have h0 := (hset R.thm_THR_ACTIVE).trans (if_pos rfl)
      refine ⟨iff_of_false ?_ fun h => hoff' (hon'.2 h), fun j hj hj' => (congrArg (fld · j 1) h0).trans (hbeside 0 j hj hj'), fun o ho => ?_, rfl, fun b hb => ?_⟩
      · rw [show (d.setF R.thm_THR_ACTIVE i 1 0).rf R.thm_THR_ACTIVE i 1 = 0 from
          (congrArg (fld · i 1) h0).trans ((fld_setFld _ _ (by omega)).trans rfl)]
        decide
      · exact (hset o).trans (if_neg (ne_of_notMem_throttleRegs ho).1)
      · exact (congrArg (fld · b 1) ((hset (0xE000 + 0x20)).trans (if_neg (by decide)))).trans hb
    · next h' =>
      refine ⟨Iff.trans ?_ hon', fun _ _ _ => rfl, fun _ _ => rfl, rfl, fun _ hb => hb⟩
      by_cases hw : was
      · exact iff_of_true hw (by by_contra hno; exact h' ⟨by simpa using hno, hw⟩)
      · exact iff_of_false hw fun hyes => h ⟨hyes, by simpa using hw⟩

theorem Device.throttled_congr {d e : Device} {i : Nat} (hthr : e.reg (R.thm_THR i) = d.reg (R.thm_THR i))
    (hact : e.rf R.thm_THR_ACTIVE i 1 = 1 ↔ d.rf R.thm_THR_ACTIVE i 1 = 1) (m : Int) : e.throttled m i ↔ d.throttled m i := by
  have h31 : e.rf (R.thm_THR i) 31 1 = d.rf (R.thm_THR i) 31 1 := congrArg (fld · 31 1) hthr
  have h16 : e.rf (R.thm_THR i) 16 8 = d.rf (R.thm_THR i) 16 8 := congrArg (fld · 16 8) hthr
  unfold Device.throttled
  rw [h31, h16, hthr, if_congr hact rfl rfl]

/-- The first n throttle points have been brought up to TMAX. -/
theorem Device.throttleAll_spec (d : Device) {n : Nat} (hn : n ≤ 4) : let e := (List.range n).foldl (fun d i => Device.throttle d i) d
    (∀ i < 4, (e.rf R.thm_THR_ACTIVE i 1 = 1 ↔ if i < n then d.throttled (tempOf (d.reg R.thm_TMAX)) i else d.rf R.thm_THR_ACTIVE i 1 = 1)) ∧
      (∀ o, o ∉ throttleRegs → e.reg o = d.reg o) ∧ e.pow = d.pow ∧ ∀ b, d.rf (0xE000 + 0x20) b 1 = 1 → e.rf (0xE000 + 0x20) b 1 = 1 := by
  induction n with
  | zero => exact ⟨fun i _ => Iff.rfl, fun _ _ => rfl, rfl, fun _ h => h⟩
  | succ n ih =>
    obtain ⟨hact, hreg, hpow, hraw⟩ := ih (Nat.le_of_succ_le hn)
    rw [List.range_succ, List.foldl_append, List.foldl_cons, List.foldl_nil]
    generalize (List.range n).foldl (fun d i => Device.throttle d i) d = e at hact hreg hpow hraw
    have hn4 : n < 4 := Nat.lt_of_succ_le hn
    obtain ⟨hact', hbeside, hreg', hpow', hraw'⟩ := e.throttle_spec hn4
    have hthr : R.thm_THR n ∉ throttleRegs := by
      interval_cases n <;> decide
    have hsame : e.throttled (tempOf (e.reg R.thm_TMAX)) n ↔ d.throttled (tempOf (d.reg R.thm_TMAX)) n := by
      rw [show e.reg R.thm_TMAX = d.reg R.thm_TMAX from hreg _ (by decide)]
      exact Device.throttled_congr (hreg _ hthr) ((hact n hn4).trans (by rw [if_neg (Nat.lt_irrefl n)])) _
    refine ⟨fun i hi => ?_, fun o ho => (hreg' o ho).trans (hreg o ho), hpow'.trans hpow, fun b hb => hraw' b (hraw b hb)⟩
    by_cases he : i = n
    · subst he
      rw [if_pos (Nat.lt_succ_self i)]
      exact hact'.trans hsame
    · show (e.throttle n).rf R.thm_THR_ACTIVE i 1 = 1 ↔ _
      rw [hbeside i he (by omega), hact i hi]
      exact iff_of_eq (if_congr (by omega) rfl rfl)

/-- A register that bringing TMAX and the throttle points up to date leaves alone. -/
def OffHeat (o : Nat) : Prop := o ∉ throttleRegs ∧ o ∉ stretchCounts ∧ o % 0x1000 ≠ 0x24C ∧ o ≠ R.pow_POW_STATUS ∧ o ≠ R.thm_TMAX

theorem Device.throttles_spec (d : Device) : (∀ i < 4, (d.throttles.rf R.thm_THR_ACTIVE i 1 = 1 ↔ d.throttled (tempOf (d.reg R.thm_TMAX)) i)) ∧
    (∀ o, OffHeat o ∨ o = R.thm_TMAX → d.throttles.reg o = d.reg o) ∧ d.throttles.pow.seen = d.pow.seen ∧
    ∀ b, d.rf (0xE000 + 0x20) b 1 = 1 → d.throttles.rf (0xE000 + 0x20) b 1 = 1 := by
  obtain ⟨hact, hreg, hpow, hraw⟩ := d.throttleAll_spec (Nat.le_refl 4)
  unfold Device.throttles
  extract_lets e
  have hoff : ∀ o, OffHeat o ∨ o = R.thm_TMAX → o ∉ throttleRegs ∧ o % 0x1000 ≠ 0x24C ∧ o ∉ stretchCounts ∧ o ≠ R.pow_POW_STATUS := by
    rintro o (⟨h1, h2, h3, h4, -⟩ | rfl)
    · exact ⟨h1, h3, h2, h4⟩
    · decide
  have hact' : ∀ i < 4, (e.rf R.thm_THR_ACTIVE i 1 = 1 ↔ d.throttled (tempOf (d.reg R.thm_TMAX)) i) := fun i hi => by
    rw [show e.rf R.thm_THR_ACTIVE i 1 = 1 ↔ _ from hact i hi, if_pos hi]
  have hreg' : ∀ o, o ∉ throttleRegs → e.reg o = d.reg o := hreg
  have hpow' : e.pow = d.pow := hpow
  have hraw' : ∀ b, d.rf (0xE000 + 0x20) b 1 = 1 → e.rf (0xE000 + 0x20) b 1 = 1 := hraw
  clear_value e
  split
  · obtain ⟨hspow, hsreg⟩ := e.setS_spec e.sFloor
    have hkeep : ∀ o, o % 0x1000 ≠ 0x24C → o ∉ stretchCounts → o ≠ R.pow_POW_STATUS → (e.setS e.sFloor).reg o = e.reg o :=
      fun o h1 h2 h3 => (hsreg o h1 h2).trans (if_neg h3)
    have hseen : (e.setS e.sFloor).pow.seen = d.pow.seen := by
      rw [hspow]
      exact (congrArg Pow.seen hpow' :)
    refine ⟨fun i hi => ?_, fun o ho => ?_, hseen, fun b hb => ?_⟩
    · rw [Device.rf, hkeep _ (by decide) (by decide) (by decide)]
      exact hact' i hi
    · obtain ⟨h1, h2, h3, h4⟩ := hoff o ho
      exact (hkeep o h2 h3 h4).trans (hreg' o h1)
    · rw [Device.rf, hkeep _ (by decide) (by decide) (by decide)]
      exact hraw' b hb
  · exact ⟨hact', fun o ho => hreg' o (hoff o ho).1, congrArg Pow.seen hpow', hraw'⟩

/-- TMAX and the throttle points change nothing else of the thermal page. -/
theorem Device.updateTmax_keeps (d : Device) : (∀ o, OffHeat o → d.updateTmax.reg o = d.reg o) ∧ d.updateTmax.pow.seen = d.pow.seen ∧
    ∀ b, d.rf (0xE000 + 0x20) b 1 = 1 → d.updateTmax.rf (0xE000 + 0x20) b 1 = 1 := by
  unfold Device.updateTmax
  split
  · exact ⟨fun _ _ => rfl, rfl, fun _ h => h⟩
  · extract_lets m
    obtain ⟨-, hreg, hseen, hraw⟩ := (d.setN R.thm_TMAX (toBits 16 m.2 + 65536 * m.1)).throttles_spec
    refine ⟨fun o ho => (hreg o (.inl ho)).trans ((Device.reg_setReg _ _ _ _).trans (if_neg ho.2.2.2.2)), hseen, fun b hb => hraw b ?_⟩
    exact (congrArg (fld · b 1) ((Device.reg_setReg _ _ _ _).trans (if_neg (by decide)))).trans hb

theorem offHeat_sensor {j : Nat} (hj : j < 64) : OffHeat (R.thm_SENSOR j) := by
  have h : throttleRegs = [0xE230, 0xE020, R.hif_MSIX_DROPPED, 0xE214, 0xE21C, 0xE224, 0xE22C] := by decide
  unfold OffHeat
  rw [h]
  simp only [stretchCounts, List.mem_cons, List.not_mem_nil, or_false, not_or]
  unfold R.thm_SENSOR R.hif_MSIX_DROPPED R.pow_STRETCHED_LO R.pow_STRETCH_SUM_LO R.pow_POW_STATUS R.thm_TMAX
  omega

/-- With a sensor that is not FAILED, TMAX is the largest reading and names the lowest sensor that has it; every throttle point follows. -/
theorem Device.updateTmax_spec {d : Device} {n : Nat} (hn : n < 64) (hok : d.rf (R.thm_SENSOR n) 16 1 = 0) : let e := d.updateTmax
    let m := tempOf (e.reg R.thm_TMAX)
    let ok := fun j => d.rf (R.thm_SENSOR j) 16 1 = 0
    (∀ j < 64, ok j → tempOf (d.reg (R.thm_SENSOR j)) ≤ m) ∧
      (∃ j < 64, ok j ∧ tempOf (d.reg (R.thm_SENSOR j)) = m ∧ e.rf R.thm_TMAX 16 16 = j ∧ ∀ x < j, ok x → tempOf (d.reg (R.thm_SENSOR x)) < m) ∧
      ∀ p < 4, e.rf R.thm_THR_ACTIVE p 1 = 1 ↔ d.throttled m p := by
  have hmem : ∀ j, j < 64 → d.rf (R.thm_SENSOR j) 16 1 = 0 → (j, tempOf (d.reg (R.thm_SENSOR j))) ∈ d.sensors := fun j hj h =>
    Device.mem_sensors.2 ⟨hj, h, rfl⟩
  have hordered := d.sensors_ordered
  have hsound : ∀ x ∈ d.sensors, x.1 < 64 ∧ d.rf (R.thm_SENSOR x.1) 16 1 = 0 ∧ x.2 = tempOf (d.reg (R.thm_SENSOR x.1)) :=
    fun x hx => Device.mem_sensors.1 hx
  unfold Device.updateTmax
  cases hs : d.sensors with
  | nil =>
    have h := hmem n hn hok
    rw [hs] at h
    exact absurd h List.not_mem_nil
  | cons x r =>
    rw [hs] at hmem hordered hsound
    obtain ⟨hin, hle, hfirst⟩ := firstMax_spec r x hordered
    dsimp only
    generalize r.foldl (fun (m : Nat × Int) y => if m.2 < y.2 then y else m) x = y at hin hle hfirst
    obtain ⟨hy, hyok, hyt⟩ := hsound y hin
    let f := fld (d.reg (R.thm_SENSOR y.1)) 0 16
    have hf : f < 2 ^ 16 := fld_lt _ 0 16
    have hbits : toBits 16 y.2 = f := by
      rw [hyt]
      exact toBits_sext hf
    obtain ⟨hact, hreg, -, -⟩ := (d.setN R.thm_TMAX (toBits 16 y.2 + 65536 * y.1)).throttles_spec
    rw [hbits] at hact hreg ⊢
    have hset : ∀ o, (d.setN R.thm_TMAX (f + 65536 * y.1)).reg o = if o = R.thm_TMAX then wd (f + 65536 * y.1) else d.reg o :=
      fun o => Device.reg_setReg _ _ _ _
    have htmax : (d.setN R.thm_TMAX (f + 65536 * y.1)).throttles.reg R.thm_TMAX = wd (f + 65536 * y.1) := (hreg _ (.inr rfl)).trans ((hset _).trans (if_pos rfl))
    have htemp : tempOf (wd (f + 65536 * y.1)) = y.2 := by
      rw [hyt, tempOf, fld_wd (by decide), show (f + 65536 * y.1) / 2 ^ 0 % 2 ^ 16 = f by omega]
      rfl
    have hm : tempOf ((d.setN R.thm_TMAX (f + 65536 * y.1)).throttles.reg R.thm_TMAX) = y.2 := (congrArg tempOf htmax).trans htemp
    rw [hm]
    refine ⟨fun j hj h => hle _ (hmem j hj h), ⟨y.1, hy, hyok, hyt.symm, ?_, fun i hi h => hfirst _ (hmem i (hi.trans hy) h) hi⟩, fun p hp => ?_⟩
    · rw [Device.rf, htmax, fld_wd (by decide)]
      omega
    · refine (hact p hp).trans ?_
      rw [hset, if_pos rfl, htemp]
      refine Device.throttled_congr ((hset _).trans (if_neg ?_)) ?_ _
      · unfold R.thm_THR R.thm_TMAX
        omega
      · exact iff_of_eq (congrArg (fun w => fld w p 1 = 1) ((hset _).trans (if_neg (by decide))))

/-! ### Sensors that update, fail, and trip the device (R464, R466, R467) -/

theorem completes_sensorUpdate {s : State} {n : Fin 64} {temp : BitVec 16} {k : Nat} (hok : s.dev.rf (R.thm_SENSOR n) 16 1 = 0) :
    Completes (.sensorUpdate n temp k) s fun t =>
      let m := tempOf (t.dev.reg R.thm_TMAX)
      let ok := fun j => t.dev.rf (R.thm_SENSOR j) 16 1 = 0
      t.dev.rf (R.thm_SENSOR n) 0 16 = temp.toNat ∧ ok n ∧ Store.get zeroN t.dev.pow.seen n = (s.dev.at k).now.tick ∧
      (∀ j < 64, j ≠ n.val → t.dev.reg (R.thm_SENSOR j) = s.dev.reg (R.thm_SENSOR j)) ∧ (∀ j < 64, ok j → tempOf (t.dev.reg (R.thm_SENSOR j)) ≤ m) ∧
      (∃ j < 64, ok j ∧ tempOf (t.dev.reg (R.thm_SENSOR j)) = m ∧ t.dev.rf R.thm_TMAX 16 16 = j ∧
        ∀ x < j, ok x → tempOf (t.dev.reg (R.thm_SENSOR x)) < m) ∧
      (∀ p < 4, t.dev.rf R.thm_THR_ACTIVE p 1 = 1 ↔ s.dev.rf (R.thm_THR p) 31 1 = 1 ∧
        tempOf (s.dev.reg (R.thm_THR p)) - (if s.dev.rf R.thm_THR_ACTIVE p 1 = 1 then (s.dev.rf (R.thm_THR p) 16 8 : Int) else 0) ≤ m) ∧ KeepsHarts s t := by
  let d := ((s.dev.at k).setPow { s.dev.pow with seen := Store.set zeroN s.dev.pow.seen n (s.dev.at k).now.tick }).setF (R.thm_SENSOR n) 0 16 temp.toNat
  have hreg : ∀ o, d.reg o = if o = R.thm_SENSOR n then setFld (s.dev.reg (R.thm_SENSOR n)) 0 16 temp.toNat else s.dev.reg o := fun o => Device.reg_setReg _ _ _ _
  have hdok : d.rf (R.thm_SENSOR n) 16 1 = 0 :=
    (congrArg (fld · 16 1) ((hreg _).trans (if_pos rfl))).trans ((fld_setFld_beside _ _ (by decide) (by decide)).trans hok)
  obtain ⟨hle, ⟨j, hj, hjok, hjt, hjn, hfirst⟩, hthr⟩ := Device.updateTmax_spec n.isLt hdok
  obtain ⟨hkeep, hseen, -⟩ := d.updateTmax_keeps
  have hsensor : ∀ j < 64, d.updateTmax.reg (R.thm_SENSOR j) = d.reg (R.thm_SENSOR j) := fun j hj => hkeep _ (offHeat_sensor hj)
  have hok' : ∀ j < 64, d.updateTmax.rf (R.thm_SENSOR j) 16 1 = d.rf (R.thm_SENSOR j) 16 1 := fun j hj => congrArg (fld · 16 1) (hsensor j hj)
  have hseen' : Store.get zeroN d.updateTmax.pow.seen n = (s.dev.at k).now.tick := by
    rw [hseen]
    exact (Store.get_set ..).trans (if_pos rfl)
  have hthr' : ∀ m, ∀ p < 4, (d.throttled m p ↔ s.dev.throttled m p) := fun m p hp =>
    Device.throttled_congr ((hreg _).trans (if_neg (by unfold R.thm_THR R.thm_SENSOR; omega)))
      (iff_of_eq (congrArg (fun w => fld w p 1 = 1) ((hreg _).trans (if_neg (by unfold R.thm_THR_ACTIVE R.thm_SENSOR; omega))))) m
  refine completes_dev (d := d.updateTmax) rfl rfl ⟨?_, (hok' n n.isLt).trans hdok, hseen', fun j hj hjn => ?_, fun j hj h => ?_,
    ⟨j, hj, (hok' j hj).trans hjok, (congrArg tempOf (hsensor j hj)).trans hjt, hjn, fun x hx h => ?_⟩,
    fun p hp => (hthr p hp).trans (hthr' _ p hp), rfl, rfl⟩
  · exact (congrArg (fld · 0 16) ((hsensor n n.isLt).trans ((hreg _).trans (if_pos rfl)))).trans
      ((fld_setFld _ _ (by decide)).trans (Nat.mod_eq_of_lt temp.isLt))
  · refine (hsensor j hj).trans ((hreg _).trans (if_neg ?_))
    unfold R.thm_SENSOR
    omega
  · exact (congrArg tempOf (hsensor j hj)).trans_le (hle j hj ((hok' j hj).symm.trans h))
  · have hx64 := hx.trans hj
    exact (congrArg tempOf (hsensor x hx64)).trans_lt (hfirst x hx ((hok' x hx64).symm.trans h))

theorem completes_sensorFail {s : State} {n : Fin 64} {b : Bool} {k : Nat} (hok : s.dev.rf (R.thm_SENSOR n) 16 1 = 0)
    (hfew : s.dev.rf R.thm_FAILED_COUNT 0 7 < 127) :
    (b = true ∨ Store.get zeroN s.dev.pow.seen n + 1100000 ≤ (s.dev.at k).now.tick → Completes (.sensorFail n b k) s fun t =>
      t.dev.rf (R.thm_SENSOR n) 16 1 = 1 ∧ t.dev.rf R.thm_FAILED_COUNT 0 7 = s.dev.rf R.thm_FAILED_COUNT 0 7 + 1 ∧
      t.dev.rf (0xE000 + 0x20) 20 1 = 1 ∧ t.dev.reg (0xE000 + 0x34) = satAdd (s.dev.reg (0xE000 + 0x34)) 1 ∧ KeepsHarts s t) ∧
    (b = false → (s.dev.at k).now.tick < Store.get zeroN s.dev.pow.seen n + 1100000 → Completes (.sensorFail n b k) s fun t =>
      t.dev = s.dev.at k ∧ KeepsHarts s t) := by
  have hok' : ¬(s.dev.at k).rf (R.thm_SENSOR n) 16 1 = 1 := fun h => by
    have h0 : (s.dev.at k).rf (R.thm_SENSOR n) 16 1 = 0 := hok
    omega
  refine ⟨fun hdue => ?_, fun hb hlt => ?_⟩
  · have hne : R.thm_SENSOR n ≠ R.thm_FAILED_COUNT := by
      unfold R.thm_SENSOR R.thm_FAILED_COUNT
      omega
    let d1 := ((s.dev.at k).setF (R.thm_SENSOR n) 16 1 1).setF R.thm_FAILED_COUNT 0 7 (s.dev.rf R.thm_FAILED_COUNT 0 7 + 1)
    have hreg : ∀ o, o ≠ R.thm_SENSOR n → o ≠ R.thm_FAILED_COUNT → d1.reg o = s.dev.reg o := fun o h1 h2 =>
      (Device.reg_setReg _ _ _ _).trans ((if_neg h2).trans ((Device.reg_setReg _ _ _ _).trans (if_neg h1)))
    have hsensor : d1.rf (R.thm_SENSOR n) 16 1 = 1 := by
      refine (congrArg (fld · 16 1) ((Device.reg_setReg _ _ _ _).trans ((if_neg hne).trans ((Device.reg_setReg _ _ _ _).trans (if_pos rfl))))).trans ?_
      exact (fld_setFld _ _ (by decide)).trans rfl
    have hcount : d1.rf R.thm_FAILED_COUNT 0 7 = s.dev.rf R.thm_FAILED_COUNT 0 7 + 1 := by
      refine (congrArg (fld · 0 7) ((Device.reg_setReg _ _ _ _).trans (if_pos rfl))).trans ((fld_setFld _ _ (by decide)).trans ?_)
      exact Nat.mod_eq_of_lt (Nat.succ_lt_succ hfew)
    have herrs : d1.reg (0xE000 + 0x34) = s.dev.reg (0xE000 + 0x34) := hreg _ (by unfold R.thm_SENSOR; omega) (by decide)
    let d2 := (d1.evtBit 0xE000 20).err 0xE000 0x0100 (wd n.val) 0
    have hpast : ∀ o, OfNoReport o → d2.reg o = d1.reg o := fun o ho => by
      have hmsix := ho.ne_msix
      refine (Device.err_reg_noReport _ rfl _ _ _ ho).trans ((Device.evtBit_reg _ _ _ _ hmsix).trans (if_neg ?_))
      obtain ⟨hlo, -, -⟩ := ho
      omega
    have hnoreport : OfNoReport (R.thm_SENSOR n) := by
      refine ⟨by unfold R.thm_SENSOR; omega, by unfold R.thm_SENSOR; omega, ?_⟩
      simp only [faultRegs, List.mem_cons, List.not_mem_nil, or_false, R.thm_SENSOR, R.flt_LOG_HEAD, R.flt_LOG_OVERRUN, R.flt_LADDER_STATE,
        R.hif_MSIX_DROPPED]
      omega
    have hnofailed : OfNoReport R.thm_FAILED_COUNT := by
      unfold OfNoReport
      decide
    have hraised : d2.rf (0xE000 + 0x20) 20 1 = 1 := Device.err_stands (by decide) (d1.evtBit_shows (by decide) (by decide)) _ _ _
    have herr : d2.reg (0xE000 + 0x34) = satAdd (s.dev.reg (0xE000 + 0x34)) 1 := by
      refine (Device.err_count _ _ _ _ _ (by decide)).trans (congrArg (satAdd · 1) ?_)
      exact (Device.evtBit_reg _ _ _ _ (by decide)).trans ((if_neg (by decide)).trans herrs)
    have hdsensor : d2.rf (R.thm_SENSOR n) 16 1 = 1 := (congrArg (fld · 16 1) (hpast _ hnoreport)).trans hsensor
    have hdcount : d2.rf R.thm_FAILED_COUNT 0 7 = s.dev.rf R.thm_FAILED_COUNT 0 7 + 1 := (congrArg (fld · 0 7) (hpast _ hnofailed)).trans hcount
    have hrun : sensorFail n b k s.dev = d2.updateTmax := by
      refine if_neg ?_
      rintro (h | h)
      · exact hok' h
      · simp only [Bool.and_eq_true, Bool.not_eq_true', decide_eq_true_eq] at h
        rcases hdue with rfl | hle
        · exact Bool.false_ne_true h.1.symm
        · exact absurd h.2 (Nat.not_lt.2 hle)
    obtain ⟨hkeep, -, hraw⟩ := d2.updateTmax_keeps
    clear_value d2
    exact completes_dev rfl hrun ⟨(congrArg (fld · 16 1) (hkeep _ (offHeat_sensor n.isLt))).trans hdsensor,
      (congrArg (fld · 0 7) (hkeep R.thm_FAILED_COUNT (by unfold OffHeat; decide))).trans hdcount, hraw 20 hraised,
      (hkeep (0xE000 + 0x34) (by unfold OffHeat; decide)).trans herr, rfl, rfl⟩
  · refine completes_dev rfl (if_pos (.inr ?_)) ⟨rfl, rfl, rfl⟩
    rw [hb, Bool.not_false, Bool.true_and]
    exact decide_eq_true hlt

/-- A trip that sensor n reports. -/
def Device.tripBy (d : Device) (n : Fin 64) : Device :=
  ((((d.countStretch.setN R.thm_TRIP_STATUS (3 + 65536 * n.val)).setF R.thm_TRIP_TEMP 0 16 (d.rf (R.thm_SENSOR n) 0 16)).err 0xE000 0x0101 (wd n.val)
    (wd (d.rf (R.thm_SENSOR n) 0 16))).evtBit 0xE000 21).presenceSync

theorem Device.tripBy_spec (d : Device) (n : Fin 64) : (d.tripBy n).reg R.thm_TRIP_STATUS = wd (3 + 65536 * n.val) ∧
    (d.tripBy n).rf R.thm_TRIP_TEMP 0 16 = d.rf (R.thm_SENSOR n) 0 16 ∧ (d.tripBy n).reg (0xE000 + 0x34) = satAdd (d.reg (0xE000 + 0x34)) 1 ∧
    (d.tripBy n).rf (0xE000 + 0x20) 21 1 = 1 ∧ (d.tripBy n).pend = d.pend := by
  obtain ⟨-, -, -, hpend, hcreg⟩ := d.countStretch_spares
  let d1 := (d.countStretch.setN R.thm_TRIP_STATUS (3 + 65536 * n.val)).setF R.thm_TRIP_TEMP 0 16 (d.rf (R.thm_SENSOR n) 0 16)
  let d2 := (d1.err 0xE000 0x0101 (wd n.val) (wd (d.rf (R.thm_SENSOR n) 0 16))).evtBit 0xE000 21
  have hstatus : d1.reg R.thm_TRIP_STATUS = wd (3 + 65536 * n.val) :=
    (Device.reg_setReg _ _ _ _).trans ((if_neg (by decide)).trans ((Device.reg_setReg _ _ _ _).trans (if_pos rfl)))
  have htemp : d1.rf R.thm_TRIP_TEMP 0 16 = d.rf (R.thm_SENSOR n) 0 16 :=
    (congrArg (fld · 0 16) ((Device.reg_setReg _ _ _ _).trans (if_pos rfl))).trans
      ((fld_setFld _ _ (by decide)).trans (Nat.mod_eq_of_lt (fld_lt _ 0 16)))
  have herrs : d1.reg (0xE000 + 0x34) = d.reg (0xE000 + 0x34) := (Device.reg_setReg _ _ _ _).trans
    ((if_neg (by decide)).trans ((Device.reg_setReg _ _ _ _).trans ((if_neg (by decide)).trans (hcreg _ (by decide)))))
  have hpast : ∀ o, OfNoReport o → d2.reg o = d1.reg o := fun o ho => Device.err_evtBit_reg d1 rfl _ _ _ _ ho
  have herr : d2.reg (0xE000 + 0x34) = satAdd (d.reg (0xE000 + 0x34)) 1 :=
    (Device.evtBit_reg _ _ _ _ (by decide)).trans ((if_neg (by decide)).trans ((d1.err_count _ _ _ _ (by decide)).trans (congrArg (satAdd · 1) herrs)))
  have hraised : d2.rf (0xE000 + 0x20) 21 1 = 1 := Device.evtBit_shows _ (by decide) (by decide)
  have hsync : ∀ o, o ∉ [R.iob_PRESENCE_STATUS, 0x2000000 + 0x20, R.hif_MSIX_DROPPED] → (d.tripBy n).reg o = d2.reg o := fun o ho => d2.presenceSync_reg ho
  have hp2 : d2.pend = d.pend := ((Device.err_evtBit_speaks d1 0xE000 0x0101 21 (wd n.val) (wd (d.rf (R.thm_SENSOR n) 0 16))).pend_eq).trans hpend
  refine ⟨(hsync _ (by decide)).trans ((hpast _ (by unfold OfNoReport; decide)).trans hstatus),
    (congrArg (fld · 0 16) ((hsync _ (by decide)).trans (hpast _ (by unfold OfNoReport; decide)))).trans htemp, (hsync _ (by decide)).trans herr,
    (congrArg (fld · 21 1) (hsync _ (by decide))).trans hraised, (d2.presenceSync_speaks.pend_eq).trans hp2⟩

theorem completes_thermalTrip {s : State} {n : Fin 64} {k : Nat} (htrip : s.dev.tripped = false) (hpend : s.dev.pendOf 0xC000 = none)
    (hok : s.dev.rf (R.thm_SENSOR n) 16 1 = 0) :
    (115 * 16 ≤ tempOf (s.dev.reg (R.thm_SENSOR n)) → Completes (.thermalTrip (some n) k) s fun t =>
      t.dev.reg R.thm_TRIP_STATUS = wd (3 + 65536 * n.val) ∧ t.dev.rf R.thm_TRIP_TEMP 0 16 = s.dev.rf (R.thm_SENSOR n) 0 16 ∧
      t.dev.reg (0xE000 + 0x34) = satAdd (s.dev.reg (0xE000 + 0x34)) 1 ∧ t.dev.rf (0xE000 + 0x20) 21 1 = 1 ∧ t.dev.arrayRuns = false ∧ KeepsHarts s t) ∧
    (tempOf (s.dev.reg (R.thm_SENSOR n)) < 115 * 16 → Completes (.thermalTrip (some n) k) s fun t => t.dev = s.dev.at k ∧ KeepsHarts s t) := by
  let d0 := s.dev.at k
  have hrun : thermalTrip (some n) k s.dev = if d0.tripped || !(d0.rf (R.thm_SENSOR n) 16 1 == 0 && decide (1840 ≤ tempOf (d0.reg (R.thm_SENSOR n)))) then d0
      else match (d0.tripBy n).pendOf 0xC000 with
        | some p =>
          if p.valid then ((((d0.tripBy n).applySet p).powCommitted).setF R.pow_POW_STATUS 0 10
            ((((d0.tripBy n).applySet p).powCommitted).rf R.pow_STAGE_CLK 0 10)).commitDone 0xC000 else d0.tripBy n
        | none => d0.tripBy n := rfl
  refine ⟨fun hhot => ?_, fun hcool => ?_⟩
  · obtain ⟨hstatus, htemp, herr, hraised, hp⟩ := d0.tripBy_spec n
    have hgo : ¬(d0.tripped || !(d0.rf (R.thm_SENSOR n) 16 1 == 0 && decide (1840 ≤ tempOf (d0.reg (R.thm_SENSOR n))))) = true := by
      rw [show d0.tripped = false from htrip, show d0.rf (R.thm_SENSOR n) 16 1 = 0 from hok,
        decide_eq_true (show (1840 : Int) ≤ tempOf (d0.reg (R.thm_SENSOR n)) from hhot)]
      decide
    have hnone : (d0.tripBy n).pendOf 0xC000 = none := by
      rw [Device.pendOf, hp]
      exact hpend
    rw [if_neg hgo, hnone] at hrun
    have hruns : (d0.tripBy n).arrayRuns = false := by
      have ht : (d0.tripBy n).tripped = true := by
        unfold Device.tripped Device.rf
        rw [hstatus, fld_wd (by decide)]
        exact decide_eq_true (by omega)
      unfold Device.arrayRuns
      rw [ht]
      simp
    generalize d0.tripBy n = e at hrun hstatus htemp herr hraised hruns
    exact completes_dev rfl hrun ⟨hstatus, htemp, herr, hraised, hruns, rfl, rfl⟩
  · refine completes_dev rfl (hrun.trans (if_pos ?_)) ⟨rfl, rfl, rfl⟩
    rw [decide_eq_false (show ¬(1840 : Int) ≤ tempOf (d0.reg (R.thm_SENSOR n)) from not_le.2 hcool), Bool.and_false, Bool.not_false, Bool.or_true]

theorem completes_tripCooled {s : State} {k : Nat} (hcooling : s.dev.pow.cooling = true) :
    let cool := (∀ j < 64, s.dev.rf (R.thm_SENSOR j) 16 1 = 1 ∨ tempOf (s.dev.reg (R.thm_SENSOR j)) < 105 * 16) ∧ s.dev.rf R.thm_FAILED_COUNT 0 7 ≤ 4
    (cool → Completes (.tripCooled k) s fun t => t.dev.tripped = false ∧ t.dev.rf R.thm_TRIP_STATUS 1 1 = 0 ∧ t.dev.pow.cooling = false ∧ KeepsHarts s t) ∧
    (¬cool → Completes (.tripCooled k) s fun t => t.dev = s.dev.at k ∧ KeepsHarts s t) := by
  intro cool
  let d0 := s.dev.at k
  have hcool : (d0.pow.cooling && d0.sensors.all (fun x => decide (x.2 < 1680)) && decide (d0.rf R.thm_FAILED_COUNT 0 7 ≤ 4)) = true ↔ cool := by
    rw [show d0.pow.cooling = true from hcooling, Bool.true_and, Bool.and_eq_true, decide_eq_true_eq, List.all_eq_true]
    refine and_congr ⟨fun h j hj => ?_, fun h x hx => ?_⟩ Iff.rfl
    · by_cases hf : s.dev.rf (R.thm_SENSOR j) 16 1 = 1
      · exact .inl hf
      · exact .inr (of_decide_eq_true (h (j, tempOf (d0.reg (R.thm_SENSOR j))) (Device.mem_sensors.2 ⟨hj, fld_bit_zero hf, rfl⟩)))
    · obtain ⟨hj, hok, hv⟩ := Device.mem_sensors.1 hx
      rw [decide_eq_true_eq, hv]
      refine (h x.1 hj).elim (fun hf => ?_) id
      rw [show d0.rf (R.thm_SENSOR x.1) 16 1 = 1 from hf] at hok
      exact absurd hok (by decide)
  refine ⟨fun hc => ?_, fun hc => completes_dev rfl (if_neg fun h => hc (hcool.1 h)) ⟨rfl, rfl, rfl⟩⟩
  let d1 := ((d0.setF R.thm_TRIP_STATUS 0 1 0).setF R.thm_TRIP_STATUS 1 1 0).setPow { d0.pow with cooling := false }
  have hstatus : d1.reg R.thm_TRIP_STATUS = setFld (setFld (s.dev.reg R.thm_TRIP_STATUS) 0 1 0) 1 1 0 := by
    refine (Device.reg_setReg _ _ _ _).trans ((if_pos rfl).trans (congrArg (setFld · 1 1 0) ?_))
    exact (Device.reg_setReg _ _ _ _).trans (if_pos rfl)
  have hsync : d1.presenceSync.reg R.thm_TRIP_STATUS = d1.reg R.thm_TRIP_STATUS := d1.presenceSync_reg (by decide)
  have hclear : d1.presenceSync.rf R.thm_TRIP_STATUS 0 1 = 0 := (congrArg (fld · 0 1) (hsync.trans hstatus)).trans
    ((fld_setFld_beside _ _ (by decide) (by decide)).trans ((fld_setFld _ _ (by decide)).trans rfl))
  have hpow : d1.presenceSync.pow.cooling = false := (congrArg (fun p : Pow => p.cooling) (congrArg Device.pow d1.presenceSync_speaks :) :)
  refine completes_dev rfl (if_pos (hcool.2 hc)) ⟨?_, ?_, hpow, rfl, rfl⟩
  · exact decide_eq_false fun h => absurd (hclear.symm.trans h) (by decide)
  · exact (congrArg (fld · 1 1) (hsync.trans hstatus)).trans ((fld_setFld _ _ (by decide)).trans rfl)

/-- Settles O46: the sixteen samples (`Device.sampleGroups_spec`), the step (`Device.setS_spec`), TMAX with its throttle points
(`Device.updateTmax_spec`), and the trip. The lowest of equal sensors is log entry 83. -/
theorem clipAndHeatAreBounded : Obligations.ClipAndHeatAreBounded := by
  unfold Obligations.ClipAndHeatAreBounded
  exact ⟨fun s l k hk hnow hcore hres _ => completes_clipSample hk hnow hcore hres, fun s k cyc wh hruns hraise => completes_stretchRaise hruns hraise,
    fun s k cyc hruns => completes_stretchRelax hruns, fun s n temp k hok => completes_sensorUpdate hok,
    fun s n b k hok hfew => completes_sensorFail hok hfew, fun s n k htrip hpend hok => completes_thermalTrip htrip hpend hok,
    fun s k hcooling => completes_tripCooled hcooling⟩

end Sys2Proof.Machine
end

section
/-! PROOFS. Fabric clocks, Lath ports, block RAMs and frame readback (R475 to R498); O47. -/
namespace Sys2Proof.Machine

theorem Device.Speaks.lath_eq {d e : Device} (h : d.Speaks e) : e.lath = d.lath := (congrArg Device.lath h :)
theorem Device.Speaks.board_eq {d e : Device} (h : d.Speaks e) : e.board = d.board := (congrArg Device.board h :)

/-! ### Reports of the pages past 0x2000000 -/

/-- An event and the error that goes with it: both stand, and no register past a page's header moves. -/
theorem Device.boardReport_spec (d : Device) {pg bit : Nat} (hpage : pg % 0x1000 = 0) (hboard : 0x2000000 ≤ pg) (hbit : bit < 32) (code : Nat)
    (lo hi : Word) : let e := (d.evtBit pg bit).err pg code lo hi
    d.Speaks e ∧ e.rf (pg + 0x20) bit 1 = 1 ∧ e.reg (pg + 0x34) = satAdd (d.reg (pg + 0x34)) 1 ∧ ∀ o, OfBoard o → e.reg o = d.reg o := by
  have hmsix : ∀ n, pg + n ≠ R.hif_MSIX_DROPPED := fun n => by
    unfold R.hif_MSIX_DROPPED
    omega
  refine ⟨(d.evtBit_speaks _ _).trans (Device.err_speaks _ _ _ _ _),
    Device.err_stands (notMem_faultRegs_above (by omega)) (d.evtBit_shows (hmsix _) hbit) _ _ _, ?_, fun o ho => ?_⟩
  · rw [Device.err_count _ _ _ _ _ (notMem_faultRegs_above (by omega)), Device.evtBit_reg _ _ _ _ (hmsix _), if_neg (by omega)]
  · obtain ⟨hlo, hpast⟩ := ho
    rw [Device.err_reg_board _ hpage _ _ _ ⟨hlo, hpast⟩, Device.evtBit_reg _ _ _ _ (by unfold R.hif_MSIX_DROPPED; omega), if_neg (by omega)]

/-- A field of one register is set: what its parts read afterwards. -/
theorem Device.rf_setF (d : Device) (o : Nat) {lo w : Nat} (x : Nat) (h : lo + w ≤ 32) : (d.setF o lo w x).rf o lo w = x % 2 ^ w := by
  rw [Device.rf, Device.setF_eq, Device.reg_setReg, if_pos rfl, fld_setFld _ _ h]

theorem Device.reg_setF_beside (d : Device) {o o' : Nat} (lo w x : Nat) (h : o' ≠ o) : (d.setF o lo w x).reg o' = d.reg o' :=
  (Device.reg_setReg _ _ _ _).trans (if_neg h)

/-! ### PLLs and clocks (R480 to R485) -/

theorem completes_fpllLock {s : State} {n : Fin 8} (k : Nat) (h : s.dev.rf (R.clk_PLL_CFG n) 31 1 = 1) : Completes (.fpllLock n k) s fun t =>
    t.dev.rf R.clk_PLL_LOCKED n 1 = 1 ∧ KeepsRegs s t [R.clk_PLL_LOCKED] ∧ RegsOnly s t :=
  completes_dev (f := fpllLock n k) rfl (if_pos h) ⟨Device.rf_setF _ _ _ (by omega),
    fun _ ho => Device.reg_setF_beside _ _ _ _ (List.ne_of_not_mem_cons ho), rfl, rfl, rfl⟩

theorem completes_pllUnlock {s : State} {n : Fin 8} (k : Nat) (h : s.dev.rf R.clk_PLL_LOCKED n 1 = 1) : Completes (.pllUnlock n k) s fun t =>
    t.dev.rf R.clk_PLL_LOCKED n 1 = 0 ∧ t.dev.reg (R.clk_PLL_UNLOCKS n) = satAdd (s.dev.reg (R.clk_PLL_UNLOCKS n)) 1 ∧
      t.dev.rf (0x200C000 + 0x20) 16 1 = 1 ∧ t.dev.reg (0x200C000 + 0x34) = satAdd (s.dev.reg (0x200C000 + 0x34)) 1 ∧ KeepsHarts s t := by
  let d1 := ((s.dev.at k).setF R.clk_PLL_LOCKED n 1 0).count (R.clk_PLL_UNLOCKS n) 1
  have hreg : ∀ o, d1.reg o = if o = R.clk_PLL_UNLOCKS n then satAdd (((s.dev.at k).setF R.clk_PLL_LOCKED n 1 0).reg o) 1 else
      ((s.dev.at k).setF R.clk_PLL_LOCKED n 1 0).reg o := Device.reg_count _ _
  have hn := n.isLt
  have hlocked : d1.rf R.clk_PLL_LOCKED n 1 = 0 := by
    rw [Device.rf, hreg, if_neg (by unfold R.clk_PLL_LOCKED R.clk_PLL_UNLOCKS; omega)]
    exact (Device.rf_setF _ _ _ (by omega)).trans rfl
  have hcount : d1.reg (R.clk_PLL_UNLOCKS n) = satAdd (s.dev.reg (R.clk_PLL_UNLOCKS n)) 1 := by
    rw [hreg, if_pos rfl, Device.reg_setF_beside _ _ _ _ (by unfold R.clk_PLL_LOCKED R.clk_PLL_UNLOCKS; omega)]
    rfl
  have herr : d1.reg (0x200C000 + 0x34) = s.dev.reg (0x200C000 + 0x34) := by
    rw [hreg, if_neg (by unfold R.clk_PLL_UNLOCKS; omega), Device.reg_setF_beside _ _ _ _ (by decide)]
    rfl
  obtain ⟨-, hevt, herrs, hpast⟩ := d1.boardReport_spec (pg := 0x200C000) (bit := 16) (by decide) (by decide) (by decide) 0x0100 (wd n.val) 0
  refine completes_dev (f := pllUnlock n k) rfl (if_pos h) ⟨?_, ?_, hevt, herrs.trans (by rw [herr]), rfl, rfl⟩
  · exact (congrArg (fld · n 1) (hpast R.clk_PLL_LOCKED (by unfold OfBoard; decide))).trans hlocked
  · exact (hpast _ (by unfold OfBoard R.clk_PLL_UNLOCKS; omega)).trans hcount

theorem completes_clockSwitchDone {s : State} {g : Fin 32} (k : Nat) (h : s.dev.rf R.clk_SWITCHING g 1 = 1) :
    Completes (.clockSwitchDone g k) s fun t => t.dev.rf R.clk_SWITCHING g 1 = 0 ∧ g.val ∉ t.dev.lath.stuck ∧ KeepsRegs s t [R.clk_SWITCHING] ∧
      KeepsHarts s t := by
  refine completes_dev (f := clockSwitchDone g k) rfl (if_pos h) ⟨(Device.rf_setF (s.dev.at k) R.clk_SWITCHING 0 (by omega)).trans rfl, ?_,
    fun o ho => Device.reg_setF_beside (s.dev.at k) _ _ _ (List.ne_of_not_mem_cons ho), rfl, rfl⟩
  exact fun hm => absurd (List.of_mem_filter hm) (by simp)

theorem completes_stuckSwitch {s : State} {g : Fin 32} (k : Nat) (h : s.dev.rf R.clk_SWITCHING g 1 = 1) (hnew : g.val ∉ s.dev.lath.stuck) :
    Completes (.stuckSwitch g k) s fun t => t.dev.rf R.clk_SWITCHING g 1 = 1 ∧ g.val ∈ t.dev.lath.stuck ∧
      t.dev.reg R.clk_STUCK_SWITCHES = satAdd (s.dev.reg R.clk_STUCK_SWITCHES) 1 ∧ t.dev.rf (0x200C000 + 0x20) 18 1 = 1 ∧ KeepsHarts s t := by
  let d1 := ((s.dev.at k).setLath { s.dev.lath with stuck := g.val :: s.dev.lath.stuck }).count R.clk_STUCK_SWITCHES 1
  have hreg : ∀ o, d1.reg o = if o = R.clk_STUCK_SWITCHES then satAdd (s.dev.reg o) 1 else s.dev.reg o := Device.reg_count _ _
  obtain ⟨hsp, hevt, -, hpast⟩ := d1.boardReport_spec (pg := 0x200C000) (bit := 18) (by decide) (by decide) (by decide) 0x0102 (wd g.val) 0
  refine completes_dev (f := stuckSwitch g k) rfl (if_pos ⟨h, by simpa using hnew⟩) ⟨?_, ?_, ?_, hevt, rfl, rfl⟩
  · exact (congrArg (fld · g 1) ((hpast R.clk_SWITCHING (by unfold OfBoard; decide)).trans ((hreg _).trans (if_neg (by decide))))).trans h
  · exact hsp.lath_eq ▸ List.mem_cons_self
  · exact (hpast R.clk_STUCK_SWITCHES (by unfold OfBoard; decide)).trans ((hreg _).trans (if_pos rfl))

theorem completes_gclkFreqWindow {s : State} {g : Fin 32} (f : Nat) {k : Nat} (hen : s.dev.rf (R.clk_GCLK_CFG g) 31 1 = 1)
    (hnew : Store.get zeroN s.dev.lath.counted g ≠ (s.dev.at k).window + 1) : Completes (.gclkFreqWindow g f k) s fun t =>
      t.dev.rn (R.clk_GCLK_FREQ g) = min (2 ^ 32 - 1) f ∧ Store.get zeroN t.dev.lath.counted g = (s.dev.at k).window + 1 ∧ KeepsHarts s t ∧
        (f ≤ 606000 → KeepsRegs s t [R.clk_GCLK_FREQ g]) ∧ (606000 < f → s.dev.rf R.clk_GCLK_STOPPED g 1 = 0 → t.dev.rf R.clk_GCLK_STOPPED g 1 = 1 ∧
          t.dev.reg R.clk_OVERFREQS = satAdd (s.dev.reg R.clk_OVERFREQS) 1) := by
  have hg := g.isLt
  let d1 := ((s.dev.at k).setLath { s.dev.lath with counted := Store.set zeroN s.dev.lath.counted g ((s.dev.at k).window + 1) }).setN
    (R.clk_GCLK_FREQ g) (min wordMax f)
  have hbeside : ∀ o, o ≠ R.clk_GCLK_FREQ g → d1.reg o = s.dev.reg o := fun o ho => (Device.reg_setReg _ _ _ _).trans (if_neg ho)
  have hfreq : d1.rn (R.clk_GCLK_FREQ g) = min (2 ^ 32 - 1) f := Device.rn_setN _ _ (by unfold wordMax; omega)
  have hcounted : Store.get zeroN d1.lath.counted g = (s.dev.at k).window + 1 := by
    change Store.get zeroN (Store.set zeroN s.dev.lath.counted g ((s.dev.at k).window + 1)) g = _
    rw [Store.get_set, if_pos rfl]
  have hstopped : d1.rf R.clk_GCLK_STOPPED g 1 = s.dev.rf R.clk_GCLK_STOPPED g 1 := congrArg (fld · g 1)
    (hbeside _ (by unfold R.clk_GCLK_STOPPED R.clk_GCLK_FREQ; omega))
  have hrun : gclkFreqWindow g f k s.dev = if 606000 < f ∧ d1.rf R.clk_GCLK_STOPPED g 1 = 0 then
      (((d1.setF R.clk_GCLK_STOPPED g 1 1).count R.clk_OVERFREQS 1).evtBit 0x200C000 17).err 0x200C000 0x0101 (wd g.val) (wd (min wordMax f))
      else d1 := if_neg (by
    rintro (h | h)
    · exact absurd (hen.symm.trans h) (by decide)
    · exact hnew h)
  by_cases hover : 606000 < f ∧ d1.rf R.clk_GCLK_STOPPED g 1 = 0
  · let d2 := (d1.setF R.clk_GCLK_STOPPED g 1 1).count R.clk_OVERFREQS 1
    have hd2 : ∀ o, d2.reg o = if o = R.clk_OVERFREQS then satAdd ((d1.setF R.clk_GCLK_STOPPED g 1 1).reg o) 1 else
        (d1.setF R.clk_GCLK_STOPPED g 1 1).reg o := Device.reg_count _ _
    obtain ⟨hsp, -, -, hpast⟩ := d2.boardReport_spec (pg := 0x200C000) (bit := 17) (by decide) (by decide) (by decide) 0x0101 (wd g.val)
      (wd (min wordMax f))
    refine completes_dev (f := gclkFreqWindow g f k) rfl (hrun.trans (if_pos hover)) ⟨?_, ?_, ⟨rfl, rfl⟩, fun hle => absurd hover.1 (Nat.not_lt.2 hle),
      fun _ _ => ⟨?_, ?_⟩⟩
    · refine (congrArg BitVec.toNat ((hpast _ (by unfold OfBoard R.clk_GCLK_FREQ; omega)).trans ((hd2 _).trans (if_neg ?_)))).trans ?_
      · unfold R.clk_GCLK_FREQ R.clk_OVERFREQS
        omega
      · rw [Device.reg_setF_beside _ _ _ _ (by unfold R.clk_GCLK_FREQ R.clk_GCLK_STOPPED; omega)]
        exact hfreq
    · exact hsp.lath_eq ▸ hcounted
    · refine (congrArg (fld · g 1) ((hpast R.clk_GCLK_STOPPED (by unfold OfBoard; decide)).trans ((hd2 _).trans (if_neg (by decide))))).trans ?_
      exact Device.rf_setF _ _ _ (by omega)
    · refine (hpast R.clk_OVERFREQS (by unfold OfBoard; decide)).trans ((hd2 _).trans ((if_pos rfl).trans ?_))
      rw [Device.reg_setF_beside _ _ _ _ (by decide), hbeside _ (by unfold R.clk_OVERFREQS R.clk_GCLK_FREQ; omega)]
  · exact completes_dev (f := gclkFreqWindow g f k) rfl (hrun.trans (if_neg hover)) ⟨hfreq, hcounted, ⟨rfl, rfl⟩,
      fun _ o ho => hbeside o (List.ne_of_not_mem_cons ho), fun hlt hz => absurd ⟨hlt, hstopped.trans hz⟩ hover⟩

/-! ### What an access leaves of the counts (R26, R30, R56) -/

/-- A register that no logged access writes: past its page's header, and none of those that name or count an access. -/
def OffAccessLog (o : Nat) : Prop := OfNoReport o ∧ 0x1000 ≤ o ∧ o ≠ R.hif_UR_RECEIVED ∧ ∀ c < 7, o ≠ R.prt_DENY_COUNT c

theorem errPage_aligned (off : Nat) : errPage off % 0x1000 = 0 := by
  unfold errPage
  split
  · rfl
  · unfold pageOf
    omega

theorem Device.errAccess_offLog (d : Device) (code : Nat) (p : Port) (off : Nat) (write : Bool) {o : Nat} (ho : OffAccessLog o) :
    (d.errAccess code p off write).reg o = d.reg o := Device.err_reg_noReport d (errPage_aligned off) _ _ _ ho.1

theorem Device.pgdRecord_offLog (d : Device) {base : Nat} (hb : base + 0xC < 0x1000) (src : Nat) (addr : Word) (bit : Nat) {o : Nat}
    (ho : OffAccessLog o) : (d.pgdRecord base src addr bit).reg o = d.reg o := by
  obtain ⟨hno, hpage, -, -⟩ := ho
  unfold Device.pgdRecord
  extract_lets d1 d2
  have h1 : d1.reg o = d.reg o := (d.reg_count _ _).trans (if_neg (by omega))
  have h2 : d2.reg o = d.reg o := by
    dsimp only [d2]
    split
    · exact h1
    · refine (Device.reg_setReg _ _ _ _).trans ((if_neg (by omega)).trans ?_)
      exact (Device.reg_setReg _ _ _ _).trans ((if_neg (by omega)).trans h1)
  rw [Device.evtBit_reg _ _ _ _ hno.ne_msix, if_neg (by omega), Device.reg_setReg, if_neg (by omega), h2]

theorem Device.logLost_offLog (d : Device) (p : Port) (a off : Nat) (write : Bool) {o : Nat} (ho : OffAccessLog o) :
    (d.logLost p a off write).reg o = d.reg o := by
  unfold Device.logLost
  split
  · exact d.pgdRecord_offLog (by decide) _ _ _ ho
  · exact d.pgdRecord_offLog (by decide) _ _ _ ho

theorem Device.logDenied_offLog (d : Device) (p : Port) (raw off : Nat) (write : Bool) {o : Nat} (ho : OffAccessLog o) :
    (d.logDenied p raw off write).reg o = d.reg o := by
  unfold Device.logDenied
  extract_lets d1 d2
  have h1 : d1.reg o = d.reg o := by
    dsimp only [d1]
    split
    · rfl
    · exact d.errAccess_offLog _ _ _ _ ho
  have h2 : d2.reg o = d.reg o := (d1.pgdRecord_offLog (by decide) _ _ _ ho).trans h1
  split
  · next hp =>
    obtain ⟨-, -, -, hcount⟩ := ho
    exact (d2.reg_count _ _).trans ((if_neg (hcount _ hp)).trans h2)
  · exact h2

/-- An access that its page performs by `k`, or that is logged, leaves what `k` leaves. -/
theorem Device.access_offLog (d : Device) (p : Port) (a : Nat) (be : BitVec 4) (len : Nat) (write : Bool) {k : Nat → Device → Device} {o : Nat}
    (ho : OffAccessLog o) (hk : ∀ off, (k off d).reg o = d.reg o) : (d.access p a be len write k).reg o = d.reg o := by
  have hur : d.unsupported.reg o = d.reg o := (d.reg_count _ _).trans (if_neg ho.2.2.1)
  unfold Device.access
  split
  · rfl
  split
  · exact hur
  split
  · exact d.pgdRecord_offLog (by decide) _ _ _ ho
  extract_lets off
  split
  · exact d.logDenied_offLog _ _ _ _ ho
  split
  · exact d.logLost_offLog _ _ _ _ ho
  split
  · exact hur
  split
  · exact (d.unsupported.errAccess_offLog _ _ _ _ ho).trans hur
  split
  · exact d.errAccess_offLog _ _ _ _ ho
  · exact hk off

/-- The pop of a timestamp writes its three registers alone. -/
theorem Device.txtsPop_offLog (d : Device) (p : Fin 2) (q : Req) {o : Nat} (ho : OffAccessLog o) : (txtsPop p q d).reg o = d.reg o := by
  have hlow : o < 0x400000 := ho.1.2.1
  unfold txtsPop Device.readAt
  extract_lets d0
  split
  · rfl
  refine d0.access_offLog _ _ _ _ _ ho fun off => ?_
  beta_reduce
  split
  · exact (Device.reg_setReg _ _ _ _).trans (if_neg (by unfold R.eth_TXTS_POP; omega))
  · refine (Device.reg_setReg _ _ _ _).trans ((if_neg (by unfold R.eth_TXTS_NS; omega)).trans ?_)
    refine (Device.reg_setReg _ _ _ _).trans ((if_neg (by unfold R.eth_TXTS_SEC; omega)).trans ?_)
    exact (Device.reg_setReg _ _ _ _).trans (if_neg (by unfold R.eth_TXTS_POP; omega))

theorem Device.beforeRead_offLog (d : Device) (p : Port) (off : Nat) {o : Nat} (ho : OffAccessLog o) : (d.beforeRead p off).reg o = d.reg o := by
  unfold Device.beforeRead
  extract_lets q
  split
  · exact d.txtsPop_offLog _ _ ho
  split
  · exact d.txtsPop_offLog _ _ ho
  split
  · split
    · exact d.errAccess_offLog _ _ _ _ ho
    · rfl
  · rfl

/-- A read of any port leaves them, performed or not. -/
theorem State.busRead_offLog (s : State) (p : Port) (a : Nat) {o : Nat} (ho : OffAccessLog o) (hq : o ≠ R.plb_EVQ_HIGHWATER) :
    (s.busRead p a).2.dev.reg o = s.dev.reg o := by
  unfold State.busRead
  split
  · extract_lets off s1 peek
    have h1 : s1.dev.reg o = s.dev.reg o := s.dev.beforeRead_offLog p off ho
    have hmark : (if off = R.plb_EVQ_HIGHWATER then s1.dev.setN off s1.dev.evqUsed else s1.dev).reg o = s.dev.reg o := by
      split
      · next he => exact (Device.reg_setReg _ _ _ _).trans ((if_neg (by rw [he]; exact hq)).trans h1)
      · exact h1
    change (match (regDefAt off).map (·.pair) with
      | some 1 => _
      | some 2 => _
      | _ => _ : Device).reg o = _
    split
    · exact hmark
    · exact hmark
    · exact hmark
  · exact s.dev.access_offLog _ _ _ _ _ ho fun _ => rfl

/-! ### Lath ports (R488, R489) -/

/-- A flit that arrives at a source leaves the transmit FIFOs as they are. -/
theorem Device.sourceArrives_lpTx (d : Device) (key : Nat) (f : Flit) : (d.sourceArrives key f).edge.lpTx = d.edge.lpTx := by
  unfold Device.sourceArrives
  extract_lets y d1
  have h1 : d1.edge.lpTx = d.edge.lpTx := by
    dsimp only [d1]
    split <;> rfl
  split
  · exact h1
  · dsimp only
    split
    · exact h1
    · exact h1

/-- The reset of a block's logic depends on registers below the FIFOs' counts. -/
theorem Device.brst_congr {d e : Device} (hreg : ∀ o < 0xFB200, e.reg o = d.reg o) {b : Nat} (hb : b < 64) : e.brst b = d.brst b := by
  have howner : e.owner b = d.owner b := congrArg (fld · _ 8) (hreg _ (by unfold R.lth_OWNER; omega))
  have hstate : e.blockState b = d.blockState b := congrArg (fld · 0 2) (hreg _ (by unfold R.lth_BLOCK_STATE; omega))
  unfold Device.brst
  rw [hstate, howner]
  by_cases h : d.owner b < 64
  · rw [show e.rf (R.dad_TAPE_STATE (d.owner b / 16) (d.owner b % 16)) 0 2 = d.rf (R.dad_TAPE_STATE (d.owner b / 16) (d.owner b % 16)) 0 2 from
      congrArg (fld · 0 2) (hreg _ (by unfold R.dad_TAPE_STATE; omega))]
  · rw [decide_eq_false h, Bool.false_and, Bool.false_and]

/-- What decides whether a Lath port moves flits: registers below the FIFOs' counts, and the tapes. -/
theorem Device.portOpen_congr {d e : Device} (hreg : ∀ o < 0xFB200, e.reg o = d.reg o) (htapes : e.tapes = d.tapes) {r : Nat} (hr : r < 64) (i : Nat) :
    e.portOpen r i = d.portOpen r i := by
  have hb : portBlock r < 64 := by
    unfold portBlock
    omega
  have htaped : e.portTaped r = d.portTaped r := by
    unfold Device.portTaped
    rw [show e.owner (portBlock r) = d.owner (portBlock r) from congrArg (fld · _ 8) (hreg _ (by unfold R.lth_OWNER; omega)), htapes]
  unfold Device.portOpen
  rw [Device.brst_congr hreg hb, htaped, show e.rf (R.lth_LPORT_CFG r) i 1 = d.rf (R.lth_LPORT_CFG r) i 1 from
    congrArg (fld · i 1) (hreg _ (by unfold R.lth_LPORT_CFG; omega))]

theorem completes_lpTxTransfer {s : State} {r : Fin 64} (tag : BitVec 4) (x : BitVec 256) (k c : Nat) (hopen : s.dev.portOpen r 0 = true) :
    let l := Store.get noFlits s.dev.edge.lpTx r
    (l.length < 32 → Completes (.lpTxTransfer r tag x k c) s fun t => Store.get noFlits t.dev.edge.lpTx r = l ++ [⟨tag, 0, x⟩] ∧
      (∀ j, j ≠ r.val → Store.get noFlits t.dev.edge.lpTx j = Store.get noFlits s.dev.edge.lpTx j) ∧ t.dev.regs = s.dev.regs ∧ KeepsHarts s t) ∧
    (32 ≤ l.length → Completes (.lpTxTransfer r tag x k c) s fun t => t.dev = (s.dev.at k).atCyc c ∧ KeepsHarts s t) := by
  intro l
  let d0 := (s.dev.at k).atCyc c
  have hcond : (d0.portOpen r 0 && decide (l.length < 32)) = decide (l.length < 32) := by
    rw [show d0.portOpen r 0 = true from hopen, Bool.true_and]
  refine ⟨fun hlt => ?_, fun hle => ?_⟩
  · obtain ⟨hregs, -, -, -⟩ := d0.sourceArrives_keeps r ⟨tag, 0, x⟩
    have htx := d0.sourceArrives_lpTx r ⟨tag, 0, x⟩
    generalize hd1 : d0.sourceArrives r ⟨tag, 0, x⟩ = d1 at hregs htx
    have hget : ∀ j, Store.get noFlits (Store.set noFlits d1.edge.lpTx r (l ++ [⟨tag, 0, x⟩])) j =
        if j = r.val then l ++ [⟨tag, 0, x⟩] else Store.get noFlits s.dev.edge.lpTx j := fun j => by
      rw [Store.get_set, htx]
      rfl
    refine completes_dev (f := lpTxTransfer r tag x k c)
      (d := { d1 with edge := { d1.edge with lpTx := Store.set noFlits d1.edge.lpTx r (l ++ [⟨tag, 0, x⟩]) } }) rfl ?_
      ⟨(hget r).trans (if_pos rfl), fun j hj => (hget j).trans (if_neg hj), hregs, rfl, rfl⟩
    rw [← hd1]
    exact if_pos (hcond.trans (decide_eq_true hlt))
  · refine completes_dev (f := lpTxTransfer r tag x k c) rfl (if_neg ?_) ⟨rfl, rfl, rfl⟩
    exact fun h => absurd (of_decide_eq_true (hcond.symm.trans h)) (Nat.not_lt.2 hle)

/-- The ticks counted of a full receive FIFO: one register, and the moment from which the next are counted. -/
theorem Device.countRxWait_spec (d : Device) (r : Nat) : (d.countRxWait r).edge = d.edge ∧ (d.countRxWait r).tapes = d.tapes ∧
    (d.countRxWait r).out = d.out ∧ ∀ o, o ≠ R.lth_LP_RX_WAIT r → (d.countRxWait r).reg o = d.reg o := by
  unfold Device.countRxWait
  extract_lets n d1
  have h1 : d1.edge = d.edge ∧ d1.tapes = d.tapes ∧ d1.out = d.out ∧ ∀ o, o ≠ R.lth_LP_RX_WAIT r → d1.reg o = d.reg o := by
    dsimp only [d1]
    split
    · exact ⟨rfl, rfl, rfl, fun o ho => (Device.reg_setReg _ _ _ _).trans (if_neg ho)⟩
    · exact ⟨rfl, rfl, rfl, fun _ _ => rfl⟩
  exact h1

theorem completes_lpRxTransfer {s : State} {r : Fin 64} (k : Nat) {f : Flit} {l : List Flit} (hrx : Store.get noFlits s.dev.edge.lpRx r = f :: l)
    (hopen : s.dev.portOpen r 1 = true) : Completes (.lpRxTransfer r k) s fun t => Store.get noFlits t.dev.edge.lpRx r = l ∧
      t.dev.out = .lath r f :: s.dev.out ∧ KeepsRegs s t [R.lth_LP_RX_WAIT r] ∧ KeepsHarts s t := by
  have hr := r.isLt
  obtain ⟨hedge, htapes, hout, hreg⟩ := (s.dev.at k).countRxWait_spec r
  have hfifo : Store.get noFlits ((s.dev.at k).countRxWait r).edge.lpRx r = f :: l := by rw [hedge]; exact hrx
  have hopen1 : ((s.dev.at k).countRxWait r).portOpen r 1 = true :=
    (Device.portOpen_congr (d := s.dev) (fun o ho => hreg o (by unfold R.lth_LP_RX_WAIT; omega)) htapes hr 1).trans hopen
  generalize hd0 : (s.dev.at k).countRxWait r = d0 at hedge htapes hout hreg hfifo hopen1
  refine completes_dev (f := lpRxTransfer r k)
    (d := { d0 with edge := { d0.edge with lpRx := Store.set noFlits d0.edge.lpRx r l } }.emit (.lath r f)) rfl ?_
    ⟨(Store.get_set _ _ _ _).trans (if_pos rfl), congrArg (List.cons _) hout, fun o ho => hreg o (List.ne_of_not_mem_cons ho), rfl, rfl⟩
  unfold lpRxTransfer
  rw [hd0]
  dsimp only
  rw [hfifo]
  exact if_pos hopen1

/-! ### The register-access port (R493) -/

/-- The port's access: counted, performed as FABRIC, and the answer kept until it is given. -/
theorem lraAccess_eq {s : State} {k : Nat} (hup : s.dev.fabricUp = true) (hfree : s.dev.lath.lra = none) (a : Nat) (write : Bool) (x : Word) :
    lraAccess a write x k s =
      let r := (s.onDevice fun d => (d.at k).count R.lth_LRA_ACCESSES 1).busAccess .fabric (a / 4 * 4) write x
      r.2.2.onDevice fun d =>
        let d1 := if r.1 == 1 || r.1 == 2 then d.count R.lth_LRA_DENIED 1 else d
        d1.setLath { d1.lath with lra := some ⟨if r.1 == 1 || r.1 == 2 then 0 else r.2.1, r.1 == 1 || r.1 == 2⟩ } := by
  refine if_neg ?_
  rw [show (s.onDevice (·.at k)).dev.fabricUp = true from hup, show (s.onDevice (·.at k)).dev.lath.lra = none from hfree]
  decide

theorem completes_lraRead {s : State} (a : BitVec 26) (x : Word) {k : Nat} (hup : s.dev.fabricUp = true) (hfree : s.dev.lath.lra = none) :
    let s1 := s.onDevice fun d => (d.at k).count R.lth_LRA_ACCESSES 1
    let o := a.toNat / 4 * 4
    let den := s1.dev.ending .fabric o false = 1 ∨ s1.dev.ending .fabric o false = 2
    (den → Completes (.lraAccess a false x k) s fun t => t.dev.lath.lra = some ⟨0, true⟩) ∧
    (¬den → Completes (.lraAccess a false x k) s fun t => t.dev.lath.lra = some ⟨(s1.busRead .fabric o).1, false⟩ ∧
      t.dev.reg R.lth_LRA_ACCESSES = satAdd (s.dev.reg R.lth_LRA_ACCESSES) 1) := by
  intro s1 o den
  have hrun := lraAccess_eq (k := k) hup hfree a.toNat false x
  extract_lets r at hrun
  have hden : (r.1 == 1 || r.1 == 2) = decide den := by
    rw [Bool.decide_or]
    rfl
  refine ⟨fun h => ⟨_, congrArg Host.Outcome.next hrun, ?_⟩, fun h => ⟨_, congrArg Host.Outcome.next hrun, ?_, ?_⟩⟩
  · dsimp only [State.onDevice, Device.setLath]
    rw [hden, decide_eq_true h]
    rfl
  · dsimp only [State.onDevice, Device.setLath]
    rw [hden, decide_eq_false h]
    rfl
  · dsimp only [State.onDevice, Device.setLath]
    rw [hden, decide_eq_false h]
    refine (s1.busRead_offLog .fabric o (o := R.lth_LRA_ACCESSES) ?_ (by decide)).trans ((Device.reg_count _ _ _).trans (if_pos rfl))
    unfold OffAccessLog OfNoReport
    decide

theorem completes_lraWrite {s : State} (a : BitVec 26) (x : Word) {k : Nat} (hup : s.dev.fabricUp = true) (hfree : s.dev.lath.lra = none) :
    let s1 := s.onDevice fun d => (d.at k).count R.lth_LRA_ACCESSES 1
    let o := a.toNat / 4 * 4
    s1.dev.ending .fabric o true = 0 → Completes (.lraAccess a true x k) s fun t => t.dev.lath.lra = some ⟨0, false⟩ ∧
      t.dev.regs = (s1.busWrite .fabric o 15 4 x).dev.regs := by
  intro s1 o h
  have hrun := lraAccess_eq (k := k) hup hfree a.toNat true x
  extract_lets r at hrun
  have hden : (r.1 == 1 || r.1 == 2) = false := by
    rw [show r.1 = 0 from h]
    decide
  refine ⟨_, congrArg Host.Outcome.next hrun, ?_, ?_⟩
  · dsimp only [State.onDevice, Device.setLath]
    rw [hden]
    rfl
  · dsimp only [State.onDevice, Device.setLath]
    rw [hden]
    rfl

theorem completes_lraAnswer {s : State} (k : Nat) {x : LraAcc} (h : s.dev.lath.lra = some x) : Completes (.lraAnswer k) s fun t =>
    t.dev.lath.lra = none ∧ t.dev.out = .ra x.rdata x.denied :: s.dev.out ∧ t.dev.regs = s.dev.regs ∧ KeepsHarts s t := by
  refine completes_dev (f := lraAnswer k) (d := ((s.dev.at k).setLath { s.dev.lath with lra := none }).emit (.ra x.rdata x.denied)) rfl ?_
    ⟨rfl, rfl, rfl, rfl, rfl⟩
  unfold lraAnswer
  dsimp only
  rw [show (s.dev.at k).lath.lra = some x from h]
  rfl

/-! ### The lanes of a block RAM (R475, R477) -/

/-- One lane, written where the first enable is set. -/
def Lath.wrLane (x : Lath) (u l we v : Nat) : Lath :=
  if we % 2 = 1 then { x with bram := Store.set zeroN x.bram (4096 * u + l) (v % 512) } else x

theorem Lath.wrLanes_succ (x : Lath) (u l we v n : Nat) :
    x.wrLanes u l we v (n + 1) = (x.wrLane u l we v).wrLanes u (l + 1) (we / 2) (v / 512) n := rfl

theorem Lath.wrLane_spec (x : Lath) (u l we v : Nat) : { x.wrLane u l we v with bram := x.bram } = x ∧
    ∀ y, Store.get zeroN (x.wrLane u l we v).bram y = if y = 4096 * u + l ∧ we % 2 = 1 then v % 512 else Store.get zeroN x.bram y := by
  unfold Lath.wrLane
  by_cases hwe : we % 2 = 1
  · rw [if_pos hwe]
    exact ⟨rfl, fun y => (Store.get_set _ _ _ _).trans (if_congr (and_iff_left hwe).symm rfl rfl)⟩
  · rw [if_neg hwe]
    exact ⟨rfl, fun y => (if_neg fun h => hwe h.2).symm⟩

/-- A write takes the enabled lanes and no other cell. -/
theorem Lath.get_wrLanes (x : Lath) (u l we v n y : Nat) : Store.get zeroN (x.wrLanes u l we v n).bram y =
    if 4096 * u + l ≤ y ∧ y < 4096 * u + l + n ∧ we.testBit (y - (4096 * u + l)) then v / 512 ^ (y - (4096 * u + l)) % 512
    else Store.get zeroN x.bram y := by
  induction n generalizing x l we v with
  | zero => exact (if_neg (by omega)).symm
  | succ n ih =>
    rw [Lath.wrLanes_succ, ih, (x.wrLane_spec u l we v).2]
    rcases Nat.lt_trichotomy y (4096 * u + l) with h | rfl | h
    · rw [if_neg (by omega), if_neg (by omega), if_neg (by omega)]
    · rw [if_neg (by omega), Nat.sub_self, Nat.pow_zero, Nat.div_one, Nat.testBit_zero]
      exact if_congr ⟨fun h => ⟨Nat.le_refl _, by omega, decide_eq_true h.2⟩, fun h => ⟨rfl, of_decide_eq_true h.2.2⟩⟩ rfl rfl
    · obtain ⟨i, rfl⟩ : ∃ i, y = 4096 * u + (l + 1) + i := ⟨y - (4096 * u + (l + 1)), by omega⟩
      rw [show 4096 * u + (l + 1) + i - (4096 * u + l) = i + 1 by omega, Nat.add_sub_cancel_left, Nat.testBit_succ, Nat.pow_succ',
        ← Nat.div_div_eq_div_mul, if_neg (by omega : ¬(4096 * u + (l + 1) + i = 4096 * u + l ∧ we % 2 = 1))]
      exact if_congr ⟨fun h => ⟨by omega, by omega, h.2.2⟩, fun h => ⟨by omega, by omega, h.2.2⟩⟩ rfl rfl

/-- Writes of lanes leave all but the cells. -/
theorem Lath.wrLanes_same (x : Lath) (u l we v n : Nat) : { x.wrLanes u l we v n with bram := x.bram } = x := by
  induction n generalizing x l we v with
  | zero => rfl
  | succ n ih =>
    rw [Lath.wrLanes_succ]
    exact (congrArg (fun y : Lath => { y with bram := x.bram }) (ih (x.wrLane u l we v) (l + 1) (we / 2) (v / 512))).trans
      (x.wrLane_spec u l we v).1

/-- The lanes read as the sum of their parts. -/
theorem Lath.rdLanes_eq_sum (x : Lath) (u l n : Nat) :
    x.rdLanes u l n = ((List.range n).map fun k => Store.get zeroN x.bram (4096 * u + l + k) * 512 ^ k).sum := by
  induction n generalizing l with
  | zero => rfl
  | succ n ih =>
    rw [Lath.rdLanes, ih, List.range_succ_eq_map, List.map_cons, List.sum_cons, List.map_map, Nat.pow_zero, Nat.mul_one, Nat.add_zero,
      ← List.sum_map_mul_left]
    refine congrArg (_ + ·) (congrArg List.sum (List.map_congr_left fun k _ => ?_))
    rw [Function.comp_apply, Nat.succ_eq_add_one, Nat.pow_succ, show 4096 * u + l + (k + 1) = 4096 * u + (l + 1) + k by omega]
    ring

/-- Lanes that hold the parts of a number read as it. -/
theorem Lath.rdLanes_of_parts (x : Lath) (u : Nat) {l n v : Nat} (h : ∀ i < n, Store.get zeroN x.bram (4096 * u + l + i) = v / 512 ^ i % 512) :
    x.rdLanes u l n = v % 512 ^ n := by
  induction n generalizing l v with
  | zero => rw [Nat.pow_zero, Nat.mod_one]; rfl
  | succ n ih =>
    have hrest : x.rdLanes u (l + 1) n = v / 512 % 512 ^ n := ih fun i hi => by
      have := h (i + 1) (by omega)
      rwa [Nat.pow_succ', ← Nat.div_div_eq_div_mul, show 4096 * u + l + (i + 1) = 4096 * u + (l + 1) + i by omega] at this
    rw [Lath.rdLanes, hrest, show Store.get zeroN x.bram (4096 * u + l) = v / 512 ^ 0 % 512 from h 0 (by omega), Nat.pow_zero, Nat.div_one, Nat.pow_succ', Nat.mod_mul]

theorem guardWord_lt (v : Nat) : guardWord v < 512 ^ 8 := by
  have hlo : v % 2 ^ 64 < 2 ^ 64 := Nat.mod_lt _ (by decide)
  have hhi : (Config.bramCheck (BitVec.ofNat 64 v)).toNat < 2 ^ 8 := BitVec.isLt _
  unfold guardWord
  omega

/-- A half of a GUARD word that was stored reads back, with no error. -/
theorem guardHalf_guardWord (v : Nat) : guardHalf (guardWord v) = (v % 2 ^ 64, false, false) := by
  have hword : BitVec.ofNat 64 (guardWord v) = BitVec.ofNat 64 v := BitVec.eq_of_toNat_eq (by
    rw [BitVec.toNat_ofNat, BitVec.toNat_ofNat, guardWord, Nat.add_mul_mod_self_left, Nat.mod_mod])
  have hcheck : BitVec.ofNat 8 (guardWord v / 2 ^ 64) = Config.bramCheck (BitVec.ofNat 64 v) := by
    rw [guardWord, Nat.add_mul_div_left _ _ (by decide), Nat.div_eq_of_lt (Nat.mod_lt _ (by decide)), Nat.zero_add, BitVec.ofNat_toNat]
    rfl
  unfold guardHalf
  rw [hword, hcheck]
  dsimp only
  rw [if_pos rfl, BitVec.toNat_ofNat]

/-! ### Accesses of a block RAM (R475 to R477) -/

/-- What the read output of a port takes, and nothing else. -/
theorem Lath.latch_ports (x : Lath) (u p v y : Nat) (ce ue : Bool) : Store.get bramPort0 (x.latch u p v ce ue).ports y =
    if y = 2 * u + p then ⟨v, (Store.get bramPort0 x.ports (2 * u + p)).out, ce, ue⟩ else Store.get bramPort0 x.ports y := Store.get_set _ _ _ _

section
variable {s : State} {x : Lath} {u : Nat}

/-- A state whose fabric is x latched on the ports of s. -/
theorem latched_of_latch {t : State} {p v : Nat} (hx : x.ports = s.dev.lath.ports)
    (ht : t.dev.lath.ports = (x.latch u p v false false).ports) : Latched s t u p v := by
  have hget := fun y => Lath.latch_ports x u p v y false false
  unfold Latched
  rw [ht]
  rw [hx] at hget
  exact ⟨(hget _).trans (if_pos rfl), fun y hy => (hget y).trans (if_neg hy)⟩

/-- A state whose cells stand has written none. -/
theorem wrote_none {t : State} (l n v : Nat) (ht : t.dev.lath.bram = s.dev.lath.bram) : Wrote s t u l n 0 v := fun y => by
  rw [ht, Nat.zero_testBit]
  exact (if_neg (by simp)).symm

end

section
variable {s : State} {b : Fin 64} {j : Fin 30} {a : BramAcc} (k : Nat)

/-- An access at a block out of reset is the access of its mode. -/
theorem completes_bram {y : Lath} {P : State → Prop} (hrst : s.dev.brst b = false)
    (hacc : (match a.mode with
      | .duo i => s.dev.lath.duo (30 * b.val + j.val) (2 ^ i.val) a
      | .wide => s.dev.lath.wide (30 * b.val + j.val) a
      | .ring len del => s.dev.lath.ring (30 * b.val + j.val) len del a
      | .guard => (s.dev.lath.guarded (30 * b.val + j.val) a).1) = y)
    (hclean : a.mode = .guard → (s.dev.lath.guarded (30 * b.val + j.val) a).2 = (false, false))
    (hp : P { s with dev := (s.dev.at k).setLath y }) : Completes (.bramAccess b j a k) s P := by
  refine completes_dev (f := bramAccess b j a k) rfl ?_ hp
  refine (if_neg (by rw [show (s.dev.at k).brst b = false from hrst]; decide)).trans ?_
  rw [show (s.dev.at k).lath = s.dev.lath from rfl]
  cases hm : a.mode with
  | duo i => rw [hm] at hacc; exact congrArg (s.dev.at k).setLath hacc
  | wide => rw [hm] at hacc; exact congrArg (s.dev.at k).setLath hacc
  | ring len del => rw [hm] at hacc; exact congrArg (s.dev.at k).setLath hacc
  | guard =>
    rw [hm] at hacc
    obtain ⟨hce, hue⟩ := Prod.mk.inj (hclean hm)
    dsimp only at hacc ⊢
    rw [hce, hue, hacc]
    rfl

end

section
variable {s t : State}

theorem wrote_wrLanes {x : Lath} {u l n we v : Nat} (hx : x.bram = s.dev.lath.bram) (ht : t.dev.lath.bram = (x.wrLanes u l we v n).bram) :
    Wrote s t u l n we v := fun y => by
  rw [ht, Lath.get_wrLanes, hx]

theorem wrote_of_eq {x y : Lath} {u l n we v : Nat} (hx : x.bram = s.dev.lath.bram) (hy : y = x.wrLanes u l we v n)
    (ht : t.dev.lath.bram = y.bram) : Wrote s t u l n we v := wrote_wrLanes hx (ht.trans (congrArg Lath.bram hy))

/-- Enables past the lanes of the write do nothing. -/
theorem Wrote.of_mod {u l n we v : Nat} (h : Wrote s t u l n (we % 2 ^ n) v) : Wrote s t u l n we v := fun y => by
  rw [h y, Nat.testBit_mod_two_pow]
  refine if_congr ⟨fun ⟨hlo, hhi, hbit⟩ => ⟨hlo, hhi, ?_⟩, fun ⟨hlo, hhi, hbit⟩ => ⟨hlo, hhi, ?_⟩⟩ rfl rfl
  · exact (Bool.and_eq_true_iff.1 hbit).2
  · exact Bool.and_eq_true_iff.2 ⟨decide_eq_true (by omega), hbit⟩

theorem lanesOf_eq {x : Lath} (hx : s.dev.lath.bram = x.bram) (u l n : Nat) : lanesOf s u l n = x.rdLanes u l n := by
  rw [Lath.rdLanes_eq_sum, ← hx]
  rfl

end

section
variable {s : State} {b : Fin 64} {j : Fin 30} {a : BramAcc} (k : Nat)

/-- DUO mode: each port reads, or writes and returns by its policy (R476). -/
theorem completes_duo (hrst : s.dev.brst b = false) (i : Fin 3) (hm : a.mode = .duo i) :
    let u := 30 * b.val + j.val
    let n := 2 ^ i.val
    let l := a.addr % (4096 / n) * n
    (a.we.toNat % 2 ^ n = 0 → a.rd = true → Completes (.bramAccess b j a k) s fun t => Latched s t u a.port (lanesOf s u l n) ∧ Wrote s t u l n 0 0) ∧
    (a.we.toNat % 2 ^ n ≠ 0 → Completes (.bramAccess b j a k) s fun t => Wrote s t u l n a.we.toNat a.data.toNat ∧
      (a.policy = .prior → Latched s t u a.port (lanesOf s u l n)) ∧ (a.policy = .fresh → Latched s t u a.port (lanesOf t u l n)) ∧
      (a.policy = .keep → t.dev.lath.ports = s.dev.lath.ports)) := by
  intro u n l
  have hclean : a.mode = .guard → (s.dev.lath.guarded u a).2 = (false, false) := fun hg => absurd (hm.symm.trans hg) (by simp)
  have hold : lanesOf s u l n = s.dev.lath.rdLanes u l n := lanesOf_eq rfl u l n
  refine ⟨fun hwe hrd => ?_, fun hwe => ?_⟩
  · refine completes_bram k (y := s.dev.lath.latch u a.port (s.dev.lath.rdLanes u l n) false false) hrst ?_ hclean
      ⟨hold ▸ latched_of_latch rfl rfl, wrote_none _ _ _ rfl⟩
    rw [hm]
    exact (if_pos hwe).trans (if_pos hrd)
  · let x := s.dev.lath.wrLanes u l (a.we.toNat % 2 ^ n) a.data.toNat n
    have hports : x.ports = s.dev.lath.ports := (congrArg Lath.ports (s.dev.lath.wrLanes_same u l (a.we.toNat % 2 ^ n) a.data.toNat n) :)
    cases hp : a.policy with
    | prior =>
      refine completes_bram k (y := x.latch u a.port (s.dev.lath.rdLanes u l n) false false) hrst ?_ hclean
        ⟨Wrote.of_mod (wrote_wrLanes (x := s.dev.lath) rfl rfl), fun _ => hold ▸ latched_of_latch hports rfl, nofun, nofun⟩
      rw [hm]
      refine (if_neg hwe).trans ?_
      rw [hp]
    | fresh =>
      refine completes_bram k (y := x.latch u a.port (x.rdLanes u l n) false false) hrst ?_ hclean
        ⟨Wrote.of_mod (wrote_wrLanes (x := s.dev.lath) rfl rfl), nofun, fun _ => ?_, nofun⟩
      · rw [hm]
        refine (if_neg hwe).trans ?_
        rw [hp]
      · rw [lanesOf_eq (x := x) rfl]
        exact latched_of_latch hports rfl
    | keep =>
      refine completes_bram k (y := x) hrst ?_ hclean ⟨Wrote.of_mod (wrote_wrLanes (x := s.dev.lath) rfl rfl), nofun, nofun, fun _ => hports⟩
      rw [hm]
      refine (if_neg hwe).trans ?_
      rw [hp]

/-- WIDE mode: PORT_0 writes 16 lanes, PORT_1 reads them (R476). -/
theorem completes_wide (hrst : s.dev.brst b = false) (hm : a.mode = .wide) :
    let u := 30 * b.val + j.val
    let w := a.addr % 256 * 16
    (a.port = 0 → Completes (.bramAccess b j a k) s fun t => Wrote s t u w 16 a.we.toNat a.data.toNat) ∧
    (a.port = 1 → a.rd = true → Completes (.bramAccess b j a k) s fun t => Latched s t u 1 (lanesOf s u w 16) ∧ Wrote s t u w 16 0 0) := by
  intro u w
  have hclean : a.mode = .guard → (s.dev.lath.guarded u a).2 = (false, false) := fun hg => absurd (hm.symm.trans hg) (by simp)
  refine ⟨fun hp => ?_, fun hp hrd => ?_⟩
  · obtain ⟨y, hy⟩ : ∃ y, y = s.dev.lath.wrLanes u w a.we.toNat a.data.toNat 16 := ⟨_, rfl⟩
    refine completes_bram k (y := y) hrst ?_ hclean (wrote_of_eq rfl hy rfl)
    rw [hm, hy]
    exact if_pos hp
  · obtain ⟨v, hv⟩ : ∃ v, v = s.dev.lath.rdLanes u w 16 := ⟨_, rfl⟩
    have hlanes : lanesOf s u w 16 = v := (lanesOf_eq (x := s.dev.lath) rfl u w 16).trans hv.symm
    rw [hlanes]
    refine completes_bram k (y := s.dev.lath.latch u 1 v false false) hrst ?_ hclean
      ⟨latched_of_latch rfl rfl, wrote_none _ _ _ rfl⟩
    rw [hm, hv]
    exact (if_neg (by rw [hp]; decide)).trans (if_pos hrd)

theorem Lath.guarded_write (x : Lath) (u : Nat) (hp : a.port = 0) (hwe : a.we = 3) : x.guarded u a =
    ((x.wrLanes u (a.addr % 256 * 16) 255 (guardWord a.data.toNat) 8).wrLanes u (a.addr % 256 * 16 + 8) 255 (guardWord (a.data.toNat / 2 ^ 64)) 8,
      false, false) := by
  have h0 : a.we.getLsbD 0 = true := by rw [hwe]; decide
  have h1 : a.we.getLsbD 1 = true := by rw [hwe]; decide
  unfold Lath.guarded
  rw [if_pos hp, if_pos h0]
  exact congrArg (·, false, false) (if_pos h1)

/-- A GUARD word is stored with its check bits (R477). -/
theorem completes_guardWrite (hrst : s.dev.brst b = false) (hm : a.mode = .guard) (hp : a.port = 0) (hwe : a.we = 3) :
    let u := 30 * b.val + j.val
    let w := a.addr % 256 * 16
    Completes (.bramAccess b j a k) s fun t => t.dev.lath.rdLanes u w 8 = guardWord a.data.toNat ∧
      t.dev.lath.rdLanes u (w + 8) 8 = guardWord (a.data.toNat / 2 ^ 64) := by
  intro u w
  obtain ⟨x, hx⟩ : ∃ x, x = s.dev.lath.wrLanes u w 255 (guardWord a.data.toNat) 8 := ⟨_, rfl⟩
  obtain ⟨y, hy⟩ : ∃ y, y = x.wrLanes u (w + 8) 255 (guardWord (a.data.toNat / 2 ^ 64)) 8 := ⟨_, rfl⟩
  have hrun : s.dev.lath.guarded u a = (y, false, false) := by
    rw [hy, hx]
    exact s.dev.lath.guarded_write u hp hwe
  have hmask : ∀ i < 8, Nat.testBit 255 i = true := by decide
  have hread : ∀ (l v : Nat), (∀ i < 8, Store.get zeroN y.bram (4096 * u + l + i) = guardWord v / 512 ^ i % 512) →
      y.rdLanes u l 8 = guardWord v := fun l v h => (y.rdLanes_of_parts u h).trans (Nat.mod_eq_of_lt (guardWord_lt v))
  refine completes_bram k (y := y) hrst ?_ (fun _ => congrArg Prod.snd hrun) ⟨hread _ _ fun i hi => ?_, hread _ _ fun i hi => ?_⟩
  · rw [hm]
    exact congrArg Prod.fst hrun
  · rw [hy, Lath.get_wrLanes, if_neg (by omega), hx, Lath.get_wrLanes, Nat.add_sub_cancel_left, if_pos ⟨by omega, by omega, hmask i hi⟩]
  · rw [hy, Lath.get_wrLanes, Nat.add_sub_cancel_left, if_pos ⟨by omega, by omega, hmask i hi⟩]

/-- An intact GUARD word reads as it was stored (R477). -/
theorem completes_guardRead (hrst : s.dev.brst b = false) (x y : Nat) (hm : a.mode = .guard) (hp : a.port = 1) (hrd : a.rd = true)
    (hx : s.dev.lath.rdLanes (30 * b.val + j.val) (a.addr % 256 * 16) 8 = guardWord x)
    (hy : s.dev.lath.rdLanes (30 * b.val + j.val) (a.addr % 256 * 16 + 8) 8 = guardWord y) :
    Completes (.bramAccess b j a k) s fun t =>
      Latched s t (30 * b.val + j.val) 1 (x % 2 ^ 64 + 2 ^ 64 * (y % 2 ^ 64)) ∧ t.dev.regs = s.dev.regs := by
  have hrun : s.dev.lath.guarded (30 * b.val + j.val) a =
      (s.dev.lath.latch (30 * b.val + j.val) 1 (x % 2 ^ 64 + 2 ^ 64 * (y % 2 ^ 64)) false false, false, false) := by
    refine (if_neg (by rw [hp]; decide)).trans ((if_pos hrd).trans ?_)
    dsimp only
    rw [hx, hy, guardHalf_guardWord, guardHalf_guardWord]
    rfl
  refine completes_bram k hrst ?_ (fun _ => congrArg Prod.snd hrun) ⟨latched_of_latch rfl rfl, rfl⟩
  rw [hm]
  exact congrArg Prod.fst hrun

/-- RING mode: the read is DELAY words behind the write pointer, and the write moves it on (R476). -/
theorem completes_ring (hrst : s.dev.brst b = false) (len del : Nat) (hm : a.mode = .ring len del) (hlen : 2 ≤ len) (hmax : len ≤ 1024)
    (hdel : 1 ≤ del) (hlt : del < len) :
    let u := 30 * b.val + j.val
    let p := Store.get zeroN s.dev.lath.wptr u
    Completes (.bramAccess b j a k) s fun t => Wrote s t u (4 * p) 4 (if a.we = 0 then 0 else 15) a.data.toNat ∧
      (a.rd = true → Latched s t u 1 (lanesOf s u (4 * ((p + len - del) % len)) 4)) ∧
      Store.get zeroN t.dev.lath.wptr u = if a.restart then 0 else if a.we = 0 then p else (p + 1) % len := by
  intro u p
  have hclean : a.mode = .guard → (s.dev.lath.guarded u a).2 = (false, false) := fun hg => absurd (hm.symm.trans hg) (by simp)
  let v := s.dev.lath.rdLanes u (4 * ((p + len - del) % len)) 4
  let x1 := if a.rd = true then s.dev.lath.latch u 1 v false false else s.dev.lath
  let x2 := if a.we = 0 then x1 else x1.wrLanes u (4 * p) 15 a.data.toNat 4
  let p1 := if a.restart = true then 0 else if a.we = 0 then p else (p + 1) % len
  have hbram1 : x1.bram = s.dev.lath.bram := by
    dsimp only [x1]
    split <;> rfl
  have hports : x2.ports = x1.ports := by
    dsimp only [x2]
    split
    · rfl
    · exact (congrArg Lath.ports (x1.wrLanes_same u (4 * p) 15 a.data.toNat 4) :)
  refine completes_bram k (y := { x2 with wptr := Store.set zeroN x2.wptr u p1 }) hrst ?_ hclean ⟨?_, fun hrd => ?_, ?_⟩
  · rw [hm]
    exact if_pos ⟨hlen, hmax, hdel, hlt⟩
  · by_cases hwe : a.we = 0
    · rw [if_pos hwe]
      refine wrote_none _ _ _ ((congrArg Lath.bram (if_pos hwe : x2 = x1)).trans hbram1)
    · rw [if_neg hwe]
      exact wrote_of_eq hbram1 (if_neg hwe : x2 = _) rfl
  · rw [lanesOf_eq (x := s.dev.lath) rfl]
    exact latched_of_latch (x := s.dev.lath) rfl (hports.trans (congrArg Lath.ports (if_pos hrd : x1 = _)))
  · exact (Store.get_set _ _ _ _).trans (if_pos rfl)

end

/-! ### Frame readback (R498) -/

/-- The words of a frame without an upset one: n words from the i-th, and no other register. -/
theorem Device.readbackWords_spec (d : Device) {bad : Nat → Bool} (hbad : ∀ w, bad w = false) (n : Nat) (l : List Byte) (i : Nat) :
    let e := d.readbackWords bad n l i
    (∀ m < n, e.reg (R.lth_RB_DATA (i + m)) = wd (fromLe ((l.drop (4 * m)).take 4))) ∧
      ∀ o, (∀ m < n, o ≠ R.lth_RB_DATA (i + m)) → e.reg o = d.reg o := by
  induction n generalizing d l i with
  | zero => exact ⟨fun m hm => absurd hm (Nat.not_lt_zero m), fun _ _ => rfl⟩
  | succ n ih =>
    intro e
    obtain ⟨hwords, hrest⟩ := ih (d.setN (R.lth_RB_DATA i) (fromLe (l.take 4))) (l.drop 4) (i + 1)
    have he : e = (d.setN (R.lth_RB_DATA i) (fromLe (l.take 4))).readbackWords bad n (l.drop 4) (i + 1) :=
      if_neg (by rw [hbad]; decide)
    rw [← he] at hwords hrest
    refine ⟨fun m hm => ?_, fun o ho => ?_⟩
    · cases m with
      | zero =>
        rw [hrest _ fun m _ => by unfold R.lth_RB_DATA; omega]
        exact (Device.reg_setReg _ _ _ _).trans (if_pos rfl)
      | succ m =>
        have := hwords m (Nat.lt_of_succ_lt_succ hm)
        rwa [Nat.add_right_comm, List.drop_drop, show 4 + 4 * m = 4 * (m + 1) by omega] at this
    · rw [hrest o fun m hm => ?_]
      · exact (Device.reg_setReg _ _ _ _).trans (if_neg (ho 0 (Nat.succ_pos n)))
      · have := ho (m + 1) (Nat.succ_lt_succ hm)
        rwa [show i + (m + 1) = i + 1 + m by omega] at this

theorem fromLe_lt (l : List Byte) : fromLe l < 256 ^ l.length := by
  induction l with
  | nil => decide
  | cons b l ih =>
    have hb := b.isLt
    rw [fromLe, List.length_cons, Nat.pow_succ']
    omega

theorem fromLe_take_lt (l : List Byte) : fromLe (l.take 4) < 2 ^ 32 :=
  (fromLe_lt _).trans_le ((Nat.pow_le_pow_right (by decide) (List.length_take_le 4 l)).trans (by decide))

section
variable {s : State} {q : Req}

theorem completes_frameReadback (hw : Writes s q R.lth_RB_GO = true) (hgo : fld q.data 0 1 = 1) : let b := s.dev.rf R.lth_RB_FAR 16 6
    let f := s.dev.rf R.lth_RB_FAR 0 11
    (s.dev.blockState b = 2 → f < 1010 → s.dev.upsets = [] → Completes (.frameReadback q) s fun t =>
      (∀ i < 128, t.dev.rn (R.lth_RB_DATA i) = fromLe (((s.dev.frame b f).drop (4 * i)).take 4)) ∧
      t.dev.reg R.lth_RB_CRC = wd (Store.get zeroN s.dev.lath.crcs (1280 * b + f)) ∧ t.dev.reg R.lth_RB_STATUS = 2 ∧ KeepsHarts s t) ∧
    (s.dev.blockState b = 0 → Completes (.frameReadback q) s fun t =>
      t.dev.reg R.lth_RB_STATUS = 8 ∧ KeepsRegs s t [R.lth_RB_STATUS] ∧ KeepsHarts s t) := by
  intro b f
  have hgo0 : ¬fld q.data 0 1 = 0 := by
    rw [hgo]
    decide
  let d0 := s.dev.at q.t
  refine ⟨fun hst hf hup => ?_, fun hst => ?_⟩
  · let bad := fun w : Nat => d0.upsets.any fun u => u.mem == .lathFrame && u.unit == b && u.word == 64 * f + w && u.ue
    have hbad : ∀ w, bad w = false := fun w => by
      dsimp only [bad]
      rw [show d0.upsets = [] from hup]
      rfl
    have hue : (List.range 64).any bad = false := List.any_eq_false.2 fun w _ => by rw [hbad]; decide
    obtain ⟨hwords, hrest⟩ := d0.readbackWords_spec hbad 128 (s.dev.frame b f) 0
    generalize hd1 : d0.readbackWords bad 128 (s.dev.frame b f) 0 = d1 at hwords hrest
    let d2 := (d1.setN R.lth_RB_CRC (Store.get zeroN s.dev.lath.crcs (1280 * b + f))).setN R.lth_RB_STATUS 2
    have hreg : ∀ o, d2.reg o = if o = R.lth_RB_STATUS then 2 else if o = R.lth_RB_CRC then wd (Store.get zeroN s.dev.lath.crcs (1280 * b + f)) else
        d1.reg o := fun o => by
      refine (Device.reg_setReg _ _ _ _).trans (if_congr Iff.rfl rfl ?_)
      exact Device.reg_setReg _ _ _ _
    refine completes_dev (f := frameReadback q) (d := d2) rfl ((Device.writeAt_of_writes hw).trans ?_) ⟨fun i hi => ?_, ?_, ?_, rfl, rfl⟩
    · refine (if_neg hgo0).trans ((if_neg ?_).trans ?_)
      · rintro (h | ⟨-, h⟩)
        · exact absurd (hst.symm.trans h) (by decide)
        · exact absurd hf (Nat.not_lt.2 h)
      · dsimp only
        change ((d0.readbackWords bad 128 (s.dev.frame b f) 0).setN R.lth_RB_CRC (Store.get zeroN s.dev.lath.crcs (1280 * b + f))).setN R.lth_RB_STATUS
          (2 + 4 * b2n ((List.range 64).any bad)) = d2
        rw [hue, hd1]
        rfl
    · refine (congrArg BitVec.toNat ((hreg _).trans ((if_neg ?_).trans (if_neg ?_)))).trans ?_
      · unfold R.lth_RB_DATA R.lth_RB_STATUS
        omega
      · unfold R.lth_RB_DATA R.lth_RB_CRC
        omega
      · have := hwords i hi
        rw [Nat.zero_add] at this
        rw [this]
        exact (BitVec.toNat_ofNat _ _).trans (Nat.mod_eq_of_lt (fromLe_take_lt _))
    · exact (hreg _).trans ((if_neg (by decide)).trans (if_pos rfl))
    · exact (hreg _).trans (if_pos rfl)
  · refine completes_dev (f := frameReadback q) (d := d0.setN R.lth_RB_STATUS 8) rfl ((Device.writeAt_of_writes hw).trans ?_)
      ⟨(Device.reg_setReg _ _ _ _).trans (if_pos rfl), fun o ho => (Device.reg_setReg _ _ _ _).trans (if_neg (List.ne_of_not_mem_cons ho)), rfl, rfl⟩
    exact (if_neg hgo0).trans (if_pos (Or.inl hst))

end

/-- Settles O47, one lemma for each row of chapter 18; a stuck outgoing clock counted once rests on log entry 96, and RESTART of a
ring beside a write on entry 98. -/
theorem lathMovesFlitsClocksAndBits : Obligations.LathMovesFlitsClocksAndBits := by
  unfold Obligations.LathMovesFlitsClocksAndBits
  refine ⟨fun s n k h => completes_fpllLock k h, fun s n k h => completes_pllUnlock k h,
    fun s g k h => ⟨completes_clockSwitchDone k h, fun hnew => completes_stuckSwitch k h hnew⟩,
    fun s g f k hen hnew => completes_gclkFreqWindow f hen hnew, fun s r tag x k c hopen => completes_lpTxTransfer tag x k c hopen,
    fun s r k f l hrx hopen => completes_lpRxTransfer k hrx hopen, fun s a x k hup hfree => ?_, fun s k x h => completes_lraAnswer k h,
    fun s b j a k hrst => ?_, fun s q hw hgo => ?_⟩
  · obtain ⟨hden, hread⟩ := completes_lraRead a x (k := k) hup hfree
    exact ⟨hden, hread, completes_lraWrite a x hup hfree⟩
  · exact ⟨fun i hm => completes_duo k hrst i hm, fun hm => (completes_wide k hrst hm).1, fun hm => (completes_wide k hrst hm).2,
      fun hm hp hwe => completes_guardWrite k hrst hm hp hwe, fun x y hm hp hrd hx hy => completes_guardRead k hrst x y hm hp hrd hx hy,
      fun len del hm hlen hmax hdel hlt _ => completes_ring k hrst len del hm hlen hmax hdel hlt⟩
  · obtain ⟨hread, hblank⟩ := completes_frameReadback hw hgo
    exact ⟨fun hst hf hup _ => hread hst hf hup, hblank⟩

end Sys2Proof.Machine
end

section
/-! PROOFS. Bank supplies, lanes, Ethernet links, frames, timestamps and PTP clocks (R502 to R516, R531, R532); O48. -/
namespace Sys2Proof.Machine

/-- A field beside one that is set. -/
theorem Device.rf_setF_beside (d : Device) (o : Nat) {lo w lo' w' : Nat} (x : Nat) (h : lo + w ≤ 32) (hb : lo' + w' ≤ lo ∨ lo + w ≤ lo') :
    (d.setF o lo w x).rf o lo' w' = d.rf o lo' w' := by
  rw [Device.rf, Device.setF_eq, Device.reg_setReg, if_pos rfl, fld_setFld_beside _ _ h hb]
  rfl

/-! ### Banks and lanes (R502, R531) -/

section
variable {s : State} {b : Fin 12} {mv : Nat} (k : Nat)

theorem completes_vccoGood (hmv : mv < 8192) (h : s.dev.vccoIn b mv = true) : Completes (.vccoGood b mv k) s fun t =>
    t.dev.rf (R.iob_BANK_STAT b) 16 1 = 1 ∧ t.dev.rf (R.iob_BANK_STAT b) 0 13 = mv ∧ KeepsRegs s t [R.iob_BANK_STAT b] ∧ RegsOnly s t := by
  refine completes_dev (f := vccoGood b mv k) rfl (if_pos h) ⟨Device.rf_setF _ _ _ (by decide), ?_, fun o ho => ?_, rfl, rfl, rfl⟩
  · exact (Device.rf_setF_beside _ _ _ (by decide) (by decide)).trans ((Device.rf_setF _ _ _ (by decide)).trans (Nat.mod_eq_of_lt hmv))
  · have hne := List.ne_of_not_mem_cons ho
    exact (Device.reg_setF_beside _ _ _ _ hne).trans (Device.reg_setF_beside _ _ _ _ hne)

theorem completes_vccoFault (hmv : mv < 8192) (h : s.dev.vccoIn b mv = false) (hgood : s.dev.rf (R.iob_BANK_STAT b) 16 1 = 1) :
    Completes (.vccoFault b mv k) s fun t => t.dev.rf (R.iob_BANK_STAT b) 16 1 = 0 ∧ t.dev.rf (R.iob_BANK_STAT b) 0 13 = mv ∧
      t.dev.rf (0x2000000 + 0x1000 * b + 0x20) 16 1 = 1 ∧
      t.dev.reg (0x2000000 + 0x1000 * b + 0x34) = satAdd (s.dev.reg (0x2000000 + 0x1000 * b + 0x34)) 1 ∧ KeepsHarts s t := by
  let d1 := ((s.dev.at k).setF (R.iob_BANK_STAT b) 0 13 mv).setF (R.iob_BANK_STAT b) 16 1 0
  have hgone : d1.rf (R.iob_BANK_STAT b) 16 1 = 0 := (Device.rf_setF _ _ _ (by decide)).trans rfl
  have hmeas : d1.rf (R.iob_BANK_STAT b) 0 13 = mv :=
    (Device.rf_setF_beside _ _ _ (by decide) (by decide)).trans ((Device.rf_setF _ _ _ (by decide)).trans (Nat.mod_eq_of_lt hmv))
  have herr : d1.reg (0x2000000 + 0x1000 * b + 0x34) = s.dev.reg (0x2000000 + 0x1000 * b + 0x34) := by
    have hne : 0x2000000 + 0x1000 * b.val + 0x34 ≠ R.iob_BANK_STAT b := by
      unfold R.iob_BANK_STAT
      omega
    exact (Device.reg_setF_beside _ _ _ _ hne).trans (Device.reg_setF_beside _ _ _ _ hne)
  obtain ⟨-, hevt, herrs, hpast⟩ := d1.boardReport_spec (pg := 0x2000000 + 0x1000 * b) (bit := 16) (by omega) (by omega) (by decide) 0x0100
    (wd mv) 0
  have hstat := hpast (R.iob_BANK_STAT b) (by unfold OfBoard R.iob_BANK_STAT; omega)
  refine completes_dev (f := vccoFault b mv k) rfl (if_neg ?_) ⟨(congrArg (fld · 16 1) hstat).trans hgone, (congrArg (fld · 0 13) hstat).trans hmeas,
    hevt, herrs.trans (by rw [herr]), rfl, rfl⟩
  rw [show (s.dev.at k).vccoIn b mv = false from h, show (s.dev.at k).rf (R.iob_BANK_STAT b) 16 1 = 1 from hgood]
  decide

end

theorem completes_lockLost {s : State} {l : Fin 32} (k : Nat) (cdr : Bool) (h : s.dev.rf (R.xcv_LANE_STATUS l) (if cdr then 1 else 2) 1 = 1) :
    Completes (.lockLost l cdr k) s fun t => t.dev.rf (R.xcv_LANE_STATUS l) 2 1 = 0 ∧
      t.dev.rf (R.xcv_LANE_STATUS l) 1 1 = (if cdr then 0 else s.dev.rf (R.xcv_LANE_STATUS l) 1 1) ∧
      t.dev.reg (0x2010000 + 0x1000 * l + 0x34) = satAdd (s.dev.reg (0x2010000 + 0x1000 * l + 0x34)) 1 ∧ KeepsHarts s t := by
  let d0 := if cdr = true then (s.dev.at k).setF (R.xcv_LANE_STATUS l) 1 1 0 else s.dev.at k
  have hcdr : d0.rf (R.xcv_LANE_STATUS l) 1 1 = if cdr then 0 else s.dev.rf (R.xcv_LANE_STATUS l) 1 1 := by
    dsimp only [d0]
    split
    · exact (Device.rf_setF _ _ _ (by decide)).trans rfl
    · rfl
  have hbeside : ∀ o, o ≠ R.xcv_LANE_STATUS l → d0.reg o = s.dev.reg o := fun o ho => by
    dsimp only [d0]
    split
    · exact Device.reg_setF_beside _ _ _ _ ho
    · rfl
  let d1 := d0.setF (R.xcv_LANE_STATUS l) 2 1 0
  have herr : d1.reg (0x2010000 + 0x1000 * l + 0x34) = s.dev.reg (0x2010000 + 0x1000 * l + 0x34) := by
    have hne : 0x2010000 + 0x1000 * l.val + 0x34 ≠ R.xcv_LANE_STATUS l := by
      unfold R.xcv_LANE_STATUS
      omega
    exact (Device.reg_setF_beside _ _ _ _ hne).trans (hbeside _ hne)
  obtain ⟨-, -, herrs, hpast⟩ := d1.boardReport_spec (pg := 0x2010000 + 0x1000 * l) (bit := 16) (by omega) (by omega) (by decide) 0x0100 0 0
  have hstat := hpast (R.xcv_LANE_STATUS l) (by unfold OfBoard R.xcv_LANE_STATUS; omega)
  refine completes_dev (f := lockLost l cdr k) (d := (d1.evtBit (0x2010000 + 0x1000 * l) 16).err (0x2010000 + 0x1000 * l) 0x0100 0 0) rfl (if_neg ?_)
    ⟨(congrArg (fld · 2 1) hstat).trans ((Device.rf_setF _ _ _ (by decide)).trans rfl),
      (congrArg (fld · 1 1) hstat).trans ((Device.rf_setF_beside _ _ _ (by decide) (by decide)).trans hcdr), herrs.trans (by rw [herr]), rfl, rfl⟩
  rw [show (s.dev.at k).rf (R.xcv_LANE_STATUS l) (if cdr = true then 1 else 2) 1 = 1 from h]
  decide

theorem completes_laneLocked {s : State} {l : Fin 32} (k : Nat) (h : s.dev.rf (R.xcv_LANE_CFG l) 0 1 = 1) : Completes (.laneLocked l k) s fun t =>
    t.dev.rf (R.xcv_LANE_STATUS l) 0 3 = (if s.dev.rf (R.xcv_LANE_CFG l) 1 2 = 0 then 3 else 7) ∧ KeepsRegs s t [R.xcv_LANE_STATUS l] ∧
      RegsOnly s t := by
  refine completes_dev (f := laneLocked l k) rfl (if_pos h) ⟨(Device.rf_setF _ _ _ (by decide)).trans (Nat.mod_eq_of_lt ?_),
    fun o ho => Device.reg_setF_beside _ _ _ _ (List.ne_of_not_mem_cons ho), rfl, rfl, rfl⟩
  split <;> decide

/-! ### Links (R509, R532) -/

theorem completes_ethLinkDown {s : State} {p : Fin 2} (k : Nat) (h : s.dev.ethUp p = true) : Completes (.ethLinkDown p k) s fun t =>
    t.dev.reg (R.eth_PORT_STATUS p) = 0 ∧ t.dev.rf (0x2030000 + 0x1000 * p + 0x20) 16 1 = 1 ∧
      t.dev.reg (0x2030000 + 0x1000 * p + 0x34) = satAdd (s.dev.reg (0x2030000 + 0x1000 * p + 0x34)) 1 ∧ KeepsHarts s t := by
  let d1 := (s.dev.at k).setN (R.eth_PORT_STATUS p) 0
  have hreg : ∀ o, d1.reg o = if o = R.eth_PORT_STATUS p then 0 else s.dev.reg o := fun _ => Device.reg_setReg _ _ _ _
  obtain ⟨-, hevt, herrs, hpast⟩ := d1.boardReport_spec (pg := 0x2030000 + 0x1000 * p) (bit := 16) (by omega) (by omega) (by decide) 0x0100
    (wd p.val) 0
  refine completes_dev (f := ethLinkDown p k) rfl (if_pos h) ⟨?_, hevt, herrs.trans ?_, rfl, rfl⟩
  · exact (hpast _ (by unfold OfBoard R.eth_PORT_STATUS; omega)).trans ((hreg _).trans (if_pos rfl))
  · rw [hreg, if_neg (by unfold R.eth_PORT_STATUS; omega)]

theorem completes_ethLinkUp {s : State} {p : Fin 2} (k : Nat) (h : s.dev.rf (R.eth_PORT_CFG p) 31 1 = 1) : Completes (.ethLinkUp p k) s fun t =>
    t.dev.rn (R.eth_PORT_STATUS p) = 1 + 2 * s.dev.rf (R.eth_PORT_CFG p) 5 1 ∧ KeepsRegs s t [R.eth_PORT_STATUS p] ∧ RegsOnly s t := by
  have hfec := fld_lt (s.dev.reg (R.eth_PORT_CFG p)) 5 1
  refine completes_dev (f := ethLinkUp p k) rfl (if_pos h) ⟨Device.rn_setN _ _ ?_,
    fun o ho => (Device.reg_setReg _ _ _ _).trans (if_neg (List.ne_of_not_mem_cons ho)), rfl, rfl, rfl⟩
  exact Nat.lt_of_le_of_lt (Nat.add_le_add_left (Nat.mul_le_mul_left 2 (Nat.le_of_lt_succ hfec)) 1) (by decide)

/-! ### What an event sends -/

theorem Device.msix_out_new (d : Device) (f v : Nat) {o : Output} (h : o ∈ (d.msix f v).out) : o ∈ d.out ∨ o = .msix f v := by
  unfold Device.msix at h
  dsimp only at h
  split at h
  · exact .inl h
  · split at h
    · exact .inl h
    · exact (List.mem_cons.1 h).symm

/-- An event sends an interrupt message at most. -/
theorem Device.evtBit_out_new (d : Device) (pg i : Nat) {o : Output} (h : o ∈ (d.evtBit pg i).out) : o ∈ d.out ∨ ∃ f v, o = .msix f v := by
  have hsend : ∀ e : Device, o ∈ (e.evtSend pg).out → o ∈ e.out ∨ ∃ f v, o = .msix f v := fun e he => by
    have hout : (e.evtSend pg).out = (if fld (e.reg (pg + 0x2C)) 30 1 = 1 then e.msix (e.routeFn pg) (fld (e.reg (pg + 0x2C)) 0 12) else e).out := by
      unfold Device.evtSend
      extract_lets route d1 held
      split <;> rfl
    have hroute := hout ▸ he
    split at hroute
    · exact (e.msix_out_new _ _ hroute).imp_right fun hm => ⟨_, _, hm⟩
    · exact .inl hroute
  unfold Device.evtBit Device.evt Device.evtRise at h
  split at h
  · have hrise := hsend _ h
    exact hrise
  · exact .inl h

/-! ### Frames received (R513, R516) -/

theorem Device.rn64_count64 (d : Device) (lo n : Nat) : (d.count64 lo n).rn64 lo = min (2 ^ 64 - 1) (d.rn64 lo + n) :=
  Device.rn64_setN64 _ _ (Nat.lt_of_le_of_lt (Nat.min_le_left _ _) (by decide))

theorem Device.reg_count64_beside (d : Device) {lo o : Nat} (n : Nat) (h : o ≠ lo ∧ o ≠ lo + 4) : (d.count64 lo n).reg o = d.reg o :=
  Device.reg_setN64 _ _ (by simp [h.1, h.2])

/-- Byte i of a little-endian number. -/
theorem fromLe_byte (l : List Byte) (i : Nat) : fromLe l / 256 ^ i % 256 = (l.getD i 0).toNat := by
  induction l generalizing i with
  | nil => rw [fromLe, Nat.zero_div, List.getD_nil]; rfl
  | cons b l ih =>
    have hb := b.isLt
    rw [fromLe]
    cases i with
    | zero =>
      rw [List.getD_cons_zero, Nat.pow_zero]
      omega
    | succ i =>
      rw [List.getD_cons_succ, Nat.pow_succ', ← Nat.div_div_eq_div_mul, ← ih, show (b.toNat + 256 * fromLe l) / 256 = fromLe l by omega]

/-- A word of four bytes, the missing ones 0: each of its bytes. -/
theorem fld_wordOf (l : List Byte) {i : Nat} (h : i < 4) :
    fld (wd (fromLe ((l ++ List.replicate 4 0).take 4))) (8 * i) 8 = (l.getD i 0).toNat := by
  rw [fld_wd (by omega), Nat.pow_mul, show (2 ^ 8 : Nat) = 256 by decide, fromLe_byte, List.getD_eq_getElem?_getD, List.getElem?_take_of_lt h,
    List.getD_eq_getElem?_getD]
  by_cases hi : i < l.length
  · rw [List.getElem?_append_left hi]
  · rw [List.getElem?_append_right (Nat.not_lt.1 hi), List.getElem?_eq_none (Nat.not_lt.1 hi), List.getElem?_replicate, if_pos (by omega)]
    rfl

/-- The words of a frame as they are written into a capture slot from its m-th word. -/
def Device.writeWords (d : Device) (p j m n : Nat) (l : List Byte) : Device :=
  ((chunk 4 n l).zipIdx m).foldl (fun d x => d.setN (R.eth_RX_SLOT_DATA p j x.2) (fromLe x.1)) d

theorem Device.writeWords_spec (d : Device) (p j m n : Nat) (l : List Byte) : (d.writeWords p j m n l).out = d.out ∧
    (∀ o, (∀ i, 4 * i < l.length → o ≠ R.eth_RX_SLOT_DATA p j (m + i)) → (d.writeWords p j m n l).reg o = d.reg o) ∧
    ∀ i < l.length, i < 4 * n →
      fld ((d.writeWords p j m n l).reg (R.eth_RX_SLOT_DATA p j (m + i / 4))) (8 * (i % 4)) 8 = (l.getD i 0).toNat := by
  induction n generalizing d l m with
  | zero => exact ⟨rfl, fun _ _ => rfl, fun i _ hi => absurd hi (Nat.not_lt_zero i)⟩
  | succ n ih =>
    cases l with
    | nil => exact ⟨rfl, fun _ _ => rfl, fun i hi => absurd hi (Nat.not_lt_zero i)⟩
    | cons b r =>
      obtain ⟨l, hl⟩ : ∃ l, l = b :: r := ⟨_, rfl⟩
      have hpos : 0 < l.length := hl ▸ Nat.succ_pos _
      rw [← hl]
      let d1 := d.setN (R.eth_RX_SLOT_DATA p j m) (fromLe ((l ++ List.replicate 4 0).take 4))
      obtain ⟨hout, hbeside, hbytes⟩ := ih d1 (m + 1) (l.drop 4)
      have hrun : d.writeWords p j m (n + 1) l = d1.writeWords p j (m + 1) n (l.drop 4) := by
        rw [show d1 = d.setN (R.eth_RX_SLOT_DATA p j m) (fromLe ((l ++ List.replicate 4 0).take 4)) from rfl, hl]
        rfl
      have hset : ∀ o, d1.reg o = if o = R.eth_RX_SLOT_DATA p j m then wd (fromLe ((l ++ List.replicate 4 0).take 4)) else d.reg o :=
        fun o => Device.reg_setReg _ _ _ _
      rw [hrun]
      refine ⟨hout, fun o ho => ?_, fun i hi hn => ?_⟩
      · rw [hbeside o fun i hi => ?_, hset, if_neg (show o ≠ R.eth_RX_SLOT_DATA p j m from ho 0 hpos)]
        have := ho (i + 1) (by rw [List.length_drop] at hi; omega)
        rwa [show m + (i + 1) = m + 1 + i by omega] at this
      · by_cases h4 : i < 4
        · rw [Nat.div_eq_of_lt h4, Nat.mod_eq_of_lt h4,
            hbeside _ fun i _ => by unfold R.eth_RX_SLOT_DATA; omega, hset, if_pos (by rw [Nat.add_zero])]
          exact fld_wordOf l h4
        · have := hbytes (i - 4) (by rw [List.length_drop]; omega) (by omega)
          rw [List.getD_eq_getElem?_getD, List.getElem?_drop, show 4 + (i - 4) = i by omega, show (i - 4) % 4 = i % 4 by omega,
            show m + 1 + (i - 4) / 4 = m + i / 4 by omega] at this
          exact this

/-- The lowest free slot takes a frame that fits. -/
theorem Device.capture_spec (d : Device) {p j : Nat} (hp : p < 2) (hj : j < 4) {b : List Byte} (hlen : b.length ≤ 256)
    (hfree : d.rf (R.eth_RX_SLOT_FULL p) j 1 = 0) (hfirst : ∀ i < j, d.rf (R.eth_RX_SLOT_FULL p) i 1 = 1) :
    (d.capture p b).rf (R.eth_RX_SLOT_FULL p) j 1 = 1 ∧ (d.capture p b).rn (R.eth_RX_SLOT_INFO p j) = b.length ∧
      (∀ i < b.length, fld ((d.capture p b).reg (R.eth_RX_SLOT_DATA p j (i / 4))) (8 * (i % 4)) 8 = (b.getD i 0).toNat) ∧
      ∀ o ∈ (d.capture p b).out, (∃ i, o = .frame 0 p i) → o ∈ d.out := by
  have hslot : ((List.range 4).find? fun s => decide (d.rf (R.eth_RX_SLOT_FULL p) s 1 = 0)) = some j :=
    List.find?_range_eq_some.2 ⟨decide_eq_true hfree, List.mem_range.2 hj, fun i hi => by rw [hfirst i hi]; rfl⟩
  let d1 := (d.setN (R.eth_RX_SLOT_INFO p j) b.length).setN (R.eth_RX_SLOT_TS p j) ((d.stamp p).2 + 2 ^ 30 * ((d.stamp p).1 % 4))
  let d2 := d1.writeWords p j 0 (b.length / 4 + 1) b
  have hrun : d.capture p b = (d2.setF (R.eth_RX_SLOT_FULL p) j 1 1).evtBit 0x2033000 (16 + p) := by
    unfold Device.capture
    rw [hslot]
    exact if_pos hlen
  obtain ⟨hout, hbeside, hbytes⟩ := d1.writeWords_spec p j 0 (b.length / 4 + 1) b
  have hlow : ∀ o < 0x2033400, d2.reg o = d1.reg o := fun o ho => hbeside o fun i _ => by unfold R.eth_RX_SLOT_DATA; omega
  have hevt : ∀ o, 0x2033100 ≤ o → (d.capture p b).reg o = (d2.setF (R.eth_RX_SLOT_FULL p) j 1 1).reg o := fun o ho => by
    rw [hrun, Device.evtBit_reg _ _ _ _ (by unfold R.hif_MSIX_DROPPED; omega), if_neg (by omega)]
  refine ⟨?_, ?_, fun i hi => ?_, fun o ho hframe => ?_⟩
  · exact (congrArg (fld · j 1) (hevt _ (by unfold R.eth_RX_SLOT_FULL; omega))).trans (Device.rf_setF _ _ _ (by omega))
  · have hinfo : (d.capture p b).reg (R.eth_RX_SLOT_INFO p j) = wd b.length := by
      rw [hevt _ (by unfold R.eth_RX_SLOT_INFO; omega),
        Device.reg_setF_beside _ _ _ _ (by unfold R.eth_RX_SLOT_INFO R.eth_RX_SLOT_FULL; omega), hlow _ (by unfold R.eth_RX_SLOT_INFO; omega)]
      refine (Device.reg_setReg _ _ _ _).trans ((if_neg (by unfold R.eth_RX_SLOT_INFO R.eth_RX_SLOT_TS; omega)).trans ?_)
      exact (Device.reg_setReg _ _ _ _).trans (if_pos rfl)
    rw [Device.rn, hinfo]
    exact (BitVec.toNat_ofNat _ _).trans (Nat.mod_eq_of_lt (by omega))
  · rw [hevt _ (by unfold R.eth_RX_SLOT_DATA; omega),
      Device.reg_setF_beside _ _ _ _ (by unfold R.eth_RX_SLOT_DATA R.eth_RX_SLOT_FULL; omega)]
    have := hbytes i hi (by omega)
    rwa [Nat.zero_add] at this
  · rw [hrun] at ho
    obtain ⟨i, rfl⟩ := hframe
    rcases Device.evtBit_out_new _ _ _ ho with h | ⟨f, v, h⟩
    · rw [show (d2.setF (R.eth_RX_SLOT_FULL p) j 1 1).out = d2.out from rfl, hout] at h
      exact h
    · exact absurd h (by simp)

section
variable {s : State} {p : Fin 2} {b : List (BitVec 8)} {good full : Bool} (k : Nat)

theorem completes_ethRxFrame_down (h : s.dev.ethUp p = false) : Completes (.ethRxFrame p b good full k) s fun t =>
    t.dev = s.dev.at k ∧ KeepsHarts s t :=
  completes_dev (f := ethRxFrame p b good full k) rfl (if_pos (by rw [show (s.dev.at k).ethUp p = false from h]; rfl)) ⟨rfl, rfl, rfl⟩

theorem completes_ethRxFrame_bad (hup : s.dev.ethUp p = true) (hbad : good = false ∨ b.length < 64 ∨ 9216 < b.length) :
    Completes (.ethRxFrame p b good full k) s fun t =>
      t.dev.reg (R.eth_RX_BAD p) = satAdd (s.dev.reg (R.eth_RX_BAD p)) 1 ∧ KeepsRegs s t [R.eth_RX_BAD p] ∧ RegsOnly s t := by
  refine completes_dev (f := ethRxFrame p b good full k) rfl ((if_neg ?_).trans (if_pos ?_)) ⟨(Device.reg_setReg _ _ _ _).trans (if_pos rfl),
    fun o ho => (Device.reg_setReg _ _ _ _).trans (if_neg (List.ne_of_not_mem_cons ho)), rfl, rfl, rfl⟩
  · rw [show (s.dev.at k).ethUp p = true from hup]
    decide
  · rcases hbad with rfl | h | h
    · rfl
    · simp [h]
    · simp [h]

/-- A good frame goes to the capture slots as it is steered, and to the client. -/
theorem ethRxFrame_good (hup : s.dev.ethUp p = true) (hgood : good = true) (hmin : 64 ≤ b.length) (hmax : b.length ≤ 9216) :
    ethRxFrame p b good full k s.dev =
      let d1 := (s.dev.at k).count64 (R.eth_RX_FRAMES_LO p) 1
      let steer := if isPtpFrame b then d1.rf (R.eth_PORT_CFG p) 8 2 else 0
      let d2 := if steer = 0 then d1 else d1.capture p b
      if steer = 1 then d2 else if d2.brst p || full then d2.count (R.eth_RX_OVERFLOW p) 1 else d2.emit (.frame 0 p b) := by
  refine (if_neg ?_).trans (if_neg ?_)
  · rw [show (s.dev.at k).ethUp p = true from hup]
    decide
  · rw [hgood, decide_eq_false (Nat.not_lt.2 hmin), decide_eq_false (Nat.not_lt.2 hmax)]
    decide

theorem completes_ethRxFrame_client (hup : s.dev.ethUp p = true) (hgood : good = true) (hmin : 64 ≤ b.length) (hmax : b.length ≤ 9216)
    (hptp : isPtpFrame b = false) (hrst : s.dev.brst p = false) : Completes (.ethRxFrame p b good full k) s fun t =>
      t.dev.rn64 (R.eth_RX_FRAMES_LO p) = min (2 ^ 64 - 1) (s.dev.rn64 (R.eth_RX_FRAMES_LO p) + 1) ∧
      t.dev.out = (if full then s.dev.out else .frame 0 p b :: s.dev.out) ∧
      (full = true → t.dev.reg (R.eth_RX_OVERFLOW p) = satAdd (s.dev.reg (R.eth_RX_OVERFLOW p)) 1) ∧
      KeepsRegs s t [R.eth_RX_FRAMES_LO p, R.eth_RX_FRAMES_HI p, R.eth_RX_OVERFLOW p] ∧ KeepsHarts s t := by
  obtain ⟨d1, hd1⟩ : ∃ d1, d1 = (s.dev.at k).count64 (R.eth_RX_FRAMES_LO p) 1 := ⟨_, rfl⟩
  have hframes : d1.rn64 (R.eth_RX_FRAMES_LO p) = min (2 ^ 64 - 1) (s.dev.rn64 (R.eth_RX_FRAMES_LO p) + 1) := hd1 ▸ Device.rn64_count64 _ _ _
  have hreg : ∀ o, o ≠ R.eth_RX_FRAMES_LO p → o ≠ R.eth_RX_FRAMES_HI p → d1.reg o = s.dev.reg o := fun o hlo hhi => by
    rw [hd1]
    refine Device.reg_count64_beside _ _ ⟨hlo, ?_⟩
    unfold R.eth_RX_FRAMES_LO
    unfold R.eth_RX_FRAMES_HI at hhi
    omega
  have hout : d1.out = s.dev.out := hd1 ▸ rfl
  have hrst1 : d1.brst p = false := (Device.brst_congr (d := s.dev) (fun o ho => hreg o (by unfold R.eth_RX_FRAMES_LO; omega)
    (by unfold R.eth_RX_FRAMES_HI; omega)) (by omega)).trans hrst
  have hrun : ethRxFrame p b good full k s.dev = if full then d1.count (R.eth_RX_OVERFLOW p) 1 else d1.emit (.frame 0 p b) := by
    rw [ethRxFrame_good k hup hgood hmin hmax, hptp, ← hd1]
    dsimp only
    rw [if_neg Bool.false_ne_true, if_neg Nat.zero_ne_one, if_pos rfl, hrst1]
    exact if_congr (by simp) rfl rfl
  cases full with
  | false =>
    exact completes_dev (f := ethRxFrame p b good false k) (d := d1.emit (.frame 0 p b)) rfl hrun ⟨hframes, congrArg (List.cons _) hout, nofun,
      fun o ho => hreg o (fun h => ho (by simp [h])) fun h => ho (by simp [h]), rfl, rfl⟩
  | true =>
    have hcount : ∀ o, (d1.count (R.eth_RX_OVERFLOW p) 1).reg o = if o = R.eth_RX_OVERFLOW p then satAdd (d1.reg o) 1 else d1.reg o := Device.reg_count _ _
    refine completes_dev (f := ethRxFrame p b good true k) (d := d1.count (R.eth_RX_OVERFLOW p) 1) rfl hrun ⟨?_, hout, fun _ => ?_, fun o ho => ?_, rfl, rfl⟩
    · refine (Device.rn64_congr fun o ho => (hcount o).trans (if_neg ?_)).trans hframes
      simp only [List.mem_cons, List.not_mem_nil, or_false] at ho
      unfold R.eth_RX_FRAMES_LO at ho
      unfold R.eth_RX_OVERFLOW
      omega
    · rw [hcount, if_pos rfl, hreg _ (by unfold R.eth_RX_OVERFLOW R.eth_RX_FRAMES_LO; omega) (by unfold R.eth_RX_OVERFLOW R.eth_RX_FRAMES_HI; omega)]
    · rw [hcount, if_neg fun h => ho (by simp [h])]
      exact hreg o (fun h => ho (by simp [h])) fun h => ho (by simp [h])

theorem completes_ethRxFrame_captured {j : Nat} (hup : s.dev.ethUp p = true) (hgood : good = true) (hmin : 64 ≤ b.length) (hj : j < 4)
    (hptp : isPtpFrame b = true) (hsteer : s.dev.rf (R.eth_PORT_CFG p) 8 2 = 1) (hlen : b.length ≤ 256)
    (hfree : s.dev.rf (R.eth_RX_SLOT_FULL p) j 1 = 0) (hfirst : ∀ i < j, s.dev.rf (R.eth_RX_SLOT_FULL p) i 1 = 1) :
    Completes (.ethRxFrame p b good full k) s fun t =>
      t.dev.rf (R.eth_RX_SLOT_FULL p) j 1 = 1 ∧ t.dev.rn (R.eth_RX_SLOT_INFO p j) = b.length ∧
      (∀ i < b.length, fld (t.dev.reg (R.eth_RX_SLOT_DATA p j (i / 4))) (8 * (i % 4)) 8 = (b.getD i 0).toNat) ∧
      (∀ o ∈ t.dev.out, (∃ i, o = .frame 0 p i) → o ∈ s.dev.out) ∧ KeepsHarts s t := by
  obtain ⟨d1, hd1⟩ : ∃ d1, d1 = (s.dev.at k).count64 (R.eth_RX_FRAMES_LO p) 1 := ⟨_, rfl⟩
  have hreg : ∀ o, o ≠ R.eth_RX_FRAMES_LO p → o ≠ R.eth_RX_FRAMES_LO p + 4 → d1.reg o = s.dev.reg o := fun o hlo hhi =>
    hd1 ▸ Device.reg_count64_beside _ _ ⟨hlo, hhi⟩
  have hfull : d1.reg (R.eth_RX_SLOT_FULL p) = s.dev.reg (R.eth_RX_SLOT_FULL p) :=
    hreg _ (by unfold R.eth_RX_SLOT_FULL R.eth_RX_FRAMES_LO; omega) (by unfold R.eth_RX_SLOT_FULL R.eth_RX_FRAMES_LO; omega)
  have hout : d1.out = s.dev.out := hd1 ▸ rfl
  have hsteer1 : d1.rf (R.eth_PORT_CFG p) 8 2 = 1 := (congrArg (fld · 8 2)
    (hreg _ (by unfold R.eth_PORT_CFG R.eth_RX_FRAMES_LO; omega) (by unfold R.eth_PORT_CFG R.eth_RX_FRAMES_LO; omega))).trans hsteer
  obtain ⟨h1, h2, h3, h4⟩ := d1.capture_spec p.isLt hj hlen ((congrArg (fld · j 1) hfull).trans hfree)
    fun i hi => (congrArg (fld · i 1) hfull).trans (hfirst i hi)
  have hrun : ethRxFrame p b good full k s.dev = d1.capture p b := by
    rw [ethRxFrame_good k hup hgood hmin (by omega), hptp, ← hd1]
    dsimp only
    rw [if_pos rfl, hsteer1]
    rfl
  generalize d1.capture p b = e at *
  exact completes_dev (f := ethRxFrame p b good full k) rfl hrun ⟨h1, h2, h3, fun o ho hf => hout ▸ h4 o ho hf, rfl, rfl⟩

end

/-! ### Frames sent (R513 to R516) -/

/-- The timestamp that a frame asks for is queued, or counted as lost. -/
def Device.keepStamp (d : Device) (p : Nat) (tag : Option Nat) (st : Nat × Nat) : Device :=
  match tag with
  | none => d
  | some g =>
    let l := Store.get noStamps d.board.txts p
    if l.length < 16 then { d with board := { d.board with txts := Store.set noStamps d.board.txts p (l ++ [⟨g, st.1, st.2⟩]) } }
    else d.count (R.eth_TXTS_LOST p) 1

/-- The frame as it leaves: as it is, or with its timestamp. -/
def Device.putFrame (d : Device) (p : Nat) (b : List Byte) (one : Option (Nat × Nat)) (st : Nat × Nat) : Device :=
  match one with
  | none => d.emit (.frame 1 p b)
  | some (o, c) => match oneStepFrame b o c st.1 st.2 with
    | some x => d.emit (.frame 1 p x)
    | none => (d.count (R.eth_ONESTEP_ERR p) 1).emit (.frame 1 p b)

theorem Device.ethSend_eq (d : Device) (p : Nat) (b : List Byte) (tag : Option Nat) (one : Option (Nat × Nat)) :
    d.ethSend p b tag one = ((d.count64 (R.eth_TX_FRAMES_LO p) 1).keepStamp p tag (d.stamp p)).putFrame p b one (d.stamp p) := by
  cases tag <;> cases one <;> rfl

theorem Device.keepStamp_spec (d : Device) (p : Nat) (tag : Option Nat) (st : Nat × Nat) : let l := Store.get noStamps d.board.txts p
    let e := d.keepStamp p tag st
    e.out = d.out ∧ e.board.txq = d.board.txq ∧ (∀ o, o ≠ R.eth_TXTS_LOST p → e.reg o = d.reg o) ∧
    (tag = none → Store.get noStamps e.board.txts p = l) ∧
    (∀ g, tag = some g → l.length < 16 → Store.get noStamps e.board.txts p = l ++ [⟨g, st.1, st.2⟩]) ∧
    ∀ g, tag = some g → 16 ≤ l.length → Store.get noStamps e.board.txts p = l ∧ e.reg (R.eth_TXTS_LOST p) = satAdd (d.reg (R.eth_TXTS_LOST p)) 1 := by
  intro l e
  cases tag with
  | none => exact ⟨rfl, rfl, fun _ _ => rfl, fun _ => rfl, nofun, nofun⟩
  | some g =>
    by_cases hl : l.length < 16
    · have he : e = { d with board := { d.board with txts := Store.set noStamps d.board.txts p (l ++ [⟨g, st.1, st.2⟩]) } } := if_pos hl
      clear_value e
      subst he
      refine ⟨rfl, rfl, fun _ _ => rfl, nofun, fun x hx _ => ?_, fun _ _ h => absurd hl (Nat.not_lt.2 h)⟩
      cases hx
      exact (Store.get_set _ _ _ _).trans (if_pos rfl)
    · have he : e = d.count (R.eth_TXTS_LOST p) 1 := if_neg hl
      clear_value e
      subst he
      exact ⟨rfl, rfl, fun o ho => (d.reg_count _ _).trans (if_neg ho), nofun, fun _ _ h => absurd h hl,
        fun _ _ _ => ⟨rfl, (d.reg_count _ _).trans (if_pos rfl)⟩⟩

theorem Device.putFrame_spec (d : Device) (p : Nat) (b : List Byte) (one : Option (Nat × Nat)) (st : Nat × Nat) :
    (d.putFrame p b one st).board = d.board ∧ ∀ o, o ≠ R.eth_ONESTEP_ERR p → (d.putFrame p b one st).reg o = d.reg o := by
  unfold Device.putFrame
  split
  · exact ⟨rfl, fun _ _ => rfl⟩
  · split
    · exact ⟨rfl, fun _ _ => rfl⟩
    · exact ⟨rfl, fun o ho => (d.reg_count _ _).trans (if_neg ho)⟩

/-- Whatever a frame asks for, it is counted, and the transmit slots that wait go on waiting. -/
theorem Device.ethSend_counts (d : Device) (p : Fin 2) (b : List Byte) (tag : Option Nat) (one : Option (Nat × Nat)) :
    (d.ethSend p b tag one).rn64 (R.eth_TX_FRAMES_LO p) = min (2 ^ 64 - 1) (d.rn64 (R.eth_TX_FRAMES_LO p) + 1) ∧
      (d.ethSend p b tag one).board.txq = d.board.txq := by
  have hp := p.isLt
  obtain ⟨-, htxq, hreg, -⟩ := (d.count64 (R.eth_TX_FRAMES_LO p) 1).keepStamp_spec p tag (d.stamp p)
  obtain ⟨hboard, hput⟩ := ((d.count64 (R.eth_TX_FRAMES_LO p) 1).keepStamp p tag (d.stamp p)).putFrame_spec p b one (d.stamp p)
  rw [Device.ethSend_eq]
  refine ⟨(Device.rn64_congr fun o ho => ?_).trans (Device.rn64_count64 _ _ _), (congrArg (·.txq) hboard :).trans htxq⟩
  simp only [List.mem_cons, List.not_mem_nil, or_false] at ho
  unfold R.eth_TX_FRAMES_LO at ho
  exact (hput o (by unfold R.eth_ONESTEP_ERR; omega)).trans (hreg o (by unfold R.eth_TXTS_LOST; omega))

section
variable {s : State} {p : Fin 2} {c : ClientFrame} (k : Nat)

theorem completes_ethTxFrame_client (hup : s.dev.ethUp p = true) (hq : ∀ x ∈ s.dev.board.txq, x / 2 ≠ p.val) (hrst : s.dev.brst p = false)
    (hmin : 64 ≤ c.bytes.length) (hmax : c.bytes.length ≤ 9216) (hone : c.oneStep = none) : Completes (.ethTxFrame p (some c) k) s fun t =>
      let l := Store.get noStamps s.dev.board.txts p
      (t.dev.rn64 (R.eth_TX_FRAMES_LO p) = min (2 ^ 64 - 1) (s.dev.rn64 (R.eth_TX_FRAMES_LO p) + 1) ∧ KeepsHarts s t) ∧
      t.dev.out = .frame 1 p c.bytes :: s.dev.out ∧ (c.tsReq = none → Store.get noStamps t.dev.board.txts p = l) ∧
      (∀ g, c.tsReq = some g → l.length < 16 → Store.get noStamps t.dev.board.txts p = l ++ [⟨g.toNat, ((s.dev.at k).stamp p).1, ((s.dev.at k).stamp p).2⟩]) ∧
      (∀ g, c.tsReq = some g → 16 ≤ l.length → Store.get noStamps t.dev.board.txts p = l ∧
        t.dev.reg (R.eth_TXTS_LOST p) = satAdd (s.dev.reg (R.eth_TXTS_LOST p)) 1) := by
  obtain ⟨hframes, -⟩ := (s.dev.at k).ethSend_counts p c.bytes (c.tsReq.map (·.toNat)) none
  obtain ⟨d1, hd1⟩ : ∃ d1, d1 = (s.dev.at k).count64 (R.eth_TX_FRAMES_LO p) 1 := ⟨_, rfl⟩
  have hout1 : d1.out = s.dev.out := hd1 ▸ rfl
  have hboard1 : d1.board = s.dev.board := hd1 ▸ rfl
  have hlost1 : d1.reg (R.eth_TXTS_LOST p) = s.dev.reg (R.eth_TXTS_LOST p) :=
    hd1 ▸ Device.reg_count64_beside _ _ ⟨by unfold R.eth_TXTS_LOST R.eth_TX_FRAMES_LO; omega, by unfold R.eth_TXTS_LOST R.eth_TX_FRAMES_LO; omega⟩
  obtain ⟨hout, -, -, hnone, hroom, hfull⟩ := d1.keepStamp_spec p (c.tsReq.map (·.toNat)) ((s.dev.at k).stamp p)
  rw [hboard1] at hnone hroom hfull
  have hsend : (s.dev.at k).ethSend p c.bytes (c.tsReq.map (·.toNat)) none =
      (d1.keepStamp p (c.tsReq.map (·.toNat)) ((s.dev.at k).stamp p)).emit (.frame 1 p c.bytes) := by
    rw [Device.ethSend_eq, hd1]
    rfl
  have hfind : ((s.dev.at k).board.txq.find? fun x => decide (x / 2 = p.val)) = none :=
    List.find?_eq_none.2 fun x hx h => hq x hx (of_decide_eq_true h)
  have hrun : ethTxFrame p (some c) k s.dev = (d1.keepStamp p (c.tsReq.map (·.toNat)) ((s.dev.at k).stamp p)).emit (.frame 1 p c.bytes) := by
    rw [← hsend]
    refine (if_neg ?_).trans ?_
    · rw [show (s.dev.at k).ethUp p = true from hup]
      decide
    · rw [hfind]
      refine (if_neg ?_).trans (by rw [hone])
      rw [show (s.dev.at k).brst p = false from hrst, decide_eq_false (Nat.not_lt.2 hmin), decide_eq_false (Nat.not_lt.2 hmax)]
      decide
  rw [hsend] at hframes
  generalize d1.keepStamp p (c.tsReq.map (·.toNat)) ((s.dev.at k).stamp p) = e at *
  refine completes_dev (f := ethTxFrame p (some c) k) (d := e.emit (.frame 1 p c.bytes)) rfl hrun ⟨⟨hframes, rfl, rfl⟩,
    congrArg (List.cons _) (hout.trans hout1), fun h => hnone (by rw [h]; rfl), fun g h hl => hroom g.toNat (by rw [h]; rfl) hl, fun g h hl => ?_⟩
  obtain ⟨hkept, hcount⟩ := hfull g.toNat (by rw [h]; rfl) hl
  exact ⟨hkept, hcount.trans (by rw [hlost1])⟩

theorem completes_ethTxFrame_slot (hup : s.dev.ethUp p = true) {x : Nat} {r : List Nat} (hq : s.dev.board.txq = x :: r) (hx : x / 2 = p.val) :
    Completes (.ethTxFrame p (some c) k) s fun t =>
      (t.dev.rn64 (R.eth_TX_FRAMES_LO p) = min (2 ^ 64 - 1) (s.dev.rn64 (R.eth_TX_FRAMES_LO p) + 1) ∧ KeepsHarts s t) ∧ t.dev.board.txq = r ∧
      t.dev.rf R.eth_TX_SLOT_DONE x 1 = 1 ∧ t.dev.rf (0x2033000 + 0x20) (18 + p) 1 = 1 := by
  have hfind : ((s.dev.at k).board.txq.find? fun x => decide (x / 2 = p.val)) = some x := by
    rw [show (s.dev.at k).board.txq = x :: r from hq]
    exact List.find?_cons_of_pos (decide_eq_true hx)
  let c' := s.dev.reg (R.eth_TX_SLOT_CTRL p (x % 2))
  let o := s.dev.reg (R.eth_TX_SLOT_OPT p (x % 2))
  let d0 := { s.dev.at k with board := { s.dev.board with txq := r } }
  obtain ⟨hframes, htxq⟩ := d0.ethSend_counts p ((s.dev.at k).slotBytes p (x % 2) (fld c' 0 9)) (if fld c' 16 1 = 1 then some (fld o 0 8) else none)
    (if fld c' 17 1 = 1 then some (fld o 8 8, fld o 16 8) else none)
  generalize hd1 : d0.ethSend p ((s.dev.at k).slotBytes p (x % 2) (fld c' 0 9)) (if fld c' 16 1 = 1 then some (fld o 0 8) else none)
    (if fld c' 17 1 = 1 then some (fld o 8 8, fld o 16 8) else none) = d1 at hframes htxq
  let d2 := d1.setF R.eth_TX_SLOT_DONE x 1 1
  have hrun : ethTxFrame p (some c) k s.dev = d2.evtBit 0x2033000 (18 + p) := by
    refine (if_neg ?_).trans ?_
    · rw [show (s.dev.at k).ethUp p = true from hup]
      decide
    · rw [hfind]
      dsimp only
      rw [show (s.dev.at k).board.txq.erase x = r by rw [show (s.dev.at k).board.txq = x :: r from hq]; exact List.erase_cons_head x r]
      exact congrArg (fun d : Device => (d.setF R.eth_TX_SLOT_DONE x 1 1).evtBit 0x2033000 (18 + p)) hd1
  have hevt : ∀ o, 0x2030000 ≤ o → o ≠ 0x2033000 + 0x20 → (d2.evtBit 0x2033000 (18 + p)).reg o = d2.reg o := fun o ho hne => by
    rw [Device.evtBit_reg _ _ _ _ (by unfold R.hif_MSIX_DROPPED; omega), if_neg hne]
  have hshows := d2.evtBit_shows (pg := 0x2033000) (by decide) (i := 18 + p) (by omega)
  have hboard := (congrArg Device.board (d2.evtBit_speaks 0x2033000 (18 + p)) :)
  refine completes_dev (f := ethTxFrame p (some c) k) rfl hrun ⟨⟨?_, rfl, rfl⟩, (congrArg (·.txq) hboard :).trans htxq, ?_, hshows⟩
  · refine (Device.rn64_congr fun o ho => ?_).trans hframes
    simp only [List.mem_cons, List.not_mem_nil, or_false] at ho
    unfold R.eth_TX_FRAMES_LO at ho
    exact (hevt o (by omega) (by omega)).trans (Device.reg_setF_beside _ _ _ _ (by unfold R.eth_TX_SLOT_DONE; omega))
  · exact (congrArg (fld · x 1) (hevt R.eth_TX_SLOT_DONE (by decide) (by decide))).trans (Device.rf_setF _ _ _ (by omega))

end

/-! ### Timestamps and transmit slots (R514, R516) -/

section
variable {s : State} {p : Fin 2} {q : Req}

theorem completes_txtsPop_empty (h : Reads s q (R.eth_TXTS_POP p) = true) (hnone : Store.get noStamps s.dev.board.txts p = []) :
    Completes (.txtsPop p q) s fun t => t.dev.reg (R.eth_TXTS_POP p) = 0 ∧ KeepsRegs s t [R.eth_TXTS_POP p] := by
  refine completes_dev (f := txtsPop p q) (d := (s.dev.at q.t).setN (R.eth_TXTS_POP p) 0) rfl ((Device.readAt_of_reads h).trans ?_)
    ⟨(Device.reg_setReg _ _ _ _).trans (if_pos rfl), fun o ho => (Device.reg_setReg _ _ _ _).trans (if_neg (List.ne_of_not_mem_cons ho))⟩
  dsimp only
  rw [show Store.get noStamps (s.dev.at q.t).board.txts p = [] from hnone]

theorem completes_txtsPop (h : Reads s q (R.eth_TXTS_POP p) = true) {x : TxStamp} {l : List TxStamp}
    (hsome : Store.get noStamps s.dev.board.txts p = x :: l) (hl : l.length < 16) : Completes (.txtsPop p q) s fun t =>
      Store.get noStamps t.dev.board.txts p = l ∧ t.dev.rf (R.eth_TXTS_POP p) 31 1 = 1 ∧ t.dev.rf (R.eth_TXTS_POP p) 8 8 = x.tag % 256 ∧
      t.dev.reg (R.eth_TXTS_SEC p) = wd x.sec ∧ t.dev.reg (R.eth_TXTS_NS p) = wd x.ns ∧
      KeepsRegs s t [R.eth_TXTS_POP p, R.eth_TXTS_SEC p, R.eth_TXTS_NS p] ∧ KeepsHarts s t := by
  let n := l.length + 256 * (x.tag % 256) + 2 ^ 31
  let d0 := { s.dev.at q.t with board := { s.dev.board with txts := Store.set noStamps s.dev.board.txts p l } }
  let d1 := ((d0.setN (R.eth_TXTS_POP p) n).setN (R.eth_TXTS_SEC p) (x.sec % 2 ^ 32)).setN (R.eth_TXTS_NS p) x.ns
  have hreg : ∀ o, d1.reg o = if o = R.eth_TXTS_NS p then wd x.ns else if o = R.eth_TXTS_SEC p then wd (x.sec % 2 ^ 32) else
      if o = R.eth_TXTS_POP p then wd n else s.dev.reg o := fun o => by
    refine (Device.reg_setReg _ _ _ _).trans (if_congr Iff.rfl rfl ?_)
    refine (Device.reg_setReg _ _ _ _).trans (if_congr Iff.rfl rfl ?_)
    exact Device.reg_setReg _ _ _ _
  have hpop : d1.reg (R.eth_TXTS_POP p) = wd n := by
    rw [hreg, if_neg (by unfold R.eth_TXTS_POP R.eth_TXTS_NS; omega), if_neg (by unfold R.eth_TXTS_POP R.eth_TXTS_SEC; omega), if_pos rfl]
  have hsec : d1.reg (R.eth_TXTS_SEC p) = wd (x.sec % 2 ^ 32) := by
    rw [hreg, if_neg (by unfold R.eth_TXTS_SEC R.eth_TXTS_NS; omega), if_pos rfl]
  have htag : x.tag % 256 < 256 := Nat.mod_lt _ (by decide)
  refine completes_dev (f := txtsPop p q) (d := d1) rfl ((Device.readAt_of_reads h).trans ?_) ⟨?_, ?_, ?_, ?_, (hreg _).trans (if_pos rfl),
    fun o ho => ?_, rfl, rfl⟩
  · dsimp only
    rw [show Store.get noStamps (s.dev.at q.t).board.txts p = x :: l from hsome]
    rfl
  · change Store.get noStamps (Store.set noStamps s.dev.board.txts p l) p = l
    rw [Store.get_set, if_pos rfl]
  · rw [Device.rf, hpop, fld_wd (by decide)]
    dsimp only [n]
    omega
  · rw [Device.rf, hpop, fld_wd (by decide)]
    dsimp only [n]
    omega
  · rw [hsec]
    exact BitVec.eq_of_toNat_eq (by rw [wd, wd, BitVec.toNat_ofNat, BitVec.toNat_ofNat, Nat.mod_mod])
  · simp only [List.mem_cons, List.not_mem_nil, or_false, not_or] at ho
    obtain ⟨h1, h2, h3⟩ := ho
    exact (hreg o).trans ((if_neg h3).trans ((if_neg h2).trans (if_neg h1)))

/-- The fields of TX_SLOT_CTRL in the register table: the length, the timestamp request, one-step, and GO. -/
def txSlotFields : List RField := [⟨0, 9, .rw, 0, .any, none⟩, ⟨16, 1, .rw, 0, .any, none⟩, ⟨17, 1, .rw, 0, .any, none⟩, ⟨31, 1, .wo, 0, .any, none⟩]

theorem regDefAt_txSlot : ∀ p j : Fin 2, (regDefAt (R.eth_TX_SLOT_CTRL p j)).map (·.fields) = some txSlotFields := by decide

/-- A write of a slot's control takes its length, and nothing else of the device moves. -/
theorem Device.writeFields_txSlot (d : Device) (port : Port) (p j : Fin 2) (v : Word) : ∃ w,
    d.writeFields port (R.eth_TX_SLOT_CTRL p j) v = d.setReg (R.eth_TX_SLOT_CTRL p j) w ∧ fld w 0 9 = fld v 0 9 := by
  obtain ⟨r, hr, hfields⟩ := Option.map_eq_some_iff.1 (regDefAt_txSlot p j)
  refine ⟨_, (d.writeFields_eq hr fun f hf => ?_).trans (if_neg ?_), ?_⟩
  · rw [hfields] at hf
    simp only [txSlotFields, List.mem_cons, List.not_mem_nil, or_false] at hf
    rcases hf with rfl | rfl | rfl | rfl <;> exact ⟨rfl, fun _ => rfl⟩
  · rw [RegDef.rwc, hfields]
    decide
  · rw [hfields]
    change fld (setFld (setFld (setFld (d.reg (R.eth_TX_SLOT_CTRL p j)) 0 9 (fld v 0 9)) 16 1 (fld v 16 1)) 17 1 (fld v 17 1)) 0 9 = _
    rw [fld_setFld_beside _ _ (by decide) (by decide), fld_setFld_beside _ _ (by decide) (by decide), fld_setFld _ _ (by decide)]
    exact Nat.mod_eq_of_lt (fld_lt v 0 9)

theorem errPage_txSlot : ∀ p j : Fin 2, errPage (R.eth_TX_SLOT_CTRL p j) = 0x2033000 := by decide

theorem completes_txSlotGo {j : Fin 2} (hw : Writes s q (R.eth_TX_SLOT_CTRL p j) = true) (hgo : fld q.data 31 1 = 1) :
    (64 ≤ fld q.data 0 9 → fld q.data 0 9 ≤ 256 → 2 * p.val + j.val ∉ s.dev.board.txq → Completes (.txSlotGo p j q) s fun t =>
      t.dev.board.txq = s.dev.board.txq ++ [2 * p.val + j.val] ∧ t.dev.rf (R.eth_TX_SLOT_CTRL p j) 0 9 = fld q.data 0 9 ∧ KeepsHarts s t) ∧
    (fld q.data 0 9 < 64 ∨ 256 < fld q.data 0 9 → Completes (.txSlotGo p j q) s fun t => t.dev.board.txq = s.dev.board.txq ∧
      t.dev.reg (0x2033000 + 0x34) = satAdd (s.dev.reg (0x2033000 + 0x34)) 1 ∧ KeepsHarts s t) := by
  obtain ⟨w, hwrite, hlen⟩ := (s.dev.at q.t).writeFields_txSlot q.port p j q.data
  let d1 := (s.dev.at q.t).setReg (R.eth_TX_SLOT_CTRL p j) w
  have hreg : ∀ o, d1.reg o = if o = R.eth_TX_SLOT_CTRL p j then w else s.dev.reg o := fun o => Device.reg_setReg _ _ _ _
  have hrun : txSlotGo p j q s.dev = if fld q.data 0 9 < 64 ∨ 256 < fld q.data 0 9 then d1.errValue 0x0003 q.port (R.eth_TX_SLOT_CTRL p j) q.data
      else if d1.board.txq.contains (2 * p.val + j.val) then d1
      else { d1 with board := { d1.board with txq := d1.board.txq ++ [2 * p.val + j.val] } } := by
    refine (Device.writeAt_of_writes hw).trans ?_
    dsimp only
    rw [hwrite, if_neg (by rw [hgo]; decide)]
  refine ⟨fun hmin hmax hnew => ?_, fun hbad => ?_⟩
  · refine completes_dev (f := txSlotGo p j q) rfl (hrun.trans ((if_neg ?_).trans (if_neg ?_))) ⟨rfl, ?_, rfl, rfl⟩
    · omega
    · rw [List.contains_iff_mem]
      exact hnew
    · exact (congrArg (fld · 0 9) ((hreg _).trans (if_pos rfl))).trans hlen
  · have herr : d1.errValue 0x0003 q.port (R.eth_TX_SLOT_CTRL p j) q.data =
        d1.err 0x2033000 0x0003 (accessInfo q.port (R.eth_TX_SLOT_CTRL p j) true) q.data := by
      rw [Device.errValue, errPage_txSlot]
    refine completes_dev (f := txSlotGo p j q) rfl (hrun.trans ((if_pos hbad).trans herr)) ⟨?_, ?_, rfl, rfl⟩
    · exact (congrArg (·.txq) (Device.err_speaks d1 _ _ _ _).board_eq :)
    · rw [Device.err_count _ _ _ _ _ (notMem_faultRegs_above (by decide)), hreg, if_neg (by unfold R.eth_TX_SLOT_CTRL; omega)]

end


/-! ### PTP clocks (R511, R512) -/

/-- The moment and the PTP clocks stand. -/
def Device.KeepsTime (d e : Device) : Prop := e.now = d.now ∧ e.plb.ptp = d.plb.ptp

theorem Device.KeepsTime.trans {d e f : Device} (h : d.KeepsTime e) (g : e.KeepsTime f) : d.KeepsTime f := ⟨g.1.trans h.1, g.2.trans h.2⟩

theorem Device.Schedules.keepsTime {d e : Device} (h : d.Schedules e) : d.KeepsTime e :=
  ⟨(congrArg Device.now h :), (congrArg (fun x : Device => x.plb.ptp) h :)⟩

theorem Device.setCh_keepsTime (d : Device) (c : Nat) (x : Chan) : d.KeepsTime (d.setCh c x) := ⟨rfl, rfl⟩

theorem Device.syncCh_keepsTime (d : Device) (c : Nat) : d.KeepsTime (d.syncCh c) := by
  unfold Device.syncCh
  extract_lets x t k ns
  split
  · exact ⟨rfl, rfl⟩
  split
  · exact ⟨rfl, rfl⟩
  split
  · exact d.setCh_keepsTime _ _
  · exact ⟨rfl, rfl⟩
  · dsimp only
    split
    · exact (Device.evtBit_speaks (d.setCh c _) _ _).schedules.keepsTime.trans (Device.repredictCh_schedules _ _).keepsTime
    · exact d.setCh_keepsTime _ _

/-- What a channel that counts the clock of port p does when that clock steps. -/
def Device.jumpCh (p : Nat) (d : Device) (c : Nat) : Device :=
  let x := d.ch c
  let k := d.ptpNs p d.now.tick - x.ns
  let ns := d.ptpNs p d.now.tick
  if x.st = .coasting ∧ d.ptpValid p then
    let r := applyCounts (d.chNum c) (d.chDen c) x.followU x.followRem k
    d.setCh c { x with followU := r.1, followRem := r.2, ns := ns }
  else if d.ptpValid p && (d.ch c).st != .off && (d.ch c).st != .coasting then
    let r := applyCounts (d.chNum c) (d.chDen c) x.u x.rem k
    let d3 := d.setCh c { x with u := r.1, rem := r.2, ns := ns, tEdge := d.now.tick }
    (d3.dueReached c (d3.chU c) ⟨d3.now.tick, false, false, true, 0⟩).repredictCh c
  else d.setCh c { x with ns := ns }

theorem Device.jumpCh_keepsTime (p : Nat) (d : Device) (c : Nat) : d.KeepsTime (d.jumpCh p c) := by
  unfold Device.jumpCh
  extract_lets x k ns r r' d3
  split
  · exact d.setCh_keepsTime _ _
  split
  · exact (d.setCh_keepsTime c _).trans ((d3.dueReached_schedules c _ _).keepsTime.trans (Device.repredictCh_schedules _ c).keepsTime)
  · exact d.setCh_keepsTime _ _

theorem Device.foldl_keepsTime {f : Device → Nat → Device} (hf : ∀ (d : Device) (c : Nat), d.KeepsTime (f d c)) (l : List Nat) (d : Device) : d.KeepsTime (l.foldl f d) :=
  List.foldlRecOn _ _ (motive := fun e : Device => d.KeepsTime e) ⟨rfl, rfl⟩ fun _ he c _ => he.trans (hf _ c)

/-- The clock shows the value that the step makes of it, at the next tick. -/
theorem Device.ptpStepTo_spec (d : Device) (p : Nat) (f : Int → Int) : (d.ptpStepTo p f).now.tick = d.now.tick + 1 ∧
    (Store.get ptpClk0 (d.ptpStepTo p f).plb.ptp p).value = f (d.ptpAt p (d.now.tick + 1)) := by
  let d0 := d.at (d.now.tick + 1)
  have htick : d0.now.tick = d.now.tick + 1 := Nat.max_eq_right (Nat.le_succ _)
  let chs := (List.range 8).filter fun c => d0.chEnabled c && d0.srcKind c == 2 && d0.srcPort c == p
  let d1 := chs.foldl (fun d c => (d.duePredicted c (· ≤ d.now.tick)).syncCh c) d0
  let d2 := { d1 with plb := { d1.plb with ptp := Store.set ptpClk0 d1.plb.ptp p ⟨f (d0.ptpAt p d0.now.tick), d1.now.tick, some (d0.ptpAt p d0.now.tick)⟩ } }
  have hrun : d.ptpStepTo p f = chs.foldl (Device.jumpCh p) d2 := rfl
  have h1 : d0.KeepsTime d1 := Device.foldl_keepsTime (fun e c => (e.duePredicted_schedules c _).keepsTime.trans (Device.syncCh_keepsTime _ c)) chs d0
  have h2 : d2.KeepsTime (d.ptpStepTo p f) := hrun ▸ Device.foldl_keepsTime (Device.jumpCh_keepsTime p) chs d2
  refine ⟨?_, ?_⟩
  · rw [h2.1]
    exact (congrArg (·.tick) h1.1 :).trans htick
  · rw [h2.2]
    change (Store.get ptpClk0 (Store.set ptpClk0 d1.plb.ptp p _) p).value = _
    rw [Store.get_set, if_pos rfl]
    dsimp only
    rw [htick]
    rfl

section
variable {s : State} {p : Fin 2} {q : Req}

theorem completes_ptpStep (hport : portCode q.port = 0 ∨ portCode q.port = 7) (hw : Writes s q (R.eth_PTP_STEP_HI p) = true) :
    let d := s.dev.at q.t
    Completes (.ptpStep p q) s fun t => t.dev.now.tick = d.now.tick + 1 ∧
      let lo := ((s.dev.pairOf q.port (R.eth_PTP_STEP_LO p)).staged.getD (s.dev.reg (R.eth_PTP_STEP_LO p))).toNat
      (Store.get ptpClk0 t.dev.plb.ptp p).value = s.dev.ptpAt p (d.now.tick + 1) + sext 64 (lo + 2 ^ 32 * q.data.toNat) * 2 ^ 32 := by
  intro d
  let lo := (s.dev.pairOf q.port (R.eth_PTP_STEP_LO p)).staged.getD (s.dev.reg (R.eth_PTP_STEP_LO p))
  let d1 := d.writePairHi q.port (R.eth_PTP_STEP_LO p) q.data
  have hreg : ∀ o, d1.reg o = if o = R.eth_PTP_STEP_LO p + 4 then q.data else if o = R.eth_PTP_STEP_LO p then lo else s.dev.reg o := fun o => by
    refine (Device.reg_setReg _ _ _ _).trans (if_congr Iff.rfl rfl ?_)
    exact Device.reg_setReg _ _ _ _
  have hpair : d1.rn64 (R.eth_PTP_STEP_LO p) = lo.toNat + 2 ^ 32 * q.data.toNat := by
    rw [Device.rn64, Device.rn, Device.rn, hreg, hreg, if_neg (by omega), if_pos rfl, if_pos rfl]
  have hclock : d1.ptpAt p (d1.now.tick + 1) = s.dev.ptpAt p (d.now.tick + 1) := by
    have hadj : d1.rn (R.eth_PTP_ADJ p) = s.dev.rn (R.eth_PTP_ADJ p) := congrArg BitVec.toNat ((hreg _).trans ((if_neg (by
      unfold R.eth_PTP_ADJ R.eth_PTP_STEP_LO
      omega)).trans (if_neg (by unfold R.eth_PTP_ADJ R.eth_PTP_STEP_LO; omega))))
    unfold Device.ptpAt
    rw [hadj]
    rfl
  obtain ⟨htick, hvalue⟩ := d1.ptpStepTo_spec p fun v => v + sext 64 (d1.rn64 (R.eth_PTP_STEP_LO p)) * 2 ^ 32
  rw [hclock, hpair] at hvalue
  have hrun : ptpStep p q s.dev = d1.ptpStepTo p fun v => v + sext 64 (d1.rn64 (R.eth_PTP_STEP_LO p)) * 2 ^ 32 :=
    (Device.writeAt_of_writes hw).trans (if_pos hport)
  rw [hpair] at hrun htick
  generalize d1.ptpStepTo p (fun v => v + sext 64 (lo.toNat + 2 ^ 32 * q.data.toNat) * 2 ^ 32) = e at htick hvalue hrun
  exact completes_dev (f := ptpStep p q) rfl hrun ⟨htick, hvalue⟩

theorem completes_ptpSetGo (hport : portCode q.port = 0 ∨ portCode q.port = 7) (hw : Writes s q (R.eth_PTP_SET_GO p) = true)
    (hgo : fld q.data 0 1 = 1) : let d := s.dev.at q.t
    Completes (.ptpSetGo p q) s fun t => t.dev.now.tick = d.now.tick + 1 ∧ (Store.get ptpClk0 t.dev.plb.ptp p).value =
      (((s.dev.rn (R.eth_PTP_SET_SEC_LO p) + 2 ^ 32 * s.dev.rf (R.eth_PTP_SET_SEC_HI p) 0 16) * 1000000000 + s.dev.rn (R.eth_PTP_SET_NS p) : Nat) : Int)
        * 2 ^ 32 := by
  intro d
  let v : Int := (((s.dev.rn (R.eth_PTP_SET_SEC_LO p) + 2 ^ 32 * s.dev.rf (R.eth_PTP_SET_SEC_HI p) 0 16) * 1000000000 +
    s.dev.rn (R.eth_PTP_SET_NS p) : Nat) : Int) * 2 ^ 32
  obtain ⟨htick, hvalue⟩ := d.ptpStepTo_spec p fun _ => v
  have hrun : ptpSetGo p q s.dev = d.ptpStepTo p fun _ => v :=
    (Device.writeAt_of_writes hw).trans ((if_pos hport).trans (if_neg (by rw [hgo]; decide)))
  generalize d.ptpStepTo p (fun _ => v) = e at htick hvalue hrun
  exact completes_dev (f := ptpSetGo p q) rfl hrun ⟨htick, hvalue⟩

end

/-- Settles O48, one lemma for each row of chapter 19; a PTP step and set that take effect at the tick after the write rest on log entry 99, and
PTP frames behind a VLAN tag on entry 105. -/
theorem ethernetBanksAndPtpClocks : Obligations.EthernetBanksAndPtpClocks := by
  unfold Obligations.EthernetBanksAndPtpClocks
  refine ⟨fun s b mv k hmv => ⟨fun h => completes_vccoGood k hmv h, fun h hgood => completes_vccoFault k hmv h hgood⟩,
    fun s l k => ⟨fun cdr h => completes_lockLost k cdr h, fun h => completes_laneLocked k h⟩,
    fun s p b good full k => ⟨fun h => completes_ethRxFrame_down k h, fun hup hbad => completes_ethRxFrame_bad k hup hbad,
      fun hup hgood hmin hmax => ⟨fun hptp hrst => completes_ethRxFrame_client k hup hgood hmin hmax hptp hrst,
        fun j hj hptp hsteer hlen hfree hfirst => completes_ethRxFrame_captured k hup hgood hmin hj hptp hsteer hlen hfree hfirst⟩⟩,
    fun s p c k hup => ⟨fun hq hrst hmin hmax hone => completes_ethTxFrame_client k hup hq hrst hmin hmax hone,
      fun x r hq hx => completes_ethTxFrame_slot k hup hq hx⟩,
    fun s p k => ⟨fun h => completes_ethLinkDown k h, fun h => completes_ethLinkUp k h⟩,
    fun s p q h => ⟨fun hnone => completes_txtsPop_empty h hnone, fun x l hsome hl => completes_txtsPop h hsome hl⟩,
    fun s p q hport => ⟨fun hw => completes_ptpStep hport hw, fun hw hgo => completes_ptpSetGo hport hw hgo⟩,
    fun s p j q hw hgo => completes_txSlotGo hw hgo⟩

end Sys2Proof.Machine
end

section
/-! PROOFS. The VCORE regulator, PMBus telemetry, ramps, the package cap and the hold of a pausing commit (R451 to R463); O45. -/
namespace Sys2Proof.Machine

theorem Device.Speaks.pow_eq {d e : Device} (h : d.Speaks e) : e.pow = d.pow := (congrArg Device.pow h :)

theorem Device.reg_setPow (d : Device) (x : Pow) (o : Nat) : (d.setPow x).reg o = d.reg o := rfl
theorem Device.reg_emit (d : Device) (x : Output) (o : Nat) : (d.emit x).reg o = d.reg o := rfl

/-! ### VCORE (R451) -/

theorem errPage_vcore : errPage R.pow_VCORE_SET = 0xC000 := by decide

section
variable {s : State} {q : Req}

theorem completes_vcoreSetWrite (hw : Writes s q R.pow_VCORE_SET = true) (hmin : 550 ≤ fld q.data 0 10) (hmax : fld q.data 0 10 ≤ Config.vmax % 1024)
    (hfloor : floorOk s.dev.reg (fld q.data 0 10) = true) (hpend : ∀ c ∈ s.dev.pend, c.page = 0xC000 → floorOk c.get (fld q.data 0 10) = true) :
    Completes (.vcoreSetWrite q) s fun t => t.dev.rf R.pow_VCORE_SET 0 10 = fld q.data 0 10 ∧ t.dev.rf R.pow_POW_STATUS 19 1 = 1 ∧
      t.dev.rf R.pow_POW_STATUS 20 1 = 0 ∧ t.dev.rf R.pow_POW_STATUS 0 19 = s.dev.rf R.pow_POW_STATUS 0 19 ∧
      t.dev.out = .avs (fld q.data 0 10) :: s.dev.out ∧ t.dev.pow.avs = some (s.dev.at q.t).now.tick ∧
      KeepsRegs s t [R.pow_VCORE_SET, R.pow_POW_STATUS] ∧ KeepsHarts s t := by
  let v := fld q.data 0 10
  let a := (s.dev.at q.t).setF R.pow_VCORE_SET 0 10 v
  let b := a.setF R.pow_POW_STATUS 19 1 1
  let d1 := b.setF R.pow_POW_STATUS 20 1 0
  have hbeside : ∀ o, o ≠ R.pow_POW_STATUS → d1.reg o = a.reg o := fun o ho =>
    (b.reg_setF_beside 20 1 0 ho).trans (a.reg_setF_beside 19 1 1 ho)
  have hset : a.rf R.pow_VCORE_SET 0 10 = v := (Device.rf_setF _ _ _ (by decide)).trans (Nat.mod_eq_of_lt (fld_lt _ 0 10))
  have hlow : d1.rf R.pow_POW_STATUS 0 19 = a.rf R.pow_POW_STATUS 0 19 :=
    (b.rf_setF_beside _ 0 (by decide) (by decide)).trans (a.rf_setF_beside _ 1 (by decide) (by decide))
  have h19 : d1.rf R.pow_POW_STATUS 19 1 = 1 := (b.rf_setF_beside _ 0 (by decide) (by decide)).trans (Device.rf_setF _ _ _ (by decide))
  have h20 : d1.rf R.pow_POW_STATUS 20 1 = 0 := Device.rf_setF _ _ _ (by decide)
  have hold : a.reg R.pow_POW_STATUS = s.dev.reg R.pow_POW_STATUS := Device.reg_setF_beside (s.dev.at q.t) _ _ _ (by decide)
  have hok : (s.dev.at q.t).vcoreOk v = true := by
    unfold Device.vcoreOk
    rw [decide_eq_true ⟨hmin, hmax⟩, Bool.true_and, Bool.and_eq_true]
    refine ⟨hfloor, List.all_eq_true.2 fun c hc => ?_⟩
    by_cases h : c.page = 0xC000
    · rw [hpend c hc h, Bool.or_true]
    · rw [beq_false_of_ne h]
      rfl
  obtain ⟨e, he⟩ : ∃ e, e = (d1.emit (.avs v)).setPow { d1.pow with avs := some d1.now.tick } := ⟨_, rfl⟩
  have hreg : ∀ o, e.reg o = d1.reg o := fun o => by rw [he, Device.reg_setPow, Device.reg_emit]
  have hout : e.out = .avs v :: s.dev.out := he ▸ rfl
  have havs : e.pow.avs = some (s.dev.at q.t).now.tick := he ▸ rfl
  have hrun : vcoreSetWrite q s.dev = e := he ▸ (Device.writeAt_of_writes hw).trans (if_pos hok)
  refine completes_dev (f := vcoreSetWrite q) rfl hrun ⟨?_, (congrArg (fld · 19 1) (hreg _)).trans h19, (congrArg (fld · 20 1) (hreg _)).trans h20,
    ?_, hout, havs, fun o ho => ?_, rfl, rfl⟩
  · exact (congrArg (fld · 0 10) ((hreg _).trans (hbeside R.pow_VCORE_SET (by decide)))).trans hset
  · exact (congrArg (fld · 0 19) (hreg _)).trans (hlow.trans (congrArg (fld · 0 19) hold))
  · simp only [List.mem_cons, List.not_mem_nil, or_false, not_or] at ho
    obtain ⟨h1, h2⟩ := ho
    exact (hreg o).trans ((hbeside o h2).trans (Device.reg_setF_beside (s.dev.at q.t) _ _ _ h1))

theorem completes_vcoreSetWrite_range (hw : Writes s q R.pow_VCORE_SET = true) (hv : fld q.data 0 10 < 550 ∨ Config.vmax % 1024 < fld q.data 0 10) :
    Completes (.vcoreSetWrite q) s fun t => t.dev.reg R.pow_VCORE_SET = s.dev.reg R.pow_VCORE_SET ∧
      t.dev.pow = s.dev.pow ∧ t.dev.reg (0xC000 + 0x34) = satAdd (s.dev.reg (0xC000 + 0x34)) 1 ∧ KeepsHarts s t := by
  let d := s.dev.at q.t
  have hbad : ¬d.vcoreOk (fld q.data 0 10) = true := fun h => by
    unfold Device.vcoreOk at h
    rw [Bool.and_eq_true, Bool.and_eq_true, decide_eq_true_eq] at h
    omega
  have hrun : vcoreSetWrite q s.dev = d.err 0xC000 0x0003 (accessInfo q.port R.pow_VCORE_SET true) q.data := by
    refine (Device.writeAt_of_writes hw).trans ((if_neg hbad).trans ?_)
    rw [Device.errValue, errPage_vcore]
  refine completes_dev (f := vcoreSetWrite q) rfl hrun ⟨d.err_reg_noReport (by decide) _ _ _ (by unfold OfNoReport; decide),
    (d.err_speaks _ _ _ _).pow_eq, d.err_count _ _ _ _ (by decide), rfl, rfl⟩

end

section
variable {s : State} (r : Option Nat) {k wr : Nat}

/-- The fault of the regulator: the event and the error, no transaction in progress, and no register past the header but the status. -/
theorem Device.avsFault_spec (d : Device) : d.avsFault.rf R.pow_POW_STATUS 19 1 = 0 ∧ d.avsFault.rf R.pow_POW_STATUS 20 1 = 1 ∧
    d.avsFault.pow.avs = none ∧ d.avsFault.rf (0xC000 + 0x20) 19 1 = 1 ∧
    d.avsFault.reg (0xC000 + 0x34) = satAdd (d.reg (0xC000 + 0x34)) 1 := by
  let a := d.setF R.pow_POW_STATUS 19 1 0
  let b := a.setF R.pow_POW_STATUS 20 1 1
  obtain ⟨d1, hd1⟩ : ∃ d1, d1 = b.setPow { d.pow with avs := none } := ⟨_, rfl⟩
  have hreg : ∀ o, d1.reg o = b.reg o := fun o => by rw [hd1, Device.reg_setPow]
  have havs : d1.pow.avs = none := hd1 ▸ rfl
  have hfault : d.avsFault = (d1.evtBit 0xC000 19).err 0xC000 0x0100 (wd d1.vcore) 0 := by
    rw [hd1]
    rfl
  have h19 : b.rf R.pow_POW_STATUS 19 1 = 0 := (a.rf_setF_beside _ 1 (by decide) (by decide)).trans (Device.rf_setF _ _ _ (by decide))
  have h20 : b.rf R.pow_POW_STATUS 20 1 = 1 := Device.rf_setF _ _ _ (by decide)
  rw [hfault]
  have hstatus : ((d1.evtBit 0xC000 19).err 0xC000 0x0100 (wd d1.vcore) 0).reg R.pow_POW_STATUS = b.reg R.pow_POW_STATUS := by
    refine (Device.err_reg_noReport _ (by decide) _ _ _ (by unfold OfNoReport; decide)).trans ?_
    rw [Device.evtBit_reg _ _ _ _ (by decide), if_neg (by decide), hreg]
  have herr : (d1.evtBit 0xC000 19).reg (0xC000 + 0x34) = d.reg (0xC000 + 0x34) := by
    rw [Device.evtBit_reg _ _ _ _ (by decide), if_neg (by decide), hreg, a.reg_setF_beside _ _ _ (by decide), d.reg_setF_beside _ _ _ (by decide)]
  have hsp : d1.Speaks ((d1.evtBit 0xC000 19).err 0xC000 0x0100 (wd d1.vcore) 0) := (d1.evtBit_speaks _ _).trans (Device.err_speaks _ _ _ _ _)
  refine ⟨(congrArg (fld · 19 1) hstatus).trans h19, (congrArg (fld · 20 1) hstatus).trans h20, (congrArg (·.avs) hsp.pow_eq :).trans havs,
    Device.err_stands (by decide) (d1.evtBit_shows (by decide) (by decide)) _ _ _, ?_⟩
  exact (Device.err_count _ _ _ _ _ (by decide)).trans (by rw [herr])

theorem completes_avsReadback (havs : s.dev.pow.avs = some wr) (hdue : wr + 10000 ≤ (s.dev.at k).now.tick) :
    (∀ v, r = some v → v < 1024 → v ≤ s.dev.vcore + 10 → s.dev.vcore ≤ v + 10 → Completes (.avsReadback r k) s fun t =>
      t.dev.rf R.pow_VCORE_NOW 0 10 = v ∧ t.dev.rf R.pow_POW_STATUS 19 1 = 0 ∧ KeepsRegs s t [R.pow_VCORE_NOW, R.pow_POW_STATUS] ∧ RegsOnly s t) ∧
    (r = none → Completes (.avsReadback r k) s fun t => t.dev.rf R.pow_POW_STATUS 19 1 = 0 ∧ t.dev.rf R.pow_POW_STATUS 20 1 = 1 ∧
      t.dev.pow.avs = none ∧ t.dev.rf (0xC000 + 0x20) 19 1 = 1 ∧ t.dev.reg (0xC000 + 0x34) = satAdd (s.dev.reg (0xC000 + 0x34)) 1 ∧ KeepsHarts s t) := by
  have havs0 : (s.dev.at k).pow.avs = some wr := havs
  refine ⟨fun v hr hv hlo hhi => ?_, fun hr => ?_⟩
  · subst hr
    let d1 := (s.dev.at k).setF R.pow_VCORE_NOW 0 10 v
    have hvcore : d1.vcore = s.dev.vcore := congrArg (fld · 0 10) (Device.reg_setF_beside _ _ _ _ (by decide))
    have hrun : avsReadback (some v) k s.dev = d1.setF R.pow_POW_STATUS 19 1 0 := by
      unfold avsReadback
      dsimp only
      rw [havs0]
      exact (if_neg (Nat.not_lt.2 hdue)).trans (if_pos (by rw [show ((s.dev.at k).setF R.pow_VCORE_NOW 0 10 v).vcore = _ from hvcore]; exact ⟨hlo, hhi⟩))
    refine completes_dev (f := avsReadback (some v) k) rfl hrun ⟨?_, Device.rf_setF _ _ _ (by decide), fun o ho => ?_, rfl, rfl, rfl⟩
    · refine (congrArg (fld · 0 10) (Device.reg_setF_beside _ _ _ _ (by decide))).trans ?_
      exact (Device.rf_setF _ _ _ (by decide)).trans (Nat.mod_eq_of_lt hv)
    · simp only [List.mem_cons, List.not_mem_nil, or_false, not_or] at ho
      obtain ⟨h1, h2⟩ := ho
      exact (Device.reg_setF_beside _ _ _ _ h2).trans (Device.reg_setF_beside _ _ _ _ h1)
  · subst hr
    have hrun : avsReadback none k s.dev = (s.dev.at k).avsFault := by
      unfold avsReadback
      dsimp only
      rw [havs0]
      exact if_neg (Nat.not_lt.2 hdue)
    obtain ⟨h1, h2, h3, h4, h5⟩ := (s.dev.at k).avsFault_spec
    generalize (s.dev.at k).avsFault = e at *
    exact completes_dev (f := avsReadback none k) rfl hrun ⟨h1, h2, h3, h4, h5, rfl, rfl⟩

end

/-! ### PMBus (R453) -/

/-- The power that R453 decodes: the product shifted by the sum of the exponents, rounded down. -/
theorem pmbPower_eq {x : PmbRead} {p e f : Nat} (hmode : x.mode.toNat < 32) (hp : p < 2 ^ 32)
    (hexp : (e : Int) - f = sext 5 x.mode.toNat + sext 5 (x.iout.toNat / 2 ^ 11)) (hone : e = 0 ∨ f = 0)
    (hlo : (p : Int) * 2 ^ f ≤ x.vout.toNat * sext 11 x.iout.toNat * 1000 * 2 ^ e)
    (hhi : x.vout.toNat * sext 11 x.iout.toNat * 1000 * 2 ^ e < ((p : Int) + 1) * 2 ^ f) : pmbPower x = some p := by
  have hx : ∀ E : Int, (e : Int) - f = E → (if 0 ≤ E then (x.vout.toNat : Int) * sext 11 x.iout.toNat * 1000 * (2 ^ E.toNat : Nat)
      else Int.fdiv ((x.vout.toNat : Int) * sext 11 x.iout.toNat * 1000) (2 ^ (-E).toNat : Nat)) = p := by
    generalize (x.vout.toNat : Int) * sext 11 x.iout.toNat * 1000 = m at hlo hhi ⊢
    rintro E rfl
    rcases hone with rfl | rfl
    · rw [pow_zero, mul_one] at hlo hhi
      by_cases hf : f = 0
      · subst hf
        simp only [pow_zero, mul_one] at hlo hhi
        simp only [Nat.cast_zero, sub_self, le_refl, if_true, Int.toNat_zero, pow_zero, Nat.cast_one, mul_one]
        omega
      · rw [if_neg (by omega), show (-(((0 : Nat) : Int) - f)).toNat = f by omega, Int.fdiv_eq_ediv_of_nonneg _ (by positivity)]
        have hpos : (0 : Int) < 2 ^ f := by positivity
        push_cast
        exact le_antisymm (Int.lt_add_one_iff.1 ((Int.ediv_lt_iff_lt_mul hpos).2 hhi)) ((Int.le_ediv_iff_mul_le hpos).2 hlo)
    · rw [pow_zero, mul_one] at hlo hhi
      rw [if_pos (by omega), show ((e : Int) - (0 : Nat)).toNat = e by omega]
      push_cast
      omega
  unfold pmbPower
  extract_lets e' m y
  have hy : y = p := hx _ hexp
  rw [if_pos ⟨Nat.div_eq_of_lt hmode, by omega, by omega⟩, hy]
  rfl

section
variable {s : State} {n : Fin 8} {k : Nat}

theorem completes_pmbusPoll (hdev : s.dev.rf (R.pow_PMB_DEV n) 8 1 = 1) (hcore : s.dev.boot.core = true)
    (hnew : Store.get zeroN s.dev.pow.polls n ≠ (s.dev.at k).window + 1) :
    (Completes (.pmbusPoll n none k) s fun t => t.dev.reg (R.pow_PMB_P n) = s.dev.reg (R.pow_PMB_P n) ∧
      t.dev.reg (0xC000 + 0x34) = satAdd (s.dev.reg (0xC000 + 0x34)) 1 ∧ KeepsHarts s t) ∧
    (∀ (x : PmbRead) (p : Nat), x.status = 0 → p < 2 ^ 32 → pmbPower x = some p → Completes (.pmbusPoll n (some x) k) s fun t =>
      t.dev.rn (R.pow_PMB_P n) = p ∧ t.dev.out = .pmbus n :: s.dev.out ∧ KeepsRegs s t [R.pow_PMB_P n] ∧ KeepsHarts s t) := by
  have hn := n.isLt
  have hgo : ¬((s.dev.at k).rf (R.pow_PMB_DEV n) 8 1 = 0 ∨ Store.get zeroN (s.dev.at k).pow.polls n = (s.dev.at k).window + 1 ∨
      (!(s.dev.at k).boot.core) = true) := by
    rintro (h | h | h)
    · exact absurd (hdev.symm.trans h) (by decide)
    · exact hnew h
    · rw [show (s.dev.at k).boot.core = true from hcore] at h
      exact Bool.false_ne_true h
  let d1 := ((s.dev.at k).setPow { s.dev.pow with polls := Store.set zeroN s.dev.pow.polls n ((s.dev.at k).window + 1) }).emit (.pmbus n)
  refine ⟨?_, fun x p hst hp hpower => ?_⟩
  · refine completes_dev (f := pmbusPoll n none k) (d := d1.err 0xC000 0x0102 (wd n.val) 0) rfl (if_neg hgo)
      ⟨d1.err_reg_noReport (by decide) _ _ _ ?_, d1.err_count _ _ _ _ (by decide), rfl, rfl⟩
    unfold OfNoReport R.pow_PMB_P
    refine ⟨by omega, by omega, fun h => ?_⟩
    simp only [faultRegs, List.mem_cons, List.not_mem_nil, or_false] at h
    unfold R.flt_LOG_HEAD R.flt_LOG_OVERRUN R.flt_LADDER_STATE R.hif_MSIX_DROPPED at h
    omega
  · refine completes_dev (f := pmbusPoll n (some x) k) (d := d1.setN (R.pow_PMB_P n) p) rfl ((if_neg hgo).trans ?_)
      ⟨Device.rn_setN _ _ hp, rfl, fun o ho => (Device.reg_setReg _ _ _ _).trans (if_neg (List.ne_of_not_mem_cons ho)), rfl, rfl⟩
    dsimp only
    rw [hpower, if_pos hst]
    rfl

end

/-! ### Ramps (R454) -/

/-- The register that holds the ready bit of domain k. -/
def domainReg (k : Nat) : Nat := R.pow_BAY_ON_LO + 4 * (k / 32)

theorem Device.domainOn_eq (d : Device) {k : Nat} (hk : k < 128) : d.domainOn k = decide (d.rf (domainReg k) (k % 32) 1 = 1) := by
  unfold Device.domainOn Device.domainBit Device.bit64 domainReg
  split
  · rfl
  · rw [show R.pow_SLICE_ON_LO + 4 * ((k - 64) / 32) = R.pow_BAY_ON_LO + 4 * (k / 32) by unfold R.pow_SLICE_ON_LO R.pow_BAY_ON_LO; omega,
      show (k - 64) % 32 = k % 32 by omega]

theorem Device.setDomainOn_eq (d : Device) {k : Nat} (hk : k < 128) (v : Nat) :
    d.setDomain R.pow_BAY_ON_LO R.pow_SLICE_ON_LO k v = d.setF (domainReg k) (k % 32) 1 v := by
  unfold Device.setDomain domainReg
  split
  · rfl
  · rw [show R.pow_SLICE_ON_LO + 4 * ((k - 64) / 32) = R.pow_BAY_ON_LO + 4 * (k / 32) by unfold R.pow_SLICE_ON_LO R.pow_BAY_ON_LO; omega,
      show (k - 64) % 32 = k % 32 by omega]

theorem Device.domainOn_congr {d e : Device} (h : ∀ o, R.pow_BAY_ON_LO ≤ o → o ≤ R.pow_SLICE_ON_HI → e.reg o = d.reg o) {k : Nat} (hk : k < 128) :
    e.domainOn k = d.domainOn k := by
  rw [e.domainOn_eq hk, d.domainOn_eq hk, Device.rf, Device.rf, h _ (by unfold domainReg; omega)
    (by unfold domainReg R.pow_BAY_ON_LO R.pow_SLICE_ON_HI; omega)]

theorem Device.domainSet_congr {d e : Device} (h : ∀ o, R.pow_BAY_PWR_LO ≤ o → o ≤ R.pow_SLICE_PWR_HI → e.reg o = d.reg o) {k : Nat} (hk : k < 128) :
    e.domainSet k = d.domainSet k := by
  unfold Device.domainSet Device.domainBit Device.bit64 Device.rf
  unfold R.pow_BAY_PWR_LO R.pow_SLICE_PWR_HI at h
  unfold R.pow_BAY_PWR_LO R.pow_SLICE_PWR_LO
  rw [h (0xD1C8 + 4 * ((k - 64) / 32)) (by omega) (by omega)]
  split
  · rw [h (0xD1C0 + 4 * (k / 32)) (by omega) (by omega)]
  · rfl

/-- A domain made ready is ready, and every other as it was. -/
theorem Device.domainOn_setDomain (d : Device) {k j : Nat} (hk : k < 128) (hj : j < 128) :
    (d.setDomain R.pow_BAY_ON_LO R.pow_SLICE_ON_LO k 1).domainOn j = if j = k then true else d.domainOn j := by
  rw [d.setDomainOn_eq hk, Device.domainOn_eq _ hj, d.domainOn_eq hj]
  split
  · next h => rw [h, Device.rf_setF _ _ _ (by omega)]; rfl
  · next h =>
    by_cases hreg : domainReg j = domainReg k
    · rw [hreg, Device.rf_setF_beside _ _ _ (by omega) (by unfold domainReg at hreg; omega)]
    · rw [Device.rf, Device.reg_setF_beside _ _ _ _ hreg]
      rfl

/-- A dropped slot moves no register below the library, and no other slot of its pipeline. -/
theorem Device.dropSlot_beside (d : Device) {p s : Nat} (hp : p < 64) (hs : s < 16) : d.pow = (d.dropSlot p s).pow ∧
    (∀ o < 0x60000, (d.dropSlot p s).reg o = d.reg o) ∧ ∀ j < 16, j ≠ s → (d.dropSlot p s).slotState p j = d.slotState p j := by
  refine ⟨(d.setSlot_speaks p s _ 0).pow_eq.symm, fun o ho => d.setSlot_reg_below _ _ _ _ ho, fun j hj hne => congrArg (fld · 16 2) ?_⟩
  refine (d.setSlot_reg _ _ _ _ fun k => ?_).trans (if_neg ?_)
  · unfold slotReg R.skm_SLOT R.trw_SLOT_SKIM
    omega
  · unfold slotReg R.skm_SLOT
    omega

/-- The slots of a pipeline that find their bay powered anew: 1 to 15 are INVALID. -/
theorem Device.dropSlots_spec (d : Device) {p n : Nat} (hp : p < 64) (hn : n ≤ 15) :
    let e := (List.range n).foldl (fun d i => if d.slotState p (i + 1) = 0 then d else d.dropSlot p (i + 1)) d
    e.pow = d.pow ∧ (∀ o < 0x60000, e.reg o = d.reg o) ∧ ∀ j, 1 ≤ j → j ≤ n → e.slotState p j = 0 := by
  induction n with
  | zero => exact ⟨rfl, fun _ _ => rfl, fun j h1 h2 => absurd h1 (by omega)⟩
  | succ n ih =>
    obtain ⟨hpow, hreg, hslots⟩ := ih (by omega)
    rw [List.range_succ, List.foldl_append, List.foldl_cons, List.foldl_nil]
    generalize (List.range n).foldl (fun d i => if d.slotState p (i + 1) = 0 then d else d.dropSlot p (i + 1)) d = e at hpow hreg hslots
    split
    · next h =>
      refine ⟨hpow, hreg, fun j h1 hj => ?_⟩
      rcases Nat.le_succ_iff.1 hj with hj | rfl
      · exact hslots j h1 hj
      · exact h
    · obtain ⟨hpow1, hreg1, hbeside⟩ := e.dropSlot_beside hp (s := n + 1) (by omega)
      refine ⟨hpow1.symm.trans hpow, fun o ho => (hreg1 o ho).trans (hreg o ho), fun j h1 hj => ?_⟩
      rcases Nat.le_succ_iff.1 hj with hj | rfl
      · exact (hbeside j (by omega) (by omega)).trans (hslots j h1 hj)
      · exact (e.dropSlot_spec hp (by omega)).1

theorem Device.slotsLost_spec (d : Device) (b : Nat) : (d.slotsLost b).pow = d.pow ∧ (∀ o < 0x60000, (d.slotsLost b).reg o = d.reg o) ∧
    ∀ p < 64, d.inRegion p (b / 8) (b % 8) = true → (∀ q < p, d.inRegion q (b / 8) (b % 8) = false) →
      ∀ j, 1 ≤ j → j < 16 → (d.slotsLost b).slotState p j = 0 := by
  unfold Device.slotsLost
  cases hp : (List.range 64).find? fun p => d.inRegion p (b / 8) (b % 8) with
  | none =>
    refine ⟨rfl, fun _ _ => rfl, fun p hlt hin _ => ?_⟩
    exact absurd hin (List.find?_eq_none.1 hp p (List.mem_range.2 hlt))
  | some p =>
    obtain ⟨-, hmem, -⟩ := List.find?_range_eq_some.1 hp
    obtain ⟨hpow, hreg, hslots⟩ := d.dropSlots_spec (List.mem_range.1 hmem) (Nat.le_refl 15)
    refine ⟨hpow, hreg, fun q hlt hin hfirst j h1 hj => ?_⟩
    have hq : p = q := Option.some.inj (hp.symm.trans
      (List.find?_range_eq_some.2 ⟨hin, List.mem_range.2 hlt, fun i hi => by rw [hfirst i hi]; rfl⟩))
    exact hq ▸ hslots j h1 (Nat.lt_succ_iff.1 hj)

/-- Once every powered domain is ready, and no other, the event is raised. -/
def Device.rampsDone (d : Device) : Device :=
  if (List.range 128).all fun j => d.domainSet j == d.domainOn j then d.evtBit 0xD000 16 else d

theorem Device.rampsDone_spec (d : Device) : d.rampsDone.pow = d.pow ∧
    (∀ o, o ≠ 0xD000 + 0x20 → o ≠ R.hif_MSIX_DROPPED → d.rampsDone.reg o = d.reg o) ∧
    ((∀ j < 128, d.domainSet j = d.domainOn j) → d.rampsDone.rf (0xD000 + 0x20) 16 1 = 1) := by
  unfold Device.rampsDone
  refine ⟨?_, fun o ho hm => ?_, fun hall => ?_⟩
  · split
    · exact (d.evtBit_speaks _ _).pow_eq
    · rfl
  · split
    · rw [Device.evtBit_reg _ _ _ _ hm, if_neg ho]
    · rfl
  · rw [if_pos (List.all_eq_true.2 fun j hj => beq_iff_eq.2 (hall j (List.mem_range.1 hj)))]
    exact d.evtBit_shows (by decide) (by decide)

theorem completes_domainReady {s : State} {n : Fin 128} (k : Nat) (hramp : n.val ∈ s.dev.pow.ramps.take 4) : Completes (.domainReady n k) s fun t =>
    t.dev.domainOn n = true ∧ (∀ j < 128, j ≠ n.val → t.dev.domainOn j = s.dev.domainOn j) ∧ t.dev.pow.ramps = s.dev.pow.ramps.erase n ∧
      (∀ p < 64, n.val < 64 → s.dev.inRegion p (n / 8) (n % 8) = true → (∀ q < p, s.dev.inRegion q (n / 8) (n % 8) = false) →
        ∀ j, 1 ≤ j → j < 16 → t.dev.slotState p j = 0) ∧
      ((∀ j < 128, t.dev.domainSet j = t.dev.domainOn j) → t.dev.rf (0xD000 + 0x20) 16 1 = 1) ∧ KeepsHarts s t := by
  have hn := n.isLt
  let d0 := (s.dev.at k).setPow { s.dev.pow with ramps := s.dev.pow.ramps.erase n.val }
  obtain ⟨d1, hd1⟩ : ∃ d1, d1 = d0.setDomain R.pow_BAY_ON_LO R.pow_SLICE_ON_LO n 1 := ⟨_, rfl⟩
  have hpow1 : d1.pow.ramps = s.dev.pow.ramps.erase n.val := by
    rw [hd1, d0.setDomainOn_eq hn]
    rfl
  have hon1 : ∀ j < 128, d1.domainOn j = if j = n.val then true else s.dev.domainOn j := fun j hj => hd1 ▸ d0.domainOn_setDomain hn hj
  have hreg1 : ∀ o, o < R.pow_BAY_ON_LO ∨ R.pow_SLICE_ON_HI < o → d1.reg o = s.dev.reg o := fun o ho => by
    rw [hd1, d0.setDomainOn_eq hn, Device.reg_setF_beside _ _ _ _ (by
      unfold domainReg
      unfold R.pow_BAY_ON_LO R.pow_SLICE_ON_HI at *
      omega)]
    rfl
  have hregion : ∀ p, d1.inRegion p (n / 8) (n % 8) = s.dev.inRegion p (n / 8) (n % 8) := fun p => by
    unfold Device.inRegion
    rw [hreg1 _ (by unfold R.sch_REGION R.pow_SLICE_ON_HI; omega)]
  obtain ⟨hpow, hreg, hslots⟩ := d1.slotsLost_spec n
  obtain ⟨d2, hd2⟩ : ∃ d2, d2 = if n.val < 64 then d1.slotsLost n else d1 := ⟨_, rfl⟩
  have hpow2 : d2.pow = d1.pow := by
    rw [hd2]
    split
    · exact hpow
    · rfl
  have hreg2 : ∀ o < 0x60000, d2.reg o = d1.reg o := fun o ho => by
    rw [hd2]
    split
    · exact hreg o ho
    · rfl
  obtain ⟨e, he⟩ : ∃ e, e = d2.rampsDone := ⟨_, rfl⟩
  obtain ⟨hepow, hereg, hdone⟩ := d2.rampsDone_spec
  rw [← he] at hepow hereg hdone
  have heon : ∀ j < 128, e.domainOn j = d1.domainOn j := fun j hj => (Device.domainOn_congr (d := d2) (fun o hlo hhi => hereg o
    (by unfold R.pow_BAY_ON_LO at hlo; omega) (by unfold R.pow_BAY_ON_LO at hlo; unfold R.hif_MSIX_DROPPED; omega)) hj).trans
      (Device.domainOn_congr (fun o _ hhi => hreg2 o (by unfold R.pow_SLICE_ON_HI at hhi; omega)) hj)
  have hrun : domainReady n k s.dev = e := by
    rw [he, hd2, hd1]
    exact if_pos (List.contains_iff_mem.2 hramp)
  refine completes_dev (f := domainReady n k) rfl hrun ⟨?_, fun j hj hne => ?_, ?_, fun p hp hbay hin hfirst j h1 hj => ?_, fun hall => ?_, rfl, rfl⟩
  · exact (heon n hn).trans ((hon1 n hn).trans (if_pos rfl))
  · exact (heon j hj).trans ((hon1 j hj).trans (if_neg hne))
  · exact (congrArg Pow.ramps (hepow.trans hpow2)).trans hpow1
  · have hdrop : d2.slotState p j = 0 := by
      rw [hd2, if_pos hbay]
      exact hslots p hp ((hregion p).trans hin) (fun q hq => (hregion q).trans (hfirst q hq)) j h1 hj
    refine (congrArg (fld · 16 2) (hereg (slotReg p j) ?_ ?_)).trans hdrop
    · unfold slotReg R.skm_SLOT
      omega
    · unfold slotReg R.skm_SLOT R.hif_MSIX_DROPPED
      omega
  · have hbit : ∀ o, o ≠ 0xD000 + 0x20 → o < 0xE000 → 0xD000 ≤ o → e.reg o = d2.reg o := fun o ho hlt hle =>
      hereg o ho (by unfold R.hif_MSIX_DROPPED; omega)
    have hset : ∀ j < 128, e.domainSet j = d2.domainSet j := fun j hj => Device.domainSet_congr (fun o hlo hhi => hbit o
      (by unfold R.pow_BAY_PWR_LO at hlo; omega) (by unfold R.pow_SLICE_PWR_HI at hhi; omega) (by unfold R.pow_BAY_PWR_LO at hlo; omega)) hj
    have hon : ∀ j < 128, e.domainOn j = d2.domainOn j := fun j hj => Device.domainOn_congr (fun o hlo hhi => hbit o
      (by unfold R.pow_BAY_ON_LO at hlo; omega) (by unfold R.pow_SLICE_ON_HI at hhi; omega) (by unfold R.pow_BAY_ON_LO at hlo; omega)) hj
    exact hdone fun j hj => (hset j hj).symm.trans ((hall j hj).trans (hon j hj))

/-! ### The package cap (R463) -/

theorem Device.pkgPower_eq (d : Device) (mean : Nat) : d.pkgPower mean =
    d.rf R.pow_VCORE_NOW 0 10 * mean / 16 + ((List.range 8).map fun j => d.rn (R.pow_PMB_P j)).sum + d.rf R.pow_FIXED_MW 0 16 := by
  rw [Device.pkgPower, List.sum_eq_foldl, List.foldl_map]

/-- CAP_STEPS after a window of power p under a cap. -/
def capStep (p cap c : Nat) : Nat := if cap < p then min 12 (c + 1) else if 16 * p < 15 * cap then c - 1 else c

/-- The cap steps move, and the first step up raises the event. -/
def Device.capMoves (d : Device) (p cap : Nat) : Device :=
  if cap < p then
    if d.capSteps = 0 then (d.setF R.pow_POW_STATUS 14 4 (min 12 (d.capSteps + 1))).evtBit 0xC000 18
    else d.setF R.pow_POW_STATUS 14 4 (min 12 (d.capSteps + 1))
  else if 16 * p < 15 * cap then d.setF R.pow_POW_STATUS 14 4 (d.capSteps - 1)
  else d

theorem Device.capMoves_spec (d : Device) (p cap : Nat) : (d.capMoves p cap).pow = d.pow ∧
    (d.capMoves p cap).rf R.pow_POW_STATUS 14 4 = capStep p cap d.capSteps ∧
    (cap < p → d.capSteps = 0 → (d.capMoves p cap).rf (0xC000 + 0x20) 18 1 = 1) ∧
    ∀ o, o ∉ [R.pow_POW_STATUS, 0xC000 + 0x20, R.hif_MSIX_DROPPED] → (d.capMoves p cap).reg o = d.reg o := by
  have hc : d.capSteps < 16 := fld_lt _ 14 4
  have hset : ∀ n < 16, (d.setF R.pow_POW_STATUS 14 4 n).rf R.pow_POW_STATUS 14 4 = n := fun n hn =>
    (Device.rf_setF _ _ _ (by decide)).trans (Nat.mod_eq_of_lt hn)
  have hbeside : ∀ n o, o ∉ [R.pow_POW_STATUS, 0xC000 + 0x20, R.hif_MSIX_DROPPED] → (d.setF R.pow_POW_STATUS 14 4 n).reg o = d.reg o :=
    fun n o ho => Device.reg_setF_beside _ _ _ _ (List.ne_of_not_mem_cons ho)
  unfold Device.capMoves capStep
  by_cases hover : cap < p
  · rw [if_pos hover, if_pos hover]
    by_cases hzero : d.capSteps = 0
    · rw [if_pos hzero]
      refine ⟨(Device.evtBit_speaks _ _ _).pow_eq, ?_, fun _ _ => Device.evtBit_shows _ (by decide) (by decide), fun o ho => ?_⟩
      · refine (congrArg (fld · 14 4) ?_).trans (hset (min 12 (d.capSteps + 1)) (by omega))
        rw [Device.evtBit_reg _ _ _ _ (by decide), if_neg (by decide)]
      · have h := ho
        simp only [List.mem_cons, List.not_mem_nil, or_false, not_or] at h
        rw [Device.evtBit_reg _ _ _ _ h.2.2, if_neg h.2.1]
        exact hbeside _ o ho
    · rw [if_neg hzero]
      exact ⟨rfl, hset _ (by omega), fun _ h => absurd h hzero, hbeside _⟩
  · rw [if_neg hover, if_neg hover]
    split
    · exact ⟨rfl, hset _ (by omega), fun h => absurd h hover, hbeside _⟩
    · exact ⟨rfl, rfl, fun h => absurd h hover, fun _ _ => rfl⟩

theorem completes_capWindow {s : State} (mean : Nat) {k : Nat} (hwin : (s.dev.at k).window ≠ 0) (hnew : s.dev.pow.capWin ≠ some (s.dev.at k).window)
    (hcore : s.dev.boot.core = true) : Completes (.capWindow mean k) s fun t =>
      let p := s.dev.rf R.pow_VCORE_NOW 0 10 * mean / 16 + ((List.range 8).map fun j => s.dev.rn (R.pow_PMB_P j)).sum + s.dev.rf R.pow_FIXED_MW 0 16
      let cap := 1000 * s.dev.rf R.pow_PKG_CAP 0 8
      let c := s.dev.rf R.pow_POW_STATUS 14 4
      t.dev.rn R.pow_PKG_POWER = min (2 ^ 32 - 1) p ∧
      t.dev.rf R.pow_POW_STATUS 14 4 = (if cap < p then min 12 (c + 1) else if 16 * p < 15 * cap then c - 1 else c) ∧
      t.dev.pow.capWin = some (s.dev.at k).window ∧ (cap < p → c = 0 → t.dev.rf (0xC000 + 0x20) 18 1 = 1) ∧
      KeepsRegs s t [R.pow_AON_POWER, R.pow_PKG_POWER, R.pow_POW_STATUS, 0xC000 + 0x20, R.hif_MSIX_DROPPED] ∧ KeepsHarts s t := by
  let x := ((s.dev.at k).setPow { s.dev.pow with capWin := some (s.dev.at k).window }).fresh
  let p := x.2.pkgPower mean
  let d2 := (x.2.setN R.pow_AON_POWER (fld x.1 0 16)).setN R.pow_PKG_POWER (min wordMax p)
  let cap := 1000 * x.2.rf R.pow_PKG_CAP 0 8
  have hreg : ∀ o, d2.reg o = if o = R.pow_PKG_POWER then wd (min wordMax p) else if o = R.pow_AON_POWER then wd (fld x.1 0 16) else s.dev.reg o :=
    fun o => (Device.reg_setReg _ _ _ _).trans (if_congr Iff.rfl rfl (Device.reg_setReg _ _ _ _))
  have hp : p = s.dev.rf R.pow_VCORE_NOW 0 10 * mean / 16 + ((List.range 8).map fun j => s.dev.rn (R.pow_PMB_P j)).sum + s.dev.rf R.pow_FIXED_MW 0 16 :=
    x.2.pkgPower_eq mean
  have hc : d2.capSteps = s.dev.rf R.pow_POW_STATUS 14 4 :=
    congrArg (fld · 14 4) ((hreg _).trans ((if_neg (by decide)).trans (if_neg (by decide))))
  have hgo : ¬((s.dev.at k).window = 0 ∨ (s.dev.at k).pow.capWin = some (s.dev.at k).window ∨ (!(s.dev.at k).boot.core) = true) := by
    rintro (h | h | h)
    · exact hwin h
    · exact hnew h
    · rw [show (s.dev.at k).boot.core = true from hcore] at h
      exact Bool.false_ne_true h
  have hrun : capWindow mean k s.dev = d2.capMoves p cap := if_neg hgo
  obtain ⟨hpow, hsteps, hevt, hbeside⟩ := d2.capMoves_spec p cap
  have hcapwin : d2.pow.capWin = some (s.dev.at k).window := rfl
  rw [hc] at hsteps hevt
  clear_value d2 p
  generalize d2.capMoves p cap = e at hrun hpow hsteps hevt hbeside
  subst hp
  refine completes_dev (f := capWindow mean k) rfl hrun ⟨?_, hsteps, (congrArg (·.capWin) hpow :).trans hcapwin, hevt, fun o ho => ?_, rfl, rfl⟩
  · refine (congrArg BitVec.toNat ((hbeside R.pow_PKG_POWER (by decide)).trans ((hreg _).trans (if_pos rfl)))).trans ?_
    exact (BitVec.toNat_ofNat _ _).trans (Nat.mod_eq_of_lt (by unfold wordMax; omega))
  · simp only [List.mem_cons, List.not_mem_nil, or_false, not_or] at ho
    obtain ⟨h1, h2, h3, h4, h5⟩ := ho
    rw [hbeside o (by simp [h3, h4, h5]), hreg, if_neg h2, if_neg h1]

/-! ### The end of a hold (R462) -/

/-- The intrusion sums of the pipelines follow the clock: the power state and the clock's registers stand. -/
theorem Device.setIntrusions_spec (d : Device) (l : List Nat) : (l.foldl (fun (d : Device) p => d.setIntrusion p) d).pow = d.pow ∧
    (l.foldl (fun (d : Device) p => d.setIntrusion p) d).reg R.pow_POW_STATUS = d.reg R.pow_POW_STATUS :=
  ⟨foldl_keeps Device.pow (fun e p _ => (e.setIntrusion_speaks p).pow_eq) d,
    foldl_keeps (Device.reg · R.pow_POW_STATUS) (fun e p _ => e.setIntrusion_reg p (by unfold R.pow_POW_STATUS R.skm_INTRUSION_SUM; omega)) d⟩

theorem completes_holdEnd {s : State} {k e : Nat} (hhold : s.dev.pow.hold = some e) :
    (e ≤ (s.dev.at k).now.tick → Completes (.holdEnd k) s fun t => t.dev.pow.hold = none ∧
      t.dev.rf R.pow_POW_STATUS 0 10 = s.dev.rf R.pow_STAGE_CLK 0 10 ∧ KeepsHarts s t) ∧
    ((s.dev.at k).now.tick < e → Completes (.holdEnd k) s fun t => t.dev = s.dev.at k ∧ KeepsHarts s t) := by
  have hhold0 : (s.dev.at k).pow.hold = some e := hhold
  have hrun : holdEnd k s.dev = if (s.dev.at k).now.tick < e then s.dev.at k else
      (List.range 64).foldl (fun (d : Device) p => d.setIntrusion p)
        (((s.dev.at k).setPow { (s.dev.at k).pow with hold := none }).setF R.pow_POW_STATUS 0 10 ((s.dev.at k).rf R.pow_STAGE_CLK 0 10)) := by
    unfold holdEnd
    dsimp only
    rw [hhold0]
  refine ⟨fun hle => ?_, fun hlt => completes_dev (f := holdEnd k) rfl (hrun.trans (if_pos hlt)) ⟨rfl, rfl, rfl⟩⟩
  obtain ⟨d1, hd1⟩ : ∃ d1, d1 = ((s.dev.at k).setPow { (s.dev.at k).pow with hold := none }).setF R.pow_POW_STATUS 0 10
    ((s.dev.at k).rf R.pow_STAGE_CLK 0 10) := ⟨_, rfl⟩
  have hpow : d1.pow.hold = none := hd1 ▸ rfl
  have hclk : d1.rf R.pow_POW_STATUS 0 10 = s.dev.rf R.pow_STAGE_CLK 0 10 := by
    rw [hd1]
    exact (Device.rf_setF _ _ _ (by decide)).trans (Nat.mod_eq_of_lt (fld_lt _ 0 10))
  rw [← hd1, if_neg (Nat.not_lt.2 hle)] at hrun
  obtain ⟨hpow1, hstatus⟩ := d1.setIntrusions_spec (List.range 64)
  generalize (List.range 64).foldl (fun (d : Device) p => d.setIntrusion p) d1 = e1 at hrun hpow1 hstatus
  exact completes_dev (f := holdEnd k) rfl hrun ⟨(congrArg Pow.hold hpow1).trans hpow, (congrArg (fld · 0 10) hstatus).trans hclk, rfl, rfl⟩

/-! ### The hold of a pausing commit (R462) -/

/-- Where the pipeline stands still for no debit of sort k, settling it leaves those debits. -/
theorem Device.DebitsBeside.settle_of_sort {d : Device} {p k : Nat} (hk : k ≠ 0) (hocc : (d.pipe p).occ.getD k 0 = 0) :
    Device.DebitsBeside k d (d.settle p) := by
  unfold Device.settle
  extract_lets x n d1 d2 busy w deb
  have h1 : Device.DebitsBeside k d d1 := by
    dsimp only [d1]
    split
    · exact .of_jobs rfl
    · exact .debit d hk p n _
  have h2 : Device.DebitsBeside k d d2 := by
    refine Device.DebitsBeside.trans (List.foldlRecOn _ _ (motive := fun e => Device.DebitsBeside k d e) h1 fun e he i _ => ?_)
      (Device.DebitsBeside.debitClip _ p _ _)
    split
    · exact he
    · next hi => exact he.trans (Device.DebitsBeside.debit e (fun hki => hi (by rw [← hki]; exact hocc)) p n _)
  exact h2.trans (.of_jobs rfl)

/-- One pipeline is debited the hold, and notes the window where a frame of it is in flight. -/
def Device.holdPipe (ps : List Nat) (w : Nat) (d : Device) (q : Nat) : Device :=
  if ps.contains q then (d.debitPipe q 4 40).setPipe q { (d.debitPipe q 4 40).pipe q with pauseWin := some w } else d.debitPipe q 4 40

/-- What the debit of the first n pipelines leaves of a device: the jobs but for their debits, what the pipelines stand for of the hold, and
every register but the window's debits. -/
structure Device.Held (n : Nat) (d e : Device) : Prop where
  jobs : ∃ f : Job → Job, e.jobs = d.jobs.map f ∧ ∀ j, f j = { j with debits := (f j).debits, clip := (f j).clip } ∧
    (f j).debits.length = j.debits.length ∧
    (4 < j.debits.length → (f j).debits.getD 4 0 = j.debits.getD 4 0 + if j.isFrame && j.inFlight && decide (j.pipe < n) then 40 else 0)
  occ : ∀ q, (e.pipe q).occ = (d.pipe q).occ
  now : e.now = d.now
  reg : ∀ o, o % 0x1000 ≠ 0x24C → e.reg o = d.reg o

theorem Device.Held.refl (d : Device) : Device.Held 0 d d :=
  ⟨⟨id, (List.map_id _).symm, fun j => ⟨rfl, rfl, fun _ => by simp⟩⟩, fun _ => rfl, rfl, fun _ _ => rfl⟩

/-- A frame in flight in pipeline n is debited the hold. -/
def Job.holdDebit (n : Nat) (j : Job) : Job :=
  if j.isFrame && j.pipe == n && j.inFlight && true then { j with debits := addDebit j.debits 4 40 } else j

theorem Job.holdDebit_spec (n : Nat) (j : Job) :
    j.holdDebit n = { j with debits := (j.holdDebit n).debits, clip := (j.holdDebit n).clip } ∧ (j.holdDebit n).debits.length = j.debits.length ∧
    (4 < j.debits.length →
      (j.holdDebit n).debits.getD 4 0 = j.debits.getD 4 0 + if j.isFrame && j.inFlight && decide (j.pipe = n) then 40 else 0) := by
  have hcond : (j.isFrame && j.pipe == n && j.inFlight && true) = (j.isFrame && j.inFlight && decide (j.pipe = n)) := by
    rw [Bool.and_true, Bool.and_right_comm]
    rfl
  unfold Job.holdDebit
  rw [hcond]
  split
  · exact ⟨rfl, addDebit_length _ _ _, fun h4 => addDebit_same h4 40⟩
  · exact ⟨rfl, rfl, fun _ => rfl⟩

/-- The jobs of a device whose n-th pipeline is debited 40 cycles of sort 4. -/
theorem Device.Held.debit {n : Nat} {d e x : Device} (h : Device.Held n d e) (hx : Device.DebitsBeside 4 e x) :
    ∃ f : Job → Job, (x.debit n 4 40 fun _ => true).jobs = d.jobs.map f ∧ ∀ j, f j = { j with debits := (f j).debits, clip := (f j).clip } ∧
      (f j).debits.length = j.debits.length ∧ (4 < j.debits.length →
        (f j).debits.getD 4 0 = j.debits.getD 4 0 + if j.isFrame && j.inFlight && decide (j.pipe < n + 1) then 40 else 0) := by
  obtain ⟨f, hjobs, hf⟩ := h.jobs
  obtain ⟨g, hxjobs, hg⟩ := hx
  refine ⟨fun j => (g (f j)).holdDebit n, ?_, fun j => ?_⟩
  · unfold Device.debit
    rw [hxjobs, hjobs, List.map_map, List.map_map]
    rfl
  · obtain ⟨hkeep, hlen, hget⟩ := hf j
    obtain ⟨hkeep', hlen', hget'⟩ := hg (f j)
    obtain ⟨hkeep'', hlen'', hget''⟩ := (g (f j)).holdDebit_spec n
    have hsame : g (f j) = { j with debits := (g (f j)).debits, clip := (g (f j)).clip } :=
      hkeep'.trans (congrArg (fun y : Job => { y with debits := (g (f j)).debits, clip := (g (f j)).clip }) hkeep)
    have hframe : (g (f j)).isFrame = j.isFrame := (congrArg Job.isFrame hsame :)
    have hflight : (g (f j)).inFlight = j.inFlight := (congrArg Job.inFlight hsame :)
    have hpipe : (g (f j)).pipe = j.pipe := (congrArg (fun y : Job => y.pipe) hsame :)
    refine ⟨hkeep''.trans (congrArg (fun y : Job => { y with debits := ((g (f j)).holdDebit n).debits, clip := ((g (f j)).holdDebit n).clip }) hsame),
      hlen''.trans (hlen'.trans hlen), fun h4 => ?_⟩
    rw [hget'' (by omega), hget', hget h4, hframe, hflight, hpipe, Nat.add_assoc]
    refine congrArg (j.debits.getD 4 0 + ·) ?_
    cases j.isFrame && j.inFlight with
    | false => rfl
    | true =>
      rw [Bool.true_and, Bool.true_and, Bool.true_and]
      rcases Nat.lt_trichotomy j.pipe n with h | h | h
      · rw [decide_eq_true h, decide_eq_false (Nat.ne_of_lt h), decide_eq_true (Nat.lt_succ_of_lt h)]
        rfl
      · rw [decide_eq_false (by omega), decide_eq_true h, decide_eq_true (by omega)]
        rfl
      · rw [decide_eq_false (by omega), decide_eq_false (by omega), decide_eq_false (by omega)]
        rfl

theorem Device.debitPipe_beside (d : Device) (p k n : Nat) : (∀ q, ((d.debitPipe p k n).pipe q).occ = (d.pipe q).occ) ∧
    (d.debitPipe p k n).now = d.now ∧ ∀ o, o % 0x1000 ≠ 0x24C → (d.debitPipe p k n).reg o = d.reg o := by
  obtain ⟨e, m, x, ⟨f, -, -, rfl⟩, h, hx⟩ := d.settle_eq p
  have hset : ∀ q, ((d.settle p).pipe q).occ = (d.pipe q).occ := fun q => by
    rw [h, Device.pipe_setPipe]
    split
    · next hq => rw [hx, hq]
    · rfl
  refine ⟨fun q => ?_, d.settle_now p, fun o ho => d.settle_reg p (by unfold R.sch_WINDOW_DEBIT; omega)⟩
  unfold Device.debitPipe
  dsimp only
  rw [Device.pipe_setPipe]
  split
  · next hq => rw [hq]; exact hset p
  · exact hset q

theorem Device.Held.step {n w : Nat} {ps : List Nat} {d e : Device} (h : Device.Held n d e) (hocc : (d.pipe n).occ.getD 4 0 = 0) :
    Device.Held (n + 1) d (e.holdPipe ps w n) := by
  have hbeside : Device.DebitsBeside 4 e (e.settle n) := .settle_of_sort (by decide) (by rw [h.occ]; exact hocc)
  have hjobs := h.debit hbeside
  obtain ⟨hocc', hnow, hreg⟩ := e.debitPipe_beside n 4 40
  unfold Device.holdPipe
  split
  · refine ⟨hjobs, fun q => ?_, hnow.trans h.now, fun o ho => (hreg o ho).trans (h.reg o ho)⟩
    rw [Device.pipe_setPipe]
    split
    · next hq => rw [hq]; exact (hocc' n).trans (h.occ n)
    · exact (hocc' q).trans (h.occ q)
  · exact ⟨hjobs, fun q => (hocc' q).trans (h.occ q), hnow.trans h.now, fun o ho => (hreg o ho).trans (h.reg o ho)⟩

theorem Device.holdPipes_held (d : Device) (ps : List Nat) (w : Nat) {n : Nat} (hocc : ∀ q < n, (d.pipe q).occ.getD 4 0 = 0) :
    Device.Held n d ((List.range n).foldl (Device.holdPipe ps w) d) := by
  induction n with
  | zero => exact .refl d
  | succ n ih =>
    rw [List.range_succ, List.foldl_append, List.foldl_cons, List.foldl_nil]
    exact (ih fun q hq => hocc q (Nat.lt_succ_of_lt hq)).step (hocc n (Nat.lt_succ_self n))

/-- The debits of sort 4 once all 64 pipelines have been debited the hold. -/
theorem Device.Held.debits {d e : Device} (h : Device.Held 64 d e) (hjobs : ∀ j ∈ d.jobs, 4 < j.debits.length ∧ j.pipe < 64) :
    e.jobs.map (fun j => j.debits.getD 4 0) = d.jobs.map fun j => j.debits.getD 4 0 + if j.isFrame && j.inFlight then 40 else 0 := by
  obtain ⟨f, he, hf⟩ := h.jobs
  rw [he, List.map_map]
  refine List.map_congr_left fun j hj => ?_
  obtain ⟨hlen, hpipe⟩ := hjobs j hj
  obtain ⟨-, -, hget⟩ := hf j
  rw [Function.comp_apply, hget hlen, decide_eq_true hpipe, Bool.and_true]

/-! ### The set that a hold applies (R35, R454) -/

/-- What a POW set that stands leaves of a device: the jobs, the moment, and the registers of the first POW page. -/
def Device.KeepsHeld (d e : Device) : Prop := e.jobs = d.jobs ∧ e.now = d.now ∧ ∀ o, 0xC000 ≤ o → o < 0xD000 → e.reg o = d.reg o

theorem Device.KeepsHeld.trans {d e x : Device} (h : d.KeepsHeld e) (g : e.KeepsHeld x) : d.KeepsHeld x :=
  ⟨g.1.trans h.1, g.2.1.trans h.2.1, fun o hlo hhi => (g.2.2 o hlo hhi).trans (h.2.2 o hlo hhi)⟩

theorem Device.setPow_keepsHeld (d : Device) (x : Pow) : d.KeepsHeld (d.setPow x) := ⟨rfl, rfl, fun _ _ _ => rfl⟩

theorem Device.clearRegs_keepsHeld (d : Device) {p : Nat → Bool} (hp : ∀ o, o < 0xD000 → p o = false) : d.KeepsHeld (d.clearRegs p) := by
  refine ⟨rfl, rfl, fun o _ ho => ?_⟩
  unfold Device.clearRegs Device.reg
  rw [Store.get_wipe, hp o ho]
  rfl

theorem Device.gateDomain_keepsHeld (d : Device) {k : Nat} (hk : k < 128) : d.KeepsHeld (d.gateDomain k) := by
  let d1 := d.setDomain R.pow_BAY_ON_LO R.pow_SLICE_ON_LO k 0
  have h1 : d.KeepsHeld d1 := by
    dsimp only [d1]
    rw [d.setDomainOn_eq hk]
    exact ⟨rfl, rfl, fun o _ ho => Device.reg_setF_beside _ _ _ _ (by unfold domainReg R.pow_BAY_ON_LO; omega)⟩
  have h2 : d1.KeepsHeld (d1.wipeDomain k) := by
    unfold Device.wipeDomain
    split
    · have hclear : d1.KeepsHeld (d1.clearRegs fun o => decide (0x1000000 ≤ o ∧ o < 0x2000000) && bayOf ((o - 0x1000000) / 0x1000) == k) :=
        d1.clearRegs_keepsHeld fun o ho => by rw [decide_eq_false (by omega), Bool.false_and]
      exact hclear
    · have hclear : d1.KeepsHeld (d1.clearRegs fun o => decide (0x90000 + 0x1000 * (k - 64) ≤ o ∧ o < 0x91000 + 0x1000 * (k - 64))) :=
        d1.clearRegs_keepsHeld fun o ho => decide_eq_false (by omega)
      exact hclear
  exact (h1.trans h2).trans (Device.setPow_keepsHeld _ _)

theorem Device.powCommitted_keepsHeld (d : Device) : d.KeepsHeld d.powCommitted := by
  have hgates : d.KeepsHeld ((List.range 128).foldl (fun d k =>
      if !d.domainSet k && (d.domainOn k || d.pow.ramps.contains k) then d.gateDomain k else d) d) := by
    refine List.foldlRecOn _ _ (motive := fun e => d.KeepsHeld e) ⟨rfl, rfl, fun _ _ _ => rfl⟩ fun e he k hk => ?_
    split
    · exact he.trans (e.gateDomain_keepsHeld (List.mem_range.1 hk))
    · exact he
  have hdomains : d.KeepsHeld d.domainsChanged := hgates.trans (Device.setPow_keepsHeld _ _)
  unfold Device.powCommitted Device.limitLowered
  split
  · exact hdomains.trans (Device.setPow_keepsHeld _ _)
  · exact hdomains

/-- One register of a set takes its committed bits. -/
def Device.takeReg (p : Pending) (d : Device) (o : Nat) : Device := d.setReg o ((d.reg o &&& ~~~(rwcMask o)) ||| (p.get o &&& rwcMask o))

theorem Device.takeRegs_spec (p : Pending) {l : List Nat} (hl : l.Nodup) (d : Device) : (l.foldl (Device.takeReg p) d).jobs = d.jobs ∧
    (l.foldl (Device.takeReg p) d).now = d.now ∧ ∀ o, (l.foldl (Device.takeReg p) d).reg o =
      if o ∈ l then (d.reg o &&& ~~~(rwcMask o)) ||| (p.get o &&& rwcMask o) else d.reg o := by
  induction l generalizing d with
  | nil => exact ⟨rfl, rfl, fun o => (if_neg List.not_mem_nil).symm⟩
  | cons a l ih =>
    obtain ⟨ha, hl'⟩ := List.nodup_cons.1 hl
    obtain ⟨hjobs, hnow, hreg⟩ := ih hl' (d.takeReg p a)
    have htake : ∀ o, (d.takeReg p a).reg o = if o = a then (d.reg a &&& ~~~(rwcMask a)) ||| (p.get a &&& rwcMask a) else d.reg o :=
      fun o => Device.reg_setReg _ _ _ _
    refine ⟨hjobs, hnow, fun o => (hreg o).trans ?_⟩
    by_cases ho : o = a
    · subst ho
      rw [if_neg ha, htake, if_pos rfl, if_pos List.mem_cons_self]
    · rw [htake, if_neg ho]
      exact if_congr ((List.mem_cons.trans (or_iff_right ho)).symm) rfl rfl

theorem Device.applySet_spec (d : Device) (p : Pending) : (d.applySet p).jobs = d.jobs ∧ (d.applySet p).now = d.now ∧
    ∀ o, (d.applySet p).reg o = if o ∈ d.changed p then (d.reg o &&& ~~~(rwcMask o)) ||| (p.get o &&& rwcMask o) else d.reg o :=
  Device.takeRegs_spec p ((List.nodup_dedup _).filter _) d

/-- A field whose bits a mask selects: of the word that takes them, and of a word that has them already. -/
theorem fld_masked (r g m : Word) {lo w : Nat} (hm : ∀ i < w, m.getLsbD (i + lo) = true) :
    fld ((r &&& ~~~m) ||| (g &&& m)) lo w = fld g lo w ∧ ((g ^^^ r) &&& m = 0 → fld r lo w = fld g lo w) := by
  have hbit : ∀ (v : Word) i, (fld v lo w).testBit i = (decide (i < w) && v.getLsbD (i + lo)) := fun v i => testBit_fld v lo w i
  refine ⟨Nat.eq_of_testBit_eq fun i => ?_, fun h => Nat.eq_of_testBit_eq fun i => ?_⟩
  · rw [hbit, hbit]
    by_cases hi : i < w
    · rw [BitVec.getLsbD_or, BitVec.getLsbD_and, BitVec.getLsbD_and, BitVec.getLsbD_not, hm i hi]
      simp
    · rw [decide_eq_false hi, Bool.false_and, Bool.false_and]
  · rw [hbit, hbit]
    by_cases hi : i < w
    · have hz : ((g ^^^ r) &&& m).getLsbD (i + lo) = false := by rw [h]; exact BitVec.getLsbD_zero
      rw [BitVec.getLsbD_and, BitVec.getLsbD_xor, hm i hi, Bool.and_true] at hz
      rw [bne_eq_false_iff_eq.1 hz]
    · rw [decide_eq_false hi, Bool.false_and, Bool.false_and]

theorem rwcMask_stageClk : rwcMask R.pow_STAGE_CLK = 0x3FF#32 := by decide
theorem rwcMask_pauses : rwcMask R.pow_PAUSES = 0 := by decide

/-- A set whose clock is applied: the clock that stands is the set's. -/
theorem Device.applySet_clock (d : Device) {p : Pending} (hpage : p.page = 0xC000) :
    fld ((d.applySet p).reg R.pow_STAGE_CLK) 0 10 = fld (p.get R.pow_STAGE_CLK) 0 10 := by
  obtain ⟨hnew, hsame⟩ := fld_masked (d.reg R.pow_STAGE_CLK) (p.get R.pow_STAGE_CLK) (rwcMask R.pow_STAGE_CLK) (lo := 0) (w := 10)
    (by rw [rwcMask_stageClk]; decide)
  rw [(d.applySet_spec p).2.2]
  split
  · exact hnew
  · next hmem =>
    by_cases hcand : R.pow_STAGE_CLK ∈ (p.snap.map (·.1)) ++ ((d.regs.filter fun e => inUnit p.page e.1).map (·.1))
    · refine hsame ?_
      by_contra hne
      exact hmem (List.mem_filter.2 ⟨List.mem_dedup.2 hcand, bne_iff_ne.2 hne⟩)
    · rw [List.mem_append, not_or] at hcand
      have hsnap : p.get R.pow_STAGE_CLK = resetOf R.pow_STAGE_CLK := Store.get_absent _ _ fun x hx he =>
        hcand.1 (List.mem_map.2 ⟨x, hx, he⟩)
      have hlive : d.reg R.pow_STAGE_CLK = resetOf R.pow_STAGE_CLK := Store.get_absent _ _ fun x hx he =>
        hcand.2 (List.mem_map.2 ⟨x, List.mem_filter.2 ⟨hx, by rw [he, hpage]; decide⟩, he⟩)
      rw [hsnap, hlive]

theorem Device.applySet_pauses (d : Device) (p : Pending) : (d.applySet p).reg R.pow_PAUSES = d.reg R.pow_PAUSES := by
  rw [(d.applySet_spec p).2.2]
  refine if_neg fun h => ?_
  have hdiff := (List.mem_filter.1 h).2
  rw [rwcMask_pauses, show (p.get R.pow_PAUSES ^^^ d.reg R.pow_PAUSES) &&& 0 = 0 from BitVec.and_zero] at hdiff
  exact absurd hdiff (by decide)

theorem Device.countStretch_jobs (d : Device) : d.countStretch.jobs = d.jobs ∧ d.countStretch.pipes = d.pipes := by
  unfold Device.countStretch
  split
  · exact ⟨rfl, rfl⟩
  · exact ⟨rfl, rfl⟩

/-- A commit that is done changes its status and its event. -/
theorem Device.commitDone_beside (d : Device) (page : Nat) : (d.commitDone page).pow = d.pow ∧ (d.commitDone page).jobs = d.jobs ∧
    ∀ o, o ≠ page + 0x1C → o ≠ page + 0x20 → o ≠ R.hif_MSIX_DROPPED → (d.commitDone page).reg o = d.reg o := by
  have hsp := Device.evtBit_speaks ((d.endPend page).setCommitSt page 2) page 0
  refine ⟨hsp.pow_eq, (congrArg Device.jobs hsp :), fun o h1C h20 hm => ?_⟩
  rw [Device.commitDone, Device.evtBit_reg _ _ _ _ hm, if_neg h20]
  exact (Device.reg_setReg _ _ _ _).trans (if_neg h1C)

/-- The array clock stops for the length of the hold. -/
def Device.holdStarted (d : Device) (len : Nat) : Device := d.setPow { d.pow with hold := some (d.now.tick + len) }

/-- What follows the debits of a hold: the set stands, the clock stops, and the commit is done. -/
def Device.holdApplied (d : Device) (p : Pending) (len : Nat) (deferred : Bool) : Device :=
  (if deferred then ((d.applySet p).powCommitted.holdStarted len).evtBit 0xC000 21 else (d.applySet p).powCommitted.holdStarted len).commitDone 0xC000

theorem Device.holdApplied_spec (d : Device) {p : Pending} (hpage : p.page = 0xC000) (len : Nat) (deferred : Bool) :
    (d.holdApplied p len deferred).pow.hold = some (d.now.tick + len) ∧ (d.holdApplied p len deferred).pendOf 0xC000 = none ∧
      fld ((d.holdApplied p len deferred).reg R.pow_STAGE_CLK) 0 10 = fld (p.get R.pow_STAGE_CLK) 0 10 ∧
      (d.holdApplied p len deferred).reg R.pow_PAUSES = d.reg R.pow_PAUSES ∧ (d.holdApplied p len deferred).jobs = d.jobs := by
  obtain ⟨hjobs1, hnow1, -⟩ := d.applySet_spec p
  have hclock := d.applySet_clock hpage
  have hpauses := d.applySet_pauses p
  obtain ⟨hjobs2, hnow2, hreg2⟩ := (d.applySet p).powCommitted_keepsHeld
  unfold Device.holdApplied
  generalize (d.applySet p).powCommitted = d2 at hjobs2 hnow2 hreg2 ⊢
  generalize hd3 : d2.holdStarted len = d3
  have hhold3 : d3.pow.hold = some (d.now.tick + len) := by
    rw [← hd3, ← hnow1, ← hnow2]
    rfl
  have hjobs3 : d3.jobs = d2.jobs := hd3 ▸ rfl
  have hreg3 : ∀ o, d3.reg o = d2.reg o := fun o => by rw [← hd3]; rfl
  obtain ⟨d4, hd4⟩ : ∃ d4, d4 = if deferred = true then d3.evtBit 0xC000 21 else d3 := ⟨_, rfl⟩
  have h4 : d4.pow = d3.pow ∧ d4.jobs = d3.jobs ∧ ∀ o, o ≠ 0xC000 + 0x20 → o ≠ R.hif_MSIX_DROPPED → d4.reg o = d3.reg o := by
    rw [hd4]
    split
    · have hsp := d3.evtBit_speaks 0xC000 21
      refine ⟨hsp.pow_eq, (congrArg Device.jobs hsp :), fun o h20 hm => ?_⟩
      rw [Device.evtBit_reg _ _ _ _ hm, if_neg h20]
    · exact ⟨rfl, rfl, fun _ _ _ => rfl⟩
  obtain ⟨hpow4, hjobs4, hreg4⟩ := h4
  obtain ⟨hpow5, hjobs5, hreg5⟩ := d4.commitDone_beside 0xC000
  have hpend := (d4.commitDone_status (page := 0xC000) (by decide)).2
  rw [← hd4]
  generalize d4.commitDone 0xC000 = e at hpow5 hjobs5 hreg5 hpend ⊢
  have hclk : e.reg R.pow_STAGE_CLK = (d.applySet p).reg R.pow_STAGE_CLK := by
    rw [hreg5 _ (by decide) (by decide) (by decide), hreg4 _ (by decide) (by decide), hreg3, hreg2 _ (by decide) (by decide)]
  have hcount : e.reg R.pow_PAUSES = (d.applySet p).reg R.pow_PAUSES := by
    rw [hreg5 _ (by decide) (by decide) (by decide), hreg4 _ (by decide) (by decide), hreg3, hreg2 _ (by decide) (by decide)]
  refine ⟨?_, hpend, (congrArg (fld · 0 10) hclk).trans hclock, hcount.trans hpauses, ?_⟩
  · rw [hpow5, hpow4]
    exact hhold3
  · rw [hjobs5, hjobs4, hjobs3, hjobs2, hjobs1]

theorem Device.arrayRuns_held {d : Device} {n : Nat} (h : d.pow.hold = some n) : d.arrayRuns = false := by
  unfold Device.arrayRuns
  rw [h]
  simp

theorem completes_commitHold {s : State} {k cyc : Nat} {p : Pending} (hpend : ((s.dev.at k).atCyc cyc).pendOf 0xC000 = some p)
    (hpage : p.page = 0xC000) (hvalid : p.valid = true) (hpausing : ((s.dev.at k).atCyc cyc).pausing p = true)
    (hruns : ((s.dev.at k).atCyc cyc).arrayRuns = true) (hjobs : ∀ j ∈ s.dev.jobs, 4 < j.debits.length ∧ j.pipe < 64) :
    let d0 := (s.dev.at k).atCyc cyc
    ((∀ q < 64, (s.dev.pipe q).pauseWin ≠ some d0.window ∧ (s.dev.pipe q).occ.getD 4 0 = 0) → Completes (.commitHold k cyc) s fun t =>
      t.dev.pow.hold = some (d0.now.tick + (40000 + d0.mhz - 1) / d0.mhz) ∧ t.dev.arrayRuns = false ∧ t.dev.pendOf 0xC000 = none ∧
      fld (t.dev.reg R.pow_STAGE_CLK) 0 10 = fld (p.get R.pow_STAGE_CLK) 0 10 ∧ t.dev.reg R.pow_PAUSES = satAdd (s.dev.reg R.pow_PAUSES) 1 ∧
      t.dev.jobs.map (fun j => j.debits.getD 4 0) =
        s.dev.jobs.map (fun j => j.debits.getD 4 0 + if j.isFrame && j.inFlight then 40 else 0) ∧ KeepsHarts s t) ∧
    (∀ q < 64, (s.dev.pipe q).pauseWin = some d0.window → Completes (.commitHold k cyc) s fun t => t.dev = d0 ∧ KeepsHarts s t) := by
  intro d0
  let w := d0.window
  let paused := fun w : Nat => (List.range 64).any fun q => (d0.pipe q).pauseWin == some w
  let first := p.vtick / 1000000
  let x := d0.countStretch.count R.pow_PAUSES 1
  let e := (List.range 64).foldl (Device.holdPipe d0.flightPipes w) x
  have hrun : commitHold k cyc s.dev = if !p.valid || !d0.pausing p || !d0.arrayRuns || paused w then d0 else
      e.holdApplied p ((40000 + d0.mhz - 1) / d0.mhz) (decide (first < w) && paused first) := by
    unfold commitHold
    dsimp only
    rw [hpend]
    rfl
  refine ⟨fun hfree => ?_, fun q hq hwin => ?_⟩
  · have hnone : paused w = false := List.any_eq_false.2 fun q hq => by
      rw [beq_iff_eq]
      exact (hfree q (List.mem_range.1 hq)).1
    rw [hvalid, hpausing, hruns, hnone] at hrun
    obtain ⟨hxjobs, hxpipes⟩ := d0.countStretch_jobs
    obtain ⟨-, -, hxnow, -, hxreg⟩ := d0.countStretch_spares
    have hheld : Device.Held 64 x e := Device.holdPipes_held x _ _ fun q hq => by
      rw [show x.pipe q = s.dev.pipe q from congrArg (Store.get pipe0 · q) hxpipes]
      exact (hfree q hq).2
    have hpauses : x.reg R.pow_PAUSES = satAdd (s.dev.reg R.pow_PAUSES) 1 := by
      refine (Device.reg_count _ _ _).trans ((if_pos rfl).trans ?_)
      rw [hxreg _ (by decide)]
      rfl
    have hdebits := hheld.debits (fun j hj => hjobs j (hxjobs ▸ hj))
    have hxj : x.jobs = s.dev.jobs := hxjobs
    have hnow : e.now = d0.now := hheld.now.trans hxnow
    have hepauses := (hheld.reg R.pow_PAUSES (by decide)).trans hpauses
    rw [hxj] at hdebits
    clear_value e
    obtain ⟨h1, h2, h3, h4, h5⟩ := e.holdApplied_spec hpage ((40000 + d0.mhz - 1) / d0.mhz) (decide (first < w) && paused first)
    rw [hnow] at h1
    have hrun' : commitHold k cyc s.dev = e.holdApplied p ((40000 + d0.mhz - 1) / d0.mhz) (decide (first < w) && paused first) := hrun
    generalize e.holdApplied p ((40000 + d0.mhz - 1) / d0.mhz) (decide (first < w) && paused first) = z at hrun' h1 h2 h3 h4 h5
    exact completes_dev (f := commitHold k cyc) rfl hrun' ⟨h1, Device.arrayRuns_held h1, h2, h3, h4.trans hepauses, h5 ▸ hdebits, rfl, rfl⟩
  · have hsome : paused w = true := List.any_eq_true.2 ⟨q, List.mem_range.2 hq, beq_iff_eq.2 hwin⟩
    rw [hsome, Bool.or_true, if_pos rfl] at hrun
    exact completes_dev (f := commitHold k cyc) rfl hrun ⟨rfl, rfl, rfl⟩

/-- Settles O45, one lemma for each row of chapter 17 it names; powers rounded down rest on log entries 86 and 88, the length of the hold and
DONE at its start on entry 146. -/
theorem voltageDomainsAndStageClock : Obligations.VoltageDomainsAndStageClock := by
  unfold Obligations.VoltageDomainsAndStageClock
  refine ⟨fun s q hw => ⟨fun hmin hmax hfloor hpend => completes_vcoreSetWrite hw hmin hmax hfloor hpend,
      fun hv => completes_vcoreSetWrite_range hw hv⟩,
    fun s r k wr havs hdue => completes_avsReadback r havs hdue, fun s n r k hdev hcore hnew => ?_,
    fun s n k hramp => completes_domainReady k hramp, fun s mean k hwin hnew hcore => completes_capWindow mean hwin hnew hcore,
    fun s k cyc p hpend hpage hvalid hpausing hruns hjobs => completes_commitHold hpend hpage hvalid hpausing hruns hjobs,
    fun s k e hhold => completes_holdEnd hhold⟩
  obtain ⟨hnone, hsome⟩ := completes_pmbusPoll hdev hcore hnew
  refine ⟨fun hr => hr ▸ hnone, fun x p e f hr hst hmode hp hexp hone hlo hhi => ?_⟩
  subst hr
  exact hsome x p hst hp (pmbPower_eq hmode hp hexp hone hlo hhi)

end Sys2Proof.Machine
end
